-- ==== Sys2Proof/Word.lean ====
section
/-! DEFINITION. The words the spec counts in (R6: 32-bit registers, little-endian), the sparse maps every store of
the device is held in, and the shapes of what a command carries from outside. -/

namespace Sys2Proof

/-- A register word (R6). -/
abbrev Word := BitVec 32
/-- An octet of a frame, of the NV array or of an image. -/
abbrev Octet := BitVec 8

/-- A store that is addressed by number: strictly rising keys, no entry that an unlisted key reads as. -/
abbrev SMap (α : Type) := List (Nat × α)

/-- The masters of the management fabric (R29). -/
inductive Master where
  | spi | pcie | i2c | coachA | coachB | dma | loader | jtag
  deriving DecidableEq, Repr, Inhabited

/-- An access in flight when a gate is forced (R78). -/
structure InFlight where
  m : Master
  write : Bool
  addr : Nat
  deriving DecidableEq, Repr, Inhabited

/-- An edge of a signal as an interpolator of a gauge takes it (R252, R253): its direction, the time-base rising edge that ends
the span measured, and the readings of that span and of spans of one and of two time-base cycles. -/
structure Edge where
  falling : Bool
  m : Nat
  r : Nat
  c1 : Nat
  c2 : Nat
  deriving DecidableEq, Repr, Inhabited

/-- The span v of an edge in gauge LSB: 1 + (r - c1) / (c2 - c1) cycles, rounded to 1/2048 of a cycle (R253). -/
def Edge.span (e : Edge) : Nat := 2048 + (4096 * (e.r - e.c1) + (e.c2 - e.c1)) / (2 * (e.c2 - e.c1))

/-- The time of an edge in gauge LSB: 2,048 to a time-base cycle. -/
def Edge.time (e : Edge) : Nat := 2048 * e.m - e.span

/-- How a transfer of an I2C master ends (R323). -/
inductive I2cResult where
  | done | nack | nackMux | timeout
  deriving DecidableEq, Repr, Inhabited

/-- What a receiver has found on its line since it last told (R322): codewords or FEC blocks corrected, not correctable, errored
blocks or code violations. -/
structure LineErrs where
  corrected : Nat
  uncorrected : Nat
  blocks : Nat
  deriving DecidableEq, Repr, Inhabited

/-- How a frame that is being received ends (R316, R318, R367). -/
inductive FrameEnd where
  /-- Its FCS is right and no error lies inside it. -/
  | good
  /-- Its FCS is wrong, or an error block, a code violation or an uncorrectable codeword lies inside it. -/
  | bad
  /-- A fragment stream that breaks its sequence or fails its mCRC. -/
  | assembly
  deriving DecidableEq, Repr, Inhabited

/-- How a port comes to be lost (R313): PCS lock fails, with the CDR still in lock or not and hi_ber asserted or not, or a
fault sequence is received. -/
inductive PortLoss where
  | lock (cdr hiBer : Bool)
  | localFault
  | remoteFault
  deriving DecidableEq, Repr, Inhabited

/-- Where the start of a received frame or marker lies (R267, R271): the recovered-clock cycles from the newest stamp of the
port's home gauge to the cycle in which its block passed the reference point, fewer than none where that stamp came later; the
line bits before it in the 10-bit alignment, the gearbox word or the codeword; and the deskew of its lane against lane 4q, in
units of 2^-16 ns. -/
structure RxMark where
  cycles : Int
  bits : Nat
  skew : Int
  deriving DecidableEq, Repr, Inhabited

/-- A PTP message as received: the fields of IEEE 1588 that chapter 12 reads. Times and corrections are in units of
2^-16 ns. -/
structure PtpMsg where
  seq : Nat
  /-- sourcePortIdentity: clockIdentity and port number as one 80-bit number. -/
  src : Nat
  /-- requestingPortIdentity of a response. -/
  req : Nat
  twoStep : Bool
  /-- The timestamp of the body. -/
  ts : Int
  corr : Int
  /-- It is the follow-up of its kind. -/
  followUp : Bool
  /-- Where it was received. -/
  rx : RxMark
  deriving DecidableEq, Repr, Inhabited

end Sys2Proof
end

