-- ==== Sys2Proof/Syntax.lean ====
section
/-! DEFINITION. The commands of the block: one constructor for each row of the table of commands. A command that is a
register write carries the master it comes from, the number of the unit and the word; a command that is an event
carries what the outside world supplies (a time, a count, the octets of a frame) and nothing the block itself knows. -/

namespace Sys2Proof

/-- The commands, in the order of the table. -/
inductive Instr where
  /-- REGISTER_WRITE (R11). A write to a register that has no behaviour of its own sets its fields, subject to privilege, range and reserved-bit rules. -/
  | registerWrite (m : Master) (addr : Nat) (v : Word)
  /-- RC_READ (R13). A read of an RC field returns its value and clears it for every master. -/
  | rcRead (m : Master) (addr : Nat)
  /-- MULTI_WORD_LOW_READ (R464). A read of the lowest word of a multi-word value returns that word and latches the other words into the reading master's shadow. -/
  | multiWordLowRead (m : Master) (addr : Nat)
  /-- RESET_N_ASSERT (R45). A low level on RESET_N that lasts long enough resets the device and cuts any NV commit in progress. -/
  | resetNAssert (widthNs : Nat)
  /-- RESET_N_RELEASE (R46). The release of RESET_N latches the straps, returns every register to its Reset value and starts the stage loader in WAIT_ROOT. -/
  | resetNRelease (straps : Nat)
  /-- XO_JUDGEMENT_DONE (R71). At the end of 1.0 ms of windows, the XO judgement passes or fails, and AX0 locks to the XO or to IOSC. -/
  | xoJudgementDone (active : Bool) (hz : Nat) (counts : List Nat)
  /-- ROOT_RUNS (R62). AX0 locks and the root runs, and the stage loader leaves WAIT_ROOT according to BOOT_SRC. -/
  | rootRuns
  /-- DISCOVER_DONE (R50). The SFDP read completes and the loader chooses the QSPI read command and enters FETCH. -/
  | discoverDone (sfdp : Bool) (fastRead : Bool)
  /-- BOOT_DATA_WRITE (R51). A write to GLB_BOOT_DATA from the loading interface places one image word in the host FIFO, or overruns the FIFO and rejects the image. -/
  | bootDataWrite (m : Master) (v : Word)
  /-- HEADER_RECEIVED (R55). The stage image header is received whole and checked. -/
  | headerReceived (bytes : List Octet)
  /-- IMAGE_FETCHED (R62). All expected image bytes are received and the loader enters VERIFY. -/
  | imageFetched (bytes : List Octet)
  /-- VERIFY_DONE (R59). The IMG_CRC and signature checks complete, and the loader enters APPLY or rejects the image. -/
  | verifyDone
  /-- SEGMENT_APPLY (R58). The loader applies one segment of the image, entry by entry, after checking each entry's ranges. -/
  | segmentApply
  /-- WAIT_SEGMENT_TIMEOUT (R521). The timeout of a WAIT entry passes before its condition holds, and the image is rejected with error 0x0F. -/
  | waitSegmentTimeout
  /-- APPLY_DONE (R62). The last segment is applied, GLB_BOOT_IMGVER and GLB_BOOT_TIME are set, the privilege map takes effect, and STAGING ends. -/
  | applyDone
  /-- RESTART (R63). A write of GLB_BOOT_CTRL.RESTART in FETCH or HALTED discards the bytes received and restarts the load. -/
  | restart (m : Master) (v : Word)
  /-- ENTER_WORKSHOP (R39). The enter-workshop command moves MODE from 1–4 to WORKSHOP, or is answered INVALID. -/
  | enterWorkshop (mb : Nat)
  /-- LEAD_LOOP_WRITE (R162). A write of DPL_LEAD names the lead loop, updates GLB_STATUS.LEAD, and MODE follows the new lead loop. -/
  | leadLoopWrite (m : Master) (v : Word)
  /-- XO_ACTIVITY_LOSS (R72). No XO_IN edge arrives for two nominal periods, so the XO is declared lost and failover starts. -/
  | xoActivityLoss
  /-- XO_FREQUENCY_LOSS (R72). Two consecutive 100 µs windows differ from the reference count by more than 600 ppm, so the XO is declared lost. -/
  | xoFrequencyLoss (count1 : Nat) (count2 : Nat)
  /-- FAILOVER_LOCK (R73). AX0 locks to IOSC with N = 25 within 20 µs of detection. -/
  | failoverLock
  /-- XO_RETURN_REQUEST (R75). A write of CGU_XO_CTRL.RETURN returns AX0 to the XO or is refused. -/
  | xoReturnRequest (m : Master) (v : Word)
  /-- XO_RETURN_LOCK (R75). AX0 locks to the XO after a return is taken, a new reference count is recorded, XO_INT clears and RETURN_DONE is set. -/
  | xoReturnLock (count : Nat)
  /-- GATE_REQUEST (R78). A write of CGU_GATE asks gates to close or open, and the fabric stops admitting new accesses to a closing block. -/
  | gateRequest (m : Master) (v : Word)
  /-- GATE_TAKES_EFFECT (R78). A requested gate closes at the block's next bus-idle boundary. -/
  | gateTakesEffect (bit : Nat)
  /-- FORCED_GATE (R78). No bus-idle boundary comes within 64 cycles, so the gate is forced and each in-flight access ends with an error response. -/
  | forcedGate (bit : Nat) (inFlight : List InFlight)
  /-- GATE_OPEN (R80). A gate opens within 4 management-clock cycles of the request and the block's registers become accessible. -/
  | gateOpen (bit : Nat)
  /-- DOMAIN_SOURCE_WRITE (R81). A write to CGU_DOM_SRC in WORKSHOP requests a domain source switch; outside WORKSHOP it is discarded. -/
  | domainSourceWrite (m : Master) (v : Word)
  /-- SWITCH_COMPLETE (R82). A domain switch completes on the new clock, costing 3 old and 5 new cycles, and the time counters are advanced. -/
  | switchComplete (dom : Nat)
  /-- SWITCH_FORCED (R83). The old clock gives no falling edge within 8 new-clock cycles, so the switch completes by force with an unknown loss. -/
  | switchForced (dom : Nat)
  /-- SWITCH_ABANDONED (R84). The new clock gives no rising edge within 64 old-clock cycles, so the domain restarts on the old clock. -/
  | switchAbandoned (dom : Nat)
  /-- SWITCH_RETRY (R84). 1 ms after an abandoned switch on VIGIL exit or a lane-reference move, the switch is requested again. -/
  | switchRetry (dom : Nat)
  /-- CLKOUT_WRITE (R89). A write of CGU_CLKOUT changes the source through a switch and the divider at the next output rising edge. -/
  | clkoutWrite (m : Master) (v : Word)
  /-- REF_ENABLE_WRITE (R99). A write of REFM_CFG.ENABLE enables or disables a reference, moving it to VOID or DISABLED. -/
  | refEnableWrite (m : Master) (n : Nat) (v : Word)
  /-- OVERRIDE_WRITE (R99). A write of REFM_CFG.OVERRIDE forces a reference to GOOD or FAILED, or releases it. -/
  | overrideWrite (m : Master) (n : Nat) (v : Word)
  /-- TAPPED_EDGE (R107). A tapped edge of a reference arrives, is checked for a phase jump and width, and feeds activity and the changeover measurement. -/
  | tappedEdge (n : Nat) (e : Edge) (width : Nat)
  /-- ACTIVITY_LOSS (R100). No tapped edge arrives for ACT_LIMIT / 4 × T_tap, or no undivided edge for 102.4 ns with FAST, so ACT is set and the reference goes to VOID. -/
  | activityLoss (n : Nat) (fast : Bool)
  /-- REF_TICK_100MS (R101). At each 100 ms tick REFM computes y_s, evaluates HARD, and the selectors run their whiffletree comparison. -/
  | refTick100ms (t : Nat)
  /-- REF_TICK_1S (R104). At each 1 s tick REFM computes y_l, SOFT and the drift projection, and clears PJ. -/
  | refTick1s (t : Nat)
  /-- QUALIFICATION_WAIT_END (R98). The QUAL or WTR wait of a reference has elapsed and it enters GOOD. -/
  | qualificationWaitEnd (n : Nat)
  /-- TOD_SENTENCE (R113). A ZDA, RMC or QZTL sentence is received whole on TOD_RX and accepted or rejected. -/
  | todSentence (bytes : List Octet) (t : Nat)
  /-- TOD_LINE_TRANSMIT (R117). 10 ms after each domain A second boundary, TOD_TX sends one QZTL line. -/
  | todLineTransmit
  /-- CHANGEOVER_COMPLETE (R131). After M tapped edges of the new reference, the selector writes B := B + D and makes the new reference active. -/
  | changeoverComplete (l : Nat)
  /-- FORCED_REF_NO_EDGE (R128). A forced reference gives no tapped edge for ACT_LIMIT / 4 × T_tap, so its changeover completes without measurement. -/
  | forcedRefNoEdge (l : Nat)
  /-- ALIGN_HI_WRITE (R137). A write of SEL_ALIGN_HI makes a new alignment offset O take effect. -/
  | alignHiWrite (m : Master) (l : Nat) (v : Word)
  /-- LOOP_UPDATE (R143). At the end of each update interval, the loop filters its phase error, evaluates lock, and writes y to its targets. -/
  | loopUpdate (l : Nat)
  /-- LOOP_STEP_COMPLETE (R153). Every steered axle reports its step complete, STEPPING clears and updates resume. -/
  | loopStepComplete (l : Nat)
  /-- SOURCE_LOST (R155). No sample has been taken for 3 × T_u, or the selector has no valid reference, so the loop enters HOLDOVER or FREERUN. -/
  | sourceLost (l : Nat)
  /-- LOOP_ENABLE_WRITE (R156). A write of DPL_CFG.ENABLE turns a loop on or off. -/
  | loopEnableWrite (m : Master) (l : Nat) (v : Word)
  /-- FORCE_WRITE (R156). A write of DPL_CTRL.FORCE forces the loop into HOLDOVER or FREERUN, or releases it. -/
  | forceWrite (m : Master) (l : Nat) (v : Word)
  /-- RAMP_START (R161). A write of DPL_RAMP_CTRL.START begins a phase or frequency ramp, or is refused. -/
  | rampStart (m : Master) (l : Nat) (v : Word)
  /-- RAMP_ABORT (R161). A write of ABORT stops a busy ramp where it stands. -/
  | rampAbort (m : Master) (l : Nat) (v : Word)
  /-- RAMP_DONE (R159). The ramp value reaches its target, is added to the accumulator, and RAMP_DONE is set. -/
  | rampDone (l : Nat)
  /-- OBSERVATION (R164). Every 60 s the sprag forms an observation from the learning loop and refits the model if it is valid. -/
  | observation
  /-- TEMP_SENSOR_READ (R167). Once per second the sprag reads the oscillator temperature sensor through an I2C master. -/
  | tempSensorRead
  /-- TEMP_READ_TIMEOUT (R167). A sensor read that has not completed within 100 ms counts as failed. -/
  | tempReadTimeout
  /-- CLEAR (R170). A write of HOLD_CTRL.CLEAR asks coachman B to clear the model and both records, or is refused. -/
  | clear (m : Master) (v : Word)
  /-- CLEAR_COMMIT_DONE (R169). The clearing commit completes, and the model and learning time are cleared and the stage becomes NONE. -/
  | clearCommitDone
  /-- HOLDOVER_TICK (R173). At each 1 s tick the sprag writes y_h to each loop in HOLDOVER and updates the error bound and confidence. -/
  | holdoverTick
  /-- SPRAG_EXPIRY (R176). The holdover time limit passes, the confidence falls to CONF_MIN, or the prediction is withdrawn, so the loop moves to FREERUN. -/
  | spragExpiry (l : Nat)
  /-- MODEL_COMMIT (R184). Every COMMIT minutes, or on COMMIT_NOW, coachman B commits the model into the older record. -/
  | modelCommit
  /-- HISTORY_COMMIT (R184). Every 16 h coachman B commits a history page. -/
  | historyCommit
  /-- AUTO_CALIBRATION (R180). Every 24 h of learning time in MATURE with CAL_AUTO set, the sprag writes a new calibration word. -/
  | autoCalibration
  /-- CALIBRATION_TAKES_EFFECT (R181). After its commit completes, a new calibration word takes effect and y_nom of every loop follows it. -/
  | calibrationTakesEffect
  /-- AXLE_ENABLE_WRITE (R197). A write of AXL_CFG.ENABLE starts an axle in PULLIN or SEARCH, or turns it off. -/
  | axleEnableWrite (m : Master) (n : Nat) (v : Word)
  /-- BAND_SEARCH_DONE (R198). A band search finds a band, writes the entry's codes and enters PULLIN, or finds none and goes OFF. -/
  | bandSearchDone (n : Nat) (found : Bool) (band : Nat) (fine : Nat)
  /-- INJECTION_LOCK_HELD (R197). Injection lock has held for SQ_HOLD, so the axle enters LOCKED and releases squelch. -/
  | injectionLockHeld (n : Nat)
  /-- PULLIN_TIMEOUT (R197). No injection lock 30 µs after entry to PULLIN, so the entry is invalidated and a search starts. -/
  | pullinTimeout (n : Nat)
  /-- DLL_LOCKED (R197). With DLL_HOLD set, the delay-locked loop locks and the axle enters DLL. -/
  | dllLocked (n : Nat)
  /-- DLL_HOLD_WRITE (R197). A write of DLL_HOLD in WORKSHOP holds the axle in delay-locked mode or releases it to PULLIN. -/
  | dllHoldWrite (m : Master) (n : Nat) (v : Word)
  /-- LOSS_OF_LOCK (R200). An axle in LOCKED loses lock, asserts squelch and returns to PULLIN in delay-locked mode. -/
  | lossOfLock (n : Nat)
  /-- HOP (R197). A write of AXL_CFG.ENTRY changes the active band-table entry. -/
  | hop (m : Master) (n : Nat) (v : Word)
  /-- SEARCH (R197). A write of AXL_CTRL.SEARCH forces a band search of the active entry. -/
  | search (m : Master) (n : Nat) (v : Word)
  /-- FWORD_HI_WRITE (R192). A host write of AXL_FWORD_HI sets the frequency word of an axle no loop steers. -/
  | fwordHiWrite (m : Master) (n : Nat) (v : Word)
  /-- STEP_HI_WRITE (R194). A host write of AXL_STEP_HI posts a step request into STEP_LEFT. -/
  | stepHiWrite (m : Master) (n : Nat) (v : Word)
  /-- STEP_DONE (R195). STEP_LEFT reaches 0 by slew, STEP_DONE is set and completion is reported to the loop. -/
  | stepDone (n : Nat)
  /-- STEP_ABORT (R204). A write of STEP_ABORT discards the remaining step count. -/
  | stepAbort (m : Master) (n : Nat) (v : Word)
  /-- BAND_HI_WRITE (R208). A write of AXL_BAND_HI sets R of an entry and clears its VALID. -/
  | bandHiWrite (m : Master) (n : Nat) (k : Nat) (v : Word)
  /-- AX0_LOSS_OF_LOCK (R206). AX0 loses lock, returns to delay-locked mode on the same source and logs a SEVERE fault. -/
  | ax0LossOfLock
  /-- FINE_COPY (R197). Every 1 ms in LOCKED, the tracking loop copies FINE into the active entry. -/
  | fineCopy (n : Nat) (fine : Nat)
  /-- OUTPUT_ENABLE_WRITE (R210). A write of OUT_CFG.ENABLE enables an output or is not taken with CFG_ERR. -/
  | outputEnableWrite (m : Master) (n : Nat) (v : Word)
  /-- OUTPUT_START (R219). At least 64 ns after its start conditions are met, the output begins at its first aligned edge. -/
  | outputStart (n : Nat)
  /-- PHASE_HI_WRITE (R218). A write of OUT_PHASE_HI makes a new pulse PHASE take effect at the next boundary. -/
  | phaseHiWrite (m : Master) (n : Nat) (v : Word)
  /-- OUTPUT_DIV_CHANGE (R214). A new DIV or COARSE takes effect at the next rising edge of the output. -/
  | outputDivChange (n : Nat)
  /-- INC_HI_WRITE (R229). A host write of TIM_INC_HI sets the increment of a domain whose loop is OFF. -/
  | incHiWrite (m : Master) (d : Nat) (v : Word)
  /-- SET (R231). A write of TIM_CTRL.SET loads C from TIM_SET and clears E while the loop is OFF. -/
  | set (m : Master) (d : Nat) (v : Word)
  /-- STEP (R232). A write of TIM_CTRL.STEP adds STEP_SEC to E and STEP_NS to C. -/
  | step (m : Master) (d : Nat) (v : Word)
  /-- SET_SEC (R233). A write of TIM_CTRL.SET_SEC arms a seconds setting for the next second boundary. -/
  | setSec (m : Master) (d : Nat) (v : Word)
  /-- SECOND_BOUNDARY (R233). At a domain second boundary, an armed SET_SEC or a pending TOD correction changes E. -/
  | secondBoundary (d : Nat)
  /-- SNAPSHOT (R240). A write of TIM_SNAP_CTRL.TAKE, or a domain A second with TRIG, latches domains A, B and served time. -/
  | snapshot (m : Master) (v : Word)
  /-- SERVED_REVERT (R246). The primary's loop has been LOCKED for REVERT_WAIT s, so served time returns to the primary. -/
  | servedRevert
  /-- TARGET_HI_WRITE (R241). A write of a served-time target HI word sets the target towards which acc slews. -/
  | targetHiWrite (m : Master) (d : Nat) (v : Word)
  /-- GAUGE_ENABLE_WRITE (R250). A write of GAU_CFG.ENABLE enables a channel or is not taken. -/
  | gaugeEnableWrite (m : Master) (n : Nat) (v : Word)
  /-- START_EDGE (R254). A start edge reaches a gauge channel and is taken for conversion or counted as missed, ignored or skipped. -/
  | startEdge (n : Nat) (src : Nat) (e : Edge)
  /-- STOP_EDGE (R257). A stop edge reaches a channel in interval mode and is taken, possibly pairing with an open tollgate. -/
  | stopEdge (n : Nat) (src : Nat) (e : Edge)
  /-- CONVERSION_COMPLETE (R256). 1.2 µs after the edge, a conversion completes and its stamp or interval result is written. -/
  | conversionComplete (n : Nat)
  /-- TOLLGATE_CLOSE (R257). A tollgate closes at s + W with no later stop edge, pairing an earlier stop or timing out. -/
  | tollgateClose (n : Nat)
  /-- STAT_START (R260). A write of GAU_STAT_CTRL.START begins a statistics run, or is not taken. -/
  | statStart (m : Master) (n : Nat) (v : Word)
  /-- STAT_ABORT (R260). A write of GAU_STAT_CTRL.ABORT ends a busy run with its results held. -/
  | statAbort (m : Master) (n : Nat) (v : Word)
  /-- LANE_CALIBRATION_PATH (R269). The calibration gauge completes 256 conversions of one path and updates that lane's latency. -/
  | laneCalibrationPath (p : Nat) (tx : Bool) (samples : List Nat)
  /-- CAL_OK_SET (R269). 16 calibration cycles after calibration of a port starts, CAL_OK is set. -/
  | calOkSet (p : Nat)
  /-- SESSION_ENABLE_WRITE (R280). A write of SESS_CFG.ENABLE turns a session on into RUN or LISTEN, or off. -/
  | sessionEnableWrite (m : Master) (k : Nat) (v : Word)
  /-- REBIND (R280). A write of PORT or ROLE while enabled rebinds a session and discards its mpd and pending messages. -/
  | rebind (m : Master) (k : Nat) (v : Word)
  /-- SYNC_TRANSMIT (R278). A MASTER session sends Sync, and Follow_Up when two-step, at 2^LOG_SYNC s. -/
  | syncTransmit (k : Nat)
  /-- DELAY_REQ_TRANSMIT (R278). A SLAVE session sends Delay_Req, or any role sends Pdelay_Req, at 2^LOG_DELAY s. -/
  | delayReqTransmit (k : Nat)
  /-- SYNC_RECEIVE (R279). A SLAVE session receives Sync or its Follow_Up and produces an offset. -/
  | syncReceive (k : Nat) (msg : PtpMsg)
  /-- DELAY_REQ_RECEIVE (R278). A MASTER session answers a received Delay_Req with a Delay_Resp. -/
  | delayReqReceive (k : Nat) (msg : PtpMsg)
  /-- DELAY_RESP_RECEIVE (R279). A SLAVE session matches a received Delay_Resp and updates mpd. -/
  | delayRespReceive (k : Nat) (msg : PtpMsg)
  /-- PDELAY_REQ_RECEIVE (R278). A session answers a received Pdelay_Req with Pdelay_Resp and Pdelay_Resp_Follow_Up. -/
  | pdelayReqReceive (k : Nat) (msg : PtpMsg)
  /-- PDELAY_RESP_RECEIVE (R279). A received Pdelay_Resp and its follow-up complete a peer-delay exchange. -/
  | pdelayRespReceive (k : Nat) (msg : PtpMsg)
  /-- DELAY_RESP_TIMEOUT (R279). A Delay_Resp has not arrived within 2 × 2^LOG_DELAY s, so the exchange ends and DISCARDS increments. -/
  | delayRespTimeout (k : Nat)
  /-- SYNC_TIMEOUT (R280). No Sync or no completed exchange for SYNC_TIMEOUT intervals, so the session enters TIMEOUT. -/
  | syncTimeout (k : Nat)
  /-- TXTS_POP (R275). A read of TSE_TXTS_0 pops the head of the transmit stamp queue into the master's shadow. -/
  | txtsPop (m : Master)
  /-- ESMC_PDU_RECEIVE (R284). An ESMC PDU on an enabled port maps its QL to a rank written to SEL_QL of all four selectors. -/
  | esmcPduReceive (p : Nat) (ssm : Nat) (essm : Option Nat)
  /-- ESMC_TIMEOUT (R284). No ESMC PDU for 5 s, so the QL fails with rank 0. -/
  | esmcTimeout (p : Nat)
  /-- ESMC_INFO_TRANSMIT (R285). Once per second coachman A sends an ESMC information PDU on each enabled port. -/
  | esmcInfoTransmit
  /-- ESMC_EVENT_TRANSMIT (R285). Within 100 ms of a change in the QL sent, coachman A sends an event PDU. -/
  | esmcEventTransmit
  /-- CPL_PORT_ENABLE_WRITE (R291). A write of CPL_PORT_CFG.ENABLE puts a port into PROBE, or is not taken, or returns it to OFF. -/
  | cplPortEnableWrite (m : Master) (p : Nat) (v : Word)
  /-- HELLO_RECEIVE (R290). A coupling-control frame is consumed, and a valid HELLO sets SEEN or moves the port between PROBE and AGREE. -/
  | helloReceive (p : Nat) (bytes : List Octet)
  /-- HELLO_TRANSMIT (R290). In PROBE and AGREE the port sends a HELLO once per second. -/
  | helloTransmit (p : Nat)
  /-- MARKER_DUE (R294). At each interval boundary of the node domain, the marker of the next message is placed in an eligible idle block. -/
  | markerDue (p : Nat)
  /-- MARKER_NOT_SENT (R294). No marker has been placed by half an interval after it was due, so the message is not sent. -/
  | markerNotSent (p : Nat)
  /-- COUPLING_MESSAGE_RECEIVE (R297). A valid coupling message is received and the link offset is computed. -/
  | couplingMessageReceive (p : Nat) (blocks : List Nat) (m : RxMark)
  /-- MISS_LIMIT (R291). MISS_LIMIT intervals pass without a valid message, so the port returns to PROBE. -/
  | missLimit (p : Nat)
  /-- TRANSFER (R299). A write of CPL_FEED_CFG.PORT while fed moves the loop's feed to another port with a build-out. -/
  | transfer (m : Master) (l : Nat) (v : Word)
  /-- CPL_NODE_WRITE (R300). A write of CPL_NODE sets ID and DOM while no port is enabled, and GM and REQ_TRACE at any time. -/
  | cplNodeWrite (m : Master) (v : Word)
  /-- PORT_CFG_WRITE (R310). A write of PRT_CFG enables a port, changes its rate, FEC, negotiation or loopback, or is not taken. -/
  | portCfgWrite (m : Master) (p : Nat) (v : Word)
  /-- PCS_LOCK_GAINED (R313). A port becomes clear, entering NEGOTIATE or UP, or ending a lock glitch. -/
  | pcsLockGained (p : Nat) (lf : Bool) (rf : Bool)
  /-- PCS_LOCK_LOST (R314). An UP port is lost, stops starting frames and begins the DOWN_HOLD count. -/
  | pcsLockLost (p : Nat) (why : PortLoss)
  /-- DOWN_HOLD_EXPIRY (R313). The port has been lost for DOWN_HOLD without a break, so it goes DOWN and the port-down event starts the siding. -/
  | downHoldExpiry (p : Nat)
  /-- AN_COMPLETE (R315). The Clause 37 exchange completes with full duplex, pause is resolved and the port comes UP. -/
  | anComplete (p : Nat) (lp : Word)
  /-- AN_RESTART (R313). A write of PRT_CTRL.AN_RESTART, or a partner restart, returns the port to NEGOTIATE. -/
  | anRestart (m : Option Master) (p : Nat) (v : Word)
  /-- AN_FALLBACK (R315). Idles arrive for 200 ms without a configuration ordered set, so the link comes up without negotiation. -/
  | anFallback (p : Nat)
  /-- AN_RETRY (R315). With a partner not advertising full duplex, the exchange restarts every 1 s. -/
  | anRetry (p : Nat)
  /-- FRAME_RECEIVE (R326). A frame's head arrives on a port and passes the forwarding pipeline to admission. -/
  | frameReceive (p : Nat) (head : List Octet) (m : RxMark)
  /-- FRAME_TAIL_ARRIVAL (R343). A frame's last octet arrives, its charge is corrected, and a bad frame is stomped or discarded. -/
  | frameTailArrival (p : Nat) (bytes : List Octet) (kind : FrameEnd) (frags : Nat) (errs : LineErrs)
  /-- PAUSE_RECEIVE (R317). A received PAUSE or PFC frame holds the coach classes it names for its quanta. -/
  | pauseReceive (p : Nat) (bytes : List Octet)
  /-- PAUSE_QUANTA_EXPIRY (R317). The quanta of a received pause end and the held classes are released. -/
  | pauseQuantaExpiry (p : Nat) (c : Nat)
  /-- VERIFY_TIMER (R318). Every VERIFY_TIME ms the port sends a verify mPacket, up to three times, ending SUCCEEDED or FAILED. -/
  | verifyTimer (p : Nat) (answered : Bool)
  /-- CLEAR_PORT_COUNTERS (R322). A write of PRT_CTRL.CLEAR clears the port's counters. -/
  | clearPortCounters (m : Master) (p : Nat) (v : Word)
  /-- I2C_TRANSFER_START (R323). A write of PRT_I2C_XFER.START makes a master perform a host transfer when the bus is free. -/
  | i2cTransferStart (m : Master) (bus : Nat) (v : Word)
  /-- I2C_TRANSFER_DONE (R323). An I2C master transfer ends with DONE, NACK, NACK_MUX or TIMEOUT, and the next queued transfer is taken. -/
  | i2cTransferDone (bus : Nat) (result : I2cResult) (bytes : List Octet)
  /-- MODULE_POLL (R325). Every PERIOD × 10 ms the master reads one byte of a port's module and reports changes. -/
  | modulePoll (p : Nat)
  /-- TABLE_READ (R337). FWD_TBL_CMD with OP READ copies an entry into the data registers. -/
  | tableRead (m : Master) (v : Word)
  /-- TABLE_WRITE_OP (R337). FWD_TBL_CMD with OP WRITE replaces a VLAN or rule entry from the data registers. -/
  | tableWriteOp (m : Master) (v : Word)
  /-- TABLE_INSERT (R337). FWD_TBL_CMD with OP INSERT places a MAC entry by key, or ends FULL. -/
  | tableInsert (m : Master) (v : Word)
  /-- TABLE_DELETE (R337). FWD_TBL_CMD with OP DELETE clears a table entry, or ends NOT_FOUND. -/
  | tableDelete (m : Master) (v : Word)
  /-- TABLE_LOOKUP (R337). FWD_TBL_CMD with OP LOOKUP returns the MAC entry with the given key and its index. -/
  | tableLookup (m : Master) (v : Word)
  /-- TABLE_FLUSH (R337). FWD_TBL_CMD with OP FLUSH removes the dynamic MAC entries of one port or all. -/
  | tableFlush (m : Master) (v : Word)
  /-- AGEING_SWEEP (R335). Every AGE_TIME / 2 the device sweeps the MAC table, removing entries of age 0. -/
  | ageingSweep
  /-- PAUSE_RESEND (R351). While XOFF_STATE is set, the port sends its pause frame again each half quanta time. -/
  | pauseResend (p : Nat)
  /-- PAUSE_WATCHDOG (R352). A hold on a class has lasted PAUSE_WD ms, so it is released and WD_ACTIVE is set. -/
  | pauseWatchdog (o : Nat) (c : Nat)
  /-- PAUSE_WATCHDOG_END (R352). A further PAUSE_WD ms after a watchdog release, WD_ACTIVE clears for that class. -/
  | pauseWatchdogEnd (o : Nat) (c : Nat)
  /-- GRACE_EXPIRY (R353). The siding grace timer of an output reaches GRACE and the flush starts. -/
  | graceExpiry (o : Nat)
  /-- FLUSH_COMPLETE (R355). A flush discards the last queued copy of an output and the siding moves to NORMAL or DETACHED. -/
  | flushComplete (o : Nat)
  /-- BUF_CLEAR_COUNTS (R357). A write of BUF_CTRL.CLEAR_COUNTS or CLEAR_PEAK clears the BUF counters or peaks. -/
  | bufClearCounts (m : Master) (v : Word)
  /-- TURNTABLE_ITERATION (R361). Every 3.2 ns the turntable matches hungry outputs to depots and places head copies in slots. -/
  | turntableIteration
  /-- PROMOTION (R364). A queue head's age reaches AGE_THR and the head is promoted. -/
  | promotion (d : Nat) (o : Nat) (c : Nat)
  /-- SLOT_START (R359). The copy in an output's slot starts when the transmitter is free and no hold is asserted. -/
  | slotStart (o : Nat)
  /-- MAIL_FETCH (R372). 400 ns before its target, the timetable begins to fetch a mail copy. -/
  | mailFetch (o : Nat)
  /-- HOLD_ASSERT (R373). A time h before a mail departure, the timetable asserts the MAC's hold on coach transmission. -/
  | holdAssert (o : Nat)
  /-- MAIL_DEPARTURE (R370). A mail copy leaves at the first start position at or after its target, or is late. -/
  | mailDeparture (o : Nat) (shifted : Bool)
  /-- RESEQUENCER_GAP_TIMEOUT (R376). A waiting mail copy reaches target plus GAP, so the missing numbers are given up and it may leave. -/
  | resequencerGapTimeout (o : Nat)
  /-- STREAM_IDLE (R376). A mail stream has had no copy queued for 1 s, so its next number is set afresh. -/
  | streamIdle (i : Nat) (o : Nat) (c : Nat)
  /-- GCL_CHANGE (R379). A write of SCH_GCL_CTRL.CHANGE schedules the admin gate list for the change time. -/
  | gclChange (m : Master) (o : Nat) (v : Word)
  /-- GCL_SWAP (R379). At the change time the admin bank becomes the oper list and GCL_SWAP is set. -/
  | gclSwap (o : Nat)
  /-- SCH_CLEAR_COUNTS (R383). A write of SCH_CTRL.CLEAR_COUNTS clears the SCH counters. -/
  | schClearCounts (m : Master) (v : Word)
  /-- MIRROR_ENABLE_WRITE (R389). A write of MIR_CFG.EN enters RING or SAMPLING, or turns the mirror OFF. -/
  | mirrorEnableWrite (m : Master) (v : Word)
  /-- MIRROR_RECORD_WRITE (R387). The DMA engine writes the head record of the FIFO to the ring and advances WR. -/
  | mirrorRecordWrite
  /-- RING_RD_WRITE (R389). A write of MIR_RING_RD frees slots and may return the mirror from SAMPLING to RING. -/
  | ringRdWrite (m : Master) (v : Word)
  /-- MIRROR_HOLD_TIMER (R388). A record has stayed unread for HOLD µs and an interrupt is raised. -/
  | mirrorHoldTimer
  /-- MIRROR_DMA_ERROR (R389). A DMA write ends with an error, so the mirror goes OFF and logs a SEVERE fault. -/
  | mirrorDmaError
  /-- MIR_CLEAR_COUNTS (R389). A write of MIR_CTRL.CLEAR_COUNTS clears the mirror counters. -/
  | mirClearCounts (m : Master) (v : Word)
  /-- NV_READ_OP (R397). NVS_CMD with OP READ returns bytes from the buffer or array with SEC-DED checking. -/
  | nvReadOp (m : Master) (v : Word)
  /-- NV_WRITE_OP (R398). NVS_CMD with OP WRITE loads pages into the write buffer and copies bytes, optionally followed by a commit. -/
  | nvWriteOp (m : Master) (v : Word)
  /-- NV_COMMIT_OP (R400). NVS_CMD with OP COMMIT programs every dirty page under the token bucket. -/
  | nvCommitOp (m : Master) (v : Word)
  /-- NV_DISCARD_OP (R396). NVS_CMD with OP DISCARD drops every dirty page from the buffer. -/
  | nvDiscardOp (m : Master) (v : Word)
  /-- NV_HOT_SAVE_OP (R406). NVS_CMD with OP HOT_SAVE saves the hot image under the token bucket. -/
  | nvHotSaveOp (m : Master) (v : Word)
  /-- COMMIT_DONE (R400). The last page of a commit is programmed and COMMIT_DONE is set. -/
  | commitDone
  /-- HOT_SAVE_DONE (R405). A hot save finishes programming its 8 pages into the other half. -/
  | hotSaveDone
  /-- SUPPLY_LOSS (R402). Supplies fall out of range, cutting any commit in progress and losing the buffer. -/
  | supplyLoss (torn : Nat)
  /-- PFW_N_FALL (R408). PFW_N is taken, new NV operations end with PFW and a hot save with CAUSE 0 is made. -/
  | pfwNFall (widthNs : Nat)
  /-- PFW_N_CLEAR (R409). PFW_N has been high for 1 ms without power loss, so PFW_ACTIVE clears. -/
  | pfwNClear
  /-- PROTECT_WRITE (R412). A write of NVS_PROTECT sets LEVEL, or LOCK fixes it until RESET_N. -/
  | protectWrite (m : Master) (v : Word)
  /-- SEND_W0_WRITE (R420). A write of SEND_W0 posts the message in the send window into the outbound queue. -/
  | sendW0Write (m : Master) (n : Nat) (e : Nat) (v : Word)
  /-- RELEASE (R424). A write of CTRL.RELEASE removes the message shown from the receive window. -/
  | release (m : Master) (n : Nat) (e : Nat) (v : Word)
  /-- END_RESET (R425). A write of CTRL.END_RESET resets one mailbox end, discarding its incoming queue. -/
  | endReset (m : Master) (n : Nat) (e : Nat) (v : Word)
  /-- PCIE_FUNCTION_RESET (R461). A PCIe function-level or hot reset resets the H end of MBX1, disables the packet rings and clears HIF_MSIX_EN. -/
  | pcieFunctionReset
  /-- CORE_WATCHDOG_EXPIRY (R483). A management core's 50 ms watchdog expires and the core restarts. -/
  | coreWatchdogExpiry (core : Nat)
  /-- CORE_READY (R427). A core's firmware sets its ends ready and PEER_READY reads 1. -/
  | coreReady (core : Nat)
  /-- COMMAND_TAKE (R433). Coachman A takes the oldest command of a mailbox in rotation, releases it and checks it. -/
  | commandTake
  /-- RESPONSE_POST (R434). Coachman A posts a response or event once its C end has room. -/
  | responsePost (mb : Nat)
  /-- SYS_INFO (R430). Command 0x0101 returns part, ROM version, status, image version and unique number. -/
  | sysInfo (mb : Nat)
  /-- RESET (R438). Command 0x0102 answers OK and then performs an internal reset with CAUSE 1. -/
  | reset (mb : Nat)
  /-- DEFERRED_ACTION (R438). When the host releases the response, or 10 ms after it, a RESET or VIGIL/DORMANT request begins. -/
  | deferredAction
  /-- SET_EVENTS (R439). Command 0x0103 sets the event mask of the delivering mailbox. -/
  | setEvents (mb : Nat)
  /-- CALL_EXTENSION (R440). Command 0x0105 calls code loaded into the extension area and returns its words. -/
  | callExtension (mb : Nat) (ret : List Word)
  /-- EXTENSION_TIMEOUT (R442). An extension has not returned within 10 ms, so coachman A restarts. -/
  | extensionTimeout (mb : Nat)
  /-- FUSE_PROGRAM (R443). Command 0x0106 programs a key hash, revoke bit or SECURE in WORKSHOP. -/
  | fuseProgram (mb : Nat) (reads : Bool)
  /-- REF_STATUS (R432). Command 0x0201 returns the status registers of a reference. -/
  | refStatus (mb : Nat)
  /-- SEL_STATUS (R432). Command 0x0202 returns the selection status, candidates and suspects of a loop. -/
  | selStatus (mb : Nat)
  /-- SEL_MANUAL (R432). Command 0x0203 writes MODE and MANUAL_REF of a selector in one write. -/
  | selManual (mb : Nat)
  /-- LOOP_STATUS (R432). Command 0x0301 returns a loop's status, frequency and phase error. -/
  | loopStatus (mb : Nat)
  /-- LOOP_SAMPLE (R444). Command 0x0302 delivers one external sample to a loop with SRC 4. -/
  | loopSample (mb : Nat)
  /-- SET_CAL (R445). Command 0x0303 writes and commits a new calibration word. -/
  | setCal (mb : Nat)
  /-- CLEAR_MODEL (R446). Command 0x0304 clears the holdover model and its records. -/
  | clearModel (mb : Nat)
  /-- HOLD_STATUS (R432). Command 0x0305 returns the sprag's status, learning, prediction and calibration word. -/
  | holdStatus (mb : Nat)
  /-- OUT_STATUS (R432). Command 0x0401 returns an output's status and events. -/
  | outStatus (mb : Nat)
  /-- OUT_ENABLE (R447). Command 0x0402 writes ENABLE of the named outputs in ascending order. -/
  | outEnable (mb : Nat)
  /-- TIME_READ (R435). Command 0x0501 takes a snapshot and returns domains A, B and served time. -/
  | timeRead (mb : Nat)
  /-- TIME_SET_SEC (R432). Command 0x0502 writes TIM_SET_SEC and arms SET_SEC for a domain. -/
  | timeSetSec (mb : Nat)
  /-- GAUGE_RUN (R448). Command 0x0601 runs gauge statistics and responds at completion or timeout. -/
  | gaugeRun (mb : Nat)
  /-- SESS_L2 (R449). Command 0x0701 sets a session's Ethernet destination and peer identity. -/
  | sessL2 (mb : Nat)
  /-- SESS_IP (R449). Command 0x0702 sets a session's IP addresses, DSCP and TTL. -/
  | sessIp (mb : Nat)
  /-- PTP_PROFILE (R450). Command 0x0703 creates, changes or removes the PTP unit of a domainNumber. -/
  | ptpProfile (mb : Nat)
  /-- PTP_PORT_DS (R432). Command 0x0704 returns a session's port state, parent and grandmaster quality. -/
  | ptpPortDs (mb : Nat)
  /-- CPL_STATUS (R432). Command 0x0705 returns a coupling port's status, offset, link delay and far identity. -/
  | cplStatus (mb : Nat)
  /-- PORT_STATUS (R432). Command 0x0801 returns a port's PRT, TSE and BUF status. -/
  | portStatus (mb : Nat)
  /-- MODULE_READ (R451). Command 0x0802 reads bytes of a port's optical module through its I2C master. -/
  | moduleRead (mb : Nat)
  /-- MAC_FLUSH (R432). Command 0x0901 flushes the dynamic MAC entries of a port or all ports. -/
  | macFlush (mb : Nat)
  /-- MAC_LOOKUP (R432). Command 0x0902 returns the MAC entry with the given address and VID. -/
  | macLookup (mb : Nat)
  /-- TABLE_WRITE (R452). Command 0x0903 writes or deletes one entry of a table in its TABLE_LOAD format. -/
  | tableWrite (mb : Nat)
  /-- NV_READ (R453). Command 0x0A01 reads bytes of the NV store. -/
  | nvRead (mb : Nat)
  /-- NV_WRITE (R453). Command 0x0A02 writes bytes into the NV user area, optionally with a commit. -/
  | nvWrite (mb : Nat)
  /-- NV_COMMIT (R436). Command 0x0A03 commits the NV write buffer. -/
  | nvCommit (mb : Nat)
  /-- HOT_USER_WRITE (R454). Command 0x0A04 writes the user hot area of the hot image in RAM. -/
  | hotUserWrite (mb : Nat)
  /-- HOT_SAVE (R436). Command 0x0A05 saves the hot image. -/
  | hotSave (mb : Nat)
  /-- FAULT_LOG_READ (R482). Command 0x0B01 returns the n-th newest entry of the NV event log. -/
  | faultLogRead (mb : Nat)
  /-- POWER_STATE (R490). Command 0x0B02 requests a power state with a wake mask. -/
  | powerState (mb : Nat)
  /-- THERMAL_STATUS (R432). Command 0x0B03 returns Tj and the governor step. -/
  | thermalStatus (mb : Nat)
  /-- SPI_WRITE_WORD (R458). The last bit of a write word in an SPI frame arrives and the word is performed. -/
  | spiWriteWord (dev addr : Nat) (v : Word)
  /-- SPI_READ_WORD (R459). An SPI frame starts the read of a word, which is sent, or sent late as all-ones. -/
  | spiReadWord (dev addr : Nat) (late : Bool)
  /-- SPI_FRAME_END (R458). SPI_CS_N rises, and a word cut short is not performed and sets SPI_PARTIAL. -/
  | spiFrameEnd (dev : Nat) (partialWord : Bool)
  /-- I2C_WRITE_WORD (R460). The acknowledge of the fourth byte of an I2C write word performs the word. -/
  | i2cWriteWord (dev addr : Nat) (v : Word)
  /-- I2C_READ_WORD (R460). An I2C read transaction reads a word, stretching SCL for at most 50 µs. -/
  | i2cReadWord (dev : Nat) (addr : Option Nat) (late : Bool)
  /-- I2C_TRANSACTION_END (R460). An I2C transaction ends, and a word cut short is not performed and sets I2C_PARTIAL. -/
  | i2cTransactionEnd (dev : Nat) (partialWord : Bool)
  /-- PCIE_REQUEST (R461). A PCIe memory request to BAR0 is performed DWORD by DWORD in ascending order. -/
  | pcieRequest (write : Bool) (addr : Nat) (words : List Word) (enables : List Bool)
  /-- JTAG_UPDATE_DR (R462). Update-DR of instruction MGMT starts a register access, or is discarded with JTAG_ERR. -/
  | jtagUpdateDr (dr : Nat)
  /-- JTAG_CAPTURE_DR (R462). Capture-DR loads the data of the last read and the error flag of the last access. -/
  | jtagCaptureDr
  /-- PACKET_RX (R467). A frame for P48 is written into the buffer of receive descriptor HEAD and HEAD advances. -/
  | packetRx
  /-- PACKET_TX (R468). The device reads transmit descriptor HEAD and its frame and enters the frame at D0 as port 48. -/
  | packetTx (desc : List Word) (bytes : List Octet)
  /-- RING_DMA_ERROR (R469). A PCIe error on a packet ring access disables that ring and logs a SEVERE fault. -/
  | ringDmaError (r : Nat)
  /-- RING_LEN_WRITE (R469). A write of a packet ring's LEN starts it, or with 0 stops it and resets HEAD and TAIL. -/
  | ringLenWrite (m : Master) (r : Nat) (v : Word)
  /-- MSIX_SEND (R472). A cause becomes pending, or its enable is set, and its MSI-X vector is sent. `masked` says
  that the function or vector mask of PCIe holds it (log entry 73). -/
  | msixSend (cause : Nat) (masked : Bool)
  /-- PCIE_LINK_UP (R472). The PCIe link comes up and each still-pending enabled cause sends its held MSI-X message, but those of the
  causes in `masks` (log entry 73). -/
  | pcieLinkUp (masks : Nat)
  /-- FAULT_RESET (R476). After the hot save of a RESET reaction completes or is skipped, or 400 µs pass, the device performs an internal reset. -/
  | faultReset
  /-- FAULT_N_PULSE_END (R477). PULSE_LEN × 10 µs after a pulsing fault, FAULT_N is released. -/
  | faultNPulseEnd
  /-- CLEAR_FIRST (R480). A write of FLT_CTRL.CLEAR_FIRST clears the first capture and its overflow count. -/
  | clearFirst (m : Master) (v : Word)
  /-- SQ_RELEASE (R475). A write of FLT_CTRL.SQ_RELEASE ends the SQUELCH reaction. -/
  | sqRelease (m : Master) (v : Word)
  /-- NVLOG_PAGE_COMMIT (R482). The open event-log page is committed on its 15th entry or 60 s after its first uncommitted entry. -/
  | nvlogPageCommit
  /-- TEMPERATURE_READING (R484). Every 1 ms the eight sensors are read, Tj is updated and warning and disagreement faults are logged. -/
  | temperatureReading (readings : List Int)
  /-- RAIL_EXCURSION (R485). A rail has been beyond a limit for 2 µs and one fault of its source is logged. -/
  | railExcursion (rail : Nat) (high : Bool)
  /-- RAIL_EXCURSION_END (R485). A rail has stayed within ±5 % for 1 ms and its excursion ends. -/
  | railExcursionEnd (rail : Nat) (high : Bool)
  /-- POWER_REQUEST (R490). A write of PWR_REQ.GO requests a power state, which is taken, refused or discarded while BUSY. -/
  | powerRequest (m : Master) (v : Word)
  /-- POWER_ENTRY_COMPLETE (R492). Entry to a lower power state completes and BUSY clears. -/
  | powerEntryComplete
  /-- WAKE_N (R493). WAKE_N is held low for 2 µs or more and wakes the device. -/
  | wakeN (widthNs : Nat)
  /-- WAKE_TIMER (R493). PWR_WAKE_TIME seconds after entry to VIGIL, the wake timer wakes the device. -/
  | wakeTimer
  /-- SPI_CS_N_WAKE (R493). A falling SPI_CS_N in VIGIL or DORMANT wakes the device without performing the frame. -/
  | spiCsNWake
  /-- VIGIL_XO_LOSS (R76). An XO loss in VIGIL wakes the device on IOSC and counts as a failover. -/
  | vigilXoLoss (frequency : Bool)
  /-- POWER_EXIT_COMPLETE (R492). Exit from a lower state to RUN completes when ports, axles and loops have resumed. -/
  | powerExitComplete
  /-- GOVERNOR_READING (R495). At each 1 ms reading the thermal governor moves up or down its steps. -/
  | governorReading
  /-- SHED_TIMER (R496). Every SHED_INT ms in SHED the governor gates the next quad of the shed list, or reopens one every 1 s on leaving. -/
  | shedTimer
  /-- TOKEN_GAIN (R500). Every 60 s the global token bucket gains one token, up to 60. -/
  | tokenGain
  /-- WEAR_PERIOD_END (R500). Every 24 h of time-base running time a new wear period begins for the per-page program limit. -/
  | wearPeriodEnd
  /-- XO_MONITOR_WINDOW (R75). At the end of each XO monitor window, the monitor re-evaluates XO_GOOD and the XO/IOSC ratio used by R86. -/
  | xoMonitorWindow (active : Bool) (hz count : Nat)
  /-- FRAME_TRANSMIT_END (R385). The last octet of a copy leaves its output, its cells are freed, the egress mirror record is formed and a timetable hold may be released. -/
  | frameTransmitEnd (o : Nat)
  /-- GATE_BOUNDARY (R377). The interval of a gate-list entry runs out and the next entry's gate states take force, opening or closing coach classes. -/
  | gateBoundary (o : Nat)
  /-- BUILD_OUT_BLEED_END (R135). In BLEED mode the build-out B reaches O and BLEEDING clears. -/
  | buildOutBleedEnd (l : Nat)
  /-- SERVED_SLEW_END (R241). The offset accumulator reaches the target of the source in force and SLEWING clears. -/
  | servedSlewEnd
  /-- FEED_BLEED_END (R299). After a feed transfer the build-out B_f reaches 0 and CPL_FEED_STATUS.BLEEDING clears. -/
  | feedBleedEnd (l : Nat)
  /-- ANNOUNCE_TRANSMIT (R283). Coachman A sends the Announce messages of each PTP port through P49. -/
  | announceTransmit (domain : Nat)
  deriving DecidableEq, Repr

end Sys2Proof
end

