-- ==== Sys2Proof/Decode.lean ====
section
/-! DEFINITION. The words that spell commands: the table of commands gives no row any bits, so no word spells one. -/

namespace Sys2Proof

/-- The command a word of `nbits` bits spells by the table's bits: none, since the table gives no row bits (DESIGN CHOICE, log
entry 7). -/
def decodeTableWord (_nbits _w : Nat) : Option Instr := none

end Sys2Proof
end

