-- ==== Sys2Proof/Config.lean ====
section
/-! DEFINITION. What the spec leaves open and an implementation or an instant decides: uninterpreted constants,
so that no proof can rest on a value of them. -/

namespace Sys2Proof.Config

/-- Is a low of RESET_N between 0.5 µs and 2 µs taken (R45)? One answer per use. -/
opaque resetPulseTaken : Nat → Bool
/-- Is a low of PFW_N between its two limits taken (R407)? One answer per use. -/
opaque pfwPulseTaken : Nat → Bool
/-- Is a low of WAKE_N between its two limits taken (R493)? One answer per use. -/
opaque wakePulseTaken : Nat → Bool
/-- The eight data octets of a group that was being programmed when the supply was cut (R402): use and octet index. -/
opaque tornOctet : Nat → Nat → Octet
/-- Is a group cut in mid-programming left old (0), new (1) or uncorrectable (2) (R402)? Taken modulo 3. -/
opaque tornOutcome : Nat → Nat
/-- The nominal transmit latency of a lane, by rate and FEC, in units of 2^-16 ns (R269 gives no number). -/
opaque nominalLatTx : Nat → Nat → BitVec 32
/-- The nominal receive latency of a lane, by rate and FEC, in units of 2^-16 ns (R269 gives no number). -/
opaque nominalLatRx : Nat → Nat → BitVec 32
/-- Where the weight of a calibration result lies between those of the two plain discrete forms of the first-order filter of
R269, whose form no rule states; taken modulo 1,025, in 1/1024. -/
opaque calForm : Nat
/-- Line bits before the start of a frame that leaves a port in a cycle, in the gearbox word or the codeword (R271). -/
opaque txBits : Nat → Nat → Nat
/-- The place of the transmit stream of a port in a cycle among the eligible blocks of its FEC: blocks to the next one (R294);
taken modulo their spacing. -/
opaque fecPlace : Nat → Nat → Nat
/-- The clockIdentity of the device, which no rule gives. -/
opaque clockIdentity : BitVec 64
/-- µs from a reset to the running root (R49 gives 1,300 as the longest); taken modulo 1,301, one value per use. -/
opaque startupUs : Nat → Nat
/-- Is the last JTAG access, which completes within 1 µs (R462), still under way before that time is over? One answer per use. -/
opaque jtagBusy : Nat → Bool
/-- Are two edges of one gauge LSB ordered start first (R258)? One answer per use. -/
opaque startFirst : Nat → Bool
/-- What a pair of edges of one gauge LSB reads (R258): taken modulo 3, less 1, in LSB; one value per use. -/
opaque nearReading : Nat → Nat
/-- The root edge an output with SRC 3 counts from (R213): output and the cycle in which its conditions were met. -/
opaque rootStart : Nat → Nat → Nat
/-- A value no rule states for the operands at hand. -/
opaque unstated : Nat → Nat

/-- The bucket a MAC table key falls in, by address and VID (the spec names no function); taken modulo 16,384. -/
opaque macBucket : Nat → Nat → Nat
/-- Which of the free ways of a bucket a new entry takes, by use; taken modulo their number. -/
opaque freeWay : Nat → Nat

end Sys2Proof.Config
end

