-- ==== Sys2Proof/Machine/RegTypes.lean ====
section
/-! DEFINITION. The shape of a register table: access codes (R11), ranges (R25), rows, and the place of a named field. -/

namespace Sys2Proof.Machine

/-- The access codes of R11. -/
inductive Access where
  | rw | ro | wo | w1c | w1s | rc
  deriving DecidableEq, Repr, Inhabited

/-- The range a field's description states (R25). -/
inductive Range where
  /-- Every value of the field's width. -/
  | any
  /-- An unsigned field from `lo` to `hi`. -/
  | nat (lo hi : Nat)
  /-- An unsigned field that is 0 or from `lo` to `hi`. -/
  | natOrZero (lo hi : Nat)
  /-- A signed field from `lo` to `hi` (R5). -/
  | int (lo hi : Int)
  deriving DecidableEq, Repr, Inhabited

/-- One row of a register table. -/
structure FieldRow where
  lo : Nat
  width : Nat
  access : Access
  reset : Nat
  range : Range
  deriving DecidableEq, Repr, Inhabited

/-- One register, or one family of repeated registers: `dims` lists stride and count, the larger stride first. -/
structure RegRow where
  name : String
  base : Nat
  dims : List (Nat × Nat)
  priv : Bool
  fields : List FieldRow
  deriving DecidableEq, Repr, Inhabited

/-- The place of a named field: byte address of its register, lowest bit, width. -/
structure FieldRef where
  addr : Nat
  lo : Nat
  width : Nat
  deriving DecidableEq, Repr, Inhabited

end Sys2Proof.Machine
end

