-- ==== Sys2Proof/Machine/RegNames.lean ====
section
/-! DEFINITION. Every register of the spec by name: its byte address in the 24-bit management space (R26) and, for each of its fields, the place of the field. One name per register table of the spec; a repeated register takes its numbers as arguments. -/

namespace Sys2Proof.Machine

def GLB_STATUS : Nat := 0x000010
def GLB_STRAPS : Nat := 0x000020
def GLB_BOOT_STATUS : Nat := 0x000024
def GLB_BOOT_CTRL : Nat := 0x000028
def GLB_BOOT_IMGVER : Nat := 0x00002C
def GLB_BOOT_DATA : Nat := 0x000030
def GLB_BOOT_TIME : Nat := 0x000034
def GLB_FUSE : Nat := 0x000038
def GLB_LIV_LOT : Nat := 0x000100
def GLB_LIV_DIE : Nat := 0x000104
def GLB_LIV_REV : Nat := 0x000108
def GLB_LIV_UID_LO : Nat := 0x00010C
def GLB_LIV_UID_HI : Nat := 0x000110
def CGU_XO_STATUS : Nat := 0x010000
def CGU_XO_CTRL : Nat := 0x010004
def CGU_XO_EVT : Nat := 0x010008
def CGU_GATE : Nat := 0x010010
def CGU_GATE_STATUS : Nat := 0x010014
def CGU_DOM_SRC : Nat := 0x010020
def CGU_SWITCH_STATUS : Nat := 0x010024
def CGU_CLKOUT : Nat := 0x010030
def REFM_CFG (n : Nat) : Nat := 0x020000 + 0x100 * n
def REFM_FNOM (n : Nat) : Nat := 0x020004 + 0x100 * n
def REFM_DIV (n : Nat) : Nat := 0x020008 + 0x100 * n
def REFM_SOFT (n : Nat) : Nat := 0x02000C + 0x100 * n
def REFM_HARD (n : Nat) : Nat := 0x020010 + 0x100 * n
def REFM_REENTRY (n : Nat) : Nat := 0x020014 + 0x100 * n
def REFM_DRIFT (n : Nat) : Nat := 0x020018 + 0x100 * n
def REFM_TIMES (n : Nat) : Nat := 0x02001C + 0x100 * n
def REFM_PJ (n : Nat) : Nat := 0x020020 + 0x100 * n
def REFM_PW (n : Nat) : Nat := 0x020024 + 0x100 * n
def REFM_STATE (n : Nat) : Nat := 0x020040 + 0x100 * n
def REFM_EVT (n : Nat) : Nat := 0x020044 + 0x100 * n
def REFM_YS (n : Nat) : Nat := 0x020048 + 0x100 * n
def REFM_YL (n : Nat) : Nat := 0x02004C + 0x100 * n
def REFM_DRATE (n : Nat) : Nat := 0x020050 + 0x100 * n
def REFM_TCROSS (n : Nat) : Nat := 0x020054 + 0x100 * n
def REFM_PJ_LAST (n : Nat) : Nat := 0x020058 + 0x100 * n
def REFM_COUNT (n : Nat) : Nat := 0x02005C + 0x100 * n
def REFM_GOOD_LO : Nat := 0x028000
def REFM_GOOD_HI : Nat := 0x028004
def REFM_EVT_SUM_LO : Nat := 0x028008
def REFM_EVT_SUM_HI : Nat := 0x02800C
def REFM_TOD_CFG : Nat := 0x028100
def REFM_TOD_STATUS : Nat := 0x028104
def REFM_TOD_SEC_LO : Nat := 0x028108
def REFM_TOD_SEC_HI : Nat := 0x02810C
def SEL_CTRL (l : Nat) : Nat := 0x030000 + 0x400 * l
def SEL_RANK (l k : Nat) : Nat := 0x030010 + 0x400 * l + 0x4 * k
def SEL_QL (l k : Nat) : Nat := 0x030030 + 0x400 * l + 0x4 * k
def SEL_AGREE (l : Nat) : Nat := 0x030050 + 0x400 * l
def SEL_ALIGN_LO (l : Nat) : Nat := 0x030058 + 0x400 * l
def SEL_ALIGN_HI (l : Nat) : Nat := 0x03005C + 0x400 * l
def SEL_BLEED (l : Nat) : Nat := 0x030060 + 0x400 * l
def SEL_STATUS (l : Nat) : Nat := 0x030080 + 0x400 * l
def SEL_EVT (l : Nat) : Nat := 0x030084 + 0x400 * l
def SEL_PBO_LO (l : Nat) : Nat := 0x030088 + 0x400 * l
def SEL_DELTA_LO (l : Nat) : Nat := 0x030090 + 0x400 * l
def SEL_PBO_HI (l : Nat) : Nat := 0x03008C + 0x400 * l
def SEL_DELTA_HI (l : Nat) : Nat := 0x030094 + 0x400 * l
def SEL_COUNT (l : Nat) : Nat := 0x030098 + 0x400 * l
def SEL_CAND_LO (l : Nat) : Nat := 0x0300A0 + 0x400 * l
def SEL_CAND_HI (l : Nat) : Nat := 0x0300A4 + 0x400 * l
def SEL_SUSPECT_LO (l : Nat) : Nat := 0x0300A8 + 0x400 * l
def SEL_SUSPECT_HI (l : Nat) : Nat := 0x0300AC + 0x400 * l
def DPL_CFG (l : Nat) : Nat := 0x040000 + 0x1000 * l
def DPL_CTRL (l : Nat) : Nat := 0x040004 + 0x1000 * l
def DPL_KP (l : Nat) : Nat := 0x040008 + 0x1000 * l
def DPL_KI (l : Nat) : Nat := 0x04000C + 0x1000 * l
def DPL_SLOPE (l : Nat) : Nat := 0x040010 + 0x1000 * l
def DPL_FSL (l : Nat) : Nat := 0x040014 + 0x1000 * l
def DPL_LOCK (l : Nat) : Nat := 0x040018 + 0x1000 * l
def DPL_LOCK_TIME (l : Nat) : Nat := 0x04001C + 0x1000 * l
def DPL_TU (l : Nat) : Nat := 0x040020 + 0x1000 * l
def DPL_GPER (l : Nat) : Nat := 0x040024 + 0x1000 * l
def DPL_RAMP_CTRL (l : Nat) : Nat := 0x040030 + 0x1000 * l
def DPL_RAMP_RATE (l : Nat) : Nat := 0x040034 + 0x1000 * l
def DPL_RAMP_VAL_LO (l : Nat) : Nat := 0x040038 + 0x1000 * l
def DPL_RAMP_VAL_HI (l : Nat) : Nat := 0x04003C + 0x1000 * l
def DPL_STATUS (l : Nat) : Nat := 0x040080 + 0x1000 * l
def DPL_EVT (l : Nat) : Nat := 0x040084 + 0x1000 * l
def DPL_FREQ_LO (l : Nat) : Nat := 0x040088 + 0x1000 * l
def DPL_PHERR_LO (l : Nat) : Nat := 0x040090 + 0x1000 * l
def DPL_RAMP_ACC_LO (l : Nat) : Nat := 0x040098 + 0x1000 * l
def DPL_FREQ_HI (l : Nat) : Nat := 0x04008C + 0x1000 * l
def DPL_PHERR_HI (l : Nat) : Nat := 0x040094 + 0x1000 * l
def DPL_RAMP_ACC_HI (l : Nat) : Nat := 0x04009C + 0x1000 * l
def DPL_COUNT (l : Nat) : Nat := 0x0400A0 + 0x1000 * l
def DPL_LEAD : Nat := 0x04F000
def HOLD_CFG : Nat := 0x050000
def HOLD_LEARN : Nat := 0x050004
def HOLD_EXPIRY : Nat := 0x050008
def HOLD_ELIM : Nat := 0x05000C
def HOLD_BIAS : Nat := 0x050010
def HOLD_TSENS : Nat := 0x050014
def HOLD_CTRL : Nat := 0x050018
def HOLD_STATUS : Nat := 0x050080
def HOLD_EVT : Nat := 0x050084
def HOLD_LEARNT : Nat := 0x050088
def HOLD_YPRED_LO : Nat := 0x050090
def HOLD_CAL_LO : Nat := 0x050098
def HOLD_YPRED_HI : Nat := 0x050094
def HOLD_CAL_HI : Nat := 0x05009C
def HOLD_AGE : Nat := 0x0500A0
def HOLD_TC1 : Nat := 0x0500A4
def HOLD_TC2 : Nat := 0x0500A8
def HOLD_UA : Nat := 0x0500AC
def HOLD_UT : Nat := 0x0500B0
def HOLD_TEMP : Nat := 0x0500B4
def HOLD_LP_STATUS (l : Nat) : Nat := 0x050100 + 0x20 * l
def HOLD_LP_ERR (l : Nat) : Nat := 0x050104 + 0x20 * l
def HOLD_LP_UY (l : Nat) : Nat := 0x050108 + 0x20 * l
def HOLD_LP_THETA (l : Nat) : Nat := 0x05010C + 0x20 * l
def AXL_CFG (n : Nat) : Nat := 0x060000 + 0x1000 * n
def AXL_CTRL (n : Nat) : Nat := 0x060004 + 0x1000 * n
def AXL_FWORD_LO (n : Nat) : Nat := 0x060008 + 0x1000 * n
def AXL_FWORD_HI (n : Nat) : Nat := 0x06000C + 0x1000 * n
def AXL_STEP_LO (n : Nat) : Nat := 0x060010 + 0x1000 * n
def AXL_STEP_HI (n : Nat) : Nat := 0x060014 + 0x1000 * n
def AXL_STEP_RATE (n : Nat) : Nat := 0x060018 + 0x1000 * n
def AXL_LOCK (n : Nat) : Nat := 0x06001C + 0x1000 * n
def AXL_STEP_LEFT_LO (n : Nat) : Nat := 0x060020 + 0x1000 * n
def AXL_STEP_LEFT_HI (n : Nat) : Nat := 0x060024 + 0x1000 * n
def AXL_STATUS (n : Nat) : Nat := 0x060080 + 0x1000 * n
def AXL_EVT (n : Nat) : Nat := 0x060084 + 0x1000 * n
def AXL_COUNT (n : Nat) : Nat := 0x060088 + 0x1000 * n
def AXL_BAND_LO (n k : Nat) : Nat := 0x060100 + 0x1000 * n + 0x10 * k
def AXL_BAND_HI (n k : Nat) : Nat := 0x060104 + 0x1000 * n + 0x10 * k
def AXL_BAND_CODE (n k : Nat) : Nat := 0x060108 + 0x1000 * n + 0x10 * k
def OUT_CFG (n : Nat) : Nat := 0x070000 + 0x100 * n
def OUT_DIV (n : Nat) : Nat := 0x070004 + 0x100 * n
def OUT_DELAY (n : Nat) : Nat := 0x070008 + 0x100 * n
def OUT_PERIOD (n : Nat) : Nat := 0x07000C + 0x100 * n
def OUT_WIDTH (n : Nat) : Nat := 0x070010 + 0x100 * n
def OUT_PHASE_LO (n : Nat) : Nat := 0x070014 + 0x100 * n
def OUT_PHASE_HI (n : Nat) : Nat := 0x070018 + 0x100 * n
def OUT_STATUS (n : Nat) : Nat := 0x070080 + 0x100 * n
def OUT_EVT (n : Nat) : Nat := 0x070084 + 0x100 * n
def OUT_KEEP : Nat := 0x072000
def TIM_CFG (d : Nat) : Nat := 0x080000 + 0x100 * d
def TIM_CTRL (d : Nat) : Nat := 0x080004 + 0x100 * d
def TIM_STATUS (d : Nat) : Nat := 0x080008 + 0x100 * d
def TIM_EVT (d : Nat) : Nat := 0x08000C + 0x100 * d
def TIM_INC_LO (d : Nat) : Nat := 0x080010 + 0x100 * d
def TIM_INC_HI (d : Nat) : Nat := 0x080014 + 0x100 * d
def TIM_SET_NS (d : Nat) : Nat := 0x080018 + 0x100 * d
def TIM_SET_SEC_LO (d : Nat) : Nat := 0x08001C + 0x100 * d
def TIM_SET_SEC_HI (d : Nat) : Nat := 0x080020 + 0x100 * d
def TIM_STEP_SEC (d : Nat) : Nat := 0x080024 + 0x100 * d
def TIM_STEP_NS (d : Nat) : Nat := 0x080028 + 0x100 * d
def TIM_NOW0 (d : Nat) : Nat := 0x080030 + 0x100 * d
def TIM_SNAP_A0 : Nat := 0x080310
def TIM_SNAP_B0 : Nat := 0x080320
def TIM_SNAP_SRV0 : Nat := 0x080330
def TIM_SRV_NOW0 : Nat := 0x080230
def TIM_NOW1 (d : Nat) : Nat := 0x080034 + 0x100 * d
def TIM_SNAP_A1 : Nat := 0x080314
def TIM_SNAP_B1 : Nat := 0x080324
def TIM_SNAP_SRV1 : Nat := 0x080334
def TIM_SRV_NOW1 : Nat := 0x080234
def TIM_NOW2 (d : Nat) : Nat := 0x080038 + 0x100 * d
def TIM_SNAP_A2 : Nat := 0x080318
def TIM_SNAP_B2 : Nat := 0x080328
def TIM_SNAP_SRV2 : Nat := 0x080338
def TIM_SRV_NOW2 : Nat := 0x080238
def TIM_NOW3 (d : Nat) : Nat := 0x08003C + 0x100 * d
def TIM_SNAP_A3 : Nat := 0x08031C
def TIM_SNAP_B3 : Nat := 0x08032C
def TIM_SNAP_SRV3 : Nat := 0x08033C
def TIM_SRV_NOW3 : Nat := 0x08023C
def TIM_EPOCH_LO (d : Nat) : Nat := 0x080040 + 0x100 * d
def TIM_EPOCH_HI (d : Nat) : Nat := 0x080044 + 0x100 * d
def TIM_COUNT (d : Nat) : Nat := 0x080048 + 0x100 * d
def TIM_SRV_CFG : Nat := 0x080200
def TIM_SRV_RATE : Nat := 0x080204
def TIM_SRV_TGT_LO (d : Nat) : Nat := 0x080208 + 0x8 * d
def TIM_SRV_TGT_HI (d : Nat) : Nat := 0x08020C + 0x8 * d
def TIM_SRV_STATUS : Nat := 0x080218
def TIM_SRV_EVT : Nat := 0x08021C
def TIM_SNAP_CTRL : Nat := 0x080300
def TIM_SNAP_SEQ : Nat := 0x080304
def GAU_CFG (n : Nat) : Nat := 0x090000 + 0x100 * n
def GAU_TOLL (n : Nat) : Nat := 0x090004 + 0x100 * n
def GAU_HOLDOFF (n : Nat) : Nat := 0x090008 + 0x100 * n
def GAU_STAT_CFG (n : Nat) : Nat := 0x09000C + 0x100 * n
def GAU_STAT_PER (n : Nat) : Nat := 0x090010 + 0x100 * n
def GAU_STAT_CTRL (n : Nat) : Nat := 0x090014 + 0x100 * n
def GAU_STATUS (n : Nat) : Nat := 0x090040 + 0x100 * n
def GAU_EVT (n : Nat) : Nat := 0x090044 + 0x100 * n
def GAU_COUNT (n : Nat) : Nat := 0x090048 + 0x100 * n
def GAU_COUNT2 (n : Nat) : Nat := 0x09004C + 0x100 * n
def GAU_COUNT3 (n : Nat) : Nat := 0x090050 + 0x100 * n
def GAU_RES_SEQ (n : Nat) : Nat := 0x090054 + 0x100 * n
def GAU_TS0 (n : Nat) : Nat := 0x090060 + 0x100 * n
def GAU_TS1 (n : Nat) : Nat := 0x090064 + 0x100 * n
def GAU_TS2 (n : Nat) : Nat := 0x090068 + 0x100 * n
def GAU_TS3 (n : Nat) : Nat := 0x09006C + 0x100 * n
def GAU_IVL_LO (n : Nat) : Nat := 0x090070 + 0x100 * n
def GAU_STAT_MEAN_LO (n : Nat) : Nat := 0x090088 + 0x100 * n
def GAU_STAT_MIN_LO (n : Nat) : Nat := 0x090090 + 0x100 * n
def GAU_STAT_MAX_LO (n : Nat) : Nat := 0x090098 + 0x100 * n
def GAU_IVL_HI (n : Nat) : Nat := 0x090074 + 0x100 * n
def GAU_STAT_MEAN_HI (n : Nat) : Nat := 0x09008C + 0x100 * n
def GAU_STAT_MIN_HI (n : Nat) : Nat := 0x090094 + 0x100 * n
def GAU_STAT_MAX_HI (n : Nat) : Nat := 0x09009C + 0x100 * n
def GAU_STAT_COUNT (n : Nat) : Nat := 0x090080 + 0x100 * n
def GAU_STAT_STD (n : Nat) : Nat := 0x0900A0 + 0x100 * n
def GAU_GLB_STATUS : Nat := 0x098000
def GAU_EVT_SUM_LO : Nat := 0x098008
def GAU_EVT_SUM_HI : Nat := 0x09800C
def TSE_CFG : Nat := 0x0A0000
def TSE_TXTS_0 : Nat := 0x0A0010
def TSE_TXTS_1 : Nat := 0x0A0014
def TSE_TXTS_2 : Nat := 0x0A0018
def TSE_TXTS_3 : Nat := 0x0A001C
def TSE_TXTS_4 : Nat := 0x0A0020
def TSE_TXTS_STATUS : Nat := 0x0A0024
def TSE_ESMC_CFG : Nat := 0x0A0100
def TSE_ESMC_RX_LO : Nat := 0x0A0108
def TSE_ESMC_TX_LO : Nat := 0x0A0110
def TSE_ESMC_RX_HI : Nat := 0x0A010C
def TSE_ESMC_TX_HI : Nat := 0x0A0114
def TSE_PORT_CFG (p : Nat) : Nat := 0x0A1000 + 0x40 * p
def TSE_PORT_EXT_TX (p : Nat) : Nat := 0x0A1004 + 0x40 * p
def TSE_PORT_EXT_RX (p : Nat) : Nat := 0x0A1008 + 0x40 * p
def TSE_PORT_STATUS (p : Nat) : Nat := 0x0A1010 + 0x40 * p
def TSE_PORT_EVT (p : Nat) : Nat := 0x0A1014 + 0x40 * p
def TSE_PORT_LAT_TX (p : Nat) : Nat := 0x0A1018 + 0x40 * p
def TSE_PORT_LAT_RX (p : Nat) : Nat := 0x0A101C + 0x40 * p
def SESS_CFG (s : Nat) : Nat := 0x0A4000 + 0x40 * s
def SESS_INTV (s : Nat) : Nat := 0x0A4004 + 0x40 * s
def SESS_ASYM (s : Nat) : Nat := 0x0A4008 + 0x40 * s
def SESS_STATUS (s : Nat) : Nat := 0x0A4010 + 0x40 * s
def SESS_OFFSET_LO (s : Nat) : Nat := 0x0A4014 + 0x40 * s
def SESS_MPD_LO (s : Nat) : Nat := 0x0A401C + 0x40 * s
def SESS_OFFSET_HI (s : Nat) : Nat := 0x0A4018 + 0x40 * s
def SESS_MPD_HI (s : Nat) : Nat := 0x0A4020 + 0x40 * s
def SESS_COUNT (s : Nat) : Nat := 0x0A4024 + 0x40 * s
def CPL_NODE : Nat := 0x0B0000
def CPL_NODE_ERR : Nat := 0x0B0004
def CPL_NODE_STATUS : Nat := 0x0B0008
def CPL_NODE_ACC : Nat := 0x0B000C
def CPL_BLEED : Nat := 0x0B0010
def CPL_FEED_CFG (l : Nat) : Nat := 0x0B0100 + 0x10 * l
def CPL_FEED_STATUS (l : Nat) : Nat := 0x0B0104 + 0x10 * l
def CPL_FEED_BO (l : Nat) : Nat := 0x0B0108 + 0x10 * l
def CPL_PORT_CFG (p : Nat) : Nat := 0x0B1000 + 0x80 * p
def CPL_PORT_ASYM (p : Nat) : Nat := 0x0B1004 + 0x80 * p
def CPL_PORT_ASYM_PROP (p : Nat) : Nat := 0x0B1008 + 0x80 * p
def CPL_PORT_ASYM_UNC (p : Nat) : Nat := 0x0B100C + 0x80 * p
def CPL_PORT_STATUS (p : Nat) : Nat := 0x0B1010 + 0x80 * p
def CPL_PORT_EVT (p : Nat) : Nat := 0x0B1014 + 0x80 * p
def CPL_PORT_FAR_ID (p : Nat) : Nat := 0x0B1018 + 0x80 * p
def CPL_PORT_FAR_INFO (p : Nat) : Nat := 0x0B101C + 0x80 * p
def CPL_PORT_FAR_ACC (p : Nat) : Nat := 0x0B1020 + 0x80 * p
def CPL_PORT_OFFSET_LO (p : Nat) : Nat := 0x0B1024 + 0x80 * p
def CPL_PORT_MLD_LO (p : Nat) : Nat := 0x0B102C + 0x80 * p
def CPL_PORT_OFFSET_HI (p : Nat) : Nat := 0x0B1028 + 0x80 * p
def CPL_PORT_MLD_HI (p : Nat) : Nat := 0x0B1030 + 0x80 * p
def CPL_PORT_RATIO (p : Nat) : Nat := 0x0B1034 + 0x80 * p
def CPL_PORT_COUNT (p : Nat) : Nat := 0x0B1038 + 0x80 * p
def CPL_PORT_COUNT2 (p : Nat) : Nat := 0x0B103C + 0x80 * p
def PRT_CNT_LO (p k : Nat) : Nat := 0x100200 + 0x1000 * p + 0x8 * k
def PRT_CNT_HI (p k : Nat) : Nat := 0x100204 + 0x1000 * p + 0x8 * k
def PRT_CFG (p : Nat) : Nat := 0x100000 + 0x1000 * p
def PRT_MAC (p : Nat) : Nat := 0x100004 + 0x1000 * p
def PRT_LINK (p : Nat) : Nat := 0x100008 + 0x1000 * p
def PRT_MACADDR_LO (p : Nat) : Nat := 0x10000C + 0x1000 * p
def PRT_MACADDR_HI (p : Nat) : Nat := 0x100010 + 0x1000 * p
def PRT_LANE (p : Nat) : Nat := 0x100014 + 0x1000 * p
def PRT_CTRL (p : Nat) : Nat := 0x100018 + 0x1000 * p
def PRT_MOD_ROUTE (p : Nat) : Nat := 0x100040 + 0x1000 * p
def PRT_MOD_POLL (p : Nat) : Nat := 0x100044 + 0x1000 * p
def PRT_MOD_STATUS (p : Nat) : Nat := 0x100048 + 0x1000 * p
def PRT_STATUS (p : Nat) : Nat := 0x100080 + 0x1000 * p
def PRT_EVT (p : Nat) : Nat := 0x100084 + 0x1000 * p
def PRT_AN_LP (p : Nat) : Nat := 0x100088 + 0x1000 * p
def PRT_I2C_CFG (m : Nat) : Nat := 0x100C00 + 0x1000 * m
def PRT_I2C_XFER (m : Nat) : Nat := 0x100C08 + 0x1000 * m
def PRT_I2C_STATUS (m : Nat) : Nat := 0x100C0C + 0x1000 * m
def PRT_I2C_DATA (m k : Nat) : Nat := 0x100D00 + 0x1000 * m + 0x4 * k
def FWD_CFG : Nat := 0x200000
def FWD_STATUS : Nat := 0x200004
def FWD_COUNT : Nat := 0x200008
def FWD_TBL_CMD : Nat := 0x200100
def FWD_TBL_DATA (k : Nat) : Nat := 0x200110 + 0x4 * k
def FWD_PORT_CFG (p : Nat) : Nat := 0x201000 + 0x10 * p
def FWD_PCP_MAP (p : Nat) : Nat := 0x201004 + 0x10 * p
def FWD_PORT_DROP (p : Nat) : Nat := 0x201008 + 0x10 * p
def FWD_PORT_DROP2 (p : Nat) : Nat := 0x20100C + 0x10 * p
def BUF_MAIL_CFG : Nat := 0x240000
def BUF_MAIL_STATUS : Nat := 0x240004
def BUF_CTRL : Nat := 0x240008
def BUF_DEP_CFG (d : Nat) : Nat := 0x240100 + 0x20 * d
def BUF_DEP_STATUS (d : Nat) : Nat := 0x240104 + 0x20 * d
def BUF_DEP_STATUS2 (d : Nat) : Nat := 0x240108 + 0x20 * d
def BUF_DEP_DESC (d : Nat) : Nat := 0x24010C + 0x20 * d
def BUF_Q_CFG (d q : Nat) : Nat := 0x250000 + 0x2000 * d + 0x10 * q
def BUF_Q_STATUS (d q : Nat) : Nat := 0x250004 + 0x2000 * d + 0x10 * q
def BUF_Q_ADMITS (d q : Nat) : Nat := 0x250008 + 0x2000 * d + 0x10 * q
def BUF_Q_DROPS (d q : Nat) : Nat := 0x25000C + 0x2000 * d + 0x10 * q
def BUF_VOQ (i o : Nat) : Nat := 0x244000 + 0x100 * i + 0x4 * o
def BUF_OUT_CFG (o : Nat) : Nat := 0x241000 + 0x40 * o
def BUF_OUT_GRACE (o : Nat) : Nat := 0x241004 + 0x40 * o
def BUF_OUT_STATUS (o : Nat) : Nat := 0x241008 + 0x40 * o
def BUF_OUT_EVT (o : Nat) : Nat := 0x24100C + 0x40 * o
def BUF_OUT_SIDING_DROP (o : Nat) : Nat := 0x241010 + 0x40 * o
def BUF_OUT_SIDING_MAIL_DISC (o : Nat) : Nat := 0x241014 + 0x40 * o
def BUF_OUT_FLUSHED (o : Nat) : Nat := 0x241018 + 0x40 * o
def BUF_OUT_MAIL_SPILLS (o : Nat) : Nat := 0x24101C + 0x40 * o
def BUF_OUT_MAIL_DROPS (o : Nat) : Nat := 0x241020 + 0x40 * o
def BUF_OUT_WD_COUNT (o : Nat) : Nat := 0x241024 + 0x40 * o
def BUF_IN_CFG (i : Nat) : Nat := 0x242000 + 0x20 * i
def BUF_IN_PRIO (i : Nat) : Nat := 0x242004 + 0x20 * i
def BUF_IN_STATUS (i : Nat) : Nat := 0x242008 + 0x20 * i
def BUF_IN_COUNT (i : Nat) : Nat := 0x24200C + 0x20 * i
def SCH_CFG : Nat := 0x280000
def SCH_RSQ : Nat := 0x280004
def SCH_CTRL : Nat := 0x280008
def SCH_OUT_CFG (o : Nat) : Nat := 0x281000 + 0x100 * o
def SCH_OUT_STATUS (o : Nat) : Nat := 0x281004 + 0x100 * o
def SCH_OUT_EVT (o : Nat) : Nat := 0x281008 + 0x100 * o
def SCH_OUT_STOMPED (o : Nat) : Nat := 0x281010 + 0x100 * o
def SCH_OUT_CUT_SHORT (o : Nat) : Nat := 0x281014 + 0x100 * o
def SCH_OUT_PROMOTIONS (o : Nat) : Nat := 0x281018 + 0x100 * o
def SCH_OUT_MAIL_SENT (o : Nat) : Nat := 0x28101C + 0x100 * o
def SCH_OUT_MAIL_LATE (o : Nat) : Nat := 0x281020 + 0x100 * o
def SCH_OUT_MAIL_LATE_DISC (o : Nat) : Nat := 0x281024 + 0x100 * o
def SCH_OUT_RSQ_WAITS (o : Nat) : Nat := 0x281028 + 0x100 * o
def SCH_OUT_RSQ_SKIPS (o : Nat) : Nat := 0x28102C + 0x100 * o
def SCH_OUT_RSQ_STALE (o : Nat) : Nat := 0x281030 + 0x100 * o
def SCH_OUT_FEC_SHIFT (o : Nat) : Nat := 0x281034 + 0x100 * o
def SCH_TT_DELAY (o c : Nat) : Nat := 0x281040 + 0x100 * o + 0x4 * c
def SCH_GCL_CFG (o : Nat) : Nat := 0x281060 + 0x100 * o
def SCH_GCL_BASE_NS (o : Nat) : Nat := 0x281064 + 0x100 * o
def SCH_GCL_BASE_SEC_LO (o : Nat) : Nat := 0x281068 + 0x100 * o
def SCH_GCL_BASE_SEC_HI (o : Nat) : Nat := 0x28106C + 0x100 * o
def SCH_GCL_CYCLE (o : Nat) : Nat := 0x281070 + 0x100 * o
def SCH_GCL_CTRL (o : Nat) : Nat := 0x281074 + 0x100 * o
def SCH_GCL_STATUS (o : Nat) : Nat := 0x281078 + 0x100 * o
def SCH_GATE_ADMIN (o e : Nat) : Nat := 0x2A0000 + 0x800 * o + 0x8 * e
def SCH_GATE_OPER (o e : Nat) : Nat := 0x2A0400 + 0x800 * o + 0x8 * e
def SCH_INTV_ADMIN (o e : Nat) : Nat := 0x2A0004 + 0x800 * o + 0x8 * e
def SCH_INTV_OPER (o e : Nat) : Nat := 0x2A0404 + 0x800 * o + 0x8 * e
def MIR_CFG : Nat := 0x2C0000
def MIR_CTRL : Nat := 0x2C0004
def MIR_SEL_IN_LO : Nat := 0x2C0008
def MIR_SEL_OUT_LO : Nat := 0x2C0010
def MIR_SEL_IN_HI : Nat := 0x2C000C
def MIR_SEL_OUT_HI : Nat := 0x2C0014
def MIR_RING_BASE_LO : Nat := 0x2C0020
def MIR_RING_BASE_HI : Nat := 0x2C0024
def MIR_RING_LEN : Nat := 0x2C0028
def MIR_RING_RD : Nat := 0x2C002C
def MIR_RING_WR : Nat := 0x2C0030
def MIR_IRQ : Nat := 0x2C0034
def MIR_RESUME : Nat := 0x2C0038
def MIR_STATUS : Nat := 0x2C0040
def MIR_EVT : Nat := 0x2C0044
def NVS_PROTECT : Nat := 0x300000
def NVS_STATUS : Nat := 0x300004
def NVS_EVT : Nat := 0x300008
def NVS_ADDR : Nat := 0x300010
def NVS_LEN : Nat := 0x300014
def NVS_CMD : Nat := 0x300018
def NVS_ERR_ADDR : Nat := 0x30001C
def NVS_COUNT : Nat := 0x300020
def NVS_PROGRAMS : Nat := 0x300024
def NVS_DATA (k : Nat) : Nat := 0x301000 + 0x4 * k
def MBX_SEND_W0 (n e : Nat) : Nat := 0x310000 + 0x200 * n + 0x100 * e
def MBX_SEND_W (n e k : Nat) : Nat := 0x310004 + 0x200 * n + 0x100 * e + 0x4 * k
def MBX_RECV_W (n e k : Nat) : Nat := 0x310040 + 0x200 * n + 0x100 * e + 0x4 * k
def MBX_STATUS (n e : Nat) : Nat := 0x310080 + 0x200 * n + 0x100 * e
def MBX_EVT (n e : Nat) : Nat := 0x310084 + 0x200 * n + 0x100 * e
def MBX_CTRL (n e : Nat) : Nat := 0x310088 + 0x200 * n + 0x100 * e
def MBX_RECV_INFO (n e : Nat) : Nat := 0x31008C + 0x200 * n + 0x100 * e
def MBX_COUNT (n e : Nat) : Nat := 0x310090 + 0x200 * n + 0x100 * e
def HIF_PRIV : Nat := 0x320000
def HIF_ERR : Nat := 0x320004
def HIF_IRQ_STATUS : Nat := 0x320010
def HIF_IRQ_EN : Nat := 0x320014
def HIF_MSIX_EN : Nat := 0x320018
def HIF_PKT_EVT : Nat := 0x32001C
def HIF_RING_BASE_LO (r : Nat) : Nat := 0x320100 + 0x20 * r
def HIF_RING_BASE_HI (r : Nat) : Nat := 0x320104 + 0x20 * r
def HIF_RING_LEN (r : Nat) : Nat := 0x320108 + 0x20 * r
def HIF_RING_TAIL (r : Nat) : Nat := 0x32010C + 0x20 * r
def HIF_RING_HEAD (r : Nat) : Nat := 0x320110 + 0x20 * r
def FLT_CFG : Nat := 0x330000
def FLT_SQ : Nat := 0x330004
def FLT_CTRL : Nat := 0x330008
def FLT_STATUS : Nat := 0x33000C
def FLT_EVT : Nat := 0x330010
def FLT_COUNT : Nat := 0x330014
def FLT_COUNT2 : Nat := 0x330018
def FLT_FIRST_W (k : Nat) : Nat := 0x330020 + 0x4 * k
def FLT_LOG_W (k : Nat) : Nat := 0x330044 + 0x4 * k
def FLT_FIRST_OVF : Nat := 0x330030
def FLT_LOG_INDEX : Nat := 0x330040
def FLT_NVLOG : Nat := 0x330054
def FLT_TEMP : Nat := 0x330060
def FLT_TEMP_LIM : Nat := 0x330064
def FLT_RAIL : Nat := 0x330070
def FLT_REACT (n : Nat) : Nat := 0x330400 + 0x4 * n
def PWR_CFG : Nat := 0x340000
def PWR_REQ : Nat := 0x340004
def PWR_STATUS : Nat := 0x340008
def PWR_EVT : Nat := 0x34000C
def PWR_WAKE_TIME : Nat := 0x340010
def PWR_WAKE_CAUSE : Nat := 0x340014
def PWR_SHED_LO : Nat := 0x340020
def PWR_SHED_HI : Nat := 0x340024
def PWR_TOKENS : Nat := 0x340030
def HOLD_LP_BIAS_LO (l : Nat) : Nat := 0x050110 + 0x20 * l
def HOLD_LP_BIAS_HI (l : Nat) : Nat := 0x050114 + 0x20 * l
def TIM_SRV_ACC_0 : Nat := 0x080220
def TIM_SRV_ACC_1 : Nat := 0x080224
def TIM_SRV_ACC_2 : Nat := 0x080228
def MIR_COUNT_RECORDS : Nat := 0x2C0048
def MIR_COUNT_SAMPLES : Nat := 0x2C004C
def MIR_COUNT_LOST : Nat := 0x2C0050
def MIR_COUNT_SAMPLE_LOST : Nat := 0x2C0054
def PRT_I2C_ROUTE (m : Nat) : Nat := 0x100C04 + 0x1000 * m

def GLB_STATUS_MODE_COUNT : FieldRef := ⟨GLB_STATUS, 24, 8⟩
def GLB_STATUS_MODE_EVT : FieldRef := ⟨GLB_STATUS, 15, 1⟩
def GLB_STATUS_IMG : FieldRef := ⟨GLB_STATUS, 12, 1⟩
def GLB_STATUS_XO_INT : FieldRef := ⟨GLB_STATUS, 11, 1⟩
def GLB_STATUS_PWR : FieldRef := ⟨GLB_STATUS, 8, 3⟩
def GLB_STATUS_LEAD : FieldRef := ⟨GLB_STATUS, 6, 2⟩
def GLB_STATUS_MODE : FieldRef := ⟨GLB_STATUS, 0, 3⟩
def GLB_STRAPS_BOOT_SRC : FieldRef := ⟨GLB_STRAPS, 8, 2⟩
def GLB_STRAPS_IMG_SEL : FieldRef := ⟨GLB_STRAPS, 6, 1⟩
def GLB_STRAPS_ADDR : FieldRef := ⟨GLB_STRAPS, 0, 6⟩
def GLB_BOOT_STATUS_FIFO_FREE : FieldRef := ⟨GLB_BOOT_STATUS, 23, 9⟩
def GLB_BOOT_STATUS_CAUSE : FieldRef := ⟨GLB_BOOT_STATUS, 20, 3⟩
def GLB_BOOT_STATUS_LIV_ERR : FieldRef := ⟨GLB_BOOT_STATUS, 19, 1⟩
def GLB_BOOT_STATUS_SIG_OK : FieldRef := ⟨GLB_BOOT_STATUS, 18, 1⟩
def GLB_BOOT_STATUS_FALLBACK : FieldRef := ⟨GLB_BOOT_STATUS, 17, 1⟩
def GLB_BOOT_STATUS_REJECTS : FieldRef := ⟨GLB_BOOT_STATUS, 12, 4⟩
def GLB_BOOT_STATUS_ERROR : FieldRef := ⟨GLB_BOOT_STATUS, 4, 8⟩
def GLB_BOOT_STATUS_STATE : FieldRef := ⟨GLB_BOOT_STATUS, 0, 3⟩
def GLB_BOOT_CTRL_RESTART : FieldRef := ⟨GLB_BOOT_CTRL, 0, 1⟩
def GLB_BOOT_IMGVER_IMG_VERSION : FieldRef := ⟨GLB_BOOT_IMGVER, 0, 32⟩
def GLB_BOOT_DATA_DATA : FieldRef := ⟨GLB_BOOT_DATA, 0, 32⟩
def GLB_BOOT_TIME_STAGING_US : FieldRef := ⟨GLB_BOOT_TIME, 0, 24⟩
def GLB_FUSE_KEY_REVOKED : FieldRef := ⟨GLB_FUSE, 8, 4⟩
def GLB_FUSE_KEY_SET : FieldRef := ⟨GLB_FUSE, 4, 4⟩
def GLB_FUSE_SECURE : FieldRef := ⟨GLB_FUSE, 0, 1⟩
def GLB_LIV_LOT_FAB : FieldRef := ⟨GLB_LIV_LOT, 24, 8⟩
def GLB_LIV_LOT_LOT : FieldRef := ⟨GLB_LIV_LOT, 0, 24⟩
def GLB_LIV_DIE_SITE : FieldRef := ⟨GLB_LIV_DIE, 24, 8⟩
def GLB_LIV_DIE_DIE_Y : FieldRef := ⟨GLB_LIV_DIE, 16, 8⟩
def GLB_LIV_DIE_DIE_X : FieldRef := ⟨GLB_LIV_DIE, 8, 8⟩
def GLB_LIV_DIE_WAFER : FieldRef := ⟨GLB_LIV_DIE, 0, 5⟩
def GLB_LIV_REV_PART : FieldRef := ⟨GLB_LIV_REV, 16, 16⟩
def GLB_LIV_REV_REV : FieldRef := ⟨GLB_LIV_REV, 0, 8⟩
def GLB_LIV_UID_LO_UID_LO : FieldRef := ⟨GLB_LIV_UID_LO, 0, 32⟩
def GLB_LIV_UID_HI_UID_HI : FieldRef := ⟨GLB_LIV_UID_HI, 0, 32⟩
def CGU_XO_STATUS_FREQ : FieldRef := ⟨CGU_XO_STATUS, 20, 4⟩
def CGU_XO_STATUS_OFFSET : FieldRef := ⟨CGU_XO_STATUS, 12, 8⟩
def CGU_XO_STATUS_JUDGE_CAUSE : FieldRef := ⟨CGU_XO_STATUS, 8, 4⟩
def CGU_XO_STATUS_JUDGED : FieldRef := ⟨CGU_XO_STATUS, 3, 1⟩
def CGU_XO_STATUS_JUDGE_OK : FieldRef := ⟨CGU_XO_STATUS, 2, 1⟩
def CGU_XO_STATUS_XO_GOOD : FieldRef := ⟨CGU_XO_STATUS, 1, 1⟩
def CGU_XO_STATUS_XO_SRC : FieldRef := ⟨CGU_XO_STATUS, 0, 1⟩
def CGU_XO_CTRL_GOOD_WAIT : FieldRef := ⟨CGU_XO_CTRL, 8, 8⟩
def CGU_XO_CTRL_RETURN : FieldRef := ⟨CGU_XO_CTRL, 0, 1⟩
def CGU_XO_EVT_FAILOVER_COUNT : FieldRef := ⟨CGU_XO_EVT, 8, 8⟩
def CGU_XO_EVT_RETURN_REFUSED : FieldRef := ⟨CGU_XO_EVT, 4, 1⟩
def CGU_XO_EVT_RETURN_DONE : FieldRef := ⟨CGU_XO_EVT, 3, 1⟩
def CGU_XO_EVT_FAILOVER : FieldRef := ⟨CGU_XO_EVT, 2, 1⟩
def CGU_XO_EVT_LOSS_FREQ : FieldRef := ⟨CGU_XO_EVT, 1, 1⟩
def CGU_XO_EVT_LOSS_ACT : FieldRef := ⟨CGU_XO_EVT, 0, 1⟩
def CGU_GATE_GAU : FieldRef := ⟨CGU_GATE, 22, 1⟩
def CGU_GATE_CPL : FieldRef := ⟨CGU_GATE, 21, 1⟩
def CGU_GATE_TSE : FieldRef := ⟨CGU_GATE, 20, 1⟩
def CGU_GATE_MIR : FieldRef := ⟨CGU_GATE, 19, 1⟩
def CGU_GATE_SCH : FieldRef := ⟨CGU_GATE, 18, 1⟩
def CGU_GATE_BUF : FieldRef := ⟨CGU_GATE, 17, 1⟩
def CGU_GATE_FWD : FieldRef := ⟨CGU_GATE, 16, 1⟩
def CGU_GATE_QUAD : FieldRef := ⟨CGU_GATE, 0, 12⟩
def CGU_GATE_STATUS_FORCE_COUNT : FieldRef := ⟨CGU_GATE_STATUS, 24, 8⟩
def CGU_GATE_STATUS_GATED : FieldRef := ⟨CGU_GATE_STATUS, 0, 23⟩
def CGU_DOM_SRC_NV : FieldRef := ⟨CGU_DOM_SRC, 8, 2⟩
def CGU_DOM_SRC_PERIPH : FieldRef := ⟨CGU_DOM_SRC, 6, 2⟩
def CGU_DOM_SRC_TBASE : FieldRef := ⟨CGU_DOM_SRC, 4, 2⟩
def CGU_DOM_SRC_MGMT : FieldRef := ⟨CGU_DOM_SRC, 2, 2⟩
def CGU_DOM_SRC_CORE : FieldRef := ⟨CGU_DOM_SRC, 0, 2⟩
def CGU_SWITCH_STATUS_SWITCH_COUNT : FieldRef := ⟨CGU_SWITCH_STATUS, 24, 8⟩
def CGU_SWITCH_STATUS_BUSY : FieldRef := ⟨CGU_SWITCH_STATUS, 13, 1⟩
def CGU_SWITCH_STATUS_ABANDONED : FieldRef := ⟨CGU_SWITCH_STATUS, 12, 1⟩
def CGU_SWITCH_STATUS_UNKNOWN : FieldRef := ⟨CGU_SWITCH_STATUS, 11, 1⟩
def CGU_SWITCH_STATUS_DOMAIN : FieldRef := ⟨CGU_SWITCH_STATUS, 8, 3⟩
def CGU_SWITCH_STATUS_LOST_NEW : FieldRef := ⟨CGU_SWITCH_STATUS, 4, 4⟩
def CGU_SWITCH_STATUS_LOST_OLD : FieldRef := ⟨CGU_SWITCH_STATUS, 0, 4⟩
def CGU_CLKOUT_SRC : FieldRef := ⟨CGU_CLKOUT, 17, 3⟩
def CGU_CLKOUT_DIV : FieldRef := ⟨CGU_CLKOUT, 0, 17⟩
def REFM_CFG_OVERRIDE (n : Nat) : FieldRef := ⟨(REFM_CFG n), 14, 2⟩
def REFM_CFG_PJ_ACTION (n : Nat) : FieldRef := ⟨(REFM_CFG n), 13, 1⟩
def REFM_CFG_FAST (n : Nat) : FieldRef := ⟨(REFM_CFG n), 12, 1⟩
def REFM_CFG_EDGE (n : Nat) : FieldRef := ⟨(REFM_CFG n), 11, 1⟩
def REFM_CFG_TYPE (n : Nat) : FieldRef := ⟨(REFM_CFG n), 10, 1⟩
def REFM_CFG_FORMAT (n : Nat) : FieldRef := ⟨(REFM_CFG n), 8, 2⟩
def REFM_CFG_TERM (n : Nat) : FieldRef := ⟨(REFM_CFG n), 7, 1⟩
def REFM_CFG_BIAS (n : Nat) : FieldRef := ⟨(REFM_CFG n), 6, 1⟩
def REFM_CFG_ENABLE (n : Nat) : FieldRef := ⟨(REFM_CFG n), 0, 1⟩
def REFM_FNOM_FNOM (n : Nat) : FieldRef := ⟨(REFM_FNOM n), 0, 30⟩
def REFM_DIV_DIV (n : Nat) : FieldRef := ⟨(REFM_DIV n), 0, 24⟩
def REFM_SOFT_LIMIT (n : Nat) : FieldRef := ⟨(REFM_SOFT n), 0, 21⟩
def REFM_HARD_LIMIT (n : Nat) : FieldRef := ⟨(REFM_HARD n), 0, 21⟩
def REFM_REENTRY_LIMIT (n : Nat) : FieldRef := ⟨(REFM_REENTRY n), 0, 21⟩
def REFM_DRIFT_LEAD (n : Nat) : FieldRef := ⟨(REFM_DRIFT n), 16, 16⟩
def REFM_DRIFT_DRIFT_LIM (n : Nat) : FieldRef := ⟨(REFM_DRIFT n), 0, 16⟩
def REFM_TIMES_WTR (n : Nat) : FieldRef := ⟨(REFM_TIMES n), 20, 12⟩
def REFM_TIMES_QUAL (n : Nat) : FieldRef := ⟨(REFM_TIMES n), 12, 8⟩
def REFM_TIMES_ACT_LIMIT (n : Nat) : FieldRef := ⟨(REFM_TIMES n), 0, 12⟩
def REFM_PJ_PJ_LIMIT (n : Nat) : FieldRef := ⟨(REFM_PJ n), 0, 24⟩
def REFM_PW_PW_MAX (n : Nat) : FieldRef := ⟨(REFM_PW n), 16, 16⟩
def REFM_PW_PW_MIN (n : Nat) : FieldRef := ⟨(REFM_PW n), 0, 16⟩
def REFM_STATE_WAIT_LEFT (n : Nat) : FieldRef := ⟨(REFM_STATE n), 20, 12⟩
def REFM_STATE_CAUSE (n : Nat) : FieldRef := ⟨(REFM_STATE n), 12, 8⟩
def REFM_STATE_CFG_ERR (n : Nat) : FieldRef := ⟨(REFM_STATE n), 11, 1⟩
def REFM_STATE_FROZEN (n : Nat) : FieldRef := ⟨(REFM_STATE n), 10, 1⟩
def REFM_STATE_DRIFT_VALID (n : Nat) : FieldRef := ⟨(REFM_STATE n), 9, 1⟩
def REFM_STATE_LONG_VALID (n : Nat) : FieldRef := ⟨(REFM_STATE n), 8, 1⟩
def REFM_STATE_SHORT_VALID (n : Nat) : FieldRef := ⟨(REFM_STATE n), 7, 1⟩
def REFM_STATE_FAILED_ONCE (n : Nat) : FieldRef := ⟨(REFM_STATE n), 6, 1⟩
def REFM_STATE_KIND (n : Nat) : FieldRef := ⟨(REFM_STATE n), 5, 1⟩
def REFM_STATE_STATE (n : Nat) : FieldRef := ⟨(REFM_STATE n), 0, 3⟩
def REFM_EVT_STATE_CHG (n : Nat) : FieldRef := ⟨(REFM_EVT n), 8, 1⟩
def REFM_EVT_COND (n : Nat) : FieldRef := ⟨(REFM_EVT n), 0, 8⟩
def REFM_YS_OFFSET (n : Nat) : FieldRef := ⟨(REFM_YS n), 0, 32⟩
def REFM_YL_OFFSET (n : Nat) : FieldRef := ⟨(REFM_YL n), 0, 32⟩
def REFM_DRATE_DRATE (n : Nat) : FieldRef := ⟨(REFM_DRATE n), 0, 32⟩
def REFM_TCROSS_TCROSS (n : Nat) : FieldRef := ⟨(REFM_TCROSS n), 0, 24⟩
def REFM_PJ_LAST_RESIDUAL (n : Nat) : FieldRef := ⟨(REFM_PJ_LAST n), 0, 32⟩
def REFM_COUNT_FAIL_COUNT (n : Nat) : FieldRef := ⟨(REFM_COUNT n), 24, 8⟩
def REFM_COUNT_PJ_COUNT (n : Nat) : FieldRef := ⟨(REFM_COUNT n), 16, 8⟩
def REFM_COUNT_BAD_PULSE (n : Nat) : FieldRef := ⟨(REFM_COUNT n), 0, 16⟩
def REFM_GOOD_LO_GOOD : FieldRef := ⟨REFM_GOOD_LO, 0, 32⟩
def REFM_GOOD_HI_GOOD : FieldRef := ⟨REFM_GOOD_HI, 0, 32⟩
def REFM_EVT_SUM_LO_EVT_SUM : FieldRef := ⟨REFM_EVT_SUM_LO, 0, 32⟩
def REFM_EVT_SUM_HI_EVT_SUM : FieldRef := ⟨REFM_EVT_SUM_HI, 0, 32⟩
def REFM_TOD_CFG_UTC_OFS : FieldRef := ⟨REFM_TOD_CFG, 24, 8⟩
def REFM_TOD_CFG_LEAP : FieldRef := ⟨REFM_TOD_CFG, 22, 2⟩
def REFM_TOD_CFG_WINDOW : FieldRef := ⟨REFM_TOD_CFG, 12, 10⟩
def REFM_TOD_CFG_TX_EN : FieldRef := ⟨REFM_TOD_CFG, 11, 1⟩
def REFM_TOD_CFG_RX_EN : FieldRef := ⟨REFM_TOD_CFG, 10, 1⟩
def REFM_TOD_CFG_ALIGN : FieldRef := ⟨REFM_TOD_CFG, 9, 1⟩
def REFM_TOD_CFG_BAUD : FieldRef := ⟨REFM_TOD_CFG, 6, 3⟩
def REFM_TOD_CFG_PULSE_REF : FieldRef := ⟨REFM_TOD_CFG, 0, 4⟩
def REFM_TOD_STATUS_BAD_SENTENCES : FieldRef := ⟨REFM_TOD_STATUS, 24, 8⟩
def REFM_TOD_STATUS_PAIRED : FieldRef := ⟨REFM_TOD_STATUS, 16, 8⟩
def REFM_TOD_STATUS_LAST_OFS : FieldRef := ⟨REFM_TOD_STATUS, 8, 8⟩
def REFM_TOD_STATUS_LOCK : FieldRef := ⟨REFM_TOD_STATUS, 7, 1⟩
def REFM_TOD_STATUS_DISCONT : FieldRef := ⟨REFM_TOD_STATUS, 6, 1⟩
def REFM_TOD_STATUS_LEAP_DONE : FieldRef := ⟨REFM_TOD_STATUS, 5, 1⟩
def REFM_TOD_STATUS_LAST_KIND : FieldRef := ⟨REFM_TOD_STATUS, 0, 2⟩
def REFM_TOD_SEC_LO_SEC_LO : FieldRef := ⟨REFM_TOD_SEC_LO, 0, 32⟩
def REFM_TOD_SEC_HI_SEC_HI : FieldRef := ⟨REFM_TOD_SEC_HI, 0, 16⟩
def SEL_CTRL_AVG (l : Nat) : FieldRef := ⟨(SEL_CTRL l), 24, 7⟩
def SEL_CTRL_QL_MIN (l : Nat) : FieldRef := ⟨(SEL_CTRL l), 20, 4⟩
def SEL_CTRL_QL_EN (l : Nat) : FieldRef := ⟨(SEL_CTRL l), 19, 1⟩
def SEL_CTRL_REVERT (l : Nat) : FieldRef := ⟨(SEL_CTRL l), 18, 1⟩
def SEL_CTRL_CHG (l : Nat) : FieldRef := ⟨(SEL_CTRL l), 16, 2⟩
def SEL_CTRL_MANUAL_REF (l : Nat) : FieldRef := ⟨(SEL_CTRL l), 8, 6⟩
def SEL_CTRL_MODE (l : Nat) : FieldRef := ⟨(SEL_CTRL l), 0, 2⟩
def SEL_RANK_RANK_0 (l k : Nat) : FieldRef := ⟨(SEL_RANK l k), 0, 4⟩
def SEL_RANK_RANK_1 (l k : Nat) : FieldRef := ⟨(SEL_RANK l k), 4, 4⟩
def SEL_RANK_RANK_2 (l k : Nat) : FieldRef := ⟨(SEL_RANK l k), 8, 4⟩
def SEL_RANK_RANK_3 (l k : Nat) : FieldRef := ⟨(SEL_RANK l k), 12, 4⟩
def SEL_RANK_RANK_4 (l k : Nat) : FieldRef := ⟨(SEL_RANK l k), 16, 4⟩
def SEL_RANK_RANK_5 (l k : Nat) : FieldRef := ⟨(SEL_RANK l k), 20, 4⟩
def SEL_RANK_RANK_6 (l k : Nat) : FieldRef := ⟨(SEL_RANK l k), 24, 4⟩
def SEL_RANK_RANK_7 (l k : Nat) : FieldRef := ⟨(SEL_RANK l k), 28, 4⟩
def SEL_QL_RANK_0 (l k : Nat) : FieldRef := ⟨(SEL_QL l k), 0, 4⟩
def SEL_QL_RANK_1 (l k : Nat) : FieldRef := ⟨(SEL_QL l k), 4, 4⟩
def SEL_QL_RANK_2 (l k : Nat) : FieldRef := ⟨(SEL_QL l k), 8, 4⟩
def SEL_QL_RANK_3 (l k : Nat) : FieldRef := ⟨(SEL_QL l k), 12, 4⟩
def SEL_QL_RANK_4 (l k : Nat) : FieldRef := ⟨(SEL_QL l k), 16, 4⟩
def SEL_QL_RANK_5 (l k : Nat) : FieldRef := ⟨(SEL_QL l k), 20, 4⟩
def SEL_QL_RANK_6 (l k : Nat) : FieldRef := ⟨(SEL_QL l k), 24, 4⟩
def SEL_QL_RANK_7 (l k : Nat) : FieldRef := ⟨(SEL_QL l k), 28, 4⟩
def SEL_AGREE_SUSPECT_CLR (l : Nat) : FieldRef := ⟨(SEL_AGREE l), 24, 8⟩
def SEL_AGREE_WINDOW (l : Nat) : FieldRef := ⟨(SEL_AGREE l), 0, 24⟩
def SEL_ALIGN_LO_ALIGN_LO (l : Nat) : FieldRef := ⟨(SEL_ALIGN_LO l), 0, 32⟩
def SEL_ALIGN_HI_ALIGN_HI (l : Nat) : FieldRef := ⟨(SEL_ALIGN_HI l), 0, 16⟩
def SEL_BLEED_RATE (l : Nat) : FieldRef := ⟨(SEL_BLEED l), 0, 32⟩
def SEL_STATUS_CAND_COUNT (l : Nat) : FieldRef := ⟨(SEL_STATUS l), 24, 7⟩
def SEL_STATUS_ACTIVE_PRIO (l : Nat) : FieldRef := ⟨(SEL_STATUS l), 20, 4⟩
def SEL_STATUS_ACTIVE_QL (l : Nat) : FieldRef := ⟨(SEL_STATUS l), 16, 4⟩
def SEL_STATUS_BASIS (l : Nat) : FieldRef := ⟨(SEL_STATUS l), 13, 3⟩
def SEL_STATUS_BLEEDING (l : Nat) : FieldRef := ⟨(SEL_STATUS l), 12, 1⟩
def SEL_STATUS_CHG_BUSY (l : Nat) : FieldRef := ⟨(SEL_STATUS l), 11, 1⟩
def SEL_STATUS_VALID (l : Nat) : FieldRef := ⟨(SEL_STATUS l), 8, 1⟩
def SEL_STATUS_ACTIVE_REF (l : Nat) : FieldRef := ⟨(SEL_STATUS l), 0, 6⟩
def SEL_EVT_TIE (l : Nat) : FieldRef := ⟨(SEL_EVT l), 5, 1⟩
def SEL_EVT_NEW_SUSPECT (l : Nat) : FieldRef := ⟨(SEL_EVT l), 4, 1⟩
def SEL_EVT_MANUAL_LOST (l : Nat) : FieldRef := ⟨(SEL_EVT l), 3, 1⟩
def SEL_EVT_NO_CAND (l : Nat) : FieldRef := ⟨(SEL_EVT l), 2, 1⟩
def SEL_EVT_ABANDONED (l : Nat) : FieldRef := ⟨(SEL_EVT l), 1, 1⟩
def SEL_EVT_CHANGEOVER (l : Nat) : FieldRef := ⟨(SEL_EVT l), 0, 1⟩
def SEL_PBO_LO_VALUE_LO (l : Nat) : FieldRef := ⟨(SEL_PBO_LO l), 0, 32⟩
def SEL_DELTA_LO_VALUE_LO (l : Nat) : FieldRef := ⟨(SEL_DELTA_LO l), 0, 32⟩
def SEL_PBO_HI_VALUE_HI (l : Nat) : FieldRef := ⟨(SEL_PBO_HI l), 0, 16⟩
def SEL_DELTA_HI_VALUE_HI (l : Nat) : FieldRef := ⟨(SEL_DELTA_HI l), 0, 16⟩
def SEL_COUNT_CHANGEOVERS (l : Nat) : FieldRef := ⟨(SEL_COUNT l), 16, 16⟩
def SEL_COUNT_ABANDONS (l : Nat) : FieldRef := ⟨(SEL_COUNT l), 8, 8⟩
def SEL_CAND_LO_MAP (l : Nat) : FieldRef := ⟨(SEL_CAND_LO l), 0, 32⟩
def SEL_CAND_HI_MAP (l : Nat) : FieldRef := ⟨(SEL_CAND_HI l), 0, 32⟩
def SEL_SUSPECT_LO_MAP (l : Nat) : FieldRef := ⟨(SEL_SUSPECT_LO l), 0, 32⟩
def SEL_SUSPECT_HI_MAP (l : Nat) : FieldRef := ⟨(SEL_SUSPECT_HI l), 0, 32⟩
def DPL_CFG_SRC_ID (l : Nat) : FieldRef := ⟨(DPL_CFG l), 24, 8⟩
def DPL_CFG_SRC (l : Nat) : FieldRef := ⟨(DPL_CFG l), 20, 3⟩
def DPL_CFG_AXLE (l : Nat) : FieldRef := ⟨(DPL_CFG l), 16, 3⟩
def DPL_CFG_ACQ_SHIFT (l : Nat) : FieldRef := ⟨(DPL_CFG l), 8, 3⟩
def DPL_CFG_PRESET (l : Nat) : FieldRef := ⟨(DPL_CFG l), 3, 1⟩
def DPL_CFG_STEP_EN (l : Nat) : FieldRef := ⟨(DPL_CFG l), 2, 1⟩
def DPL_CFG_ENABLE (l : Nat) : FieldRef := ⟨(DPL_CFG l), 0, 1⟩
def DPL_CTRL_FORCE (l : Nat) : FieldRef := ⟨(DPL_CTRL l), 0, 2⟩
def DPL_KP_EXP (l : Nat) : FieldRef := ⟨(DPL_KP l), 24, 6⟩
def DPL_KP_MANT (l : Nat) : FieldRef := ⟨(DPL_KP l), 0, 24⟩
def DPL_KI_EXP (l : Nat) : FieldRef := ⟨(DPL_KI l), 24, 6⟩
def DPL_KI_MANT (l : Nat) : FieldRef := ⟨(DPL_KI l), 0, 24⟩
def DPL_SLOPE_PSL (l : Nat) : FieldRef := ⟨(DPL_SLOPE l), 0, 24⟩
def DPL_FSL_FSL (l : Nat) : FieldRef := ⟨(DPL_FSL l), 0, 24⟩
def DPL_LOCK_UNLOCK_THR (l : Nat) : FieldRef := ⟨(DPL_LOCK l), 16, 16⟩
def DPL_LOCK_LOCK_THR (l : Nat) : FieldRef := ⟨(DPL_LOCK l), 0, 16⟩
def DPL_LOCK_TIME_UNLOCK_CNT (l : Nat) : FieldRef := ⟨(DPL_LOCK_TIME l), 24, 8⟩
def DPL_LOCK_TIME_LOCK_TIME (l : Nat) : FieldRef := ⟨(DPL_LOCK_TIME l), 12, 12⟩
def DPL_LOCK_TIME_STEP_MIN (l : Nat) : FieldRef := ⟨(DPL_LOCK_TIME l), 0, 12⟩
def DPL_TU_TU (l : Nat) : FieldRef := ⟨(DPL_TU l), 0, 32⟩
def DPL_GPER_GPER (l : Nat) : FieldRef := ⟨(DPL_GPER l), 0, 32⟩
def DPL_RAMP_CTRL_KIND (l : Nat) : FieldRef := ⟨(DPL_RAMP_CTRL l), 2, 1⟩
def DPL_RAMP_CTRL_ABORT (l : Nat) : FieldRef := ⟨(DPL_RAMP_CTRL l), 1, 1⟩
def DPL_RAMP_CTRL_START (l : Nat) : FieldRef := ⟨(DPL_RAMP_CTRL l), 0, 1⟩
def DPL_RAMP_RATE_RATE (l : Nat) : FieldRef := ⟨(DPL_RAMP_RATE l), 0, 32⟩
def DPL_RAMP_VAL_LO_VAL_LO (l : Nat) : FieldRef := ⟨(DPL_RAMP_VAL_LO l), 0, 32⟩
def DPL_RAMP_VAL_HI_VAL_HI (l : Nat) : FieldRef := ⟨(DPL_RAMP_VAL_HI l), 0, 16⟩
def DPL_STATUS_GAIN_CLAMP (l : Nat) : FieldRef := ⟨(DPL_STATUS l), 23, 1⟩
def DPL_STATUS_PULL_LIMIT (l : Nat) : FieldRef := ⟨(DPL_STATUS l), 22, 1⟩
def DPL_STATUS_SLOPE_LIMIT (l : Nat) : FieldRef := ⟨(DPL_STATUS l), 21, 1⟩
def DPL_STATUS_FSL_LIMIT (l : Nat) : FieldRef := ⟨(DPL_STATUS l), 20, 1⟩
def DPL_STATUS_STEPPING (l : Nat) : FieldRef := ⟨(DPL_STATUS l), 19, 1⟩
def DPL_STATUS_RAMP_BUSY (l : Nat) : FieldRef := ⟨(DPL_STATUS l), 18, 1⟩
def DPL_STATUS_FLYWHEEL (l : Nat) : FieldRef := ⟨(DPL_STATUS l), 17, 1⟩
def DPL_STATUS_STATE (l : Nat) : FieldRef := ⟨(DPL_STATUS l), 0, 3⟩
def DPL_EVT_CFG_ERR (l : Nat) : FieldRef := ⟨(DPL_EVT l), 7, 1⟩
def DPL_EVT_RAMP_ABORTED (l : Nat) : FieldRef := ⟨(DPL_EVT l), 6, 1⟩
def DPL_EVT_RAMP_DONE (l : Nat) : FieldRef := ⟨(DPL_EVT l), 5, 1⟩
def DPL_EVT_STEP (l : Nat) : FieldRef := ⟨(DPL_EVT l), 4, 1⟩
def DPL_EVT_PULL_LIMIT (l : Nat) : FieldRef := ⟨(DPL_EVT l), 3, 1⟩
def DPL_EVT_LOSS (l : Nat) : FieldRef := ⟨(DPL_EVT l), 2, 1⟩
def DPL_EVT_UNLOCK (l : Nat) : FieldRef := ⟨(DPL_EVT l), 1, 1⟩
def DPL_EVT_STATE_CHG (l : Nat) : FieldRef := ⟨(DPL_EVT l), 0, 1⟩
def DPL_FREQ_LO_VALUE_LO (l : Nat) : FieldRef := ⟨(DPL_FREQ_LO l), 0, 32⟩
def DPL_PHERR_LO_VALUE_LO (l : Nat) : FieldRef := ⟨(DPL_PHERR_LO l), 0, 32⟩
def DPL_RAMP_ACC_LO_VALUE_LO (l : Nat) : FieldRef := ⟨(DPL_RAMP_ACC_LO l), 0, 32⟩
def DPL_FREQ_HI_VALUE_HI (l : Nat) : FieldRef := ⟨(DPL_FREQ_HI l), 0, 16⟩
def DPL_PHERR_HI_VALUE_HI (l : Nat) : FieldRef := ⟨(DPL_PHERR_HI l), 0, 16⟩
def DPL_RAMP_ACC_HI_VALUE_HI (l : Nat) : FieldRef := ⟨(DPL_RAMP_ACC_HI l), 0, 16⟩
def DPL_COUNT_STEPS (l : Nat) : FieldRef := ⟨(DPL_COUNT l), 24, 8⟩
def DPL_COUNT_UNLOCKS (l : Nat) : FieldRef := ⟨(DPL_COUNT l), 16, 8⟩
def DPL_COUNT_STATE_CHANGES (l : Nat) : FieldRef := ⟨(DPL_COUNT l), 0, 16⟩
def DPL_LEAD_LEAD : FieldRef := ⟨DPL_LEAD, 0, 2⟩
def HOLD_CFG_LOOP_EN : FieldRef := ⟨HOLD_CFG, 24, 4⟩
def HOLD_CFG_LEARN_SRC : FieldRef := ⟨HOLD_CFG, 20, 2⟩
def HOLD_CFG_CAL_AUTO : FieldRef := ⟨HOLD_CFG, 19, 1⟩
def HOLD_CFG_TS_EN : FieldRef := ⟨HOLD_CFG, 18, 1⟩
def HOLD_CFG_LEARN_EN : FieldRef := ⟨HOLD_CFG, 17, 1⟩
def HOLD_LEARN_FORGET : FieldRef := ⟨HOLD_LEARN, 16, 16⟩
def HOLD_LEARN_MIN_LEARN : FieldRef := ⟨HOLD_LEARN, 0, 13⟩
def HOLD_EXPIRY_CONF_MIN : FieldRef := ⟨HOLD_EXPIRY, 24, 8⟩
def HOLD_EXPIRY_COMMIT : FieldRef := ⟨HOLD_EXPIRY, 16, 8⟩
def HOLD_EXPIRY_HOLD_LIMIT : FieldRef := ⟨HOLD_EXPIRY, 0, 16⟩
def HOLD_ELIM_E_LIM : FieldRef := ⟨HOLD_ELIM, 0, 32⟩
def HOLD_BIAS_GUARD : FieldRef := ⟨HOLD_BIAS, 24, 8⟩
def HOLD_BIAS_WIN : FieldRef := ⟨HOLD_BIAS, 0, 12⟩
def HOLD_TSENS_SLEW_LIM : FieldRef := ⟨HOLD_TSENS, 24, 8⟩
def HOLD_TSENS_POINTER : FieldRef := ⟨HOLD_TSENS, 16, 8⟩
def HOLD_TSENS_FORMAT : FieldRef := ⟨HOLD_TSENS, 15, 1⟩
def HOLD_TSENS_MASTER : FieldRef := ⟨HOLD_TSENS, 13, 2⟩
def HOLD_TSENS_ADDR : FieldRef := ⟨HOLD_TSENS, 0, 7⟩
def HOLD_CTRL_COMMIT_NOW : FieldRef := ⟨HOLD_CTRL, 1, 1⟩
def HOLD_CTRL_CLEAR : FieldRef := ⟨HOLD_CTRL, 0, 1⟩
def HOLD_STATUS_TSENS_FAIL : FieldRef := ⟨HOLD_STATUS, 19, 1⟩
def HOLD_STATUS_SLEW : FieldRef := ⟨HOLD_STATUS, 18, 1⟩
def HOLD_STATUS_RESTORED : FieldRef := ⟨HOLD_STATUS, 17, 1⟩
def HOLD_STATUS_CAL_VALID : FieldRef := ⟨HOLD_STATUS, 16, 1⟩
def HOLD_STATUS_HOLDING : FieldRef := ⟨HOLD_STATUS, 12, 4⟩
def HOLD_STATUS_OFFERED : FieldRef := ⟨HOLD_STATUS, 8, 4⟩
def HOLD_STATUS_TERMS : FieldRef := ⟨HOLD_STATUS, 4, 4⟩
def HOLD_STATUS_STAGE : FieldRef := ⟨HOLD_STATUS, 0, 2⟩
def HOLD_EVT_CLEAR_REFUSED : FieldRef := ⟨HOLD_EVT, 6, 1⟩
def HOLD_EVT_CAL_WRITTEN : FieldRef := ⟨HOLD_EVT, 5, 1⟩
def HOLD_EVT_COMMIT_FAIL : FieldRef := ⟨HOLD_EVT, 4, 1⟩
def HOLD_EVT_RESTORE_FAIL : FieldRef := ⟨HOLD_EVT, 3, 1⟩
def HOLD_EVT_EXPIRY : FieldRef := ⟨HOLD_EVT, 2, 1⟩
def HOLD_EVT_HOLD_ENTRY : FieldRef := ⟨HOLD_EVT, 1, 1⟩
def HOLD_EVT_STAGE_CHG : FieldRef := ⟨HOLD_EVT, 0, 1⟩
def HOLD_LEARNT_DISCARDS : FieldRef := ⟨HOLD_LEARNT, 20, 12⟩
def HOLD_LEARNT_LEARN_MIN : FieldRef := ⟨HOLD_LEARNT, 0, 20⟩
def HOLD_YPRED_LO_VALUE_LO : FieldRef := ⟨HOLD_YPRED_LO, 0, 32⟩
def HOLD_CAL_LO_VALUE_LO : FieldRef := ⟨HOLD_CAL_LO, 0, 32⟩
def HOLD_YPRED_HI_VALUE_HI : FieldRef := ⟨HOLD_YPRED_HI, 0, 16⟩
def HOLD_CAL_HI_VALUE_HI : FieldRef := ⟨HOLD_CAL_HI, 0, 16⟩
def HOLD_AGE_VALUE : FieldRef := ⟨HOLD_AGE, 0, 32⟩
def HOLD_TC1_VALUE : FieldRef := ⟨HOLD_TC1, 0, 32⟩
def HOLD_TC2_VALUE : FieldRef := ⟨HOLD_TC2, 0, 32⟩
def HOLD_UA_VALUE : FieldRef := ⟨HOLD_UA, 0, 32⟩
def HOLD_UT_VALUE : FieldRef := ⟨HOLD_UT, 0, 32⟩
def HOLD_TEMP_T_REF : FieldRef := ⟨HOLD_TEMP, 16, 16⟩
def HOLD_TEMP_T_NOW : FieldRef := ⟨HOLD_TEMP, 0, 16⟩
def HOLD_LP_STATUS_CONF (l : Nat) : FieldRef := ⟨(HOLD_LP_STATUS l), 24, 8⟩
def HOLD_LP_STATUS_TAU (l : Nat) : FieldRef := ⟨(HOLD_LP_STATUS l), 0, 24⟩
def HOLD_LP_ERR_VALUE (l : Nat) : FieldRef := ⟨(HOLD_LP_ERR l), 0, 32⟩
def HOLD_LP_UY_VALUE (l : Nat) : FieldRef := ⟨(HOLD_LP_UY l), 0, 32⟩
def HOLD_LP_THETA_VALUE (l : Nat) : FieldRef := ⟨(HOLD_LP_THETA l), 0, 32⟩
def AXL_CFG_ENTRY (n : Nat) : FieldRef := ⟨(AXL_CFG n), 16, 4⟩
def AXL_CFG_DLL_HOLD (n : Nat) : FieldRef := ⟨(AXL_CFG n), 8, 1⟩
def AXL_CFG_STEP_MODE (n : Nat) : FieldRef := ⟨(AXL_CFG n), 4, 1⟩
def AXL_CFG_ENABLE (n : Nat) : FieldRef := ⟨(AXL_CFG n), 0, 1⟩
def AXL_CTRL_STEP_ABORT (n : Nat) : FieldRef := ⟨(AXL_CTRL n), 1, 1⟩
def AXL_CTRL_SEARCH (n : Nat) : FieldRef := ⟨(AXL_CTRL n), 0, 1⟩
def AXL_FWORD_LO_FWORD_LO (n : Nat) : FieldRef := ⟨(AXL_FWORD_LO n), 0, 32⟩
def AXL_FWORD_HI_FWORD_HI (n : Nat) : FieldRef := ⟨(AXL_FWORD_HI n), 0, 16⟩
def AXL_STEP_LO_STEP_LO (n : Nat) : FieldRef := ⟨(AXL_STEP_LO n), 0, 32⟩
def AXL_STEP_HI_STEP_HI (n : Nat) : FieldRef := ⟨(AXL_STEP_HI n), 0, 16⟩
def AXL_STEP_RATE_RATE (n : Nat) : FieldRef := ⟨(AXL_STEP_RATE n), 0, 9⟩
def AXL_LOCK_SQ_HOLD (n : Nat) : FieldRef := ⟨(AXL_LOCK n), 0, 10⟩
def AXL_STEP_LEFT_LO_LEFT_LO (n : Nat) : FieldRef := ⟨(AXL_STEP_LEFT_LO n), 0, 32⟩
def AXL_STEP_LEFT_HI_LEFT_HI (n : Nat) : FieldRef := ⟨(AXL_STEP_LEFT_HI n), 0, 16⟩
def AXL_STATUS_BAND (n : Nat) : FieldRef := ⟨(AXL_STATUS n), 24, 7⟩
def AXL_STATUS_FINE (n : Nat) : FieldRef := ⟨(AXL_STATUS n), 12, 10⟩
def AXL_STATUS_ENTRY_IN_FORCE (n : Nat) : FieldRef := ⟨(AXL_STATUS n), 8, 4⟩
def AXL_STATUS_LANE_FB (n : Nat) : FieldRef := ⟨(AXL_STATUS n), 7, 1⟩
def AXL_STATUS_SQUELCH (n : Nat) : FieldRef := ⟨(AXL_STATUS n), 6, 1⟩
def AXL_STATUS_STEP_BUSY (n : Nat) : FieldRef := ⟨(AXL_STATUS n), 5, 1⟩
def AXL_STATUS_DLL_MODE (n : Nat) : FieldRef := ⟨(AXL_STATUS n), 4, 1⟩
def AXL_STATUS_STATE (n : Nat) : FieldRef := ⟨(AXL_STATUS n), 0, 3⟩
def AXL_EVT_STEP_DROPPED (n : Nat) : FieldRef := ⟨(AXL_EVT n), 6, 1⟩
def AXL_EVT_STEP_DONE (n : Nat) : FieldRef := ⟨(AXL_EVT n), 5, 1⟩
def AXL_EVT_BAND_FAIL (n : Nat) : FieldRef := ⟨(AXL_EVT n), 4, 1⟩
def AXL_EVT_SEARCH_DONE (n : Nat) : FieldRef := ⟨(AXL_EVT n), 3, 1⟩
def AXL_EVT_HOP (n : Nat) : FieldRef := ⟨(AXL_EVT n), 2, 1⟩
def AXL_EVT_LOL (n : Nat) : FieldRef := ⟨(AXL_EVT n), 1, 1⟩
def AXL_EVT_STATE_CHG (n : Nat) : FieldRef := ⟨(AXL_EVT n), 0, 1⟩
def AXL_COUNT_LOL_COUNT (n : Nat) : FieldRef := ⟨(AXL_COUNT n), 16, 16⟩
def AXL_COUNT_SEARCHES (n : Nat) : FieldRef := ⟨(AXL_COUNT n), 8, 8⟩
def AXL_COUNT_HOPS (n : Nat) : FieldRef := ⟨(AXL_COUNT n), 0, 8⟩
def AXL_BAND_LO_RATIO_LO (n k : Nat) : FieldRef := ⟨(AXL_BAND_LO n k), 0, 32⟩
def AXL_BAND_HI_RATIO_HI (n k : Nat) : FieldRef := ⟨(AXL_BAND_HI n k), 0, 16⟩
def AXL_BAND_CODE_VALID (n k : Nat) : FieldRef := ⟨(AXL_BAND_CODE n k), 31, 1⟩
def AXL_BAND_CODE_TEMP (n k : Nat) : FieldRef := ⟨(AXL_BAND_CODE n k), 23, 8⟩
def AXL_BAND_CODE_BAND (n k : Nat) : FieldRef := ⟨(AXL_BAND_CODE n k), 16, 7⟩
def AXL_BAND_CODE_FINE (n k : Nat) : FieldRef := ⟨(AXL_BAND_CODE n k), 0, 10⟩
def OUT_CFG_POL (n : Nat) : FieldRef := ⟨(OUT_CFG n), 14, 1⟩
def OUT_CFG_QUAL (n : Nat) : FieldRef := ⟨(OUT_CFG n), 12, 2⟩
def OUT_CFG_SQ (n : Nat) : FieldRef := ⟨(OUT_CFG n), 10, 2⟩
def OUT_CFG_LEGS (n : Nat) : FieldRef := ⟨(OUT_CFG n), 8, 2⟩
def OUT_CFG_FORMAT (n : Nat) : FieldRef := ⟨(OUT_CFG n), 4, 3⟩
def OUT_CFG_SRC (n : Nat) : FieldRef := ⟨(OUT_CFG n), 2, 2⟩
def OUT_CFG_MODE (n : Nat) : FieldRef := ⟨(OUT_CFG n), 1, 1⟩
def OUT_CFG_ENABLE (n : Nat) : FieldRef := ⟨(OUT_CFG n), 0, 1⟩
def OUT_DIV_DIV (n : Nat) : FieldRef := ⟨(OUT_DIV n), 0, 32⟩
def OUT_DELAY_COARSE (n : Nat) : FieldRef := ⟨(OUT_DELAY n), 8, 24⟩
def OUT_DELAY_FINE (n : Nat) : FieldRef := ⟨(OUT_DELAY n), 0, 8⟩
def OUT_PERIOD_PERIOD (n : Nat) : FieldRef := ⟨(OUT_PERIOD n), 0, 32⟩
def OUT_WIDTH_WIDTH (n : Nat) : FieldRef := ⟨(OUT_WIDTH n), 0, 32⟩
def OUT_PHASE_LO_PHASE_LO (n : Nat) : FieldRef := ⟨(OUT_PHASE_LO n), 0, 32⟩
def OUT_PHASE_HI_PHASE_HI (n : Nat) : FieldRef := ⟨(OUT_PHASE_HI n), 0, 16⟩
def OUT_STATUS_QUAL_HOLD (n : Nat) : FieldRef := ⟨(OUT_STATUS n), 5, 1⟩
def OUT_STATUS_SQUELCHED (n : Nat) : FieldRef := ⟨(OUT_STATUS n), 4, 1⟩
def OUT_STATUS_KEEP_ACTIVE (n : Nat) : FieldRef := ⟨(OUT_STATUS n), 3, 1⟩
def OUT_STATUS_TIMED (n : Nat) : FieldRef := ⟨(OUT_STATUS n), 2, 1⟩
def OUT_STATUS_STATE (n : Nat) : FieldRef := ⟨(OUT_STATUS n), 0, 2⟩
def OUT_EVT_HOP_OFF (n : Nat) : FieldRef := ⟨(OUT_EVT n), 3, 1⟩
def OUT_EVT_CFG_ERR (n : Nat) : FieldRef := ⟨(OUT_EVT n), 2, 1⟩
def OUT_EVT_REALIGN (n : Nat) : FieldRef := ⟨(OUT_EVT n), 1, 1⟩
def OUT_EVT_STATE_CHG (n : Nat) : FieldRef := ⟨(OUT_EVT n), 0, 1⟩
def OUT_KEEP_EN : FieldRef := ⟨OUT_KEEP, 8, 1⟩
def OUT_KEEP_OUTPUT : FieldRef := ⟨OUT_KEEP, 0, 5⟩
def TIM_CFG_TOD_EN (d : Nat) : FieldRef := ⟨(TIM_CFG d), 0, 1⟩
def TIM_CTRL_STEP (d : Nat) : FieldRef := ⟨(TIM_CTRL d), 2, 1⟩
def TIM_CTRL_SET_SEC (d : Nat) : FieldRef := ⟨(TIM_CTRL d), 1, 1⟩
def TIM_CTRL_SET (d : Nat) : FieldRef := ⟨(TIM_CTRL d), 0, 1⟩
def TIM_STATUS_SEC_PENDING (d : Nat) : FieldRef := ⟨(TIM_STATUS d), 1, 1⟩
def TIM_STATUS_SEC_VALID (d : Nat) : FieldRef := ⟨(TIM_STATUS d), 0, 1⟩
def TIM_EVT_VIGIL_LOST (d : Nat) : FieldRef := ⟨(TIM_EVT d), 6, 1⟩
def TIM_EVT_SLIP_UNKNOWN (d : Nat) : FieldRef := ⟨(TIM_EVT d), 5, 1⟩
def TIM_EVT_TOD_FAR (d : Nat) : FieldRef := ⟨(TIM_EVT d), 4, 1⟩
def TIM_EVT_TOD_CORR (d : Nat) : FieldRef := ⟨(TIM_EVT d), 3, 1⟩
def TIM_EVT_EPOCH_CHG (d : Nat) : FieldRef := ⟨(TIM_EVT d), 2, 1⟩
def TIM_EVT_STEPPED (d : Nat) : FieldRef := ⟨(TIM_EVT d), 1, 1⟩
def TIM_EVT_CFG_ERR (d : Nat) : FieldRef := ⟨(TIM_EVT d), 0, 1⟩
def TIM_INC_LO_INC_LO (d : Nat) : FieldRef := ⟨(TIM_INC_LO d), 0, 32⟩
def TIM_INC_HI_INC_HI (d : Nat) : FieldRef := ⟨(TIM_INC_HI d), 0, 10⟩
def TIM_SET_NS_NS (d : Nat) : FieldRef := ⟨(TIM_SET_NS d), 0, 30⟩
def TIM_SET_SEC_LO_SEC_LO (d : Nat) : FieldRef := ⟨(TIM_SET_SEC_LO d), 0, 32⟩
def TIM_SET_SEC_HI_SEC_HI (d : Nat) : FieldRef := ⟨(TIM_SET_SEC_HI d), 0, 16⟩
def TIM_STEP_SEC_STEP_SEC (d : Nat) : FieldRef := ⟨(TIM_STEP_SEC d), 0, 32⟩
def TIM_STEP_NS_STEP_NS (d : Nat) : FieldRef := ⟨(TIM_STEP_NS d), 0, 32⟩
def TIM_NOW0_FRAC (d : Nat) : FieldRef := ⟨(TIM_NOW0 d), 0, 32⟩
def TIM_SNAP_A0_FRAC : FieldRef := ⟨TIM_SNAP_A0, 0, 32⟩
def TIM_SNAP_B0_FRAC : FieldRef := ⟨TIM_SNAP_B0, 0, 32⟩
def TIM_SNAP_SRV0_FRAC : FieldRef := ⟨TIM_SNAP_SRV0, 0, 32⟩
def TIM_SRV_NOW0_FRAC : FieldRef := ⟨TIM_SRV_NOW0, 0, 32⟩
def TIM_NOW1_NS (d : Nat) : FieldRef := ⟨(TIM_NOW1 d), 0, 30⟩
def TIM_SNAP_A1_NS : FieldRef := ⟨TIM_SNAP_A1, 0, 30⟩
def TIM_SNAP_B1_NS : FieldRef := ⟨TIM_SNAP_B1, 0, 30⟩
def TIM_SNAP_SRV1_NS : FieldRef := ⟨TIM_SNAP_SRV1, 0, 30⟩
def TIM_SRV_NOW1_NS : FieldRef := ⟨TIM_SRV_NOW1, 0, 30⟩
def TIM_NOW2_SEC_LO (d : Nat) : FieldRef := ⟨(TIM_NOW2 d), 0, 32⟩
def TIM_SNAP_A2_SEC_LO : FieldRef := ⟨TIM_SNAP_A2, 0, 32⟩
def TIM_SNAP_B2_SEC_LO : FieldRef := ⟨TIM_SNAP_B2, 0, 32⟩
def TIM_SNAP_SRV2_SEC_LO : FieldRef := ⟨TIM_SNAP_SRV2, 0, 32⟩
def TIM_SRV_NOW2_SEC_LO : FieldRef := ⟨TIM_SRV_NOW2, 0, 32⟩
def TIM_NOW3_SEC_HI (d : Nat) : FieldRef := ⟨(TIM_NOW3 d), 0, 16⟩
def TIM_SNAP_A3_SEC_HI : FieldRef := ⟨TIM_SNAP_A3, 0, 16⟩
def TIM_SNAP_B3_SEC_HI : FieldRef := ⟨TIM_SNAP_B3, 0, 16⟩
def TIM_SNAP_SRV3_SEC_HI : FieldRef := ⟨TIM_SNAP_SRV3, 0, 16⟩
def TIM_SRV_NOW3_SEC_HI : FieldRef := ⟨TIM_SRV_NOW3, 0, 16⟩
def TIM_EPOCH_LO_EPOCH_LO (d : Nat) : FieldRef := ⟨(TIM_EPOCH_LO d), 0, 32⟩
def TIM_EPOCH_HI_EPOCH_HI (d : Nat) : FieldRef := ⟨(TIM_EPOCH_HI d), 0, 16⟩
def TIM_COUNT_EPOCH_CHANGES (d : Nat) : FieldRef := ⟨(TIM_COUNT d), 16, 16⟩
def TIM_COUNT_C_STEPS (d : Nat) : FieldRef := ⟨(TIM_COUNT d), 0, 16⟩
def TIM_SRV_CFG_REVERT_WAIT : FieldRef := ⟨TIM_SRV_CFG, 8, 8⟩
def TIM_SRV_CFG_REVERT : FieldRef := ⟨TIM_SRV_CFG, 3, 1⟩
def TIM_SRV_CFG_FALL : FieldRef := ⟨TIM_SRV_CFG, 2, 1⟩
def TIM_SRV_CFG_AUTO : FieldRef := ⟨TIM_SRV_CFG, 1, 1⟩
def TIM_SRV_CFG_SRC : FieldRef := ⟨TIM_SRV_CFG, 0, 1⟩
def TIM_SRV_RATE_RATE : FieldRef := ⟨TIM_SRV_RATE, 0, 32⟩
def TIM_SRV_TGT_LO_TGT_LO (d : Nat) : FieldRef := ⟨(TIM_SRV_TGT_LO d), 0, 32⟩
def TIM_SRV_TGT_HI_TGT_HI (d : Nat) : FieldRef := ⟨(TIM_SRV_TGT_HI d), 0, 16⟩
def TIM_SRV_STATUS_SLEWING : FieldRef := ⟨TIM_SRV_STATUS, 2, 1⟩
def TIM_SRV_STATUS_SRC_IN_FORCE : FieldRef := ⟨TIM_SRV_STATUS, 1, 1⟩
def TIM_SRV_STATUS_VALID : FieldRef := ⟨TIM_SRV_STATUS, 0, 1⟩
def TIM_SRV_EVT_VALID_SET : FieldRef := ⟨TIM_SRV_EVT, 2, 1⟩
def TIM_SRV_EVT_COMP : FieldRef := ⟨TIM_SRV_EVT, 1, 1⟩
def TIM_SRV_EVT_SRC_CHG : FieldRef := ⟨TIM_SRV_EVT, 0, 1⟩
def TIM_SNAP_CTRL_TRIG : FieldRef := ⟨TIM_SNAP_CTRL, 1, 1⟩
def TIM_SNAP_CTRL_TAKE : FieldRef := ⟨TIM_SNAP_CTRL, 0, 1⟩
def TIM_SNAP_SEQ_SEQ : FieldRef := ⟨TIM_SNAP_SEQ, 0, 32⟩
def GAU_CFG_SRC (n : Nat) : FieldRef := ⟨(GAU_CFG n), 24, 8⟩
def GAU_CFG_STOP_SRC (n : Nat) : FieldRef := ⟨(GAU_CFG n), 16, 8⟩
def GAU_CFG_HYST (n : Nat) : FieldRef := ⟨(GAU_CFG n), 5, 2⟩
def GAU_CFG_STOP_EDGE (n : Nat) : FieldRef := ⟨(GAU_CFG n), 4, 1⟩
def GAU_CFG_EDGE (n : Nat) : FieldRef := ⟨(GAU_CFG n), 3, 1⟩
def GAU_CFG_DOM (n : Nat) : FieldRef := ⟨(GAU_CFG n), 2, 1⟩
def GAU_CFG_MODE (n : Nat) : FieldRef := ⟨(GAU_CFG n), 1, 1⟩
def GAU_CFG_ENABLE (n : Nat) : FieldRef := ⟨(GAU_CFG n), 0, 1⟩
def GAU_TOLL_TOLL (n : Nat) : FieldRef := ⟨(GAU_TOLL n), 0, 32⟩
def GAU_HOLDOFF_HOLDOFF (n : Nat) : FieldRef := ⟨(GAU_HOLDOFF n), 0, 15⟩
def GAU_STAT_CFG_QTY (n : Nat) : FieldRef := ⟨(GAU_STAT_CFG n), 16, 2⟩
def GAU_STAT_CFG_N (n : Nat) : FieldRef := ⟨(GAU_STAT_CFG n), 0, 16⟩
def GAU_STAT_PER_PER (n : Nat) : FieldRef := ⟨(GAU_STAT_PER n), 0, 32⟩
def GAU_STAT_CTRL_ABORT (n : Nat) : FieldRef := ⟨(GAU_STAT_CTRL n), 1, 1⟩
def GAU_STAT_CTRL_START (n : Nat) : FieldRef := ⟨(GAU_STAT_CTRL n), 0, 1⟩
def GAU_STATUS_STAT_BUSY (n : Nat) : FieldRef := ⟨(GAU_STATUS n), 3, 1⟩
def GAU_STATUS_TOLL_OPEN (n : Nat) : FieldRef := ⟨(GAU_STATUS n), 2, 1⟩
def GAU_STATUS_HELD (n : Nat) : FieldRef := ⟨(GAU_STATUS n), 1, 1⟩
def GAU_STATUS_ON_DEFAULT (n : Nat) : FieldRef := ⟨(GAU_STATUS n), 0, 1⟩
def GAU_EVT_CFG_ERR (n : Nat) : FieldRef := ⟨(GAU_EVT n), 7, 1⟩
def GAU_EVT_STAT_ABORTED (n : Nat) : FieldRef := ⟨(GAU_EVT n), 6, 1⟩
def GAU_EVT_STAT_DONE (n : Nat) : FieldRef := ⟨(GAU_EVT n), 5, 1⟩
def GAU_EVT_TIMEOUT (n : Nat) : FieldRef := ⟨(GAU_EVT n), 4, 1⟩
def GAU_EVT_ORDER (n : Nat) : FieldRef := ⟨(GAU_EVT n), 3, 1⟩
def GAU_EVT_STOP_MISSED (n : Nat) : FieldRef := ⟨(GAU_EVT n), 2, 1⟩
def GAU_EVT_MISSED (n : Nat) : FieldRef := ⟨(GAU_EVT n), 1, 1⟩
def GAU_EVT_RESULT (n : Nat) : FieldRef := ⟨(GAU_EVT n), 0, 1⟩
def GAU_COUNT_MISSED (n : Nat) : FieldRef := ⟨(GAU_COUNT n), 16, 16⟩
def GAU_COUNT_STOP_MISSED (n : Nat) : FieldRef := ⟨(GAU_COUNT n), 0, 16⟩
def GAU_COUNT2_IGNORED (n : Nat) : FieldRef := ⟨(GAU_COUNT2 n), 16, 16⟩
def GAU_COUNT2_SKIPPED (n : Nat) : FieldRef := ⟨(GAU_COUNT2 n), 0, 16⟩
def GAU_COUNT3_TIMEOUTS (n : Nat) : FieldRef := ⟨(GAU_COUNT3 n), 16, 16⟩
def GAU_COUNT3_ORDERS (n : Nat) : FieldRef := ⟨(GAU_COUNT3 n), 0, 16⟩
def GAU_RES_SEQ_SEQ (n : Nat) : FieldRef := ⟨(GAU_RES_SEQ n), 0, 32⟩
def GAU_TS0_SUBNS (n : Nat) : FieldRef := ⟨(GAU_TS0 n), 0, 16⟩
def GAU_TS1_NS (n : Nat) : FieldRef := ⟨(GAU_TS1 n), 0, 30⟩
def GAU_TS2_SEC_LO (n : Nat) : FieldRef := ⟨(GAU_TS2 n), 0, 32⟩
def GAU_TS3_SEC_HI (n : Nat) : FieldRef := ⟨(GAU_TS3 n), 0, 16⟩
def GAU_IVL_LO_VALUE_LO (n : Nat) : FieldRef := ⟨(GAU_IVL_LO n), 0, 32⟩
def GAU_STAT_MEAN_LO_VALUE_LO (n : Nat) : FieldRef := ⟨(GAU_STAT_MEAN_LO n), 0, 32⟩
def GAU_STAT_MIN_LO_VALUE_LO (n : Nat) : FieldRef := ⟨(GAU_STAT_MIN_LO n), 0, 32⟩
def GAU_STAT_MAX_LO_VALUE_LO (n : Nat) : FieldRef := ⟨(GAU_STAT_MAX_LO n), 0, 32⟩
def GAU_IVL_HI_VALUE_HI (n : Nat) : FieldRef := ⟨(GAU_IVL_HI n), 0, 32⟩
def GAU_STAT_MEAN_HI_VALUE_HI (n : Nat) : FieldRef := ⟨(GAU_STAT_MEAN_HI n), 0, 32⟩
def GAU_STAT_MIN_HI_VALUE_HI (n : Nat) : FieldRef := ⟨(GAU_STAT_MIN_HI n), 0, 32⟩
def GAU_STAT_MAX_HI_VALUE_HI (n : Nat) : FieldRef := ⟨(GAU_STAT_MAX_HI n), 0, 32⟩
def GAU_STAT_COUNT_COUNT (n : Nat) : FieldRef := ⟨(GAU_STAT_COUNT n), 0, 16⟩
def GAU_STAT_STD_STD (n : Nat) : FieldRef := ⟨(GAU_STAT_STD n), 0, 32⟩
def GAU_GLB_STATUS_THROTTLED : FieldRef := ⟨GAU_GLB_STATUS, 0, 1⟩
def GAU_EVT_SUM_LO_EVT_SUM : FieldRef := ⟨GAU_EVT_SUM_LO, 0, 32⟩
def GAU_EVT_SUM_HI_EVT_SUM : FieldRef := ⟨GAU_EVT_SUM_HI, 0, 32⟩
def TSE_CFG_HOST_DOM : FieldRef := ⟨TSE_CFG, 3, 1⟩
def TSE_CFG_TC_DOM : FieldRef := ⟨TSE_CFG, 2, 1⟩
def TSE_CFG_TC_MODE : FieldRef := ⟨TSE_CFG, 0, 2⟩
def TSE_TXTS_0_VALID : FieldRef := ⟨TSE_TXTS_0, 31, 1⟩
def TSE_TXTS_0_PORT : FieldRef := ⟨TSE_TXTS_0, 16, 6⟩
def TSE_TXTS_0_DOMAIN_NUM : FieldRef := ⟨TSE_TXTS_0, 8, 8⟩
def TSE_TXTS_0_MSG_TYPE : FieldRef := ⟨TSE_TXTS_0, 4, 4⟩
def TSE_TXTS_0_DOM : FieldRef := ⟨TSE_TXTS_0, 0, 1⟩
def TSE_TXTS_1_SEQ_ID : FieldRef := ⟨TSE_TXTS_1, 16, 16⟩
def TSE_TXTS_1_SUBNS : FieldRef := ⟨TSE_TXTS_1, 0, 16⟩
def TSE_TXTS_2_NS : FieldRef := ⟨TSE_TXTS_2, 0, 30⟩
def TSE_TXTS_3_SEC_LO : FieldRef := ⟨TSE_TXTS_3, 0, 32⟩
def TSE_TXTS_4_SEC_HI : FieldRef := ⟨TSE_TXTS_4, 0, 16⟩
def TSE_TXTS_STATUS_OVERFLOWS : FieldRef := ⟨TSE_TXTS_STATUS, 16, 16⟩
def TSE_TXTS_STATUS_LEVEL : FieldRef := ⟨TSE_TXTS_STATUS, 0, 9⟩
def TSE_ESMC_CFG_OWN_RANK : FieldRef := ⟨TSE_ESMC_CFG, 4, 4⟩
def TSE_ESMC_CFG_ENHANCED : FieldRef := ⟨TSE_ESMC_CFG, 1, 1⟩
def TSE_ESMC_CFG_OPTION : FieldRef := ⟨TSE_ESMC_CFG, 0, 1⟩
def TSE_ESMC_RX_LO_MAP_LO : FieldRef := ⟨TSE_ESMC_RX_LO, 0, 32⟩
def TSE_ESMC_TX_LO_MAP_LO : FieldRef := ⟨TSE_ESMC_TX_LO, 0, 32⟩
def TSE_ESMC_RX_HI_MAP_HI : FieldRef := ⟨TSE_ESMC_RX_HI, 0, 16⟩
def TSE_ESMC_TX_HI_MAP_HI : FieldRef := ⟨TSE_ESMC_TX_HI, 0, 16⟩
def TSE_PORT_CFG_HOST_ONE_STEP (p : Nat) : FieldRef := ⟨(TSE_PORT_CFG p), 2, 1⟩
def TSE_PORT_CFG_CAL_REQ (p : Nat) : FieldRef := ⟨(TSE_PORT_CFG p), 1, 1⟩
def TSE_PORT_CFG_TS_EN (p : Nat) : FieldRef := ⟨(TSE_PORT_CFG p), 0, 1⟩
def TSE_PORT_EXT_TX_EXT (p : Nat) : FieldRef := ⟨(TSE_PORT_EXT_TX p), 0, 24⟩
def TSE_PORT_EXT_RX_EXT (p : Nat) : FieldRef := ⟨(TSE_PORT_EXT_RX p), 0, 24⟩
def TSE_PORT_STATUS_QL_RANK (p : Nat) : FieldRef := ⟨(TSE_PORT_STATUS p), 8, 4⟩
def TSE_PORT_STATUS_ESMC_TIMEOUT (p : Nat) : FieldRef := ⟨(TSE_PORT_STATUS p), 3, 1⟩
def TSE_PORT_STATUS_RX_NOPHASE (p : Nat) : FieldRef := ⟨(TSE_PORT_STATUS p), 2, 1⟩
def TSE_PORT_STATUS_CAL_OK (p : Nat) : FieldRef := ⟨(TSE_PORT_STATUS p), 1, 1⟩
def TSE_PORT_EVT_TC_UNMATCHED (p : Nat) : FieldRef := ⟨(TSE_PORT_EVT p), 16, 16⟩
def TSE_PORT_EVT_ONE_STEP_MISS (p : Nat) : FieldRef := ⟨(TSE_PORT_EVT p), 1, 1⟩
def TSE_PORT_EVT_CAL_LOST (p : Nat) : FieldRef := ⟨(TSE_PORT_EVT p), 0, 1⟩
def TSE_PORT_LAT_TX_LAT (p : Nat) : FieldRef := ⟨(TSE_PORT_LAT_TX p), 0, 32⟩
def TSE_PORT_LAT_RX_LAT (p : Nat) : FieldRef := ⟨(TSE_PORT_LAT_RX p), 0, 32⟩
def SESS_CFG_PORT (s : Nat) : FieldRef := ⟨(SESS_CFG s), 24, 6⟩
def SESS_CFG_DOMAIN_NUM (s : Nat) : FieldRef := ⟨(SESS_CFG s), 16, 8⟩
def SESS_CFG_TWO_STEP (s : Nat) : FieldRef := ⟨(SESS_CFG s), 12, 1⟩
def SESS_CFG_TRANSPORT (s : Nat) : FieldRef := ⟨(SESS_CFG s), 10, 2⟩
def SESS_CFG_DELAY (s : Nat) : FieldRef := ⟨(SESS_CFG s), 8, 2⟩
def SESS_CFG_DOM (s : Nat) : FieldRef := ⟨(SESS_CFG s), 7, 1⟩
def SESS_CFG_ROLE (s : Nat) : FieldRef := ⟨(SESS_CFG s), 2, 2⟩
def SESS_CFG_ENABLE (s : Nat) : FieldRef := ⟨(SESS_CFG s), 0, 1⟩
def SESS_INTV_SYNC_TIMEOUT (s : Nat) : FieldRef := ⟨(SESS_INTV s), 24, 8⟩
def SESS_INTV_DELAY_AVG (s : Nat) : FieldRef := ⟨(SESS_INTV s), 16, 3⟩
def SESS_INTV_LOG_DELAY (s : Nat) : FieldRef := ⟨(SESS_INTV s), 8, 8⟩
def SESS_INTV_LOG_SYNC (s : Nat) : FieldRef := ⟨(SESS_INTV s), 0, 8⟩
def SESS_ASYM_ASYM (s : Nat) : FieldRef := ⟨(SESS_ASYM s), 0, 32⟩
def SESS_STATUS_TIMEOUT_EVT (s : Nat) : FieldRef := ⟨(SESS_STATUS s), 5, 1⟩
def SESS_STATUS_CFG_ERR (s : Nat) : FieldRef := ⟨(SESS_STATUS s), 4, 1⟩
def SESS_STATUS_OFFSET_VALID (s : Nat) : FieldRef := ⟨(SESS_STATUS s), 3, 1⟩
def SESS_STATUS_STATE (s : Nat) : FieldRef := ⟨(SESS_STATUS s), 0, 3⟩
def SESS_OFFSET_LO_VALUE_LO (s : Nat) : FieldRef := ⟨(SESS_OFFSET_LO s), 0, 32⟩
def SESS_MPD_LO_VALUE_LO (s : Nat) : FieldRef := ⟨(SESS_MPD_LO s), 0, 32⟩
def SESS_OFFSET_HI_VALUE_HI (s : Nat) : FieldRef := ⟨(SESS_OFFSET_HI s), 0, 16⟩
def SESS_MPD_HI_VALUE_HI (s : Nat) : FieldRef := ⟨(SESS_MPD_HI s), 0, 16⟩
def SESS_COUNT_OFFSETS (s : Nat) : FieldRef := ⟨(SESS_COUNT s), 16, 16⟩
def SESS_COUNT_TIMEOUTS (s : Nat) : FieldRef := ⟨(SESS_COUNT s), 8, 8⟩
def SESS_COUNT_DISCARDS (s : Nat) : FieldRef := ⟨(SESS_COUNT s), 0, 8⟩
def CPL_NODE_REQ_TRACE : FieldRef := ⟨CPL_NODE, 18, 1⟩
def CPL_NODE_DOM : FieldRef := ⟨CPL_NODE, 17, 1⟩
def CPL_NODE_GM : FieldRef := ⟨CPL_NODE, 16, 1⟩
def CPL_NODE_ID : FieldRef := ⟨CPL_NODE, 0, 16⟩
def CPL_NODE_ERR_GM_ERR : FieldRef := ⟨CPL_NODE_ERR, 16, 16⟩
def CPL_NODE_ERR_HOP_ERR : FieldRef := ⟨CPL_NODE_ERR, 0, 16⟩
def CPL_NODE_STATUS_UPSTREAM_ID : FieldRef := ⟨CPL_NODE_STATUS, 16, 16⟩
def CPL_NODE_STATUS_TRACE : FieldRef := ⟨CPL_NODE_STATUS, 7, 1⟩
def CPL_NODE_STATUS_HOP : FieldRef := ⟨CPL_NODE_STATUS, 0, 6⟩
def CPL_NODE_ACC_ACC_ERR : FieldRef := ⟨CPL_NODE_ACC, 0, 32⟩
def CPL_BLEED_RATE : FieldRef := ⟨CPL_BLEED, 0, 32⟩
def CPL_FEED_CFG_PORT (l : Nat) : FieldRef := ⟨(CPL_FEED_CFG l), 0, 6⟩
def CPL_FEED_STATUS_BLEEDING (l : Nat) : FieldRef := ⟨(CPL_FEED_STATUS l), 7, 1⟩
def CPL_FEED_STATUS_GM_SELF (l : Nat) : FieldRef := ⟨(CPL_FEED_STATUS l), 6, 1⟩
def CPL_FEED_STATUS_UNTRACEABLE (l : Nat) : FieldRef := ⟨(CPL_FEED_STATUS l), 5, 1⟩
def CPL_FEED_STATUS_PEER_DOWNSTREAM (l : Nat) : FieldRef := ⟨(CPL_FEED_STATUS l), 4, 1⟩
def CPL_FEED_STATUS_HOP_LIMIT (l : Nat) : FieldRef := ⟨(CPL_FEED_STATUS l), 3, 1⟩
def CPL_FEED_STATUS_DOM_MISMATCH (l : Nat) : FieldRef := ⟨(CPL_FEED_STATUS l), 2, 1⟩
def CPL_FEED_STATUS_NOT_COUPLED (l : Nat) : FieldRef := ⟨(CPL_FEED_STATUS l), 1, 1⟩
def CPL_FEED_STATUS_DELIVER (l : Nat) : FieldRef := ⟨(CPL_FEED_STATUS l), 0, 1⟩
def CPL_FEED_BO_BO (l : Nat) : FieldRef := ⟨(CPL_FEED_BO l), 0, 32⟩
def CPL_PORT_CFG_MISS_LIMIT (p : Nat) : FieldRef := ⟨(CPL_PORT_CFG p), 24, 8⟩
def CPL_PORT_CFG_DELAY_AVG (p : Nat) : FieldRef := ⟨(CPL_PORT_CFG p), 20, 3⟩
def CPL_PORT_CFG_FIT (p : Nat) : FieldRef := ⟨(CPL_PORT_CFG p), 16, 3⟩
def CPL_PORT_CFG_LOG_INTV (p : Nat) : FieldRef := ⟨(CPL_PORT_CFG p), 8, 8⟩
def CPL_PORT_CFG_ENABLE (p : Nat) : FieldRef := ⟨(CPL_PORT_CFG p), 0, 1⟩
def CPL_PORT_ASYM_ASYM_FIX (p : Nat) : FieldRef := ⟨(CPL_PORT_ASYM p), 0, 32⟩
def CPL_PORT_ASYM_PROP_ASYM_PROP (p : Nat) : FieldRef := ⟨(CPL_PORT_ASYM_PROP p), 0, 32⟩
def CPL_PORT_ASYM_UNC_ASYM_UNC (p : Nat) : FieldRef := ⟨(CPL_PORT_ASYM_UNC p), 0, 24⟩
def CPL_PORT_STATUS_OFFSET_VALID (p : Nat) : FieldRef := ⟨(CPL_PORT_STATUS p), 9, 1⟩
def CPL_PORT_STATUS_SEEN (p : Nat) : FieldRef := ⟨(CPL_PORT_STATUS p), 8, 1⟩
def CPL_PORT_STATUS_FAR_GM (p : Nat) : FieldRef := ⟨(CPL_PORT_STATUS p), 7, 1⟩
def CPL_PORT_STATUS_FAR_TRACE (p : Nat) : FieldRef := ⟨(CPL_PORT_STATUS p), 6, 1⟩
def CPL_PORT_STATUS_FAR_PHASE (p : Nat) : FieldRef := ⟨(CPL_PORT_STATUS p), 5, 1⟩
def CPL_PORT_STATUS_FAR_CAL (p : Nat) : FieldRef := ⟨(CPL_PORT_STATUS p), 4, 1⟩
def CPL_PORT_STATUS_READY (p : Nat) : FieldRef := ⟨(CPL_PORT_STATUS p), 3, 1⟩
def CPL_PORT_STATUS_STATE (p : Nat) : FieldRef := ⟨(CPL_PORT_STATUS p), 0, 3⟩
def CPL_PORT_EVT_MAIL_BLOCKED (p : Nat) : FieldRef := ⟨(CPL_PORT_EVT p), 7, 1⟩
def CPL_PORT_EVT_FORCED (p : Nat) : FieldRef := ⟨(CPL_PORT_EVT p), 6, 1⟩
def CPL_PORT_EVT_CRC_ERR (p : Nat) : FieldRef := ⟨(CPL_PORT_EVT p), 5, 1⟩
def CPL_PORT_EVT_MSG_LOST (p : Nat) : FieldRef := ⟨(CPL_PORT_EVT p), 4, 1⟩
def CPL_PORT_EVT_VERSION_MISMATCH (p : Nat) : FieldRef := ⟨(CPL_PORT_EVT p), 3, 1⟩
def CPL_PORT_EVT_ID_CLASH (p : Nat) : FieldRef := ⟨(CPL_PORT_EVT p), 2, 1⟩
def CPL_PORT_EVT_CFG_ERR (p : Nat) : FieldRef := ⟨(CPL_PORT_EVT p), 1, 1⟩
def CPL_PORT_EVT_STATE_CHG (p : Nat) : FieldRef := ⟨(CPL_PORT_EVT p), 0, 1⟩
def CPL_PORT_FAR_ID_FAR_GM (p : Nat) : FieldRef := ⟨(CPL_PORT_FAR_ID p), 16, 16⟩
def CPL_PORT_FAR_ID_FAR_NODE (p : Nat) : FieldRef := ⟨(CPL_PORT_FAR_ID p), 0, 16⟩
def CPL_PORT_FAR_INFO_FAR_UPSTREAM (p : Nat) : FieldRef := ⟨(CPL_PORT_FAR_INFO p), 16, 16⟩
def CPL_PORT_FAR_INFO_FAR_PORT (p : Nat) : FieldRef := ⟨(CPL_PORT_FAR_INFO p), 8, 6⟩
def CPL_PORT_FAR_INFO_FAR_HOP (p : Nat) : FieldRef := ⟨(CPL_PORT_FAR_INFO p), 0, 6⟩
def CPL_PORT_FAR_ACC_FAR_ACC (p : Nat) : FieldRef := ⟨(CPL_PORT_FAR_ACC p), 0, 32⟩
def CPL_PORT_OFFSET_LO_VALUE_LO (p : Nat) : FieldRef := ⟨(CPL_PORT_OFFSET_LO p), 0, 32⟩
def CPL_PORT_MLD_LO_VALUE_LO (p : Nat) : FieldRef := ⟨(CPL_PORT_MLD_LO p), 0, 32⟩
def CPL_PORT_OFFSET_HI_VALUE_HI (p : Nat) : FieldRef := ⟨(CPL_PORT_OFFSET_HI p), 0, 16⟩
def CPL_PORT_MLD_HI_VALUE_HI (p : Nat) : FieldRef := ⟨(CPL_PORT_MLD_HI p), 0, 16⟩
def CPL_PORT_RATIO_RATIO (p : Nat) : FieldRef := ⟨(CPL_PORT_RATIO p), 0, 32⟩
def CPL_PORT_COUNT_OFFSETS (p : Nat) : FieldRef := ⟨(CPL_PORT_COUNT p), 16, 16⟩
def CPL_PORT_COUNT_LOST (p : Nat) : FieldRef := ⟨(CPL_PORT_COUNT p), 8, 8⟩
def CPL_PORT_COUNT_CRC_ERRS (p : Nat) : FieldRef := ⟨(CPL_PORT_COUNT p), 0, 8⟩
def CPL_PORT_COUNT2_FORCED_HOLDS (p : Nat) : FieldRef := ⟨(CPL_PORT_COUNT2 p), 16, 16⟩
def CPL_PORT_COUNT2_DISCARDS (p : Nat) : FieldRef := ⟨(CPL_PORT_COUNT2 p), 8, 8⟩
def CPL_PORT_COUNT2_BAD_HELLOS (p : Nat) : FieldRef := ⟨(CPL_PORT_COUNT2 p), 0, 8⟩
def PRT_CNT_LO_COUNT_LO (p k : Nat) : FieldRef := ⟨(PRT_CNT_LO p k), 0, 32⟩
def PRT_CNT_HI_COUNT_HI (p k : Nat) : FieldRef := ⟨(PRT_CNT_HI p k), 0, 32⟩
def PRT_CFG_RCLK_SQ (p : Nat) : FieldRef := ⟨(PRT_CFG p), 14, 1⟩
def PRT_CFG_LOOP (p : Nat) : FieldRef := ⟨(PRT_CFG p), 12, 2⟩
def PRT_CFG_AN_EN (p : Nat) : FieldRef := ⟨(PRT_CFG p), 11, 1⟩
def PRT_CFG_FEC (p : Nat) : FieldRef := ⟨(PRT_CFG p), 8, 2⟩
def PRT_CFG_RATE (p : Nat) : FieldRef := ⟨(PRT_CFG p), 4, 3⟩
def PRT_CFG_ENABLE (p : Nat) : FieldRef := ⟨(PRT_CFG p), 0, 1⟩
def PRT_MAC_VERIFY_TIME (p : Nat) : FieldRef := ⟨(PRT_MAC p), 24, 8⟩
def PRT_MAC_ADD_FRAG (p : Nat) : FieldRef := ⟨(PRT_MAC p), 21, 2⟩
def PRT_MAC_VERIFY_DIS (p : Nat) : FieldRef := ⟨(PRT_MAC p), 20, 1⟩
def PRT_MAC_PREEMPT_EN (p : Nat) : FieldRef := ⟨(PRT_MAC p), 19, 1⟩
def PRT_MAC_PFC_EN (p : Nat) : FieldRef := ⟨(PRT_MAC p), 18, 1⟩
def PRT_MAC_ASM_DIR_ADV (p : Nat) : FieldRef := ⟨(PRT_MAC p), 17, 1⟩
def PRT_MAC_PAUSE_ADV (p : Nat) : FieldRef := ⟨(PRT_MAC p), 16, 1⟩
def PRT_MAC_PAUSE_RX_EN (p : Nat) : FieldRef := ⟨(PRT_MAC p), 15, 1⟩
def PRT_MAC_PAUSE_TX_EN (p : Nat) : FieldRef := ⟨(PRT_MAC p), 14, 1⟩
def PRT_MAC_MAX_FRAME (p : Nat) : FieldRef := ⟨(PRT_MAC p), 0, 14⟩
def PRT_LINK_DOWN_HOLD (p : Nat) : FieldRef := ⟨(PRT_LINK p), 0, 14⟩
def PRT_MACADDR_LO_ADDR_LO (p : Nat) : FieldRef := ⟨(PRT_MACADDR_LO p), 0, 32⟩
def PRT_MACADDR_HI_ADDR_HI (p : Nat) : FieldRef := ⟨(PRT_MACADDR_HI p), 0, 16⟩
def PRT_LANE_RX_ADAPT (p : Nat) : FieldRef := ⟨(PRT_LANE p), 16, 1⟩
def PRT_LANE_TX_POST (p : Nat) : FieldRef := ⟨(PRT_LANE p), 11, 5⟩
def PRT_LANE_TX_PRE (p : Nat) : FieldRef := ⟨(PRT_LANE p), 7, 4⟩
def PRT_LANE_TX_AMP (p : Nat) : FieldRef := ⟨(PRT_LANE p), 3, 4⟩
def PRT_LANE_RX_INV (p : Nat) : FieldRef := ⟨(PRT_LANE p), 1, 1⟩
def PRT_LANE_TX_INV (p : Nat) : FieldRef := ⟨(PRT_LANE p), 0, 1⟩
def PRT_CTRL_AN_RESTART (p : Nat) : FieldRef := ⟨(PRT_CTRL p), 1, 1⟩
def PRT_CTRL_CLEAR (p : Nat) : FieldRef := ⟨(PRT_CTRL p), 0, 1⟩
def PRT_MOD_ROUTE_MUX_EN (p : Nat) : FieldRef := ⟨(PRT_MOD_ROUTE p), 31, 1⟩
def PRT_MOD_ROUTE_MUX_ADDR (p : Nat) : FieldRef := ⟨(PRT_MOD_ROUTE p), 24, 7⟩
def PRT_MOD_ROUTE_MUX_CHAN (p : Nat) : FieldRef := ⟨(PRT_MOD_ROUTE p), 16, 8⟩
def PRT_MOD_ROUTE_MASTER (p : Nat) : FieldRef := ⟨(PRT_MOD_ROUTE p), 12, 2⟩
def PRT_MOD_ROUTE_MOD_ADDR (p : Nat) : FieldRef := ⟨(PRT_MOD_ROUTE p), 0, 7⟩
def PRT_MOD_POLL_PERIOD (p : Nat) : FieldRef := ⟨(PRT_MOD_POLL p), 24, 8⟩
def PRT_MOD_POLL_MASK (p : Nat) : FieldRef := ⟨(PRT_MOD_POLL p), 16, 8⟩
def PRT_MOD_POLL_REG (p : Nat) : FieldRef := ⟨(PRT_MOD_POLL p), 8, 8⟩
def PRT_MOD_STATUS_VALID (p : Nat) : FieldRef := ⟨(PRT_MOD_STATUS p), 9, 1⟩
def PRT_MOD_STATUS_ABSENT (p : Nat) : FieldRef := ⟨(PRT_MOD_STATUS p), 8, 1⟩
def PRT_MOD_STATUS_VALUE (p : Nat) : FieldRef := ⟨(PRT_MOD_STATUS p), 0, 8⟩
def PRT_STATUS_PAUSED (p : Nat) : FieldRef := ⟨(PRT_STATUS p), 24, 8⟩
def PRT_STATUS_VERIFY (p : Nat) : FieldRef := ⟨(PRT_STATUS p), 21, 3⟩
def PRT_STATUS_PREEMPT_ACTIVE (p : Nat) : FieldRef := ⟨(PRT_STATUS p), 20, 1⟩
def PRT_STATUS_PAUSE_TX (p : Nat) : FieldRef := ⟨(PRT_STATUS p), 19, 1⟩
def PRT_STATUS_PAUSE_RX (p : Nat) : FieldRef := ⟨(PRT_STATUS p), 18, 1⟩
def PRT_STATUS_AN_DONE (p : Nat) : FieldRef := ⟨(PRT_STATUS p), 17, 1⟩
def PRT_STATUS_AN_FALLBACK (p : Nat) : FieldRef := ⟨(PRT_STATUS p), 16, 1⟩
def PRT_STATUS_HI_BER (p : Nat) : FieldRef := ⟨(PRT_STATUS p), 7, 1⟩
def PRT_STATUS_RF (p : Nat) : FieldRef := ⟨(PRT_STATUS p), 6, 1⟩
def PRT_STATUS_LF (p : Nat) : FieldRef := ⟨(PRT_STATUS p), 5, 1⟩
def PRT_STATUS_PCS_LOCK (p : Nat) : FieldRef := ⟨(PRT_STATUS p), 4, 1⟩
def PRT_STATUS_CDR_LOCK (p : Nat) : FieldRef := ⟨(PRT_STATUS p), 3, 1⟩
def PRT_STATUS_STATE (p : Nat) : FieldRef := ⟨(PRT_STATUS p), 0, 3⟩
def PRT_EVT_MOD_ABSENT_CHG (p : Nat) : FieldRef := ⟨(PRT_EVT p), 10, 1⟩
def PRT_EVT_MOD_CHG (p : Nat) : FieldRef := ⟨(PRT_EVT p), 9, 1⟩
def PRT_EVT_CFG_ERR (p : Nat) : FieldRef := ⟨(PRT_EVT p), 8, 1⟩
def PRT_EVT_VERIFY_FAIL (p : Nat) : FieldRef := ⟨(PRT_EVT p), 7, 1⟩
def PRT_EVT_AN_DONE (p : Nat) : FieldRef := ⟨(PRT_EVT p), 6, 1⟩
def PRT_EVT_RF (p : Nat) : FieldRef := ⟨(PRT_EVT p), 5, 1⟩
def PRT_EVT_LF (p : Nat) : FieldRef := ⟨(PRT_EVT p), 4, 1⟩
def PRT_EVT_LOCK_GLITCH (p : Nat) : FieldRef := ⟨(PRT_EVT p), 3, 1⟩
def PRT_EVT_LINK_DOWN (p : Nat) : FieldRef := ⟨(PRT_EVT p), 2, 1⟩
def PRT_EVT_LINK_UP (p : Nat) : FieldRef := ⟨(PRT_EVT p), 1, 1⟩
def PRT_EVT_STATE_CHG (p : Nat) : FieldRef := ⟨(PRT_EVT p), 0, 1⟩
def PRT_AN_LP_LP_BASE (p : Nat) : FieldRef := ⟨(PRT_AN_LP p), 0, 16⟩
def PRT_I2C_CFG_STRETCH_MAX (m : Nat) : FieldRef := ⟨(PRT_I2C_CFG m), 8, 8⟩
def PRT_I2C_CFG_SPEED (m : Nat) : FieldRef := ⟨(PRT_I2C_CFG m), 0, 2⟩
def PRT_I2C_XFER_START (m : Nat) : FieldRef := ⟨(PRT_I2C_XFER m), 31, 1⟩
def PRT_I2C_XFER_DIR (m : Nat) : FieldRef := ⟨(PRT_I2C_XFER m), 30, 1⟩
def PRT_I2C_XFER_NO_PTR (m : Nat) : FieldRef := ⟨(PRT_I2C_XFER m), 29, 1⟩
def PRT_I2C_XFER_LEN (m : Nat) : FieldRef := ⟨(PRT_I2C_XFER m), 16, 8⟩
def PRT_I2C_XFER_POINTER (m : Nat) : FieldRef := ⟨(PRT_I2C_XFER m), 8, 8⟩
def PRT_I2C_XFER_ADDR (m : Nat) : FieldRef := ⟨(PRT_I2C_XFER m), 0, 7⟩
def PRT_I2C_STATUS_BYTES (m : Nat) : FieldRef := ⟨(PRT_I2C_STATUS m), 16, 8⟩
def PRT_I2C_STATUS_BUSY (m : Nat) : FieldRef := ⟨(PRT_I2C_STATUS m), 4, 1⟩
def PRT_I2C_STATUS_TIMEOUT (m : Nat) : FieldRef := ⟨(PRT_I2C_STATUS m), 3, 1⟩
def PRT_I2C_STATUS_NACK_MUX (m : Nat) : FieldRef := ⟨(PRT_I2C_STATUS m), 2, 1⟩
def PRT_I2C_STATUS_NACK (m : Nat) : FieldRef := ⟨(PRT_I2C_STATUS m), 1, 1⟩
def PRT_I2C_STATUS_DONE (m : Nat) : FieldRef := ⟨(PRT_I2C_STATUS m), 0, 1⟩
def PRT_I2C_DATA_DATA (m k : Nat) : FieldRef := ⟨(PRT_I2C_DATA m k), 0, 32⟩
def FWD_CFG_PTP_TRAP : FieldRef := ⟨FWD_CFG, 21, 1⟩
def FWD_CFG_LEARN_EN : FieldRef := ⟨FWD_CFG, 20, 1⟩
def FWD_CFG_AGE_TIME : FieldRef := ⟨FWD_CFG, 0, 20⟩
def FWD_STATUS_TABLES_LOST : FieldRef := ⟨FWD_STATUS, 0, 1⟩
def FWD_COUNT_MOVES : FieldRef := ⟨FWD_COUNT, 16, 16⟩
def FWD_COUNT_LEARN_FULL : FieldRef := ⟨FWD_COUNT, 0, 16⟩
def FWD_TBL_CMD_GO : FieldRef := ⟨FWD_TBL_CMD, 31, 1⟩
def FWD_TBL_CMD_BUSY : FieldRef := ⟨FWD_TBL_CMD, 30, 1⟩
def FWD_TBL_CMD_STATUS : FieldRef := ⟨FWD_TBL_CMD, 28, 2⟩
def FWD_TBL_CMD_OP : FieldRef := ⟨FWD_TBL_CMD, 25, 3⟩
def FWD_TBL_CMD_TABLE : FieldRef := ⟨FWD_TBL_CMD, 23, 2⟩
def FWD_TBL_CMD_INDEX : FieldRef := ⟨FWD_TBL_CMD, 0, 17⟩
def FWD_TBL_DATA_DATA (k : Nat) : FieldRef := ⟨(FWD_TBL_DATA k), 0, 32⟩
def FWD_PORT_CFG_MAIL_MAP (p : Nat) : FieldRef := ⟨(FWD_PORT_CFG p), 24, 8⟩
def FWD_PORT_CFG_LEARN_EN (p : Nat) : FieldRef := ⟨(FWD_PORT_CFG p), 20, 1⟩
def FWD_PORT_CFG_INGRESS_FILTER (p : Nat) : FieldRef := ⟨(FWD_PORT_CFG p), 19, 1⟩
def FWD_PORT_CFG_ACCEPT (p : Nat) : FieldRef := ⟨(FWD_PORT_CFG p), 17, 2⟩
def FWD_PORT_CFG_DEF_PRIO (p : Nat) : FieldRef := ⟨(FWD_PORT_CFG p), 12, 3⟩
def FWD_PORT_CFG_PVID (p : Nat) : FieldRef := ⟨(FWD_PORT_CFG p), 0, 12⟩
def FWD_PCP_MAP_CLASS_0 (p : Nat) : FieldRef := ⟨(FWD_PCP_MAP p), 0, 3⟩
def FWD_PCP_MAP_CLASS_1 (p : Nat) : FieldRef := ⟨(FWD_PCP_MAP p), 3, 3⟩
def FWD_PCP_MAP_CLASS_2 (p : Nat) : FieldRef := ⟨(FWD_PCP_MAP p), 6, 3⟩
def FWD_PCP_MAP_CLASS_3 (p : Nat) : FieldRef := ⟨(FWD_PCP_MAP p), 9, 3⟩
def FWD_PCP_MAP_CLASS_4 (p : Nat) : FieldRef := ⟨(FWD_PCP_MAP p), 12, 3⟩
def FWD_PCP_MAP_CLASS_5 (p : Nat) : FieldRef := ⟨(FWD_PCP_MAP p), 15, 3⟩
def FWD_PCP_MAP_CLASS_6 (p : Nat) : FieldRef := ⟨(FWD_PCP_MAP p), 18, 3⟩
def FWD_PCP_MAP_CLASS_7 (p : Nat) : FieldRef := ⟨(FWD_PCP_MAP p), 21, 3⟩
def FWD_PORT_DROP_VLAN_DROP (p : Nat) : FieldRef := ⟨(FWD_PORT_DROP p), 16, 16⟩
def FWD_PORT_DROP_RULE_DROP (p : Nat) : FieldRef := ⟨(FWD_PORT_DROP p), 0, 16⟩
def FWD_PORT_DROP2_NO_DEST (p : Nat) : FieldRef := ⟨(FWD_PORT_DROP2 p), 16, 16⟩
def FWD_PORT_DROP2_TRAPPED (p : Nat) : FieldRef := ⟨(FWD_PORT_DROP2 p), 0, 16⟩
def BUF_MAIL_CFG_SPILL_EN : FieldRef := ⟨BUF_MAIL_CFG, 31, 1⟩
def BUF_MAIL_CFG_VOQ_MAX : FieldRef := ⟨BUF_MAIL_CFG, 0, 14⟩
def BUF_MAIL_STATUS_PEAK : FieldRef := ⟨BUF_MAIL_STATUS, 16, 14⟩
def BUF_MAIL_STATUS_USED : FieldRef := ⟨BUF_MAIL_STATUS, 0, 14⟩
def BUF_CTRL_CLEAR_PEAK : FieldRef := ⟨BUF_CTRL, 1, 1⟩
def BUF_CTRL_CLEAR_COUNTS : FieldRef := ⟨BUF_CTRL, 0, 1⟩
def BUF_DEP_CFG_HEADROOM (d : Nat) : FieldRef := ⟨(BUF_DEP_CFG d), 0, 15⟩
def BUF_DEP_STATUS_SHARED_USED (d : Nat) : FieldRef := ⟨(BUF_DEP_STATUS d), 16, 15⟩
def BUF_DEP_STATUS_FREE (d : Nat) : FieldRef := ⟨(BUF_DEP_STATUS d), 0, 15⟩
def BUF_DEP_STATUS2_HEAD_USED (d : Nat) : FieldRef := ⟨(BUF_DEP_STATUS2 d), 16, 15⟩
def BUF_DEP_STATUS2_RSV_TOTAL (d : Nat) : FieldRef := ⟨(BUF_DEP_STATUS2 d), 0, 15⟩
def BUF_DEP_DESC_COPY_FREE (d : Nat) : FieldRef := ⟨(BUF_DEP_DESC d), 16, 16⟩
def BUF_DEP_DESC_DESC_FREE (d : Nat) : FieldRef := ⟨(BUF_DEP_DESC d), 0, 16⟩
def BUF_Q_CFG_ALPHA (d q : Nat) : FieldRef := ⟨(BUF_Q_CFG d q), 16, 3⟩
def BUF_Q_CFG_RSV (d q : Nat) : FieldRef := ⟨(BUF_Q_CFG d q), 0, 15⟩
def BUF_Q_STATUS_PEAK (d q : Nat) : FieldRef := ⟨(BUF_Q_STATUS d q), 16, 15⟩
def BUF_Q_STATUS_USED (d q : Nat) : FieldRef := ⟨(BUF_Q_STATUS d q), 0, 15⟩
def BUF_Q_ADMITS_ADMITS (d q : Nat) : FieldRef := ⟨(BUF_Q_ADMITS d q), 0, 32⟩
def BUF_Q_DROPS_DROPS (d q : Nat) : FieldRef := ⟨(BUF_Q_DROPS d q), 0, 32⟩
def BUF_VOQ_FRAMES (i o : Nat) : FieldRef := ⟨(BUF_VOQ i o), 16, 14⟩
def BUF_VOQ_USED (i o : Nat) : FieldRef := ⟨(BUF_VOQ i o), 0, 14⟩
def BUF_OUT_CFG_SIDING_HOLD (o : Nat) : FieldRef := ⟨(BUF_OUT_CFG o), 24, 8⟩
def BUF_OUT_CFG_PAUSE_WD (o : Nat) : FieldRef := ⟨(BUF_OUT_CFG o), 0, 10⟩
def BUF_OUT_GRACE_GRACE (o : Nat) : FieldRef := ⟨(BUF_OUT_GRACE o), 0, 17⟩
def BUF_OUT_STATUS_WD_ACTIVE (o : Nat) : FieldRef := ⟨(BUF_OUT_STATUS o), 24, 8⟩
def BUF_OUT_STATUS_SIDING (o : Nat) : FieldRef := ⟨(BUF_OUT_STATUS o), 0, 2⟩
def BUF_OUT_EVT_WD (o : Nat) : FieldRef := ⟨(BUF_OUT_EVT o), 3, 1⟩
def BUF_OUT_EVT_FLUSH (o : Nat) : FieldRef := ⟨(BUF_OUT_EVT o), 2, 1⟩
def BUF_OUT_EVT_SIDING_END (o : Nat) : FieldRef := ⟨(BUF_OUT_EVT o), 1, 1⟩
def BUF_OUT_EVT_SIDING_START (o : Nat) : FieldRef := ⟨(BUF_OUT_EVT o), 0, 1⟩
def BUF_OUT_SIDING_DROP_SIDING_DROP (o : Nat) : FieldRef := ⟨(BUF_OUT_SIDING_DROP o), 0, 32⟩
def BUF_OUT_SIDING_MAIL_DISC_SIDING_MAIL_DISC (o : Nat) : FieldRef := ⟨(BUF_OUT_SIDING_MAIL_DISC o), 0, 32⟩
def BUF_OUT_FLUSHED_FLUSHED (o : Nat) : FieldRef := ⟨(BUF_OUT_FLUSHED o), 0, 32⟩
def BUF_OUT_MAIL_SPILLS_MAIL_SPILLS (o : Nat) : FieldRef := ⟨(BUF_OUT_MAIL_SPILLS o), 0, 32⟩
def BUF_OUT_MAIL_DROPS_MAIL_DROPS (o : Nat) : FieldRef := ⟨(BUF_OUT_MAIL_DROPS o), 0, 32⟩
def BUF_OUT_WD_COUNT_WD_COUNT (o : Nat) : FieldRef := ⟨(BUF_OUT_WD_COUNT o), 0, 16⟩
def BUF_IN_CFG_XON (i : Nat) : FieldRef := ⟨(BUF_IN_CFG i), 16, 15⟩
def BUF_IN_CFG_XOFF (i : Nat) : FieldRef := ⟨(BUF_IN_CFG i), 0, 15⟩
def BUF_IN_PRIO_XOFF_EN (i : Nat) : FieldRef := ⟨(BUF_IN_PRIO i), 8, 1⟩
def BUF_IN_PRIO_LOSSLESS (i : Nat) : FieldRef := ⟨(BUF_IN_PRIO i), 0, 8⟩
def BUF_IN_STATUS_XOFF_STATE (i : Nat) : FieldRef := ⟨(BUF_IN_STATUS i), 31, 1⟩
def BUF_IN_STATUS_HELD (i : Nat) : FieldRef := ⟨(BUF_IN_STATUS i), 0, 15⟩
def BUF_IN_COUNT_XOFF_COUNT (i : Nat) : FieldRef := ⟨(BUF_IN_COUNT i), 16, 16⟩
def BUF_IN_COUNT_HEAD_ADMITS (i : Nat) : FieldRef := ⟨(BUF_IN_COUNT i), 0, 16⟩
def SCH_CFG_DOM : FieldRef := ⟨SCH_CFG, 0, 1⟩
def SCH_RSQ_GAP : FieldRef := ⟨SCH_RSQ, 0, 16⟩
def SCH_CTRL_CLEAR_COUNTS : FieldRef := ⟨SCH_CTRL, 0, 1⟩
def SCH_OUT_CFG_CT_CLASS (o : Nat) : FieldRef := ⟨(SCH_OUT_CFG o), 24, 8⟩
def SCH_OUT_CFG_LATE_ACT (o : Nat) : FieldRef := ⟨(SCH_OUT_CFG o), 16, 1⟩
def SCH_OUT_CFG_AGE_THR (o : Nat) : FieldRef := ⟨(SCH_OUT_CFG o), 0, 16⟩
def SCH_OUT_STATUS_GATES (o : Nat) : FieldRef := ⟨(SCH_OUT_STATUS o), 24, 8⟩
def SCH_OUT_STATUS_HOLD (o : Nat) : FieldRef := ⟨(SCH_OUT_STATUS o), 2, 1⟩
def SCH_OUT_STATUS_HUNGRY (o : Nat) : FieldRef := ⟨(SCH_OUT_STATUS o), 1, 1⟩
def SCH_OUT_STATUS_PROMOTED (o : Nat) : FieldRef := ⟨(SCH_OUT_STATUS o), 0, 1⟩
def SCH_OUT_EVT_GCL_SWAP (o : Nat) : FieldRef := ⟨(SCH_OUT_EVT o), 4, 1⟩
def SCH_OUT_EVT_RSQ_SKIP (o : Nat) : FieldRef := ⟨(SCH_OUT_EVT o), 3, 1⟩
def SCH_OUT_EVT_CUT_SHORT (o : Nat) : FieldRef := ⟨(SCH_OUT_EVT o), 2, 1⟩
def SCH_OUT_EVT_STOMP (o : Nat) : FieldRef := ⟨(SCH_OUT_EVT o), 1, 1⟩
def SCH_OUT_EVT_LATE (o : Nat) : FieldRef := ⟨(SCH_OUT_EVT o), 0, 1⟩
def SCH_OUT_STOMPED_STOMPED (o : Nat) : FieldRef := ⟨(SCH_OUT_STOMPED o), 0, 32⟩
def SCH_OUT_CUT_SHORT_CUT_SHORT (o : Nat) : FieldRef := ⟨(SCH_OUT_CUT_SHORT o), 0, 32⟩
def SCH_OUT_PROMOTIONS_PROMOTIONS (o : Nat) : FieldRef := ⟨(SCH_OUT_PROMOTIONS o), 0, 32⟩
def SCH_OUT_MAIL_SENT_MAIL_SENT (o : Nat) : FieldRef := ⟨(SCH_OUT_MAIL_SENT o), 0, 32⟩
def SCH_OUT_MAIL_LATE_MAIL_LATE (o : Nat) : FieldRef := ⟨(SCH_OUT_MAIL_LATE o), 0, 32⟩
def SCH_OUT_MAIL_LATE_DISC_MAIL_LATE_DISC (o : Nat) : FieldRef := ⟨(SCH_OUT_MAIL_LATE_DISC o), 0, 32⟩
def SCH_OUT_RSQ_WAITS_RSQ_WAITS (o : Nat) : FieldRef := ⟨(SCH_OUT_RSQ_WAITS o), 0, 32⟩
def SCH_OUT_RSQ_SKIPS_RSQ_SKIPS (o : Nat) : FieldRef := ⟨(SCH_OUT_RSQ_SKIPS o), 0, 32⟩
def SCH_OUT_RSQ_STALE_RSQ_STALE (o : Nat) : FieldRef := ⟨(SCH_OUT_RSQ_STALE o), 0, 32⟩
def SCH_OUT_FEC_SHIFT_FEC_SHIFT (o : Nat) : FieldRef := ⟨(SCH_OUT_FEC_SHIFT o), 0, 32⟩
def SCH_TT_DELAY_DELAY (o c : Nat) : FieldRef := ⟨(SCH_TT_DELAY o c), 0, 15⟩
def SCH_GCL_CFG_EN (o : Nat) : FieldRef := ⟨(SCH_GCL_CFG o), 8, 1⟩
def SCH_GCL_CFG_LEN (o : Nat) : FieldRef := ⟨(SCH_GCL_CFG o), 0, 8⟩
def SCH_GCL_BASE_NS_NS (o : Nat) : FieldRef := ⟨(SCH_GCL_BASE_NS o), 0, 30⟩
def SCH_GCL_BASE_SEC_LO_SEC_LO (o : Nat) : FieldRef := ⟨(SCH_GCL_BASE_SEC_LO o), 0, 32⟩
def SCH_GCL_BASE_SEC_HI_SEC_HI (o : Nat) : FieldRef := ⟨(SCH_GCL_BASE_SEC_HI o), 0, 16⟩
def SCH_GCL_CYCLE_CYCLE (o : Nat) : FieldRef := ⟨(SCH_GCL_CYCLE o), 0, 32⟩
def SCH_GCL_CTRL_CHANGE (o : Nat) : FieldRef := ⟨(SCH_GCL_CTRL o), 0, 1⟩
def SCH_GCL_STATUS_OPER_LEN (o : Nat) : FieldRef := ⟨(SCH_GCL_STATUS o), 16, 8⟩
def SCH_GCL_STATUS_INDEX (o : Nat) : FieldRef := ⟨(SCH_GCL_STATUS o), 8, 8⟩
def SCH_GCL_STATUS_PENDING (o : Nat) : FieldRef := ⟨(SCH_GCL_STATUS o), 0, 1⟩
def SCH_GATE_ADMIN_GATES (o e : Nat) : FieldRef := ⟨(SCH_GATE_ADMIN o e), 0, 8⟩
def SCH_GATE_OPER_GATES (o e : Nat) : FieldRef := ⟨(SCH_GATE_OPER o e), 0, 8⟩
def SCH_INTV_ADMIN_INTERVAL (o e : Nat) : FieldRef := ⟨(SCH_INTV_ADMIN o e), 0, 30⟩
def SCH_INTV_OPER_INTERVAL (o e : Nat) : FieldRef := ⟨(SCH_INTV_OPER o e), 0, 30⟩
def MIR_CFG_SAMPLE_N : FieldRef := ⟨MIR_CFG, 16, 16⟩
def MIR_CFG_RULE_DIR : FieldRef := ⟨MIR_CFG, 4, 2⟩
def MIR_CFG_SAMPLE_PORT : FieldRef := ⟨MIR_CFG, 2, 1⟩
def MIR_CFG_SLOT : FieldRef := ⟨MIR_CFG, 1, 1⟩
def MIR_CFG_EN : FieldRef := ⟨MIR_CFG, 0, 1⟩
def MIR_CTRL_CLEAR_COUNTS : FieldRef := ⟨MIR_CTRL, 0, 1⟩
def MIR_SEL_IN_LO_MAP_LO : FieldRef := ⟨MIR_SEL_IN_LO, 0, 32⟩
def MIR_SEL_OUT_LO_MAP_LO : FieldRef := ⟨MIR_SEL_OUT_LO, 0, 32⟩
def MIR_SEL_IN_HI_MAP_HI : FieldRef := ⟨MIR_SEL_IN_HI, 0, 16⟩
def MIR_SEL_OUT_HI_MAP_HI : FieldRef := ⟨MIR_SEL_OUT_HI, 0, 16⟩
def MIR_RING_BASE_LO_BASE_LO : FieldRef := ⟨MIR_RING_BASE_LO, 12, 20⟩
def MIR_RING_BASE_HI_BASE_HI : FieldRef := ⟨MIR_RING_BASE_HI, 0, 32⟩
def MIR_RING_LEN_LEN : FieldRef := ⟨MIR_RING_LEN, 0, 16⟩
def MIR_RING_RD_RD : FieldRef := ⟨MIR_RING_RD, 0, 16⟩
def MIR_RING_WR_WR : FieldRef := ⟨MIR_RING_WR, 0, 16⟩
def MIR_IRQ_HOLD : FieldRef := ⟨MIR_IRQ, 16, 16⟩
def MIR_IRQ_WATERMARK : FieldRef := ⟨MIR_IRQ, 0, 16⟩
def MIR_RESUME_RESUME : FieldRef := ⟨MIR_RESUME, 0, 16⟩
def MIR_STATUS_FIFO_LEVEL : FieldRef := ⟨MIR_STATUS, 16, 11⟩
def MIR_STATUS_THERMAL : FieldRef := ⟨MIR_STATUS, 2, 1⟩
def MIR_STATUS_STATE : FieldRef := ⟨MIR_STATUS, 0, 2⟩
def MIR_EVT_WATERMARK : FieldRef := ⟨MIR_EVT, 3, 1⟩
def MIR_EVT_DMA_ERR : FieldRef := ⟨MIR_EVT, 2, 1⟩
def MIR_EVT_RING_RESUME : FieldRef := ⟨MIR_EVT, 1, 1⟩
def MIR_EVT_SAMPLING_START : FieldRef := ⟨MIR_EVT, 0, 1⟩
def NVS_PROTECT_LOCK : FieldRef := ⟨NVS_PROTECT, 2, 1⟩
def NVS_PROTECT_LEVEL : FieldRef := ⟨NVS_PROTECT, 0, 2⟩
def NVS_STATUS_HOT_SEQ : FieldRef := ⟨NVS_STATUS, 16, 16⟩
def NVS_STATUS_DIRTY : FieldRef := ⟨NVS_STATUS, 3, 5⟩
def NVS_STATUS_HOT_VALID : FieldRef := ⟨NVS_STATUS, 2, 1⟩
def NVS_STATUS_PFW_ACTIVE : FieldRef := ⟨NVS_STATUS, 1, 1⟩
def NVS_STATUS_COMMITTING : FieldRef := ⟨NVS_STATUS, 0, 1⟩
def NVS_EVT_HOT_RESTORE_FAIL : FieldRef := ⟨NVS_EVT, 8, 1⟩
def NVS_EVT_BUF_LOST : FieldRef := ⟨NVS_EVT, 7, 1⟩
def NVS_EVT_PFW_SKIP : FieldRef := ⟨NVS_EVT, 6, 1⟩
def NVS_EVT_PFW_SAVE : FieldRef := ⟨NVS_EVT, 5, 1⟩
def NVS_EVT_PROT_DROP : FieldRef := ⟨NVS_EVT, 4, 1⟩
def NVS_EVT_PROT_REJECT : FieldRef := ⟨NVS_EVT, 3, 1⟩
def NVS_EVT_UNCORR : FieldRef := ⟨NVS_EVT, 2, 1⟩
def NVS_EVT_COMMIT_REFUSED : FieldRef := ⟨NVS_EVT, 1, 1⟩
def NVS_EVT_COMMIT_DONE : FieldRef := ⟨NVS_EVT, 0, 1⟩
def NVS_ADDR_ADDR : FieldRef := ⟨NVS_ADDR, 0, 17⟩
def NVS_LEN_LEN : FieldRef := ⟨NVS_LEN, 0, 13⟩
def NVS_CMD_GO : FieldRef := ⟨NVS_CMD, 31, 1⟩
def NVS_CMD_BUSY : FieldRef := ⟨NVS_CMD, 30, 1⟩
def NVS_CMD_STATUS : FieldRef := ⟨NVS_CMD, 26, 4⟩
def NVS_CMD_COMMIT : FieldRef := ⟨NVS_CMD, 8, 1⟩
def NVS_CMD_OP : FieldRef := ⟨NVS_CMD, 0, 3⟩
def NVS_ERR_ADDR_ERR_ADDR : FieldRef := ⟨NVS_ERR_ADDR, 0, 17⟩
def NVS_COUNT_CORRECTED : FieldRef := ⟨NVS_COUNT, 16, 16⟩
def NVS_COUNT_UNCORRECTED : FieldRef := ⟨NVS_COUNT, 0, 16⟩
def NVS_PROGRAMS_PROGRAMS : FieldRef := ⟨NVS_PROGRAMS, 0, 32⟩
def NVS_DATA_DATA (k : Nat) : FieldRef := ⟨(NVS_DATA k), 0, 32⟩
def MBX_SEND_W0_OPCODE (n e : Nat) : FieldRef := ⟨(MBX_SEND_W0 n e), 16, 16⟩
def MBX_SEND_W0_TAG (n e : Nat) : FieldRef := ⟨(MBX_SEND_W0 n e), 8, 8⟩
def MBX_SEND_W0_LEN (n e : Nat) : FieldRef := ⟨(MBX_SEND_W0 n e), 0, 8⟩
def MBX_SEND_W_DATA (n e k : Nat) : FieldRef := ⟨(MBX_SEND_W n e k), 0, 32⟩
def MBX_RECV_W_DATA (n e k : Nat) : FieldRef := ⟨(MBX_RECV_W n e k), 0, 32⟩
def MBX_STATUS_PEER_EPOCH (n e : Nat) : FieldRef := ⟨(MBX_STATUS n e), 24, 8⟩
def MBX_STATUS_EPOCH (n e : Nat) : FieldRef := ⟨(MBX_STATUS n e), 16, 8⟩
def MBX_STATUS_PEER_READY (n e : Nat) : FieldRef := ⟨(MBX_STATUS n e), 15, 1⟩
def MBX_STATUS_RECV_MSGS (n e : Nat) : FieldRef := ⟨(MBX_STATUS n e), 10, 5⟩
def MBX_STATUS_SEND_FREE (n e : Nat) : FieldRef := ⟨(MBX_STATUS n e), 5, 5⟩
def MBX_STATUS_RECV_WORDS (n e : Nat) : FieldRef := ⟨(MBX_STATUS n e), 0, 5⟩
def MBX_EVT_SEND_ERR (n e : Nat) : FieldRef := ⟨(MBX_EVT n e), 5, 1⟩
def MBX_EVT_COLLISION (n e : Nat) : FieldRef := ⟨(MBX_EVT n e), 4, 1⟩
def MBX_EVT_OVERWRITE (n e : Nat) : FieldRef := ⟨(MBX_EVT n e), 3, 1⟩
def MBX_EVT_DISCARD (n e : Nat) : FieldRef := ⟨(MBX_EVT n e), 2, 1⟩
def MBX_EVT_EMPTY (n e : Nat) : FieldRef := ⟨(MBX_EVT n e), 1, 1⟩
def MBX_EVT_MSG (n e : Nat) : FieldRef := ⟨(MBX_EVT n e), 0, 1⟩
def MBX_CTRL_END_RESET (n e : Nat) : FieldRef := ⟨(MBX_CTRL n e), 1, 1⟩
def MBX_CTRL_RELEASE (n e : Nat) : FieldRef := ⟨(MBX_CTRL n e), 0, 1⟩
def MBX_RECV_INFO_MSG_SEQ (n e : Nat) : FieldRef := ⟨(MBX_RECV_INFO n e), 24, 8⟩
def MBX_RECV_INFO_MSG_EPOCH (n e : Nat) : FieldRef := ⟨(MBX_RECV_INFO n e), 16, 8⟩
def MBX_RECV_INFO_AVAIL (n e : Nat) : FieldRef := ⟨(MBX_RECV_INFO n e), 0, 1⟩
def MBX_COUNT_DISCARDED (n e : Nat) : FieldRef := ⟨(MBX_COUNT n e), 16, 16⟩
def MBX_COUNT_OVERWRITTEN (n e : Nat) : FieldRef := ⟨(MBX_COUNT n e), 0, 16⟩
def HIF_PRIV_PRIV : FieldRef := ⟨HIF_PRIV, 0, 4⟩
def HIF_ERR_JTAG_ERR : FieldRef := ⟨HIF_ERR, 6, 1⟩
def HIF_ERR_PCIE_PARTIAL : FieldRef := ⟨HIF_ERR, 5, 1⟩
def HIF_ERR_I2C_PARTIAL : FieldRef := ⟨HIF_ERR, 4, 1⟩
def HIF_ERR_I2C_ERR : FieldRef := ⟨HIF_ERR, 3, 1⟩
def HIF_ERR_SPI_LATE : FieldRef := ⟨HIF_ERR, 2, 1⟩
def HIF_ERR_SPI_PARTIAL : FieldRef := ⟨HIF_ERR, 1, 1⟩
def HIF_ERR_SPI_ERR : FieldRef := ⟨HIF_ERR, 0, 1⟩
def HIF_IRQ_STATUS_PENDING : FieldRef := ⟨HIF_IRQ_STATUS, 0, 10⟩
def HIF_IRQ_EN_IRQ_EN : FieldRef := ⟨HIF_IRQ_EN, 0, 10⟩
def HIF_MSIX_EN_MSIX_EN : FieldRef := ⟨HIF_MSIX_EN, 0, 10⟩
def HIF_PKT_EVT_DMA_ERR : FieldRef := ⟨HIF_PKT_EVT, 2, 1⟩
def HIF_PKT_EVT_TX_DONE : FieldRef := ⟨HIF_PKT_EVT, 1, 1⟩
def HIF_PKT_EVT_RX_DONE : FieldRef := ⟨HIF_PKT_EVT, 0, 1⟩
def HIF_RING_BASE_LO_BASE_LO (r : Nat) : FieldRef := ⟨(HIF_RING_BASE_LO r), 12, 20⟩
def HIF_RING_BASE_HI_BASE_HI (r : Nat) : FieldRef := ⟨(HIF_RING_BASE_HI r), 0, 32⟩
def HIF_RING_LEN_LEN (r : Nat) : FieldRef := ⟨(HIF_RING_LEN r), 0, 13⟩
def HIF_RING_TAIL_TAIL (r : Nat) : FieldRef := ⟨(HIF_RING_TAIL r), 0, 12⟩
def HIF_RING_HEAD_HEAD (r : Nat) : FieldRef := ⟨(HIF_RING_HEAD r), 0, 12⟩
def FLT_CFG_PULSE_LEN : FieldRef := ⟨FLT_CFG, 24, 8⟩
def FLT_CFG_HOLD_LOOPS : FieldRef := ⟨FLT_CFG, 0, 4⟩
def FLT_SQ_OUTPUTS : FieldRef := ⟨FLT_SQ, 0, 24⟩
def FLT_CTRL_CLEAR_FIRST : FieldRef := ⟨FLT_CTRL, 2, 1⟩
def FLT_CTRL_SQ_RELEASE : FieldRef := ⟨FLT_CTRL, 1, 1⟩
def FLT_CTRL_HOLD : FieldRef := ⟨FLT_CTRL, 0, 1⟩
def FLT_STATUS_NVLOG_OFF : FieldRef := ⟨FLT_STATUS, 3, 1⟩
def FLT_STATUS_SQ_ACTIVE : FieldRef := ⟨FLT_STATUS, 2, 1⟩
def FLT_STATUS_FAULT_N_LOW : FieldRef := ⟨FLT_STATUS, 1, 1⟩
def FLT_STATUS_FIRST_VALID : FieldRef := ⟨FLT_STATUS, 0, 1⟩
def FLT_EVT_NVLOG_LOST : FieldRef := ⟨FLT_EVT, 1, 1⟩
def FLT_EVT_IRQ : FieldRef := ⟨FLT_EVT, 0, 1⟩
def FLT_COUNT_WARN : FieldRef := ⟨FLT_COUNT, 16, 16⟩
def FLT_COUNT_SEVERE : FieldRef := ⟨FLT_COUNT, 8, 8⟩
def FLT_COUNT_INFO : FieldRef := ⟨FLT_COUNT, 0, 8⟩
def FLT_COUNT2_FATAL : FieldRef := ⟨FLT_COUNT2, 0, 8⟩
def FLT_FIRST_W_WORD (k : Nat) : FieldRef := ⟨(FLT_FIRST_W k), 0, 32⟩
def FLT_LOG_W_WORD (k : Nat) : FieldRef := ⟨(FLT_LOG_W k), 0, 32⟩
def FLT_FIRST_OVF_OVF : FieldRef := ⟨FLT_FIRST_OVF, 0, 16⟩
def FLT_LOG_INDEX_INDEX : FieldRef := ⟨FLT_LOG_INDEX, 0, 8⟩
def FLT_NVLOG_NVLOG_LOST : FieldRef := ⟨FLT_NVLOG, 16, 16⟩
def FLT_NVLOG_NEXT_SEQ : FieldRef := ⟨FLT_NVLOG, 0, 16⟩
def FLT_TEMP_TJ_MAX : FieldRef := ⟨FLT_TEMP, 16, 16⟩
def FLT_TEMP_TJ : FieldRef := ⟨FLT_TEMP, 0, 16⟩
def FLT_TEMP_LIM_WARN_HI : FieldRef := ⟨FLT_TEMP_LIM, 8, 8⟩
def FLT_TEMP_LIM_WARN_LO : FieldRef := ⟨FLT_TEMP_LIM, 0, 8⟩
def FLT_RAIL_OVER : FieldRef := ⟨FLT_RAIL, 7, 7⟩
def FLT_RAIL_UNDER : FieldRef := ⟨FLT_RAIL, 0, 7⟩
def FLT_REACT_RESET (n : Nat) : FieldRef := ⟨(FLT_REACT n), 7, 1⟩
def FLT_REACT_PORT_SHUT (n : Nat) : FieldRef := ⟨(FLT_REACT n), 6, 1⟩
def FLT_REACT_HOLD (n : Nat) : FieldRef := ⟨(FLT_REACT n), 5, 1⟩
def FLT_REACT_SQUELCH (n : Nat) : FieldRef := ⟨(FLT_REACT n), 4, 1⟩
def FLT_REACT_PULSE (n : Nat) : FieldRef := ⟨(FLT_REACT n), 3, 1⟩
def FLT_REACT_IRQ (n : Nat) : FieldRef := ⟨(FLT_REACT n), 2, 1⟩
def FLT_REACT_NVLOG (n : Nat) : FieldRef := ⟨(FLT_REACT n), 1, 1⟩
def FLT_REACT_LOG (n : Nat) : FieldRef := ⟨(FLT_REACT n), 0, 1⟩
def PWR_CFG_PFW_LEAN : FieldRef := ⟨PWR_CFG, 16, 1⟩
def PWR_CFG_SHED_INT : FieldRef := ⟨PWR_CFG, 0, 16⟩
def PWR_REQ_GO : FieldRef := ⟨PWR_REQ, 31, 1⟩
def PWR_REQ_WAKE : FieldRef := ⟨PWR_REQ, 4, 4⟩
def PWR_REQ_TARGET : FieldRef := ⟨PWR_REQ, 0, 3⟩
def PWR_STATUS_REFUSE : FieldRef := ⟨PWR_STATUS, 24, 3⟩
def PWR_STATUS_STATE : FieldRef := ⟨PWR_STATUS, 8, 3⟩
def PWR_STATUS_STEP : FieldRef := ⟨PWR_STATUS, 4, 2⟩
def PWR_STATUS_BUSY : FieldRef := ⟨PWR_STATUS, 0, 1⟩
def PWR_EVT_WAKE : FieldRef := ⟨PWR_EVT, 2, 1⟩
def PWR_EVT_REFUSED : FieldRef := ⟨PWR_EVT, 1, 1⟩
def PWR_EVT_STEP_CHG : FieldRef := ⟨PWR_EVT, 0, 1⟩
def PWR_WAKE_TIME_SECONDS : FieldRef := ⟨PWR_WAKE_TIME, 0, 24⟩
def PWR_WAKE_CAUSE_CAUSE : FieldRef := ⟨PWR_WAKE_CAUSE, 0, 3⟩
def PWR_SHED_LO_SHED_LO : FieldRef := ⟨PWR_SHED_LO, 0, 32⟩
def PWR_SHED_HI_SHED_HI : FieldRef := ⟨PWR_SHED_HI, 0, 16⟩
def PWR_TOKENS_REFUSALS : FieldRef := ⟨PWR_TOKENS, 16, 16⟩
def PWR_TOKENS_TOKENS : FieldRef := ⟨PWR_TOKENS, 0, 6⟩
def HOLD_LP_BIAS_LO_VALUE_LO (l : Nat) : FieldRef := ⟨(HOLD_LP_BIAS_LO l), 0, 32⟩
def HOLD_LP_BIAS_HI_VALUE_HI (l : Nat) : FieldRef := ⟨(HOLD_LP_BIAS_HI l), 0, 16⟩
def TIM_SRV_ACC_0_ACC : FieldRef := ⟨TIM_SRV_ACC_0, 0, 32⟩
def TIM_SRV_ACC_1_ACC : FieldRef := ⟨TIM_SRV_ACC_1, 0, 32⟩
def TIM_SRV_ACC_2_ACC : FieldRef := ⟨TIM_SRV_ACC_2, 0, 16⟩
def MIR_COUNT_RECORDS_COUNT : FieldRef := ⟨MIR_COUNT_RECORDS, 0, 32⟩
def MIR_COUNT_SAMPLES_COUNT : FieldRef := ⟨MIR_COUNT_SAMPLES, 0, 32⟩
def MIR_COUNT_LOST_COUNT : FieldRef := ⟨MIR_COUNT_LOST, 0, 32⟩
def MIR_COUNT_SAMPLE_LOST_COUNT : FieldRef := ⟨MIR_COUNT_SAMPLE_LOST, 0, 32⟩
def PRT_I2C_ROUTE_MUX_EN (m : Nat) : FieldRef := ⟨(PRT_I2C_ROUTE m), 31, 1⟩
def PRT_I2C_ROUTE_MUX_ADDR (m : Nat) : FieldRef := ⟨(PRT_I2C_ROUTE m), 24, 7⟩
def PRT_I2C_ROUTE_MUX_CHAN (m : Nat) : FieldRef := ⟨(PRT_I2C_ROUTE m), 16, 8⟩

end Sys2Proof.Machine
end

