-- ==== Sys2Proof/Machine/RegTable.lean ====
section
/-! DEFINITION. The register tables of the spec, row by row: base address, stride and count of the repeated rows, view (R14), and for each field its place, access code (R11), reset value (R10) and range (R25). Strap and Livery fields stand at 0 here; State.reset loads them (R46, R66). -/

namespace Sys2Proof.Machine

/-- A field of a register table with no range narrower than its width. -/
def fld (lo w : Nat) (a : Access) (r : Nat) : FieldRow := ⟨lo, w, a, r, .any⟩
/-- A field of a register table with a stated range (R25). -/
def fldR (lo w : Nat) (a : Access) (r : Nat) (g : Range) : FieldRow := ⟨lo, w, a, r, g⟩

def rowsGLB_0 : List RegRow := [
  ⟨"GLB_STATUS", 0x000010, [], false, [fld 24 8 .ro 0, fld 15 1 .w1c 0, fld 12 1 .ro 0, fld 11 1 .ro 0, fld 8 3 .ro 0, fld 6 2 .ro 0, fld 0 3 .ro 0]⟩,
  ⟨"GLB_STRAPS", 0x000020, [], false, [fld 8 2 .ro 0, fld 6 1 .ro 0, fld 0 6 .ro 0]⟩,
  ⟨"GLB_BOOT_STATUS", 0x000024, [], false, [fld 23 9 .ro 0x100, fld 20 3 .ro 0, fld 19 1 .ro 0, fld 18 1 .ro 0, fld 17 1 .ro 0, fld 12 4 .ro 0, fld 4 8 .ro 0, fld 0 3 .ro 0]⟩,
  ⟨"GLB_BOOT_CTRL", 0x000028, [], false, [fld 0 1 .w1s 0]⟩,
  ⟨"GLB_BOOT_IMGVER", 0x00002C, [], false, [fld 0 32 .ro 0]⟩,
  ⟨"GLB_BOOT_DATA", 0x000030, [], false, [fld 0 32 .wo 0]⟩,
  ⟨"GLB_BOOT_TIME", 0x000034, [], false, [fld 0 24 .ro 0]⟩,
  ⟨"GLB_FUSE", 0x000038, [], false, [fld 8 4 .ro 0, fld 4 4 .ro 0, fld 0 1 .ro 0]⟩,
  ⟨"GLB_LIV_LOT", 0x000100, [], false, [fld 24 8 .ro 0, fld 0 24 .ro 0]⟩,
  ⟨"GLB_LIV_DIE", 0x000104, [], false, [fld 24 8 .ro 0, fld 16 8 .ro 0, fld 8 8 .ro 0, fld 0 5 .ro 0]⟩,
  ⟨"GLB_LIV_REV", 0x000108, [], false, [fld 16 16 .ro 0, fld 0 8 .ro 0]⟩,
  ⟨"GLB_LIV_UID_LO", 0x00010C, [], false, [fld 0 32 .ro 0]⟩,
  ⟨"GLB_LIV_UID_HI", 0x000110, [], false, [fld 0 32 .ro 0]⟩]

/-- Every register of block GLB. -/
def rowsGLB : List RegRow := rowsGLB_0

def rowsCGU_0 : List RegRow := [
  ⟨"CGU_XO_STATUS", 0x010000, [], false, [fld 20 4 .ro 15, fld 12 8 .ro 0, fld 8 4 .ro 0, fld 3 1 .ro 0, fld 2 1 .ro 0, fld 1 1 .ro 0, fld 0 1 .ro 0]⟩,
  ⟨"CGU_XO_CTRL", 0x010004, [], true, [fldR 8 8 .rw 1 (.nat 1 255), fld 0 1 .w1s 0]⟩,
  ⟨"CGU_XO_EVT", 0x010008, [], false, [fld 8 8 .ro 0, fld 4 1 .w1c 0, fld 3 1 .w1c 0, fld 2 1 .w1c 0, fld 1 1 .w1c 0, fld 0 1 .w1c 0]⟩,
  ⟨"CGU_GATE", 0x010010, [], true, [fld 22 1 .rw 0, fld 21 1 .rw 0, fld 20 1 .rw 0, fld 19 1 .rw 0, fld 18 1 .rw 0, fld 17 1 .rw 0, fld 16 1 .rw 0, fld 0 12 .rw 0]⟩,
  ⟨"CGU_GATE_STATUS", 0x010014, [], false, [fld 24 8 .ro 0, fld 0 23 .ro 0]⟩,
  ⟨"CGU_DOM_SRC", 0x010020, [], true, [fldR 8 2 .rw 0 (.nat 0 2), fldR 6 2 .rw 0 (.nat 0 2), fldR 4 2 .rw 0 (.nat 0 2), fldR 2 2 .rw 0 (.nat 0 2), fldR 0 2 .rw 0 (.nat 0 2)]⟩,
  ⟨"CGU_SWITCH_STATUS", 0x010024, [], false, [fld 24 8 .ro 0, fld 13 1 .ro 0, fld 12 1 .ro 0, fld 11 1 .ro 0, fld 8 3 .ro 0, fld 4 4 .ro 0, fld 0 4 .ro 0]⟩,
  ⟨"CGU_CLKOUT", 0x010030, [], true, [fld 17 3 .rw 0, fldR 0 17 .rw 0 (.nat 0 65536)]⟩]

/-- Every register of block CGU. -/
def rowsCGU : List RegRow := rowsCGU_0

def rowsREFM_0 : List RegRow := [
  ⟨"REFM_CFG", 0x020000, [(0x100, 16)], true, [fldR 14 2 .rw 0 (.nat 0 2), fld 13 1 .rw 0, fld 12 1 .rw 0, fld 11 1 .rw 0, fld 10 1 .rw 0, fldR 8 2 .rw 0 (.nat 0 2), fld 7 1 .rw 0, fld 6 1 .rw 0, fld 0 1 .rw 0]⟩,
  ⟨"REFM_CFG", 0x021000, [(0x100, 48)], true, [fldR 14 2 .rw 0 (.nat 0 2), fld 13 1 .rw 0, fld 12 1 .ro 0, fld 11 1 .ro 0, fld 10 1 .ro 0, fld 8 2 .ro 0, fld 7 1 .ro 0, fld 6 1 .ro 0, fld 0 1 .rw 0]⟩,
  ⟨"REFM_FNOM", 0x020004, [(0x100, 16)], true, [fldR 0 30 .rw 0x989680 (.nat 1 1000000000)]⟩,
  ⟨"REFM_FNOM", 0x021004, [(0x100, 48)], true, [fld 0 30 .ro 0x9502F90]⟩,
  ⟨"REFM_DIV", 0x020008, [(0x100, 16)], true, [fldR 0 24 .rw 20 (.nat 1 16777215)]⟩,
  ⟨"REFM_DIV", 0x021008, [(0x100, 48)], true, [fldR 0 24 .rw 0x140 (.nat 1 16777215)]⟩,
  ⟨"REFM_SOFT", 0x02000C, [(0x100, 64)], true, [fldR 0 21 .rw 0x23F0 (.nat 1 2000000)]⟩,
  ⟨"REFM_HARD", 0x020010, [(0x100, 64)], true, [fldR 0 21 .rw 0x2EE0 (.nat 1 2000000)]⟩,
  ⟨"REFM_REENTRY", 0x020014, [(0x100, 64)], true, [fldR 0 21 .rw 0x1B58 (.nat 1 2000000)]⟩,
  ⟨"REFM_DRIFT", 0x020018, [(0x100, 64)], true, [fld 16 16 .rw 0x258, fld 0 16 .rw 100]⟩,
  ⟨"REFM_TIMES", 0x02001C, [(0x100, 64)], true, [fldR 20 12 .rw 0x12C (.nat 0 3600), fld 12 8 .rw 2, fldR 0 12 .rw 6 (.nat 5 4095)]⟩,
  ⟨"REFM_PJ", 0x020020, [(0x100, 64)], true, [fldR 0 24 .rw 0 (.natOrZero 100 16777215)]⟩,
  ⟨"REFM_PW", 0x020024, [(0x100, 64)], true, [fld 16 16 .rw 0xC350, fld 0 16 .rw 10]⟩,
  ⟨"REFM_STATE", 0x020040, [(0x100, 64)], false, [fld 20 12 .ro 0, fld 12 8 .ro 0, fld 11 1 .w1c 0, fld 10 1 .ro 0, fld 9 1 .ro 0, fld 8 1 .ro 0, fld 7 1 .ro 0, fld 6 1 .ro 0, fld 5 1 .ro 0, fld 0 3 .ro 0]⟩,
  ⟨"REFM_EVT", 0x020044, [(0x100, 64)], false, [fld 8 1 .w1c 0, fld 0 8 .w1c 0]⟩,
  ⟨"REFM_YS", 0x020048, [(0x100, 64)], false, [fld 0 32 .ro 0]⟩,
  ⟨"REFM_YL", 0x02004C, [(0x100, 64)], false, [fld 0 32 .ro 0]⟩,
  ⟨"REFM_DRATE", 0x020050, [(0x100, 64)], false, [fld 0 32 .ro 0]⟩,
  ⟨"REFM_TCROSS", 0x020054, [(0x100, 64)], false, [fld 0 24 .ro 0xFFFFFF]⟩,
  ⟨"REFM_PJ_LAST", 0x020058, [(0x100, 64)], false, [fld 0 32 .ro 0]⟩,
  ⟨"REFM_COUNT", 0x02005C, [(0x100, 64)], false, [fld 24 8 .ro 0, fld 16 8 .ro 0, fld 0 16 .ro 0]⟩,
  ⟨"REFM_GOOD_LO", 0x028000, [], false, [fld 0 32 .ro 0]⟩,
  ⟨"REFM_GOOD_HI", 0x028004, [], false, [fld 0 32 .ro 0]⟩,
  ⟨"REFM_EVT_SUM_LO", 0x028008, [], false, [fld 0 32 .ro 0]⟩]

def rowsREFM_1 : List RegRow := [
  ⟨"REFM_EVT_SUM_HI", 0x02800C, [], false, [fld 0 32 .ro 0]⟩,
  ⟨"REFM_TOD_CFG", 0x028100, [], true, [fld 24 8 .rw 37, fldR 22 2 .rw 0 (.nat 0 2), fldR 12 10 .rw 0x384 (.nat 1 999), fld 11 1 .rw 0, fld 10 1 .rw 0, fld 9 1 .rw 0, fld 6 3 .rw 1, fld 0 4 .rw 0]⟩,
  ⟨"REFM_TOD_STATUS", 0x028104, [], false, [fld 24 8 .ro 0, fld 16 8 .ro 0, fld 8 8 .ro 0, fld 7 1 .ro 0, fld 6 1 .w1c 0, fld 5 1 .w1c 0, fld 0 2 .ro 0]⟩,
  ⟨"REFM_TOD_SEC_LO", 0x028108, [], false, [fld 0 32 .ro 0]⟩,
  ⟨"REFM_TOD_SEC_HI", 0x02810C, [], false, [fld 0 16 .ro 0]⟩]

/-- Every register of block REFM. -/
def rowsREFM : List RegRow := rowsREFM_0 ++ rowsREFM_1

def rowsSEL_0 : List RegRow := [
  ⟨"SEL_CTRL", 0x030000, [(0x400, 4)], true, [fldR 24 7 .rw 16 (.nat 1 64), fldR 20 4 .rw 15 (.nat 1 15), fld 19 1 .rw 0, fld 18 1 .rw 1, fldR 16 2 .rw 0 (.nat 0 1), fld 8 6 .rw 0, fldR 0 2 .rw 0 (.nat 0 2)]⟩,
  ⟨"SEL_RANK", 0x030010, [(0x400, 4), (0x4, 8)], true, [fld 0 4 .rw 0, fld 4 4 .rw 0, fld 8 4 .rw 0, fld 12 4 .rw 0, fld 16 4 .rw 0, fld 20 4 .rw 0, fld 24 4 .rw 0, fld 28 4 .rw 0]⟩,
  ⟨"SEL_QL", 0x030030, [(0x400, 4), (0x4, 8)], true, [fld 0 4 .rw 0, fld 4 4 .rw 0, fld 8 4 .rw 0, fld 12 4 .rw 0, fld 16 4 .rw 0, fld 20 4 .rw 0, fld 24 4 .rw 0, fld 28 4 .rw 0]⟩,
  ⟨"SEL_AGREE", 0x030050, [(0x400, 4)], true, [fldR 24 8 .rw 10 (.nat 1 255), fldR 0 24 .rw 50 (.nat 1 16777215)]⟩,
  ⟨"SEL_ALIGN_LO", 0x030058, [(0x400, 4)], true, [fld 0 32 .rw 0]⟩,
  ⟨"SEL_ALIGN_HI", 0x03005C, [(0x400, 4)], true, [fld 0 16 .rw 0]⟩,
  ⟨"SEL_BLEED", 0x030060, [(0x400, 4)], true, [fld 0 32 .rw 0x78000]⟩,
  ⟨"SEL_STATUS", 0x030080, [(0x400, 4)], false, [fld 24 7 .ro 0, fld 20 4 .ro 0, fld 16 4 .ro 0, fld 13 3 .ro 0, fld 12 1 .ro 0, fld 11 1 .ro 0, fld 8 1 .ro 0, fld 0 6 .ro 0]⟩,
  ⟨"SEL_EVT", 0x030084, [(0x400, 4)], false, [fld 5 1 .w1c 0, fld 4 1 .w1c 0, fld 3 1 .w1c 0, fld 2 1 .w1c 0, fld 1 1 .w1c 0, fld 0 1 .w1c 0]⟩,
  ⟨"SEL_PBO_LO", 0x030088, [(0x400, 4)], false, [fld 0 32 .ro 0]⟩,
  ⟨"SEL_DELTA_LO", 0x030090, [(0x400, 4)], false, [fld 0 32 .ro 0]⟩,
  ⟨"SEL_PBO_HI", 0x03008C, [(0x400, 4)], false, [fld 0 16 .ro 0]⟩,
  ⟨"SEL_DELTA_HI", 0x030094, [(0x400, 4)], false, [fld 0 16 .ro 0]⟩,
  ⟨"SEL_COUNT", 0x030098, [(0x400, 4)], false, [fld 16 16 .ro 0, fld 8 8 .ro 0]⟩,
  ⟨"SEL_CAND_LO", 0x0300A0, [(0x400, 4)], false, [fld 0 32 .ro 0]⟩,
  ⟨"SEL_CAND_HI", 0x0300A4, [(0x400, 4)], false, [fld 0 32 .ro 0]⟩,
  ⟨"SEL_SUSPECT_LO", 0x0300A8, [(0x400, 4)], false, [fld 0 32 .ro 0]⟩,
  ⟨"SEL_SUSPECT_HI", 0x0300AC, [(0x400, 4)], false, [fld 0 32 .ro 0]⟩]

/-- Every register of block SEL. -/
def rowsSEL : List RegRow := rowsSEL_0

def rowsDPL_0 : List RegRow := [
  ⟨"DPL_CFG", 0x040000, [], true, [fld 24 8 .rw 0, fldR 20 3 .rw 0 (.nat 0 4), fld 17 2 .rw 0, fld 8 3 .rw 2, fld 3 1 .rw 1, fld 2 1 .rw 1, fld 0 1 .rw 1]⟩,
  ⟨"DPL_CFG", 0x041000, [], true, [fld 24 8 .rw 0, fldR 20 3 .rw 0 (.nat 0 4), fld 17 2 .rw 0, fld 8 3 .rw 2, fld 3 1 .rw 1, fld 2 1 .rw 1, fld 0 1 .rw 0]⟩,
  ⟨"DPL_CFG", 0x042000, [], true, [fld 24 8 .rw 0, fldR 20 3 .rw 0 (.nat 0 4), fld 16 3 .ro 1, fld 8 3 .rw 2, fld 3 1 .rw 1, fld 2 1 .rw 1, fld 0 1 .rw 1]⟩,
  ⟨"DPL_CFG", 0x043000, [], true, [fld 24 8 .rw 0, fldR 20 3 .rw 0 (.nat 0 4), fld 17 2 .rw 0, fld 8 3 .rw 2, fld 3 1 .rw 1, fld 2 1 .rw 1, fld 0 1 .rw 0]⟩,
  ⟨"DPL_CTRL", 0x040004, [(0x1000, 4)], true, [fldR 0 2 .rw 0 (.nat 0 2)]⟩,
  ⟨"DPL_KP", 0x040008, [(0x1000, 4)], true, [fld 24 6 .rw 24, fldR 0 24 .rw 0xA00000 (.nat 1 16777215)]⟩,
  ⟨"DPL_KI", 0x04000C, [(0x1000, 4)], true, [fld 24 6 .rw 31, fld 0 24 .rw 0x800000]⟩,
  ⟨"DPL_SLOPE", 0x040010, [(0x1000, 4)], true, [fldR 0 24 .rw 75 (.nat 1 1000000)]⟩,
  ⟨"DPL_FSL", 0x040014, [(0x1000, 4)], true, [fldR 0 24 .rw 0x3E8 (.nat 1 16777215)]⟩,
  ⟨"DPL_LOCK", 0x040018, [(0x1000, 4)], true, [fldR 16 16 .rw 0x1F4 (.nat 1 65535), fldR 0 16 .rw 50 (.nat 1 65535)]⟩,
  ⟨"DPL_LOCK_TIME", 0x04001C, [(0x1000, 4)], true, [fldR 24 8 .rw 4 (.nat 1 255), fld 12 12 .rw 100, fld 0 12 .rw 1]⟩,
  ⟨"DPL_TU", 0x040020, [(0x1000, 4)], true, [fldR 0 32 .rw 0xF424 (.nat 100 16000000)]⟩,
  ⟨"DPL_GPER", 0x040024, [(0x1000, 4)], true, [fldR 0 32 .rw 0x1F40 (.nat 4000 4000000000)]⟩,
  ⟨"DPL_RAMP_CTRL", 0x040030, [(0x1000, 4)], true, [fld 2 1 .rw 0, fld 1 1 .w1s 0, fld 0 1 .w1s 0]⟩,
  ⟨"DPL_RAMP_RATE", 0x040034, [(0x1000, 4)], true, [fld 0 32 .rw 0x78000]⟩,
  ⟨"DPL_RAMP_VAL_LO", 0x040038, [(0x1000, 4)], true, [fld 0 32 .rw 0]⟩,
  ⟨"DPL_RAMP_VAL_HI", 0x04003C, [(0x1000, 4)], true, [fld 0 16 .rw 0]⟩,
  ⟨"DPL_STATUS", 0x040080, [(0x1000, 4)], false, [fld 23 1 .ro 0, fld 22 1 .ro 0, fld 21 1 .ro 0, fld 20 1 .ro 0, fld 19 1 .ro 0, fld 18 1 .ro 0, fld 17 1 .ro 0, fld 0 3 .ro 0]⟩,
  ⟨"DPL_EVT", 0x040084, [(0x1000, 4)], false, [fld 7 1 .w1c 0, fld 6 1 .w1c 0, fld 5 1 .w1c 0, fld 4 1 .w1c 0, fld 3 1 .w1c 0, fld 2 1 .w1c 0, fld 1 1 .w1c 0, fld 0 1 .w1c 0]⟩,
  ⟨"DPL_FREQ_LO", 0x040088, [(0x1000, 4)], false, [fld 0 32 .ro 0]⟩,
  ⟨"DPL_PHERR_LO", 0x040090, [(0x1000, 4)], false, [fld 0 32 .ro 0]⟩,
  ⟨"DPL_RAMP_ACC_LO", 0x040098, [(0x1000, 4)], false, [fld 0 32 .ro 0]⟩,
  ⟨"DPL_FREQ_HI", 0x04008C, [(0x1000, 4)], false, [fld 0 16 .ro 0]⟩,
  ⟨"DPL_PHERR_HI", 0x040094, [(0x1000, 4)], false, [fld 0 16 .ro 0]⟩]

def rowsDPL_1 : List RegRow := [
  ⟨"DPL_RAMP_ACC_HI", 0x04009C, [(0x1000, 4)], false, [fld 0 16 .ro 0]⟩,
  ⟨"DPL_COUNT", 0x0400A0, [(0x1000, 4)], false, [fld 24 8 .ro 0, fld 16 8 .ro 0, fld 0 16 .ro 0]⟩,
  ⟨"DPL_LEAD", 0x04F000, [], true, [fld 0 2 .rw 0]⟩]

/-- Every register of block DPL. -/
def rowsDPL : List RegRow := rowsDPL_0 ++ rowsDPL_1

def rowsHOLD_0 : List RegRow := [
  ⟨"HOLD_CFG", 0x050000, [], true, [fld 24 4 .rw 7, fldR 20 2 .rw 0 (.nat 0 2), fld 19 1 .rw 0, fld 18 1 .rw 0, fld 17 1 .rw 1]⟩,
  ⟨"HOLD_LEARN", 0x050004, [], true, [fldR 16 16 .rw 168 (.nat 24 8760), fldR 0 13 .rw 60 (.nat 15 4320)]⟩,
  ⟨"HOLD_EXPIRY", 0x050008, [], true, [fldR 24 8 .rw 0 (.nat 0 99), fldR 16 8 .rw 60 (.nat 10 255), fld 0 16 .rw 0x10E0]⟩,
  ⟨"HOLD_ELIM", 0x05000C, [], true, [fldR 0 32 .rw 0x2710 (.nat 1 4294967295)]⟩,
  ⟨"HOLD_BIAS", 0x050010, [], true, [fld 24 8 .rw 10, fldR 0 12 .rw 0x12C (.nat 10 4095)]⟩,
  ⟨"HOLD_TSENS", 0x050014, [], true, [fldR 24 8 .rw 50 (.nat 1 255), fld 16 8 .rw 0, fld 15 1 .rw 0, fld 13 2 .rw 0, fldR 0 7 .rw 72 (.nat 8 119)]⟩,
  ⟨"HOLD_CTRL", 0x050018, [], true, [fld 1 1 .w1s 0, fld 0 1 .w1s 0]⟩,
  ⟨"HOLD_STATUS", 0x050080, [], false, [fld 19 1 .ro 0, fld 18 1 .ro 0, fld 17 1 .ro 0, fld 16 1 .ro 0, fld 12 4 .ro 0, fld 8 4 .ro 0, fld 4 4 .ro 0, fld 0 2 .ro 0]⟩,
  ⟨"HOLD_EVT", 0x050084, [], false, [fld 6 1 .w1c 0, fld 5 1 .w1c 0, fld 4 1 .w1c 0, fld 3 1 .w1c 0, fld 2 1 .w1c 0, fld 1 1 .w1c 0, fld 0 1 .w1c 0]⟩,
  ⟨"HOLD_LEARNT", 0x050088, [], false, [fld 20 12 .ro 0, fld 0 20 .ro 0]⟩,
  ⟨"HOLD_YPRED_LO", 0x050090, [], false, [fld 0 32 .ro 0]⟩,
  ⟨"HOLD_CAL_LO", 0x050098, [], false, [fld 0 32 .ro 0]⟩,
  ⟨"HOLD_YPRED_HI", 0x050094, [], false, [fld 0 16 .ro 0]⟩,
  ⟨"HOLD_CAL_HI", 0x05009C, [], false, [fld 0 16 .ro 0]⟩,
  ⟨"HOLD_AGE", 0x0500A0, [], false, [fld 0 32 .ro 0]⟩,
  ⟨"HOLD_TC1", 0x0500A4, [], false, [fld 0 32 .ro 0]⟩,
  ⟨"HOLD_TC2", 0x0500A8, [], false, [fld 0 32 .ro 0]⟩,
  ⟨"HOLD_UA", 0x0500AC, [], false, [fld 0 32 .ro 0]⟩,
  ⟨"HOLD_UT", 0x0500B0, [], false, [fld 0 32 .ro 0]⟩,
  ⟨"HOLD_TEMP", 0x0500B4, [], false, [fld 16 16 .ro 0, fld 0 16 .ro 0]⟩,
  ⟨"HOLD_LP_STATUS", 0x050100, [(0x20, 4)], false, [fld 24 8 .ro 0, fld 0 24 .ro 0]⟩,
  ⟨"HOLD_LP_ERR", 0x050104, [(0x20, 4)], false, [fld 0 32 .ro 0]⟩,
  ⟨"HOLD_LP_UY", 0x050108, [(0x20, 4)], false, [fld 0 32 .ro 0]⟩,
  ⟨"HOLD_LP_THETA", 0x05010C, [(0x20, 4)], false, [fld 0 32 .ro 0]⟩]

def rowsHOLD_1 : List RegRow := [
  ⟨"HOLD_LP_BIAS_LO", 0x050110, [(0x20, 4)], false, [fld 0 32 .ro 0]⟩,
  ⟨"HOLD_LP_BIAS_HI", 0x050114, [(0x20, 4)], false, [fld 0 16 .ro 0]⟩]

/-- Every register of block HOLD. -/
def rowsHOLD : List RegRow := rowsHOLD_0 ++ rowsHOLD_1

def rowsAXL_0 : List RegRow := [
  ⟨"AXL_CFG", 0x060000, [], true, [fld 16 4 .rw 0, fld 8 1 .rw 0, fld 4 1 .rw 0, fld 0 1 .rw 1]⟩,
  ⟨"AXL_CFG", 0x061000, [], true, [fld 16 4 .rw 0, fld 8 1 .rw 0, fld 4 1 .ro 0, fld 0 1 .rw 1]⟩,
  ⟨"AXL_CFG", 0x062000, [(0x1000, 2)], true, [fld 16 4 .rw 0, fld 8 1 .rw 0, fld 4 1 .rw 0, fld 0 1 .rw 0]⟩,
  ⟨"AXL_CTRL", 0x060004, [(0x1000, 4)], true, [fld 1 1 .w1s 0, fld 0 1 .w1s 0]⟩,
  ⟨"AXL_FWORD_LO", 0x060008, [(0x1000, 4)], true, [fld 0 32 .rw 0]⟩,
  ⟨"AXL_FWORD_HI", 0x06000C, [(0x1000, 4)], true, [fld 0 16 .rw 0]⟩,
  ⟨"AXL_STEP_LO", 0x060010, [(0x1000, 4)], true, [fld 0 32 .wo 0]⟩,
  ⟨"AXL_STEP_HI", 0x060014, [(0x1000, 4)], true, [fld 0 16 .wo 0]⟩,
  ⟨"AXL_STEP_RATE", 0x060018, [(0x1000, 4)], true, [fldR 0 9 .rw 0x100 (.nat 1 256)]⟩,
  ⟨"AXL_LOCK", 0x06001C, [(0x1000, 4)], true, [fldR 0 10 .rw 10 (.nat 0 1000)]⟩,
  ⟨"AXL_STEP_LEFT_LO", 0x060020, [(0x1000, 4)], false, [fld 0 32 .ro 0]⟩,
  ⟨"AXL_STEP_LEFT_HI", 0x060024, [(0x1000, 4)], false, [fld 0 16 .ro 0]⟩,
  ⟨"AXL_STATUS", 0x060080, [], false, [fld 24 7 .ro 0, fld 12 10 .ro 0, fld 8 4 .ro 0, fld 7 1 .ro 0, fld 6 1 .ro 0, fld 5 1 .ro 0, fld 4 1 .ro 1, fld 0 3 .ro 0]⟩,
  ⟨"AXL_STATUS", 0x061080, [], false, [fld 24 7 .ro 0, fld 12 10 .ro 0, fld 8 4 .ro 0, fld 7 1 .ro 1, fld 6 1 .ro 1, fld 5 1 .ro 0, fld 4 1 .ro 1, fld 0 3 .ro 0]⟩,
  ⟨"AXL_STATUS", 0x062080, [(0x1000, 2)], false, [fld 24 7 .ro 0, fld 12 10 .ro 0, fld 8 4 .ro 0, fld 7 1 .ro 0, fld 6 1 .ro 1, fld 5 1 .ro 0, fld 4 1 .ro 1, fld 0 3 .ro 0]⟩,
  ⟨"AXL_EVT", 0x060084, [(0x1000, 4)], false, [fld 6 1 .w1c 0, fld 5 1 .w1c 0, fld 4 1 .w1c 0, fld 3 1 .w1c 0, fld 2 1 .w1c 0, fld 1 1 .w1c 0, fld 0 1 .w1c 0]⟩,
  ⟨"AXL_COUNT", 0x060088, [(0x1000, 4)], false, [fld 16 16 .ro 0, fld 8 8 .ro 0, fld 0 8 .ro 0]⟩,
  ⟨"AXL_BAND_LO", 0x061100, [(0x1000, 3), (0x10, 16)], true, [fld 0 32 .rw 0]⟩,
  ⟨"AXL_BAND_HI", 0x061104, [(0x1000, 3), (0x10, 16)], true, [fld 0 16 .rw 0x8000]⟩,
  ⟨"AXL_BAND_CODE", 0x061108, [(0x1000, 3), (0x10, 16)], false, [fld 31 1 .ro 0, fld 23 8 .ro 0, fld 16 7 .ro 0, fld 0 10 .ro 0]⟩]

/-- Every register of block AXL. -/
def rowsAXL : List RegRow := rowsAXL_0

def rowsOUT_0 : List RegRow := [
  ⟨"OUT_CFG", 0x070000, [(0x100, 24)], true, [fld 14 1 .rw 0, fldR 12 2 .rw 0 (.nat 0 2), fldR 10 2 .rw 0 (.nat 0 2), fld 8 2 .rw 0, fldR 4 3 .rw 0 (.nat 0 3), fld 2 2 .rw 1, fld 1 1 .rw 0, fld 0 1 .rw 0]⟩,
  ⟨"OUT_DIV", 0x070004, [(0x100, 24)], true, [fld 0 32 .rw 0]⟩,
  ⟨"OUT_DELAY", 0x070008, [(0x100, 24)], true, [fld 8 24 .rw 0, fld 0 8 .rw 0]⟩,
  ⟨"OUT_PERIOD", 0x07000C, [(0x100, 24)], true, [fldR 0 32 .rw 0x3B9ACA00 (.nat 1000 2000000000)]⟩,
  ⟨"OUT_WIDTH", 0x070010, [(0x100, 24)], true, [fldR 0 32 .rw 0x5F5E100 (.nat 8 4294967295)]⟩,
  ⟨"OUT_PHASE_LO", 0x070014, [(0x100, 24)], true, [fld 0 32 .rw 0]⟩,
  ⟨"OUT_PHASE_HI", 0x070018, [(0x100, 24)], true, [fld 0 16 .rw 0]⟩,
  ⟨"OUT_STATUS", 0x070080, [(0x100, 24)], false, [fld 5 1 .ro 0, fld 4 1 .ro 0, fld 3 1 .ro 0, fld 2 1 .ro 0, fld 0 2 .ro 0]⟩,
  ⟨"OUT_EVT", 0x070084, [(0x100, 24)], false, [fld 3 1 .w1c 0, fld 2 1 .w1c 0, fld 1 1 .w1c 0, fld 0 1 .w1c 0]⟩,
  ⟨"OUT_KEEP", 0x072000, [], true, [fld 8 1 .rw 0, fldR 0 5 .rw 0 (.nat 0 23)]⟩]

/-- Every register of block OUT. -/
def rowsOUT : List RegRow := rowsOUT_0

def rowsTIM_0 : List RegRow := [
  ⟨"TIM_CFG", 0x080000, [(0x100, 2)], true, [fld 0 1 .rw 0]⟩,
  ⟨"TIM_CTRL", 0x080004, [(0x100, 2)], true, [fld 2 1 .w1s 0, fld 1 1 .w1s 0, fld 0 1 .w1s 0]⟩,
  ⟨"TIM_STATUS", 0x080008, [(0x100, 2)], false, [fld 1 1 .ro 0, fld 0 1 .ro 0]⟩,
  ⟨"TIM_EVT", 0x08000C, [(0x100, 2)], false, [fld 6 1 .w1c 0, fld 5 1 .w1c 0, fld 4 1 .w1c 0, fld 3 1 .w1c 0, fld 2 1 .w1c 0, fld 1 1 .w1c 0, fld 0 1 .w1c 0]⟩,
  ⟨"TIM_INC_LO", 0x080010, [(0x100, 2)], true, [fld 0 32 .rw 0x33333333]⟩,
  ⟨"TIM_INC_HI", 0x080014, [(0x100, 2)], true, [fld 0 10 .rw 0x333]⟩,
  ⟨"TIM_SET_NS", 0x080018, [(0x100, 2)], true, [fldR 0 30 .rw 0 (.nat 0 999999999)]⟩,
  ⟨"TIM_SET_SEC_LO", 0x08001C, [(0x100, 2)], true, [fld 0 32 .rw 0]⟩,
  ⟨"TIM_SET_SEC_HI", 0x080020, [(0x100, 2)], true, [fld 0 16 .rw 0]⟩,
  ⟨"TIM_STEP_SEC", 0x080024, [(0x100, 2)], true, [fld 0 32 .rw 0]⟩,
  ⟨"TIM_STEP_NS", 0x080028, [(0x100, 2)], true, [fldR 0 32 .rw 0 (.int (-999999999) 999999999)]⟩,
  ⟨"TIM_NOW0", 0x080030, [(0x100, 2)], false, [fld 0 32 .ro 0]⟩,
  ⟨"TIM_SNAP_A0", 0x080310, [], false, [fld 0 32 .ro 0]⟩,
  ⟨"TIM_SNAP_B0", 0x080320, [], false, [fld 0 32 .ro 0]⟩,
  ⟨"TIM_SNAP_SRV0", 0x080330, [], false, [fld 0 32 .ro 0]⟩,
  ⟨"TIM_SRV_NOW0", 0x080230, [], false, [fld 0 32 .ro 0]⟩,
  ⟨"TIM_NOW1", 0x080034, [(0x100, 2)], false, [fld 0 30 .ro 0]⟩,
  ⟨"TIM_SNAP_A1", 0x080314, [], false, [fld 0 30 .ro 0]⟩,
  ⟨"TIM_SNAP_B1", 0x080324, [], false, [fld 0 30 .ro 0]⟩,
  ⟨"TIM_SNAP_SRV1", 0x080334, [], false, [fld 0 30 .ro 0]⟩,
  ⟨"TIM_SRV_NOW1", 0x080234, [], false, [fld 0 30 .ro 0]⟩,
  ⟨"TIM_NOW2", 0x080038, [(0x100, 2)], false, [fld 0 32 .ro 0]⟩,
  ⟨"TIM_SNAP_A2", 0x080318, [], false, [fld 0 32 .ro 0]⟩,
  ⟨"TIM_SNAP_B2", 0x080328, [], false, [fld 0 32 .ro 0]⟩]

def rowsTIM_1 : List RegRow := [
  ⟨"TIM_SNAP_SRV2", 0x080338, [], false, [fld 0 32 .ro 0]⟩,
  ⟨"TIM_SRV_NOW2", 0x080238, [], false, [fld 0 32 .ro 0]⟩,
  ⟨"TIM_NOW3", 0x08003C, [(0x100, 2)], false, [fld 0 16 .ro 0]⟩,
  ⟨"TIM_SNAP_A3", 0x08031C, [], false, [fld 0 16 .ro 0]⟩,
  ⟨"TIM_SNAP_B3", 0x08032C, [], false, [fld 0 16 .ro 0]⟩,
  ⟨"TIM_SNAP_SRV3", 0x08033C, [], false, [fld 0 16 .ro 0]⟩,
  ⟨"TIM_SRV_NOW3", 0x08023C, [], false, [fld 0 16 .ro 0]⟩,
  ⟨"TIM_EPOCH_LO", 0x080040, [(0x100, 2)], false, [fld 0 32 .ro 0]⟩,
  ⟨"TIM_EPOCH_HI", 0x080044, [(0x100, 2)], false, [fld 0 16 .ro 0]⟩,
  ⟨"TIM_COUNT", 0x080048, [(0x100, 2)], false, [fld 16 16 .ro 0, fld 0 16 .ro 0]⟩,
  ⟨"TIM_SRV_CFG", 0x080200, [], true, [fldR 8 8 .rw 60 (.nat 1 255), fld 3 1 .rw 1, fld 2 1 .rw 0, fld 1 1 .rw 0, fld 0 1 .rw 0]⟩,
  ⟨"TIM_SRV_RATE", 0x080204, [], true, [fld 0 32 .rw 0x640000]⟩,
  ⟨"TIM_SRV_TGT_LO", 0x080208, [(0x8, 2)], true, [fld 0 32 .rw 0]⟩,
  ⟨"TIM_SRV_TGT_HI", 0x08020C, [(0x8, 2)], true, [fld 0 16 .rw 0]⟩,
  ⟨"TIM_SRV_STATUS", 0x080218, [], false, [fld 2 1 .ro 0, fld 1 1 .ro 0, fld 0 1 .ro 0]⟩,
  ⟨"TIM_SRV_EVT", 0x08021C, [], false, [fld 2 1 .w1c 0, fld 1 1 .w1c 0, fld 0 1 .w1c 0]⟩,
  ⟨"TIM_SNAP_CTRL", 0x080300, [], false, [fld 1 1 .rw 0, fld 0 1 .w1s 0]⟩,
  ⟨"TIM_SNAP_SEQ", 0x080304, [], false, [fld 0 32 .ro 0]⟩,
  ⟨"TIM_SRV_ACC_0", 0x080220, [], false, [fld 0 32 .ro 0]⟩,
  ⟨"TIM_SRV_ACC_1", 0x080224, [], false, [fld 0 32 .ro 0]⟩,
  ⟨"TIM_SRV_ACC_2", 0x080228, [], false, [fld 0 16 .ro 0]⟩]

/-- Every register of block TIM. -/
def rowsTIM : List RegRow := rowsTIM_0 ++ rowsTIM_1

def rowsGAU_0 : List RegRow := [
  ⟨"GAU_CFG", 0x090000, [(0x100, 64)], true, [fld 24 8 .rw 255, fld 16 8 .rw 255, fldR 5 2 .rw 1 (.nat 0 2), fld 4 1 .rw 0, fld 3 1 .rw 0, fld 2 1 .rw 0, fld 1 1 .rw 0, fld 0 1 .rw 1]⟩,
  ⟨"GAU_TOLL", 0x090004, [(0x100, 64)], true, [fldR 0 32 .rw 0xC35 (.nat 1 3125000000)]⟩,
  ⟨"GAU_HOLDOFF", 0x090008, [(0x100, 64)], true, [fldR 0 15 .rw 0 (.nat 0 31250)]⟩,
  ⟨"GAU_STAT_CFG", 0x09000C, [(0x100, 64)], true, [fldR 16 2 .rw 0 (.nat 0 2), fld 0 16 .rw 0]⟩,
  ⟨"GAU_STAT_PER", 0x090010, [(0x100, 64)], true, [fldR 0 32 .rw 0x3B9ACA00 (.nat 1000 4000000000)]⟩,
  ⟨"GAU_STAT_CTRL", 0x090014, [(0x100, 64)], true, [fld 1 1 .w1s 0, fld 0 1 .w1s 0]⟩,
  ⟨"GAU_STATUS", 0x090040, [(0x100, 64)], false, [fld 3 1 .ro 0, fld 2 1 .ro 0, fld 1 1 .ro 0, fld 0 1 .ro 1]⟩,
  ⟨"GAU_EVT", 0x090044, [(0x100, 64)], false, [fld 7 1 .w1c 0, fld 6 1 .w1c 0, fld 5 1 .w1c 0, fld 4 1 .w1c 0, fld 3 1 .w1c 0, fld 2 1 .w1c 0, fld 1 1 .w1c 0, fld 0 1 .w1c 0]⟩,
  ⟨"GAU_COUNT", 0x090048, [(0x100, 64)], false, [fld 16 16 .ro 0, fld 0 16 .ro 0]⟩,
  ⟨"GAU_COUNT2", 0x09004C, [(0x100, 64)], false, [fld 16 16 .ro 0, fld 0 16 .ro 0]⟩,
  ⟨"GAU_COUNT3", 0x090050, [(0x100, 64)], false, [fld 16 16 .ro 0, fld 0 16 .ro 0]⟩,
  ⟨"GAU_RES_SEQ", 0x090054, [(0x100, 64)], false, [fld 0 32 .ro 0]⟩,
  ⟨"GAU_TS0", 0x090060, [(0x100, 64)], false, [fld 0 16 .ro 0]⟩,
  ⟨"GAU_TS1", 0x090064, [(0x100, 64)], false, [fld 0 30 .ro 0]⟩,
  ⟨"GAU_TS2", 0x090068, [(0x100, 64)], false, [fld 0 32 .ro 0]⟩,
  ⟨"GAU_TS3", 0x09006C, [(0x100, 64)], false, [fld 0 16 .ro 0]⟩,
  ⟨"GAU_IVL_LO", 0x090070, [(0x100, 64)], false, [fld 0 32 .ro 0]⟩,
  ⟨"GAU_STAT_MEAN_LO", 0x090088, [(0x100, 64)], false, [fld 0 32 .ro 0]⟩,
  ⟨"GAU_STAT_MIN_LO", 0x090090, [(0x100, 64)], false, [fld 0 32 .ro 0]⟩,
  ⟨"GAU_STAT_MAX_LO", 0x090098, [(0x100, 64)], false, [fld 0 32 .ro 0]⟩,
  ⟨"GAU_IVL_HI", 0x090074, [(0x100, 64)], false, [fld 0 32 .ro 0]⟩,
  ⟨"GAU_STAT_MEAN_HI", 0x09008C, [(0x100, 64)], false, [fld 0 32 .ro 0]⟩,
  ⟨"GAU_STAT_MIN_HI", 0x090094, [(0x100, 64)], false, [fld 0 32 .ro 0]⟩,
  ⟨"GAU_STAT_MAX_HI", 0x09009C, [(0x100, 64)], false, [fld 0 32 .ro 0]⟩]

def rowsGAU_1 : List RegRow := [
  ⟨"GAU_STAT_COUNT", 0x090080, [(0x100, 64)], false, [fld 0 16 .ro 0]⟩,
  ⟨"GAU_STAT_STD", 0x0900A0, [(0x100, 64)], false, [fld 0 32 .ro 0]⟩,
  ⟨"GAU_GLB_STATUS", 0x098000, [], false, [fld 0 1 .ro 0]⟩,
  ⟨"GAU_EVT_SUM_LO", 0x098008, [], false, [fld 0 32 .ro 0]⟩,
  ⟨"GAU_EVT_SUM_HI", 0x09800C, [], false, [fld 0 32 .ro 0]⟩]

/-- Every register of block GAU. -/
def rowsGAU : List RegRow := rowsGAU_0 ++ rowsGAU_1

def rowsTSE_0 : List RegRow := [
  ⟨"TSE_CFG", 0x0A0000, [], true, [fld 3 1 .rw 0, fld 2 1 .rw 0, fldR 0 2 .rw 0 (.nat 0 2)]⟩,
  ⟨"TSE_TXTS_0", 0x0A0010, [], false, [fld 31 1 .ro 0, fld 16 6 .ro 0, fld 8 8 .ro 0, fld 4 4 .ro 0, fld 0 1 .ro 0]⟩,
  ⟨"TSE_TXTS_1", 0x0A0014, [], false, [fld 16 16 .ro 0, fld 0 16 .ro 0]⟩,
  ⟨"TSE_TXTS_2", 0x0A0018, [], false, [fld 0 30 .ro 0]⟩,
  ⟨"TSE_TXTS_3", 0x0A001C, [], false, [fld 0 32 .ro 0]⟩,
  ⟨"TSE_TXTS_4", 0x0A0020, [], false, [fld 0 16 .ro 0]⟩,
  ⟨"TSE_TXTS_STATUS", 0x0A0024, [], false, [fld 16 16 .ro 0, fld 0 9 .ro 0]⟩,
  ⟨"TSE_ESMC_CFG", 0x0A0100, [], true, [fld 4 4 .rw 8, fld 1 1 .rw 0, fld 0 1 .rw 0]⟩,
  ⟨"TSE_ESMC_RX_LO", 0x0A0108, [], true, [fld 0 32 .rw 0]⟩,
  ⟨"TSE_ESMC_TX_LO", 0x0A0110, [], true, [fld 0 32 .rw 0]⟩,
  ⟨"TSE_ESMC_RX_HI", 0x0A010C, [], true, [fld 0 16 .rw 0]⟩,
  ⟨"TSE_ESMC_TX_HI", 0x0A0114, [], true, [fld 0 16 .rw 0]⟩,
  ⟨"TSE_PORT_CFG", 0x0A1000, [(0x40, 48)], true, [fld 2 1 .rw 0, fld 1 1 .rw 1, fld 0 1 .rw 1]⟩,
  ⟨"TSE_PORT_EXT_TX", 0x0A1004, [(0x40, 48)], true, [fld 0 24 .rw 0]⟩,
  ⟨"TSE_PORT_EXT_RX", 0x0A1008, [(0x40, 48)], true, [fld 0 24 .rw 0]⟩,
  ⟨"TSE_PORT_STATUS", 0x0A1010, [(0x40, 48)], false, [fld 8 4 .ro 0, fld 3 1 .ro 0, fld 2 1 .ro 0, fld 1 1 .ro 0]⟩,
  ⟨"TSE_PORT_EVT", 0x0A1014, [(0x40, 48)], false, [fld 16 16 .ro 0, fld 1 1 .w1c 0, fld 0 1 .w1c 0]⟩,
  ⟨"TSE_PORT_LAT_TX", 0x0A1018, [(0x40, 48)], false, [fld 0 32 .ro 0]⟩,
  ⟨"TSE_PORT_LAT_RX", 0x0A101C, [(0x40, 48)], false, [fld 0 32 .ro 0]⟩,
  ⟨"SESS_CFG", 0x0A4000, [(0x40, 192)], true, [fldR 24 6 .rw 0 (.nat 0 47), fld 16 8 .rw 24, fld 12 1 .rw 0, fldR 10 2 .rw 0 (.nat 0 2), fldR 8 2 .rw 0 (.nat 0 2), fld 7 1 .rw 0, fldR 2 2 .rw 1 (.nat 0 2), fld 0 1 .rw 0]⟩,
  ⟨"SESS_INTV", 0x0A4004, [(0x40, 192)], true, [fldR 24 8 .rw 3 (.nat 2 255), fld 16 3 .rw 0, fldR 8 8 .rw 252 (.int (-7) 4), fldR 0 8 .rw 252 (.int (-7) 4)]⟩,
  ⟨"SESS_ASYM", 0x0A4008, [(0x40, 192)], true, [fld 0 32 .rw 0]⟩,
  ⟨"SESS_STATUS", 0x0A4010, [(0x40, 192)], false, [fld 5 1 .w1c 0, fld 4 1 .w1c 0, fld 3 1 .ro 0, fld 0 3 .ro 0]⟩,
  ⟨"SESS_OFFSET_LO", 0x0A4014, [(0x40, 192)], false, [fld 0 32 .ro 0]⟩]

def rowsTSE_1 : List RegRow := [
  ⟨"SESS_MPD_LO", 0x0A401C, [(0x40, 192)], false, [fld 0 32 .ro 0]⟩,
  ⟨"SESS_OFFSET_HI", 0x0A4018, [(0x40, 192)], false, [fld 0 16 .ro 0]⟩,
  ⟨"SESS_MPD_HI", 0x0A4020, [(0x40, 192)], false, [fld 0 16 .ro 0]⟩,
  ⟨"SESS_COUNT", 0x0A4024, [(0x40, 192)], false, [fld 16 16 .ro 0, fld 8 8 .ro 0, fld 0 8 .ro 0]⟩]

/-- Every register of block TSE. -/
def rowsTSE : List RegRow := rowsTSE_0 ++ rowsTSE_1

def rowsCPL_0 : List RegRow := [
  ⟨"CPL_NODE", 0x0B0000, [], true, [fld 18 1 .rw 1, fld 17 1 .rw 0, fld 16 1 .rw 0, fld 0 16 .rw 0]⟩,
  ⟨"CPL_NODE_ERR", 0x0B0004, [], true, [fld 16 16 .rw 0, fld 0 16 .rw 40]⟩,
  ⟨"CPL_NODE_STATUS", 0x0B0008, [], false, [fld 16 16 .ro 0, fld 7 1 .ro 0, fld 0 6 .ro 63]⟩,
  ⟨"CPL_NODE_ACC", 0x0B000C, [], false, [fld 0 32 .ro 0xFFFFFFFF]⟩,
  ⟨"CPL_BLEED", 0x0B0010, [], true, [fld 0 32 .rw 0x78000]⟩,
  ⟨"CPL_FEED_CFG", 0x0B0100, [(0x10, 4)], true, [fldR 0 6 .rw 0 (.nat 0 47)]⟩,
  ⟨"CPL_FEED_STATUS", 0x0B0104, [(0x10, 4)], false, [fld 7 1 .ro 0, fld 6 1 .ro 0, fld 5 1 .ro 0, fld 4 1 .ro 0, fld 3 1 .ro 0, fld 2 1 .ro 0, fld 1 1 .ro 1, fld 0 1 .ro 0]⟩,
  ⟨"CPL_FEED_BO", 0x0B0108, [(0x10, 4)], false, [fld 0 32 .ro 0]⟩,
  ⟨"CPL_PORT_CFG", 0x0B1000, [(0x80, 48)], true, [fldR 24 8 .rw 3 (.nat 2 255), fld 20 3 .rw 0, fldR 16 3 .rw 3 (.nat 0 3), fldR 8 8 .rw 252 (.int (-7) 0), fld 0 1 .rw 0]⟩,
  ⟨"CPL_PORT_ASYM", 0x0B1004, [(0x80, 48)], true, [fld 0 32 .rw 0]⟩,
  ⟨"CPL_PORT_ASYM_PROP", 0x0B1008, [(0x80, 48)], true, [fld 0 32 .rw 0]⟩,
  ⟨"CPL_PORT_ASYM_UNC", 0x0B100C, [(0x80, 48)], true, [fld 0 24 .rw 0]⟩,
  ⟨"CPL_PORT_STATUS", 0x0B1010, [(0x80, 48)], false, [fld 9 1 .ro 0, fld 8 1 .ro 0, fld 7 1 .ro 0, fld 6 1 .ro 0, fld 5 1 .ro 0, fld 4 1 .ro 0, fld 3 1 .ro 0, fld 0 3 .ro 0]⟩,
  ⟨"CPL_PORT_EVT", 0x0B1014, [(0x80, 48)], false, [fld 7 1 .w1c 0, fld 6 1 .w1c 0, fld 5 1 .w1c 0, fld 4 1 .w1c 0, fld 3 1 .w1c 0, fld 2 1 .w1c 0, fld 1 1 .w1c 0, fld 0 1 .w1c 0]⟩,
  ⟨"CPL_PORT_FAR_ID", 0x0B1018, [(0x80, 48)], false, [fld 16 16 .ro 0, fld 0 16 .ro 0]⟩,
  ⟨"CPL_PORT_FAR_INFO", 0x0B101C, [(0x80, 48)], false, [fld 16 16 .ro 0, fld 8 6 .ro 0, fld 0 6 .ro 63]⟩,
  ⟨"CPL_PORT_FAR_ACC", 0x0B1020, [(0x80, 48)], false, [fld 0 32 .ro 0xFFFFFFFF]⟩,
  ⟨"CPL_PORT_OFFSET_LO", 0x0B1024, [(0x80, 48)], false, [fld 0 32 .ro 0]⟩,
  ⟨"CPL_PORT_MLD_LO", 0x0B102C, [(0x80, 48)], false, [fld 0 32 .ro 0]⟩,
  ⟨"CPL_PORT_OFFSET_HI", 0x0B1028, [(0x80, 48)], false, [fld 0 16 .ro 0]⟩,
  ⟨"CPL_PORT_MLD_HI", 0x0B1030, [(0x80, 48)], false, [fld 0 16 .ro 0]⟩,
  ⟨"CPL_PORT_RATIO", 0x0B1034, [(0x80, 48)], false, [fld 0 32 .ro 0]⟩,
  ⟨"CPL_PORT_COUNT", 0x0B1038, [(0x80, 48)], false, [fld 16 16 .ro 0, fld 8 8 .ro 0, fld 0 8 .ro 0]⟩,
  ⟨"CPL_PORT_COUNT2", 0x0B103C, [(0x80, 48)], false, [fld 16 16 .ro 0, fld 8 8 .ro 0, fld 0 8 .ro 0]⟩]

/-- Every register of block CPL. -/
def rowsCPL : List RegRow := rowsCPL_0

def rowsPRT_0 : List RegRow := [
  ⟨"PRT_CNT_LO", 0x100200, [(0x1000, 48), (0x8, 26)], false, [fld 0 32 .ro 0]⟩,
  ⟨"PRT_CNT_HI", 0x100204, [(0x1000, 48), (0x8, 26)], false, [fld 0 32 .ro 0]⟩,
  ⟨"PRT_CFG", 0x100000, [(0x1000, 48)], true, [fld 14 1 .rw 0, fld 12 2 .rw 0, fld 11 1 .rw 1, fldR 8 2 .rw 0 (.nat 0 2), fldR 4 3 .rw 0 (.nat 0 4), fld 0 1 .rw 0]⟩,
  ⟨"PRT_MAC", 0x100004, [(0x1000, 48)], true, [fldR 24 8 .rw 10 (.nat 1 128), fld 21 2 .rw 0, fld 20 1 .rw 0, fld 19 1 .rw 0, fld 18 1 .rw 0, fld 17 1 .rw 0, fld 16 1 .rw 1, fld 15 1 .rw 1, fld 14 1 .rw 1, fldR 0 14 .rw 0x2580 (.nat 1518 9600)]⟩,
  ⟨"PRT_LINK", 0x100008, [(0x1000, 48)], true, [fldR 0 14 .rw 0 (.nat 0 10000)]⟩,
  ⟨"PRT_MACADDR_LO", 0x10000C, [(0x1000, 48)], true, [fld 0 32 .rw 0]⟩,
  ⟨"PRT_MACADDR_HI", 0x100010, [(0x1000, 48)], true, [fld 0 16 .rw 0]⟩,
  ⟨"PRT_LANE", 0x100014, [(0x1000, 48)], true, [fld 16 1 .rw 1, fld 11 5 .rw 0, fld 7 4 .rw 0, fld 3 4 .rw 12, fld 1 1 .rw 0, fld 0 1 .rw 0]⟩,
  ⟨"PRT_CTRL", 0x100018, [(0x1000, 48)], true, [fld 1 1 .w1s 0, fld 0 1 .w1s 0]⟩,
  ⟨"PRT_MOD_ROUTE", 0x100040, [(0x1000, 48)], true, [fld 31 1 .rw 0, fldR 24 7 .rw 112 (.nat 8 119), fld 16 8 .rw 0, fld 12 2 .rw 0, fldR 0 7 .rw 80 (.nat 8 119)]⟩,
  ⟨"PRT_MOD_POLL", 0x100044, [(0x1000, 48)], true, [fld 24 8 .rw 0, fld 16 8 .rw 255, fld 8 8 .rw 0]⟩,
  ⟨"PRT_MOD_STATUS", 0x100048, [(0x1000, 48)], false, [fld 9 1 .ro 0, fld 8 1 .ro 0, fld 0 8 .ro 0]⟩,
  ⟨"PRT_STATUS", 0x100080, [(0x1000, 48)], false, [fld 24 8 .ro 0, fld 21 3 .ro 0, fld 20 1 .ro 0, fld 19 1 .ro 0, fld 18 1 .ro 0, fld 17 1 .ro 0, fld 16 1 .ro 0, fld 7 1 .ro 0, fld 6 1 .ro 0, fld 5 1 .ro 0, fld 4 1 .ro 0, fld 3 1 .ro 0, fld 0 3 .ro 0]⟩,
  ⟨"PRT_EVT", 0x100084, [(0x1000, 48)], false, [fld 10 1 .w1c 0, fld 9 1 .w1c 0, fld 8 1 .w1c 0, fld 7 1 .w1c 0, fld 6 1 .w1c 0, fld 5 1 .w1c 0, fld 4 1 .w1c 0, fld 3 1 .w1c 0, fld 2 1 .w1c 0, fld 1 1 .w1c 0, fld 0 1 .w1c 0]⟩,
  ⟨"PRT_AN_LP", 0x100088, [(0x1000, 48)], false, [fld 0 16 .ro 0]⟩,
  ⟨"PRT_I2C_CFG", 0x100C00, [(0x1000, 4)], true, [fldR 8 8 .rw 10 (.nat 1 255), fldR 0 2 .rw 1 (.nat 0 2)]⟩,
  ⟨"PRT_I2C_XFER", 0x100C08, [(0x1000, 4)], true, [fld 31 1 .w1s 0, fld 30 1 .rw 0, fld 29 1 .rw 0, fldR 16 8 .rw 0 (.nat 0 128), fld 8 8 .rw 0, fldR 0 7 .rw 80 (.nat 8 119)]⟩,
  ⟨"PRT_I2C_STATUS", 0x100C0C, [(0x1000, 4)], true, [fld 16 8 .ro 0, fld 4 1 .ro 0, fld 3 1 .w1c 0, fld 2 1 .w1c 0, fld 1 1 .w1c 0, fld 0 1 .w1c 0]⟩,
  ⟨"PRT_I2C_DATA", 0x100D00, [(0x1000, 4), (0x4, 32)], true, [fld 0 32 .rw 0]⟩,
  ⟨"PRT_I2C_ROUTE", 0x100C04, [(0x1000, 4)], true, [fld 31 1 .rw 0, fldR 24 7 .rw 112 (.nat 8 119), fld 16 8 .rw 0]⟩]

/-- Every register of block PRT. -/
def rowsPRT : List RegRow := rowsPRT_0

def rowsFWD_0 : List RegRow := [
  ⟨"FWD_CFG", 0x200000, [], true, [fld 21 1 .rw 1, fld 20 1 .rw 1, fldR 0 20 .rw 0x12C (.nat 0 1000000)]⟩,
  ⟨"FWD_STATUS", 0x200004, [], false, [fld 0 1 .w1c 0]⟩,
  ⟨"FWD_COUNT", 0x200008, [], false, [fld 16 16 .ro 0, fld 0 16 .ro 0]⟩,
  ⟨"FWD_TBL_CMD", 0x200100, [], true, [fld 31 1 .w1s 0, fld 30 1 .ro 0, fld 28 2 .ro 0, fldR 25 3 .rw 0 (.nat 0 5), fldR 23 2 .rw 0 (.nat 0 2), fld 0 17 .rw 0]⟩,
  ⟨"FWD_TBL_DATA", 0x200110, [(0x4, 13)], true, [fld 0 32 .rw 0]⟩,
  ⟨"FWD_TBL_DATA", 0x200144, [], true, [fld 0 32 .ro 0]⟩,
  ⟨"FWD_PORT_CFG", 0x201000, [(0x10, 48)], true, [fld 24 8 .rw 0, fld 20 1 .rw 1, fld 19 1 .rw 1, fldR 17 2 .rw 0 (.nat 0 2), fld 12 3 .rw 0, fldR 0 12 .rw 1 (.nat 1 4094)]⟩,
  ⟨"FWD_PORT_CFG", 0x201300, [(0x10, 2)], true, [fld 24 8 .ro 0, fld 20 1 .rw 1, fld 19 1 .rw 1, fldR 17 2 .rw 0 (.nat 0 2), fld 12 3 .rw 0, fldR 0 12 .rw 1 (.nat 1 4094)]⟩,
  ⟨"FWD_PCP_MAP", 0x201004, [(0x10, 50)], true, [fld 0 3 .rw 0, fld 3 3 .rw 1, fld 6 3 .rw 2, fld 9 3 .rw 3, fld 12 3 .rw 4, fld 15 3 .rw 5, fld 18 3 .rw 6, fld 21 3 .rw 7]⟩,
  ⟨"FWD_PORT_DROP", 0x201008, [(0x10, 50)], false, [fld 16 16 .ro 0, fld 0 16 .ro 0]⟩,
  ⟨"FWD_PORT_DROP2", 0x20100C, [(0x10, 50)], false, [fld 16 16 .ro 0, fld 0 16 .ro 0]⟩]

/-- Every register of block FWD. -/
def rowsFWD : List RegRow := rowsFWD_0

def rowsBUF_0 : List RegRow := [
  ⟨"BUF_MAIL_CFG", 0x240000, [], true, [fld 31 1 .rw 1, fldR 0 14 .rw 64 (.nat 1 8192)]⟩,
  ⟨"BUF_MAIL_STATUS", 0x240004, [], false, [fld 16 14 .ro 0, fld 0 14 .ro 0]⟩,
  ⟨"BUF_CTRL", 0x240008, [], true, [fld 1 1 .w1s 0, fld 0 1 .w1s 0]⟩,
  ⟨"BUF_DEP_CFG", 0x240100, [(0x20, 4)], true, [fldR 0 15 .rw 0x400 (.nat 0 16384)]⟩,
  ⟨"BUF_DEP_STATUS", 0x240104, [(0x20, 4)], false, [fld 16 15 .ro 0, fld 0 15 .ro 0x4000]⟩,
  ⟨"BUF_DEP_STATUS2", 0x240108, [(0x20, 4)], false, [fld 16 15 .ro 0, fld 0 15 .ro 0]⟩,
  ⟨"BUF_DEP_DESC", 0x24010C, [(0x20, 4)], false, [fld 16 16 .ro 0x8000, fld 0 16 .ro 0x4000]⟩,
  ⟨"BUF_Q_CFG", 0x250000, [(0x2000, 4), (0x10, 400)], true, [fld 16 3 .rw 4, fldR 0 15 .rw 0 (.nat 0 16384)]⟩,
  ⟨"BUF_Q_STATUS", 0x250004, [(0x2000, 4), (0x10, 400)], false, [fld 16 15 .ro 0, fld 0 15 .ro 0]⟩,
  ⟨"BUF_Q_ADMITS", 0x250008, [(0x2000, 4), (0x10, 400)], false, [fld 0 32 .ro 0]⟩,
  ⟨"BUF_Q_DROPS", 0x25000C, [(0x2000, 4), (0x10, 400)], false, [fld 0 32 .ro 0]⟩,
  ⟨"BUF_VOQ", 0x244000, [(0x100, 48), (0x4, 48)], false, [fld 16 14 .ro 0, fld 0 14 .ro 0]⟩,
  ⟨"BUF_OUT_CFG", 0x241000, [(0x40, 50)], true, [fld 24 8 .rw 255, fldR 0 10 .rw 100 (.nat 0 1000)]⟩,
  ⟨"BUF_OUT_GRACE", 0x241004, [(0x40, 50)], true, [fldR 0 17 .rw 0x2710 (.nat 0 100000)]⟩,
  ⟨"BUF_OUT_STATUS", 0x241008, [(0x40, 48)], false, [fld 24 8 .ro 0, fld 0 2 .ro 3]⟩,
  ⟨"BUF_OUT_STATUS", 0x241C08, [(0x40, 2)], false, [fld 24 8 .ro 0, fld 0 2 .ro 0]⟩,
  ⟨"BUF_OUT_EVT", 0x24100C, [(0x40, 50)], false, [fld 3 1 .w1c 0, fld 2 1 .w1c 0, fld 1 1 .w1c 0, fld 0 1 .w1c 0]⟩,
  ⟨"BUF_OUT_SIDING_DROP", 0x241010, [(0x40, 50)], false, [fld 0 32 .ro 0]⟩,
  ⟨"BUF_OUT_SIDING_MAIL_DISC", 0x241014, [(0x40, 50)], false, [fld 0 32 .ro 0]⟩,
  ⟨"BUF_OUT_FLUSHED", 0x241018, [(0x40, 50)], false, [fld 0 32 .ro 0]⟩,
  ⟨"BUF_OUT_MAIL_SPILLS", 0x24101C, [(0x40, 50)], false, [fld 0 32 .ro 0]⟩,
  ⟨"BUF_OUT_MAIL_DROPS", 0x241020, [(0x40, 50)], false, [fld 0 32 .ro 0]⟩,
  ⟨"BUF_OUT_WD_COUNT", 0x241024, [(0x40, 50)], false, [fld 0 16 .ro 0]⟩,
  ⟨"BUF_IN_CFG", 0x242000, [(0x20, 48)], true, [fld 16 15 .rw 0x300, fldR 0 15 .rw 0x400 (.nat 1 16384)]⟩]

def rowsBUF_1 : List RegRow := [
  ⟨"BUF_IN_PRIO", 0x242004, [(0x20, 48)], true, [fld 8 1 .rw 0, fld 0 8 .rw 0]⟩,
  ⟨"BUF_IN_STATUS", 0x242008, [(0x20, 48)], false, [fld 31 1 .ro 0, fld 0 15 .ro 0]⟩,
  ⟨"BUF_IN_COUNT", 0x24200C, [(0x20, 48)], false, [fld 16 16 .ro 0, fld 0 16 .ro 0]⟩]

/-- Every register of block BUF. -/
def rowsBUF : List RegRow := rowsBUF_0 ++ rowsBUF_1

def rowsSCH_0 : List RegRow := [
  ⟨"SCH_CFG", 0x280000, [], true, [fld 0 1 .rw 0]⟩,
  ⟨"SCH_RSQ", 0x280004, [], true, [fldR 0 16 .rw 0x7D0 (.nat 200 50000)]⟩,
  ⟨"SCH_CTRL", 0x280008, [], true, [fld 0 1 .w1s 0]⟩,
  ⟨"SCH_OUT_CFG", 0x281000, [(0x100, 50)], true, [fld 24 8 .rw 0, fld 16 1 .rw 0, fld 0 16 .rw 100]⟩,
  ⟨"SCH_OUT_STATUS", 0x281004, [(0x100, 50)], false, [fld 24 8 .ro 255, fld 2 1 .ro 0, fld 1 1 .ro 0, fld 0 1 .ro 0]⟩,
  ⟨"SCH_OUT_EVT", 0x281008, [(0x100, 50)], false, [fld 4 1 .w1c 0, fld 3 1 .w1c 0, fld 2 1 .w1c 0, fld 1 1 .w1c 0, fld 0 1 .w1c 0]⟩,
  ⟨"SCH_OUT_STOMPED", 0x281010, [(0x100, 50)], false, [fld 0 32 .ro 0]⟩,
  ⟨"SCH_OUT_CUT_SHORT", 0x281014, [(0x100, 50)], false, [fld 0 32 .ro 0]⟩,
  ⟨"SCH_OUT_PROMOTIONS", 0x281018, [(0x100, 50)], false, [fld 0 32 .ro 0]⟩,
  ⟨"SCH_OUT_MAIL_SENT", 0x28101C, [(0x100, 50)], false, [fld 0 32 .ro 0]⟩,
  ⟨"SCH_OUT_MAIL_LATE", 0x281020, [(0x100, 50)], false, [fld 0 32 .ro 0]⟩,
  ⟨"SCH_OUT_MAIL_LATE_DISC", 0x281024, [(0x100, 50)], false, [fld 0 32 .ro 0]⟩,
  ⟨"SCH_OUT_RSQ_WAITS", 0x281028, [(0x100, 50)], false, [fld 0 32 .ro 0]⟩,
  ⟨"SCH_OUT_RSQ_SKIPS", 0x28102C, [(0x100, 50)], false, [fld 0 32 .ro 0]⟩,
  ⟨"SCH_OUT_RSQ_STALE", 0x281030, [(0x100, 50)], false, [fld 0 32 .ro 0]⟩,
  ⟨"SCH_OUT_FEC_SHIFT", 0x281034, [(0x100, 50)], false, [fld 0 32 .ro 0]⟩,
  ⟨"SCH_TT_DELAY", 0x281040, [(0x100, 48), (0x4, 8)], true, [fldR 0 15 .rw 0x9C4 (.nat 750 25000)]⟩,
  ⟨"SCH_TT_DELAY", 0x284040, [(0x100, 2), (0x4, 8)], true, [fld 0 15 .ro 0]⟩,
  ⟨"SCH_GCL_CFG", 0x281060, [(0x100, 48)], true, [fld 8 1 .rw 0, fldR 0 8 .rw 0 (.nat 0 128)]⟩,
  ⟨"SCH_GCL_CFG", 0x284060, [(0x100, 2)], true, [fld 8 1 .ro 0, fld 0 8 .ro 0]⟩,
  ⟨"SCH_GCL_BASE_NS", 0x281064, [(0x100, 48)], true, [fldR 0 30 .rw 0 (.nat 0 999999999)]⟩,
  ⟨"SCH_GCL_BASE_NS", 0x284064, [(0x100, 2)], true, [fld 0 30 .ro 0]⟩,
  ⟨"SCH_GCL_BASE_SEC_LO", 0x281068, [(0x100, 48)], true, [fld 0 32 .rw 0]⟩,
  ⟨"SCH_GCL_BASE_SEC_LO", 0x284068, [(0x100, 2)], true, [fld 0 32 .ro 0]⟩]

def rowsSCH_1 : List RegRow := [
  ⟨"SCH_GCL_BASE_SEC_HI", 0x28106C, [(0x100, 48)], true, [fld 0 16 .rw 0]⟩,
  ⟨"SCH_GCL_BASE_SEC_HI", 0x28406C, [(0x100, 2)], true, [fld 0 16 .ro 0]⟩,
  ⟨"SCH_GCL_CYCLE", 0x281070, [(0x100, 48)], true, [fldR 0 32 .rw 0xF4240 (.nat 1000 1000000000)]⟩,
  ⟨"SCH_GCL_CYCLE", 0x284070, [(0x100, 2)], true, [fld 0 32 .ro 0]⟩,
  ⟨"SCH_GCL_CTRL", 0x281074, [(0x100, 48)], true, [fld 0 1 .w1s 0]⟩,
  ⟨"SCH_GCL_CTRL", 0x284074, [(0x100, 2)], true, [fld 0 1 .ro 0]⟩,
  ⟨"SCH_GCL_STATUS", 0x281078, [(0x100, 48)], false, [fld 16 8 .ro 0, fld 8 8 .ro 0, fld 0 1 .ro 0]⟩,
  ⟨"SCH_GCL_STATUS", 0x284078, [(0x100, 2)], false, [fld 16 8 .ro 0, fld 8 8 .ro 0, fld 0 1 .ro 0]⟩,
  ⟨"SCH_GATE_ADMIN", 0x2A0000, [(0x800, 48), (0x8, 128)], true, [fld 0 8 .rw 255]⟩,
  ⟨"SCH_GATE_OPER", 0x2A0400, [(0x800, 48), (0x8, 128)], true, [fld 0 8 .ro 255]⟩,
  ⟨"SCH_INTV_ADMIN", 0x2A0004, [(0x800, 48), (0x8, 128)], true, [fldR 0 30 .rw 0 (.nat 0 1000000000)]⟩,
  ⟨"SCH_INTV_OPER", 0x2A0404, [(0x800, 48), (0x8, 128)], true, [fld 0 30 .ro 0]⟩]

/-- Every register of block SCH. -/
def rowsSCH : List RegRow := rowsSCH_0 ++ rowsSCH_1

def rowsMIR_0 : List RegRow := [
  ⟨"MIR_CFG", 0x2C0000, [], true, [fld 16 16 .rw 64, fldR 4 2 .rw 0 (.nat 0 2), fld 2 1 .rw 0, fld 1 1 .rw 0, fld 0 1 .rw 0]⟩,
  ⟨"MIR_CTRL", 0x2C0004, [], true, [fld 0 1 .w1s 0]⟩,
  ⟨"MIR_SEL_IN_LO", 0x2C0008, [], true, [fld 0 32 .rw 0]⟩,
  ⟨"MIR_SEL_OUT_LO", 0x2C0010, [], true, [fld 0 32 .rw 0]⟩,
  ⟨"MIR_SEL_IN_HI", 0x2C000C, [], true, [fld 0 16 .rw 0]⟩,
  ⟨"MIR_SEL_OUT_HI", 0x2C0014, [], true, [fld 0 16 .rw 0]⟩,
  ⟨"MIR_RING_BASE_LO", 0x2C0020, [], true, [fld 12 20 .rw 0]⟩,
  ⟨"MIR_RING_BASE_HI", 0x2C0024, [], true, [fld 0 32 .rw 0]⟩,
  ⟨"MIR_RING_LEN", 0x2C0028, [], true, [fldR 0 16 .rw 0 (.natOrZero 2 65535)]⟩,
  ⟨"MIR_RING_RD", 0x2C002C, [], false, [fld 0 16 .rw 0]⟩,
  ⟨"MIR_RING_WR", 0x2C0030, [], false, [fld 0 16 .ro 0]⟩,
  ⟨"MIR_IRQ", 0x2C0034, [], true, [fld 16 16 .rw 100, fld 0 16 .rw 0x100]⟩,
  ⟨"MIR_RESUME", 0x2C0038, [], true, [fldR 0 16 .rw 0x400 (.nat 1 65535)]⟩,
  ⟨"MIR_STATUS", 0x2C0040, [], false, [fld 16 11 .ro 0, fld 2 1 .ro 0, fld 0 2 .ro 0]⟩,
  ⟨"MIR_EVT", 0x2C0044, [], false, [fld 3 1 .w1c 0, fld 2 1 .w1c 0, fld 1 1 .w1c 0, fld 0 1 .w1c 0]⟩,
  ⟨"MIR_COUNT_RECORDS", 0x2C0048, [], false, [fld 0 32 .ro 0]⟩,
  ⟨"MIR_COUNT_SAMPLES", 0x2C004C, [], false, [fld 0 32 .ro 0]⟩,
  ⟨"MIR_COUNT_LOST", 0x2C0050, [], false, [fld 0 32 .ro 0]⟩,
  ⟨"MIR_COUNT_SAMPLE_LOST", 0x2C0054, [], false, [fld 0 32 .ro 0]⟩]

/-- Every register of block MIR. -/
def rowsMIR : List RegRow := rowsMIR_0

def rowsNVS_0 : List RegRow := [
  ⟨"NVS_PROTECT", 0x300000, [], true, [fld 2 1 .w1s 0, fld 0 2 .rw 0]⟩,
  ⟨"NVS_STATUS", 0x300004, [], false, [fld 16 16 .ro 0, fld 3 5 .ro 0, fld 2 1 .ro 0, fld 1 1 .ro 0, fld 0 1 .ro 0]⟩,
  ⟨"NVS_EVT", 0x300008, [], false, [fld 8 1 .w1c 0, fld 7 1 .w1c 0, fld 6 1 .w1c 0, fld 5 1 .w1c 0, fld 4 1 .w1c 0, fld 3 1 .w1c 0, fld 2 1 .w1c 0, fld 1 1 .w1c 0, fld 0 1 .w1c 0]⟩,
  ⟨"NVS_ADDR", 0x300010, [], true, [fld 0 17 .rw 0]⟩,
  ⟨"NVS_LEN", 0x300014, [], true, [fldR 0 13 .rw 0 (.nat 0 4096)]⟩,
  ⟨"NVS_CMD", 0x300018, [], true, [fld 31 1 .w1s 0, fld 30 1 .ro 0, fld 26 4 .ro 0, fld 8 1 .rw 0, fldR 0 3 .rw 0 (.nat 0 4)]⟩,
  ⟨"NVS_ERR_ADDR", 0x30001C, [], false, [fld 0 17 .ro 0]⟩,
  ⟨"NVS_COUNT", 0x300020, [], false, [fld 16 16 .ro 0, fld 0 16 .ro 0]⟩,
  ⟨"NVS_PROGRAMS", 0x300024, [], false, [fld 0 32 .ro 0]⟩,
  ⟨"NVS_DATA", 0x301000, [(0x4, 1024)], true, [fld 0 32 .rw 0]⟩]

/-- Every register of block NVS. -/
def rowsNVS : List RegRow := rowsNVS_0

def rowsMBX_0 : List RegRow := [
  ⟨"MBX_SEND_W0", 0x310000, [], false, [fld 16 16 .wo 0, fld 8 8 .wo 0, fld 0 8 .wo 0]⟩,
  ⟨"MBX_SEND_W0", 0x310100, [], true, [fld 16 16 .wo 0, fld 8 8 .wo 0, fld 0 8 .wo 0]⟩,
  ⟨"MBX_SEND_W0", 0x310200, [], false, [fld 16 16 .wo 0, fld 8 8 .wo 0, fld 0 8 .wo 0]⟩,
  ⟨"MBX_SEND_W0", 0x310300, [], true, [fld 16 16 .wo 0, fld 8 8 .wo 0, fld 0 8 .wo 0]⟩,
  ⟨"MBX_SEND_W0", 0x310400, [], false, [fld 16 16 .wo 0, fld 8 8 .wo 0, fld 0 8 .wo 0]⟩,
  ⟨"MBX_SEND_W0", 0x310500, [], true, [fld 16 16 .wo 0, fld 8 8 .wo 0, fld 0 8 .wo 0]⟩,
  ⟨"MBX_SEND_W0", 0x310600, [], false, [fld 16 16 .wo 0, fld 8 8 .wo 0, fld 0 8 .wo 0]⟩,
  ⟨"MBX_SEND_W0", 0x310700, [], true, [fld 16 16 .wo 0, fld 8 8 .wo 0, fld 0 8 .wo 0]⟩,
  ⟨"MBX_SEND_W0", 0x310800, [], true, [fld 16 16 .wo 0, fld 8 8 .wo 0, fld 0 8 .wo 0]⟩,
  ⟨"MBX_SEND_W0", 0x310900, [], true, [fld 16 16 .wo 0, fld 8 8 .wo 0, fld 0 8 .wo 0]⟩,
  ⟨"MBX_SEND_W0", 0x310A00, [], true, [fld 16 16 .wo 0, fld 8 8 .wo 0, fld 0 8 .wo 0]⟩,
  ⟨"MBX_SEND_W0", 0x310B00, [], true, [fld 16 16 .wo 0, fld 8 8 .wo 0, fld 0 8 .wo 0]⟩,
  ⟨"MBX_SEND_W0", 0x310C00, [], true, [fld 16 16 .wo 0, fld 8 8 .wo 0, fld 0 8 .wo 0]⟩,
  ⟨"MBX_SEND_W0", 0x310D00, [], true, [fld 16 16 .wo 0, fld 8 8 .wo 0, fld 0 8 .wo 0]⟩,
  ⟨"MBX_SEND_W0", 0x310E00, [], true, [fld 16 16 .wo 0, fld 8 8 .wo 0, fld 0 8 .wo 0]⟩,
  ⟨"MBX_SEND_W0", 0x310F00, [], true, [fld 16 16 .wo 0, fld 8 8 .wo 0, fld 0 8 .wo 0]⟩,
  ⟨"MBX_SEND_W", 0x310004, [(0x4, 15)], false, [fld 0 32 .rw 0]⟩,
  ⟨"MBX_SEND_W", 0x310104, [(0x4, 15)], true, [fld 0 32 .rw 0]⟩,
  ⟨"MBX_SEND_W", 0x310204, [(0x4, 15)], false, [fld 0 32 .rw 0]⟩,
  ⟨"MBX_SEND_W", 0x310304, [(0x4, 15)], true, [fld 0 32 .rw 0]⟩,
  ⟨"MBX_SEND_W", 0x310404, [(0x4, 15)], false, [fld 0 32 .rw 0]⟩,
  ⟨"MBX_SEND_W", 0x310504, [(0x4, 15)], true, [fld 0 32 .rw 0]⟩,
  ⟨"MBX_SEND_W", 0x310604, [(0x4, 15)], false, [fld 0 32 .rw 0]⟩,
  ⟨"MBX_SEND_W", 0x310704, [(0x4, 15)], true, [fld 0 32 .rw 0]⟩]

def rowsMBX_1 : List RegRow := [
  ⟨"MBX_SEND_W", 0x310804, [(0x4, 15)], true, [fld 0 32 .rw 0]⟩,
  ⟨"MBX_SEND_W", 0x310904, [(0x4, 15)], true, [fld 0 32 .rw 0]⟩,
  ⟨"MBX_SEND_W", 0x310A04, [(0x4, 15)], true, [fld 0 32 .rw 0]⟩,
  ⟨"MBX_SEND_W", 0x310B04, [(0x4, 15)], true, [fld 0 32 .rw 0]⟩,
  ⟨"MBX_SEND_W", 0x310C04, [(0x4, 15)], true, [fld 0 32 .rw 0]⟩,
  ⟨"MBX_SEND_W", 0x310D04, [(0x4, 15)], true, [fld 0 32 .rw 0]⟩,
  ⟨"MBX_SEND_W", 0x310E04, [(0x4, 15)], true, [fld 0 32 .rw 0]⟩,
  ⟨"MBX_SEND_W", 0x310F04, [(0x4, 15)], true, [fld 0 32 .rw 0]⟩,
  ⟨"MBX_RECV_W", 0x310040, [(0x4, 16)], false, [fld 0 32 .ro 0]⟩,
  ⟨"MBX_RECV_W", 0x310140, [(0x4, 16)], true, [fld 0 32 .ro 0]⟩,
  ⟨"MBX_RECV_W", 0x310240, [(0x4, 16)], false, [fld 0 32 .ro 0]⟩,
  ⟨"MBX_RECV_W", 0x310340, [(0x4, 16)], true, [fld 0 32 .ro 0]⟩,
  ⟨"MBX_RECV_W", 0x310440, [(0x4, 16)], false, [fld 0 32 .ro 0]⟩,
  ⟨"MBX_RECV_W", 0x310540, [(0x4, 16)], true, [fld 0 32 .ro 0]⟩,
  ⟨"MBX_RECV_W", 0x310640, [(0x4, 16)], false, [fld 0 32 .ro 0]⟩,
  ⟨"MBX_RECV_W", 0x310740, [(0x4, 16)], true, [fld 0 32 .ro 0]⟩,
  ⟨"MBX_RECV_W", 0x310840, [(0x4, 16)], true, [fld 0 32 .ro 0]⟩,
  ⟨"MBX_RECV_W", 0x310940, [(0x4, 16)], true, [fld 0 32 .ro 0]⟩,
  ⟨"MBX_RECV_W", 0x310A40, [(0x4, 16)], true, [fld 0 32 .ro 0]⟩,
  ⟨"MBX_RECV_W", 0x310B40, [(0x4, 16)], true, [fld 0 32 .ro 0]⟩,
  ⟨"MBX_RECV_W", 0x310C40, [(0x4, 16)], true, [fld 0 32 .ro 0]⟩,
  ⟨"MBX_RECV_W", 0x310D40, [(0x4, 16)], true, [fld 0 32 .ro 0]⟩,
  ⟨"MBX_RECV_W", 0x310E40, [(0x4, 16)], true, [fld 0 32 .ro 0]⟩,
  ⟨"MBX_RECV_W", 0x310F40, [(0x4, 16)], true, [fld 0 32 .ro 0]⟩]

def rowsMBX_2 : List RegRow := [
  ⟨"MBX_STATUS", 0x310080, [], false, [fld 24 8 .ro 0, fld 16 8 .ro 0, fld 15 1 .ro 0, fld 10 5 .ro 0, fld 5 5 .ro 16, fld 0 5 .ro 0]⟩,
  ⟨"MBX_STATUS", 0x310180, [], true, [fld 24 8 .ro 0, fld 16 8 .ro 0, fld 15 1 .ro 1, fld 10 5 .ro 0, fld 5 5 .ro 16, fld 0 5 .ro 0]⟩,
  ⟨"MBX_STATUS", 0x310280, [], false, [fld 24 8 .ro 0, fld 16 8 .ro 0, fld 15 1 .ro 0, fld 10 5 .ro 0, fld 5 5 .ro 16, fld 0 5 .ro 0]⟩,
  ⟨"MBX_STATUS", 0x310380, [], true, [fld 24 8 .ro 0, fld 16 8 .ro 0, fld 15 1 .ro 1, fld 10 5 .ro 0, fld 5 5 .ro 16, fld 0 5 .ro 0]⟩,
  ⟨"MBX_STATUS", 0x310480, [], false, [fld 24 8 .ro 0, fld 16 8 .ro 0, fld 15 1 .ro 0, fld 10 5 .ro 0, fld 5 5 .ro 16, fld 0 5 .ro 0]⟩,
  ⟨"MBX_STATUS", 0x310580, [], true, [fld 24 8 .ro 0, fld 16 8 .ro 0, fld 15 1 .ro 1, fld 10 5 .ro 0, fld 5 5 .ro 16, fld 0 5 .ro 0]⟩,
  ⟨"MBX_STATUS", 0x310680, [], false, [fld 24 8 .ro 0, fld 16 8 .ro 0, fld 15 1 .ro 0, fld 10 5 .ro 0, fld 5 5 .ro 16, fld 0 5 .ro 0]⟩,
  ⟨"MBX_STATUS", 0x310780, [], true, [fld 24 8 .ro 0, fld 16 8 .ro 0, fld 15 1 .ro 1, fld 10 5 .ro 0, fld 5 5 .ro 16, fld 0 5 .ro 0]⟩,
  ⟨"MBX_STATUS", 0x310880, [], true, [fld 24 8 .ro 0, fld 16 8 .ro 0, fld 15 1 .ro 0, fld 10 5 .ro 0, fld 5 5 .ro 16, fld 0 5 .ro 0]⟩,
  ⟨"MBX_STATUS", 0x310980, [], true, [fld 24 8 .ro 0, fld 16 8 .ro 0, fld 15 1 .ro 0, fld 10 5 .ro 0, fld 5 5 .ro 16, fld 0 5 .ro 0]⟩,
  ⟨"MBX_STATUS", 0x310A80, [], true, [fld 24 8 .ro 0, fld 16 8 .ro 0, fld 15 1 .ro 0, fld 10 5 .ro 0, fld 5 5 .ro 16, fld 0 5 .ro 0]⟩,
  ⟨"MBX_STATUS", 0x310B80, [], true, [fld 24 8 .ro 0, fld 16 8 .ro 0, fld 15 1 .ro 0, fld 10 5 .ro 0, fld 5 5 .ro 16, fld 0 5 .ro 0]⟩,
  ⟨"MBX_STATUS", 0x310C80, [], true, [fld 24 8 .ro 0, fld 16 8 .ro 0, fld 15 1 .ro 1, fld 10 5 .ro 0, fld 5 5 .ro 16, fld 0 5 .ro 0]⟩,
  ⟨"MBX_STATUS", 0x310D80, [], true, [fld 24 8 .ro 0, fld 16 8 .ro 0, fld 15 1 .ro 0, fld 10 5 .ro 0, fld 5 5 .ro 16, fld 0 5 .ro 0]⟩,
  ⟨"MBX_STATUS", 0x310E80, [], true, [fld 24 8 .ro 0, fld 16 8 .ro 0, fld 15 1 .ro 1, fld 10 5 .ro 0, fld 5 5 .ro 16, fld 0 5 .ro 0]⟩,
  ⟨"MBX_STATUS", 0x310F80, [], true, [fld 24 8 .ro 0, fld 16 8 .ro 0, fld 15 1 .ro 0, fld 10 5 .ro 0, fld 5 5 .ro 16, fld 0 5 .ro 0]⟩,
  ⟨"MBX_EVT", 0x310084, [], false, [fld 5 1 .w1c 0, fld 4 1 .w1c 0, fld 3 1 .w1c 0, fld 2 1 .w1c 0, fld 1 1 .w1c 0, fld 0 1 .w1c 0]⟩,
  ⟨"MBX_EVT", 0x310184, [], true, [fld 5 1 .w1c 0, fld 4 1 .w1c 0, fld 3 1 .w1c 0, fld 2 1 .w1c 0, fld 1 1 .w1c 0, fld 0 1 .w1c 0]⟩,
  ⟨"MBX_EVT", 0x310284, [], false, [fld 5 1 .w1c 0, fld 4 1 .w1c 0, fld 3 1 .w1c 0, fld 2 1 .w1c 0, fld 1 1 .w1c 0, fld 0 1 .w1c 0]⟩,
  ⟨"MBX_EVT", 0x310384, [], true, [fld 5 1 .w1c 0, fld 4 1 .w1c 0, fld 3 1 .w1c 0, fld 2 1 .w1c 0, fld 1 1 .w1c 0, fld 0 1 .w1c 0]⟩,
  ⟨"MBX_EVT", 0x310484, [], false, [fld 5 1 .w1c 0, fld 4 1 .w1c 0, fld 3 1 .w1c 0, fld 2 1 .w1c 0, fld 1 1 .w1c 0, fld 0 1 .w1c 0]⟩,
  ⟨"MBX_EVT", 0x310584, [], true, [fld 5 1 .w1c 0, fld 4 1 .w1c 0, fld 3 1 .w1c 0, fld 2 1 .w1c 0, fld 1 1 .w1c 0, fld 0 1 .w1c 0]⟩,
  ⟨"MBX_EVT", 0x310684, [], false, [fld 5 1 .w1c 0, fld 4 1 .w1c 0, fld 3 1 .w1c 0, fld 2 1 .w1c 0, fld 1 1 .w1c 0, fld 0 1 .w1c 0]⟩,
  ⟨"MBX_EVT", 0x310784, [], true, [fld 5 1 .w1c 0, fld 4 1 .w1c 0, fld 3 1 .w1c 0, fld 2 1 .w1c 0, fld 1 1 .w1c 0, fld 0 1 .w1c 0]⟩]

def rowsMBX_3 : List RegRow := [
  ⟨"MBX_EVT", 0x310884, [], true, [fld 5 1 .w1c 0, fld 4 1 .w1c 0, fld 3 1 .w1c 0, fld 2 1 .w1c 0, fld 1 1 .w1c 0, fld 0 1 .w1c 0]⟩,
  ⟨"MBX_EVT", 0x310984, [], true, [fld 5 1 .w1c 0, fld 4 1 .w1c 0, fld 3 1 .w1c 0, fld 2 1 .w1c 0, fld 1 1 .w1c 0, fld 0 1 .w1c 0]⟩,
  ⟨"MBX_EVT", 0x310A84, [], true, [fld 5 1 .w1c 0, fld 4 1 .w1c 0, fld 3 1 .w1c 0, fld 2 1 .w1c 0, fld 1 1 .w1c 0, fld 0 1 .w1c 0]⟩,
  ⟨"MBX_EVT", 0x310B84, [], true, [fld 5 1 .w1c 0, fld 4 1 .w1c 0, fld 3 1 .w1c 0, fld 2 1 .w1c 0, fld 1 1 .w1c 0, fld 0 1 .w1c 0]⟩,
  ⟨"MBX_EVT", 0x310C84, [], true, [fld 5 1 .w1c 0, fld 4 1 .w1c 0, fld 3 1 .w1c 0, fld 2 1 .w1c 0, fld 1 1 .w1c 0, fld 0 1 .w1c 0]⟩,
  ⟨"MBX_EVT", 0x310D84, [], true, [fld 5 1 .w1c 0, fld 4 1 .w1c 0, fld 3 1 .w1c 0, fld 2 1 .w1c 0, fld 1 1 .w1c 0, fld 0 1 .w1c 0]⟩,
  ⟨"MBX_EVT", 0x310E84, [], true, [fld 5 1 .w1c 0, fld 4 1 .w1c 0, fld 3 1 .w1c 0, fld 2 1 .w1c 0, fld 1 1 .w1c 0, fld 0 1 .w1c 0]⟩,
  ⟨"MBX_EVT", 0x310F84, [], true, [fld 5 1 .w1c 0, fld 4 1 .w1c 0, fld 3 1 .w1c 0, fld 2 1 .w1c 0, fld 1 1 .w1c 0, fld 0 1 .w1c 0]⟩,
  ⟨"MBX_CTRL", 0x310088, [], false, [fld 1 1 .w1s 0, fld 0 1 .w1s 0]⟩,
  ⟨"MBX_CTRL", 0x310188, [], true, [fld 1 1 .w1s 0, fld 0 1 .w1s 0]⟩,
  ⟨"MBX_CTRL", 0x310288, [], false, [fld 1 1 .w1s 0, fld 0 1 .w1s 0]⟩,
  ⟨"MBX_CTRL", 0x310388, [], true, [fld 1 1 .w1s 0, fld 0 1 .w1s 0]⟩,
  ⟨"MBX_CTRL", 0x310488, [], false, [fld 1 1 .w1s 0, fld 0 1 .w1s 0]⟩,
  ⟨"MBX_CTRL", 0x310588, [], true, [fld 1 1 .w1s 0, fld 0 1 .w1s 0]⟩,
  ⟨"MBX_CTRL", 0x310688, [], false, [fld 1 1 .w1s 0, fld 0 1 .w1s 0]⟩,
  ⟨"MBX_CTRL", 0x310788, [], true, [fld 1 1 .w1s 0, fld 0 1 .w1s 0]⟩,
  ⟨"MBX_CTRL", 0x310888, [], true, [fld 1 1 .w1s 0, fld 0 1 .w1s 0]⟩,
  ⟨"MBX_CTRL", 0x310988, [], true, [fld 1 1 .w1s 0, fld 0 1 .w1s 0]⟩,
  ⟨"MBX_CTRL", 0x310A88, [], true, [fld 1 1 .w1s 0, fld 0 1 .w1s 0]⟩,
  ⟨"MBX_CTRL", 0x310B88, [], true, [fld 1 1 .w1s 0, fld 0 1 .w1s 0]⟩,
  ⟨"MBX_CTRL", 0x310C88, [], true, [fld 1 1 .w1s 0, fld 0 1 .w1s 0]⟩,
  ⟨"MBX_CTRL", 0x310D88, [], true, [fld 1 1 .w1s 0, fld 0 1 .w1s 0]⟩,
  ⟨"MBX_CTRL", 0x310E88, [], true, [fld 1 1 .w1s 0, fld 0 1 .w1s 0]⟩,
  ⟨"MBX_CTRL", 0x310F88, [], true, [fld 1 1 .w1s 0, fld 0 1 .w1s 0]⟩]

def rowsMBX_4 : List RegRow := [
  ⟨"MBX_RECV_INFO", 0x31008C, [], false, [fld 24 8 .ro 0, fld 16 8 .ro 0, fld 0 1 .ro 0]⟩,
  ⟨"MBX_RECV_INFO", 0x31018C, [], true, [fld 24 8 .ro 0, fld 16 8 .ro 0, fld 0 1 .ro 0]⟩,
  ⟨"MBX_RECV_INFO", 0x31028C, [], false, [fld 24 8 .ro 0, fld 16 8 .ro 0, fld 0 1 .ro 0]⟩,
  ⟨"MBX_RECV_INFO", 0x31038C, [], true, [fld 24 8 .ro 0, fld 16 8 .ro 0, fld 0 1 .ro 0]⟩,
  ⟨"MBX_RECV_INFO", 0x31048C, [], false, [fld 24 8 .ro 0, fld 16 8 .ro 0, fld 0 1 .ro 0]⟩,
  ⟨"MBX_RECV_INFO", 0x31058C, [], true, [fld 24 8 .ro 0, fld 16 8 .ro 0, fld 0 1 .ro 0]⟩,
  ⟨"MBX_RECV_INFO", 0x31068C, [], false, [fld 24 8 .ro 0, fld 16 8 .ro 0, fld 0 1 .ro 0]⟩,
  ⟨"MBX_RECV_INFO", 0x31078C, [], true, [fld 24 8 .ro 0, fld 16 8 .ro 0, fld 0 1 .ro 0]⟩,
  ⟨"MBX_RECV_INFO", 0x31088C, [], true, [fld 24 8 .ro 0, fld 16 8 .ro 0, fld 0 1 .ro 0]⟩,
  ⟨"MBX_RECV_INFO", 0x31098C, [], true, [fld 24 8 .ro 0, fld 16 8 .ro 0, fld 0 1 .ro 0]⟩,
  ⟨"MBX_RECV_INFO", 0x310A8C, [], true, [fld 24 8 .ro 0, fld 16 8 .ro 0, fld 0 1 .ro 0]⟩,
  ⟨"MBX_RECV_INFO", 0x310B8C, [], true, [fld 24 8 .ro 0, fld 16 8 .ro 0, fld 0 1 .ro 0]⟩,
  ⟨"MBX_RECV_INFO", 0x310C8C, [], true, [fld 24 8 .ro 0, fld 16 8 .ro 0, fld 0 1 .ro 0]⟩,
  ⟨"MBX_RECV_INFO", 0x310D8C, [], true, [fld 24 8 .ro 0, fld 16 8 .ro 0, fld 0 1 .ro 0]⟩,
  ⟨"MBX_RECV_INFO", 0x310E8C, [], true, [fld 24 8 .ro 0, fld 16 8 .ro 0, fld 0 1 .ro 0]⟩,
  ⟨"MBX_RECV_INFO", 0x310F8C, [], true, [fld 24 8 .ro 0, fld 16 8 .ro 0, fld 0 1 .ro 0]⟩,
  ⟨"MBX_COUNT", 0x310090, [], false, [fld 16 16 .rc 0, fld 0 16 .rc 0]⟩,
  ⟨"MBX_COUNT", 0x310190, [], true, [fld 16 16 .rc 0, fld 0 16 .rc 0]⟩,
  ⟨"MBX_COUNT", 0x310290, [], false, [fld 16 16 .rc 0, fld 0 16 .rc 0]⟩,
  ⟨"MBX_COUNT", 0x310390, [], true, [fld 16 16 .rc 0, fld 0 16 .rc 0]⟩,
  ⟨"MBX_COUNT", 0x310490, [], false, [fld 16 16 .rc 0, fld 0 16 .rc 0]⟩,
  ⟨"MBX_COUNT", 0x310590, [], true, [fld 16 16 .rc 0, fld 0 16 .rc 0]⟩,
  ⟨"MBX_COUNT", 0x310690, [], false, [fld 16 16 .rc 0, fld 0 16 .rc 0]⟩,
  ⟨"MBX_COUNT", 0x310790, [], true, [fld 16 16 .rc 0, fld 0 16 .rc 0]⟩]

def rowsMBX_5 : List RegRow := [
  ⟨"MBX_COUNT", 0x310890, [], true, [fld 16 16 .rc 0, fld 0 16 .rc 0]⟩,
  ⟨"MBX_COUNT", 0x310990, [], true, [fld 16 16 .rc 0, fld 0 16 .rc 0]⟩,
  ⟨"MBX_COUNT", 0x310A90, [], true, [fld 16 16 .rc 0, fld 0 16 .rc 0]⟩,
  ⟨"MBX_COUNT", 0x310B90, [], true, [fld 16 16 .rc 0, fld 0 16 .rc 0]⟩,
  ⟨"MBX_COUNT", 0x310C90, [], true, [fld 16 16 .rc 0, fld 0 16 .rc 0]⟩,
  ⟨"MBX_COUNT", 0x310D90, [], true, [fld 16 16 .rc 0, fld 0 16 .rc 0]⟩,
  ⟨"MBX_COUNT", 0x310E90, [], true, [fld 16 16 .rc 0, fld 0 16 .rc 0]⟩,
  ⟨"MBX_COUNT", 0x310F90, [], true, [fld 16 16 .rc 0, fld 0 16 .rc 0]⟩]

/-- Every register of block MBX. -/
def rowsMBX : List RegRow := rowsMBX_0 ++ rowsMBX_1 ++ rowsMBX_2 ++ rowsMBX_3 ++ rowsMBX_4 ++ rowsMBX_5

def rowsHIF_0 : List RegRow := [
  ⟨"HIF_PRIV", 0x320000, [], false, [fld 0 4 .ro 1]⟩,
  ⟨"HIF_ERR", 0x320004, [], false, [fld 6 1 .w1c 0, fld 5 1 .w1c 0, fld 4 1 .w1c 0, fld 3 1 .w1c 0, fld 2 1 .w1c 0, fld 1 1 .w1c 0, fld 0 1 .w1c 0]⟩,
  ⟨"HIF_IRQ_STATUS", 0x320010, [], false, [fld 0 10 .ro 0]⟩,
  ⟨"HIF_IRQ_EN", 0x320014, [], true, [fld 0 10 .rw 0]⟩,
  ⟨"HIF_MSIX_EN", 0x320018, [], true, [fld 0 10 .rw 0]⟩,
  ⟨"HIF_PKT_EVT", 0x32001C, [], false, [fld 2 1 .w1c 0, fld 1 1 .w1c 0, fld 0 1 .w1c 0]⟩,
  ⟨"HIF_RING_BASE_LO", 0x320100, [(0x20, 2)], true, [fld 12 20 .rw 0]⟩,
  ⟨"HIF_RING_BASE_HI", 0x320104, [(0x20, 2)], true, [fld 0 32 .rw 0]⟩,
  ⟨"HIF_RING_LEN", 0x320108, [(0x20, 2)], true, [fldR 0 13 .rw 0 (.natOrZero 2 4096)]⟩,
  ⟨"HIF_RING_TAIL", 0x32010C, [(0x20, 2)], true, [fld 0 12 .rw 0]⟩,
  ⟨"HIF_RING_HEAD", 0x320110, [(0x20, 2)], false, [fld 0 12 .ro 0]⟩]

/-- Every register of block HIF. -/
def rowsHIF : List RegRow := rowsHIF_0

def rowsFLT_0 : List RegRow := [
  ⟨"FLT_CFG", 0x330000, [], true, [fldR 24 8 .rw 1 (.nat 1 255), fld 0 4 .rw 0]⟩,
  ⟨"FLT_SQ", 0x330004, [], true, [fld 0 24 .rw 0]⟩,
  ⟨"FLT_CTRL", 0x330008, [], true, [fld 2 1 .w1s 0, fld 1 1 .w1s 0, fld 0 1 .rw 0]⟩,
  ⟨"FLT_STATUS", 0x33000C, [], false, [fld 3 1 .ro 0, fld 2 1 .ro 0, fld 1 1 .ro 0, fld 0 1 .ro 0]⟩,
  ⟨"FLT_EVT", 0x330010, [], false, [fld 1 1 .w1c 0, fld 0 1 .w1c 0]⟩,
  ⟨"FLT_COUNT", 0x330014, [], false, [fld 16 16 .ro 0, fld 8 8 .ro 0, fld 0 8 .ro 0]⟩,
  ⟨"FLT_COUNT2", 0x330018, [], false, [fld 0 8 .ro 0]⟩,
  ⟨"FLT_FIRST_W", 0x330020, [(0x4, 4)], false, [fld 0 32 .ro 0]⟩,
  ⟨"FLT_LOG_W", 0x330044, [(0x4, 4)], false, [fld 0 32 .ro 0]⟩,
  ⟨"FLT_FIRST_OVF", 0x330030, [], false, [fld 0 16 .ro 0]⟩,
  ⟨"FLT_LOG_INDEX", 0x330040, [], false, [fld 0 8 .rw 0]⟩,
  ⟨"FLT_NVLOG", 0x330054, [], false, [fld 16 16 .ro 0, fld 0 16 .ro 0]⟩,
  ⟨"FLT_TEMP", 0x330060, [], false, [fld 16 16 .ro 0, fld 0 16 .ro 0]⟩,
  ⟨"FLT_TEMP_LIM", 0x330064, [], true, [fldR 8 8 .rw 100 (.int (-40) 125), fldR 0 8 .rw 216 (.int (-40) 125)]⟩,
  ⟨"FLT_RAIL", 0x330070, [], false, [fld 7 7 .ro 0, fld 0 7 .ro 0]⟩,
  ⟨"FLT_REACT", 0x330400, [], true, [fld 7 1 .rw 0, fld 6 1 .rw 0, fld 5 1 .rw 0, fld 4 1 .rw 0, fld 3 1 .rw 0, fld 2 1 .rw 0, fld 1 1 .rw 0, fld 0 1 .ro 1]⟩,
  ⟨"FLT_REACT", 0x330404, [], true, [fld 7 1 .rw 0, fld 6 1 .rw 0, fld 5 1 .rw 0, fld 4 1 .rw 0, fld 3 1 .rw 0, fld 2 1 .rw 0, fld 1 1 .rw 0, fld 0 1 .ro 1]⟩,
  ⟨"FLT_REACT", 0x330408, [], true, [fld 7 1 .rw 0, fld 6 1 .rw 0, fld 5 1 .rw 0, fld 4 1 .rw 0, fld 3 1 .rw 0, fld 2 1 .rw 0, fld 1 1 .rw 0, fld 0 1 .ro 1]⟩,
  ⟨"FLT_REACT", 0x33040C, [], true, [fld 7 1 .rw 0, fld 6 1 .rw 0, fld 5 1 .rw 0, fld 4 1 .rw 0, fld 3 1 .rw 0, fld 2 1 .rw 0, fld 1 1 .rw 0, fld 0 1 .ro 1]⟩,
  ⟨"FLT_REACT", 0x330410, [], true, [fld 7 1 .rw 0, fld 6 1 .rw 0, fld 5 1 .rw 0, fld 4 1 .rw 0, fld 3 1 .rw 0, fld 2 1 .rw 0, fld 1 1 .rw 0, fld 0 1 .ro 1]⟩,
  ⟨"FLT_REACT", 0x330414, [], true, [fld 7 1 .rw 0, fld 6 1 .rw 0, fld 5 1 .rw 0, fld 4 1 .rw 0, fld 3 1 .rw 0, fld 2 1 .rw 0, fld 1 1 .rw 0, fld 0 1 .ro 1]⟩,
  ⟨"FLT_REACT", 0x330418, [], true, [fld 7 1 .rw 0, fld 6 1 .rw 0, fld 5 1 .rw 0, fld 4 1 .rw 0, fld 3 1 .rw 0, fld 2 1 .rw 0, fld 1 1 .rw 0, fld 0 1 .ro 1]⟩,
  ⟨"FLT_REACT", 0x33041C, [], true, [fld 7 1 .rw 0, fld 6 1 .rw 0, fld 5 1 .rw 0, fld 4 1 .rw 0, fld 3 1 .rw 0, fld 2 1 .rw 0, fld 1 1 .rw 0, fld 0 1 .ro 1]⟩,
  ⟨"FLT_REACT", 0x330420, [], true, [fld 7 1 .rw 0, fld 6 1 .rw 0, fld 5 1 .rw 0, fld 4 1 .rw 0, fld 3 1 .rw 0, fld 2 1 .rw 0, fld 1 1 .rw 0, fld 0 1 .ro 1]⟩]

def rowsFLT_1 : List RegRow := [
  ⟨"FLT_REACT", 0x330424, [], true, [fld 7 1 .rw 0, fld 6 1 .rw 0, fld 5 1 .rw 0, fld 4 1 .rw 0, fld 3 1 .rw 0, fld 2 1 .rw 0, fld 1 1 .rw 0, fld 0 1 .ro 1]⟩,
  ⟨"FLT_REACT", 0x330428, [], true, [fld 7 1 .rw 0, fld 6 1 .rw 0, fld 5 1 .rw 0, fld 4 1 .rw 0, fld 3 1 .rw 0, fld 2 1 .rw 0, fld 1 1 .rw 0, fld 0 1 .ro 1]⟩,
  ⟨"FLT_REACT", 0x33042C, [], true, [fld 7 1 .rw 0, fld 6 1 .rw 0, fld 5 1 .rw 0, fld 4 1 .rw 0, fld 3 1 .rw 0, fld 2 1 .rw 0, fld 1 1 .rw 0, fld 0 1 .ro 1]⟩,
  ⟨"FLT_REACT", 0x330430, [], true, [fld 7 1 .rw 0, fld 6 1 .rw 0, fld 5 1 .rw 0, fld 4 1 .rw 0, fld 3 1 .rw 0, fld 2 1 .rw 0, fld 1 1 .rw 0, fld 0 1 .ro 1]⟩,
  ⟨"FLT_REACT", 0x330434, [], true, [fld 7 1 .rw 0, fld 6 1 .rw 0, fld 5 1 .rw 0, fld 4 1 .rw 0, fld 3 1 .rw 0, fld 2 1 .rw 0, fld 1 1 .rw 0, fld 0 1 .ro 1]⟩,
  ⟨"FLT_REACT", 0x330438, [], true, [fld 7 1 .rw 0, fld 6 1 .rw 0, fld 5 1 .rw 0, fld 4 1 .rw 0, fld 3 1 .rw 0, fld 2 1 .rw 0, fld 1 1 .rw 0, fld 0 1 .ro 1]⟩,
  ⟨"FLT_REACT", 0x33043C, [], true, [fld 7 1 .rw 0, fld 6 1 .rw 0, fld 5 1 .rw 0, fld 4 1 .rw 0, fld 3 1 .rw 0, fld 2 1 .rw 0, fld 1 1 .rw 0, fld 0 1 .ro 1]⟩,
  ⟨"FLT_REACT", 0x330440, [], true, [fld 7 1 .rw 0, fld 6 1 .rw 0, fld 5 1 .rw 0, fld 4 1 .rw 0, fld 3 1 .rw 1, fld 2 1 .rw 1, fld 1 1 .rw 1, fld 0 1 .ro 1]⟩,
  ⟨"FLT_REACT", 0x330444, [], true, [fld 7 1 .rw 0, fld 6 1 .rw 0, fld 5 1 .rw 0, fld 4 1 .rw 0, fld 3 1 .rw 1, fld 2 1 .rw 1, fld 1 1 .rw 1, fld 0 1 .ro 1]⟩,
  ⟨"FLT_REACT", 0x330448, [], true, [fld 7 1 .rw 0, fld 6 1 .rw 0, fld 5 1 .rw 0, fld 4 1 .rw 0, fld 3 1 .rw 1, fld 2 1 .rw 1, fld 1 1 .rw 1, fld 0 1 .ro 1]⟩,
  ⟨"FLT_REACT", 0x33044C, [], true, [fld 7 1 .rw 0, fld 6 1 .rw 0, fld 5 1 .rw 0, fld 4 1 .rw 0, fld 3 1 .ro 1, fld 2 1 .ro 1, fld 1 1 .rw 1, fld 0 1 .ro 1]⟩,
  ⟨"FLT_REACT", 0x330450, [], true, [fld 7 1 .rw 0, fld 6 1 .rw 0, fld 5 1 .rw 0, fld 4 1 .rw 0, fld 3 1 .rw 1, fld 2 1 .rw 1, fld 1 1 .rw 1, fld 0 1 .ro 1]⟩,
  ⟨"FLT_REACT", 0x330454, [], true, [fld 7 1 .rw 0, fld 6 1 .rw 0, fld 5 1 .rw 0, fld 4 1 .rw 0, fld 3 1 .rw 1, fld 2 1 .rw 1, fld 1 1 .rw 1, fld 0 1 .ro 1]⟩,
  ⟨"FLT_REACT", 0x330458, [], true, [fld 7 1 .rw 0, fld 6 1 .rw 0, fld 5 1 .rw 0, fld 4 1 .rw 0, fld 3 1 .rw 1, fld 2 1 .rw 1, fld 1 1 .rw 1, fld 0 1 .ro 1]⟩,
  ⟨"FLT_REACT", 0x33045C, [], true, [fld 7 1 .ro 1, fld 6 1 .rw 0, fld 5 1 .rw 0, fld 4 1 .rw 0, fld 3 1 .ro 1, fld 2 1 .rw 0, fld 1 1 .ro 1, fld 0 1 .ro 1]⟩,
  ⟨"FLT_REACT", 0x330460, [], true, [fld 7 1 .rw 0, fld 6 1 .rw 0, fld 5 1 .rw 0, fld 4 1 .rw 0, fld 3 1 .rw 1, fld 2 1 .rw 1, fld 1 1 .rw 1, fld 0 1 .ro 1]⟩,
  ⟨"FLT_REACT", 0x330464, [], true, [fld 7 1 .rw 0, fld 6 1 .rw 0, fld 5 1 .rw 0, fld 4 1 .rw 0, fld 3 1 .rw 0, fld 2 1 .rw 0, fld 1 1 .rw 0, fld 0 1 .ro 1]⟩,
  ⟨"FLT_REACT", 0x330468, [], true, [fld 7 1 .rw 0, fld 6 1 .rw 0, fld 5 1 .rw 0, fld 4 1 .rw 0, fld 3 1 .rw 0, fld 2 1 .rw 0, fld 1 1 .rw 0, fld 0 1 .ro 1]⟩,
  ⟨"FLT_REACT", 0x33046C, [], true, [fld 7 1 .rw 0, fld 6 1 .rw 0, fld 5 1 .rw 0, fld 4 1 .rw 0, fld 3 1 .rw 0, fld 2 1 .rw 0, fld 1 1 .rw 0, fld 0 1 .ro 1]⟩,
  ⟨"FLT_REACT", 0x330470, [], true, [fld 7 1 .rw 0, fld 6 1 .rw 0, fld 5 1 .rw 0, fld 4 1 .rw 0, fld 3 1 .rw 0, fld 2 1 .rw 0, fld 1 1 .rw 0, fld 0 1 .ro 1]⟩,
  ⟨"FLT_REACT", 0x330474, [], true, [fld 7 1 .rw 0, fld 6 1 .rw 0, fld 5 1 .rw 0, fld 4 1 .rw 0, fld 3 1 .rw 0, fld 2 1 .rw 0, fld 1 1 .rw 0, fld 0 1 .ro 1]⟩,
  ⟨"FLT_REACT", 0x330478, [], true, [fld 7 1 .rw 0, fld 6 1 .rw 0, fld 5 1 .rw 0, fld 4 1 .rw 0, fld 3 1 .rw 0, fld 2 1 .rw 0, fld 1 1 .rw 0, fld 0 1 .ro 1]⟩,
  ⟨"FLT_REACT", 0x33047C, [], true, [fld 7 1 .rw 0, fld 6 1 .rw 0, fld 5 1 .rw 0, fld 4 1 .rw 0, fld 3 1 .rw 0, fld 2 1 .rw 0, fld 1 1 .rw 0, fld 0 1 .ro 1]⟩,
  ⟨"FLT_REACT", 0x330480, [], true, [fld 7 1 .rw 0, fld 6 1 .rw 0, fld 5 1 .rw 0, fld 4 1 .rw 0, fld 3 1 .rw 0, fld 2 1 .rw 0, fld 1 1 .rw 0, fld 0 1 .ro 1]⟩]

def rowsFLT_2 : List RegRow := [
  ⟨"FLT_REACT", 0x330484, [], true, [fld 7 1 .rw 0, fld 6 1 .rw 0, fld 5 1 .rw 0, fld 4 1 .rw 0, fld 3 1 .rw 0, fld 2 1 .rw 0, fld 1 1 .rw 1, fld 0 1 .ro 1]⟩,
  ⟨"FLT_REACT", 0x330488, [], true, [fld 7 1 .rw 0, fld 6 1 .rw 0, fld 5 1 .rw 0, fld 4 1 .rw 0, fld 3 1 .rw 0, fld 2 1 .rw 0, fld 1 1 .rw 1, fld 0 1 .ro 1]⟩,
  ⟨"FLT_REACT", 0x33048C, [], true, [fld 7 1 .rw 0, fld 6 1 .rw 0, fld 5 1 .rw 0, fld 4 1 .rw 0, fld 3 1 .rw 0, fld 2 1 .rw 1, fld 1 1 .rw 1, fld 0 1 .ro 1]⟩,
  ⟨"FLT_REACT", 0x330490, [], true, [fld 7 1 .rw 0, fld 6 1 .rw 0, fld 5 1 .rw 0, fld 4 1 .rw 0, fld 3 1 .rw 0, fld 2 1 .rw 0, fld 1 1 .rw 1, fld 0 1 .ro 1]⟩,
  ⟨"FLT_REACT", 0x330494, [], true, [fld 7 1 .rw 0, fld 6 1 .rw 0, fld 5 1 .rw 0, fld 4 1 .rw 0, fld 3 1 .rw 0, fld 2 1 .rw 0, fld 1 1 .rw 0, fld 0 1 .ro 1]⟩,
  ⟨"FLT_REACT", 0x330498, [], true, [fld 7 1 .rw 0, fld 6 1 .rw 0, fld 5 1 .rw 0, fld 4 1 .rw 0, fld 3 1 .rw 0, fld 2 1 .rw 0, fld 1 1 .rw 0, fld 0 1 .ro 1]⟩,
  ⟨"FLT_REACT", 0x33049C, [], true, [fld 7 1 .rw 0, fld 6 1 .rw 0, fld 5 1 .rw 0, fld 4 1 .rw 0, fld 3 1 .rw 0, fld 2 1 .rw 0, fld 1 1 .rw 0, fld 0 1 .ro 1]⟩,
  ⟨"FLT_REACT", 0x3304A0, [], true, [fld 7 1 .rw 0, fld 6 1 .rw 0, fld 5 1 .rw 0, fld 4 1 .rw 0, fld 3 1 .rw 1, fld 2 1 .rw 1, fld 1 1 .rw 1, fld 0 1 .ro 1]⟩,
  ⟨"FLT_REACT", 0x3304A4, [], true, [fld 7 1 .rw 0, fld 6 1 .rw 0, fld 5 1 .rw 0, fld 4 1 .rw 0, fld 3 1 .rw 1, fld 2 1 .rw 1, fld 1 1 .rw 1, fld 0 1 .ro 1]⟩,
  ⟨"FLT_REACT", 0x3304A8, [], true, [fld 7 1 .rw 0, fld 6 1 .rw 0, fld 5 1 .rw 0, fld 4 1 .rw 0, fld 3 1 .rw 1, fld 2 1 .rw 1, fld 1 1 .rw 1, fld 0 1 .ro 1]⟩,
  ⟨"FLT_REACT", 0x3304AC, [], true, [fld 7 1 .rw 0, fld 6 1 .rw 0, fld 5 1 .rw 0, fld 4 1 .rw 0, fld 3 1 .rw 1, fld 2 1 .rw 1, fld 1 1 .rw 1, fld 0 1 .ro 1]⟩,
  ⟨"FLT_REACT", 0x3304B0, [], true, [fld 7 1 .rw 0, fld 6 1 .rw 0, fld 5 1 .rw 0, fld 4 1 .rw 0, fld 3 1 .rw 1, fld 2 1 .rw 1, fld 1 1 .rw 1, fld 0 1 .ro 1]⟩,
  ⟨"FLT_REACT", 0x3304B4, [], true, [fld 7 1 .rw 0, fld 6 1 .rw 0, fld 5 1 .rw 0, fld 4 1 .rw 0, fld 3 1 .rw 1, fld 2 1 .rw 1, fld 1 1 .rw 1, fld 0 1 .ro 1]⟩,
  ⟨"FLT_REACT", 0x3304B8, [], true, [fld 7 1 .rw 0, fld 6 1 .rw 0, fld 5 1 .rw 0, fld 4 1 .rw 0, fld 3 1 .rw 1, fld 2 1 .rw 1, fld 1 1 .rw 1, fld 0 1 .ro 1]⟩,
  ⟨"FLT_REACT", 0x3304BC, [], true, [fld 7 1 .rw 0, fld 6 1 .rw 0, fld 5 1 .rw 0, fld 4 1 .rw 0, fld 3 1 .rw 0, fld 2 1 .rw 0, fld 1 1 .rw 0, fld 0 1 .ro 1]⟩,
  ⟨"FLT_REACT", 0x3304C0, [], true, [fld 7 1 .rw 0, fld 6 1 .rw 0, fld 5 1 .rw 0, fld 4 1 .rw 0, fld 3 1 .rw 0, fld 2 1 .rw 0, fld 1 1 .rw 0, fld 0 1 .ro 1]⟩,
  ⟨"FLT_REACT", 0x3304C4, [], true, [fld 7 1 .rw 0, fld 6 1 .rw 0, fld 5 1 .rw 0, fld 4 1 .rw 0, fld 3 1 .rw 0, fld 2 1 .rw 0, fld 1 1 .rw 0, fld 0 1 .ro 1]⟩,
  ⟨"FLT_REACT", 0x3304C8, [], true, [fld 7 1 .rw 0, fld 6 1 .rw 0, fld 5 1 .rw 0, fld 4 1 .rw 0, fld 3 1 .rw 0, fld 2 1 .rw 0, fld 1 1 .rw 0, fld 0 1 .ro 1]⟩,
  ⟨"FLT_REACT", 0x3304CC, [], true, [fld 7 1 .rw 0, fld 6 1 .rw 0, fld 5 1 .rw 0, fld 4 1 .rw 0, fld 3 1 .rw 0, fld 2 1 .rw 0, fld 1 1 .rw 0, fld 0 1 .ro 1]⟩,
  ⟨"FLT_REACT", 0x3304D0, [], true, [fld 7 1 .rw 0, fld 6 1 .rw 0, fld 5 1 .rw 0, fld 4 1 .rw 0, fld 3 1 .rw 0, fld 2 1 .rw 0, fld 1 1 .rw 0, fld 0 1 .ro 1]⟩,
  ⟨"FLT_REACT", 0x3304D4, [], true, [fld 7 1 .rw 0, fld 6 1 .rw 0, fld 5 1 .rw 0, fld 4 1 .rw 0, fld 3 1 .rw 0, fld 2 1 .rw 0, fld 1 1 .rw 0, fld 0 1 .ro 1]⟩,
  ⟨"FLT_REACT", 0x3304D8, [], true, [fld 7 1 .rw 0, fld 6 1 .rw 0, fld 5 1 .rw 0, fld 4 1 .rw 0, fld 3 1 .rw 0, fld 2 1 .rw 0, fld 1 1 .rw 0, fld 0 1 .ro 1]⟩,
  ⟨"FLT_REACT", 0x3304DC, [], true, [fld 7 1 .rw 0, fld 6 1 .rw 0, fld 5 1 .rw 0, fld 4 1 .rw 0, fld 3 1 .rw 0, fld 2 1 .rw 0, fld 1 1 .rw 0, fld 0 1 .ro 1]⟩,
  ⟨"FLT_REACT", 0x3304E0, [], true, [fld 7 1 .rw 0, fld 6 1 .rw 0, fld 5 1 .rw 0, fld 4 1 .rw 0, fld 3 1 .rw 0, fld 2 1 .rw 0, fld 1 1 .rw 0, fld 0 1 .ro 1]⟩]

def rowsFLT_3 : List RegRow := [
  ⟨"FLT_REACT", 0x3304E4, [], true, [fld 7 1 .rw 0, fld 6 1 .rw 0, fld 5 1 .rw 0, fld 4 1 .rw 0, fld 3 1 .rw 0, fld 2 1 .rw 0, fld 1 1 .rw 0, fld 0 1 .ro 1]⟩,
  ⟨"FLT_REACT", 0x3304E8, [], true, [fld 7 1 .rw 0, fld 6 1 .rw 0, fld 5 1 .rw 0, fld 4 1 .rw 0, fld 3 1 .rw 0, fld 2 1 .rw 0, fld 1 1 .rw 0, fld 0 1 .ro 1]⟩,
  ⟨"FLT_REACT", 0x3304EC, [], true, [fld 7 1 .rw 0, fld 6 1 .rw 0, fld 5 1 .rw 0, fld 4 1 .rw 0, fld 3 1 .rw 0, fld 2 1 .rw 0, fld 1 1 .rw 0, fld 0 1 .ro 1]⟩,
  ⟨"FLT_REACT", 0x3304F0, [], true, [fld 7 1 .rw 0, fld 6 1 .rw 0, fld 5 1 .rw 0, fld 4 1 .rw 0, fld 3 1 .rw 0, fld 2 1 .rw 0, fld 1 1 .rw 0, fld 0 1 .ro 1]⟩,
  ⟨"FLT_REACT", 0x3304F4, [], true, [fld 7 1 .rw 0, fld 6 1 .rw 0, fld 5 1 .rw 0, fld 4 1 .rw 0, fld 3 1 .rw 0, fld 2 1 .rw 0, fld 1 1 .rw 0, fld 0 1 .ro 1]⟩,
  ⟨"FLT_REACT", 0x3304F8, [], true, [fld 7 1 .rw 0, fld 6 1 .rw 0, fld 5 1 .rw 0, fld 4 1 .rw 0, fld 3 1 .rw 0, fld 2 1 .rw 0, fld 1 1 .rw 0, fld 0 1 .ro 1]⟩,
  ⟨"FLT_REACT", 0x3304FC, [], true, [fld 7 1 .rw 0, fld 6 1 .rw 0, fld 5 1 .rw 0, fld 4 1 .rw 0, fld 3 1 .rw 0, fld 2 1 .rw 0, fld 1 1 .rw 0, fld 0 1 .ro 1]⟩]

/-- Every register of block FLT. -/
def rowsFLT : List RegRow := rowsFLT_0 ++ rowsFLT_1 ++ rowsFLT_2 ++ rowsFLT_3

def rowsPWR_0 : List RegRow := [
  ⟨"PWR_CFG", 0x340000, [], true, [fld 16 1 .rw 0, fldR 0 16 .rw 100 (.nat 1 65535)]⟩,
  ⟨"PWR_REQ", 0x340004, [], true, [fld 31 1 .w1s 0, fld 4 4 .rw 0, fldR 0 3 .rw 0 (.nat 0 4)]⟩,
  ⟨"PWR_STATUS", 0x340008, [], false, [fld 24 3 .ro 0, fld 8 3 .ro 0, fld 4 2 .ro 0, fld 0 1 .ro 0]⟩,
  ⟨"PWR_EVT", 0x34000C, [], false, [fld 2 1 .w1c 0, fld 1 1 .w1c 0, fld 0 1 .w1c 0]⟩,
  ⟨"PWR_WAKE_TIME", 0x340010, [], true, [fldR 0 24 .rw 0xE10 (.nat 1 16777215)]⟩,
  ⟨"PWR_WAKE_CAUSE", 0x340014, [], false, [fld 0 3 .ro 0]⟩,
  ⟨"PWR_SHED_LO", 0x340020, [], true, [fld 0 32 .rw 0xFFFFFFFF]⟩,
  ⟨"PWR_SHED_HI", 0x340024, [], true, [fld 0 16 .rw 0xFFFF]⟩,
  ⟨"PWR_TOKENS", 0x340030, [], false, [fld 16 16 .ro 0, fld 0 6 .ro 0]⟩]

/-- Every register of block PWR. -/
def rowsPWR : List RegRow := rowsPWR_0

end Sys2Proof.Machine
end

