-- ==== Sys2Proof/Machine/SMap.lean ====
section
/-! DEFINITION. Reading and writing a sparse store in its one canonical form. The default of a key is given by
a function, so that an unlisted register reads as its Reset value (R10). -/

namespace Sys2Proof.Machine

variable {α : Type}

/-- What the store holds at key `k`; an unlisted key reads as `d k`. -/
def smGet (d : Nat → α) : SMap α → Nat → α
  | [], k => d k
  | (j, v) :: m, k => if k = j then v else if k < j then d k else smGet d m k

/-- The store with key `k` removed. -/
def smErase : SMap α → Nat → SMap α
  | [], _ => []
  | (j, v) :: m, k => if k = j then m else if k < j then (j, v) :: m else (j, v) :: smErase m k

/-- The store with key `k` holding `v`. -/
def smInsert : SMap α → Nat → α → SMap α
  | [], k, v => [(k, v)]
  | (j, w) :: m, k, v => if k = j then (k, v) :: m else if k < j then (k, v) :: (j, w) :: m else (j, w) :: smInsert m k v

/-- A write: the entry goes away when its value is the one an unlisted key reads as. -/
def smSet [DecidableEq α] (d : Nat → α) (m : SMap α) (k : Nat) (v : α) : SMap α :=
  if v = d k then smErase m k else smInsert m k v

/-- Every key of the store lies above `b`, the keys rise, and no entry equals what an unlisted key reads as. -/
def smWfFrom [DecidableEq α] (d : Nat → α) : Nat → SMap α → Bool
  | _, [] => true
  | b, (j, v) :: m => decide (b ≤ j) && decide (v ≠ d j) && smWfFrom d (j + 1) m

/-- The canonical form of a store. -/
def smWf [DecidableEq α] (d : Nat → α) (m : SMap α) : Bool := smWfFrom d 0 m

/-- A store whose unlisted entries read as the type's reset value. -/
def smAt [Inhabited α] (m : SMap α) (k : Nat) : α := smGet (fun _ => default) m k

/-- A write to a store whose unlisted entries read as the type's reset value. -/
def smPut [DecidableEq α] [Inhabited α] (m : SMap α) (k : Nat) (v : α) : SMap α := smSet (fun _ => default) m k v

/-- Consecutive writes from key `k`. -/
def smPutList [DecidableEq α] [Inhabited α] (m : SMap α) : Nat → List α → SMap α
  | _, [] => m
  | k, v :: vs => smPutList (smPut m k v) (k + 1) vs

/-- Consecutive reads from key `k`. -/
def smRange [Inhabited α] (m : SMap α) (k : Nat) : Nat → List α
  | 0 => []
  | n + 1 => smAt m k :: smRange m (k + 1) n

end Sys2Proof.Machine
end

