-- ==== Sys2Proof/Machine/StateFabric.lean ====
section
/-! DEFINITION. What the frame side holds behind its registers (chapters 15 to 18): tables, frames and their copies, what
each output is sending, mail streams, gate lists in force, and the mirror's records. -/

namespace Sys2Proof.Machine

/-- An entry of the MAC table (R332, R335). -/
structure MacEntry where
  mac : Nat
  vid : Nat
  ports : Nat
  isStatic : Bool
  age : Nat
  deriving DecidableEq, Repr, Inhabited

/-- The forwarding tables (R328, R330, R332). -/
structure FwdSt where
  /-- VLAN entries by VID: words 1 to 4. -/
  vlan : SMap (List Word)
  /-- MAC entries by index. -/
  mac : SMap (Option MacEntry)
  /-- Classifier rules by number: rule words 0 to 12; and their hit counts. -/
  rules : SMap (List Word)
  hits : SMap Nat
  deriving DecidableEq, Repr, Inhabited

/-- A frame in the device, or being received (R340). -/
structure Frame where
  id : Nat
  /-- Ingress port, 0 to 49. -/
  inp : Nat
  /-- The octets received so far, from the destination address. -/
  bytes : List Octet
  /-- Its last octet has arrived, or it was cut off; and it was found bad (R367). -/
  ended : Bool
  bad : Bool
  /-- Receive stamps in domains A and B in units of 2^-16 ns, where R267 forms them. -/
  stampA : Option Int
  stampB : Option Int
  /-- Counter C of either domain at its arrival, in units of 2^-40 ns. -/
  cA : Nat
  cB : Nat
  vid : Nat
  prio : Nat
  dei : Nat
  cls : Nat
  /-- Ports its copies leave untagged on. -/
  untag : Nat
  /-- It names its own output and is sent untouched (R338). -/
  raw : Bool
  /-- The mirror mark of R331; a stage-1 consumer took it (R326); the pipeline dropped it; a gate dropped it (R80). -/
  marked : Bool
  consumed : Bool
  dropped : Bool
  gateDrop : Bool
  /-- It was to leave some output as mail. -/
  mail : Bool
  /-- Its charge in its depot's coach memory: cells, of them from the shared pool, from the headroom. -/
  cells : Nat
  pool : Nat
  head : Nat
  deriving DecidableEq, Repr, Inhabited

/-- Where a copy is: in its queue, in the slot of its output, on the line, or preempted on the line. -/
inductive Place where
  | queued | slot | line | cut
  deriving DecidableEq, Repr, Inhabited

/-- A copy entry (R340). -/
structure Copy where
  id : Nat
  frame : Nat
  inp : Nat
  out : Nat
  cls : Nat
  mail : Bool
  /-- It lies in the mail store; else in a depot queue. -/
  store : Bool
  /-- Its charge: in the virtual output queue, or from reservation, shared pool and headroom of its depot queue. -/
  cells : Nat
  rsv : Nat
  shr : Nat
  hdr : Nat
  /-- Mail: sequence number, target on counter C of domain `dom` in units of 2^-40 ns (R348, R369). -/
  seq : Nat
  target : Nat
  dom : Nat
  fetched : Bool
  late : Bool
  /-- RSQ_WAITS has counted it. -/
  waited : Bool
  /-- 0, or the place of its promotion among promotions (R364). -/
  promoted : Nat
  /-- Cycle of its admission. -/
  adm : Nat
  place : Place
  deriving DecidableEq, Repr, Inhabited

/-- The buffers (chapter 16). -/
structure BufSt where
  /-- Frames, oldest first. -/
  frames : List Frame
  /-- Copies, in the order of their admission. -/
  copies : List Copy
  nextId : Nat
  /-- The siding timer of each output: cycles counted, and the cycle it last ran from. -/
  timer : SMap (Option (Nat × Nat))
  deriving DecidableEq, Repr, Inhabited

/-- A mail stream at the resequencer (R376): the next number due and the numbers released ahead of it. -/
structure Stream where
  next : Nat
  released : List Nat
  deriving DecidableEq, Repr, Inhabited

/-- What an output sends now (R368, R373). -/
structure Tx where
  copy : Nat
  /-- The cycle its present fragment began in, the octets of its earlier fragments, and how often it was preempted. -/
  start : Nat
  sent : Nat
  preempts : Nat
  /-- It is to end stomped (R367). -/
  stomp : Bool
  /-- Its transmit stamps in domains A and B. -/
  stampA : Int
  stampB : Int
  deriving DecidableEq, Repr, Inhabited

/-- One output of the scheduler. -/
structure SchOut where
  tx : Option Tx
  cut : Option Tx
  gp : Nat
  /-- Pause frames that wait for the end of a frame (R351): 1 stop, 0 go. -/
  pauses : List Nat
  /-- The gate list in force: BASE and CYCLE in ns (R379); and the scheduled change: its time, LEN, BASE, CYCLE. -/
  base : Nat
  cycle : Nat
  change : Option (Nat × Nat × Nat × Nat)
  deriving DecidableEq, Repr, Inhabited

/-- The scheduler (chapter 17). -/
structure SchSt where
  outs : SMap SchOut
  /-- Accept pointers of the depots; grant order and turn of the internal outputs (R363). -/
  ap : SMap Nat
  turn : Bool
  /-- Mail streams by (48 × ingress + output) × 8 + class, and their next sequence numbers. -/
  streams : SMap (Option Stream)
  seqs : SMap Nat
  deriving DecidableEq, Repr, Inhabited

/-- The mirror (chapter 18). -/
structure MirSt where
  /-- Records waiting for the ring, oldest first: the octets of a whole slot. -/
  fifo : List (List Octet)
  seq : Nat
  /-- Candidates lost since the previous record of the ring. -/
  lost : Nat
  samples : Nat
  deriving DecidableEq, Repr, Inhabited

end Sys2Proof.Machine
end

