-- ==== Sys2Proof/Machine/StateMgmt.lean ====
section
/-! DEFINITION. What the management side holds behind its registers: the loader, mailboxes, firmware, host
interfaces, the fault collector and the NV store (chapters 02 and 19 to 23). -/

namespace Sys2Proof.Machine

/-- The fused identity of the die and its fuses (R66, R67): they outlive every reset. -/
structure Livery where
  lot : BitVec 32
  die : BitVec 32
  rev : BitVec 32
  uidLo : BitVec 32
  uidHi : BitVec 32
  /-- The fused CRC-32 agrees (R67). -/
  intact : Bool
  secure : Bool
  keySet : BitVec 4
  keyRevoked : BitVec 4
  /-- The 32 octets of each programmed key hash, in slot order. -/
  keyHash : SMap (List Octet)
  deriving DecidableEq, Repr, Inhabited

/-- The stage loader behind its registers (chapter 02). -/
structure BootSt where
  /-- Strap pins as they stand: BOOT_SRC in [9:8], IMG_SEL in [6], ADDR in [5:0] (R48). -/
  straps : Nat
  /-- RESET_N is held low. -/
  held : Bool
  /-- The root runs (R49). -/
  root : Bool
  /-- The loading interface: the one master that may write GLB_BOOT_CTRL and GLB_BOOT_DATA (R52, R65). -/
  loading : Option Master
  /-- The image octets received in this load, in order. -/
  image : List Octet
  /-- Words waiting in the host FIFO, oldest first (R51). -/
  fifo : List Word
  /-- The header has been checked. -/
  header : Bool
  /-- A slot has already been tried since the last reset or RESTART (R64). -/
  tried : Bool
  /-- QSPI read command chosen: 1-4-4 fast read (R50). -/
  fast : Bool
  /-- Octet offset of the next segment, segments applied, and entries of the current segment already applied. -/
  pos : Nat
  segs : Nat
  entry : Nat
  /-- The privilege map of the image, bits as R60, and whether one was found. -/
  privMap : Option Nat
  /-- The extension area filled by RAM_LOAD (R57), by octet. -/
  ext : SMap Octet
  /-- Ranges of the extension area that RAM_LOAD filled: offset and octets (R440). -/
  filled : List (Nat × Nat)
  /-- The load in progress reads QSPI flash. -/
  qspi : Bool
  /-- The loader waits at a WAIT entry whose condition does not hold yet (R57). -/
  waiting : Bool
  /-- The cycle in which the root began to run after the last reset. -/
  start : Nat
  deriving DecidableEq, Repr, Inhabited

/-- A message in a mailbox queue (R419, R420). -/
structure Msg where
  opcode : Nat
  tag : Nat
  data : List Word
  seq : Nat
  epoch : Nat
  deriving DecidableEq, Repr, Inhabited

/-- One mailbox: the queues into each end (0 the C end, inbound; 1 the H end, outbound) and their post sequences. -/
structure MbxSt where
  inbound : List Msg
  outbound : List Msg
  inSeq : Nat
  outSeq : Nat
  deriving DecidableEq, Repr, Inhabited

/-- A command coachman A has taken and not answered yet (R433), or a message it has still to post (R434). -/
structure Taken where
  opcode : Nat
  tag : Nat
  data : List Word
  /-- It is an event message (R456). -/
  event : Bool
  deriving DecidableEq, Repr, Inhabited

/-- The firmware (chapter 21). -/
structure FwSt where
  /-- The request of each mailbox being carried out. -/
  taken : SMap (Option Taken)
  /-- Responses and events waiting for room in the C end's queue, oldest first (R434). -/
  replies : SMap (List Taken)
  /-- Mailbox the rotation looks at next. -/
  turn : Nat
  /-- Event masks (R439), and the event sequence of each mailbox (R456). -/
  mask : SMap Nat
  evSeq : SMap Nat
  /-- RESET and power requests waiting for their responses to be released (R438), oldest first: mailbox, tag, and what:
  0 a reset, else 1 + 16 × target + mask. -/
  deferred : List (Nat × Nat × Nat)
  /-- Cores powered down (R427): bit 0 coachman A, bit 1 coachman B. -/
  down : Nat
  /-- Restarts of each core in the last 60 s: times in time-base cycles, newest first (R483). -/
  restarts : SMap (List Nat)
  /-- The mailbox whose HOT_SAVE command coachman B is carrying out (R436). -/
  passed : Option Nat
  /-- The channel whose run the request of a mailbox waits for (R448). -/
  gauge : SMap (Option Nat)
  deriving DecidableEq, Repr, Inhabited

/-- What leaves the device. -/
inductive OutKind where
  /-- A frame on a port: port; 1 if stomped. -/
  | frame
  /-- A PAUSE or PFC frame of the port. -/
  | pause
  /-- A verify or respond mPacket of 802.3br. -/
  | mpacket
  | hello | coupling | ptp | esmc | announce | todLine
  /-- A write to host memory: address; 0 packet ring, 1 mirror. -/
  | hostWrite
  | msix
  /-- A transfer on an I2C bus. -/
  | i2c
  /-- A Clause 37 exchange or a training restart. -/
  | an
  /-- A call of code in the extension area. -/
  | call
  /-- A read command on the QSPI bus (R50): command, address, data lanes, SCK in MHz. -/
  | qspi
  deriving DecidableEq, Repr, Inhabited

/-- One thing that left the device: its unit number, the numbers that describe it, and its octets. -/
structure Emission where
  kind : OutKind
  unit : Nat
  nums : List Int
  bytes : List Octet
  deriving DecidableEq, Repr, Inhabited

/-- What an access gave its master (R11, R473). -/
inductive Reply where
  /-- Nothing has been answered, or the access was never performed. -/
  | none
  /-- A read answered, with its word. -/
  | data (w : Word)
  /-- A write answered. -/
  | ok
  /-- An error response. -/
  | error
  deriving DecidableEq, Repr, Inhabited

/-- The host interfaces (chapter 22). -/
structure HifSt where
  /-- The last answer each master had, by master number. -/
  reply : SMap Reply
  /-- Shadows of multi-word values: key 16 × lowest address + master, the words above the lowest (R464). -/
  shadow : SMap (List Word)
  /-- The I2C address that follows the last word (R460). -/
  i2cNext : Nat
  /-- The answers to the DWORDs of the last PCIe request, in order (R461). -/
  completion : List Reply
  /-- JTAG: data of the last read, error flag of the last access, the 58-bit data register, the cycle of the last access. -/
  jtagData : Word
  jtagErr : Bool
  jtagDr : Nat
  jtagAt : Option Nat
  /-- The PCIe link is up. -/
  pcieUp : Bool
  /-- Causes whose MSI-X message is held or pending to be sent (R472). -/
  msixHeld : Nat
  deriving DecidableEq, Repr, Inhabited

/-- A fault entry (R478). -/
structure FaultEntry where
  w0 : Word
  w1 : Word
  w2 : Word
  w3 : Word
  deriving DecidableEq, Repr, Inhabited

/-- A fault as a block reports it (R474): source, instance, and the access it came from: master, whether it was a write, address. -/
structure FaultReport where
  src : Nat
  inst : Nat
  acc : Option (Master × Bool × Nat)
  deriving DecidableEq, Repr, Inhabited

/-- The fault collector behind its registers (chapter 23). -/
structure FltSt where
  /-- Faults reported in this cycle, which the collector logs as it ends (R475, R479). -/
  heard : List FaultReport
  /-- RAM log, newest first (R481). -/
  log : List FaultEntry
  seq : Nat
  /-- Hot tail, newest first (R482). -/
  tail : List FaultEntry
  /-- NV event log (R482): place of the open page in the ring, its SEQ, and its entries, newest first. -/
  page : Nat
  pageSeq : Nat
  pageEntries : List FaultEntry
  /-- The RESET reaction in progress and the CAUSE it will give (R476). -/
  resetCause : Option Nat
  /-- That reset is held until every rail is back within its range. -/
  resetHeld : Bool
  /-- FAULT_N is held low by a pulse (R477). -/
  pulse : Bool
  /-- Rails now beyond a limit: bits 6:0 under, 13:7 over (R485). -/
  rails : Nat
  /-- Readings in a row at which each sensor disagreed, and sensors left out (R484). -/
  odd : SMap Nat
  out : Nat
  /-- The warnings are armed: bit 0 high, bit 1 low; 1 means already logged. -/
  warned : Nat
  /-- A temperature has been read since the last reset. -/
  tjSeen : Bool
  deriving DecidableEq, Repr, Inhabited

/-- A commit in progress (R400). -/
structure NvJob where
  /-- Pages still to program, in ascending order; the first is being programmed. -/
  pages : List Nat
  /-- Protection has dropped a page (R411). -/
  lost : Bool
  /-- It was started through NVS_CMD, so its end writes STATUS. -/
  cmd : Bool
  /-- Who waits for it, with a number: 1 model, 2 history, 3 calibration, 4 clear, 5 event log, 6 the command of a mailbox. -/
  why : List (Nat × Nat)
  /-- The cycle in which the first of them began. -/
  start : Nat
  deriving DecidableEq, Repr, Inhabited

/-- The NV store (chapter 19). -/
structure NvsSt where
  /-- The array (R393): an octet that nothing has written reads 0 (R394). -/
  array : SMap Octet
  /-- Groups holding an uncorrectable error, and groups holding a correctable one. -/
  uncorr : List Nat
  corr : List Nat
  /-- The write buffer: page number and octets of each loaded page. -/
  buffer : List (Nat × List Octet)
  job : Option NvJob
  /-- A hot save in progress: cause, and whether it came through NVS_CMD. -/
  save : Option (Nat × Bool)
  /-- The cycle in which it began. -/
  saveStart : Nat
  /-- The hot image in RAM (R404). -/
  hot : SMap Octet
  /-- The half the last save or restore used: 0 none, 1 A, 2 B (R405). -/
  half : Nat
  /-- PFW_N has been taken, and its hot save waits for the operation in progress (R408). -/
  pfwLow : Bool
  deriving DecidableEq, Repr, Inhabited

end Sys2Proof.Machine
end

