-- ==== Sys2Proof/Machine/StateNet.lean ====
section
/-! DEFINITION. What gauges, the 1588 engine, the coupling layer, the ports and the I2C masters hold behind their
registers (chapters 11 to 14). -/

namespace Sys2Proof.Machine

/-- An edge taken for conversion: its time in gauge LSB, the domain time at it in units of 2^-51 ns (R253), and whether no
start edge was lost between it and the one taken before it (R261). -/
structure Taken1 where
  t : Nat
  stamp : Int
  clean : Bool
  deriving DecidableEq, Repr, Inhabited

/-- One gauge channel behind its registers. -/
structure GauSt where
  /-- Start and stop edges being converted. -/
  conv : Option Taken1
  sconv : Option Taken1
  /-- Last taken start and stop edges (dead time, hold-off, thermal cut). -/
  lastStart : Option Nat
  lastStop : Option Nat
  /-- Last start and stop edges seen, taken or not. -/
  seenStart : Option Nat
  seenStop : Option Nat
  /-- A start edge has been lost since the last taken one (R261). -/
  lost : Bool
  /-- The open tollgate: its start edge and the W it opened with, in gauge LSB (R257, R262). -/
  gate : Option (Taken1 × Nat)
  /-- The latest taken stop edge, and whether it has been paired (R257). -/
  stop : Option Taken1
  paired : Bool
  /-- An interval decided but not written yet: its value in units of 2^-51 ns, and the time at which it is complete. -/
  ivl : Option (Int × Nat)
  /-- The run in progress: quantity and N; its results in units of 2^-24 ns, newest first (R260). -/
  run : Option (Nat × Nat)
  results : List Int
  /-- The last start stamp of a period run (R261). -/
  prevStamp : Option Int
  /-- Start edges seen since the channel began afresh, and the last stamps, newest first: which of them each took and when
  (R267, R296). -/
  count : Nat
  marks : List (Nat × Nat)
  /-- Completed results that wait to be passed on, oldest first, at most four: the edge and the time of completion (R254). -/
  held : List (Nat × Nat)
  /-- When the last result was passed on (R254). -/
  passed : Option Nat
  deriving DecidableEq, Repr, Inhabited

/-- An entry of the transmit stamp queue (R275). -/
structure TxStamp where
  port : Nat
  domainNum : Nat
  msgType : Nat
  dom : Nat
  seqId : Nat
  stamp : Int
  deriving DecidableEq, Repr, Inhabited

/-- A master heard of by Announce messages: its port, the grandmaster it names with clockClass, clockAccuracy and
offsetScaledLogVariance as one number, priorities and stepsRemoved, and the cycles of its last Announce messages. -/
structure Foreign where
  src : Nat
  gm : Nat
  quality : Nat
  prio1 : Nat
  prio2 : Nat
  steps : Nat
  seen : List Nat
  deriving DecidableEq, Repr, Inhabited

/-- One session behind its registers (chapter 12, R449). Times in units of 2^-16 ns. -/
structure SessSt where
  /-- A two-step Sync awaiting its Follow_Up: sequenceId, correctionField, t2. -/
  pend : Option (Nat × Int × Int)
  /-- t1 and t2 of the last Sync. -/
  sync : Option (Int × Int)
  /-- A Sync, and a completed exchange, since the last entry to LISTEN or TIMEOUT. -/
  seen : Bool
  exch : Bool
  /-- Delay_Req or Pdelay_Req sent and not answered, oldest first: sequenceId and stamp. -/
  reqs : List (Nat × Int)
  /-- A two-step Pdelay_Resp awaiting its follow-up: sequenceId, t2 with its corrections, t4. -/
  presp : Option (Nat × Int × Int)
  /-- The last values of mpd_k, newest first. -/
  mpds : List Rat
  /-- Next sequenceIds of Sync and of Delay_Req or Pdelay_Req. -/
  syncSeq : Nat
  reqSeq : Nat
  /-- Peer, Ethernet destination, and IP addresses with DSCP and TTL, as the session commands set them (R449). -/
  peer : Nat
  l2 : List Word
  ip : List Word
  /-- What the BMCA of coachman A holds (R283): the masters heard, the parent it chose (0: none), the cycle the session began or
  was bound in, the grants of unicast messages with the cycles they end in, and the next sequenceId of Announce and Signaling. -/
  foreign : List Foreign
  parent : Nat
  since : Nat
  grants : List (Nat × Nat)
  sigSeq : Nat
  deriving DecidableEq, Repr, Inhabited

/-- The PTP clock of one domainNumber (R450). -/
structure PtpInst where
  words : List Word
  deriving DecidableEq, Repr, Inhabited

/-- The 1588 engine behind its registers. -/
structure TseSt where
  sess : SMap SessSt
  /-- Transmit stamp queue, oldest first. -/
  queue : List TxStamp
  /-- Residences held by egress port, newest first: source identity, sequenceId, residence, cycle (R276). -/
  resid : SMap (List (Nat × Nat × Int × Nat))
  /-- Calibrated latency by path (2 × port, transmit even), in units of 2^-16 ns; none while the nominal one stands. -/
  lat : SMap (Option Rat)
  /-- The latency last held, which stamps use while CAL_OK reads 0 (R270). -/
  held : SMap (Option Rat)
  /-- The QL rank last sent on each port (R285). -/
  sentRank : SMap Nat
  insts : SMap (Option PtpInst)
  deriving DecidableEq, Repr, Inhabited

/-- One coupling port behind its registers (chapter 13). Times in units of 2^-16 ns. -/
structure CplPort where
  /-- Next SEQ to send; SEQ of the previous valid message, and the same while the port has not left AGREE and COUPLED since. -/
  txSeq : Nat
  rxSeq : Option Nat
  heard : Option Nat
  /-- The last 32 departure and arrival stamps by SEQ, newest first (R296). -/
  dep : List (Nat × Int)
  arr : List (Nat × Int)
  /-- The cycles of the newest of each, and of the last change of CAL_OK, RX_NOPHASE or PCS lock (R306). -/
  depAt : Option Nat
  arrAt : Option Nat
  changed : Option Nat
  /-- The far end's departures by SEQ, newest first: t1 of R297. -/
  far : List (Nat × Int)
  mlds : List Rat
  /-- Valid messages in a row in AGREE. -/
  validRun : Nat
  /-- The cycle in which a marker fell due that is not placed yet; the octets of the words of the last message that are not
  placed yet, each with its index (R294). -/
  due : Option Nat
  words : List (Nat × List Octet)
  deriving DecidableEq, Repr, Inhabited

/-- One feed behind its registers (R298, R299): B_f in units of 2^-16 ns / 312,500,000. -/
structure FeedSt where
  bf : Int
  /-- The last offset delivered, and a transfer awaits its first offset. -/
  last : Option Int
  transfer : Bool
  deriving DecidableEq, Repr, Inhabited

/-- The coupling engine behind its registers. -/
structure CplSt where
  ports : SMap CplPort
  feeds : SMap FeedSt
  /-- The GM_ID sent (R301); and H, UPSTREAM_ID, ACC_ERR and GM_ID as they stood when the timing loop entered holdover. -/
  gmId : Nat
  held : Option (Nat × Nat × Nat × Nat)
  deriving DecidableEq, Repr, Inhabited

/-- One port behind its registers (chapter 14). -/
structure PortSt where
  /-- An UP port is not clear (R313). -/
  lost : Bool
  /-- The frame being received. -/
  rx : Option Nat
  /-- Verify mPackets sent since verification began (R318). -/
  verifySent : Nat
  /-- The rate REFM and the TSE last saw (R94). -/
  rate : Nat
  /-- The base page advertised in the last Clause 37 exchange; the partner's showed no full duplex (R315). -/
  adv : Nat
  half : Bool
  /-- The last byte a module poll read (R325). -/
  lastByte : Option Octet
  /-- The cycle of the last restarting write (R310, R320). -/
  restarted : Option Nat
  deriving DecidableEq, Repr, Inhabited

/-- Who asked for a transfer of an I2C master (R324): the host, a module poll, a MODULE_READ command of a mailbox, the sprag for its
sensor (`failed`: it has counted as failed already, R167). -/
inductive I2cWho where
  | host | poll (p : Nat) | command (mb : Nat) | sensor (failed : Bool)
  deriving DecidableEq, Repr, Inhabited

/-- A transfer (R323): who asked; multiplexer address and channel; write; target; pointer; bytes. -/
structure I2cJob where
  who : I2cWho
  mux : Option (Nat × Nat)
  write : Bool
  addr : Nat
  pointer : Option Nat
  len : Nat
  deriving DecidableEq, Repr, Inhabited

/-- One I2C master (R323, R324): the transfer on the bus, the sensor read, the host transfer and the polls that wait. -/
structure I2cSt where
  now : Option I2cJob
  sensor : Bool
  waits : Option I2cJob
  polls : List Nat
  deriving DecidableEq, Repr, Inhabited

end Sys2Proof.Machine
end

