-- ==== Sys2Proof/Machine/StateTiming.lean ====
section
/-! DEFINITION. What the timing side holds behind its registers: clocks, power, references, selection, loops,
holdover, axles, time and outputs (chapters 03 to 10 and 24). -/

namespace Sys2Proof.Machine

/-! ### Clocks (chapter 03) and power (chapter 24) -/

/-- The power ladder (R42, R489). -/
inductive PowerState where
  | run | lean | keep | vigil | dormant
  deriving DecidableEq, Repr, Inhabited

/-- A domain source switch in progress or waiting (R81 to R85): domain as CGU_SWITCH_STATUS.DOMAIN, old and new source. -/
structure Switch where
  dom : Nat
  old : Nat
  new : Nat
  /-- The power governor asked for it (R81, R84). -/
  gov : Bool
  deriving DecidableEq, Repr, Inhabited

/-- A 100 µs window of the XO monitor (R72, R75): activity throughout it, the frequency measured in Hz, the IOSC count. -/
structure XoWindow where
  active : Bool
  hz : Nat
  count : Nat
  deriving DecidableEq, Repr, Inhabited

/-- What a pin of the device shows. -/
inductive PinLevel where
  | low | high
  /-- It follows the waveform of its source cycle by cycle (R88). -/
  | source
  /-- It is not driven. -/
  | highZ
  deriving DecidableEq, Repr, Inhabited

/-- Chapter 03 behind its registers. -/
structure CguSt where
  /-- IOSC count of the last monitor window (R72, R86). -/
  lastCount : Nat
  /-- The reference count the monitor recorded (R72). -/
  refCount : Nat
  /-- The last ten monitor windows, newest first (R75). -/
  windows : List XoWindow
  /-- Windows of 100 µs for which XO_GOOD has read 1 without a break (R75). -/
  goodRun : Nat
  /-- AX0 coasts between an XO loss and its lock to IOSC (R73). -/
  coasting : Bool
  /-- A return to the XO has been taken and AX0 has not locked yet (R75). -/
  returning : Bool
  /-- Switches in progress, at most one a domain (R85). -/
  busy : List Switch
  /-- Switches requested for a domain that is busy, in order (R85). -/
  waiting : List Switch
  /-- Switches to be asked for again 1 ms after an abandon (R84, R202). -/
  retry : List Switch
  /-- CLKOUT: source in force and divider in force (R87 to R89). -/
  clkSrc : Nat
  clkDiv : Nat
  /-- CLKOUT: source cycles since its last rising edge, and the part of a source cycle that has passed (R88). -/
  clkPos : Nat
  clkFrac : Rat
  /-- The lane reference in force: 0 the root fallback, 1 AX1 (R202). -/
  laneSrc : Nat
  deriving DecidableEq, Repr, Inhabited

/-- Chapter 24 behind its registers. -/
structure PwrSt where
  state : PowerState
  /-- The state an entry or exit in progress leads to. -/
  target : Option PowerState
  /-- The state an entry came from (R492). -/
  from_ : PowerState
  /-- The wake mask in force (R493). -/
  mask : Nat
  /-- A wake taken while an entry was in progress: its cause (R494). -/
  heldWake : Option Nat
  /-- The device stays below RUN until a request for RUN is taken (R497, R501). -/
  lowHold : Bool
  /-- The cycle in which TRIP last entered LEAN (R502). -/
  trip : Option Nat
  /-- Governor: readings in a row at each entry condition, and below each leave limit. -/
  upRun : List Nat
  downRun : List Nat
  /-- Quads the governor gated, newest first (R496). -/
  shed : List Nat
  /-- Blocks the governor gates, for the ladder and in SHED, as CGU_GATE bits (R77, R489, R496). -/
  gates : Nat
  /-- Programs of each page in the current wear period (R500). -/
  wear : SMap Nat
  /-- STAGING has ended, so the bucket runs (R500). -/
  bucketOn : Bool
  /-- Entry to VIGIL or DORMANT (R492): 0 none, 1 a commit ends, 2 a hot save ends, 3 the time base switches, 4 all stopped. -/
  phase : Nat
  /-- An XO loss woke the device from VIGIL (R76): 0 none, 1 activity, 2 frequency. -/
  xoWake : Nat
  /-- Tj as last measured, in 1/256 °C (R484): the axles use it also before the first reading after VIGIL (R197, R205). -/
  die : Int
  deriving DecidableEq, Repr, Inhabited

/-! ### References (chapter 04) -/

/-- One reference behind its registers. -/
structure RefSt where
  /-- The tapped edges in the windows, newest first: the corrected time in gauge LSB, and the periods counted up to it (R101). -/
  edges : List (Int × Int)
  /-- The previous tapped edge that the home gauge took: its time as it came, and the periods counted up to it (R101, R107). -/
  last : Option (Nat × Int)
  /-- Time of the previous tapped edge, taken or not (R100). -/
  seen : Option Nat
  /-- Time of the last sample offered to the loops and selectors (R108, R128, R140). -/
  sampled : Option Nat
  /-- Sum of the residuals subtracted from later samples (R107). -/
  corr : Int
  /-- Start of the present activity (R101). -/
  since : Option Nat
  /-- `y_s` and `y_l` in ppb. -/
  ys : Rat
  yl : Rat
  /-- `y_s` at the 1 s ticks, newest first (R104). -/
  hist : List Rat
  /-- 100 ms ticks of the present wait (R98). -/
  waited : Nat
  /-- Bad pulses in a row (R108). -/
  badRun : Nat
  /-- A qualifying jump or a bad pulse since the last 1 s tick (R105). -/
  jumped : Bool
  bad : Bool
  /-- Conditions that hold now, with the bits of R97. -/
  cond : Nat
  /-- The cycle of the last entry to VOID or FAILED, whose conditions CAUSE gathers (R99, R109). -/
  fell : Option Nat
  deriving DecidableEq, Repr, Inhabited

/-- Time of day behind its registers (R112 to R117). -/
structure TodSt where
  /-- The latest pulse: its time in gauge LSB, and the times of domains A and B at it, in units of 2^-40 ns. -/
  pulse : Option (Nat × Int × Int)
  /-- Labels waiting for the next pulse, oldest first: label and time of its LF (R115). -/
  labels : List (Nat × Nat)
  /-- The previous label (R116). -/
  prev : Option Nat
  /-- Pulses in a row paired with a label one above the previous, and pulses in a row without a pair. -/
  good : Nat
  miss : Nat
  /-- The latest pulse has taken a sentence. -/
  taken : Bool
  deriving DecidableEq, Repr, Inhabited

/-! ### Selection (chapter 05) -/

/-- Why a selector has no choice, as SEL_EVT has reported it (R127, R129): no candidate, MANUAL_REF not qualified, or not so. -/
inductive Lack where
  | candidate | manual | nothing
  deriving DecidableEq, Repr, Inhabited

/-- The decision of one equal-rank group (R123): quality rank and priority, winning cluster, basis. -/
structure Group where
  ql : Nat
  prio : Nat
  win : List Nat
  basis : Nat
  deriving DecidableEq, Repr, Inhabited

/-- One selector behind its registers. -/
structure SelSt where
  active : Option Nat
  /-- The `b` of a changeover in progress. -/
  target : Option Nat
  /-- Edges of `b` and of `a` in the measurement, newest first: time and phase in ns (R131). -/
  bEdges : List (Nat × Rat)
  aEdges : List (Nat × Rat)
  /-- `a` gave no sample at some point, so R132 measures. -/
  aLost : Bool
  /-- Build-out B, in units of 2^-16 ns / 312,500,000, and the alignment offset O in force, in units of 2^-16 ns (R137). -/
  b : Int
  o : Int
  groups : List Group
  evaluated : List Nat
  /-- Ticks in a row inside its winning cluster, by reference (R125). -/
  inside : SMap Nat
  /-- References that have been active since reset or since the loop last entered FREERUN (R134). -/
  had : List Nat
  /-- The input last taken (R132), in ns. -/
  held : Rat
  /-- Followed references: time and phase of the last sample (R140). -/
  follow : SMap (Option (Nat × Rat))
  /-- Why there is no choice (R127, R129). -/
  lack : Lack
  /-- The cycle in which the changeover in progress was asked for (R120, R130). -/
  began : Option Nat
  /-- A 100 ms tick of this cycle asks for the comparison, which is made as the cycle ends (R121, R130). -/
  compare : Bool
  deriving DecidableEq, Repr, Inhabited

/-! ### Loops (chapter 06) and holdover (chapter 07) -/

/-- The ramp generator (R159 to R161). -/
structure Ramp where
  busy : Bool
  freq : Bool
  /-- Δ in units of 2^-16 ns, or y_t in units of 2^-48. -/
  goal : Int
  /-- S as written. -/
  rate : Nat
  /-- The r reached, in units of 2^-16 ns / 1,562,500,000. -/
  r : Int
  deriving DecidableEq, Repr, Inhabited

/-- One loop behind its registers. -/
structure LoopSt where
  /-- Frequency correction relative to the root, and the integrator (R143). -/
  y : Rat
  integ : Rat
  /-- The shadow counter of DP2 and DP3 (R139), in units of 2^-40 ns. -/
  shadow : Nat
  /-- The increment the shadow counter advances by (R147). -/
  inc : Nat
  /-- The loop has been in LOCKED since it last left OFF or FREERUN (R156). -/
  wasLocked : Bool
  /-- Inputs taken in the present interval, newest first, in ns. -/
  samples : List Rat
  /-- The cycle of the last sample its source has given it, taken or not, with SRC 1 to 4 (R156). -/
  heard : Option Nat
  /-- The next update is the first after a first selection or a first sample (R153). -/
  fresh : Bool
  /-- Seconds of LOCK_TIME already covered (R154). -/
  lockFor : Option Rat
  /-- Updates in a row beyond UNLOCK_THR. -/
  unlockRun : Nat
  /-- The last phase error, in ns. -/
  e : Rat
  ramp : Ramp
  /-- The slope a phase ramp adds to y in HOLDOVER and FREERUN (R159). -/
  slope : Rat
  /-- The frequency-ramp offset in force (R160). -/
  yt : Rat
  /-- A step request not yet complete, by axle bit (R153). -/
  stepping : Nat
  /-- The state as the outputs see it, one cycle later (R220). -/
  shown : Nat
  deriving DecidableEq, Repr, Inhabited

/-- The holdover values of one loop (R172 to R178). -/
structure HoldLoop where
  bl : Rat
  uy : Rat
  e0 : Rat
  theta : Rat
  thetaF : Rat
  tau : Nat
  tEntry : Rat
  /-- LOCKED updates: their time in s and y less the model's value then, newest first (R172). -/
  track : List (Rat × Rat)
  /-- The loop has left HOLDOVER since reset or enable (R175). -/
  left : Bool
  /-- The first value after entry has not been reached yet (R173). -/
  entering : Bool
  /-- The cycle of the last expiry (R177). -/
  expired : Option Nat
  deriving DecidableEq, Repr, Inhabited

/-- One valid observation: the device's own time in s, domain A time in days, temperature in °C where the sensor is in use, y_obs. -/
structure Obs where
  sec : Rat
  day : Rat
  temp : Option Rat
  y : Rat
  deriving DecidableEq, Repr, Inhabited

/-- The coefficients and uncertainties of R163 and R166. -/
structure Model where
  tRef : Rat
  y0 : Rat
  a : Rat
  c1 : Rat
  c2 : Rat
  tempRef : Rat
  terms : Nat
  uy0 : Rat
  ua : Rat
  uT : Rat
  deriving DecidableEq, Repr, Inhabited

/-- The sprag behind its registers. -/
structure HoldSt where
  model : Model
  obs : List Obs
  /-- Learning time in minutes, and minutes of new observations after a restore. -/
  learnMin : Nat
  newMin : Nat
  /-- The values a restore brought (R185). -/
  prior : Option Model
  /-- T_ref has been set since the model was last cleared (R163). -/
  refSet : Bool
  /-- The 60 s in progress: learning loop, what LEARN_SRC = 0 makes it (R165), updates and their sum, broken, temperatures and
  their sum. -/
  learner : Option Nat
  autoLearner : Option Nat
  ySum : Rat
  yCount : Nat
  broken : Bool
  tSum : Rat
  tCount : Nat
  /-- Good readings of the last ten minutes, newest first, each with its time in s (R168). -/
  temps : List (Rat × Rat)
  /-- The last good reading and its time in s (R174). -/
  tLast : Rat
  tAt : Rat
  failRun : Nat
  /-- A good reading has come since the last 1 s tick (R174). -/
  goodTick : Bool
  /-- A clear is in progress (R170). -/
  clearing : Bool
  /-- Learning minutes since the last automatic calibration word (R180). -/
  calMin : Nat
  /-- A calibration word whose commit is in progress (R181), in units of 2^-48. -/
  calNext : Option Int
  /-- Hourly history entries not yet committed: octets (R183), newest last, and the sums of the hour in progress. -/
  history : List (List Octet)
  histSum : Rat
  histTemp : Rat
  histCount : Nat
  histMin : Nat
  histPage : Nat
  /-- The stage and model at entry to VIGIL (R179). -/
  vigilStage : Nat
  /-- Domain A time, in units of 2^-40 ns, at VIGIL entry (R179). -/
  vigilAt : Nat
  loops : SMap HoldLoop
  deriving DecidableEq, Repr, Inhabited

/-! ### Axles (chapter 08), time (chapter 10), outputs (chapter 09) -/

/-- One axle behind its registers. -/
structure AxlSt where
  /-- Axle time in units of 2^-48 / 5 ns (R189). -/
  q : Int
  /-- Injection edges of the last cycle, in 1/512 of a root period from its beginning (R189). -/
  inj : List Nat
  /-- Delay-locked mode is left: injection is engaged (R187). -/
  injecting : Bool
  /-- Squelch that is asserted in the next cycle (R201). -/
  sqDue : Bool
  /-- The frequency word in force, in units of 2^-48. -/
  word : Int
  /-- The jump in progress ends at LOCKED (R196). -/
  jumping : Bool
  /-- The step was asked for by a loop, which awaits completion (R195). -/
  forLoop : Bool
  /-- The low word of a frequency word a host has written (R192). -/
  wordLo : Word
  /-- R of each band-table entry in units of 2^-46; 0 stands for the reset value R = 2 (R208). -/
  ratios : SMap Nat
  deriving DecidableEq, Repr, Inhabited

/-- One domain (R227 to R235): C in units of 2^-40 ns, E in seconds. -/
structure TimDom where
  c : Nat
  e : Nat
  inc : Nat
  /-- A change of E by R234 that waits for the boundary. -/
  shift : Option Int
  deriving DecidableEq, Repr, Inhabited

/-- Time behind its registers. -/
structure TimSt where
  a : TimDom
  b : TimDom
  /-- The offset accumulator in units of 2^-16 ns / 312,500,000 (R241). -/
  acc : Int
  /-- The targets in force, in units of 2^-16 ns. -/
  tgtA : Int
  tgtB : Int
  /-- The SRC in force last cycle (R246). -/
  src : Nat
  /-- A second boundary of domain A in the present cycle asks for a snapshot at its end (R240). -/
  snapDue : Bool
  deriving DecidableEq, Repr, Inhabited

/-- One output behind its registers. -/
structure OutSt where
  /-- Divider, delays and phase in force (R213 to R218). -/
  div : Nat
  coarse : Nat
  fine : Nat
  phase : Int
  /-- What it runs from and how, with SRC 3 the root edge it counts from (R209, R213). -/
  src : Nat
  pulse : Bool
  base : Nat
  /-- The cycle in which the last condition of its start was met (R219). -/
  ready : Option Nat
  /-- Source edges before its next rising edge, and before the falling edge that is due (R213). -/
  rise : Nat
  fall : Option Nat
  /-- Axle time to its next boundary and from its last trailing edge, in units of 2^-32 ns (R216, R218). -/
  lead : Int
  trail : Int
  /-- A pulse whose trailing edge is due. -/
  inside : Bool
  /-- It is high before its delay line, and it stops at its next falling edge (R221). -/
  high : Bool
  stopping : Bool
  /-- Its transitions of the last cycle and those that fall later, in ns from the cycle's beginning; the level they left. -/
  wave : List (Rat × Bool)
  late : List (Rat × Bool)
  level : Bool
  deriving DecidableEq, Repr, Inhabited

end Sys2Proof.Machine
end

