-- ==== Sys2Proof/Machine/State.lean ====
section
/-! DEFINITION. The state of the block as plain data: the register file (every register of every table of the spec),
what the chapters of the spec keep behind the registers, what has left the device, and the waiting commands. -/

namespace Sys2Proof.Machine

/-- The whole device. -/
structure State where
  /-- The register file by byte address; an unlisted register holds its Reset value (R10). -/
  regs : SMap Word
  /-- Time-base cycles counted since the root first ran: the device's own time. -/
  cyc : Nat
  livery : Livery
  boot : BootSt
  cgu : CguSt
  pwr : PwrSt
  refs : SMap RefSt
  tod : TodSt
  sels : SMap SelSt
  loops : SMap LoopSt
  hold : HoldSt
  axles : SMap AxlSt
  tim : TimSt
  outs : SMap OutSt
  gauges : SMap GauSt
  tse : TseSt
  cpl : CplSt
  ports : SMap PortSt
  i2c : SMap I2cSt
  fwd : FwdSt
  buf : BufSt
  sch : SchSt
  mir : MirSt
  nvs : NvsSt
  mbx : SMap MbxSt
  fw : FwSt
  hif : HifSt
  flt : FltSt
  /-- What has left the device, newest first. The model's own field. -/
  out : List Emission
  /-- How many free values have been used. The model's own field. -/
  free : Nat
  /-- The commands that wait, oldest first. -/
  pending : List Instr
  deriving DecidableEq, Repr

/-- Why a command stops the block. No rule of the spec stops it, so no meaning raises one; safe (DESIGN CHOICE, log entry 75). -/
inductive Fault where
  /-- Reserved for a happening the spec says destroys the device; raised by nothing. -/
  | destroyed
  deriving DecidableEq, Repr

/-- Why a command has no meaning in the model (DESIGN CHOICE, log entry 75). -/
inductive Refusal where
  /-- A command whose meaning is not written; raised by its arm of the dispatch; safe, since nothing is claimed of it. -/
  | notModelled (mnemonic : String)
  deriving DecidableEq, Repr

/-- A place of a repeated register: does the offset `off` from the base fall on one of its rows? -/
def rowHit : List (Nat × Nat) → Nat → Bool
  | [], off => off == 0
  | (stride, count) :: ds, off => decide (off / stride < count) && rowHit ds (off % stride)

/-- The row of a list that holds the register at address `a`. -/
def findRow : List RegRow → Nat → Option RegRow
  | [], _ => none
  | r :: rs, a => if r.base ≤ a && rowHit r.dims (a - r.base) then some r else findRow rs a

/-- The blocks of the address map (R26). -/
inductive Block where
  | glb | cgu | refm | sel | dpl | hold | axl | out | tim | gau | tse | cpl | prt | fwd | buf | sch | mir | nvs | mbx | hif | flt | pwr
  deriving DecidableEq, Repr, Inhabited

/-- The block whose range holds the address (R26, R27). -/
def blockOf (a : Nat) : Option Block :=
  match a / 0x10000 with
  | 0x00 => some .glb | 0x01 => some .cgu | 0x02 => some .refm | 0x03 => some .sel | 0x04 => some .dpl
  | 0x05 => some .hold | 0x06 => some .axl | 0x07 => some .out | 0x08 => some .tim | 0x09 => some .gau
  | 0x0A => some .tse | 0x0B => some .cpl | 0x10 => some .prt | 0x11 => some .prt | 0x12 => some .prt
  | 0x20 => some .fwd | 0x21 => some .fwd | 0x22 => some .fwd | 0x23 => some .fwd
  | 0x24 => some .buf | 0x25 => some .buf | 0x26 => some .buf | 0x27 => some .buf
  | 0x28 => some .sch | 0x29 => some .sch | 0x2A => some .sch | 0x2B => some .sch
  | 0x2C => some .mir | 0x2D => some .mir | 0x2E => some .mir | 0x2F => some .mir
  | 0x30 => some .nvs | 0x31 => some .mbx | 0x32 => some .hif | 0x33 => some .flt | 0x34 => some .pwr
  | _ => none

/-- The register table of a block. -/
def rowsOf : Block → List RegRow
  | .glb => rowsGLB | .cgu => rowsCGU | .refm => rowsREFM | .sel => rowsSEL | .dpl => rowsDPL | .hold => rowsHOLD
  | .axl => rowsAXL | .out => rowsOUT | .tim => rowsTIM | .gau => rowsGAU | .tse => rowsTSE | .cpl => rowsCPL
  | .prt => rowsPRT | .fwd => rowsFWD | .buf => rowsBUF | .sch => rowsSCH | .mir => rowsMIR | .nvs => rowsNVS
  | .mbx => rowsMBX | .hif => rowsHIF | .flt => rowsFLT | .pwr => rowsPWR

/-- The table row of the register at a byte address (R26). -/
def regRow (a : Nat) : Option RegRow :=
  match blockOf a with
  | none => none
  | some b => findRow (rowsOf b) a

/-- The word a list of fields holds after reset (R10). -/
def resetBits : List FieldRow → Nat
  | [] => 0
  | f :: fs => f.reset * 2 ^ f.lo + resetBits fs

/-- The Reset value of the register at a byte address (R10); 0 where there is none (R9). -/
def resetWord (a : Nat) : Word :=
  match regRow a with
  | none => 0
  | some r => BitVec.ofNat 32 (resetBits r.fields)

/-- The reset increment of R229. -/
def resetInc : Nat := 0x33333333333

/-- A domain at reset (R230). -/
def TimDom.atReset : TimDom := ⟨0, 0, resetInc, none⟩

/-- The livery of a device of this manual before its identity is known: part and revision of R1, everything else 0. -/
def Livery.plain : Livery := ⟨0, 0, 0x48160021, 0, 0, true, false, 0, 0, []⟩

/-- The device right after reset, its loader in WAIT_ROOT with open straps (R46, R47, R62) (DESIGN CHOICE, log entry 3). -/
def State.reset : State where
  regs := [(GLB_LIV_REV, 0x48160021)]
  cyc := 0
  livery := Livery.plain
  boot := default
  cgu := default
  pwr := default
  refs := []
  tod := default
  sels := []
  loops := []
  hold := default
  axles := []
  tim := ⟨TimDom.atReset, TimDom.atReset, 0, 0, 0, 0, false⟩
  outs := []
  gauges := []
  tse := default
  cpl := default
  ports := []
  i2c := []
  fwd := default
  buf := default
  sch := default
  mir := default
  nvs := default
  mbx := []
  fw := { (default : FwSt) with down := 3 }
  hif := default
  flt := default
  out := []
  free := 0
  pending := []

end Sys2Proof.Machine
end

