-- ==== Sys2Proof/Machine/Ops.lean ====
section
/-! DEFINITION. The named operations every meaning is made of: reading and writing registers and their fields, the
hidden state by unit number, what leaves the device, and free values. -/

namespace Sys2Proof.Machine

/-! ### Numbers -/

/-- The low `w` bits of an integer, as a field holds it (R5). -/
def wrapTo (w : Nat) (x : Int) : Nat := (x % (2 ^ w : Nat)).toNat

/-- The signed reading of a `w`-bit field (R5). -/
def signedOf (w : Nat) (n : Nat) : Int := if n < 2 ^ (w - 1) then (n : Int) else (n : Int) - (2 ^ w : Nat)

/-- Nearest integer, ties away from zero. -/
def roundAway (x : Rat) : Int := if x < 0 then -(((-x) * 2 + 1).floor / 2) else (x * 2 + 1).floor / 2

/-- The magnitude of a rational. -/
def ratAbs (x : Rat) : Rat := if x < 0 then -x else x

/-- `x` held between two limits. -/
def clampInt (lo hi x : Int) : Int := if x < lo then lo else if hi < x then hi else x

/-- A count that stops at the largest value of `w` bits. -/
def satInc (w n : Nat) : Nat := if n + 1 < 2 ^ w then n + 1 else 2 ^ w - 1

/-- A move of `x` towards `goal` by at most `d`. -/
def towards (goal d x : Int) : Int := if x < goal then min goal (x + d) else max goal (x - d)

/-- A move of `x` towards `goal` by at most `d`, for rationals. -/
def towardsRat (goal d x : Rat) : Rat :=
  if x < goal then (if goal < x + d then goal else x + d) else (if x - d < goal then goal else x - d)

/-- A rational brought into `[-t/2, t/2)` modulo `t`. -/
def wrapHalf (t x : Rat) : Rat := if t = 0 then x else x - t * ((x / t + 1 / 2).floor : Int)

/-- The value nearest to `near` that equals `x` modulo `t`. -/
def unwrapNear (t near x : Rat) : Rat := if t = 0 then x else near + wrapHalf t (x - near)

/-- Sum and mean of rationals; the mean of none is 0. -/
def ratSum (xs : List Rat) : Rat := xs.foldl (· + ·) 0
def ratMean (xs : List Rat) : Rat := if xs.isEmpty then 0 else ratSum xs / (xs.length : Nat)

/-- Whole square root, one bit a step from the top. -/
def isqrtGo : Nat → Nat → Nat → Nat
  | 0, _, r => r
  | k + 1, n, r => let t := r + 2 ^ k; isqrtGo k n (if t * t ≤ n then t else r)
def isqrt (n : Nat) : Nat := isqrtGo (Nat.log2 n / 2 + 1) n 0

/-- Square root of a rational to 2^-64 (DESIGN CHOICE, log entry 26). -/
def ratSqrt (x : Rat) : Rat := if x ≤ 0 then 0 else (isqrt (x * (2 ^ 128 : Nat)).floor.toNat : Nat) / (2 ^ 64 : Nat)

/-- A rational held to 2^-96 (DESIGN CHOICE, log entry 26). -/
def fine (x : Rat) : Rat := (roundAway (x * (2 ^ 96 : Nat)) : Rat) / (2 ^ 96 : Nat)

/-- Bit `k` of a number. -/
def bitOf (n k : Nat) : Bool := n.testBit k

/-- `n` with bit `k` set or cleared. -/
def putBit (n k : Nat) (b : Bool) : Nat := if b then n ||| 2 ^ k else if n.testBit k then n - 2 ^ k else n

/-- The numbers below `n` whose bit is set. -/
def bitsOf (n : Nat) (count : Nat) : List Nat := (List.range count).filter fun k => n.testBit k



/-! ### Registers -/

/-- The word of a register as it is stored. -/
def State.rd (s : State) (a : Nat) : Word := smGet resetWord s.regs a

/-- The state with a register word stored. -/
def State.wr (s : State) (a : Nat) (w : Word) : State := { s with regs := smSet resetWord s.regs a w }

/-- A field of a word. -/
def getBits (w : Word) (lo width : Nat) : Nat := w.toNat / 2 ^ lo % 2 ^ width

/-- A word with one of its fields replaced. -/
def putBits (w : Word) (lo width v : Nat) : Word :=
  BitVec.ofNat 32 (w.toNat - getBits w lo width * 2 ^ lo + v % 2 ^ width * 2 ^ lo)

/-- A named field as stored. -/
def State.get (s : State) (f : FieldRef) : Nat := getBits (s.rd f.addr) f.lo f.width

/-- A named field read as a signed value (R5). -/
def State.getI (s : State) (f : FieldRef) : Int := signedOf f.width (s.get f)

/-- The state with a named field holding `v`. -/
def State.set (s : State) (f : FieldRef) (v : Nat) : State := s.wr f.addr (putBits (s.rd f.addr) f.lo f.width v)

/-- The state with a named field holding the low bits of an integer. -/
def State.setI (s : State) (f : FieldRef) (v : Int) : State := s.set f (wrapTo f.width v)

/-- Is a one-bit field set? -/
def State.on (s : State) (f : FieldRef) : Bool := s.get f != 0

/-- The state with a one-bit field as given. -/
def State.setB (s : State) (f : FieldRef) (b : Bool) : State := s.set f (if b then 1 else 0)

/-- The state with an event bit set. -/
def State.raise (s : State) (f : FieldRef) : State := s.set f 1

/-- The state with a field counted up, stopping at its largest value. -/
def State.count (s : State) (f : FieldRef) : State := s.set f (satInc f.width (s.get f))

/-- The state with a field counted up by `n`, stopping at its largest value. -/
def State.countBy (s : State) (f : FieldRef) (n : Nat) : State := s.set f (min (2 ^ f.width - 1) (s.get f + n))

/-- The state with a field counted up modulo its width. -/
def State.countMod (s : State) (f : FieldRef) : State := s.set f (s.get f + 1)

/-- A value of 32 + `w` bits held in two registers, low word first (R7). -/
def State.getWide (s : State) (lo hi w : Nat) : Nat := (s.rd lo).toNat + (s.rd hi).toNat % 2 ^ w * 2 ^ 32

/-- The same, read as signed. -/
def State.getWideI (s : State) (lo hi w : Nat) : Int := signedOf (32 + w) (s.getWide lo hi w)

/-- The state with a value of 32 + `w` bits stored in two registers (R7). -/
def State.setWide (s : State) (lo hi w : Nat) (v : Int) : State :=
  let n := wrapTo (32 + w) v
  (s.wr lo (BitVec.ofNat 32 n)).wr hi (BitVec.ofNat 32 (n / 2 ^ 32))

/-- The state as changed when a condition holds (DESIGN CHOICE, log entry 4). -/
def State.when (s : State) (b : Bool) (g : State → State) : State := if b then g s else s

/-- The state changed once for each number of a list, in order. -/
def State.each (s : State) (ks : List Nat) (g : Nat → State → State) : State := ks.foldl (fun t k => g k t) s

/-- Is the device in VIGIL or DORMANT (R489)? -/
def State.asleep (s : State) : Bool := s.pwr.state == .vigil || s.pwr.state == .dormant

/-! ### Units of the hidden state -/

def State.ref (s : State) (n : Nat) : RefSt := smAt s.refs n
def State.setRef (s : State) (n : Nat) (r : RefSt) : State := { s with refs := smPut s.refs n r }
def State.sel (s : State) (l : Nat) : SelSt := smAt s.sels l
def State.setSel (s : State) (l : Nat) (r : SelSt) : State := { s with sels := smPut s.sels l r }
def State.loop (s : State) (l : Nat) : LoopSt := smAt s.loops l
def State.setLoop (s : State) (l : Nat) (r : LoopSt) : State := { s with loops := smPut s.loops l r }
def State.holdLoop (s : State) (l : Nat) : HoldLoop := smAt s.hold.loops l
def State.setHoldLoop (s : State) (l : Nat) (r : HoldLoop) : State :=
  { s with hold := { s.hold with loops := smPut s.hold.loops l r } }
def State.axle (s : State) (n : Nat) : AxlSt := smAt s.axles n
def State.setAxle (s : State) (n : Nat) (r : AxlSt) : State := { s with axles := smPut s.axles n r }
def State.outp (s : State) (n : Nat) : OutSt := smAt s.outs n
def State.setOutp (s : State) (n : Nat) (r : OutSt) : State := { s with outs := smPut s.outs n r }
def State.gauge (s : State) (n : Nat) : GauSt := smAt s.gauges n
def State.setGauge (s : State) (n : Nat) (r : GauSt) : State := { s with gauges := smPut s.gauges n r }
def State.sess (s : State) (k : Nat) : SessSt := smAt s.tse.sess k
def State.setSess (s : State) (k : Nat) (r : SessSt) : State := { s with tse := { s.tse with sess := smPut s.tse.sess k r } }
def State.cplPort (s : State) (p : Nat) : CplPort := smAt s.cpl.ports p
def State.setCplPort (s : State) (p : Nat) (r : CplPort) : State :=
  { s with cpl := { s.cpl with ports := smPut s.cpl.ports p r } }
def State.feed (s : State) (l : Nat) : FeedSt := smAt s.cpl.feeds l
def State.setFeed (s : State) (l : Nat) (r : FeedSt) : State := { s with cpl := { s.cpl with feeds := smPut s.cpl.feeds l r } }
def State.port (s : State) (p : Nat) : PortSt := smAt s.ports p
def State.setPort (s : State) (p : Nat) (r : PortSt) : State := { s with ports := smPut s.ports p r }
def State.bus (s : State) (k : Nat) : I2cSt := smAt s.i2c k
def State.setBus (s : State) (k : Nat) (r : I2cSt) : State := { s with i2c := smPut s.i2c k r }
def State.mb (s : State) (k : Nat) : MbxSt := smAt s.mbx k
def State.setMb (s : State) (k : Nat) (r : MbxSt) : State := { s with mbx := smPut s.mbx k r }

/-- One of the two domains: 0 A, 1 B. -/
def State.dom (s : State) (d : Nat) : TimDom := if d = 0 then s.tim.a else s.tim.b
def State.setDom (s : State) (d : Nat) (t : TimDom) : State :=
  if d = 0 then { s with tim := { s.tim with a := t } } else { s with tim := { s.tim with b := t } }

/-! ### What leaves the device; free values -/

/-- Something leaves the device (DESIGN CHOICE, log entry 72). -/
def State.emit (s : State) (k : OutKind) (unit : Nat) (nums : List Int) (bytes : List Octet) : State :=
  { s with out := ⟨k, unit, nums, bytes⟩ :: s.out }

/-- One more free value is used (DESIGN CHOICE, log entry 2). -/
def State.useFree (s : State) : State := { s with free := s.free + 1 }

/-- Octets of a number, lowest first, and back. -/
def octetsLE : Nat → Nat → List Octet
  | 0, _ => []
  | k + 1, n => BitVec.ofNat 8 n :: octetsLE k (n / 256)
def fromLE : List Octet → Nat
  | [] => 0
  | b :: bs => b.toNat + 256 * fromLE bs
def octetsBE (k n : Nat) : List Octet := (octetsLE k n).reverse
def fromBE (bs : List Octet) : Nat := bs.foldl (fun n b => n * 256 + b.toNat) 0

/-- `n` octets of a list from place `k`. -/
def slice (bs : List Octet) (k n : Nat) : List Octet := (bs.drop k).take n

/-- One step of the reflected CRC-32 of R56. -/
def crcBit : Nat → Nat → Nat
  | 0, c => c
  | k + 1, c => crcBit k (if c % 2 = 1 then c / 2 ^^^ 0xEDB88320 else c / 2)

/-- The IEEE 802.3 CRC-32 of R56. -/
def crc32 (bs : List Octet) : Nat := bs.foldl (fun c b => crcBit 8 (c ^^^ b.toNat)) 0xFFFFFFFF ^^^ 0xFFFFFFFF

/-! ### Port counters -/

def isMulticast (mac : Nat) : Bool := mac.testBit 40
def isBroadcast (mac : Nat) : Bool := mac == 0xFFFFFFFFFFFF

/-- Counter `k` of a port counts `n` more, modulo 2^64 (R322). -/
def State.countPort (p k n : Nat) (s : State) : State :=
  s.setWide (PRT_CNT_LO p k) (PRT_CNT_HI p k) 32 ((s.getWide (PRT_CNT_LO p k) (PRT_CNT_HI p k) 32 + n : Nat) : Int)

/-- A frame has left the port whole (R322). -/
def State.countTx (p octets da : Nat) (s : State) : State :=
  let s := (s.countPort p 13 1).countPort p 14 octets
  if isBroadcast da then s.countPort p 16 1 else if isMulticast da then s.countPort p 15 1 else s

/-- Does what the MAC sends reach the line (R319)? -/
def State.macOpen (s : State) (p : Nat) : Bool := s.get (PRT_CFG_LOOP p) != 3

end Sys2Proof.Machine
end

