-- ==== Sys2Proof/Machine/Events.lean ====
section
/-! DEFINITION. Event messages (R456): what coachman A queues for a mailbox whose mask selects a hardware event. -/

namespace Sys2Proof.Machine

/-- Event opcodes by mask bit (R456). -/
def eventOpcode : Nat → Nat
  | 0 => 0xC101 | 1 => 0xC201 | 2 => 0xC202 | 3 => 0xC301 | 4 => 0xC302 | 5 => 0xC501 | 6 => 0xC701 | 7 => 0xC702
  | 8 => 0xC703 | 9 => 0xC801 | 10 => 0xCB01 | 11 => 0xCB02 | _ => 0xCB03

/-- A queue without its oldest event (DEDUCED, log entry 60). -/
def dropOldestEvent : List Taken → List Taken
  | [] => []
  | t :: ts => if t.event then ts else t :: dropOldestEvent ts

/-- One event queued for one mailbox: at most 64 events, the oldest dropped (R456) (DEDUCED, log entry 60). -/
def State.pushEvent (mb bit : Nat) (words : List Word) (s : State) : State :=
  let q := smAt s.fw.replies mb
  let q := if 64 ≤ (q.filter Taken.event).length then dropOldestEvent q else q
  { s with fw := { s.fw with
      replies := smPut s.fw.replies mb (q ++ [⟨eventOpcode bit, smAt s.fw.evSeq mb, words, true⟩])
      evSeq := smPut s.fw.evSeq mb ((smAt s.fw.evSeq mb + 1) % 256) } }

/-- A hardware event: queued for every mailbox whose mask bit is set (R456) (DEDUCED, log entry 60). -/
def State.queueEvent (bit : Nat) (words : List Word) (s : State) : State :=
  s.each [0, 1, 2, 3] fun mb t => t.when ((smAt t.fw.mask mb).testBit bit) (State.pushEvent mb bit words)

/-- A word put together from fields: value and lowest bit. -/
def packWord (fs : List (Nat × Nat)) : Word := BitVec.ofNat 32 (fs.foldl (fun n f => n + f.1 * 2 ^ f.2) 0)

end Sys2Proof.Machine
end

