-- ==== Sys2Proof/Machine/AxleOps.lean ====
section
/-! DEFINITION. Operations on axles (chapter 08): the frequency word, phase steps, states and squelch; and the state of
the outputs that hang on them (chapter 09). -/

namespace Sys2Proof.Machine

/-! ### Time of an axle -/

/-- R of an entry in force, in units of 2^-46 (R208). -/
def State.axRatio (s : State) (n k : Nat) : Nat :=
  let x := smAt (s.axle n).ratios k
  if x = 0 then 2 ^ 47 else x

/-- The active band-table entry of an axle. -/
def State.axEntry (s : State) (n : Nat) : Nat := s.get (AXL_CFG_ENTRY n)

/-- Where the format of the time counters wraps, 2^48 s, in units of q (R189, R227). -/
def qSpan : Int := 2 ^ 48 * 10 ^ 9 * 5 * 2 ^ 48

/-- Axle time as the generator keeps it: to 2^-32 ns (R189). What is below is carried, so that q and the loop clock do not part
(R190) (DEDUCED, log entry 29). -/
def keptTime (q : Int) : Int := q / (5 * 2 ^ 16)

/-- The count still to be made; the discarded count of R204 is none. -/
def State.stepLeft (s : State) (n : Nat) : Int :=
  if s.on (AXL_STATUS_STEP_BUSY n) then s.getWideI (AXL_STEP_LEFT_LO n) (AXL_STEP_LEFT_HI n) 16 else 0

/-- Does a slew make a step in the coming cycle: RATE of every 256, spread evenly (R195)? -/
def slewNow (rate cyc : Nat) : Bool := cyc * rate / 256 < (cyc + 1) * rate / 256

/-- The step of the coming cycle, towards zero in STEP_LEFT (R195); an axle that is OFF makes none, but in KEEP it does (R203,
R205). -/
def State.slewStep (s : State) (n : Nat) : Int :=
  let left := s.stepLeft n
  let still := s.get (AXL_STATUS_STATE n) == 0 && s.pwr.state != .keep
  if still || s.on (AXL_CFG_STEP_MODE n) || !slewNow (s.get (AXL_STEP_RATE_RATE n)) s.cyc then 0 else left.sign

/-- Axle time now and one time-base cycle on (R189, R193, R203), before it wraps. -/
def State.axleAhead (s : State) (n : Nat) : Int × Int :=
  let a := s.axle n
  (a.q, a.q + 16 * (2 ^ 48 + a.word) + s.slewStep n * 2 ^ 39)

/-- The same in units of 2^-32 ns. -/
def State.axleSpan (s : State) (n : Nat) : Int × Int := (keptTime (s.axleAhead n).1, keptTime (s.axleAhead n).2)

/-- An axle time in tank cycles: tank edge j falls at j × 0.2 ns / R, and every eighth on an injection edge, k × 1.6 ns / R
(R189). -/
def tankAt (r : Nat) (q : Int) : Rat := (q * 5 * (r : Nat) : Int) / (2 ^ 78 : Nat)

/-- The injection edges of a cycle: each at the instant q reaches k × P, placed to the nearest 1/512 of a root period (R189). -/
def injectionEdges (x0 x1 : Rat) : List Nat :=
  let k := (x0 / 8).ceil
  (List.range ((x1 / 8).ceil - k).toNat).map fun i => (roundAway ((8 * ((k : Rat) + (i : Nat)) - x0) / (x1 - x0) * (8192 : Nat))).toNat

/-! ### Outputs -/

/-- The loop that steers axle `n`: its ENABLE reads 1 and its AXLE field names the axle (R30). -/
def State.steerer (s : State) (n : Nat) : Option Nat :=
  [0, 1, 2, 3].find? fun l => s.on (DPL_CFG_ENABLE l) && (s.get (DPL_CFG_AXLE l)).testBit (n - 1)

/-- The axle of an output; none for the root (R209). -/
def State.outAxle (s : State) (n : Nat) : Option Nat :=
  let src := s.get (OUT_CFG_SRC n)
  if src < 3 then some (src + 1) else none

/-- The loop-state condition of R220, on the loop's state as the outputs see it. -/
def State.qualHolds (s : State) (n : Nat) : Bool :=
  let q := s.get (OUT_CFG_QUAL n)
  let st := ((s.outAxle n).bind s.steerer).map fun l => (s.loop l).shown
  q == 0 || (match st with | none => false | some st => st == 2 || (q == 1 && st == 3))

/-- Is the driver of an output off whatever it does: in STAGING, or below LEAN and not the keep output (R223)? -/
def State.outDark (s : State) (n : Nat) : Bool :=
  s.get GLB_STATUS_MODE == 0 || (s.pwr.state == .keep && !(s.on OUT_KEEP_EN && s.get OUT_KEEP_OUTPUT == n))
    || s.pwr.state == .vigil || s.pwr.state == .dormant

/-- Is an output that does not run off rather than held: disabled, or without a divider (R214)? -/
def State.outIdle (s : State) (n : Nat) : Bool :=
  !s.on (OUT_CFG_ENABLE n) || (!s.on (OUT_CFG_MODE n) && s.get (OUT_DIV_DIV n) == 0)

/-- Does the edge generator place the output's edges (R224): in KEEP, and after it until the output returns to its tank?
(DEDUCED, log entry 30) -/
def State.keepActive (s : State) (n : Nat) : Bool :=
  s.on (OUT_CFG_MODE n) && s.get (OUT_STATUS_STATE n) == 2 &&
    (if s.pwr.state == .keep then s.on OUT_KEEP_EN && s.get OUT_KEEP_OUTPUT == n else s.on (OUT_STATUS_KEEP_ACTIVE n))

/-- Is the output held as a squelch holds it: by its axle, or by the SQUELCH reaction (R221, R475)? -/
def State.outSquelched (s : State) (n : Nat) : Bool :=
  (match s.outAxle n with | none => false | some a => s.on (AXL_STATUS_SQUELCH a) && !s.keepActive n)
    || (s.on FLT_STATUS_SQ_ACTIVE && (s.get FLT_SQ_OUTPUTS).testBit n)

/-- Does an output respond as SQ sets: to a squelch, to QUAL, and a keep output in clock mode throughout KEEP (R221, R224)? -/
def State.outHold (s : State) (n : Nat) : Bool :=
  s.on (OUT_STATUS_SQUELCHED n) || s.on (OUT_STATUS_QUAL_HOLD n) || (s.pwr.state == .keep && !s.on (OUT_CFG_MODE n))

/-- All the conditions of R219 hold for an output that is held. -/
def State.outReady (s : State) (n : Nat) : Bool :=
  s.get (OUT_STATUS_STATE n) == 1 && !s.outHold n &&
    (match s.outAxle n with | none => true | some a => s.get (AXL_STATUS_STATE a) == 3)

/-- D of an output: the one in force where it runs, else the one it starts with (R214, R225). -/
def State.outDiv (s : State) (n : Nat) : Nat := if s.get (OUT_STATUS_STATE n) = 2 then (s.outp n).div else s.get (OUT_DIV_DIV n)

/-- An output takes a state (OUT_STATUS.STATE: 0 OFF, 1 HELD, 2 RUNNING). -/
def State.setOutState (n st : Nat) (s : State) : State :=
  (s.when (s.get (OUT_STATUS_STATE n) != st) (·.raise (OUT_EVT_STATE_CHG n))).set (OUT_STATUS_STATE n) st

/-- An output no longer runs. -/
def State.outStop (n st : Nat) (s : State) : State :=
  (s.setOutState n st).setOutp n { s.outp n with
    ready := none, fall := none, inside := false, high := false, stopping := false, late := [], level := false }

/-- An output after anything it depends on has changed (R217, R219 to R221, R223 to R225): a running output that is disabled or
held stops at its next falling edge, at once where it is low; with SQ = 1 it runs on through a hold (DEDUCED, log entry 30). -/
def State.outEval (n : Nat) (s : State) : State :=
  let keep := s.keepActive n
  let timed := match (s.outAxle n).bind s.steerer with | some l => l < 2 && s.on (OUT_CFG_MODE n) | none => false
  let s := (s.setB (OUT_STATUS_KEEP_ACTIVE n) keep).setB (OUT_STATUS_TIMED n) timed
  let s := s.setB (OUT_STATUS_SQUELCHED n) (s.outSquelched n)
  let s := s.setB (OUT_STATUS_QUAL_HOLD n) (!s.qualHolds n)
  if s.outDark n then s.outStop n 0
  else if s.get (OUT_STATUS_STATE n) == 2 then
    if s.on (OUT_CFG_ENABLE n) && (!s.outHold n || s.get (OUT_CFG_SQ n) == 1) then s
    else if (s.outp n).high then s.setOutp n { s.outp n with stopping := true }
    else s.outStop n (if s.on (OUT_CFG_ENABLE n) then 1 else 0)
  else
    let s := s.setOutState n (if s.outIdle n then 0 else 1)
    s.setOutp n { s.outp n with ready := if s.outReady n then (s.outp n).ready.orElse fun _ => some s.cyc else none }

/-- All outputs. -/
def State.outEvalAll (s : State) : State := s.each (List.range 24) State.outEval

/-- The level of a pin. -/
inductive Level where
  | low | high | open_
  deriving DecidableEq, Repr

/-- The level of a pin that is driven. -/
def levelOf (b : Bool) : Level := if b then .high else .low

/-- The two pins, P and N, of an output whose generator gives `b` (R211): the legs of LVCMOS as LEGS sets, else a differential
pair. -/
def State.outLegs (s : State) (n : Nat) (b : Bool) : Level × Level :=
  if s.get (OUT_CFG_FORMAT n) = 3 then
    match s.get (OUT_CFG_LEGS n) with
    | 0 => (levelOf b, levelOf b) | 1 => (levelOf b, levelOf !b) | 2 => (levelOf b, .low) | _ => (.low, levelOf b)
  else (levelOf b, levelOf !b)

/-- The two pins of an output at the end of the last cycle (R211, R219, R221): with the driver off, or held with SQ = 2, both
are at high impedance; held otherwise they are low (DEDUCED, log entry 30). -/
def State.outPins (s : State) (n : Nat) : Level × Level :=
  match s.get (OUT_STATUS_STATE n) with
  | 2 => s.outLegs n (s.outp n).level
  | 1 => if s.get (OUT_CFG_SQ n) = 2 then (.open_, .open_) else s.outLegs n false
  | _ => (.open_, .open_)

/-! ### Axles -/

/-- A frequency word takes effect (R192); the register reads the word in force. -/
def State.axleWord (n : Nat) (w : Int) (s : State) : State :=
  (s.setAxle n { s.axle n with word := w }).setWide (AXL_FWORD_LO n) (AXL_FWORD_HI n) 16 w

/-- STEP_LEFT holds `v`, and STEP_BUSY follows it (R195). -/
def State.setStepLeft (n : Nat) (v : Int) (s : State) : State :=
  let s := s.setWide (AXL_STEP_LEFT_LO n) (AXL_STEP_LEFT_HI n) 16 v
  s.setB (AXL_STATUS_STEP_BUSY n) (s.getWideI (AXL_STEP_LEFT_LO n) (AXL_STEP_LEFT_HI n) 16 != 0)

/-- The axle reports the end of a step to the loop that asked for it (R153, R195). -/
def State.stepReport (n : Nat) (s : State) : State :=
  let a := s.axle n
  let s := s.setAxle n { a with forLoop := false }
  if a.forLoop then
    s.each [0, 1, 2, 3] fun l t => t.setLoop l { t.loop l with stepping := putBit (t.loop l).stepping n false }
  else s

/-- A step is complete (R195). -/
def State.stepComplete (n : Nat) (s : State) : State := (s.raise (AXL_EVT_STEP_DONE n)).stepReport n

/-- Squelch of an axle (R201): asserted in the next cycle, released at once; AX0 has none (R206) (DEDUCED, log entry 29). -/
def State.setSquelch (n : Nat) (b : Bool) (s : State) : State :=
  if n = 0 then s
  else
    let s := s.setAxle n { s.axle n with sqDue := b }
    if b then s else (s.set (AXL_STATUS_SQUELCH n) 0).outEvalAll

/-- The squelch asked for in the last cycle is asserted (R201). -/
def State.squelchDue (n : Nat) (s : State) : State :=
  if (s.axle n).sqDue then ((s.setAxle n { s.axle n with sqDue := false }).set (AXL_STATUS_SQUELCH n) 1).outEvalAll else s

/-- The outputs see the loops' states of the last cycle (R220). -/
def State.showLoops (s : State) : State :=
  if [0, 1, 2, 3].all fun l => (s.loop l).shown == s.get (DPL_STATUS_STATE l) then s
  else (s.each [0, 1, 2, 3] fun l t => t.setLoop l { t.loop l with shown := t.get (DPL_STATUS_STATE l) }).outEvalAll

/-- The axle moves by `k` steps of 0.390625 ps (R193). -/
def State.axleMove (n : Nat) (k : Int) (s : State) : State :=
  s.setAxle n { s.axle n with q := ((s.axle n).q + k * 2 ^ 39) % qSpan }

/-- An axle takes a state of R197 (DEDUCED, log entry 29). -/
def State.setAxleState (n st : Nat) (s : State) : State :=
  (s.when (s.get (AXL_STATUS_STATE n) != st) (·.raise (AXL_EVT_STATE_CHG n))).set (AXL_STATUS_STATE n) st

/-- Injection is engaged, or the axle goes to delay-locked mode (R187): in WORKSHOP DLL_HOLD keeps it there. -/
def State.engage (n : Nat) (b : Bool) (s : State) : State :=
  let s := s.setAxle n { s.axle n with injecting := b }
  s.setB (AXL_STATUS_DLL_MODE n) (!b || (decide (n ≠ 0) && s.on (AXL_CFG_DLL_HOLD n)))

/-- A jump (R196): the whole of STEP_LEFT is added to q; a locked axle asserts squelch and returns to PULLIN; the jump of an
axle that is OFF is complete at once. -/
def State.axleJump (n : Nat) (s : State) : State :=
  let s := (s.axleMove n (s.stepLeft n)).setStepLeft n 0
  if s.get (AXL_STATUS_STATE n) = 0 then s.stepComplete n
  else
    let s := s.setAxle n { s.axle n with jumping := true }
    let s := s.when (s.get (AXL_STATUS_STATE n) == 3) fun t => (t.setAxleState n 2).engage n false
    s.setSquelch n true

/-- A step request of `k` (R194 to R196): added to what is left, made by slew or as a jump. A request of 0 completes at once,
and what is left of others goes on (log entry 29). -/
def State.requestStep (n : Nat) (k : Int) (forLoop : Bool) (s : State) : State :=
  let s := s.setAxle n { s.axle n with forLoop := forLoop || (s.axle n).forLoop }
  let s := s.setStepLeft n (s.stepLeft n + k)
  if s.stepLeft n = 0 then s.stepComplete n
  else if k = 0 then s.raise (AXL_EVT_STEP_DONE n)
  else s.when (s.on (AXL_CFG_STEP_MODE n)) (State.axleJump n)

/-- The remaining count is discarded (R204); AXL_STEP_LEFT keeps it. -/
def State.dropSteps (n : Nat) (s : State) : State :=
  if s.on (AXL_STATUS_STEP_BUSY n) then ((s.setB (AXL_STATUS_STEP_BUSY n) false).raise (AXL_EVT_STEP_DROPPED n)).stepReport n
  else s

/-- One time-base cycle of an edge generator (R189, R195): the injection edges q passes are placed, and q counts and steps. -/
def State.axleTick (n : Nat) (s : State) : State :=
  let k := s.slewStep n
  let r := s.axRatio n (s.axEntry n)
  let (q0, q1) := s.axleSpan n
  let edges := if n = 0 ∨ s.get (AXL_STATUS_STATE n) = 0 then [] else injectionEdges (tankAt r q0) (tankAt r q1)
  let s := s.setAxle n { s.axle n with q := (s.axleAhead n).2 % qSpan, inj := edges }
  if k = 0 then s
  else
    let s := s.setStepLeft n (s.stepLeft n - k)
    s.when (decide (s.stepLeft n = 0)) (State.stepComplete n)

end Sys2Proof.Machine
end

