-- ==== Sys2Proof/Machine/TimeOps.lean ====
section
/-! DEFINITION. The two time counters and served time (chapter 10): reading a domain, changing it, what served time makes
of a change, and one time-base cycle of counting. -/

namespace Sys2Proof.Machine

/-- One second in units of 2^-40 ns. -/
def secUnit : Nat := 10 ^ 9 * 2 ^ 40

/-- The running count and the epoch wrap at 2^48 s (R227, R228). -/
def cSpan : Nat := 2 ^ 48 * secUnit

/-- Domain time C + E, in units of 2^-40 ns (R227). -/
def State.domTime (s : State) (d : Nat) : Nat := ((s.dom d).c + (s.dom d).e * secUnit) % cSpan

/-- Units of acc in one unit of 2^-16 ns: acc moves by RATE of them a cycle (R241). -/
def accUnit : Int := 312500000

/-- The target of a domain in the units of acc. -/
def State.srvTarget (s : State) (d : Nat) : Int := (if d = 0 then s.tim.tgtA else s.tim.tgtB) * accUnit

/-- The source in force: 0 A, 1 B. -/
def State.srvSrc (s : State) : Nat := s.get TIM_SRV_STATUS_SRC_IN_FORCE

/-- Served time X + acc, in units of 2^-40 ns. -/
def State.servedTime (s : State) : Nat := (((s.domTime s.srvSrc : Int) + s.tim.acc * 2 ^ 24 / accUnit) % (cSpan : Int)).toNat

/-- acc takes a value; SLEWING follows (R241). -/
def State.setAcc (v : Int) (s : State) : State :=
  let s := { s with tim := { s.tim with acc := v } }
  s.setB TIM_SRV_STATUS_SLEWING (decide (v ≠ s.srvTarget s.srvSrc))

/-- A length in units of 2^-40 ns, rounded to 2^-16 ns, in the units of acc. -/
def accOf (x : Int) : Int := (x + 2 ^ 23) / 2 ^ 24 * accUnit

/-- A difference of two domain times, each held modulo 2^48 s (R227): the one of least magnitude. -/
def timeDiff (x : Int) : Int := (x + (cSpan / 2 : Nat)) % (cSpan : Int) - (cSpan / 2 : Nat)

/-- Domain time changed by `x` units of 2^-40 ns other than by counting (R242). Until served time is valid it follows its
domain (R244). -/
def State.compensate (d : Nat) (x : Int) (s : State) : State :=
  if s.srvSrc ≠ d ∨ x = 0 then s
  else if s.on TIM_SRV_STATUS_VALID then (s.setAcc (s.tim.acc - accOf x)).raise TIM_SRV_EVT_COMP
  else s.setAcc (s.srvTarget d)

/-- The count and epoch of a domain change other than by counting. -/
def State.retime (d : Nat) (c e : Nat) (s : State) : State :=
  let old := s.domTime d
  let t := s.setDom d { s.dom d with c := c % cSpan, e := e % 2 ^ 48 }
  let t := t.setWide (TIM_EPOCH_LO d) (TIM_EPOCH_HI d) 16 (e % 2 ^ 48 : Nat)
  let t := t.when (decide ((s.dom d).e ≠ e % 2 ^ 48)) fun t => (t.raise (TIM_EVT_EPOCH_CHG d)).count (TIM_COUNT_EPOCH_CHANGES d)
  t.compensate d (timeDiff ((t.domTime d : Int) - old))

/-- C is stepped by `x` units of 2^-40 ns (R153, R232): STEPPED and the count of steps. -/
def State.stepC (d : Nat) (x : Int) (s : State) : State :=
  let c := (((s.dom d).c + x) % (cSpan : Int)).toNat
  ((s.retime d c (s.dom d).e).raise (TIM_EVT_STEPPED d)).count (TIM_COUNT_C_STEPS d)

/-- The increment of a domain (R229): the register reads it. -/
def State.setInc (d : Nat) (inc : Nat) (s : State) : State :=
  (s.setDom d { s.dom d with inc := inc }).setWide (TIM_INC_LO d) (TIM_INC_HI d) 10 inc

/-- State of the loop of a domain (R246). -/
def State.loopState (s : State) (l : Nat) : Nat := s.get (DPL_STATUS_STATE l)

/-- Is the loop of a domain in a fall state (R246)? -/
def State.falls (s : State) (d : Nat) : Bool :=
  s.loopState d == 4 || (s.loopState d == 3 && !s.on TIM_SRV_CFG_FALL)

/-- The source in force becomes `d` (R245). -/
def State.setSrc (d : Nat) (s : State) : State :=
  if s.srvSrc = d then s else
  let x : Int := s.domTime s.srvSrc
  let t := s.set TIM_SRV_STATUS_SRC_IN_FORCE d
  let t := if t.on TIM_SRV_STATUS_VALID then t.setAcc (t.tim.acc + accOf (timeDiff (x - (t.domTime d : Int))))
    else t.setAcc (t.srvTarget d)
  let t := t.raise TIM_SRV_EVT_SRC_CHG
  t.queueEvent 5 [t.rd TIM_SRV_STATUS]

/-- The changes of the table of R246 that need no timer: the fall rows (DEDUCED, log entry 31). -/
def State.autoSource (s : State) : State :=
  if !s.on TIM_SRV_CFG_AUTO then s
  else
    let p := s.get TIM_SRV_CFG_SRC
    let a := 1 - p
    if s.srvSrc = p then
      s.when (s.falls p && s.loopState a == 2 && s.on (TIM_STATUS_SEC_VALID a)) (State.setSrc a)
    else s.when (s.falls a && s.loopState p == 2) (State.setSrc p)

/-- What served time makes of the loops and seconds as they are now: validity (R244), then the source (R246) (DEDUCED, log
entry 31). -/
def State.servedEval (s : State) : State :=
  let d := s.srvSrc
  let t := s.when (!s.on TIM_SRV_STATUS_VALID && s.on (TIM_STATUS_SEC_VALID d) && s.loopState d == 2) fun t =>
    (t.set TIM_SRV_STATUS_VALID 1).raise TIM_SRV_EVT_VALID_SET
  t.autoSource

/-- The seconds of a domain have been named (R235). -/
def State.secValid (d : Nat) (s : State) : State := (s.set (TIM_STATUS_SEC_VALID d) 1).servedEval

/-- A time stored in the four-word layout of TIM_NOW at address `a` (DEDUCED, log entry 31). -/
def State.setTime (a : Nat) (t : Nat) (s : State) : State :=
  let ns := t / 2 ^ 40 % 10 ^ 9
  let sec := t / secUnit
  (((s.wr a (BitVec.ofNat 32 (t / 2 ^ 8 % 2 ^ 32))).wr (a + 4) (BitVec.ofNat 32 ns)).wr (a + 8) (BitVec.ofNat 32 sec)).wr (a + 12)
    (BitVec.ofNat 32 (sec / 2 ^ 32 % 2 ^ 16))

/-- A snapshot (R240). -/
def State.snapshot (s : State) : State :=
  (((s.setTime TIM_SNAP_A0 (s.domTime 0)).setTime TIM_SNAP_B0 (s.domTime 1)).setTime TIM_SNAP_SRV0 s.servedTime).countMod
    TIM_SNAP_SEQ_SEQ

/-- What a second boundary does to E (R233, R234, R239): an armed SET_SEC outranks a pending correction; `sec` is the second
of C that begins at the boundary. -/
def State.relabel (d sec : Nat) (s : State) : State :=
  let pending := (s.dom d).shift
  let s := s.setDom d { s.dom d with shift := none }
  if s.on (TIM_STATUS_SEC_PENDING d) then
    let want := s.getWide (TIM_SET_SEC_LO d) (TIM_SET_SEC_HI d) 16
    let e := (((want : Int) - sec) % (2 ^ 48 : Int)).toNat
    (((s.set (TIM_STATUS_SEC_PENDING d) 0).retime d (s.dom d).c e)).secValid d
  else match pending with
    | none => s
    | some x => (s.retime d (s.dom d).c ((((s.dom d).e : Int) + x) % (2 ^ 48 : Int)).toNat).raise (TIM_EVT_TOD_CORR d)

/-- The time-base cycles of code 0 that one cycle of the present time-base source stands for (R86). -/
def State.srcFactor (s : State) (code : Nat) : Rat :=
  let n : Nat := [1000, 800, 500, 400, 250, 200, 160, 125, 100, 80, 50, 40].getD (s.get CGU_XO_STATUS_FREQ) 25
  if code = 0 then 1
  else if code = 1 then (n : Rat) / 32
  else if s.on GLB_STATUS_XO_INT then 25 / 32
  else
    let k : Nat := 1000000 / n
    if s.cgu.lastCount = 0 then 25 / 32 else (k : Rat) / s.cgu.lastCount * n / 32

/-- The count of a domain advances by `x` units of 2^-40 ns of counting (R228, R243); at the carry into the seconds E is
relabelled, and TRIG asks for a snapshot at the end of the cycle (R240). -/
def State.countTime (d : Nat) (x : Nat) (s : State) : State :=
  let c := (s.dom d).c
  let c' := (c + x) % cSpan
  let s := s.setDom d { s.dom d with c := c' }
  s.when (decide (c / secUnit ≠ c' / secUnit)) fun s =>
    let s := s.relabel d (c' / secUnit)
    s.when (decide (d = 0) && s.on TIM_SNAP_CTRL_TRIG) fun s => { s with tim := { s.tim with snapDue := true } }

/-- The snapshot of a second boundary, once everything of the cycle has changed (R240). -/
def State.snapEnd (s : State) : State :=
  if s.tim.snapDue then ({ s with tim := { s.tim with snapDue := false } } : State).snapshot else s

/-- Both counters advance by `k` cycles of a time-base source (R86): no step (DEDUCED, log entry 31; DESIGN CHOICE, log entry
79). -/
def State.advance (code k : Nat) (s : State) : State :=
  let by_ (d : Nat) : Nat := (s.srcFactor code * (k : Rat) * ((s.dom d).inc : Nat)).floor.toNat
  (s.countTime 0 (by_ 0)).countTime 1 (by_ 1)

/-- acc moves for one cycle (R241, R244) (DEDUCED, log entry 31). -/
def State.servedTick (s : State) : State :=
  let t := s.srvTarget s.srvSrc
  if s.on TIM_SRV_STATUS_VALID then
    (if s.tim.acc = t then s else s.setAcc (towards t (s.get TIM_SRV_RATE_RATE) s.tim.acc))
  else if s.tim.acc = t then s else s.setAcc t

/-- Reading of the count of a domain at gauge time `t`, in units of 2^-40 ns. The gauge counts 2,048 to a time-base cycle. -/
def State.cAt (s : State) (d : Nat) (t : Nat) : Int :=
  (s.dom d).c + ((t : Int) - 2048 * s.cyc) * (s.dom d).inc / 2048

end Sys2Proof.Machine
end

