-- ==== Sys2Proof/Machine/CplNode.lean ====
section
/-! DEFINITION. Operations of the coupling layer (chapter 13) that other chapters call: the node's hop, feeds, and the states
of a coupling port. -/

namespace Sys2Proof.Machine

/-- Does the port count as in PCS lock for REFM, the TSE and the coupling layer (R311, R319)? -/
def State.lockSeen (s : State) (p : Nat) : Bool := s.on (PRT_STATUS_PCS_LOCK p) && s.get (PRT_CFG_LOOP p) == 0

/-- The loop of the node's domain (R300). -/
def State.timingLoop (s : State) : Nat := s.get CPL_NODE_DOM

/-! ### Feeds -/

/-- Is loop `l` fed: enabled with SRC = 3 (R298)? -/
def State.fed (s : State) (l : Nat) : Bool := s.on (DPL_CFG_ENABLE l) && s.get (DPL_CFG_SRC l) == 3

/-- The bits of CPL_FEED_STATUS less DELIVER and BLEEDING: the conditions of R302 that fail for loop `l`. -/
def State.feedFails (s : State) (l : Nat) : Nat :=
  let f := s.get (CPL_FEED_CFG_PORT l)
  let bit (k : Nat) (b : Bool) : Nat := if b then 2 ^ k else 0
  if !s.fed l then 2
  else
    bit 1 (s.get (CPL_PORT_STATUS_STATE f) != 3) + bit 2 (l != s.timingLoop) +
      bit 3 (decide (31 < s.get (CPL_PORT_FAR_INFO_FAR_HOP f))) +
      bit 4 (s.get (CPL_PORT_FAR_INFO_FAR_UPSTREAM f) == s.get CPL_NODE_ID) +
      bit 5 (!s.on (CPL_PORT_STATUS_FAR_TRACE f) && s.on CPL_NODE_REQ_TRACE) + bit 6 (s.on CPL_NODE_GM)

/-- CPL_FEED_STATUS as it reads (R302). -/
def State.feedStatus (s : State) (l : Nat) : Nat :=
  let n := s.feedFails l
  n + (if n = 0 then 1 else 0) + (if (s.feed l).bf = 0 then 0 else 128)

/-- B_f takes a value; CPL_FEED_BO reads it in units of 2^-16 ns, saturating. -/
def State.setFeedBo (l : Nat) (b : Int) (s : State) : State :=
  let s := s.setFeed l { s.feed l with bf := b }
  s.setI (CPL_FEED_BO_BO l) (clampInt (-2147483648) 2147483647 (roundAway ((b : Rat) / (accUnit : Int))))

/-- A loop is enabled with SRC = 3 (R298). -/
def State.feedStart (l : Nat) (s : State) : State :=
  let s := s.set (CPL_FEED_CFG_PORT l) (s.get (DPL_CFG_SRC_ID l))
  (s.setFeed l { s.feed l with last := none, transfer := false }).setFeedBo l 0

/-- One cycle of a feed's bleed (R299). -/
def State.feedTick (l : Nat) (s : State) : State :=
  let b := (s.feed l).bf
  let r := (s.rd CPL_BLEED).toNat
  if b = 0 ∨ r = 0 then s else s.setFeedBo l (towards 0 r b)

/-! ### The node -/

/-- H and what goes with it, for a node that is not in holdover (R301). -/
def State.setNode (h : Nat) (trace : Bool) (upstream acc gm : Nat) (s : State) : State :=
  let s := (s.set CPL_NODE_STATUS_HOP h).setB CPL_NODE_STATUS_TRACE trace
  let s := (s.set CPL_NODE_STATUS_UPSTREAM_ID upstream).set CPL_NODE_ACC_ACC_ERR acc
  { s with cpl := { s.cpl with gmId := gm } }

/-- What the node holds on entry of its timing loop to holdover is kept until the loop leaves it (R301). -/
def State.nodeHold (s : State) : State :=
  if s.loopState s.timingLoop ≠ 3 then { s with cpl := { s.cpl with held := none } }
  else if s.cpl.held.isSome then s
  else { s with cpl := { s.cpl with
    held := some (s.get CPL_NODE_STATUS_HOP, s.get CPL_NODE_STATUS_UPSTREAM_ID, s.get CPL_NODE_ACC_ACC_ERR, s.cpl.gmId) } }

/-- H, TRACE, UPSTREAM_ID, ACC_ERR and GM_ID as R301 derives them now. -/
def State.nodeEval (s : State) : State :=
  let s := s.nodeHold
  let own := s.get CPL_NODE_ID
  let l := s.timingLoop
  let f := s.get (CPL_FEED_CFG_PORT l)
  if s.on CPL_NODE_GM then s.setNode 0 true own (s.get CPL_NODE_ERR_GM_ERR) own
  else if s.loopState l = 2 ∧ s.feedFails l = 0 then
    let acc := s.get (CPL_PORT_FAR_ACC_FAR_ACC f) + s.get CPL_NODE_ERR_HOP_ERR + s.get (CPL_PORT_ASYM_UNC_ASYM_UNC f)
    s.setNode (s.get (CPL_PORT_FAR_INFO_FAR_HOP f) + 1) true (s.get (CPL_PORT_FAR_ID_FAR_NODE f)) (min acc 0xFFFFFFFE)
      (s.get (CPL_PORT_FAR_ID_FAR_GM f))
  else match s.cpl.held with
    | some (h, up, acc, gm) => if 1 ≤ h ∧ h ≤ 32 then s.setNode h false up acc gm else s.setNode 63 false own 0xFFFFFFFF 0xFFFF
    | none => s.setNode 63 false own 0xFFFFFFFF 0xFFFF

/-! ### States of a coupling port -/

/-- The MAC address of a port, first octet sent first (R316). -/
def State.macOf (s : State) (p : Nat) : List Octet := octetsBE 6 (s.getWide (PRT_MACADDR_LO p) (PRT_MACADDR_HI p) 16)

/-- A HELLO leaves the port (R289, R290). -/
def State.helloSend (p : Nat) (s : State) : State :=
  let s := s.nodeEval
  let bit (f : FieldRef) (k : Nat) : Nat := if s.on f then 2 ^ k else 0
  let flags := bit (CPL_PORT_STATUS_SEEN p) 0 + bit CPL_NODE_GM 1 + bit CPL_NODE_STATUS_TRACE 2
  let head := octetsBE 6 0x0180C200000E ++ s.macOf p ++ octetsBE 2 0x88B5 ++ octetsBE 4 0x515A4350
  let body := [1, 1] ++ octetsBE 1 flags ++ octetsBE 1 (s.get CPL_NODE_STATUS_HOP) ++ octetsBE 2 (s.get CPL_NODE_ID) ++
    octetsBE 2 s.cpl.gmId ++ octetsBE 1 p ++ List.replicate 33 0
  let bs := head ++ body
  if s.macOpen p then (s.emit .hello p [] (bs ++ octetsLE 4 (crc32 bs))).countTx p 64 0x0180C200000E else s

/-- Stored stamps of a port are discarded (R291). -/
def State.cplForget (p : Nat) (s : State) : State :=
  s.setCplPort p { s.cplPort p with
    dep := [], arr := [], far := [], mlds := [], rxSeq := none, heard := none, validRun := 0, due := none, words := [] }

/-- A coupling port takes a state (R291, R456): 0 OFF, 1 PROBE, 2 AGREE, 3 COUPLED; PROBE begins with a HELLO in PCS lock. -/
def State.setCplState (p st : Nat) (s : State) : State :=
  let old := s.get (CPL_PORT_STATUS_STATE p)
  if old = st then s
  else
    let s := (s.set (CPL_PORT_STATUS_STATE p) st).raise (CPL_PORT_EVT_STATE_CHG p)
    let s := s.queueEvent 7 [packWord [(p, 0), (st, 8)]]
    let c := s.cplPort p
    let s := s.setCplPort p (if st < 2 then { c with validRun := 0, heard := none, due := none, words := [] }
      else { c with validRun := 0 })
    let s := s.when (decide (st = 3)) (·.set (CPL_PORT_STATUS_OFFSET_VALID p) 0)
    let s := s.when (decide (st = 1)) fun t =>
      let t := t.set (CPL_PORT_STATUS_SEEN p) 0
      t.when (t.lockSeen p) (State.helloSend p)
    s.nodeEval

/-- Does a port's rate allow coupling (R287)? -/
def State.cplRate (s : State) (p : Nat) : Bool :=
  let r := s.get (PRT_CFG_RATE p)
  (r == 2 || r == 3 || (r == 4 && p % 4 == 0)) && !(p % 4 != 0 && s.get (PRT_CFG_RATE (p / 4 * 4)) == 4)

/-- READY, and the states that need it or PCS lock, as they are now (R288, R291, R307). -/
def State.cplEval (p : Nat) (s : State) : State :=
  let ready := s.lockSeen p && !s.on (TSE_PORT_STATUS_RX_NOPHASE p) && s.on (TSE_PORT_STATUS_CAL_OK p)
  let s := s.setB (CPL_PORT_STATUS_READY p) ready
  let st := s.get (CPL_PORT_STATUS_STATE p)
  if s.lockSeen p then (if st = 3 ∧ !ready then s.setCplState p 2 else s)
  else if st = 0 then s
  else ((s.cplForget p).setCplState p 1).set (CPL_PORT_STATUS_SEEN p) 0

/-- CAL_OK, RX_NOPHASE or PCS lock of a port changes: stamps of its markers formed in the same cycle are discarded, and with them
the exchanges that would use them (R306). -/
def State.cplTurn (p : Nat) (s : State) : State :=
  let c := s.cplPort p
  let now := some s.cyc
  let c := { c with
    changed := now, dep := if c.depAt = now then c.dep.drop 1 else c.dep, arr := if c.arrAt = now then c.arr.drop 1 else c.arr }
  (s.setCplPort p c).cplEval p

/-- PCS lock is gained: a port in PROBE sends a HELLO (R290) (DEDUCED, log entry 38). -/
def State.cplLock (p : Nat) (s : State) : State :=
  s.when (s.get (CPL_PORT_STATUS_STATE p) == 1 && s.lockSeen p) (State.helloSend p)

/-- A port's rate has changed (R287, R291). -/
def State.cplRateChange (p : Nat) (s : State) : State :=
  let st := s.get (CPL_PORT_STATUS_STATE p)
  if st = 0 then s
  else if s.cplRate p then (s.cplForget p).setCplState p 1
  else (((s.cplForget p).set (CPL_PORT_CFG_ENABLE p) 0).raise (CPL_PORT_EVT_CFG_ERR p)).setCplState p 0

end Sys2Proof.Machine
end

