-- ==== Sys2Proof/Machine/LoopOps.lean ====
section
/-! DEFINITION. Operations on loops (chapter 06), the prediction the sprag offers them (chapter 07) and the device mode that
follows the lead loop (R39): steering, changes of state, entry to holdover. -/

namespace Sys2Proof.Machine

/-! ### Mode -/

/-- MODE takes a value (R37, R39): MODE_EVT, MODE_COUNT and the event message; the outputs see STAGING end. -/
def State.setMode (m : Nat) (s : State) : State :=
  if s.get GLB_STATUS_MODE = m then s
  else
    let t := ((s.set GLB_STATUS_MODE m).raise GLB_STATUS_MODE_EVT).countMod GLB_STATUS_MODE_COUNT
    (t.queueEvent 0 [t.rd GLB_STATUS]).outEvalAll

/-- MODE follows the lead loop outside STAGING and WORKSHOP (R39). -/
def State.modeFollow (s : State) : State :=
  let m := s.get GLB_STATUS_MODE
  let st := s.loopState (s.get GLB_STATUS_LEAD)
  s.when (decide (1 ≤ m ∧ m ≤ 4 ∧ 1 ≤ st ∧ st ≤ 4)) (State.setMode st)

/-! ### The model of the oscillator -/

/-- The calibration word y_cal (R180). -/
def State.yCal (s : State) : Rat := (s.getWideI HOLD_CAL_LO HOLD_CAL_HI 16 : Rat) / (2 ^ 48 : Nat)

/-- The calibration word as R150 uses it: none without a valid word, or on IOSC. -/
def State.yCalUsed (s : State) : Rat := if s.on HOLD_STATUS_CAL_VALID && !s.on GLB_STATUS_XO_INT then s.yCal else 0

/-- Nominal frequency relative to the root (R150). -/
def State.yNom (s : State) : Rat := 1 / (1 + s.yCalUsed) - 1

/-- Domain A time in days. -/
def State.dayNow (s : State) : Rat := (s.domTime 0 : Rat) / (secUnit * 86400 : Nat)

/-- The model of R163 at a time in days and a temperature. -/
def Model.at (m : Model) (day temp : Rat) : Rat :=
  m.y0 + m.a * (day - m.tRef) + m.c1 * (temp - m.tempRef) + m.c2 * (temp - m.tempRef) * (temp - m.tempRef)

/-- The model now, with the last good temperature (R163, R174). -/
def State.yXO (s : State) : Rat := s.hold.model.at s.dayNow s.hold.tLast

/-- Is a model in use for loop `l`: the conditions of R171 less that on HOLD_LIMIT? -/
def State.modelFor (s : State) (l : Nat) : Bool :=
  (s.get HOLD_CFG_LOOP_EN).testBit l && decide (2 ≤ s.get HOLD_STATUS_STAGE) && !s.on GLB_STATUS_XO_INT

/-- Does the sprag offer loop `l` a prediction (R171)? -/
def State.offered (s : State) (l : Nat) : Bool := s.modelFor l && s.get HOLD_EXPIRY_HOLD_LIMIT != 0

/-- OFFERED, and the confidence of a loop that has not left holdover yet (R171, R175). -/
def State.offerEval (s : State) : State :=
  let s := s.set HOLD_STATUS_OFFERED (([0, 1, 2, 3].filter s.offered).foldl (fun n l => n + 2 ^ l) 0)
  s.each [0, 1, 2, 3] fun l t =>
    t.when (!(t.holdLoop l).left && t.loopState l != 3) (·.set (HOLD_LP_STATUS_CONF l) (if t.offered l then 100 else 0))

/-! ### Steering -/

/-- The pull limit of R149. -/
def State.pull (s : State) (l : Nat) : Rat := if s.get (DPL_CFG_AXLE l) = 0 then 500 / 1000000 else 122 / 1000000

/-- The increment of R147: 3.2 ns × (1 + y) in units of 2^-40 ns, rounded to nearest, within the range of R229. -/
def incOf (y : Rat) : Nat := max 3516677990279 (min 3520196427487 (roundAway ((1 + y) * (16 * 2 ^ 40 / 5 : Rat))).toNat)

/-- y is reported and passed to the targets (R147, R148). -/
def State.steer (l : Nat) (s : State) : State :=
  let y := (s.loop l).y
  let s := s.setWide (DPL_FREQ_LO l) (DPL_FREQ_HI l) 16 (roundAway (y * (2 ^ 48 : Nat)))
  let s := if l < 2 then s.setInc l (incOf y) else s.setLoop l { s.loop l with inc := incOf y }
  s.each [1, 2, 3] fun n t =>
    t.when ((t.get (DPL_CFG_AXLE l)).testBit (n - 1)) (State.axleWord n (roundAway (y * (2 ^ 48 : Nat))))

/-- A value held within a limit of either sign, and whether the limit acted (DESIGN CHOICE, log entry 26). -/
def limited (lim x : Rat) : Rat × Bool := if lim < x then (lim, true) else if x < -lim then (-lim, true) else (x, false)

/-- y takes a value within the pull limit, which PULL_LIMIT and its event report (R149); in HOLDOVER and FREERUN the integrator
follows it (R152). -/
def State.setY (l : Nat) (y : Rat) (s : State) : State :=
  let (y, pl) := limited (s.pull l) y
  let s := s.when (pl && !s.on (DPL_STATUS_PULL_LIMIT l)) (·.raise (DPL_EVT_PULL_LIMIT l))
  let s := s.setB (DPL_STATUS_PULL_LIMIT l) pl
  let held := s.loopState l == 3 || s.loopState l == 4
  let lp := s.loop l
  (s.setLoop l { lp with y := y, integ := if held then y else lp.integ }).steer l

/-- S of a phase ramp in units of 2^-16 ns / 5 a second, in HOLDOVER and FREERUN at most PSL (R159). -/
def State.rampStep (s : State) (l : Nat) : Nat :=
  let rate := 5 * (s.loop l).ramp.rate
  if s.loopState l = 3 ∨ s.loopState l = 4 then min rate (s.get (DPL_SLOPE_PSL l) * 32768) else rate

/-- The units of r in one unit of 2^-16 ns. -/
def rampUnit : Int := 5 * accUnit

/-- The slope a busy phase ramp adds to y in HOLDOVER and FREERUN (R159), as a frequency. -/
def State.rampSlope (s : State) (l : Nat) : Rat :=
  let r := (s.loop l).ramp
  if !r.busy || r.freq then 0
  else
    let v : Rat := s.rampStep l
    (if r.goal < 0 then -v else v) / (5 * 65536 * 1000000000)

/-- In HOLDOVER and FREERUN, y becomes `base` plus the slope of a phase ramp (R159). -/
def State.setBase (l : Nat) (base : Rat) (s : State) : State :=
  let sl := s.rampSlope l
  (s.setLoop l { s.loop l with slope := sl }).setY l (base + sl)

/-- y less the slope it carries. -/
def State.baseY (s : State) (l : Nat) : Rat := (s.loop l).y - (s.loop l).slope

/-- FSL per time-base cycle, as a frequency (R143): 0.01 ppb/s times 3.2 ns. -/
def State.fslCycle (s : State) (l : Nat) : Rat := (s.get (DPL_FSL_FSL l) : Rat) / (100 * 10 ^ 9 * 312500000 : Nat)

/-! ### Ramps -/

/-- RAMP_ACC, in units of 2^-16 ns. -/
def State.rampAcc (s : State) (l : Nat) : Int := s.getWideI (DPL_RAMP_ACC_LO l) (DPL_RAMP_ACC_HI l) 16

/-- The ramp ends, with `x` units of 2^-16 ns added to RAMP_ACC. -/
def State.rampEnd (l : Nat) (x : Int) (s : State) : State :=
  let s := s.setLoop l { s.loop l with ramp := { (s.loop l).ramp with busy := false, r := 0 } }
  let s := s.setWide (DPL_RAMP_ACC_LO l) (DPL_RAMP_ACC_HI l) 16 (s.rampAcc l + x)
  s.set (DPL_STATUS_RAMP_BUSY l) 0

/-- The ramp is complete (R159, R160). -/
def State.rampFinish (l : Nat) (s : State) : State :=
  let r := (s.loop l).ramp
  ((s.rampEnd l (if r.freq then 0 else r.goal)).raise (DPL_EVT_RAMP_DONE l))

/-- A busy ramp stops where it stands (R161). -/
def State.rampStop (l : Nat) (s : State) : State :=
  let lp := s.loop l
  if !lp.ramp.busy then s
  else
    let s := s.when lp.ramp.freq fun t => t.setLoop l { lp with yt := t.baseY l - t.yNom }
    ((s.rampEnd l (if lp.ramp.freq then 0 else lp.ramp.r / rampUnit)).raise (DPL_EVT_RAMP_ABORTED l))

/-! ### Entry to holdover, and changes of state -/

/-- The observation in progress is spoilt, if loop `l` is the learning loop (R164). -/
def State.learnBreak (l : Nat) (s : State) : State :=
  if s.hold.learner = some l then { s with hold := { s.hold with broken := true } } else s

/-- The observation in progress is spoilt. -/
def State.learnBreakAll (s : State) : State := { s with hold := { s.hold with broken := true } }

/-- The time-base's own time in seconds. -/
def State.secNow (s : State) : Rat := (s.cyc : Rat) / (312500000 : Nat)

/-- Mean and three times the standard error of the mean. -/
def meanAndError (xs : List Rat) : Rat × Rat :=
  let m := ratMean xs
  let n := xs.length
  if n < 2 then (m, 0) else
  (m, 3 * ratSqrt (ratSum (xs.map fun x => (x - m) * (x - m)) / ((n - 1) * n : Nat)))

/-- A value held in units of 2^-48. -/
def unit48 (x : Rat) : Int := roundAway (x * (2 ^ 48 : Nat))

/-- The error bound of loop `l` at τ (R174), in ns; θ and θ_f in K·s, u_T and c1 per K. -/
def State.errorBound (s : State) (l : Nat) : Rat :=
  let h := s.holdLoop l
  let m := s.hold.model
  let t : Rat := h.tau
  h.e0 + (h.uy * t + m.ua * (t / 86400) * t / 2 + m.uT * h.theta + (ratAbs m.c1 + m.uT) * h.thetaF) * (10 ^ 9 : Nat)

/-- CONF and the bound as the registers report them (R174, R175). -/
def State.reportBound (l : Nat) (s : State) : State :=
  let e := s.errorBound l
  let lim : Nat := s.get (HOLD_ELIM_E_LIM)
  let cap (n : Int) : Nat := min n.toNat (2 ^ 32 - 1)
  let h := s.holdLoop l
  let s := s.set (HOLD_LP_STATUS_CONF l) (100 - min 100 (100 * e / (lim : Rat)).floor.toNat)
  let s := s.set (HOLD_LP_STATUS_TAU l) (min h.tau (2 ^ 24 - 1))
  (s.set (HOLD_LP_ERR_VALUE l) (cap (roundAway e))).set (HOLD_LP_THETA_VALUE l) (cap (roundAway (h.theta + h.thetaF)))

/-- The values the sprag fixes at entry to HOLDOVER (R172): the source was lost at `lost` seconds. -/
def State.fixHold (l : Nat) (lost : Rat) (s : State) : State :=
  let h := s.holdLoop l
  let hi := lost - (s.get HOLD_BIAS_GUARD : Rat)
  let lo := hi - (s.get HOLD_BIAS_WIN : Rat)
  let used := h.track.filter fun p => decide (lo ≤ p.1 ∧ p.1 ≤ hi)
  let span : Rat := match used, used.getLast? with
    | p :: _, some q => p.1 - q.1 | _, _ => 0
  let (m, se) := meanAndError (used.map (·.2))
  let uy0 := s.hold.model.uy0
  let bl : Rat := if span < 10 then 0 else m
  let uy : Rat := if span < 10 then uy0 else ratSqrt (uy0 * uy0 + se * se)
  let s := s.setHoldLoop l { h with
    bl := bl, uy := uy, e0 := ratAbs (s.loop l).e, theta := 0, thetaF := 0, tau := 0, tEntry := s.hold.tLast, entering := true }
  let s := s.setWide (HOLD_LP_BIAS_LO l) (HOLD_LP_BIAS_HI l) 16 (unit48 bl)
  s.set (HOLD_LP_UY_VALUE l) (min (unit48 uy).toNat (2 ^ 32 - 1))

/-- The y of the model for loop `l` (R173). -/
def State.yHold (s : State) (l : Nat) : Rat := 1 / (1 + s.yXO) - 1 + (s.holdLoop l).bl

/-- The source of a loop. -/
def State.loopSrc (s : State) (l : Nat) : Nat := s.get (DPL_CFG_SRC l)

/-- The tapped period of a reference in ns (R91). -/
def State.tTap (s : State) (n : Nat) : Rat :=
  (s.get (REFM_DIV_DIV n) * 10 ^ 9 : Nat) / (s.get (REFM_FNOM_FNOM n) : Rat)

/-- The update interval in seconds (R142). -/
def State.updateSec (s : State) (l : Nat) : Rat :=
  let whole (t : Rat) : Rat := if t ≤ 0 then 100000 else t * ((100000 / t).ceil : Int)
  match s.loopSrc l with
  | 0 => (match (s.sel l).active with | some a => whole (s.tTap a) | none => 100000) / (10 ^ 9 : Nat)
  | 1 => whole ((s.get (DPL_GPER_GPER l) : Rat) / 4) / (10 ^ 9 : Nat)
  | _ => (s.get (DPL_TU_TU l) : Rat) / (10 ^ 6 : Nat)

/-- Gains in force at an update (R143, R144), in 1/s and 1/s², and whether the clamp acts. -/
def State.gains (s : State) (l : Nat) (tu : Rat) : Rat × Rat × Bool :=
  let acq := if s.loopState l = 1 then s.get (DPL_CFG_ACQ_SHIFT l) else 0
  let kp : Rat := (s.get (DPL_KP_MANT l) : Rat) / (2 ^ s.get (DPL_KP_EXP l) : Nat) * (2 ^ acq : Nat)
  let ki : Rat := (s.get (DPL_KI_MANT l) : Rat) / (2 ^ s.get (DPL_KI_EXP l) : Nat) * (2 ^ (2 * acq) : Nat)
  if 1 / 10 < kp * tu then
    let k := 1 / (10 * tu)
    (k, ki * (k / kp) * (k / kp), true)
  else (kp, ki, false)

/-- GAIN_CLAMP as the gains in force make it; in a state that does not filter no gains are in force (R144). -/
def State.gainEval (l : Nat) (s : State) : State :=
  let filters := s.loopState l == 1 || s.loopState l == 2
  s.setB (DPL_STATUS_GAIN_CLAMP l) (filters && (s.gains l (s.updateSec l)).2.2)

/-- A loop takes a state of R156, with what every change of state brings: events, MODE, the targets, served time, and what the sprag and the selector keep of the state that was left. -/
def State.setLoopState (l new : Nat) (s : State) : State :=
  let old := s.loopState l
  if old = new then s
  else
    let s := (((s.when (decide (l = s.timingLoop)) State.nodeEval).set (DPL_STATUS_STATE l) new).raise (DPL_EVT_STATE_CHG l)).count (DPL_COUNT_STATE_CHANGES l)
    let s := (s.learnBreak l).gainEval l
    let s := if new = 1 ∨ new = 2 then s else s.set (DPL_STATUS_FLYWHEEL l) 0
    let lp := s.loop l
    let was := if new = 2 then true else if new = 0 ∨ new = 4 then false else lp.wasLocked
    let held := decide (old = 3 ∨ old = 4)
    let s := s.setLoop l { lp with
      wasLocked := was, lockFor := none, unlockRun := 0, integ := if held then lp.y else lp.integ,
      slope := if new = 3 ∨ new = 4 then lp.slope else 0, samples := [] }
    let s := s.when (decide (old = 4)) fun t =>
      let t := t.setLoop l { t.loop l with yt := 0 }
      t.when ((t.loop l).ramp.busy && (t.loop l).ramp.freq) fun t => (t.rampEnd l 0).raise (DPL_EVT_RAMP_ABORTED l)
    let s := s.when (decide (old = 3)) fun t =>
      let t := t.setHoldLoop l { t.holdLoop l with bl := 0, e0 := 0, theta := 0, thetaF := 0, left := true }
      let t := (t.setWide (HOLD_LP_BIAS_LO l) (HOLD_LP_BIAS_HI l) 16 0).set (HOLD_LP_THETA_VALUE l) 0
      t.set HOLD_STATUS_HOLDING (putBit (t.get HOLD_STATUS_HOLDING) l false)
    let s := s.when (decide (new = 3)) fun t =>
      ((t.set HOLD_STATUS_HOLDING (putBit (t.get HOLD_STATUS_HOLDING) l true)).raise HOLD_EVT_HOLD_ENTRY).reportBound l
    let s := s.when (decide (new = 4)) fun t => t.setSel l { t.sel l with had := [] }
    let s := s.queueEvent 3 [packWord [(l, 0), (old, 8), (new, 16)]]
    let s := s.when (decide (s.get GLB_STATUS_LEAD = l)) State.modeFollow
    let s := if new = 0 then s else s.steer l
    (s.when (decide (l = s.timingLoop)) State.nodeEval).servedEval

/-- The loop enters HOLDOVER with the source lost now (R172). -/
def State.enterHoldover (l : Nat) (s : State) : State := (s.fixHold l s.secNow).setLoopState l 3

/-- The source of a loop in ACQUIRE or LOCKED is lost (R155, R156). -/
def State.loseSource (l : Nat) (s : State) : State :=
  let st := s.loopState l
  if st = 1 ∨ st = 2 then
    let s := s.raise (DPL_EVT_LOSS l)
    if s.offered l && (s.loop l).wasLocked then s.enterHoldover l else s.setLoopState l 4
  else s

/-- FORCE = 1 or 2 acts on a loop that is not OFF (R156). -/
def State.forceLoop (l force : Nat) (s : State) : State :=
  if s.loopState l = 0 then s
  else if force = 1 then
    (if s.offered l then (if s.loopState l = 3 then s else s.enterHoldover l) else s.setLoopState l 4)
  else if force = 2 then s.setLoopState l 4
  else s

/-- The root changed frequency by `dy` (R151): every enabled loop keeps its frequency against true frequency. One that does not
run yet steers nothing. -/
def State.rootChange (dy : Rat) (s : State) : State :=
  s.each [0, 1, 2, 3] fun l t =>
    t.when (t.on (DPL_CFG_ENABLE l)) fun t =>
      let lp := t.loop l
      let t := t.setLoop l { lp with integ := lp.integ - dy, y := if t.loopState l = 0 then lp.y - dy else lp.y }
      t.when (t.loopState l != 0) (State.setY l (lp.y - dy))

/-! ### One time-base cycle -/

/-- One cycle of a busy ramp (R159): r moves at S, in HOLDOVER and FREERUN at most at PSL. -/
def State.rampTick (l : Nat) (s : State) : State :=
  let lp := s.loop l
  let r := lp.ramp
  if !r.busy then s
  else if r.freq then s.when (decide (s.baseY l = s.yNom + lp.yt)) (State.rampFinish l)
  else
    let x := towards (r.goal * rampUnit) (s.rampStep l) r.r
    if x = r.goal * rampUnit then s.rampFinish l else s.setLoop l { lp with ramp := { r with r := x } }

/-- One cycle of a loop: FREERUN moves to nominal frequency at FSL, or at S in a frequency ramp (R156, R160); a shadow
counter counts (R139); a complete step ends STEPPING (R153). -/
def State.loopTick (l : Nat) (s : State) : State :=
  let s := s.rampTick l
  let s := if l < 2 then s else s.setLoop l { s.loop l with shadow := ((s.loop l).shadow + (s.loop l).inc) % cSpan }
  let s := s.when (s.on (DPL_STATUS_STEPPING l) && (s.loop l).stepping == 0) (·.set (DPL_STATUS_STEPPING l) 0)
  let lp := s.loop l
  if s.loopState l = 4 then
    let goal := s.yNom + lp.yt
    let d : Rat := if lp.ramp.busy && lp.ramp.freq then (lp.ramp.rate : Rat) / (65536 * 10 ^ 9 * 312500000 : Nat) else s.fslCycle l
    let b := s.baseY l
    if b = goal && lp.slope = s.rampSlope l then s else s.setBase l (towardsRat goal d b)
  else if s.loopState l = 3 && (s.holdLoop l).entering then
    let goal := s.yHold l
    let b := s.baseY l
    let x := towardsRat goal (s.fslCycle l) b
    (s.setBase l x).when (decide (x = goal)) fun t => t.setHoldLoop l { t.holdLoop l with entering := false }
  else if s.loopState l = 3 && lp.slope ≠ s.rampSlope l then s.setBase l (s.baseY l)
  else s

end Sys2Proof.Machine
end

