-- ==== Sys2Proof/Machine/NvBase.lean ====
section
/-! DEFINITION. Operations on the NV store (chapter 19) that raise no fault: the array and its write buffer, commits under
the token bucket of R500, and hot saves. -/

namespace Sys2Proof.Machine

/-! ### Array and buffer -/

/-- Octets of a page of the array (R393, R394). -/
def State.nvArrayPage (s : State) (k : Nat) : List Octet := smRange s.nvs.array (256 * k) 256

/-- The buffered octets of a page (R398). -/
def State.nvBuffered (s : State) (k : Nat) : Option (List Octet) := (s.nvs.buffer.find? fun p => p.1 == k).map (·.2)

/-- An octet as a READ returns it: buffer first (R397). -/
def State.nvByte (s : State) (a : Nat) : Octet :=
  match s.nvBuffered (a / 256) with
  | some bs => bs.getD (a % 256) 0
  | none => smAt s.nvs.array a

/-- `n` octets from an NV address. -/
def State.nvOctets (s : State) (a n : Nat) : List Octet := (List.range n).map fun j => s.nvByte (a + j)

/-- DIRTY follows the buffer. -/
def State.nvDirty (s : State) : State := s.set NVS_STATUS_DIRTY s.nvs.buffer.length

/-- Pages in ascending order, one buffered page replaced or added. -/
def insertPage (k : Nat) (bs : List Octet) : List (Nat × List Octet) → List (Nat × List Octet)
  | [] => [(k, bs)]
  | p :: ps => if k = p.1 then (k, bs) :: ps else if k < p.1 then (k, bs) :: p :: ps else p :: insertPage k bs ps

/-- One octet of the write buffer; its page is loaded first (R398). -/
def State.nvPutByte (a : Nat) (b : Octet) (s : State) : State :=
  let k := a / 256
  let bs := (s.nvBuffered k).getD (s.nvArrayPage k)
  { s with nvs := { s.nvs with buffer := insertPage k (bs.set (a % 256) b) s.nvs.buffer } }

/-- Octets copied into the write buffer in ascending order (R398). -/
def State.nvPut (a : Nat) (bs : List Octet) (s : State) : State :=
  (((List.range bs.length).zip bs).foldl (fun t p => t.nvPutByte (a + p.1) p.2) s).nvDirty

/-- Is a page protected at a level (R410)? -/
def pageProtected (level k : Nat) : Bool :=
  level == 3 || (level == 2 && decide (256 ≤ k)) || (level == 1 && decide (384 ≤ k))

/-- Pages a range of bytes touches. -/
def pagesOf (a n : Nat) : List Nat := if n = 0 then [] else (List.range ((a + n - 1) / 256 - a / 256 + 1)).map (a / 256 + ·)

/-! ### Tokens and commits -/

/-- Would the bucket take a commit of these pages (R500)? (DEDUCED, log entry 49) -/
def State.bucketTakes (s : State) (pages : List Nat) : Bool :=
  decide (0 < s.get PWR_TOKENS_TOKENS) && pages.all fun k => smAt s.pwr.wear k < 27

/-- A token is drawn (DEDUCED, log entry 49). -/
def State.drawToken (s : State) : State := s.set PWR_TOKENS_TOKENS (s.get PWR_TOKENS_TOKENS - 1)

/-- A refusal of the bucket (R401) (DEDUCED, log entry 49). -/
def State.bucketRefuses (s : State) : State := (s.count PWR_TOKENS_REFUSALS).raise NVS_EVT_COMMIT_REFUSED

/-- One page is programmed: the array takes its octets, its groups are sound, it leaves the buffer (R400) (DEDUCED, log entry
49). -/
def State.programPage (k : Nat) (s : State) : State :=
  match s.nvBuffered k with
  | none => s
  | some bs =>
    let n := s.nvs
    let s := { s with
      nvs := { n with
        array := smPutList n.array (256 * k) bs
        uncorr := n.uncorr.filter (· / 32 != k), corr := n.corr.filter (· / 32 != k)
        buffer := n.buffer.filter (·.1 != k) }
      pwr := { s.pwr with wear := smPut s.pwr.wear k (smAt s.pwr.wear k + 1) } }
    (s.count NVS_PROGRAMS_PROGRAMS).nvDirty

/-- Pages a commit reaches that are protected by then are dropped (R411, R416): what is left, and whether one was dropped. -/
def State.reachPages : List Nat → State → State × List Nat × Bool
  | [], s => (s, [], false)
  | k :: ks, s =>
    if pageProtected (s.get NVS_PROTECT_LEVEL) k then
      let s := ({ s with nvs := { s.nvs with buffer := s.nvs.buffer.filter (·.1 != k) } }.nvDirty).raise NVS_EVT_PROT_DROP
      let (t, rest, _) := State.reachPages ks s
      (t, rest, true)
    else (s, k :: ks, false)

/-- A commit stands before the first of its pages. -/
def State.jobReach (j : NvJob) (s : State) : State :=
  let (t, rest, lost) := State.reachPages j.pages s
  { t with nvs := { t.nvs with job := some { j with pages := rest, lost := j.lost || lost } } }

/-- A commit of every dirty page (R400, R401): status 0 OK, 4 REFUSED, 5 PFW. A commit asked for while one is in progress
joins it. -/
def State.commitStart (cmd : Bool) (why : List (Nat × Nat)) (s : State) : State × Nat :=
  let pages := s.nvs.buffer.map (·.1)
  if s.on NVS_STATUS_PFW_ACTIVE then (s, 5)
  else if pages.isEmpty then (s, 0)
  else if !s.bucketTakes pages then (s.bucketRefuses, 4)
  else
    let s := s.drawToken
    let job : NvJob := match s.nvs.job with
      | none => ⟨pages, false, cmd, why, s.cyc⟩
      | some j => { j with pages := j.pages ++ pages.filter fun k => !j.pages.contains k, cmd := j.cmd || cmd, why := j.why ++ why }
    ((s.jobReach job).set NVS_STATUS_COMMITTING 1, 0)

/-- The page being programmed is done, and the next is reached (R400). -/
def State.jobPage (s : State) : State :=
  match s.nvs.job with
  | some j => match j.pages with
    | k :: ks => (s.programPage k).jobReach { j with pages := ks, start := j.start + 12500 }
    | [] => s
  | none => s

/-- One cycle of a commit: a page takes 40 µs, 12,500 cycles (R400). -/
def State.jobTick (s : State) : State :=
  match s.nvs.job with
  | some j => s.when (decide (j.start + 12500 ≤ s.cyc + 1)) State.jobPage
  | none => s

/-- BUSY of an operation that needed no programming ends with the cycle (R396). -/
def State.nvTick (s : State) : State :=
  let s := s.jobTick
  let waits := (match s.nvs.job with | some j => j.cmd | none => false) || (match s.nvs.save with | some x => x.2 | none => false)
  s.when (!waits) (·.set NVS_CMD_BUSY 0)

/-- The commit in progress programs what is left of its pages and ends: the state and its status, 0 OK or 3 PROTECTED (R400,
R411). -/
def State.commitFinish (j : NvJob) (s : State) : State × Nat :=
  let s := s.each j.pages fun _ => State.jobPage
  let st := match s.nvs.job with | some k => if k.lost then 3 else 0 | none => 0
  let s := { s with nvs := { s.nvs with job := none } }
  let s := (s.raise NVS_EVT_COMMIT_DONE).setB NVS_STATUS_COMMITTING s.nvs.save.isSome
  let s := s.when j.cmd fun t => (t.set NVS_CMD_STATUS st).set NVS_CMD_BUSY 0
  (s, st)

/-- May coachman B write a record into these pages and commit it: protection and bucket are tested before anything enters the
buffer (R184)? -/
def State.recordTaken (s : State) (pages : List Nat) : Bool :=
  !s.on NVS_STATUS_PFW_ACTIVE && pages.all (fun k => !pageProtected (s.get NVS_PROTECT_LEVEL) k) &&
    s.bucketTakes (pages ++ s.nvs.buffer.map (·.1)) &&
    decide ((pages ++ s.nvs.buffer.map (·.1)).eraseDups.length ≤ 16)

/-! ### The hot image -/

/-- Octets of the hot image in RAM (R404). -/
def State.hotPut (a : Nat) (bs : List Octet) (s : State) : State := { s with nvs := { s.nvs with hot := smPutList s.nvs.hot a bs } }
def State.hotGet (s : State) (a n : Nat) : List Octet := smRange s.nvs.hot a n

/-- Octets of a fault entry. -/
def FaultEntry.octets (e : FaultEntry) : List Octet := [e.w0, e.w1, e.w2, e.w3].flatMap fun w => octetsLE 4 w.toNat

/-- A hot save begins (R405): the image takes its tail, CAUSE, the next SEQ and the CRC, and programming starts. -/
def State.hotSaveStart (cause : Nat) (cmd : Bool) (s : State) : State :=
  let tail := s.flt.tail.reverse.flatMap FaultEntry.octets
  let s := s.hotPut 0x210 (tail ++ List.replicate (1024 - tail.length) 0)
  let seq := (fromLE (s.hotGet 4 4) + 1) % 2 ^ 32
  let s := s.hotPut 0 (octetsLE 4 0x54485A51 ++ octetsLE 4 seq ++ octetsLE 1 cause ++ List.replicate 7 0)
  let s := s.hotPut 0x7FC (octetsLE 4 (crc32 (s.hotGet 0 0x7FC)))
  let s := { s with nvs := { s.nvs with save := some (cause, cmd), saveStart := s.cyc } }
  (s.set NVS_STATUS_HOT_SEQ seq).set NVS_STATUS_COMMITTING 1

/-- The half a save goes to: A unless A was used last (R405). -/
def State.hotTarget (s : State) : Nat := if s.nvs.half = 1 then 2 else 1

/-- A hot save has programmed its 8 pages into the other half (R405); its programs count against the wear of a page only where
it drew a token (R500). -/
def State.hotSaveFinish (counted : Bool) (s : State) : State :=
  let h := s.hotTarget
  let s := { s with nvs := { s.nvs with
    array := smPutList s.nvs.array ((h - 1) * 0x800) (s.hotGet 0 0x800)
    uncorr := s.nvs.uncorr.filter (fun g => g / 256 != h - 1), corr := s.nvs.corr.filter (fun g => g / 256 != h - 1)
    half := h } }
  let s := if counted then s.each ((List.range 8).map (· + 8 * (h - 1))) fun k t =>
      { t with pwr := { t.pwr with wear := smPut t.pwr.wear k (smAt t.pwr.wear k + 1) } }
    else s
  s.countBy NVS_PROGRAMS_PROGRAMS 8

/-- The hot save in progress ends (R405, R408); nothing is programmed where protection now covers the array (R412). -/
def State.hotSaveEnd (s : State) : State :=
  match s.nvs.save with
  | none => s
  | some (cause, cmd) =>
    let st := if s.get NVS_PROTECT_LEVEL = 3 then 3 else 0
    let s := if st = 0 then s.hotSaveFinish (cause == 3) else s
    let s := { s with nvs := { s.nvs with save := none } }
    let s := s.setB NVS_STATUS_COMMITTING s.nvs.job.isSome
    let s := s.when (decide (cause = 0)) (·.raise (if st = 0 then NVS_EVT_PFW_SAVE else NVS_EVT_PFW_SKIP))
    s.when cmd fun t => (t.set NVS_CMD_STATUS st).set NVS_CMD_BUSY 0

/-- A HOT_SAVE operation (R406): status 0 OK, 3 PROTECTED, 4 REFUSED, 5 PFW (DEDUCED, log entry 49). -/
def State.hotSaveOp (cmd : Bool) (s : State) : State × Nat :=
  if s.on NVS_STATUS_PFW_ACTIVE then (s, 5)
  else if s.get NVS_PROTECT_LEVEL = 3 then (s, 3)
  else if !s.bucketTakes ((List.range 8).map (· + 8 * (s.hotTarget - 1))) then (s.bucketRefuses, 4)
  else (s.drawToken.hotSaveStart 3 cmd, 0)

end Sys2Proof.Machine
end

