-- ==== Sys2Proof/Machine/Faults.lean ====
section
/-! DEFINITION. Reporting a fault, the one operation every rule that logs a fault calls; and, as the cycle ends, logging the
faults of the cycle and performing their reactions (chapter 23). -/

namespace Sys2Proof.Machine

/-- Identifiers of the masters (R29). -/
def masterId : Master → Nat
  | .spi => 1 | .pcie => 2 | .i2c => 3 | .coachA => 4 | .coachB => 5 | .dma => 6 | .loader => 7 | .jtag => 8

/-- Class of a source (R20, R474): 0 FATAL, 1 SEVERE, 2 WARN, 3 INFO. -/
def faultClass (src inst : Nat) : Nat :=
  if src = 0x17 then 0
  else if (src = 0x28 ∨ src = 0x29) ∧ inst = 0 then 0
  else if src = 0x08 ∨ src = 0x22 ∨ src = 0x24 then 3
  else if (0x10 ≤ src ∧ src ≤ 0x18) ∨ (0x28 ≤ src ∧ src ≤ 0x2E) then 1
  else 2

/-- The access a fault came from: its master, whether it was a write, its address (R474, R478). -/
abbrev FaultAccess := Option (Master × Bool × Nat)

/-- The entry of a fault (R478). -/
def State.faultEntry (s : State) (src inst : Nat) (acc : FaultAccess) : FaultEntry :=
  let (m, k, a) := match acc with
    | none => (0, 0, 0)
    | some (m, w, a) => (masterId m, if w then 2 else 1, a)
  let t := s.domTime 0
  ⟨packWord [(src, 24), (faultClass src inst, 22), (m, 18), (k, 16), (s.flt.seq, 0)], packWord [(inst, 24), (a, 0)],
    packWord [(s.get (TIM_STATUS_SEC_VALID 0), 31), (t / 2 ^ 40 % 10 ^ 9, 0)], BitVec.ofNat 32 (t / secUnit)⟩

/-- FAULT_N as the collector drives it (R477) (DEDUCED, log entry 65). -/
def State.faultNEval (s : State) : State :=
  s.setB FLT_STATUS_FAULT_N_LOW
    (s.flt.pulse || s.on FLT_CTRL_HOLD || s.flt.resetCause.isSome || s.get GLB_BOOT_STATUS_STATE == 6)

/-- Octets of a page of the event log (R482); entries newest first. -/
def logPageOctets (seq : Nat) (entries : List FaultEntry) : List Octet :=
  let head := octetsLE 4 0x4C455A51 ++ octetsLE 4 seq ++ octetsLE 1 entries.length ++ List.replicate 3 0
  let body := entries.reverse.flatMap FaultEntry.octets
  let body := body ++ List.replicate (240 - body.length) 0
  head ++ octetsLE 4 (crc32 (head ++ body)) ++ body

/-- An NVLOG entry was not written (R482). -/
def State.nvlogLose (s : State) : State := (s.count FLT_NVLOG_NVLOG_LOST).raise FLT_EVT_NVLOG_LOST

/-- The open page takes these entries, in the write buffer (R482) (DEDUCED, log entry 51). -/
def State.openPage (page seq : Nat) (entries : List FaultEntry) (s : State) : State :=
  ({ s with flt := { s.flt with page := page, pageSeq := seq, pageEntries := entries } }).nvPut (0x1000 + 256 * page)
    (logPageOctets seq entries)

/-- An NVLOG entry reaches the open page (R482): a full page that is not committed yet takes none, and neither does a full
write buffer. -/
def State.pageAppend (e : FaultEntry) (s : State) : State :=
  let f := s.flt
  let pending (p : Nat) : Bool := (s.nvBuffered (16 + p)).isSome
  let room (p : Nat) : Bool := pending p || decide (s.nvs.buffer.length < 16)
  if f.pageEntries.length < 15 then
    (if room f.page then s.openPage f.page (if f.pageSeq = 0 then 1 else f.pageSeq) (e :: f.pageEntries) else s.nvlogLose)
  else if pending f.page then s.nvlogLose
  else
    let p := (f.page + 1) % 112
    if room p then s.openPage p ((f.pageSeq + 1) % 2 ^ 32) [e] else s.nvlogLose

/-- An NVLOG entry (R482): it enters the hot tail, and the open page once the log has been recovered and while protection
lets the log be saved (DEDUCED, log entry 51). -/
def State.nvlogAppend (e : FaultEntry) (s : State) : State :=
  let s := { s with flt := { s.flt with tail := (e :: s.flt.tail).take 64 } }
  s.when (s.get NVS_PROTECT_LEVEL != 3 && s.get GLB_STATUS_MODE != 0) (State.pageAppend e)

/-- Counting and the first capture (R480). -/
def State.faultCount (cls : Nat) (e : FaultEntry) (s : State) : State :=
  let s := match cls with
    | 0 => s.count FLT_COUNT2_FATAL | 1 => s.count FLT_COUNT_SEVERE | 2 => s.count FLT_COUNT_WARN | _ => s.count FLT_COUNT_INFO
  if cls = 3 then s
  else if s.on FLT_STATUS_FIRST_VALID then s.count FLT_FIRST_OVF_OVF
  else ((((s.wr (FLT_FIRST_W 0) e.w0).wr (FLT_FIRST_W 1) e.w1).wr (FLT_FIRST_W 2) e.w2).wr (FLT_FIRST_W 3) e.w3).set
    FLT_STATUS_FIRST_VALID 1

/-- The reactions of a fault, with the bits of FLT_REACT (R475, R486) (DEDUCED, log entry 65). -/
def State.faultReactions (s : State) (src inst : Nat) : Nat :=
  let r := (s.rd (FLT_REACT src)).toNat % 256
  if 0x28 ≤ src ∧ src ≤ 0x2E ∧ s.on NVS_STATUS_PFW_ACTIVE then 1
  else if faultClass src inst = 0 then r ||| 0x8B
  else if src = 0x13 then r ||| 0x0C
  else r ||| 1

/-- The HOLD reaction: FORCE = 1 is written to the named loops that are enabled (R475) (DEDUCED, log entry 65). -/
def State.holdReaction (s : State) : State :=
  s.each (bitsOf (s.get FLT_CFG_HOLD_LOOPS) 4) fun l t =>
    t.when (t.on (DPL_CFG_ENABLE l)) fun t => (t.set (DPL_CTRL_FORCE l) 1).forceLoop l 1

/-- The RESET reaction begins (R476): FAULT_N, and a hot save that the bucket or protection may skip (DEDUCED, log entry 65). -/
def State.resetReaction (src : Nat) (s : State) : State :=
  let s := s.when (src == 0x28 || src == 0x29) fun t => { t with flt := { t.flt with resetHeld := true } }
  if s.flt.resetCause.isSome then s
  else
    let s := { s with flt := { s.flt with resetCause := some (if src = 0x17 then 2 else 3) } }
    (s.when s.nvs.save.isNone fun t => (t.hotSaveOp false).1)

/-- A fault is reported: the collector logs it as the cycle ends (R474, R475, R479) (DEDUCED, log entry 65). -/
def State.logFault (src inst : Nat) (acc : FaultAccess) (s : State) : State :=
  { s with flt := { s.flt with heard := s.flt.heard ++ [⟨src, inst, acc⟩] } }

/-- A fault is logged and its reactions are performed, but for RESET and PORT_SHUT, which come last (R474, R475, R478 to R482)
(DEDUCED, log entry 65). -/
def State.faultLogged (f : FaultReport) (s : State) : State :=
  let (src, inst, acc) := (f.src, f.inst, f.acc)
  let e := s.faultEntry src inst acc
  let r := s.faultReactions src inst
  let s := { s with flt := { s.flt with log := (e :: s.flt.log).take 256, seq := (s.flt.seq + 1) % 65536 } }
  let s := (s.set FLT_NVLOG_NEXT_SEQ s.flt.seq).faultCount (faultClass src inst) e
  let s := s.queueEvent 10 [e.w0, e.w1, e.w2, e.w3]
  let s := s.when (r.testBit 1) (State.nvlogAppend e)
  let s := s.when (r.testBit 2) (·.raise FLT_EVT_IRQ)
  let s := s.when (r.testBit 3) fun t => { t with flt := { t.flt with pulse := true } }
  let s := s.when (r.testBit 4) fun t => (t.set FLT_STATUS_SQ_ACTIVE 1).outEvalAll
  s.when (r.testBit 5) State.holdReaction

/-- Faults in the order in which those of one cycle are logged: by source code, then by instance (R479). -/
def insertFault (f : FaultReport) : List FaultReport → List FaultReport
  | [] => [f]
  | g :: gs => if f.src < g.src ∨ (f.src = g.src ∧ f.inst ≤ g.inst) then f :: g :: gs else g :: insertFault f gs
def sortFaults : List FaultReport → List FaultReport
  | [] => []
  | f :: fs => insertFault f (sortFaults fs)

/-- The collector logs the faults of the cycle that ends (R475, R479, R487): their reactions are in force from the next one, and a
RESET begins after all of them have been logged. `shut` is the PORT_SHUT reaction (DEDUCED, log entry 65). -/
def State.faultsLogged (shut : Nat → State → State) (s : State) : State :=
  match sortFaults s.flt.heard with
  | [] => s
  | f :: fs =>
    let all (g : FaultReport → State → State) (s : State) : State := (f :: fs).foldl (fun t f => g f t) s
    let s := all State.faultLogged { s with flt := { s.flt with heard := [] } }
    let s := all (fun f t => t.when (f.src == 0x20 && (t.rd (FLT_REACT 0x20)).getLsbD 6) (shut f.inst)) s
    let s := all (fun f t => t.when ((t.faultReactions f.src f.inst).testBit 7) (State.resetReaction f.src)) s
    s.faultNEval

/-- A WARN fault of source 0x04, raised by no access (R474). -/
def State.warn (s : State) : State := s.logFault 0x04 0 none

/-- A WARN fault of source 0x04 for a write that was not taken (R22, R474). -/
def State.refuseWrite (m : Master) (addr : Nat) (s : State) : State := s.logFault 0x04 0 (some (m, true, addr))

end Sys2Proof.Machine
end

