-- ==== Sys2Proof/Machine/Cycle.lean ====
section
/-! DEFINITION. The order in which the commands of one clock cycle act (R12, R29, R40, R109, R130, R157, R177, R203, R225, R239, R247,
R262, R281, R306, R320, R334, R335, R347, R356, R357, R381, R383, R391, R416, R428, R487, R502): the queue takes what arrives in a
cycle in that order, and idles, which ends the cycle, only when it is empty. -/

namespace Sys2Proof.Machine

/-- Accesses of one cycle are ordered by master (R29). They come before the events of the cycle, which they do not undo (R12) and which
meet what they write (R109, R262, R281, R347) (DEDUCED, log entry 6). -/
def regRank (m : Master) : Nat := 100 + masterId m

/-- A write that begins anew what an event of the cycle ends (R12, R262) comes after the events (DEDUCED, log entry 6). -/
def lateRank (m : Master) : Nat := 900 + masterId m

/-- A write of a register by its address, where its kind decides (R239, R428, R502) (DEDUCED, log entry 6). -/
def writeRank (m : Master) (a : Nat) (v : Word) : Nat :=
  let stat := decide (0x090000 ≤ a) && decide (a < 0x094000) && a == GAU_STAT_CTRL ((a - 0x090000) / 0x100)
  let mbx := blockOf a == some .mbx && a % 0x100 == 0x88
  let tim := a == TIM_CTRL 0 || a == TIM_CTRL 1
  if mbx ∧ v.getLsbD 1 then 50
  else if mbx ∧ v.getLsbD 0 then 60
  else if a = PWR_REQ then 70 + masterId m
  else if stat ∨ a = HOLD_CTRL ∨ a = NVS_CMD then lateRank m
  else if tim ∧ v.getLsbD 0 then 420
  else if tim ∧ v.getLsbD 2 then 430
  else regRank m

/-- The place of a command among those of its cycle: resets, the power-fail warning, the governor, the enter-workshop command, end
resets, releases, requests for a power state, DMA errors; then register accesses; then losses and ticks before what they decide;
then frames, by depot; then what an event starts anew (DEDUCED, log entry 6). -/
def rank : Instr → Nat
  | .resetNAssert _ | .resetNRelease _ | .supplyLoss _ | .faultReset => 0
  | .pfwNFall _ => 10
  | .temperatureReading _ => 20
  | .governorReading | .shedTimer => 30
  | .enterWorkshop _ => 40
  | .endReset _ _ _ _ | .pcieFunctionReset | .coreWatchdogExpiry _ | .extensionTimeout _ => 50
  | .release _ _ _ _ => 60
  | .powerRequest m _ => 70 + masterId m
  | .mirrorDmaError | .ringDmaError _ => 90
  -- register accesses (R29)
  | .registerWrite m a v => writeRank m a v
  | .spiWriteWord _ a v => writeRank .spi a v
  | .i2cWriteWord _ a v => writeRank .i2c a v
  | .pcieRequest w a vs _ => if w then writeRank .pcie a (vs.headD 0) else regRank .pcie
  | .jtagUpdateDr dr => if dr.testBit 57 then writeRank .jtag (dr / 2 ^ 33 % 2 ^ 24) (BitVec.ofNat 32 (dr / 2)) else regRank .jtag
  | .spiReadWord _ _ _ => regRank .spi
  | .i2cReadWord _ _ _ => regRank .i2c
  | .selManual _ | .outEnable _ | .timeSetSec _ | .timeRead _ => regRank .coachA
  | .rcRead m _ | .multiWordLowRead m _ | .txtsPop m | .bootDataWrite m _ | .restart m _ | .leadLoopWrite m _
  | .xoReturnRequest m _ | .gateRequest m _ | .domainSourceWrite m _ | .clkoutWrite m _ | .refEnableWrite m _ _ | .overrideWrite m _ _
  | .alignHiWrite m _ _ | .loopEnableWrite m _ _ | .forceWrite m _ _ | .rampStart m _ _ | .rampAbort m _ _ | .axleEnableWrite m _ _
  | .dllHoldWrite m _ _ | .hop m _ _ | .search m _ _ | .fwordHiWrite m _ _ | .stepHiWrite m _ _ | .stepAbort m _ _
  | .bandHiWrite m _ _ _ | .outputEnableWrite m _ _ | .phaseHiWrite m _ _ | .incHiWrite m _ _ | .setSec m _ _ | .snapshot m _
  | .targetHiWrite m _ _ | .gaugeEnableWrite m _ _ | .sessionEnableWrite m _ _ | .rebind m _ _ | .cplPortEnableWrite m _ _
  | .transfer m _ _ | .cplNodeWrite m _ | .portCfgWrite m _ _ | .clearPortCounters m _ _ | .i2cTransferStart m _ _ | .tableRead m _
  | .tableWriteOp m _ | .tableInsert m _ | .tableDelete m _ | .tableLookup m _ | .tableFlush m _ | .bufClearCounts m _
  | .gclChange m _ _ | .schClearCounts m _ | .mirrorEnableWrite m _ | .ringRdWrite m _ | .mirClearCounts m _ | .protectWrite m _
  | .ringLenWrite m _ _ | .clearFirst m _ | .sqRelease m _ | .sendW0Write m _ _ _ => regRank m
  -- losses (R157, R306, R381), the conditions of a reference (R109), expiry before completion (R177)
  | .xoActivityLoss | .xoFrequencyLoss _ _ | .pcsLockLost _ _ | .missLimit _ | .syncTimeout _ | .sourceLost _ => 200
  | .refTick1s _ => 210
  | .refTick100ms _ => 220
  | .activityLoss _ _ => 230
  | .qualificationWaitEnd _ => 240
  | .spragExpiry _ => 300
  | .changeoverComplete _ | .forcedRefNoEdge _ => 310
  -- the operations on a domain (R239), then served time (R247)
  | .loopUpdate _ => 400
  | .loopStepComplete _ => 410
  | .set _ _ _ => 420
  | .step _ _ _ => 430
  | .secondBoundary _ => 440
  | .servedRevert => 450
  -- calibration before stamps, HELLO before messages (R306); a port up before its timers (R320, R356)
  | .laneCalibrationPath _ _ _ | .calOkSet _ => 500
  | .helloReceive _ _ => 510
  | .pcsLockGained _ _ _ => 520
  | .downHoldExpiry _ | .graceExpiry _ => 530
  -- gates and holds before slots, promotions before iterations (R381); sweeps before frames (R335), frames by depot (R334)
  | .gclSwap _ => 600
  | .gateBoundary _ | .pauseReceive _ _ | .holdAssert _ => 610
  | .promotion _ _ _ => 620
  | .turntableIteration => 630
  | .mailFetch _ | .slotStart _ => 640
  | .frameTransmitEnd _ | .flushComplete _ | .ageingSweep => 650
  | .frameReceive p _ _ => 660 + p / 12
  | .packetTx _ _ => 664
  | .frameTailArrival _ _ _ _ _ => 670
  | .mailDeparture _ _ => 680
  | .resequencerGapTimeout _ => 690
  -- what an event starts anew
  | .statStart m _ _ | .statAbort m _ _ | .clear m _ | .nvReadOp m _ | .nvWriteOp m _ | .nvCommitOp m _ | .nvDiscardOp m _
  | .nvHotSaveOp m _ => lateRank m
  | _ => 700

/-- A command takes its place among those of its cycle; commands of one place keep the order in which they came (DEDUCED, log
entry 6). -/
def insertCommand (c : Instr) : List Instr → List Instr
  | [] => [c]
  | d :: ds => if rank c ≤ rank d then c :: d :: ds else d :: insertCommand c ds
/-- The commands of one cycle in the order in which they act (DEDUCED, log entry 6). -/
def cycleOrder : List Instr → List Instr
  | [] => []
  | c :: cs => insertCommand c (cycleOrder cs)

/-- The commands that arrive in one cycle join the queue (R12, R29, R40) (DEDUCED, log entry 6). -/
def State.arrive (cs : List Instr) (s : State) : State := { s with pending := s.pending ++ cycleOrder cs }

end Sys2Proof.Machine
end

