-- ==== Sys2Proof/Machine/Operands.lean ====
section
/-! DEFINITION. What a written word does to the fields of a register: access codes (R11), reserved bits (R8) and ranges
(R25); and the numbers of the units a command may name. -/

namespace Sys2Proof.Machine

/-- Does a value lie in the range a field states (R25)? -/
def Range.holds (w v : Nat) : Range → Bool
  | .any => true
  | .nat lo hi => decide (lo ≤ v ∧ v ≤ hi)
  | .natOrZero lo hi => decide (v = 0 ∨ lo ≤ v ∧ v ≤ hi)
  | .int lo hi => decide (lo ≤ signedOf w v ∧ signedOf w v ≤ hi)

/-- One field of a written word: the register's new word, and whether the value was out of range (DEDUCED, log entry 71). -/
def writeField (v : Word) (f : FieldRow) (acc : Word × Bool) : Word × Bool :=
  let x := getBits v f.lo f.width
  let old := getBits acc.1 f.lo f.width
  match f.access with
  | .ro => acc
  | .rc => acc
  | .rw => if f.range.holds f.width x then (putBits acc.1 f.lo f.width x, acc.2) else (acc.1, true)
  | .wo => if f.range.holds f.width x then (putBits acc.1 f.lo f.width x, acc.2) else (acc.1, true)
  | .w1c => (putBits acc.1 f.lo f.width (old &&& (2 ^ f.width - 1 - x)), acc.2)
  | .w1s => (putBits acc.1 f.lo f.width (old ||| x), acc.2)

/-- All fields of a written word (R8, R11, R25): a bit that no field holds stays as it is (DEDUCED, log entry 71). -/
def writeFields (fs : List FieldRow) (old v : Word) : Word × Bool :=
  fs.foldl (fun acc f => writeField v f acc) (old, false)

/-- What a read returns: a WO field reads zero (R11). -/
def readFields (fs : List FieldRow) (w : Word) : Word :=
  fs.foldl (fun acc f => if f.access = .wo then putBits acc f.lo f.width 0 else acc) w

/-- What a read leaves in the register: an RC field is cleared (R11). -/
def clearedFields (fs : List FieldRow) (w : Word) : Word :=
  fs.foldl (fun acc f => if f.access = .rc then putBits acc f.lo f.width 0 else acc) w

/-- A written word with one field replaced by the value the register holds: what a rule that leaves a field unchanged writes. -/
def keepField (s : State) (f : FieldRef) (v : Word) : Word := putBits v f.lo f.width (s.get f)

/-- A written word with several fields kept. -/
def keepFields (s : State) (fs : List FieldRef) (v : Word) : Word := fs.foldl (fun v f => keepField s f v) v

/-- Would a written word change a field? -/
def changes (s : State) (f : FieldRef) (v : Word) : Bool := getBits v f.lo f.width != s.get f

/-- The value a written word gives a field. -/
def fieldOf (f : FieldRef) (v : Word) : Nat := getBits v f.lo f.width

end Sys2Proof.Machine
end

