-- ==== Sys2Proof/Machine/Access.lean ====
section
/-! DEFINITION. An access to a register as every master makes it: what the device answers before a register is reached
(R9, R14, R42, R49, R79), and the write of a register that has no behaviour of its own (R11, R25). -/

namespace Sys2Proof.Machine

/-- A multi-word value: address of its lowest word, repetition, number of words (R7, R464). -/
structure MultiRow where
  base : Nat
  dims : List (Nat × Nat)
  words : Nat
  deriving DecidableEq, Repr, Inhabited

/-- The multi-word values of the register tables (R464). -/
def multiRows : List MultiRow := [
  ⟨0x00010C, [], 2⟩,
  ⟨0x028000, [], 2⟩,
  ⟨0x028008, [], 2⟩,
  ⟨0x028108, [], 2⟩,
  ⟨0x030058, [(0x400, 4)], 2⟩,
  ⟨0x030088, [(0x400, 4)], 2⟩,
  ⟨0x030090, [(0x400, 4)], 2⟩,
  ⟨0x0300A0, [(0x400, 4)], 2⟩,
  ⟨0x0300A8, [(0x400, 4)], 2⟩,
  ⟨0x040038, [(0x1000, 4)], 2⟩,
  ⟨0x040088, [(0x1000, 4)], 2⟩,
  ⟨0x040090, [(0x1000, 4)], 2⟩,
  ⟨0x040098, [(0x1000, 4)], 2⟩,
  ⟨0x050090, [], 2⟩,
  ⟨0x050098, [], 2⟩,
  ⟨0x050110, [(0x20, 4)], 2⟩,
  ⟨0x060008, [(0x1000, 4)], 2⟩,
  ⟨0x060010, [(0x1000, 4)], 2⟩,
  ⟨0x060020, [(0x1000, 4)], 2⟩,
  ⟨0x061100, [(0x1000, 3), (0x10, 16)], 2⟩,
  ⟨0x070014, [(0x100, 24)], 2⟩,
  ⟨0x080010, [(0x100, 2)], 2⟩,
  ⟨0x08001C, [(0x100, 2)], 2⟩,
  ⟨0x080030, [(0x100, 2)], 4⟩,
  ⟨0x080040, [(0x100, 2)], 2⟩,
  ⟨0x080208, [(0x8, 2)], 2⟩,
  ⟨0x080220, [], 3⟩,
  ⟨0x080230, [], 4⟩,
  ⟨0x080310, [], 4⟩,
  ⟨0x080320, [], 4⟩,
  ⟨0x080330, [], 4⟩,
  ⟨0x090060, [(0x100, 64)], 4⟩,
  ⟨0x090070, [(0x100, 64)], 2⟩,
  ⟨0x090088, [(0x100, 64)], 2⟩,
  ⟨0x090090, [(0x100, 64)], 2⟩,
  ⟨0x090098, [(0x100, 64)], 2⟩,
  ⟨0x098008, [], 2⟩,
  ⟨0x0A0010, [], 5⟩,
  ⟨0x0A0108, [], 2⟩,
  ⟨0x0A0110, [], 2⟩,
  ⟨0x0A4014, [(0x40, 192)], 2⟩,
  ⟨0x0A401C, [(0x40, 192)], 2⟩,
  ⟨0x0B1024, [(0x80, 48)], 2⟩,
  ⟨0x0B102C, [(0x80, 48)], 2⟩,
  ⟨0x10000C, [(0x1000, 48)], 2⟩,
  ⟨0x100200, [(0x1000, 48), (0x8, 26)], 2⟩,
  ⟨0x281068, [(0x100, 50)], 2⟩,
  ⟨0x2C0008, [], 2⟩,
  ⟨0x2C0010, [], 2⟩,
  ⟨0x2C0020, [], 2⟩,
  ⟨0x320100, [(0x20, 2)], 2⟩,
  ⟨0x330020, [], 4⟩,
  ⟨0x330044, [], 4⟩,
  ⟨0x340020, [], 2⟩]

/-- The multi-word value whose lowest word lies at `a`. -/
def multiLow (a : Nat) : Option Nat :=
  (multiRows.find? fun r => decide (r.base ≤ a) && rowHit r.dims (a - r.base)).map (·.words)

/-- The multi-word value that holds `a` as a higher word: address of its lowest word and the place of `a`. -/
def multiHigh (a : Nat) : Option (Nat × Nat) :=
  [1, 2, 3, 4].findSome? fun j =>
    match multiLow (a - 4 * j) with
    | some w => if 4 * j ≤ a ∧ j < w then some (a - 4 * j, j) else none
    | none => none

/-- Does a master hold privilege (R15, R60)? HIF_PRIV shows it for the interfaces. -/
def State.privileged (s : State) (m : Master) : Bool :=
  let p := s.get HIF_PRIV_PRIV
  match m with
  | .pcie => p.testBit 1 | .i2c => p.testBit 2 | .jtag => p.testBit 3 | _ => true

/-- The bit of CGU_GATE that gates an address (R77, R79): the module-poll registers of a port and the registers of the four I2C
masters, which lie at P0 to P3, are not gated. -/
def gateBit (a : Nat) : Option Nat :=
  match blockOf a with
  | some .prt =>
    let off := a % 0x1000
    if (0x40 ≤ off ∧ off < 0x4C) ∨ (0xC00 ≤ off ∧ off < 0xD80 ∧ a < 0x104000) ∨ 48 ≤ (a - 0x100000) / 0x1000 then none
    else some ((a - 0x100000) / 0x4000)
  | some .fwd => some 16 | some .buf => some 17 | some .sch => some 18 | some .mir => some 19 | some .tse => some 20
  | some .cpl => some 21 | some .gau => some 22 | _ => none

/-- Gates asked to be closed, by CGU_GATE or the power governor (R77) (DEDUCED, log entry 14). -/
def State.gatesWanted (s : State) : Nat := (s.rd CGU_GATE).toNat ||| s.pwr.gates

/-- Is an address behind a gate that is in effect or asked to close (R78, R79)? -/
def State.gatedAt (s : State) (a : Nat) : Bool :=
  match gateBit a with
  | none => false
  | some b => s.gatesWanted.testBit b || (s.get CGU_GATE_STATUS_GATED).testBit b

/-- What an access meets. -/
inductive Verdict where
  /-- The access is never performed (R42, R49, R473). -/
  | never
  /-- The address lies outside every block (R9). -/
  | outside
  /-- The block is gated (R79). -/
  | gated
  /-- No register lies there (R9). -/
  | hole
  /-- A P register and a master without privilege (R14). -/
  | denied
  | row (r : RegRow)
  deriving DecidableEq, Repr

/-- What an access of master `m` to address `a` meets. -/
def State.verdict (s : State) (m : Master) (a : Nat) : Verdict :=
  if !s.boot.root || s.pwr.state == .vigil || s.pwr.state == .dormant then .never
  else match blockOf a with
    | none => .outside
    | some _ =>
      if s.gatedAt a then .gated
      else match regRow a with
        | none => .hole
        | some r => if r.priv && !s.privileged m then .denied else .row r

/-- The answer a master gets. -/
def State.answer (m : Master) (r : Reply) (s : State) : State :=
  { s with hif := { s.hif with reply := smPut s.hif.reply (masterId m) r } }

/-- An access ends with an error response (R463). -/
def State.errorReply (m : Master) (s : State) : State :=
  let s := s.answer m .error
  match m with
  | .spi => s.raise HIF_ERR_SPI_ERR
  | .i2c => s.raise HIF_ERR_I2C_ERR
  | .jtag => { (s.raise HIF_ERR_JTAG_ERR) with hif := { s.hif with jtagErr := true } }
  | _ => s

/-- A write of master `m` to address `a`, as every write begins; `eff` is what the register does with it. -/
def State.access (m : Master) (a : Nat) (eff : RegRow → State → State) (s : State) : State :=
  match s.verdict m a with
  | .never => s.answer m .none
  | .outside => (s.errorReply m).logFault 0x01 0 (some (m, true, a))
  | .gated => s.answer m .ok
  | .hole => (s.answer m .ok).logFault 0x01 0 (some (m, true, a))
  | .denied => (s.answer m .ok).logFault 0x02 0 (some (m, true, a))
  | .row r => eff r (s.answer m .ok)

/-- A read of master `m` at address `a`, as every read begins (R9, R14, R79); `val` is the word the register gives and what the
read does. -/
def State.readAccess (m : Master) (a : Nat) (val : RegRow → State → State × Word) (s : State) : State :=
  match s.verdict m a with
  | .never => s.answer m .none
  | .outside => (s.errorReply m).logFault 0x01 0 (some (m, false, a))
  | .gated => s.answer m (.data 0)
  | .hole => (s.answer m (.data 0)).logFault 0x01 0 (some (m, false, a))
  | .denied => s.answer m (.data 0)
  | .row r => let (t, w) := val r s; t.answer m (.data w)

/-- The shadow a master holds of the multi-word value whose lowest word lies at `a` (R464). -/
def State.shadowOf (s : State) (m : Master) (a : Nat) : List Word := smAt s.hif.shadow (16 * a + masterId m)
def State.setShadow (m : Master) (a : Nat) (ws : List Word) (s : State) : State :=
  { s with hif := { s.hif with shadow := smPut s.hif.shadow (16 * a + masterId m) ws } }

/-- The write of a register: its fields take the word, and a value out of range leaves its field and logs a WARN fault
(R11, R25) (DEDUCED, log entry 71). -/
def State.plainWrite (m : Master) (a : Nat) (v : Word) (r : RegRow) (s : State) : State :=
  let (w, bad) := writeFields r.fields (s.rd a) v
  (s.wr a w).when bad (State.logFault 0x03 0 (some (m, true, a)))

/-- A value a block's rule finds out of range: the write leaves the register and logs a WARN fault (R25) (DEDUCED, log entry
71). -/
def State.badRange (m : Master) (a : Nat) (s : State) : State := s.logFault 0x03 0 (some (m, true, a))

end Sys2Proof.Machine
end

