-- ==== Sys2Proof/Machine/Time.lean ====
section
/-! DEFINITION. Time counters and served time (chapter 10): setting a domain, its increment, snapshots, and the registers of
served time. -/

namespace Sys2Proof.Machine

/-- The increment is written by a host only while the loop of the domain reads OFF (R229); the HI word takes effect. -/
def State.incWrite (m : Master) (d : Nat) (hi : Bool) (v : Word) (r : RegRow) (s : State) : State :=
  let a := if hi then TIM_INC_HI d else TIM_INC_LO d
  if s.loopState d ≠ 0 then s.refuseWrite m a
  else if !hi then s.plainWrite m a v r
  else
    let inc := (s.rd (TIM_INC_LO d)).toNat + fieldOf (TIM_INC_HI_INC_HI d) v * 2 ^ 32
    if inc < 3516677990279 ∨ 3520196427487 < inc then s.badRange m a
    else (s.plainWrite m a v r).setInc d inc

/-- SET (R231). -/
def State.timSet (m : Master) (d : Nat) (s : State) : State :=
  if s.loopState d ≠ 0 then (s.raise (TIM_EVT_CFG_ERR d)).refuseWrite m (TIM_CTRL d)
  else
    let sec := s.getWide (TIM_SET_SEC_LO d) (TIM_SET_SEC_HI d) 16
    let c := sec * secUnit + s.get (TIM_SET_NS_NS d) * 2 ^ 40
    (((s.retime d c 0).raise (TIM_EVT_STEPPED d)).count (TIM_COUNT_C_STEPS d)).secValid d

/-- STEP (R232). -/
def State.timStep (m : Master) (d : Nat) (s : State) : State :=
  let sec := s.getI (TIM_STEP_SEC_STEP_SEC d)
  let ns := s.getI (TIM_STEP_NS_STEP_NS d)
  if ns ≠ 0 ∧ s.loopState d ≠ 0 then (s.raise (TIM_EVT_CFG_ERR d)).refuseWrite m (TIM_CTRL d)
  else
    let s := if sec = 0 then s else s.retime d (s.dom d).c ((((s.dom d).e : Int) + sec) % (2 ^ 48 : Int)).toNat
    if ns = 0 then s else s.stepC d (ns * 2 ^ 40)

/-- A write of TIM_CTRL: SET, then STEP, and the arming of SET_SEC (R231 to R233, R239). -/
def State.timCtrlWrite (m : Master) (d : Nat) (v : Word) (_ : RegRow) (s : State) : State :=
  let s := s.when (v.getLsbD 0) (State.timSet m d)
  let s := s.when (v.getLsbD 2) (State.timStep m d)
  s.when (v.getLsbD 1) (·.set (TIM_STATUS_SEC_PENDING d) 1)

/-- The second that begins at the boundary at hand: the count carried in this cycle, or carries next. -/
def State.boundarySec (s : State) (d : Nat) : Nat :=
  let c := (s.dom d).c
  if c % secUnit < (s.dom d).inc then c / secUnit else (c / secUnit + 1) % 2 ^ 48

/-- A second boundary of a domain (R233, R234, R240) (DEDUCED, log entry 31). -/
def State.secondBoundary (d : Nat) (s : State) : State :=
  let s := s.relabel d (s.boundarySec d)
  s.when (decide (d = 0) && s.on TIM_SNAP_CTRL_TRIG) State.snapshot

/-- A write of TIM_SNAP_CTRL (R240). -/
def State.snapWrite (m : Master) (v : Word) (r : RegRow) (s : State) : State :=
  let s := s.plainWrite m TIM_SNAP_CTRL v r
  s.when (s.on TIM_SNAP_CTRL_TAKE) fun t => (t.set TIM_SNAP_CTRL_TAKE 0).snapshot

/-- A target takes effect with its HI word (R241). -/
def State.targetHi (m : Master) (d : Nat) (v : Word) (r : RegRow) (s : State) : State :=
  let s := s.plainWrite m (TIM_SRV_TGT_HI d) v r
  let x := s.getWideI (TIM_SRV_TGT_LO d) (TIM_SRV_TGT_HI d) 16
  let s := if d = 0 then { s with tim := { s.tim with tgtA := x } } else { s with tim := { s.tim with tgtB := x } }
  s.setAcc s.tim.acc

/-- A write of TIM_SRV_CFG (R246, R247). -/
def State.srvCfgWrite (m : Master) (v : Word) (r : RegRow) (s : State) : State :=
  let old := s.get TIM_SRV_CFG_SRC
  let s := s.plainWrite m TIM_SRV_CFG v r
  let src := s.get TIM_SRV_CFG_SRC
  if !s.on TIM_SRV_CFG_AUTO then s.setSrc src
  else if src ≠ old then (if s.falls src then s else s.setSrc src)
  else s.autoSource

/-- The return to the primary after REVERT_WAIT s of LOCKED (R246). -/
def State.servedRevert (s : State) : State :=
  let p := s.get TIM_SRV_CFG_SRC
  s.when (s.on TIM_SRV_CFG_AUTO && s.srvSrc != p && s.on TIM_SRV_CFG_REVERT && s.loopState p == 2 && s.on (TIM_STATUS_SEC_VALID p))
    (State.setSrc p)

/-- acc has reached the target of the source in force (R241). -/
def State.servedSlewEnd (s : State) : State :=
  s.when (s.on TIM_SRV_STATUS_VALID && s.get TIM_SRV_RATE_RATE != 0) fun t => t.setAcc (t.srvTarget t.srvSrc)

/-! ### Commands -/

/-- INC_HI_WRITE (R229). -/
def execIncHiWrite (m : Master) (d : Nat) (v : Word) (s : State) : Host.Outcome State Fault Refusal :=
  .next (s.when (decide (d < 2)) (State.access m (TIM_INC_HI d) (State.incWrite m d true v)))

/-- SET (R231). -/
def execSet (m : Master) (d : Nat) (v : Word) (s : State) : Host.Outcome State Fault Refusal :=
  .next (s.when (decide (d < 2)) (State.access m (TIM_CTRL d) (State.timCtrlWrite m d v)))

/-- STEP (R232). -/
def execStep (m : Master) (d : Nat) (v : Word) (s : State) : Host.Outcome State Fault Refusal :=
  .next (s.when (decide (d < 2)) (State.access m (TIM_CTRL d) (State.timCtrlWrite m d v)))

/-- SET_SEC (R233). -/
def execSetSec (m : Master) (d : Nat) (v : Word) (s : State) : Host.Outcome State Fault Refusal :=
  .next (s.when (decide (d < 2)) (State.access m (TIM_CTRL d) (State.timCtrlWrite m d v)))

/-- SECOND_BOUNDARY (R233). -/
def execSecondBoundary (d : Nat) (s : State) : Host.Outcome State Fault Refusal :=
  .next (s.when (decide (d < 2)) (State.secondBoundary d))

/-- SNAPSHOT (R240). -/
def execSnapshot (m : Master) (v : Word) (s : State) : Host.Outcome State Fault Refusal :=
  .next (State.access m TIM_SNAP_CTRL (State.snapWrite m v) s)

/-- SERVED_REVERT (R246). -/
def execServedRevert (s : State) : Host.Outcome State Fault Refusal := .next s.servedRevert

/-- TARGET_HI_WRITE (R241). -/
def execTargetHiWrite (m : Master) (d : Nat) (v : Word) (s : State) : Host.Outcome State Fault Refusal :=
  .next (s.when (decide (d < 2)) (State.access m (TIM_SRV_TGT_HI d) (State.targetHi m d v)))

/-- SERVED_SLEW_END (R241). -/
def execServedSlewEnd (s : State) : Host.Outcome State Fault Refusal := .next s.servedSlewEnd

end Sys2Proof.Machine
end

