-- ==== Sys2Proof/Machine/SelOps.lean ====
section
/-! DEFINITION. Operations of selection (chapter 05): candidates, the whiffletree comparison, the choice, changeovers and
build-out; and what a loop does with a sample (R140, R141, R156). -/

namespace Sys2Proof.Machine

/-! ### Candidates and groups -/

/-- Priority and quality rank of reference `n` for loop `l` (R118). -/
def State.selPrio (s : State) (l n : Nat) : Nat := getBits (s.rd (SEL_RANK l (n / 8))) (4 * (n % 8)) 4
def State.selQl (s : State) (l n : Nat) : Nat := getBits (s.rd (SEL_QL l (n / 8))) (4 * (n % 8)) 4

/-- Is a reference qualified (R96)? -/
def State.qualified (s : State) (n : Nat) : Bool := s.get (REFM_STATE_STATE n) == 3

/-- Is reference `n` a candidate of loop `l` (R118)? -/
def State.candidate (s : State) (l n : Nat) : Bool :=
  s.qualified n && s.selPrio l n != 0 &&
    (!s.on (SEL_CTRL_QL_EN l) || (s.selQl l n != 0 && decide (s.selQl l n ≤ s.get (SEL_CTRL_QL_MIN l))))

/-- The candidates of a loop, in ascending order. -/
def State.candidates (s : State) (l : Nat) : List Nat := (List.range 64).filter (s.candidate l)

/-- The place of a reference in the order of R119: quality rank when it counts, then priority. -/
def State.groupKey (s : State) (l n : Nat) : Nat × Nat :=
  (if s.on (SEL_CTRL_QL_EN l) then s.selQl l n else 0, s.selPrio l n)

/-- Does one place come before another (R119)? -/
def keyBefore (a b : Nat × Nat) : Bool := decide (a.1 < b.1 ∨ a.1 = b.1 ∧ a.2 < b.2)

/-- The first place held by any of some references. -/
def State.bestKey (s : State) (l : Nat) : List Nat → Option (Nat × Nat)
  | [] => none
  | n :: ns =>
    match s.bestKey l ns with
    | none => some (s.groupKey l n)
    | some k => some (if keyBefore (s.groupKey l n) k then s.groupKey l n else k)

/-- A map of references as 64 bits in two registers. -/
def State.setMap (lo hi : Nat) (ns : List Nat) (s : State) : State :=
  s.setWide lo hi 32 ((ns.foldl (fun n k => n + 2 ^ k) 0 : Nat) : Int)

/-- Is a reference marked SUSPECT by loop `l` (R125)? -/
def State.suspect (s : State) (l n : Nat) : Bool := (s.getWide (SEL_SUSPECT_LO l) (SEL_SUSPECT_HI l) 32).testBit n

/-- The offset y_p of R171 in ppb, where the model is in use for the loop. -/
def State.yPred (s : State) (l : Nat) : Option Rat :=
  if s.modelFor l then some (((1 + s.yCalUsed) / (1 + s.yXO) - 1) * (10 ^ 9 : Nat)) else none

/-- The agreement set c(i) of R123; window in units of 0.1 ppb (DEDUCED, log entry 24). -/
def State.agreeSet (s : State) (l : Nat) (ev : List Nat) (i : Nat) : List Nat :=
  ev.filter fun j => decide (ratAbs ((s.ref i).ys - (s.ref j).ys) ≤ (s.get (SEL_AGREE_WINDOW l) : Rat) / 10)

/-- The set of a list of sets whose mean y_s lies nearest `yp`; the first of equals. -/
def State.nearestSet (s : State) (yp : Rat) : List (List Nat) → List Nat
  | [] => []
  | [c] => c
  | c :: cs =>
    let d := s.nearestSet yp cs
    let dist (x : List Nat) : Rat := ratAbs (ratMean (x.map fun j => (s.ref j).ys) - yp)
    if dist c ≤ dist d then c else d

/-- The decision of a group from its evaluated members at a tick (R123): the winning cluster and its basis (DEDUCED, log entry
24). -/
def State.decideGroup (s : State) (l : Nat) (ev : List Nat) : List Nat × Nat :=
  let sets := ev.map (s.agreeSet l ev)
  let best := sets.foldl (fun n c => max n c.length) 0
  let top := (sets.filter fun c => c.length == best).eraseDups
  match top with
  | [c] => (c, 2)
  | _ =>
    let a := (s.sel l).active
    match a.map (s.agreeSet l ev) with
    | some c => if (a.map ev.contains) = some true ∧ c.length = best then (c, 3) else
      match s.yPred l with
      | some yp => (s.nearestSet yp top, 4)
      | none => (top.headD [], 5)
    | none =>
      match s.yPred l with
      | some yp => (s.nearestSet yp top, 4)
      | none => (top.headD [], 5)

/-- The stored decision of a group. -/
def SelSt.groupAt (x : SelSt) (k : Nat × Nat) : Option Group := x.groups.find? fun g => g.ql == k.1 && g.prio == k.2

/-- The members of a group, and those of them that have been evaluated (R119, R121). -/
def State.members (s : State) (l : Nat) (k : Nat × Nat) : List Nat := (s.candidates l).filter fun n => s.groupKey l n == k
def State.evaluatedOf (s : State) (l : Nat) (k : Nat × Nat) : List Nat := (s.members l k).filter (s.sel l).evaluated.contains

/-- The places held by candidates (R119). -/
def State.groupKeys (s : State) (l : Nat) : List (Nat × Nat) := ((s.candidates l).map (s.groupKey l)).eraseDups

/-- What is left of the stored decision of a group: its winning cluster less what is no member of the group any more (R124). -/
def State.kept (s : State) (l : Nat) (k : Nat × Nat) : Option (List Nat × Nat) :=
  match (s.sel l).groupAt k with
  | some g =>
    let w := g.win.filter (s.members l k).contains
    if w.isEmpty then none else some (w, g.basis)
  | none => none

/-- The decision of a group between ticks (R121, R124): what is kept of it; where nothing is left, the evaluated members, with
basis 5; where none is evaluated, no cluster, with basis 1 (DESIGN CHOICE, log entry 85). -/
def State.standing (s : State) (l : Nat) (k : Nat × Nat) : List Nat × Nat :=
  (s.kept l k).getD (if (s.evaluatedOf l k).isEmpty then ([], 1) else (s.evaluatedOf l k, 5))

/-- The winner of a group (R121, R124). -/
def State.winner (s : State) (l : Nat) (k : Nat × Nat) : Option Nat :=
  let (w, _) := s.standing l k
  let a := (s.sel l).active
  if w.isEmpty then (s.members l k).head?
  else if (a.map w.contains) = some true then a
  else match w.find? fun n => !s.suspect l n with
    | some n => some n
    | none => w.head?

/-- The choice of a selector and its basis (R126 to R129) (DEDUCED, log entry 24; DESIGN CHOICE, log entry 86). -/
def State.choice (s : State) (l : Nat) : Option (Nat × Nat) :=
  let man := s.get (SEL_CTRL_MANUAL_REF l)
  match s.get (SEL_CTRL_MODE l) with
  | 1 => if s.qualified man then some (man, 6) else none
  | 2 => some (man, 7)
  | _ =>
    match s.bestKey l (s.candidates l) with
    | none => none
    | some k =>
      let w := (s.winner l k).map fun n => (n, (s.standing l k).2)
      match (s.sel l).active with
      | some a =>
        if !s.on (SEL_CTRL_REVERT l) && s.candidate l a && !s.suspect l a && decide ((s.groupKey l a).1 ≤ k.1) then
          some (a, if (w.map (·.1)) = some a then (w.map (·.2)).getD 0 else s.get (SEL_STATUS_BASIS l))
        else w
      | none => w

/-! ### Build-out -/

/-- O in force, in the units of B. -/
def State.alignment (s : State) (l : Nat) : Int := (s.sel l).o * accUnit

/-- B takes a value: SEL_PBO and BLEEDING follow (R131, R135). -/
def State.setBuild (l : Nat) (b : Int) (s : State) : State :=
  let s := s.setSel l { s.sel l with b := b }
  let s := s.setWide (SEL_PBO_LO l) (SEL_PBO_HI l) 16 ((b + accUnit / 2) / accUnit)
  let bleeds := s.get (SEL_CTRL_CHG l) == 1 && decide (b ≠ s.alignment l)
  (s.setB (SEL_STATUS_BLEEDING l) bleeds).when (bleeds && s.get (DPL_CFG_SRC l) == 0) (State.learnBreak l)

/-- B in ns. -/
def State.buildNs (s : State) (l : Nat) : Rat := ((s.sel l).b : Rat) / (65536 * accUnit : Int)

/-- One cycle of a bleed (R135). -/
def State.bleedTick (l : Nat) (s : State) : State :=
  let b := (s.sel l).b
  if s.get (SEL_CTRL_CHG l) ≠ 1 ∨ b = s.alignment l then s
  else s.setBuild l (towards (s.alignment l) (s.get (SEL_BLEED_RATE l)) b)

/-! ### What a loop does with a sample -/

/-- ACT_LIMIT / 4 × T_tap in gauge counts (R100). -/
def State.actSpan (s : State) (n : Nat) : Rat := s.tTap n * 640 * (s.get (REFM_TIMES_ACT_LIMIT n)) / 4

/-- Has reference `n` given a sample within ACT_LIMIT / 4 × T_tap before gauge time `t` (R128, R132, R140)? -/
def State.gives (s : State) (n t : Nat) : Bool :=
  match (s.ref n).sampled with | some t0 => decide (((t - t0 : Nat) : Rat) ≤ s.actSpan n) | none => false

/-- Is the selector of loop `l` forced onto reference `n` (R128)? -/
def State.forcedOn (s : State) (l n : Nat) : Bool := s.get (SEL_CTRL_MODE l) == 2 && s.get (SEL_CTRL_MANUAL_REF l) == n

/-- The loop clock at gauge time `t`, in ns (R139). -/
def State.loopClockAt (s : State) (l t : Nat) : Rat :=
  if l < 2 then (s.cAt l t : Rat) / (2 ^ 40 : Nat)
  else
    let lp := s.loop l
    (((lp.shadow : Int) + ((t : Int) - 2048 * s.cyc) * lp.inc / 2048 : Int) : Rat) / (2 ^ 40 : Nat)

/-- The phase of a signal of period `tt` against loop `l` (R140): wrapped at its first sample, then nearest the one before. -/
def State.phaseOf (s : State) (l t : Nat) (tt : Rat) (prev : Option Rat) : Rat :=
  let x := -(s.loopClockAt l t)
  match prev with
  | none => wrapHalf tt x
  | some p => unwrapNear tt p x

/-- The phase of the sample that reference `n` gave before gauge time `t`, while it is followed (R140). -/
def State.followed (s : State) (l n t : Nat) : Option Rat :=
  match smAt (s.sel l).follow n with
  | some (t0, p) => if ((t - t0 : Nat) : Rat) ≤ s.actSpan n then some p else none
  | none => none

/-- A loop without samples, or whose input the selector holds (R155): y is the integrator. -/
def State.flywheel (l : Nat) (s : State) : State :=
  if s.loopState l = 1 ∨ s.loopState l = 2 then
    let s := ((s.set (DPL_STATUS_FLYWHEEL l) 1).set (DPL_STATUS_SLOPE_LIMIT l) 0).set (DPL_STATUS_FSL_LIMIT l) 0
    ((s.setY l (s.loop l).integ).learnBreak l)
  else s

/-- Is the input held by the selector (R132, R155)? -/
def State.inputHeld (s : State) (l : Nat) : Bool := s.loopSrc l == 0 && (s.sel l).target.isSome && (s.sel l).aLost

/-- The loop goes to ACQUIRE (R156); after a first selection or first sample it may step at its first update. -/
def State.acquire (l : Nat) (fresh : Bool) (s : State) : State :=
  let s := s.setLoopState l 1
  s.setLoop l { s.loop l with fresh := fresh, samples := [] }

/-- A sample of a source other than the selector is taken (R141, R153, R156) (DEDUCED, log entry 25). -/
def State.takeSample (l : Nat) (u : Rat) (s : State) : State :=
  let st := s.loopState l
  let free := s.get (DPL_CTRL_FORCE l) == 0
  let s := s.setLoop l { s.loop l with heard := some s.cyc }
  let s := if st = 3 ∧ free then s.acquire l false else if st = 4 ∧ free then s.acquire l true else s
  if st = 0 ∨ s.on (DPL_STATUS_STEPPING l) then s
  else s.setLoop l { s.loop l with samples := u :: (s.loop l).samples }

/-- A sample of the active reference with input `u` (R141); a loop in HOLDOVER or FREERUN keeps it for DPL_PHERR. While the
selector holds the input it is not taken (R132). -/
def State.takeInput (l : Nat) (u : Rat) (s : State) : State :=
  if s.inputHeld l then s else
  let s := s.setSel l { s.sel l with held := if s.loopState l = 3 then (s.sel l).held else u }
  if s.loopState l = 0 ∨ s.on (DPL_STATUS_STEPPING l) then s
  else s.setLoop l { s.loop l with samples := u :: (s.loop l).samples }

/-! ### Active reference -/

/-- SEL_STATUS follows the active reference (R129). -/
def State.showActive (l basis : Nat) (s : State) : State :=
  match (s.sel l).active with
  | none => ((((s.set (SEL_STATUS_VALID l) 0).set (SEL_STATUS_ACTIVE_REF l) 0).set (SEL_STATUS_ACTIVE_PRIO l) 0).set
      (SEL_STATUS_ACTIVE_QL l) 0).set (SEL_STATUS_BASIS l) 0
  | some a => ((((s.set (SEL_STATUS_VALID l) 1).set (SEL_STATUS_ACTIVE_REF l) a).set (SEL_STATUS_ACTIVE_PRIO l)
      (s.selPrio l a)).set (SEL_STATUS_ACTIVE_QL l) (s.selQl l a)).set (SEL_STATUS_BASIS l) basis

/-- A changeover or first selection is complete: D, events, counts and the message (R131, R134, R456). -/
def State.reportChange (l : Nat) (d : Int) (s : State) : State :=
  let s := s.setWide (SEL_DELTA_LO l) (SEL_DELTA_HI l) 16 d
  let s := (s.raise (SEL_EVT_CHANGEOVER l)).count (SEL_COUNT_CHANGEOVERS l)
  s.queueEvent 2 [packWord [(l, 0), (s.get (SEL_STATUS_ACTIVE_REF l), 8), (s.get (SEL_STATUS_BASIS l), 16)],
    s.rd (SEL_DELTA_LO l), s.rd (SEL_DELTA_HI l)]

/-- The integrator preset of R152. -/
def State.preset (l n : Nat) (s : State) : State :=
  if s.on (DPL_CFG_PRESET l) then
    let y := (1 + s.yNom) * (1 + (s.ref n).ys / (10 ^ 9 : Nat)) - 1
    let lp := s.loop l
    ((s.setLoop l { lp with integ := y, slope := 0 }).setY l y)
  else s

/-- A first selection (R134): no measurement, B := O; a loop that is on and not forced acquires. -/
def State.firstSelect (l n basis : Nat) (s : State) : State :=
  let x := s.sel l
  let s := s.setSel l { x with
    active := some n, target := none, bEdges := [], aEdges := [], aLost := false, follow := smPut x.follow n none,
    had := if x.had.contains n then x.had else n :: x.had, lack := .nothing }
  let s := ((s.set (SEL_STATUS_CHG_BUSY l) 0).setBuild l (s.alignment l)).showActive l basis
  let s := s.reportChange l 0
  if s.loopState l ≠ 0 ∧ s.get (DPL_CTRL_FORCE l) = 0 then (s.preset l n).acquire l true else s

/-- The active reference of a changeover gives no samples any more: u is held (R132, R155). -/
def State.holdInput (l : Nat) (s : State) : State :=
  (s.setSel l { s.sel l with aLost := true }).when (s.loopSrc l == 0) (State.flywheel l)

/-- A changeover starts (R131, R132). -/
def State.startChange (l b : Nat) (s : State) : State :=
  let x := s.sel l
  let lost := match x.active with
    | none => true
    | some a => !s.gives a (2048 * s.cyc) || s.loopState l == 3
  let fol := if x.active = some b then x.follow else smPut x.follow b none
  -- the last edge of `a` so far may be the one before the first edge of `b`
  let before := match x.active with | none => [] | some a => (smAt x.follow a).toList
  let s := ((s.learnBreak l).setSel l { x with
    target := some b, bEdges := [], aEdges := before, aLost := false, follow := fol, lack := .nothing, began := some s.cyc }).set
      (SEL_STATUS_CHG_BUSY l) 1
  s.when lost (State.holdInput l)

/-- A changeover is abandoned (R133). One asked for in this cycle has not started yet (R131) and leaves no trace. -/
def State.abandonChange (l : Nat) (s : State) : State :=
  let x := s.sel l
  let s := (s.setSel l { x with target := none, bEdges := [], aEdges := [], aLost := false }).set (SEL_STATUS_CHG_BUSY l) 0
  s.when (x.began != some s.cyc) fun t => (t.raise (SEL_EVT_ABANDONED l)).count (SEL_COUNT_ABANDONS l)

/-- Why there is no choice in the mode in force. -/
def State.lackNow (s : State) (l : Nat) : Lack := if s.get (SEL_CTRL_MODE l) = 1 then .manual else .candidate

/-- There is no choice and no active reference: the event is set when this comes about (R127, R129). -/
def State.reportLack (l : Nat) (s : State) : State :=
  let x := s.sel l
  if x.lack = s.lackNow l then s
  else
    let s := s.setSel l { x with lack := s.lackNow l }
    match s.lackNow l with
    | .manual => s.raise (SEL_EVT_MANUAL_LOST l)
    | _ => s.raise (SEL_EVT_NO_CAND l)

/-- The loop has no active reference any more (R127, R129, R155). -/
def State.loseActive (l : Nat) (s : State) : State :=
  let s := (s.setSel l { s.sel l with active := none, lack := s.lackNow l }).showActive l 0
  let s := s.raise (SEL_EVT_NO_CAND l)
  let s := s.when (s.get (SEL_CTRL_MODE l) == 1) (·.raise (SEL_EVT_MANUAL_LOST l))
  s.when (s.loopSrc l == 0) (State.loseSource l)

/-- References that are no candidates any more lose their mark and are not evaluated (R121, R125). -/
def State.pruneMarks (l : Nat) (s : State) : State :=
  let c := s.candidates l
  let x := s.sel l
  let s := s.setMap (SEL_CAND_LO l) (SEL_CAND_HI l) c
  let s := s.set (SEL_STATUS_CAND_COUNT l) c.length
  let s := s.setMap (SEL_SUSPECT_LO l) (SEL_SUSPECT_HI l) (c.filter (s.suspect l))
  s.setSel l { x with evaluated := x.evaluated.filter c.contains, inside := x.inside.filter fun p => c.contains p.1 }

/-- A group that has no decision, or whose cluster is empty, is decided between ticks, which is a tie (R123, R124). -/
def State.redecide (l : Nat) (s : State) : State :=
  let keys := s.groupKeys l
  let tie := keys.any fun k => (s.kept l k).isNone && !(s.evaluatedOf l k).isEmpty
  let s := s.when tie (·.raise (SEL_EVT_TIE l))
  s.setSel l { s.sel l with groups := keys.map fun k => ⟨k.1, k.2, (s.standing l k).1, (s.standing l k).2⟩ }

/-- Does the changeover in progress stand (R133)? (DEDUCED, log entry 24) -/
def State.changeStands (s : State) (l b : Nat) : Bool :=
  match s.get (SEL_CTRL_MODE l) with
  | 1 => s.qualified b
  | 2 => true
  | _ => s.candidate l b

/-- Acting on the choice (R126 to R130, R134) (DEDUCED, log entry 24). -/
def State.applyChoice (l : Nat) (s : State) : State :=
  match s.choice l, (s.sel l).active with
  | none, none => s.reportLack l
  | none, some _ => s.loseActive l
  | some (c, basis), none =>
    let free := s.loopState l == 4 && s.get (DPL_CTRL_FORCE l) == 0
    if s.loopState l = 3 ∨ ((s.sel l).had.contains c && !free) then s.startChange l c else s.firstSelect l c basis
  | some (c, basis), some a => if c = a then s.showActive l basis else s.startChange l c

/-- The selector of loop `l` evaluates again (R120, R130). With another source it stays idle (R141). A changeover asked for in
this cycle follows the choice (R131); one in progress is held to (R130) unless it does not stand. -/
def State.selEval (l : Nat) (s : State) : State :=
  let s := (s.pruneMarks l).redecide l
  if s.loopSrc l ≠ 0 then s
  else match (s.sel l).target with
    | some b =>
      let moved := (s.sel l).began == some s.cyc && (s.choice l).map (·.1) != some b
      if !moved && s.changeStands l b then s else (s.abandonChange l).applyChoice l
    | none => s.applyChoice l

def State.selEvalAll (s : State) : State := s.each [0, 1, 2, 3] State.selEval

/-! ### The comparison at a tick -/

/-- One group at a tick: its decision, the marks and the ties (R121, R123, R125). -/
def State.compareGroup (l : Nat) (k : Nat × Nat) (s : State) : State :=
  let x := s.sel l
  let ev := (s.members l k).filter fun n => x.evaluated.contains n || s.on (REFM_STATE_SHORT_VALID n)
  if ev.isEmpty then s.setSel l { x with groups := ⟨k.1, k.2, [], 1⟩ :: x.groups.filter (fun g => (g.ql, g.prio) != k) }
  else
    let (w, basis) := s.decideGroup l ev
    let s := s.setSel l { x with
      evaluated := ev ++ x.evaluated.filter (fun n => !ev.contains n)
      groups := ⟨k.1, k.2, w, basis⟩ :: x.groups.filter (fun g => (g.ql, g.prio) != k) }
    let s := s.when (decide (3 ≤ basis)) (·.raise (SEL_EVT_TIE l))
    s.each ev fun j t =>
      let y := t.sel l
      let marks := t.getWide (SEL_SUSPECT_LO l) (SEL_SUSPECT_HI l) 32
      if !w.contains j then
        let t := t.when (!marks.testBit j) (·.raise (SEL_EVT_NEW_SUSPECT l))
        let t := t.when (decide (y.active = some j)) (State.learnBreak l)
        (t.setWide (SEL_SUSPECT_LO l) (SEL_SUSPECT_HI l) 32 (putBit marks j true : Nat)).setSel l
          { y with inside := smPut y.inside j 0 }
      else if !marks.testBit j then t
      else
        let c := smAt y.inside j + 1
        if t.get (SEL_AGREE_SUSPECT_CLR l) ≤ c then
          (t.setWide (SEL_SUSPECT_LO l) (SEL_SUSPECT_HI l) 32 (putBit marks j false : Nat)).setSel l
            { y with inside := smPut y.inside j 0 }
        else t.setSel l { y with inside := smPut y.inside j c }

/-- The comparison of loop `l` at a 100 ms tick, then the choice (R121 to R126). -/
def State.selTick (l : Nat) (s : State) : State :=
  let s := s.pruneMarks l
  let keys := s.groupKeys l
  let s := if s.on GLB_STATUS_XO_INT then s
    else
      let s := s.setSel l { s.sel l with groups := (s.sel l).groups.filter fun g => keys.contains (g.ql, g.prio) }
      keys.foldl (fun t k => t.compareGroup l k) s
  s.selEval l

/-- The comparison that a 100 ms tick of this cycle asked for (R121, R130). -/
def State.selCompare (l : Nat) (s : State) : State :=
  s.when (s.sel l).compare fun t => (t.setSel l { t.sel l with compare := false }).selTick l

/-! ### Edges -/

/-- Gauge counts to ns: 3.2 ns / 2,048. -/
def gaugeNs (t : Int) : Rat := (t : Rat) / 640

/-- An edge of reference `n` reaches the selector of loop `l` (R131, R132, R134, R140, R141) (DESIGN CHOICE, log entry 87). -/
def State.edgeToLoop (n t l : Nat) (s : State) : State :=
  let x := s.sel l
  if s.loopSrc l ≠ 0 ∨ (x.active ≠ some n ∧ x.target ≠ some n) then s
  else
    let st := s.loopState l
    let free := s.get (DPL_CTRL_FORCE l) == 0
    -- a kept or regained reference of a loop in FREERUN is selected afresh (R134)
    let s := if x.active = some n ∧ x.target = none ∧ st = 4 ∧ free then s.firstSelect l n (s.get (SEL_STATUS_BASIS l))
      -- a loop in HOLDOVER leaves it through a measurement of the active reference itself (R128, R132)
      else if x.active = some n ∧ x.target = none ∧ st = 3 ∧ free then s.startChange l n else s
    -- the other reference of a changeover has fallen silent (R132)
    let silent := (s.sel l).target == some n && (match (s.sel l).active with | some a => a != n && !s.gives a t | none => false)
    let s := s.when (silent && !(s.sel l).aLost) (State.holdInput l)
    let x := s.sel l
    let p := s.phaseOf l t (s.tTap n) (s.followed l n t)
    let x := { x with follow := smPut x.follow n (some (t, p)) }
    let isB := x.target = some n
    let m := s.get (SEL_CTRL_AVG l)
    -- an edge of b counts once an edge of a precedes it, or none is awaited
    let x := if isB ∧ x.bEdges.length < m ∧ (x.aLost ∨ ¬ x.aEdges.isEmpty) then { x with bEdges := (t, p) :: x.bEdges } else x
    let isA := x.active = some n ∧ ¬ (isB ∧ x.aLost)
    let x := if isA ∧ x.target.isSome then { x with aEdges := (t, p) :: x.aEdges } else x
    let s := s.setSel l x
    if isA then s.takeInput l (p - s.buildNs l) else s

/-- The phase of `a` at time `t`, from the edges on either side (R131); newest first. -/
def interpolate : List (Nat × Rat) → Nat → Option Rat
  | [], _ => none
  | [e], t => if e.1 = t then some e.2 else none
  | e2 :: e1 :: es, t =>
    if e1.1 ≤ t ∧ t ≤ e2.1 then
      some (if e2.1 = e1.1 then e1.2 else e1.2 + (e2.2 - e1.2) * ((t - e1.1 : Nat) : Rat) / ((e2.1 - e1.1 : Nat) : Rat))
    else interpolate (e1 :: es) t

/-- The first edge of `a` after time `t`. -/
def firstAfter (es : List (Nat × Rat)) (t : Nat) : Option Nat := (es.reverse.find? fun e => decide (t < e.1)).map (·.1)

/-- The new build-out in ns at the end of a measurement (R131, R132); none while edges are missing (DEDUCED, log entry 24;
DESIGN CHOICE, log entry 87). -/
def State.measured (s : State) (l b : Nat) : Option Rat :=
  let x := s.sel l
  if x.bEdges.length < s.get (SEL_CTRL_AVG l) then none
  else
    let meanT : Rat := ratMean (x.bEdges.map fun e => (e.1 : Rat))
    let ysB := (s.ref b).ys
    let tLast := (x.bEdges.map (·.1)).headD 0
    let ahead (ts : Nat) (dy : Rat) : Rat := dy / (10 ^ 9 : Nat) * (((ts : Rat) - meanT) / 640)
    if x.aLost then
      let dy := match s.yPred l with | some yp => ysB - yp | none => ysB
      some (ratMean (x.bEdges.map (·.2)) + ahead tLast dy - x.held)
    else match firstAfter x.aEdges tLast with
      | none => none
      | some ts =>
        let ds := x.bEdges.filterMap fun e => (interpolate x.aEdges e.1).map (e.2 - ·)
        if ds.length < x.bEdges.length then none
        else
          let ysA := match x.active with | some a => (s.ref a).ys | none => 0
          some (s.buildNs l + (ratMean ds + ahead ts (ysB - ysA)))

/-- The new reference becomes active with a build-out in the units of B (R131); a loop in HOLDOVER that is not forced acquires
without a step (R132, R156) (DESIGN CHOICE, log entry 88). -/
def State.completeChange (l b : Nat) (build : Int) (basis : Nat) (s : State) : State :=
  let x := s.sel l
  let d := (build - x.b) / accUnit
  let s := s.setSel l { x with
    active := some b, target := none, bEdges := [], aEdges := [], aLost := false,
    had := if x.had.contains b then x.had else b :: x.had }
  let s := ((s.set (SEL_STATUS_CHG_BUSY l) 0).setBuild l build).showActive l basis
  let s := s.reportChange l d
  let s := if s.loopState l = 3 ∧ s.get (DPL_CTRL_FORCE l) = 0 then s.acquire l false else s
  s.selEval l

/-- The basis of a choice that names `b`. -/
def State.basisOf (s : State) (l b : Nat) : Nat :=
  match s.choice l with | some (c, k) => if c = b then k else s.get (SEL_STATUS_BASIS l) | none => s.get (SEL_STATUS_BASIS l)

/-- A measured changeover completes (R131, R132): D is rounded to 2^-16 ns, ties away from zero. -/
def State.changeoverComplete (l : Nat) (s : State) : State :=
  match (s.sel l).target with
  | none => s
  | some b =>
    -- an expiry of this cycle outranks the completion: no build-out, and a first selection (R157, R177)
    if (s.holdLoop l).expired = some s.cyc then s.firstSelect l b (s.basisOf l b)
    else match s.measured l b with
    | none => s
    | some v =>
      let build := if (s.sel l).aLost then roundAway (v * 65536) * accUnit
        else (s.sel l).b + roundAway ((v - s.buildNs l) * 65536) * accUnit
      s.completeChange l b build (s.basisOf l b)

/-- A forced reference without edges becomes active without a measurement (R128). -/
def State.forcedNoEdge (l : Nat) (s : State) : State :=
  match (s.sel l).target with
  | none => s
  | some b => if s.get (SEL_CTRL_MODE l) = 2 then
      (let x := s.sel l
       let s := s.setSel l { x with active := some b, target := none, bEdges := [], aEdges := [], aLost := false }
       let s := (s.set (SEL_STATUS_CHG_BUSY l) 0).showActive l 7
       (s.reportChange l 0).selEval l)
    else s

/-- A reference gives no samples any more: a changeover that measures against it goes on without it (R132), and it is not
followed (R140). A loop forced onto a reference that is not silent goes on taking its samples (R128). -/
def State.edgesStop (n : Nat) (silent : Bool) (s : State) : State :=
  let s := s.when silent fun t => t.setRef n { t.ref n with sampled := none }
  s.each [0, 1, 2, 3] fun l t =>
    if !silent && t.forcedOn l n then t
    else
      let x := t.sel l
      let t := t.setSel l { x with follow := smPut x.follow n none }
      t.when (decide (x.active = some n ∧ x.target.isSome ∧ x.target ≠ some n)) (State.holdInput l)

end Sys2Proof.Machine
end

