-- ==== Sys2Proof/Machine/RefOps.lean ====
section
/-! DEFINITION. Operations on references (chapter 04): conditions, states, windows, the drift projection, and the pairing of
pulses with the time of day. -/

namespace Sys2Proof.Machine

/-! ### Conditions and states -/

/-- The home gauge of a reference (R90). -/
def homeGauge (n : Nat) : Nat := if n < 16 then 48 + n else n - 16

/-- Is the home gauge of a reference on its default source, and GAU not gated (R91, R251)? -/
def State.homeReady (s : State) (n : Nat) : Bool :=
  let g := homeGauge n
  s.on (GAU_CFG_ENABLE g) && s.get (GAU_CFG_SRC g) == 0xFF && s.get (GAU_CFG_MODE g) == 0 &&
    !(s.get CGU_GATE_STATUS_GATED).testBit 22

/-- REFM_GOOD follows the states (R96). -/
def State.goodMap (n : Nat) (s : State) : State :=
  let w := s.getWide REFM_GOOD_LO REFM_GOOD_HI 32
  s.setWide REFM_GOOD_LO REFM_GOOD_HI 32 (putBit w n (s.qualified n) : Nat)

/-- Windows of a reference cleared (R99, R101): y_s and y_l read 0 and are not valid. -/
def State.clearWindows (n : Nat) (s : State) : State :=
  let r := s.ref n
  -- conditions that need a window neither hold nor fail without it (R98)
  let s := s.setRef n { r with
    edges := [], corr := 0, since := none, last := none, seen := none, ys := 0, yl := 0, hist := [], waited := 0
    cond := putBit (putBit (putBit r.cond 1 false) 2 false) 3 false }
  (((((s.set (REFM_STATE_SHORT_VALID n) 0).set (REFM_STATE_LONG_VALID n) 0).set (REFM_STATE_DRIFT_VALID n) 0).set
    (REFM_YS_OFFSET n) 0).set (REFM_YL_OFFSET n) 0).set (REFM_DRATE_DRATE n) 0 |>.set (REFM_TCROSS_TCROSS n) 0xFFFFFF

/-- Has the reference entered VOID or FAILED in this cycle? -/
def State.fellNow (s : State) (n : Nat) : Bool := (s.ref n).fell == some s.cyc

/-- A condition holds or not; its event bit is set when it arises (R97), and CAUSE gathers what arises in the cycle of an entry
to VOID or FAILED (R109). -/
def State.setCond (n bit : Nat) (b : Bool) (s : State) : State :=
  let r := s.ref n
  let s := s.when (b && !r.cond.testBit bit) fun t => t.set (REFM_EVT_COND n) (putBit (t.get (REFM_EVT_COND n)) bit true)
  let s := s.when (b && s.fellNow n) fun t => t.set (REFM_STATE_CAUSE n) (putBit (t.get (REFM_STATE_CAUSE n)) bit true)
  s.setRef n { r with cond := putBit r.cond bit b }

/-- The frequency conditions that hold and can be evaluated: HARD, SOFT and DRIFT, each with its window valid, while not frozen
(R98, R106). -/
def State.offLimits (s : State) (n : Nat) : Bool :=
  !s.on GLB_STATUS_XO_INT &&
    (((s.ref n).cond.testBit 1 && s.on (REFM_STATE_SHORT_VALID n)) || ((s.ref n).cond.testBit 2 &&
      s.on (REFM_STATE_LONG_VALID n)) ||
      ((s.ref n).cond.testBit 3 && s.on (REFM_STATE_DRIFT_VALID n)))

/-- Does a disqualifying condition hold: PJ only with PJ_ACTION, PW, and the frequency conditions (R97)? -/
def State.disqualified (s : State) (n : Nat) : Bool :=
  (s.on (REFM_CFG_PJ_ACTION n) && (s.ref n).cond.testBit 4) || (s.ref n).cond.testBit 5 || s.offLimits n

/-- Does an activity-class condition hold (R97)? -/
def State.inactive (s : State) (n : Nat) : Bool :=
  (s.ref n).cond.testBit 0 || (s.ref n).cond.testBit 6 || (s.ref n).cond.testBit 7

/-- The re-entry conditions of R105; conditions that need a window that is not valid neither hold nor fail (R98). -/
def State.reentry (s : State) (n : Nat) : Bool :=
  let r := s.ref n
  let lim : Rat := s.get (REFM_REENTRY_LIMIT n)
  let short := s.on (REFM_STATE_SHORT_VALID n)
  r.since.isSome && (!short || decide (ratAbs r.ys ≤ lim)) && (!s.on (REFM_STATE_LONG_VALID n) || decide (ratAbs r.yl ≤ lim))
    && !(r.cond.testBit 3 && s.on (REFM_STATE_DRIFT_VALID n)) && !(r.jumped && s.on (REFM_CFG_PJ_ACTION n)) && !r.bad

/-- LOCK is lost (R116). -/
def State.todUnlock (s : State) : State :=
  { s.set REFM_TOD_STATUS_LOCK 0 with tod := { s.tod with good := 0, miss := 0 } }

/-- An entry to VOID or FAILED: CAUSE and FAIL_COUNT (R99). A second one in the same cycle is part of the first (R109). -/
def State.refFell (n : Nat) (s : State) : State :=
  let r := s.ref n
  let s := if s.fellNow n then s.set (REFM_STATE_CAUSE n) (s.get (REFM_STATE_CAUSE n) ||| r.cond)
    else (s.set (REFM_STATE_CAUSE n) r.cond).count (REFM_COUNT_FAIL_COUNT n)
  s.setRef n { r with fell := some s.cyc }

/-- A reference takes a state (R99): event, message, CAUSE and count at an entry to VOID or FAILED, and REFM_GOOD. -/
def State.setRefState (n st : Nat) (s : State) : State :=
  let old := s.get (REFM_STATE_STATE n)
  let s := s.set (REFM_STATE_STATE n) st
  let s := s.when (decide ((st = 1 ∧ old ≠ 0) ∨ st = 4)) (State.refFell n)
  if old = st then s
  else
    let s := s.raise (REFM_EVT_STATE_CHG n)
    let s := s.set (REFM_STATE_WAIT_LEFT n) (if st = 2 then s.get (REFM_STATE_WAIT_LEFT n) else 0)
    let s := s.queueEvent 1 [packWord [(n, 0), (st, 8), (s.get (REFM_STATE_CAUSE n), 16)]]
    let s := s.when (decide (old = 3) && s.get REFM_TOD_CFG_PULSE_REF == n) State.todUnlock
    s.goodMap n

/-- The map of qualified references. -/
def State.goodRefs (s : State) : Nat := s.getWide REFM_GOOD_LO REFM_GOOD_HI 32

/-- What happens in one cycle to references reaches the selectors once it is whole (R96, R120). -/
def State.thenSelect (g : State → State) (s : State) : State :=
  let t := g s
  t.when (t.goodRefs != s.goodRefs) State.selEvalAll

/-- The wait time of R98 in 100 ms ticks. -/
def State.waitTicks (s : State) (n : Nat) : Nat :=
  10 * (if s.on (REFM_STATE_KIND n) then s.get (REFM_TIMES_WTR n) else s.get (REFM_TIMES_QUAL n))

/-- Entry to WAIT (R98, R99). -/
def State.enterWait (n : Nat) (kind : Nat) (s : State) : State :=
  let s := s.set (REFM_STATE_KIND n) kind
  let s := s.setRef n { s.ref n with waited := 0 }
  (s.set (REFM_STATE_WAIT_LEFT n) (s.waitTicks n / 10)).setRefState n 2

/-- Entry to FAILED from WAIT or GOOD (R99). -/
def State.failRef (n : Nat) (s : State) : State := (s.set (REFM_STATE_FAILED_ONCE n) 1).setRefState n 4

/-- Loss of activity: FAILED_ONCE unless FAILED, VOID with every condition of the cycle in CAUSE, windows cleared (R99, R109). -/
def State.voidRef (n : Nat) (s : State) : State :=
  let st := s.get (REFM_STATE_STATE n)
  let s := s.when (decide (st ≠ 4)) (·.set (REFM_STATE_FAILED_ONCE n) 1)
  let s := (s.setRefState n 1).clearWindows n
  s.edgesStop n ((s.ref n).cond.testBit 0)

/-- The state follows the conditions that hold now (R99, R109). -/
def State.refEval (n : Nat) (s : State) : State :=
  let st := s.get (REFM_STATE_STATE n)
  if st < 2 then s
  else if s.inactive n then s.voidRef n
  else if s.get (REFM_CFG_OVERRIDE n) ≠ 0 then s
  else if st = 3 then (if s.disqualified n then s.failRef n else s)
  else if st = 2 then
    let fails := if s.on (REFM_STATE_KIND n) then !s.on GLB_STATUS_XO_INT && !s.reentry n else s.disqualified n
    if fails then s.failRef n else s
  else if s.reentry n && s.on (REFM_STATE_SHORT_VALID n) && !s.on GLB_STATUS_XO_INT then s.enterWait n 1
  else s

/-- Activity is present: VOID is left as OVERRIDE says (R99, R100). -/
def State.refActive (n : Nat) (s : State) : State :=
  if s.get (REFM_STATE_STATE n) ≠ 1 ∨ s.inactive n then s
  else match s.get (REFM_CFG_OVERRIDE n) with
    | 1 => s.setRefState n 3
    | 2 => s.setRefState n 4
    | _ => s.enterWait n (s.get (REFM_STATE_FAILED_ONCE n))

/-- Do LINK and GAUGE, the activity-class conditions that are lines, let a reference be active (R100)? -/
def State.linesClear (s : State) (n : Nat) : Bool := !(s.ref n).cond.testBit 6 && !(s.ref n).cond.testBit 7

/-- The conditions LINK and GAUGE of a reference as they are now (R91, R94, R97, R111). -/
def State.refLines (n : Nat) (s : State) : State :=
  if s.get (REFM_STATE_STATE n) = 0 then s
  else
    let link := decide (16 ≤ n) && (!s.lockSeen (n - 16) || s.pwr.state == .keep)
    (s.setCond n 7 (!s.homeReady n)).setCond n 6 link

/-- The lines of a reference have moved, and its state follows (R99). -/
def State.refLinesEval (n : Nat) (s : State) : State := s.thenSelect fun t => (t.refLines n).refEval n

def State.refLinesAll (s : State) : State :=
  s.thenSelect fun t => t.each (List.range 64) fun n u => (u.refLines n).refEval n

/-! ### Edges -/

/-- The tapped period of a reference on the time base, in gauge counts, at the offset measured (R101, R107). -/
def State.periodCounts (s : State) (n : Nat) : Rat :=
  s.tTap n * 640 * (1 + s.yCalUsed) / (1 + (s.ref n).ys / (10 ^ 9 : Nat))

/-- Is a pulse of `width` time-base rising edges bad (R108)? -/
def State.badPulse (s : State) (n width : Nat) : Bool :=
  let w : Rat := (width : Rat) * 16 / 5
  let lo := s.get (REFM_PW_PW_MIN n)
  let hi := s.get (REFM_PW_PW_MAX n)
  s.on (REFM_CFG_TYPE n) && (decide (w < (10 * lo : Nat)) || (hi != 0 && decide ((10000 * hi : Nat) < w)))

/-- The periods from the previous edge to the one at `t` (R101, R107): one, and the whole tapped periods by which the edge
differs from its prediction (DEDUCED, log entry 22). -/
def State.periodsTo (s : State) (n t0 t : Nat) : Int :=
  1 + (((t : Rat) - ((t0 : Rat) + s.periodCounts n)) / (s.tTap n * 640) + 1 / 2).floor

/-- The phase-jump monitor at an edge that the home gauge has timed (R107), and the count of periods (R101) (DEDUCED, log entry
22; DESIGN CHOICE, log entry 81). -/
def State.jumpCheck (n t : Nat) (s : State) : State :=
  let r := s.ref n
  let lim := s.get (REFM_PJ_PJ_LIMIT n)
  match r.last with
  | none => s.setRef n { r with last := some (t, 0) }
  | some (t0, k) =>
    let s := s.setRef n { r with last := some (t, k + s.periodsTo n t0 t) }
    let r := s.ref n
    let res := wrapHalf (s.tTap n * 640) ((t : Rat) - ((t0 : Rat) + s.periodCounts n))
    let ps := roundAway (res * 25 / 16)
    if lim = 0 ∨ ratAbs (res * 25 / 16) ≤ (lim : Rat) then s
    else
      let s := s.setRef n { r with corr := r.corr + roundAway res, jumped := true }
      let s := (s.setI (REFM_PJ_LAST_RESIDUAL n) ps).count (REFM_COUNT_PJ_COUNT n)
      s.setCond n 4 true

/-- Edges a window still needs: those of the last 101 s. -/
def keepEdges (t : Int) (es : List (Int × Int)) : List (Int × Int) := es.filter fun e => decide (t - 101 * 640000000000 ≤ e.1)

/-- A tapped edge counts for activity (R100). -/
def State.edgeActivity (n t : Nat) (s : State) : State :=
  let r := s.ref n
  let near := s.linesClear n && match r.seen with | some t0 => decide (((t - t0 : Nat) : Rat) ≤ s.actSpan n) | none => false
  let s := s.setRef n { r with seen := some t, since := if near then some (r.since.getD t) else none }
  let s := s.setCond n 0 (!near && r.cond.testBit 0)
  if near then s.refActive n else s

/-! ### Ticks -/

/-- The edge of a list nearest to a time (DEDUCED, log entry 22). -/
def nearestEdge (t : Int) : List (Int × Int) → Option (Int × Int)
  | [] => none
  | e :: es => match nearestEdge t es with
    | none => some e
    | some f => if (e.1 - t).natAbs ≤ (f.1 - t).natAbs then some e else some f

/-- The offset over a window of `span` gauge counts that ends at the latest edge (R101), in ppb (DEDUCED, log entry 22). -/
def State.windowOffset (s : State) (n : Nat) (span : Int) : Rat :=
  match (s.ref n).edges with
  | [] => 0
  | e1 :: es =>
    match nearestEdge (e1.1 - span) es with
    | none => 0
    | some e0 =>
      let dt : Rat := ((e1.1 - e0.1 : Int) : Rat)
      if dt ≤ 0 then 0
      else ((((e1.2 - e0.2 : Int) : Rat) * (s.tTap n * 640) / dt) * (1 + s.yCalUsed) - 1) * (10 ^ 9 : Nat)

/-- One second of the gauge. -/
def gaugeSec : Nat := 640000000000

/-- An offset as REFM_YS and REFM_YL report it: units of 2^-10 ppb, saturating. -/
def offsetWord (y : Rat) : Int := clampInt (-2147483648) 2147483647 (roundAway (y * 1024))

/-- Has a reference been active for `k` seconds at time `t` (R101)? -/
def State.activeFor (s : State) (n t k : Nat) : Bool :=
  match (s.ref n).since with | some t0 => decide (k * gaugeSec ≤ t - t0) | none => false

/-- A reference at a 100 ms tick: y_s, HARD, and the wait in progress (R98, R101, R103, R106) (DEDUCED, log entry 22; DESIGN
CHOICE, log entry 80). -/
def State.refTick100 (t n : Nat) (s : State) : State :=
  if s.get (REFM_STATE_STATE n) = 0 then s
  else
    let had := s.on (REFM_STATE_SHORT_VALID n)
    let short := s.activeFor n t 1
    let ys := if short then s.windowOffset n gaugeSec else 0
    let s := (s.setRef n { s.ref n with ys := ys }).setB (REFM_STATE_SHORT_VALID n) short
    let s := s.setI (REFM_YS_OFFSET n) (offsetWord ys)
    let frozen := s.on GLB_STATUS_XO_INT
    let s := if frozen then s else s.setCond n 1 (short && decide ((s.get (REFM_HARD_LIMIT n) : Rat) < ratAbs ys))
    let s := s.refEval n
    if s.get (REFM_STATE_STATE n) = 2 ∧ short ∧ ¬ frozen then
      -- the first tick of the wait has no 100 ms of it behind it, nor has the first at which y_s is valid again
      let w := if had ∨ (s.ref n).waited = 0 then (s.ref n).waited + 1 else (s.ref n).waited
      (s.setRef n { s.ref n with waited := w }).set (REFM_STATE_WAIT_LEFT n) ((s.waitTicks n + 1 - w + 9) / 10)
    else s

/-- The drift projection at a 1 s tick (R104): from y_s at this tick and the y_s that read 100 s before (DEDUCED, log entry 22). -/
def State.driftTick (t n : Nat) (s : State) : State :=
  let r := s.ref n
  let never (s : State) : State := s.set (REFM_TCROSS_TCROSS n) 0xFFFFFF
  if !s.activeFor n t 100 then
    (never ((s.set (REFM_STATE_DRIFT_VALID n) 0).set (REFM_DRATE_DRATE n) 0)).setCond n 3 false
  else
    let d := (r.ys - r.hist.getD 99 0) / 100
    let s := (s.set (REFM_STATE_DRIFT_VALID n) 1).setI (REFM_DRATE_DRATE n)
      (clampInt (-2147483648) 2147483647 (roundAway (d * 65536)))
    let outward := decide ((0 < d ∧ 0 ≤ r.ys) ∨ (d < 0 ∧ r.ys ≤ 0))
    let lead := s.get (REFM_DRIFT_LEAD n)
    if lead = 0 ∨ ratAbs d < (s.get (REFM_DRIFT_DRIFT_LIM n) : Rat) / 1000 ∨ !outward then (never s).setCond n 3 false
    else
      let tx := ((s.get (REFM_SOFT_LIMIT n) : Rat) - ratAbs r.ys) / ratAbs d
      (s.set (REFM_TCROSS_TCROSS n) (if tx < 0 then 0 else min tx.floor.toNat 0xFFFFFE)).setCond n 3 (decide (tx ≤ (lead : Rat)))

/-- A reference at a 1 s tick: y_s, y_l, SOFT, the projection; PJ and the marks of the last second clear (R101, R103, R104,
R107) (DEDUCED, log entry 22). -/
def State.refTick1 (t n : Nat) (s : State) : State :=
  if s.get (REFM_STATE_STATE n) = 0 then s
  else
    -- the 100 ms tick of this instant reports this y_s
    let s := s.setRef n { s.ref n with ys := if s.activeFor n t 1 then s.windowOffset n gaugeSec else 0 }
    let long := s.activeFor n t 100
    let yl := if long then s.windowOffset n (100 * gaugeSec) else 0
    let s := (s.setRef n { s.ref n with yl := yl }).setB (REFM_STATE_LONG_VALID n) long
    let s := s.setI (REFM_YL_OFFSET n) (offsetWord yl)
    let s := if s.on GLB_STATUS_XO_INT then s
      else
        let s := s.setCond n 2 (long && decide ((s.get (REFM_SOFT_LIMIT n) : Rat) < ratAbs yl))
        s.driftTick t n
    let s := (s.setCond n 4 false).refEval n
    let r := s.ref n
    s.setRef n { r with jumped := false, bad := false, hist := (r.ys :: r.hist).take 100 }

/-- All frequency windows restart, and FROZEN follows XO_INT (R106). -/
def State.refsFreeze (s : State) : State :=
  s.each (List.range 64) fun n t =>
    let r := t.ref n
    let t := t.setRef n { r with edges := [], corr := 0, ys := 0, yl := 0, hist := [], since := r.since.bind fun _ => r.seen }
    let t := (((t.set (REFM_STATE_SHORT_VALID n) 0).set (REFM_STATE_LONG_VALID n) 0).set (REFM_STATE_DRIFT_VALID n) 0)
    let t := (((t.set (REFM_YS_OFFSET n) 0).set (REFM_YL_OFFSET n) 0).set (REFM_DRATE_DRATE n) 0).set (REFM_TCROSS_TCROSS n) 0xFFFFFF
    t.setB (REFM_STATE_FROZEN n) (t.on GLB_STATUS_XO_INT)

end Sys2Proof.Machine
end

