-- ==== Sys2Proof/Machine/CguOps.lean ====
section
/-! DEFINITION. Operations of chapter 03: the XO judgement and its monitor, failover, source switches, and what a gate asks
for. -/

namespace Sys2Proof.Machine

/-! ### The XO -/

/-- N of the table of XO frequencies (R68). -/
def xoN (code : Nat) : Nat := [1000, 800, 500, 400, 250, 200, 160, 125, 100, 80, 50, 40].getD code 25

/-- f_XO of a code, in Hz. -/
def xoHz (code : Nat) : Nat := 10000000000 / xoN code

/-- The entry of the table within ±0.5 % of a frequency (R71). -/
def xoCode (hz : Nat) : Option Nat :=
  (List.range 12).find? fun c => decide ((hz - xoHz c + (xoHz c - hz)) * 200 ≤ xoHz c)

/-- Offset of the XO against IOSC from IOSC counts of 100 µs windows (R71) (DEDUCED, log entry 12). -/
def xoOffset (counts : List Nat) : Rat :=
  if counts.sum = 0 then 1 else (40000 * counts.length : Nat) / (counts.sum : Rat) - 1

/-- An offset in the units of CGU_XO_STATUS.OFFSET. -/
def xoOffsetWord (y : Rat) : Int := clampInt (-128) 127 (roundAway (y * 40000))

/-- The first check of R71 that fails, as JUDGE_CAUSE; 0 when all pass. -/
def judgeCause (active : Bool) (hz : Nat) (counts : List Nat) : Nat :=
  if !active then 1
  else if (xoCode hz).isNone then 2
  else if (400 / 1000000 : Rat) < ratAbs (xoOffset counts) then 3
  else if counts.any fun a => counts.any fun b => decide (a + 4 < b) then 4
  else 0

/-- The judgement of R71 (DESIGN CHOICE, log entry 4; DESIGN CHOICE, log entry 78). -/
def State.xoJudge (active : Bool) (hz : Nat) (counts : List Nat) (s : State) : State :=
  if s.get GLB_BOOT_STATUS_STATE ≠ 0 ∨ s.on CGU_XO_STATUS_JUDGED ∨ s.boot.held then s
  else
    let cause := judgeCause active hz counts
    let s := (s.set CGU_XO_STATUS_JUDGED 1).set CGU_XO_STATUS_JUDGE_CAUSE cause
    let s := match (if active then xoCode hz else none) with
      | none => s
      | some c => (s.set CGU_XO_STATUS_FREQ c).setI CGU_XO_STATUS_OFFSET (xoOffsetWord (xoOffset counts))
    if cause = 0 then
      let s := (s.set CGU_XO_STATUS_JUDGE_OK 1).set CGU_XO_STATUS_XO_SRC 1
      let c := counts.getLastD 40000
      { s with cgu := { s.cgu with refCount := c, lastCount := c } }
    else (s.set GLB_STATUS_XO_INT 1).refsFreeze.logFault 0x12 cause none

/-- Change of the root from the XO to IOSC, from the IOSC count of a window (R151); 0 where no window was counted (DEDUCED,
log entry 12). -/
def rootDelta (count : Nat) : Rat := if count = 0 then 0 else (count : Rat) / 40000 - 1

/-- The device runs from IOSC from now on (R74, R106, R151). -/
def State.failover (s : State) : State :=
  let dy := rootDelta s.cgu.lastCount
  let s := ((s.set CGU_XO_STATUS_XO_SRC 0).set GLB_STATUS_XO_INT 1).raise CGU_XO_EVT_FAILOVER
  let s := s.count CGU_XO_EVT_FAILOVER_COUNT
  let s := ((s.rootChange dy).refsFreeze).offerEval.learnBreakAll
  (s.queueEvent 11 [s.rd CGU_XO_EVT]).logFault 0x13 0 none

/-- An XO loss while the root runs (R72 to R74). -/
def State.xoLoss (f : FieldRef) (s : State) : State :=
  let s := s.raise f
  if s.on CGU_XO_STATUS_XO_SRC then
    let s := s.failover
    { s with cgu := { s.cgu with coasting := true, goodRun := 0 } }
  else s

/-- Does a window differ from the reference count by more than 600 ppm (R72)? -/
def windowOff (ref count : Nat) : Bool := decide (600 * ref < (count - ref + (ref - count)) * 1000000)

/-- Does the XO pass the checks of R71 less the window count limit, over the last ten windows (R75)? (DEDUCED, log entry 11) -/
def State.xoPasses (s : State) : Bool :=
  let w := s.cgu.windows
  decide (w.length = 10) && w.all (fun x => x.active && (xoCode x.hz).isSome) &&
    decide (ratAbs (xoOffset (w.map (·.count))) ≤ 400 / 1000000)

/-- A window of the monitor ends (R72, R75, R86): a window counts towards GOOD_WAIT when XO_GOOD read 1 from its start to its
end (DEDUCED, log entry 11). -/
def State.monitorWindow (active : Bool) (hz count : Nat) (s : State) : State :=
  if !s.on CGU_XO_STATUS_JUDGED ∨ s.pwr.state = .dormant then s
  else
    let g := s.cgu
    let s := { s with cgu := { g with
      lastCount := if active then count else g.lastCount, windows := (XoWindow.mk active hz count :: g.windows).take 10 } }
    let was := s.on CGU_XO_STATUS_XO_GOOD
    let ok := s.xoPasses
    { s.setB CGU_XO_STATUS_XO_GOOD ok with cgu := { s.cgu with goodRun := if ok && was then s.cgu.goodRun + 1 else 0 } }

/-- A write of CGU_XO_CTRL (R75): GOOD_WAIT seconds are 10,000 windows each. -/
def State.xoCtrlWrite (m : Master) (v : Word) (r : RegRow) (s : State) : State :=
  let s := s.plainWrite m CGU_XO_CTRL v r
  if !s.on CGU_XO_CTRL_RETURN then s
  else
    let s := s.set CGU_XO_CTRL_RETURN 0
    if !s.on CGU_XO_STATUS_XO_SRC && s.on CGU_XO_STATUS_XO_GOOD && decide (10000 * s.get CGU_XO_CTRL_GOOD_WAIT ≤ s.cgu.goodRun)
    then { s with cgu := { s.cgu with returning := true } }
    else s.raise CGU_XO_EVT_RETURN_REFUSED

/-- AX0 has locked to the XO again (R75, R106, R151). -/
def State.xoReturned (count : Nat) (s : State) : State :=
  if !s.cgu.returning then s
  else
    let s := { s with cgu := { s.cgu with returning := false, refCount := count, lastCount := count } }
    let s := ((s.set CGU_XO_STATUS_XO_SRC 1).set GLB_STATUS_XO_INT 0).raise CGU_XO_EVT_RETURN_DONE
    let s := s.setI CGU_XO_STATUS_OFFSET (xoOffsetWord (xoOffset [count]))
    let s := match s.cgu.windows.head?.bind fun w => xoCode w.hz with
      | some c => s.set CGU_XO_STATUS_FREQ c
      | none => s
    let s := ((s.rootChange (-(rootDelta count))).refsFreeze).offerEval.learnBreakAll
    s.queueEvent 11 [s.rd CGU_XO_EVT]

/-! ### Source switches -/

/-- The field of CGU_DOM_SRC of a system-clock domain. -/
def domField : Nat → FieldRef
  | 0 => CGU_DOM_SRC_CORE | 1 => CGU_DOM_SRC_MGMT | 2 => CGU_DOM_SRC_TBASE | 3 => CGU_DOM_SRC_PERIPH | _ => CGU_DOM_SRC_NV

/-- The source of a domain as its register shows it: in force, or requested while a switch is in progress. -/
def State.domSrc (s : State) (d : Nat) : Nat :=
  if d < 5 then s.get (domField d) else if d = 5 then s.cgu.clkSrc else s.cgu.laneSrc

/-- The source of a system-clock domain reads `x`. -/
def State.showSrc (d x : Nat) (s : State) : State := if d < 5 then s.set (domField d) x else s

/-- A source comes into force. -/
def State.forceSrc (d x : Nat) (s : State) : State :=
  if d < 5 then s.set (domField d) x
  else if d = 5 then { s with cgu := { s.cgu with clkSrc := x, clkDiv := s.get CGU_CLKOUT_DIV, clkPos := 0, clkFrac := 0 } }
  else { s with cgu := { s.cgu with laneSrc := x } }

def State.switchBusy (s : State) (d : Nat) : Option Switch := s.cgu.busy.find? (·.dom == d)

def State.showBusy (s : State) : State := s.setB CGU_SWITCH_STATUS_BUSY !s.cgu.busy.isEmpty

/-- A switch is requested, by the governor or not (R81, R85): one that finds its domain busy waits (DEDUCED, log entry 13). -/
def State.requestSwitch (d new : Nat) (gov : Bool) (s : State) : State :=
  let old := s.domSrc d
  match s.switchBusy d with
  | some _ => ({ s with cgu := { s.cgu with waiting := s.cgu.waiting ++ [⟨d, old, new, gov⟩] } } : State).showSrc d new
  | none =>
    if old = new then s
    else (({ s with cgu := { s.cgu with busy := ⟨d, old, new, gov⟩ :: s.cgu.busy } } : State).showSrc d new).showBusy

/-- The source a domain will be on when all that is asked of it has been done. -/
def State.srcDue (s : State) (d : Nat) : Nat :=
  match (s.cgu.waiting.filter (·.dom == d)).getLast?, s.switchBusy d with
  | some w, _ => w.new
  | none, some w => w.new
  | none, none => s.domSrc d

/-- What CGU_SWITCH_STATUS records of a switch (R82 to R84). -/
def State.recordSwitch (d lostOld lostNew : Nat) (unknown abandoned : Bool) (s : State) : State :=
  let s := ((s.countMod CGU_SWITCH_STATUS_SWITCH_COUNT).set CGU_SWITCH_STATUS_DOMAIN d).setB CGU_SWITCH_STATUS_UNKNOWN unknown
  ((s.setB CGU_SWITCH_STATUS_ABANDONED abandoned).set CGU_SWITCH_STATUS_LOST_OLD lostOld).set CGU_SWITCH_STATUS_LOST_NEW lostNew

/-- The switch of a domain leaves it on source `x`, and the switches that wait for the domain are asked for again in their order:
the first that changes its source starts, the rest wait for it (R85). -/
def State.switchOver (d x : Nat) (s : State) : State :=
  let ws := s.cgu.waiting.filter (·.dom == d)
  let s := ({ s with cgu := { s.cgu with
    busy := s.cgu.busy.filter (·.dom != d), waiting := s.cgu.waiting.filter (·.dom != d) } } : State).forceSrc d x
  (ws.foldl (fun t w => t.requestSwitch d w.new w.gov) s).showBusy

/-- A switch completes with a known loss (R82, R86) (DEDUCED, log entry 13). -/
def State.switchDone (w : Switch) (s : State) : State :=
  let s := (s.switchOver w.dom w.new).recordSwitch w.dom 3 5 false false
  s.when (decide (w.dom = 2)) fun t => (t.advance w.old 3).advance w.new 5

/-- A switch completes by force (R83, R237). -/
def State.switchByForce (w : Switch) (s : State) : State :=
  let s := ((s.switchOver w.dom w.new).recordSwitch w.dom 0 0 true false).logFault 0x08 w.dom none
  s.when (decide (w.dom = 2)) fun t => (t.raise (TIM_EVT_SLIP_UNKNOWN 0)).raise (TIM_EVT_SLIP_UNKNOWN 1)

/-- A switch is abandoned (R84, R86) (DEDUCED, log entry 13). -/
def State.switchDropped (w : Switch) (s : State) : State :=
  let s := (s.switchOver w.dom w.old).recordSwitch w.dom 3 0 false true
  s.when (decide (w.dom = 2)) (·.advance w.old 72)

/-- The lanes follow LANE_FB (R202): 0 is the fallback, 1 is AX1. -/
def State.laneFollow (s : State) : State :=
  let want := if s.on (AXL_STATUS_LANE_FB 1) then 0 else 1
  if s.srcDue 6 = want then s else s.requestSwitch 6 want false

/-! ### CLKOUT -/

/-- Frequency of a system-clock domain in Hz (R35, R81). -/
def State.domHz (s : State) (d : Nat) : Nat :=
  match s.domSrc d with
  | 0 => 1250000000 / 2 ^ (if d = 0 then 0 else d)
  | 1 => xoHz (s.get CGU_XO_STATUS_FREQ)
  | _ => 400000000

/-- Frequency of a source of CLKOUT in Hz (R87). -/
def State.clkHz (s : State) (src : Nat) : Nat :=
  if src < 5 then s.domHz src
  else if src = 5 then (if s.get CGU_XO_STATUS_FREQ < 12 then xoHz (s.get CGU_XO_STATUS_FREQ) else 0)
  else if src = 6 then 400000000 else 156250000

/-- A write of CGU_CLKOUT (R25, R87, R89): a DIV above 65,536 stays as it was; a pair of source and divider that exceeds 250 MHz
changes neither. A new DIV waits in its register for the next rising edge of the output (DEDUCED, log entry 13). -/
def State.clkoutWrite (m : Master) (v : Word) (r : RegRow) (s : State) : State :=
  let src := fieldOf CGU_CLKOUT_SRC v
  let wide := decide (65536 < fieldOf CGU_CLKOUT_DIV v)
  let d := if wide then s.get CGU_CLKOUT_DIV else fieldOf CGU_CLKOUT_DIV v
  if d ≠ 0 ∧ 250000000 * d < s.clkHz src then s.badRange m CGU_CLKOUT
  else
    let s := s.plainWrite m CGU_CLKOUT v r
    if s.srcDue 5 = src then s else s.requestSwitch 5 src false

/-- CLKOUT `k` source cycles after its rising edge, divided by `d` (R87, R88). -/
def clkLevel (d k : Nat) : PinLevel :=
  if d = 0 then .low else if d = 1 then .source else if k < (d + 1) / 2 then .high else .low

/-- The level of CLKOUT; low during a switch of its source (R87 to R89). -/
def State.clkPin (s : State) : PinLevel :=
  if (s.switchBusy 5).isSome then .low else clkLevel s.cgu.clkDiv s.cgu.clkPos

/-- A rising edge of the source of CLKOUT: at the end of an output period, and while the output is off, the divider written last
comes into force and the output rises (R88, R89). -/
def State.clkEdge (s : State) : State :=
  if s.cgu.clkPos + 1 < s.cgu.clkDiv then { s with cgu := { s.cgu with clkPos := s.cgu.clkPos + 1 } }
  else { s with cgu := { s.cgu with clkPos := 0, clkDiv := s.get CGU_CLKOUT_DIV } }

/-- Cycles of the source of CLKOUT in one cycle of the time base on code 0, at nominal ratios; AX1 as it is steered (R35, R87)
(DEDUCED, log entry 13). -/
def State.clkRatio (s : State) : Rat :=
  if s.cgu.clkSrc = 7 then (1 + ((s.axle 1).word : Rat) / (2 ^ 48 : Nat)) / 2 else (s.clkHz s.cgu.clkSrc : Rat) / (312500000 : Nat)

/-- CLKOUT in one cycle of the time base (R88). -/
def State.clkTick (s : State) : State :=
  if (s.switchBusy 5).isSome then s
  else
    let x := s.cgu.clkFrac + s.clkRatio
    let n := x.floor.toNat
    ({ s with cgu := { s.cgu with clkFrac := x - (n : Rat) } } : State).each (List.range n) fun _ t => t.clkEdge

/-- A write of CGU_DOM_SRC (R81). -/
def State.domSrcWrite (m : Master) (v : Word) (r : RegRow) (s : State) : State :=
  if s.get GLB_STATUS_MODE ≠ 5 then s.refuseWrite m CGU_DOM_SRC
  else
    let (w, bad) := writeFields r.fields (s.rd CGU_DOM_SRC) v
    let s := s.when bad (State.badRange m CGU_DOM_SRC)
    s.each [0, 1, 2, 3, 4] fun d t =>
      let x := fieldOf (domField d) w
      t.when (decide (x ≠ t.domSrc d)) (State.requestSwitch d x false)

end Sys2Proof.Machine
end

