-- ==== Sys2Proof/Machine/TseOps.lean ====
section
/-! DEFINITION. Operations of the 1588 engine (chapter 12): when a port is ready, calibration, sessions, stamps and offsets. -/

namespace Sys2Proof.Machine

/-! ### Ports -/

/-- The first port of the quad of a port, and the rate of a 100G port. -/
def quadPort (p : Nat) : Nat := p / 4 * 4
/-- Is `p` a lane of a 100G port other than its first, while that port runs at that rate (R94, R308)? -/
def State.laneOfFat (s : State) (p : Nat) : Bool :=
  decide (p % 4 ≠ 0) && s.get (PRT_CFG_RATE (quadPort p)) == 4 && s.get (PRT_STATUS_STATE (quadPort p)) != 0

/-- Is the engine running: not gated, not in VIGIL or below (R80, R286)? -/
def State.tseOn (s : State) : Bool :=
  !(s.get CGU_GATE_STATUS_GATED).testBit 20 && s.pwr.state != .vigil && s.pwr.state != .dormant

/-- Port ready (R280). -/
def State.portReady (s : State) (p : Nat) : Bool :=
  s.lockSeen p && !s.on (TSE_PORT_STATUS_RX_NOPHASE p) &&
    (s.on (TSE_PORT_STATUS_CAL_OK p) || !s.on (TSE_PORT_CFG_CAL_REQ p))

/-- A delay in ps in units of 2^-16 ns. -/
def psUnits (ps : Nat) : Int := roundAway ((ps * 65536 : Nat) / (1000 : Rat))

/-- Rate and FEC of a port; a lane of a 100G port has those of the port. -/
def State.portRate (s : State) (p : Nat) : Nat := s.get (PRT_CFG_RATE (if s.laneOfFat p then quadPort p else p))
def State.portFec (s : State) (p : Nat) : Nat := s.get (PRT_CFG_FEC (if s.laneOfFat p then quadPort p else p))

/-- A latency, or the nominal one of the port's rate (R269). -/
def State.orNominal (s : State) (p : Nat) (tx : Bool) (x : Option Rat) : Rat :=
  match x with
  | some x => x
  | none => ((if tx then Config.nominalLatTx (s.portRate p) (s.portFec p)
      else Config.nominalLatRx (s.portRate p) (s.portFec p)).toNat : Rat)

/-- Key of a path: 2 × port, transmit even. -/
def pathKey (p : Nat) (tx : Bool) : Nat := 2 * p + if tx then 0 else 1

/-- The calibrated latency of a path, transmit or receive (R269) (DEDUCED, log entry 33). -/
def State.calLatency (s : State) (p : Nat) (tx : Bool) : Rat := s.orNominal p tx (smAt s.tse.lat (pathKey p tx))

/-- The latency a stamp uses (R269, R270): the calibrated one, while CAL_OK reads 0 the one last held. -/
def State.latency (s : State) (p : Nat) (tx : Bool) : Rat :=
  if s.on (TSE_PORT_STATUS_CAL_OK p) then s.calLatency p tx else s.orNominal p tx (smAt s.tse.held (pathKey p tx))

/-! ### Stamps -/

/-- One line bit of a rate in units of 2^-16 ns (R309). -/
def bitTime (rate : Nat) : Rat :=
  if rate = 1 then 65536 * 4 / 5 else if rate = 2 then 65536 * 16 / 165 else 65536 * 32 / 825

/-- The correction of R271, in units of 2^-16 ns: what starts later in its word crosses the plane later, by whole symbols with
RS-FEC and not at all with Clause 74 FEC; a lane of a 100G port that runs late is referred to lane 4q (DEDUCED, log entry 33). -/
def State.placeShift (s : State) (p bits : Nat) (skew : Int) : Rat :=
  let fec := s.portFec p
  let n := if fec = 1 then 0 else if fec = 2 then bits / 10 * 10 else bits
  (n : Nat) * bitTime (s.portRate p) - (if s.portRate p = 4 then (skew : Rat) else 0)

/-- The two stamps nearest to place `x` in the sequence of tapped edges, the newer first (R267). -/
def nearestTwo : List (Nat × Nat) → Rat → Option ((Nat × Nat) × (Nat × Nat))
  | a :: b :: c :: rest, x => if x < (b.1 : Rat) then nearestTwo (b :: c :: rest) x else some (a, b)
  | [a, b], _ => some (a, b)
  | _, _ => none

/-- The time at place `x` on the line through two stamps. -/
def betweenTwo (a b : Nat × Nat) (x : Rat) : Rat :=
  (b.2 : Rat) + ((a.2 : Rat) - (b.2 : Rat)) * (x - (b.1 : Rat)) / ((a.1 : Rat) - (b.1 : Rat))

/-- The time at place `x` on the least-squares line through stamps (R296); none with fewer than two. -/
def lineAt (pts : List (Nat × Nat)) (x : Rat) : Option Rat :=
  match pts with
  | _ :: _ :: _ =>
    let mx := ratMean (pts.map fun q => (q.1 : Rat))
    let my := ratMean (pts.map fun q => (q.2 : Rat))
    let sxy : Rat := (pts.map fun q => ((q.1 : Rat) - mx) * ((q.2 : Rat) - my)).sum
    let sxx : Rat := (pts.map fun q => ((q.1 : Rat) - mx) * ((q.1 : Rat) - mx)).sum
    some (my + sxy / sxx * (x - mx))
  | _ => none

/-- The place of a received start among the tapped edges of its port: the pre-divider makes one of every D cycles (R91, R267). -/
def State.rxPlace (s : State) (p : Nat) (m : RxMark) : Rat :=
  let newest := match (s.gauge p).marks with | a :: _ => a.1 | [] => 0
  (newest : Rat) + (m.cycles : Rat) / (max 1 (s.get (REFM_DIV_DIV (16 + p))) : Nat)

/-- The time of the recovered-clock edge of a received start, in gauge LSB: between the two nearest stamps of the home gauge
(R267); none before there are two (DESIGN CHOICE, log entry 93). -/
def State.refPoint (s : State) (p : Nat) (m : RxMark) : Option Rat :=
  (nearestTwo (s.gauge p).marks (s.rxPlace p m)).map fun (a, b) => betweenTwo a b (s.rxPlace p m)

/-- 2^48 s in units of 2^-16 ns: stamps wrap there (R227, R266). -/
def stampSpan : Int := 2 ^ 48 * 10 ^ 9 * 2 ^ 16

/-- A domain's time at gauge time `x`, rounded to the nearest 2^-16 ns (R253, R266). -/
def State.domAt (s : State) (d : Nat) (x : Rat) : Int :=
  roundAway (((s.domTime d : Rat) + (x - (2048 * s.cyc : Nat)) * ((s.dom d).inc : Nat) / 2048) / (2 ^ 24 : Nat)) % stampSpan

/-- A receive stamp from the time of the recovered-clock edge (R266, R267, R271). -/
def State.rxStampAt (s : State) (p d : Nat) (m : RxMark) (x : Rat) : Int :=
  s.domAt d x + roundAway (s.placeShift p m.bits m.skew) - roundAway (s.latency p false) - psUnits (s.get (TSE_PORT_EXT_RX_EXT p))

/-- A receive stamp in a domain (R267); none before the home gauge has two stamps. -/
def State.rxStamp (s : State) (p d : Nat) (m : RxMark) : Option Int := (s.refPoint p m).map (s.rxStampAt p d m)

/-- Cycles of the time base to the next transmit-clock edge of the lanes (R268): every 64th tank edge of AX1, or every 32nd root
edge while the lanes are on the fallback (DEDUCED, log entry 33). -/
def State.laneEdge (s : State) : Rat :=
  if s.on (AXL_STATUS_LANE_FB 1) then ((s.cyc % 2 : Nat) : Rat)
  else
    let (q0, q1) := s.axleSpan 1
    let r := s.axRatio 1 (s.axEntry 1)
    let x := tankAt r q0
    (64 * (((x / 64).ceil : Int) : Rat) - x) / (tankAt r q1 - x)

/-- A transmit stamp, in a domain, of a frame or marker that leaves `wait` cycles from now (R266, R268, R271). -/
def State.txStampIn (s : State) (wait : Rat) (p d : Nat) : Int :=
  s.domAt d (2048 * ((s.cyc : Rat) + s.laneEdge + wait)) + roundAway (s.placeShift p (Config.txBits p s.cyc) 0) +
    roundAway (s.latency p true) + psUnits (s.get (TSE_PORT_EXT_TX_EXT p))

/-- A transmit stamp, in a domain, of a frame that leaves now (R266, R268). -/
def State.txStamp (s : State) (p d : Nat) : Int := s.txStampIn 0 p d

/-- A stamp as the four words of R275 lay it out: sub-ns, ns, seconds. -/
def stampSub (t : Int) : Nat := (t % 65536).toNat
def stampNs (t : Int) : Nat := (t / 65536 % 1000000000).toNat
def stampSec (t : Int) : Nat := (t / (65536 * 1000000000)).toNat

/-! ### Sessions -/

/-- Sessions that are on and bound to a port. -/
def State.sessionsOf (s : State) (p : Nat) : List Nat :=
  (List.range 192).filter fun k => s.get (SESS_STATUS_STATE k) != 0 && s.get (SESS_CFG_PORT k) == p

/-- A session takes a state of R280: the event, and what begins anew with it. -/
def State.setSessState (k st : Nat) (s : State) : State :=
  let old := s.get (SESS_STATUS_STATE k)
  let s := s.set (SESS_STATUS_STATE k) st
  let s := s.when (decide (st = 1 ∨ st = 3)) fun t => t.setSess k { t.sess k with seen := false, exch := false }
  if old = st then s
  else
    let s := s.when (decide (st = 2)) (·.set (SESS_STATUS_OFFSET_VALID k) 0)
    s.queueEvent 6 [packWord [(k, 0), (st, 8)]]

/-- Exchanges in progress are discarded (R280, R281). -/
def State.dropExchanges (k : Nat) (s : State) : State :=
  s.setSess k { s.sess k with pend := none, sync := none, reqs := [], presp := none }

/-- Coupling and the sessions of a port after its readiness, CAL_OK or RX_NOPHASE changed (R280, R281); a MASTER stays in RUN. -/
def State.sessionsEval (p : Nat) (s : State) : State :=
  (s.cplTurn p).each (s.sessionsOf p) fun k t =>
    let t := t.dropExchanges k
    if t.portReady p ∨ t.get (SESS_CFG_ROLE k) = 0 then t else t.setSessState k 1

/-- Calibration of a port starts again (R270): stamps keep the latencies in force, after a rate change the nominal ones (DEDUCED,
log entry 33). -/
def State.calAgain (p : Nat) (rate : Bool) (s : State) : State :=
  let keep (tx : Bool) (s : State) : State :=
    let k := pathKey p tx
    if rate then { s with tse := { s.tse with lat := smPut s.tse.lat k none, held := smPut s.tse.held k none } }
    else if s.on (TSE_PORT_STATUS_CAL_OK p) then { s with tse := { s.tse with held := smPut s.tse.held k (smAt s.tse.lat k) } }
    else s
  let s := keep false (keep true s)
  ((s.set (TSE_PORT_STATUS_CAL_OK p) 0).set (TSE_PORT_EVT_CAL_LOST p) 1).sessionsEval p

/-- Calibration of a port starts again at the same rate. -/
def State.calRestart (p : Nat) (s : State) : State := s.calAgain p false

def State.calRestartAll (s : State) : State := s.each (List.range 48) State.calRestart

/-- RX_NOPHASE follows the home gauge of the port and the gate of GAU (R267). -/
def State.phaseEval (p : Nat) (s : State) : State :=
  let bad := !(s.on (GAU_CFG_ENABLE p) && s.get (GAU_CFG_SRC p) == 0xFF && s.get (GAU_CFG_MODE p) == 0) ||
    (s.get CGU_GATE_STATUS_GATED).testBit 22
  if s.on (TSE_PORT_STATUS_RX_NOPHASE p) = bad then s
  else (s.setB (TSE_PORT_STATUS_RX_NOPHASE p) bad).sessionsEval p

def State.phaseEvalAll (s : State) : State := s.each (List.range 48) State.phaseEval

/-- mpd: the mean of the last 2^DELAY_AVG values (R279); 0 with DELAY = 2. -/
def State.mpd (s : State) (k : Nat) : Rat :=
  if s.get (SESS_CFG_DELAY k) = 2 then 0 else ratMean ((s.sess k).mpds.take (2 ^ s.get (SESS_INTV_DELAY_AVG k)))

/-- SESS_MPD follows mpd. -/
def State.showMpd (k : Nat) (s : State) : State := s.setWide (SESS_MPD_LO k) (SESS_MPD_HI k) 16 (roundAway (s.mpd k))

/-- Is a value of mpd at hand? -/
def State.mpdAvailable (s : State) (k : Nat) : Bool := s.get (SESS_CFG_DELAY k) == 2 || !(s.sess k).mpds.isEmpty

/-- The moves of LISTEN and TIMEOUT to RUN (R280). -/
def State.sessAdvance (k : Nat) (s : State) : State :=
  let x := s.sess k
  let role := s.get (SESS_CFG_ROLE k)
  let st := s.get (SESS_STATUS_STATE k)
  if !s.portReady (s.get (SESS_CFG_PORT k)) then s
  else if st = 1 ∧ role = 1 ∧ x.seen ∧ s.mpdAvailable k then s.setSessState k 2
  else if st = 1 ∧ role = 2 ∧ x.exch then s.setSessState k 2
  else if st = 3 ∧ (role = 2 ∨ x.seen) ∧ (x.exch ∨ s.get (SESS_CFG_DELAY k) = 2) then s.setSessState k 2
  else s

/-- Does a session take event messages: on, with its engine running, its port locked, stamped and in phase (R267,
TSE_PORT_CFG.TS_EN)? -/
def State.sessHears (s : State) (k : Nat) : Bool :=
  let p := s.get (SESS_CFG_PORT k)
  s.get (SESS_STATUS_STATE k) != 0 && s.tseOn && s.lockSeen p && s.on (TSE_PORT_CFG_TS_EN p) &&
    !s.on (TSE_PORT_STATUS_RX_NOPHASE p)

/-- A message or an exchange is discarded. -/
def State.sessDiscard (k : Nat) (s : State) : State := s.count (SESS_COUNT_DISCARDS k)

/-- An offset is produced from a Sync, in RUN only (R279); it is a sample of the loops with SRC 2 that name the session. -/
def State.sessOffset (k : Nat) (t1 t2 : Int) (s : State) : State :=
  if s.get (SESS_STATUS_STATE k) ≠ 2 then s
  else
    let o := roundAway (((t2 - t1 : Int) : Rat) - s.mpd k - (s.getI (SESS_ASYM_ASYM k) : Rat))
    let s := (s.setWide (SESS_OFFSET_LO k) (SESS_OFFSET_HI k) 16 o).set (SESS_STATUS_OFFSET_VALID k) 1
    let s := s.countMod (SESS_COUNT_OFFSETS k)
    let u : Rat := -((s.getWideI (SESS_OFFSET_LO k) (SESS_OFFSET_HI k) 16 : Rat) / 65536)
    s.each [0, 1, 2, 3] fun l t =>
      t.when (t.loopSrc l == 2 && t.get (DPL_CFG_SRC_ID l) == k) (State.takeSample l u)

/-- A Sync is complete, with its t1 and t2 (R279, R280) (DEDUCED, log entry 35). -/
def State.sessSync (k : Nat) (t1 t2 : Int) (s : State) : State :=
  let s := s.setSess k { s.sess k with sync := some (t1, t2), seen := true, pend := none }
  (s.sessAdvance k).sessOffset k t1 t2

/-- An exchange is complete with its mpd_k (R279, R280). -/
def State.sessExchange (k : Nat) (m : Rat) (s : State) : State :=
  let x := s.sess k
  let s := s.setSess k { x with mpds := (m :: x.mpds).take 128, exch := true }
  (s.showMpd k).sessAdvance k

/-! ### The transmit stamp queue -/

/-- A stamp enters the queue (R275). -/
def State.pushStamp (e : TxStamp) (s : State) : State :=
  if 256 ≤ s.tse.queue.length then s.count TSE_TXTS_STATUS_OVERFLOWS
  else
    let q := s.tse.queue ++ [e]
    { s with tse := { s.tse with queue := q } }.set TSE_TXTS_STATUS_LEVEL q.length

/-! ### ESMC -/

/-- The QL rank of a received code (R284). -/
def qlRank (option2 enhanced : Bool) (ssm : Nat) (essm : Option Nat) : Nat :=
  let e := if enhanced then (match essm with | some 0xFF => none | x => x) else none
  match option2, e with
  | false, some x => if ssm = 2 ∧ x = 0x21 then 1 else if ssm = 2 ∧ x = 0x20 then 2 else if ssm = 2 ∧ x = 0x23 then 3
      else if ssm = 0xB ∧ x = 0x22 then 7 else 0
  | false, none => if ssm = 2 then 4 else if ssm = 4 then 5 else if ssm = 8 then 6 else if ssm = 0xB then 8 else 0
  | true, some x => if ssm = 1 ∧ x = 0x21 then 1 else if ssm = 1 ∧ x = 0x20 then 2 else if ssm = 1 ∧ x = 0x23 then 3
      else if ssm = 0xA ∧ x = 0x22 then 9 else 0
  | true, none => if ssm = 1 then 4 else if ssm = 0 then 5 else if ssm = 7 then 6 else if ssm = 4 then 7 else if ssm = 0xD then 8
      else if ssm = 0xA then 10 else if ssm = 0xE then 11 else if ssm = 0xC then 12 else 0

/-- The SSM and eSSM of a rank (R284); none where the table has no QL. -/
def qlCode (option2 : Bool) (rank : Nat) : Option (Nat × Nat) :=
  match option2, rank with
  | false, 1 => some (2, 0x21) | false, 2 => some (2, 0x20) | false, 3 => some (2, 0x23) | false, 4 => some (2, 0xFF)
  | false, 5 => some (4, 0xFF) | false, 6 => some (8, 0xFF) | false, 7 => some (0xB, 0x22) | false, 8 => some (0xB, 0xFF)
  | true, 1 => some (1, 0x21) | true, 2 => some (1, 0x20) | true, 3 => some (1, 0x23) | true, 4 => some (1, 0xFF)
  | true, 5 => some (0, 0xFF) | true, 6 => some (7, 0xFF) | true, 7 => some (4, 0xFF) | true, 8 => some (0xD, 0xFF)
  | true, 9 => some (0xA, 0x22) | true, 10 => some (0xA, 0xFF) | true, 11 => some (0xE, 0xFF) | true, 12 => some (0xC, 0xFF)
  | _, 0 => some (0xF, 0xFF)
  | _, _ => none

/-- The QL of a port's reference takes a rank (R284): the four selectors, the port, the message. -/
def State.setQl (p rank : Nat) (s : State) : State :=
  let n := 16 + p
  let s := s.each [0, 1, 2, 3] fun l t =>
    let a := SEL_QL l (n / 8)
    (t.wr a (putBits (t.rd a) (4 * (n % 8)) 4 rank)).selEval l
  let s := s.when (decide (s.get (TSE_PORT_STATUS_QL_RANK p) ≠ rank)) fun t => t.queueEvent 8 [packWord [(p, 0), (rank, 8)]]
  s.set (TSE_PORT_STATUS_QL_RANK p) rank

/-- The rank sent on a port (R285). -/
def State.sentQl (s : State) (p : Nat) : Nat :=
  let own := s.get TSE_ESMC_CFG_OWN_RANK
  let st := s.loopState 2
  match (s.sel 2).active with
  | some n =>
    if st = 1 ∨ st = 2 then
      (if n = 16 + p then 0
       else let r := s.selQl 2 n
            if (qlCode (s.on TSE_ESMC_CFG_OPTION) r).isSome then r else own)
    else if n = 16 + p then 0 else own
  | none => own

/-- The ports ESMC sends on: enabled, with the firmware's ports running (R285, R286) (DEDUCED, log entry 37). -/
def State.esmcPorts (s : State) : List Nat :=
  if s.pwr.state = .run then (List.range 48).filter fun p => (s.getWide TSE_ESMC_TX_LO TSE_ESMC_TX_HI 16).testBit p else []

/-- The octets of an ESMC PDU, the FCS left off: slow protocol subtype 0x0A, the ITU-T OUI (R284), the event flag, the QL TLV and,
with ENHANCED = 1, the extended QL TLV of ITU-T G.8264 (PRESUMED, log entry 94). -/
def State.esmcPdu (s : State) (event p ssm essm : Nat) : List Octet :=
  let head := octetsBE 6 0x0180C2000002 ++ s.macOf p ++ octetsBE 2 0x8809 ++ octetsBE 1 0x0A ++ octetsBE 3 0x0019A7 ++
    octetsBE 2 1 ++
    octetsBE 1 (16 + event * 8) ++ octetsBE 3 0 ++ octetsBE 3 0x010004 ++ octetsBE 1 ssm
  let ext := if s.on TSE_ESMC_CFG_ENHANCED then
      octetsBE 3 0x020014 ++ octetsBE 1 essm ++ octetsBE 8 Config.clockIdentity.toNat ++ octetsBE 1 0 ++ octetsBE 1 1 ++
        octetsBE 1 0 ++ octetsBE 5 0
    else []
  let bs := head ++ ext
  bs ++ List.replicate (60 - bs.length) 0

/-- An ESMC PDU leaves a port (R285): 0 information, 1 event; SSM; eSSM. -/
def State.esmcSend (event p : Nat) (s : State) : State :=
  let r := s.sentQl p
  let (ssm, essm) := (qlCode (s.on TSE_ESMC_CFG_OPTION) r).getD (0xF, 0xFF)
  let s := { s with tse := { s.tse with sentRank := smPut s.tse.sentRank p r } }
  let bs := s.esmcPdu event p ssm essm
  if s.macOpen p then
    (s.emit .esmc p [event, ssm, if s.on TSE_ESMC_CFG_ENHANCED then (essm : Int) else -1] (bs ++ octetsLE 4 (crc32 bs))).countTx p
      (bs.length + 4) 0x0180C2000002
  else s

end Sys2Proof.Machine
end

