-- ==== Sys2Proof/Machine/Axles.lean ====
section
/-! DEFINITION. The commands of axles (chapter 08): their states, band tables, words and steps. -/

namespace Sys2Proof.Machine

/-! ### States -/

/-- Entry valid (R197): VALID, and the die temperature within 60 K of TEMP; right after VIGIL that is the last reading before it
(DESIGN CHOICE, log entry 89). -/
def State.entryValid (s : State) (n : Nat) : Bool :=
  let k := s.axEntry n
  s.on (AXL_BAND_CODE_VALID n k) &&
    decide ((s.pwr.die - s.getI (AXL_BAND_CODE_TEMP n k) * 256).natAbs ≤ 60 * 256)

/-- LANE_FB follows AX1 (R202), and calibration of every port restarts at its change (R268). -/
def State.laneEval (s : State) : State :=
  let st := s.get (AXL_STATUS_STATE 1)
  let fb := if st < 2 then true else if st = 3 then false else s.on (AXL_STATUS_LANE_FB 1)
  if s.on (AXL_STATUS_LANE_FB 1) = fb then s
  else ((s.setB (AXL_STATUS_LANE_FB 1) fb).laneFollow).calRestartAll

/-- An axle takes a state, with its mode and the lanes: `inj` where injection is engaged (R187). -/
def State.axleTo (n st : Nat) (inj : Bool) (s : State) : State :=
  let s := (s.setAxleState n st).engage n inj
  s.when (decide (n = 1)) State.laneEval

/-- PULLIN with the codes of the active entry (R197): after a search with injection engaged (R198), else in delay-locked mode
(R202) (DEDUCED, log entry 29). -/
def State.pullin (n : Nat) (inj : Bool) (s : State) : State :=
  let k := s.axEntry n
  let s := (s.set (AXL_STATUS_BAND n) (s.get (AXL_BAND_CODE_BAND n k))).set (AXL_STATUS_FINE n) (s.get (AXL_BAND_CODE_FINE n k))
  ((s.set (AXL_STATUS_ENTRY_IN_FORCE n) k).axleTo n 2 inj).setSquelch n true

/-- A band search of the active entry starts (R197, R198) (DEDUCED, log entry 29). -/
def State.searchStart (n : Nat) (s : State) : State :=
  let s := (s.count (AXL_COUNT_SEARCHES n)).set (AXL_STATUS_ENTRY_IN_FORCE n) (s.axEntry n)
  (s.axleTo n 1 false).setSquelch n true

/-- The active entry is used: PULLIN if it is valid, else a search (DEDUCED, log entry 29). -/
def State.axleEnter (n : Nat) (s : State) : State := if s.entryValid n then s.pullin n false else s.searchStart n

/-- The reading of the loop clock of the loop that steers an axle, in the units of q; 0 when none steers it (R190). -/
def State.axleOrigin (s : State) (n : Nat) : Int :=
  match s.steerer n with
  | none => 0
  | some l => ((if l < 2 then (s.dom l).c else (s.loop l).shadow : Nat) : Int) * 1280 % qSpan

/-- An axle that is OFF starts (R190, R197); not in STAGING, KEEP or below. -/
def State.axleStart (n : Nat) (s : State) : State :=
  if s.get (AXL_STATUS_STATE n) ≠ 0 ∨ s.get GLB_STATUS_MODE = 0 ∨ !(s.pwr.state == .run || s.pwr.state == .lean) then s
  else (s.setAxle n { s.axle n with q := s.axleOrigin n }).axleEnter n

/-- The jump in progress is complete (R196). -/
def State.jumpEnd (n : Nat) (s : State) : State :=
  s.when (s.axle n).jumping fun t => (t.setAxle n { t.axle n with jumping := false }).stepComplete n

/-- The tank is turned off (R197). -/
def State.axleOff (n : Nat) (s : State) : State :=
  if s.get (AXL_STATUS_STATE n) = 0 then s else (((s.axleTo n 0 false).setSquelch n true).jumpEnd n)

/-! ### Outputs at a hop -/

/-- The highest frequency of a format in Hz (R210). -/
def formatLimit (f : Nat) : Nat := if f = 1 then 400000000 else if f = 3 then 250000000 else 1500000000

/-- Does a clock of divider `d` from a source exceed the limit of a format (R210)? The ratio is that of the active entry. -/
def State.tooFast (s : State) (src format d : Nat) : Bool :=
  let hz : Rat := if src = 3 then 5000000000 else 5000000000 * (s.axRatio (src + 1) (s.axEntry (src + 1)) : Rat) / (2 ^ 46 : Nat)
  d != 0 && decide ((formatLimit format : Rat) * (d : Nat) < hz)

/-- An output whose new frequency exceeds its format's limit at a hop is disabled, and its driver turns off (R222). -/
def State.hopOff (n : Nat) (s : State) : State :=
  s.each (List.range 24) fun k t =>
    if t.on (OUT_CFG_ENABLE k) && !t.on (OUT_CFG_MODE k) && t.outAxle k == some n &&
        t.tooFast (t.get (OUT_CFG_SRC k)) (t.get (OUT_CFG_FORMAT k)) (t.outDiv k) then
      let t := ((t.set (OUT_CFG_ENABLE k) 0).outStop k 0).outEval k
      ((t.raise (OUT_EVT_CFG_ERR k)).raise (OUT_EVT_HOP_OFF k)).warn
    else t

/-- A hop (R197, R222). -/
def State.axleHop (n : Nat) (s : State) : State :=
  let s := ((s.raise (AXL_EVT_HOP n)).count (AXL_COUNT_HOPS n))
  (s.hopOff n).axleEnter n

/-! ### Registers -/

/-- A write of AXL_CFG (R196, R197, R203, R206). -/
def State.axleCfgWrite (m : Master) (n : Nat) (v : Word) (r : RegRow) (s : State) : State :=
  let a := AXL_CFG n
  if n = 0 then s.refuseWrite m a
  else
    let badHold := v.getLsbD 8 && s.get GLB_STATUS_MODE != 5
    let s := s.when badHold (State.badRange m a)
    let v := if badHold then keepField s (AXL_CFG_DLL_HOLD n) v else v
    let v := if n = 1 then putBits v 4 1 0 else v
    let was := s.on (AXL_CFG_ENABLE n)
    let hop := changes s (AXL_CFG_ENTRY n) v
    let hold := s.on (AXL_CFG_DLL_HOLD n)
    let jump := !s.on (AXL_CFG_STEP_MODE n) && v.getLsbD 4
    let s := s.plainWrite m a v r
    let on := s.get (AXL_STATUS_STATE n) != 0
    let s := s.when (jump && decide (s.stepLeft n ≠ 0)) (State.axleJump n)
    if was && !s.on (AXL_CFG_ENABLE n) then s.axleOff n
    else if !on && s.on (AXL_CFG_ENABLE n) then s.axleStart n
    else if on && hop then s.axleHop n
    else if hold && !s.on (AXL_CFG_DLL_HOLD n) && s.get (AXL_STATUS_STATE n) == 4 then s.axleTo n 2 true
    else s.engage n (s.axle n).injecting

/-- A write of AXL_CTRL (R197, R204): AX0 takes none (R206; DEDUCED, log entry 29), and OFF no search. -/
def State.axleCtrlWrite (m : Master) (n : Nat) (v : Word) (s : State) : State :=
  if n = 0 then s.refuseWrite m (AXL_CTRL n)
  else
    let s := s.when (v.getLsbD 1) (State.dropSteps n)
    s.when (v.getLsbD 0 && s.get (AXL_STATUS_STATE n) != 0) fun t =>
      (t.set (AXL_BAND_CODE_VALID n (t.axEntry n)) 0).searchStart n

/-- A write of AXL_FWORD_LO or AXL_FWORD_HI (R192). -/
def State.fwordWrite (m : Master) (n : Nat) (hi : Bool) (v : Word) (s : State) : State :=
  let a := if hi then AXL_FWORD_HI n else AXL_FWORD_LO n
  if n = 0 ∨ (s.steerer n).isSome then s.refuseWrite m a
  else if !hi then s.setAxle n { s.axle n with wordLo := v }
  else
    let w := signedOf 48 ((s.axle n).wordLo.toNat + v.toNat % 2 ^ 16 * 2 ^ 32)
    if 34339947158 < w.natAbs then s.badRange m a else s.axleWord n w

/-- A write of AXL_STEP_HI (R194): the request is posted. -/
def State.stepWrite (m : Master) (n : Nat) (v : Word) (s : State) : State :=
  if n = 0 ∨ (s.steerer n).isSome then s.refuseWrite m (AXL_STEP_HI n)
  else
    let k := signedOf 48 ((s.rd (AXL_STEP_LO n)).toNat + v.toNat % 2 ^ 16 * 2 ^ 32)
    s.requestStep n k false

/-- A write of AXL_STEP_LO: the value waits for AXL_STEP_HI. -/
def State.stepLoWrite (m : Master) (n : Nat) (v : Word) (r : RegRow) (s : State) : State :=
  if n = 0 ∨ (s.steerer n).isSome then s.refuseWrite m (AXL_STEP_LO n)
  else s.plainWrite m (AXL_STEP_LO n) v r

/-- A write of AXL_BAND_LO or AXL_BAND_HI (R191, R208) (DEDUCED, log entry 29). -/
def State.bandWrite (m : Master) (n k : Nat) (hi : Bool) (v : Word) (r : RegRow) (s : State) : State :=
  let a := if hi then AXL_BAND_HI n k else AXL_BAND_LO n k
  if s.axEntry n = k ∧ s.get (AXL_STATUS_STATE n) ≠ 0 then s.refuseWrite m a
  else if !hi then s.plainWrite m a v r
  else
    let x := (s.rd (AXL_BAND_LO n k)).toNat + v.toNat % 2 ^ 16 * 2 ^ 32
    let ok := if n = 1 then decide (x = 2 ^ 47) else decide (1961 * 2 ^ 46 ≤ 1000 * x ∧ 1000 * x ≤ 2518 * 2 ^ 46)
    if !ok then s.badRange m a
    else
      let s := s.plainWrite m a v r
      (s.setAxle n { s.axle n with ratios := smPut (s.axle n).ratios k x }).set (AXL_BAND_CODE_VALID n k) 0

/-- A write of AXL_STEP_RATE or AXL_LOCK; AX0 discards it (R206). -/
def State.axlePlain (m : Master) (n a : Nat) (v : Word) (r : RegRow) (s : State) : State :=
  if n = 0 then s.refuseWrite m a else s.plainWrite m a v r

/-! ### Events -/

/-- A band search ends (R197, R198). -/
def State.searchEnd (n : Nat) (found : Bool) (band fine : Nat) (s : State) : State :=
  if s.get (AXL_STATUS_STATE n) ≠ 1 then s
  else if found then
    let k := s.axEntry n
    let temp := clampInt (-128) 127 (roundAway ((s.getI FLT_TEMP_TJ : Rat) / 256))
    let s := (s.set (AXL_BAND_CODE_BAND n k) band).set (AXL_BAND_CODE_FINE n k) fine
    let s := (s.setI (AXL_BAND_CODE_TEMP n k) temp).set (AXL_BAND_CODE_VALID n k) 1
    (s.raise (AXL_EVT_SEARCH_DONE n)).pullin n true
  else ((s.raise (AXL_EVT_BAND_FAIL n)).axleOff n).logFault 0x14 n none

/-- Injection lock has been held for SQ_HOLD (R197, R201, R206) (DESIGN CHOICE, log entry 4). -/
def State.lockHeld (n : Nat) (s : State) : State :=
  if s.get (AXL_STATUS_STATE n) ≠ 2 then s
  else if n = 0 then s.axleTo 0 3 true
  else if s.on (AXL_CFG_DLL_HOLD n) then s
  else ((s.axleTo n 3 true).setSquelch n false).jumpEnd n

/-- No injection lock 30 µs after entry to PULLIN (R197). -/
def State.pullinFail (n : Nat) (s : State) : State :=
  if n = 0 ∨ s.get (AXL_STATUS_STATE n) ≠ 2 then s
  else (s.set (AXL_BAND_CODE_VALID n (s.axEntry n)) 0).searchStart n

/-- The delay-locked loop has locked: with DLL_HOLD = 1 injection stays off, else it is engaged (R187, R197) (DEDUCED, log entry
29). -/
def State.dllHeld (n : Nat) (s : State) : State :=
  s.when (decide (n ≠ 0) && s.get (AXL_STATUS_STATE n) == 2) fun t =>
    if t.on (AXL_CFG_DLL_HOLD n) then t.axleTo n 4 false else t.engage n true

/-- A LOCKED axle loses lock (R197, R200). -/
def State.axleLol (n : Nat) (s : State) : State :=
  if n = 0 ∨ s.get (AXL_STATUS_STATE n) ≠ 3 then s
  else
    let s := (s.raise (AXL_EVT_LOL n)).count (AXL_COUNT_LOL_COUNT n)
    ((s.axleTo n 2 false).setSquelch n true).logFault 0x14 n none

/-- AX0 loses lock (R206). -/
def State.ax0Lol (s : State) : State :=
  if s.get (AXL_STATUS_STATE 0) ≠ 3 then s
  else
    let s := (s.raise (AXL_EVT_LOL 0)).count (AXL_COUNT_LOL_COUNT 0)
    (s.axleTo 0 2 false).logFault 0x14 0 none

/-- The tracking loop copies its FINE into the active entry (R197). -/
def State.fineKeep (n fine : Nat) (s : State) : State :=
  s.when (decide (n ≠ 0) && s.get (AXL_STATUS_STATE n) == 3) fun t =>
    (t.set (AXL_STATUS_FINE n) fine).set (AXL_BAND_CODE_FINE n (t.axEntry n)) fine

/-- A slew has made all its steps (R195). -/
def State.slewEnd (n : Nat) (s : State) : State :=
  let still := s.get (AXL_STATUS_STATE n) == 0 && s.pwr.state != .keep
  if n = 0 ∨ s.stepLeft n = 0 ∨ still ∨ s.on (AXL_CFG_STEP_MODE n) then s
  else ((s.axleMove n (s.stepLeft n)).setStepLeft n 0).stepComplete n

/-! ### Commands -/

/-- AXLE_ENABLE_WRITE (R197). -/
def execAxleEnableWrite (m : Master) (n : Nat) (v : Word) (s : State) : Host.Outcome State Fault Refusal :=
  .next (s.when (decide (n < 4)) (State.access m (AXL_CFG n) (State.axleCfgWrite m n v)))

/-- BAND_SEARCH_DONE (R198). -/
def execBandSearchDone (n : Nat) (found : Bool) (band fine : Nat) (s : State) : Host.Outcome State Fault Refusal :=
  .next (s.when (decide (n < 4)) (State.searchEnd n found band fine))

/-- INJECTION_LOCK_HELD (R197). -/
def execInjectionLockHeld (n : Nat) (s : State) : Host.Outcome State Fault Refusal :=
  .next (s.when (decide (n < 4)) (State.lockHeld n))

/-- PULLIN_TIMEOUT (R197). -/
def execPullinTimeout (n : Nat) (s : State) : Host.Outcome State Fault Refusal :=
  .next (s.when (decide (n < 4)) (State.pullinFail n))

/-- DLL_LOCKED (R197). -/
def execDllLocked (n : Nat) (s : State) : Host.Outcome State Fault Refusal :=
  .next (s.when (decide (n < 4)) (State.dllHeld n))

/-- DLL_HOLD_WRITE (R197). -/
def execDllHoldWrite (m : Master) (n : Nat) (v : Word) (s : State) : Host.Outcome State Fault Refusal :=
  .next (s.when (decide (n < 4)) (State.access m (AXL_CFG n) (State.axleCfgWrite m n v)))

/-- LOSS_OF_LOCK (R200). -/
def execLossOfLock (n : Nat) (s : State) : Host.Outcome State Fault Refusal :=
  .next (s.when (decide (n < 4)) (State.axleLol n))

/-- HOP (R197). -/
def execHop (m : Master) (n : Nat) (v : Word) (s : State) : Host.Outcome State Fault Refusal :=
  .next (s.when (decide (n < 4)) (State.access m (AXL_CFG n) (State.axleCfgWrite m n v)))

/-- SEARCH (R197). -/
def execSearch (m : Master) (n : Nat) (v : Word) (s : State) : Host.Outcome State Fault Refusal :=
  .next (s.when (decide (n < 4)) (State.access m (AXL_CTRL n) fun _ => State.axleCtrlWrite m n v))

/-- FWORD_HI_WRITE (R192). -/
def execFwordHiWrite (m : Master) (n : Nat) (v : Word) (s : State) : Host.Outcome State Fault Refusal :=
  .next (s.when (decide (n < 4)) (State.access m (AXL_FWORD_HI n) fun _ => State.fwordWrite m n true v))

/-- STEP_HI_WRITE (R194). -/
def execStepHiWrite (m : Master) (n : Nat) (v : Word) (s : State) : Host.Outcome State Fault Refusal :=
  .next (s.when (decide (n < 4)) (State.access m (AXL_STEP_HI n) fun _ => State.stepWrite m n v))

/-- STEP_DONE (R195). -/
def execStepDone (n : Nat) (s : State) : Host.Outcome State Fault Refusal :=
  .next (s.when (decide (n < 4)) (State.slewEnd n))

/-- STEP_ABORT (R204). -/
def execStepAbort (m : Master) (n : Nat) (v : Word) (s : State) : Host.Outcome State Fault Refusal :=
  .next (s.when (decide (n < 4)) (State.access m (AXL_CTRL n) fun _ => State.axleCtrlWrite m n v))

/-- BAND_HI_WRITE (R208). -/
def execBandHiWrite (m : Master) (n k : Nat) (v : Word) (s : State) : Host.Outcome State Fault Refusal :=
  .next (s.when (decide (1 ≤ n ∧ n < 4 ∧ k < 16)) (State.access m (AXL_BAND_HI n k) (State.bandWrite m n k true v)))

/-- AX0_LOSS_OF_LOCK (R206). -/
def execAx0LossOfLock (s : State) : Host.Outcome State Fault Refusal := .next s.ax0Lol

/-- FINE_COPY (R197). -/
def execFineCopy (n fine : Nat) (s : State) : Host.Outcome State Fault Refusal :=
  .next (s.when (decide (n < 4)) (State.fineKeep n fine))

end Sys2Proof.Machine
end

