-- ==== Sys2Proof/Machine/FwBase.lean ====
section
/-! DEFINITION. What coachman A does with a request it has taken: the response it queues (R430, R431). -/

namespace Sys2Proof.Machine

/-- Does coachman A run the interpreter: it is up, and STAGING is over (R58, R427)? -/
def State.fwRuns (s : State) : Bool := s.boot.root && !s.asleep && s.get GLB_STATUS_MODE != 0 && !s.fw.down.testBit 0

/-- The request of mailbox `mb` that is being carried out (R433). -/
def State.request (s : State) (mb : Nat) : Option Taken := smAt s.fw.taken mb

/-- A response is queued, and the request is done with (R430, R434). -/
def State.fwAnswer (mb status detail : Nat) (data : List Word) (s : State) : State :=
  match s.request mb with
  | none => s
  | some t =>
    let w := packWord [(status, 24), (detail, 0)]
    { s with fw := { s.fw with
        taken := smPut s.fw.taken mb none
        replies := smPut s.fw.replies mb (smAt s.fw.replies mb ++ [⟨t.opcode ||| 0x8000, t.tag, w :: data, false⟩]) } }

/-- Status OK with data words (R431). -/
def State.fwOk (mb : Nat) (data : List Word) (s : State) : State := s.fwAnswer mb 0 0 data
/-- Status INVALID; the first offending payload word, 0 for LEN or state (R431). -/
def State.fwInvalid (mb word : Nat) (s : State) : State := s.fwAnswer mb 3 word []
/-- Status BUSY (R431). -/
def State.fwBusy (mb : Nat) (s : State) : State := s.fwAnswer mb 4 0 []
/-- The answer to an NV operation by its status code: OK or NV_ERROR (R431, R453). -/
def State.fwNv (mb status : Nat) (data : List Word) (s : State) : State :=
  if status = 0 then s.fwOk mb data else s.fwAnswer mb 5 status data

/-- The figures of a gauge run as GAUGE_RUN returns them (R448). -/
def State.gaugeWords (s : State) (n : Nat) : List Word :=
  [GAU_STAT_COUNT n, GAU_STAT_MEAN_LO n, GAU_STAT_MEAN_HI n, GAU_STAT_MIN_LO n, GAU_STAT_MIN_HI n, GAU_STAT_MAX_LO n,
    GAU_STAT_MAX_HI n, GAU_STAT_STD n].map s.rd

/-- The mailbox whose request waits for the run of a channel. -/
def State.gaugeMailbox (s : State) (n : Nat) : Option Nat := [0, 1, 2, 3].find? fun mb => smAt s.fw.gauge mb == some n

/-- A run has ended: the request that waits for it is answered (R448) (DEDUCED, log entry 58). -/
def State.gaugeAnswer (n : Nat) (aborted : Bool) (s : State) : State :=
  match s.gaugeMailbox n with
  | none => s
  | some mb =>
    let s := { s with fw := { s.fw with gauge := smPut s.fw.gauge mb none } }
    if aborted then s.fwAnswer mb 6 1 (s.gaugeWords n) else s.fwOk mb (s.gaugeWords n)

end Sys2Proof.Machine
end

