-- ==== Sys2Proof/Machine/GaugeOps.lean ====
section
/-! DEFINITION. Operations of the vernier gauges (chapter 11): the crossbar, edges and conversions, the tollgate, and the
statistics of a run. -/

namespace Sys2Proof.Machine

/-! ### Sources -/

/-- The code of a channel's default source (R248). -/
def defaultSource (n : Nat) : Nat := if n < 48 then 0x10 + n else n - 48

/-- Is a source code in range (R248)? -/
def sourceCode (c : Nat) : Bool := decide (c ≤ 0x62) || c == 0xFF

/-- The reference whose home gauge is channel `n` (R90). -/
def homeRef (n : Nat) : Nat := if n < 48 then 16 + n else n - 48

/-- The start source of a channel, by its code (R248). -/
def State.gaugeSource (s : State) (n : Nat) : Nat := if s.get (GAU_CFG_SRC n) = 0xFF then defaultSource n else s.get (GAU_CFG_SRC n)

/-- Does port `p` present a recovered clock: not OFF or PARKED, in no loopback, and not squelched (R263, R312)? -/
def State.recovered (s : State) (p : Nat) : Bool :=
  s.get (PRT_STATUS_STATE p) != 0 && s.get (PRT_STATUS_STATE p) != 4 && s.get (PRT_CFG_LOOP p) == 0 &&
    (if s.on (PRT_CFG_RCLK_SQ p) then s.on (PRT_STATUS_CDR_LOCK p) else s.on (PRT_STATUS_PCS_LOCK p))

/-- Does the source of a code show edges (R248, R312)? -/
def State.signal (s : State) (c : Nat) : Bool := if 16 ≤ c ∧ c < 64 then s.recovered (c - 16) else true

/-- Are the start edges of a channel falling edges (R252)? -/
def State.startFalling (s : State) (n : Nat) : Bool :=
  if s.get (GAU_CFG_SRC n) = 0xFF then s.on (REFM_CFG_EDGE (homeRef n)) else s.on (GAU_CFG_EDGE n)

/-- The channel starts afresh: no edge, no tollgate, nothing being converted (R263). -/
def State.gaugeFresh (n : Nat) (s : State) : State :=
  let g := s.gauge n
  ((s.setGauge n { g with
    conv := none, sconv := none, lastStart := none, lastStop := none, seenStart := none, seenStop := none, lost := false,
    gate := none, stop := none, paired := false, ivl := none, prevStamp := none, count := 0, marks := [], held := [],
    passed := none }).set (GAU_STATUS_TOLL_OPEN n) 0).set (GAU_STATUS_HELD n) 0

/-! ### Statistics -/

/-- Does the quotient of `x` by `d`, rounded with ties away from zero. -/
def divAway (x : Int) (d : Nat) : Int := roundAway ((x : Rat) / (d : Rat))

/-- The figures of a run from its results in units of 2^-24 ns (R261): STD is the root of the mean square less the squared
mean, in one rounding. -/
def State.statShow (n : Nat) (s : State) : State :=
  let xs := (s.gauge n).results
  let k := xs.length
  let s := s.set (GAU_STAT_COUNT_COUNT n) k
  match xs with
  | [] => s
  | x :: rest =>
    let lo := rest.foldl min x
    let hi := rest.foldl max x
    let sum := xs.foldl (· + ·) 0
    let sq := xs.foldl (fun a y => a + y * y) 0
    let var := ((k : Int) * sq - sum * sum).toNat
    let std := (isqrt (4 * var) + 256 * k) / (512 * k)
    let s := s.setWide (GAU_STAT_MEAN_LO n) (GAU_STAT_MEAN_HI n) 32 (divAway sum (256 * k))
    let s := s.setWide (GAU_STAT_MIN_LO n) (GAU_STAT_MIN_HI n) 32 (divAway lo 256)
    let s := s.setWide (GAU_STAT_MAX_LO n) (GAU_STAT_MAX_HI n) 32 (divAway hi 256)
    s.set (GAU_STAT_STD_STD n) (min std 0xFFFFFFFF)

/-- A run ends (R260). -/
def State.statEnd (n : Nat) (aborted : Bool) (s : State) : State :=
  if (s.gauge n).run.isNone then s
  else
    let s := (s.setGauge n { s.gauge n with run := none }).set (GAU_STATUS_STAT_BUSY n) 0
    let s := if aborted then s.raise (GAU_EVT_STAT_ABORTED n) else s.raise (GAU_EVT_STAT_DONE n)
    s.gaugeAnswer n aborted

/-- A result of the quantity being gathered, in units of 2^-24 ns (R260). -/
def State.statResult (n qty : Nat) (x : Int) (s : State) : State :=
  let g := s.gauge n
  match g.run with
  | none => s
  | some (q, k) =>
    if q ≠ qty then s
    else
      let s := (s.setGauge n { g with results := x :: g.results }).statShow n
      s.when (decide (k ≤ (s.gauge n).results.length)) (State.statEnd n false)

/-! ### Edges -/

/-- Lengths in gauge LSB: conversion, dead time, spacing of results, thermal spacing (R254, R259). -/
def convTime : Nat := 768000
def deadTime : Nat := 1024000
def passTime : Nat := 1280000
def cutTime : Nat := 10240000

/-- Is a channel stopped: off, gated or asleep (R80, R263)? -/
def State.gaugeStopped (s : State) (n : Nat) : Bool :=
  !s.on (GAU_CFG_ENABLE n) || (s.get CGU_GATE_STATUS_GATED).testBit 22 || s.asleep

/-- Does an edge at `t` come within `d` of the last of its kind? -/
def within (last : Option Nat) (t d : Nat) : Bool := match last with | some x => decide (t < x + d) | none => false

/-- An edge at gauge time `t` as it is taken: D(m) - v × inc in the domain of the channel (R253). -/
def State.edgeStamp (s : State) (n t : Nat) (clean : Bool) : Taken1 :=
  let x := s.dom (s.get (GAU_CFG_DOM n))
  ⟨t, (x.c + x.e * secUnit : Nat) * 2048 + ((t : Int) - 2048 * s.cyc) * x.inc, clean⟩

/-- A length in units of 2^-51 ns, rounded to `2^-k` ns with ties away from zero (R253, R261) (DEDUCED, log entry 32). -/
def roundTo (k : Nat) (x : Int) : Int := roundAway ((x : Rat) / (2 ^ (51 - k) : Nat))

/-- A result has been written. -/
def State.resultDone (n : Nat) (s : State) : State :=
  (s.wr (GAU_RES_SEQ n) (s.rd (GAU_RES_SEQ n) + 1)).raise (GAU_EVT_RESULT n)

/-- A sample of a channel in timestamp mode reaches the loops with SRC 1 that name it (R141, R251). -/
def State.gaugeSample (n at_ : Nat) (s : State) : State :=
  s.each [0, 1, 2, 3] fun l t =>
    if t.loopSrc l ≠ 1 ∨ t.get (DPL_CFG_SRC_ID l) ≠ n then t
    else
      let period : Rat := (t.get (DPL_GPER_GPER l) : Rat) / 4
      let prev := if t.loopState l = 4 then none else (smAt (t.sel l).follow 64).map (·.2)
      let u := t.phaseOf l at_ period prev
      (t.setSel l { t.sel l with follow := smPut (t.sel l).follow 64 (some (at_, u)) }).takeSample l u

/-- The oldest held result is passed on, if its turn has come by gauge time `t`: one every 2 µs (R254). -/
def State.passOne (n t : Nat) (s : State) : State :=
  let g := s.gauge n
  match g.held with
  | [] => s
  | (at_, c) :: rest =>
    let due := match g.passed with | some p => max c (p + passTime) | none => c
    if t < due then s
    else
      let s := (s.setGauge n { g with held := rest, passed := some due }).set (GAU_STATUS_HELD n) 0
      s.when (!s.on (GAU_CFG_MODE n)) (State.gaugeSample n at_)

/-- Every held result whose turn has come by gauge time `t` is passed on (R254). -/
def State.gaugePass (n t : Nat) (s : State) : State := s.each (List.range 4) fun _ => State.passOne n t

/-- A result of the edge at `at_` is complete at time `c`: it is held until it is passed on (R254) (DEDUCED, log entry 32). -/
def State.gaugeHold (n at_ c : Nat) (s : State) : State :=
  let s := s.gaugePass n c
  let held := (s.gauge n).held ++ [(at_, c)]
  ((s.setGauge n { s.gauge n with held := held }).setB (GAU_STATUS_HELD n) (decide (4 ≤ held.length))).gaugePass n c

/-- The decided interval is written once both conversions are complete (R257). -/
def State.intervalWrite (n : Nat) (s : State) : State :=
  let g := s.gauge n
  match g.ivl, g.conv, g.sconv with
  | some (x, c), none, none =>
    let s := s.setGauge n { g with ivl := none }
    let s := s.setWide (GAU_IVL_LO n) (GAU_IVL_HI n) 32 (roundTo 16 x)
    ((s.resultDone n).statResult n 0 (roundTo 24 x)).gaugeHold n 0 c
  | _, _, _ => s

/-- A conversion in timestamp mode is complete (R256, R261). -/
def State.stampDone (n : Nat) (e : Taken1) (s : State) : State :=
  let x := roundTo 16 e.stamp
  let s := (s.wr (GAU_TS0 n) (BitVec.ofNat 32 (stampSub x))).wr (GAU_TS1 n) (BitVec.ofNat 32 (stampNs x))
  let s := (s.wr (GAU_TS2 n) (BitVec.ofNat 32 (stampSec x))).wr (GAU_TS3 n) (BitVec.ofNat 32 (stampSec x / 2 ^ 32 % 2 ^ 16))
  let s := s.resultDone n
  let y := roundTo 24 e.stamp
  let s := match (s.gauge n).prevStamp with | some p => s.when e.clean (State.statResult n 1 (y - p)) | none => s
  let per : Rat := (s.rd (GAU_STAT_PER n)).toNat * 2 ^ 24
  let s := s.statResult n 2 (roundAway (wrapHalf per y))
  (s.setGauge n { s.gauge n with prevStamp := some y }).gaugeHold n e.t (e.t + convTime)

/-- The conversion that began first is complete (R254, R256, R257) (DEDUCED, log entry 32). -/
def State.convDone (n : Nat) (s : State) : State :=
  if s.gaugeStopped n then s
  else
    let g := s.gauge n
    let startFirst := match g.conv, g.sconv with | some a, some b => decide (a.t ≤ b.t) | some _, none => true | none, _ => false
    if startFirst then
      match g.conv with
      | none => s
      | some e =>
        let s := s.setGauge n { g with conv := none }
        if s.on (GAU_CFG_MODE n) then s.intervalWrite n else s.stampDone n e
    else if g.sconv.isSome then (s.setGauge n { g with sconv := none }).intervalWrite n
    else s

/-- A start edge was lost: a period across it is dropped (R261). -/
def State.startLost (n : Nat) (s : State) : State := s.setGauge n { s.gauge n with lost := true }

/-- A start and a stop edge pair: the result in units of 2^-51 ns, complete once decided at `t` and converted (R257). -/
def State.pairUp (n t : Nat) (b e : Taken1) (x : Int) (s : State) : State :=
  (s.setGauge n { s.gauge n with
    gate := none, paired := true, ivl := some (x, max t (max b.t e.t + convTime)) }).set (GAU_STATUS_TOLL_OPEN n) 0

/-- What a pair of edges of one LSB reads, in units of 2^-51 ns: 0, +1 or -1 LSB, a free value (R258). -/
def State.nearValue (s : State) (n : Nat) : Int :=
  (((Config.nearReading s.free % 3 : Nat) : Int) - 1) * (s.dom (s.get (GAU_CFG_DOM n))).inc

/-- The tollgate of start edge `b` closes at gauge time `t` with no stop edge after its start: the latest taken stop pairs, if it
lies within W before the start and has not been paired (R257); one LSB is 2^-11 of a cycle (R258) (DEDUCED, log entry 32). -/
def State.gateClose (n : Nat) (s : State) : State :=
  let g := s.gauge n
  match g.gate with
  | none => s
  | some (b, w) =>
    let none_ (u : State) : State := (((u.setGauge n { g with gate := none }).set (GAU_STATUS_TOLL_OPEN n) 0).count
      (GAU_COUNT3_TIMEOUTS n)).raise (GAU_EVT_TIMEOUT n)
    match g.stop with
    | some p =>
      if g.paired ∨ b.t < p.t ∨ p.t + w < b.t then none_ s
      else if p.t = b.t then ((s.pairUp n (b.t + w) b p (s.nearValue n)).useFree).intervalWrite n
      else
        let s := s.pairUp n (b.t + w) b p (p.stamp - b.stamp)
        (s.when (decide (p.t + 1 < b.t)) fun u => (u.raise (GAU_EVT_ORDER n)).count (GAU_COUNT3_ORDERS n)).intervalWrite n
    | none => none_ s

/-- A tollgate whose window has passed at time `t` closes before an edge is judged (DEDUCED, log entry 32). -/
def State.gatePassed (n t : Nat) (s : State) : State :=
  match (s.gauge n).gate with
  | some (e, w) => if e.t + w < t then s.gateClose n else s
  | none => s

/-- Does a channel see an edge of a source: on, the source named, showing edges, in the direction taken, and not seen yet (R248,
R252, R263)? (DEDUCED, log entry 32) -/
def State.sees (s : State) (n src named : Nat) (falling taken : Bool) (last : Option Nat) (t : Nat) : Bool :=
  !s.gaugeStopped n && named == src && s.signal src && falling == taken && last != some t

/-- Is an edge at `t` lost to the dead time of its interpolator, or to four held results (R254)? (DEDUCED, log entry 32) -/
def State.missed (s : State) (n : Nat) (last : Option Nat) (t : Nat) : Bool :=
  within last t deadTime || decide (4 ≤ (s.gauge n).held.length)

/-- A start edge that the channel takes: it opens a tollgate in interval mode, where a stop edge of the same LSB may pair with it
at once (R257, R258). -/
def State.startTaken (n t : Nat) (s : State) : State :=
  let s := s.when (s.gauge n).conv.isSome (State.convDone n)
  let e := s.edgeStamp n t (!(s.gauge n).lost)
  let g := s.gauge n
  let s := s.setGauge n { g with conv := some e, lastStart := some t, lost := false, marks := ((g.count, t) :: g.marks).take 256 }
  if s.on (GAU_CFG_MODE n) then
    let s := (s.setGauge n { s.gauge n with gate := some (e, 2048 * (s.rd (GAU_TOLL n)).toNat) }).set (GAU_STATUS_TOLL_OPEN n) 1
    match (s.gauge n).stop with
    | some p =>
      if p.t = t ∧ (s.gauge n).paired = false then
        (s.when (Config.startFirst s.free) fun u => u.pairUp n t e p (u.nearValue n)).useFree
      else s
    | none => s
  else s

/-- An edge of a source at the start side of a channel (R248, R252, R254, R255, R257, R259) (DESIGN CHOICE, log entry 4; DEDUCED,
log entry 32). -/
def State.startEdge (n src : Nat) (e : Edge) (s : State) : State :=
  let t := e.time
  if !s.sees n src (s.gaugeSource n) e.falling (s.startFalling n) (s.gauge n).seenStart t then s
  else
    let s := (s.gatePassed n t).gaugePass n t
    let s := s.setGauge n { s.gauge n with seenStart := some t, count := (s.gauge n).count + 1 }
    let g := s.gauge n
    if s.on GAU_GLB_STATUS_THROTTLED && within g.lastStart t cutTime then (s.count (GAU_COUNT2_SKIPPED n)).startLost n
    else if s.missed n g.lastStart t then ((s.count (GAU_COUNT_MISSED n)).raise (GAU_EVT_MISSED n)).startLost n
    else if g.gate.isSome || within g.lastStart t (2048 * s.get (GAU_HOLDOFF_HOLDOFF n))
      then (s.count (GAU_COUNT2_IGNORED n)).startLost n
    else s.startTaken n t

/-- A stop edge that the channel takes: it pairs with an open tollgate (R257); within one LSB of the start the order is free
(R258). -/
def State.stopTaken (n t : Nat) (s : State) : State :=
  let s := s.when (s.gauge n).sconv.isSome fun u => (u.setGauge n { u.gauge n with sconv := none }).intervalWrite n
  let e := s.edgeStamp n t true
  let s := s.setGauge n { s.gauge n with sconv := some e, lastStop := some t, stop := some e, paired := false }
  match (s.gauge n).gate with
  | some (b, _) =>
    if b.t < t then s.pairUp n t b e (e.stamp - b.stamp)
    else if b.t = t then (s.when (Config.startFirst s.free) fun u => u.pairUp n t b e (u.nearValue n)).useFree
    else s
  | none => s

/-- An edge of a source at the stop side of a channel in interval mode (R248, R252, R254, R257, R259) (DEDUCED, log entry 32). -/
def State.stopEdge (n src : Nat) (e : Edge) (s : State) : State :=
  let t := e.time
  if !s.on (GAU_CFG_MODE n) || !s.sees n src (s.get (GAU_CFG_STOP_SRC n)) e.falling (s.on (GAU_CFG_STOP_EDGE n)) (s.gauge n).seenStop t then s
  else
    let s := (s.gatePassed n t).gaugePass n t
    let s := s.setGauge n { s.gauge n with seenStop := some t }
    let g := s.gauge n
    if s.on GAU_GLB_STATUS_THROTTLED && within g.lastStop t cutTime then s.count (GAU_COUNT2_SKIPPED n)
    else if s.missed n g.lastStop t then (s.count (GAU_COUNT_STOP_MISSED n)).raise (GAU_EVT_STOP_MISSED n)
    else s.stopTaken n t

/-- An edge of a tapped signal reaches every channel whose start or stop source it is (R248, R249): the code of a reference is its
number. -/
def State.tapSignal (ref : Nat) (e : Edge) (s : State) : State :=
  s.each (List.range 64) fun n t => (t.startEdge n ref e).stopEdge n ref e

end Sys2Proof.Machine
end

