-- ==== Sys2Proof/Machine/Gauges.lean ====
section
/-! DEFINITION. The commands of the vernier gauges (chapter 11): edges, conversions, the tollgate and statistics. -/

namespace Sys2Proof.Machine

/-! ### Sources -/

/-- ON_DEFAULT and what depends on it (R251, R267, R307). -/
def State.gaugeLines (n : Nat) (s : State) : State :=
  let s := s.setB (GAU_STATUS_ON_DEFAULT n) (s.on (GAU_CFG_ENABLE n) && s.get (GAU_CFG_SRC n) == 0xFF &&
    s.get (GAU_CFG_MODE n) == 0)
  let s := s.refLinesEval (homeRef n)
  s.when (decide (n < 48)) (State.phaseEval n)

/-- Is a run of this length and quantity taken (R260, R261)? -/
def State.statTaken (s : State) (n : Nat) : Bool :=
  s.get (GAU_STAT_CFG_N n) != 0 && s.on (GAU_CFG_ENABLE n) && (s.on (GAU_CFG_MODE n) == (s.get (GAU_STAT_CFG_QTY n) == 0))

/-- A run begins, or is not taken (R260) (DEDUCED, log entry 32). -/
def State.statStart (m : Master) (n : Nat) (s : State) : State :=
  let a := GAU_STAT_CTRL n
  if (s.gauge n).run.isSome then s.refuseWrite m a
  else if !s.statTaken n then (s.raise (GAU_EVT_CFG_ERR n)).refuseWrite m a
  else
    let s := s.setGauge n { s.gauge n with
      run := some (s.get (GAU_STAT_CFG_QTY n), s.get (GAU_STAT_CFG_N n)), results := [], prevStamp := none }
    let s := (s.set (GAU_STAT_COUNT_COUNT n) 0).set (GAU_STAT_STD_STD n) 0
    let s := (s.setWide (GAU_STAT_MEAN_LO n) (GAU_STAT_MEAN_HI n) 32 0).setWide (GAU_STAT_MIN_LO n) (GAU_STAT_MIN_HI n) 32 0
    (s.setWide (GAU_STAT_MAX_LO n) (GAU_STAT_MAX_HI n) 32 0).set (GAU_STATUS_STAT_BUSY n) 1

/-- A write of GAU_STAT_CTRL: ABORT, then START. -/
def State.statCtrlWrite (m : Master) (n : Nat) (v : Word) (s : State) : State :=
  let s := s.when (v.getLsbD 1) (State.statEnd n true)
  s.when (v.getLsbD 0) (State.statStart m n)

/-! ### Registers -/

/-- The fields a channel takes only while it is off (R250). -/
def gaugeGuarded (n : Nat) : List FieldRef :=
  [GAU_CFG_SRC n, GAU_CFG_STOP_SRC n, GAU_CFG_MODE n, GAU_CFG_DOM n, GAU_CFG_EDGE n, GAU_CFG_STOP_EDGE n, GAU_CFG_HYST n]

/-- A write of GAU_CFG (R248 to R251, R260, R263). -/
def State.gaugeCfgWrite (m : Master) (n : Nat) (v : Word) (r : RegRow) (s : State) : State :=
  let a := GAU_CFG n
  let was := s.on (GAU_CFG_ENABLE n)
  let en := v.getLsbD 0
  let v := if fieldOf (GAU_CFG_SRC n) v = defaultSource n then putBits v 24 8 0xFF else v
  let locked := was && en && (gaugeGuarded n).any fun f => changes s f v
  let s := s.when locked (State.refuseWrite m a)
  let v := if locked then keepFields s (gaugeGuarded n) v else v
  let badSrc := !sourceCode (fieldOf (GAU_CFG_SRC n) v)
  let badStop := !sourceCode (fieldOf (GAU_CFG_STOP_SRC n) v)
  let v := if badSrc then keepField s (GAU_CFG_SRC n) v else v
  let v := if badStop then keepField s (GAU_CFG_STOP_SRC n) v else v
  let s := s.when (badSrc || badStop) (State.badRange m a)
  let s := s.plainWrite m a (keepField s (GAU_CFG_ENABLE n) v) r
  if !was && en then
    if s.on (GAU_CFG_MODE n) && s.get (GAU_CFG_STOP_SRC n) == 0xFF then (s.raise (GAU_EVT_CFG_ERR n)).refuseWrite m a
    else
      let s := ((s.wr (GAU_COUNT n) 0).wr (GAU_COUNT2 n) 0).wr (GAU_COUNT3 n) 0
      ((s.set (GAU_CFG_ENABLE n) 1).gaugeFresh n).gaugeLines n
  else if was && !en then ((((s.set (GAU_CFG_ENABLE n) 0).statEnd n true).gaugeFresh n).gaugeLines n)
  else s

/-! ### Commands -/

/-- GAUGE_ENABLE_WRITE (R250). -/
def execGaugeEnableWrite (m : Master) (n : Nat) (v : Word) (s : State) : Host.Outcome State Fault Refusal :=
  .next (s.when (decide (n < 64)) (State.access m (GAU_CFG n) (State.gaugeCfgWrite m n v)))

/-- START_EDGE (R254). -/
def execStartEdge (n src : Nat) (e : Edge) (s : State) : Host.Outcome State Fault Refusal :=
  .next (s.when (decide (n < 64)) (State.startEdge n src e))

/-- STOP_EDGE (R257). -/
def execStopEdge (n src : Nat) (e : Edge) (s : State) : Host.Outcome State Fault Refusal :=
  .next (s.when (decide (n < 64)) (State.stopEdge n src e))

/-- CONVERSION_COMPLETE (R256). -/
def execConversionComplete (n : Nat) (s : State) : Host.Outcome State Fault Refusal :=
  .next (s.when (decide (n < 64)) (State.convDone n))

/-- TOLLGATE_CLOSE (R257). -/
def execTollgateClose (n : Nat) (s : State) : Host.Outcome State Fault Refusal :=
  .next (s.when (decide (n < 64) && !s.gaugeStopped n) (State.gateClose n))

/-- STAT_START (R260). -/
def execStatStart (m : Master) (n : Nat) (v : Word) (s : State) : Host.Outcome State Fault Refusal :=
  .next (s.when (decide (n < 64)) (State.access m (GAU_STAT_CTRL n) fun _ => State.statCtrlWrite m n v))

/-- STAT_ABORT (R260). -/
def execStatAbort (m : Master) (n : Nat) (v : Word) (s : State) : Host.Outcome State Fault Refusal :=
  .next (s.when (decide (n < 64)) (State.access m (GAU_STAT_CTRL n) fun _ => State.statCtrlWrite m n v))

end Sys2Proof.Machine
end

