-- ==== Sys2Proof/Machine/Outputs.lean ====
section
/-! DEFINITION. The commands of outputs (chapter 09): enabling, starting, dividers, delays and phase. -/

namespace Sys2Proof.Machine

/-- The fields taken only while ENABLE reads 0 (R212). -/
def outGuarded (n : Nat) : List FieldRef := [OUT_CFG_SRC n, OUT_CFG_MODE n, OUT_CFG_FORMAT n, OUT_CFG_LEGS n]

/-- May an output be enabled as it is configured (R209, R210)? -/
def State.outCfgOk (s : State) (n : Nat) : Bool :=
  let src := s.get (OUT_CFG_SRC n)
  let f := s.get (OUT_CFG_FORMAT n)
  if s.on (OUT_CFG_MODE n) then f != 2 && src != 3 else !s.tooFast src f (s.get (OUT_DIV_DIV n))

/-- PHASE as its registers hold it. -/
def State.outPhase (s : State) (n : Nat) : Int := s.getWideI (OUT_PHASE_LO n) (OUT_PHASE_HI n) 16

/-- A write of OUT_CFG (R210, R212, R222). -/
def State.outCfgWrite (m : Master) (n : Nat) (v : Word) (r : RegRow) (s : State) : State :=
  let a := OUT_CFG n
  let was := s.on (OUT_CFG_ENABLE n)
  let en := v.getLsbD 0
  let locked := was && en && (outGuarded n).any fun f => changes s f v
  let s := s.when locked (State.refuseWrite m a)
  let v := if locked then keepFields s (outGuarded n) v else v
  let s := s.plainWrite m a (keepField s (OUT_CFG_ENABLE n) v) r
  if !was && en then
    if s.outCfgOk n then (s.set (OUT_CFG_ENABLE n) 1).outEval n
    else (s.raise (OUT_EVT_CFG_ERR n)).refuseWrite m a
  else if was && !en then (s.set (OUT_CFG_ENABLE n) 0).outEval n
  else s.outEval n

/-- A write of OUT_DIV (R214): while the output runs it takes effect at its next rising edge. -/
def State.outDivWrite (m : Master) (n : Nat) (v : Word) (r : RegRow) (s : State) : State :=
  (s.plainWrite m (OUT_DIV n) v r).outEval n

/-- A write of OUT_DELAY (R215): while the output runs it takes effect at its edges (DEDUCED, log entry 30). -/
def State.outDelayWrite (m : Master) (n : Nat) (v : Word) (r : RegRow) (s : State) : State :=
  let a := OUT_DELAY n
  let d := s.get (OUT_DIV_DIV n)
  let bad := !s.on (OUT_CFG_MODE n) && d != 0 && decide (d ≤ fieldOf (OUT_DELAY_COARSE n) v)
  let s := s.when bad (State.badRange m a)
  s.plainWrite m a (if bad then keepField s (OUT_DELAY_COARSE n) v else v) r

/-- A write of OUT_PERIOD or OUT_WIDTH (R212, R216). -/
def State.outPulseWrite (m : Master) (n a : Nat) (v : Word) (r : RegRow) (s : State) : State :=
  if s.on (OUT_CFG_ENABLE n) ∧ v ≠ s.rd a then s.refuseWrite m a
  else if a = OUT_WIDTH n ∧ s.get (OUT_PERIOD_PERIOD n) < v.toNat + 8 then s.badRange m a
  else s.plainWrite m a v r

/-- Units of axle time, 2^-32 ns, in a ns and in a unit of PHASE. -/
def nsTime : Int := 2 ^ 32

/-- The least whole multiple of `p` above `x` that brings `x` to at least `lo`, added to it. -/
def liftTo (x p lo : Int) : Int := if lo ≤ x then x else x + (lo - x + p - 1) / p * p

/-- A PHASE takes effect (R218): the next boundary moves with it. A period whose boundary would be past, or less than 8 ns
after the last trailing edge, gives no pulse. -/
def State.outPhaseTake (n : Nat) (new : Int) (s : State) : State :=
  let o := s.outp n
  let lead := liftTo (o.lead + (new - o.phase) * 2 ^ 16) (s.get (OUT_PERIOD_PERIOD n) * nsTime) (max 0 (o.trail + 8 * nsTime))
  s.setOutp n { o with phase := new, lead := if s.get (OUT_STATUS_STATE n) = 2 then lead else o.lead }

/-- A write of OUT_PHASE_HI: PHASE takes effect (R216, R218). -/
def State.outPhaseWrite (m : Master) (n : Nat) (v : Word) (r : RegRow) (s : State) : State :=
  let t := s.plainWrite m (OUT_PHASE_HI n) v r
  if s.get (OUT_PERIOD_PERIOD n) * 65536 ≤ (t.outPhase n).natAbs then s.badRange m (OUT_PHASE_HI n)
  else t.outPhaseTake n (t.outPhase n)

/-! ### Edges -/

/-- What an output's edges are placed on in the coming cycle (R209): the position of its source at the cycle's beginning and
end, in cycles of the source; none pass while its axle is OFF. For the root they are counted from reset. -/
def State.outSpan (s : State) (n : Nat) : Rat × Rat :=
  let o := s.outp n
  if 3 ≤ o.src then (((16 * s.cyc : Nat) : Rat), ((16 * s.cyc + 16 : Nat) : Rat))
  else
    let a := o.src + 1
    if s.get (AXL_STATUS_STATE a) = 0 then (0, 0)
    else
      let (q0, q1) := s.axleSpan a
      let r := s.axRatio a (s.axEntry a)
      (tankAt r q0, tankAt r q1)

/-- The instant, in ns from the beginning of a cycle of the time base, at which its source is at `x`. -/
def instantOf (span : Rat × Rat) (x : Rat) : Rat := (x - span.1) / (span.2 - span.1) * (16 / 5)

/-- The delay of FINE, in ns (R213, R216). -/
def fineDelay (fine : Nat) : Rat := (fine : Nat) * (3125 : Nat) / (1000000 : Nat)

/-- The first index from `j` on that is `c` modulo `d` (R213). -/
def alignUp (j c : Int) (d : Nat) : Int := if d = 0 then j else j + (c - j) % (d : Int)

/-- A transition of an output, `t` ns from the beginning of the cycle. -/
def State.outFlip (n : Nat) (t : Rat) (b : Bool) (s : State) : State :=
  let o := s.outp n
  s.setOutp n { o with late := o.late ++ [(t, b)], high := b }

/-- An output that is to stop, at its falling edge (R221, R225). -/
def State.outFallen (n : Nat) (s : State) : State :=
  if (s.outp n).stopping && !(s.outp n).high then
    let late := (s.outp n).late
    let s := s.outStop n (if s.on (OUT_CFG_ENABLE n) then 1 else 0)
    (s.setOutp n { s.outp n with late := late }).outEval n
  else s

/-- FINE one step nearer to what is written (R215). -/
def fineNext (fine want : Nat) : Nat := if fine < want then fine + 1 else if want < fine then fine - 1 else want

/-- The rising edge that is due in clock mode, on source edge `j` counted so that edge 0 is `j0` (R213 to R215, R221): D and
COARSE take effect, FINE moves one step, and the next edge is the first at least D cycles later that is aligned. A period
lengthened for an edge off its alignment or for a new D sets REALIGN. With D = 1 the output follows the source (R88). -/
def State.outRise (n : Nat) (j0 : Int) (span : Rat × Rat) (s : State) : State :=
  let o := s.outp n
  let d := s.get (OUT_DIV_DIV n)
  let c : Int := o.base + s.get (OUT_DELAY_COARSE n)
  let j := j0 + o.rise
  if d = 0 then s.outStop n 0
  else
    let off := decide (o.div ≠ 0 ∧ (j - (o.base + o.coarse)) % (o.div : Int) ≠ 0)
    let next := alignUp (j + d) c d
    let s := s.when ((off || d != o.div) && decide (next ≠ j + d)) (·.raise (OUT_EVT_REALIGN n))
    let fine := fineNext o.fine (s.get (OUT_DELAY_FINE n))
    let s := s.setOutp n { o with
      div := d, coarse := s.get (OUT_DELAY_COARSE n), fine := fine, rise := (next - j0).toNat
      fall := if d = 1 then none else some (o.rise + (d + 1) / 2) }
    let s := s.outFlip n (instantOf span j + fineDelay fine) true
    if d = 1 then (s.outFlip n (instantOf span ((j : Rat) + 1 / 2) + fineDelay fine) false).outFallen n else s

/-- The falling edge that is due in clock mode (R88, R213). -/
def State.outFall (n f : Nat) (j0 : Int) (span : Rat × Rat) (s : State) : State :=
  let s := s.outFlip n (instantOf span (j0 + (f : Int) : Int) + fineDelay (s.outp n).fine) false
  (s.setOutp n { s.outp n with fall := none }).outFallen n

/-- The edges of a clock among the next `k` source edges, in order; no more than `fuel` of them. -/
def State.outClock (n k : Nat) (j0 : Int) (span : Rat × Rat) : Nat → State → State
  | 0, s => s
  | fuel + 1, s =>
    let o := s.outp n
    if s.get (OUT_STATUS_STATE n) ≠ 2 then s
    else match o.fall with
      | some f => if f ≤ o.rise then (if f < k then (s.outFall n f j0 span).outClock n k j0 span fuel else s)
          else if o.rise < k then (s.outRise n j0 span).outClock n k j0 span fuel else s
      | none => if o.rise < k then (s.outRise n j0 span).outClock n k j0 span fuel else s

/-- A clock in one cycle of the time base: the counters stand for the source edges not yet passed. -/
def State.outClockTick (n : Nat) (s : State) : State :=
  let span := s.outSpan n
  let j0 := span.1.ceil
  let k := (span.2.ceil - j0).toNat
  let s := s.outClock n k j0 span 100
  let o := s.outp n
  s.setOutp n { o with rise := o.rise - k, fall := o.fall.map (· - k) }

/-- The instant of an edge a pulse generator places at axle time `b` from the beginning of the cycle, in ns from there (R216):
the last tank edge before it, delayed by what is left to the nearest 0.390625 ps, and by FINE. Without the tank the edge
generator places it at the nearest 0.390625 ps, FINE apart (R224) (DEDUCED, log entry 30). -/
def State.pulseAt (s : State) (n : Nat) (b : Int) : Rat :=
  let a := (s.outp n).src + 1
  let (q0, q1) := s.axleSpan a
  let step : Rat := (390625 : Nat) / (1000000000 : Nat)
  let steps (x : Rat) : Rat := (roundAway (x / step) : Rat) * step
  if s.on (OUT_STATUS_KEEP_ACTIVE n) then steps ((b : Rat) / ((q1 - q0 : Int) : Rat) * (16 / 5))
  else
    let r := s.axRatio a (s.axEntry a)
    let span := (tankAt r q0, tankAt r q1)
    let j : Rat := ((tankAt r (q0 + b)).ceil - 1 : Int)
    instantOf span j + steps ((tankAt r (q0 + b) - j) * ((2 ^ 46 : Nat) : Rat) / (5 * (r : Nat))) + fineDelay (s.outp n).fine

/-- The level of a pulse output inside (`b`) or outside a pulse (R216). -/
def State.pulseLevel (s : State) (n : Nat) (b : Bool) : Bool := b != s.on (OUT_CFG_POL n)

/-- The leading edge that is due (R215, R216, R221): FINE moves one step, and a keep output returns to its tank (R224). An edge off its
boundary is followed by a period lengthened until the alignment holds. -/
def State.pulseLead (n : Nat) (s : State) : State :=
  let s := s.when (s.pwr.state != .keep && s.get (AXL_STATUS_STATE ((s.outp n).src + 1)) == 3) (·.set (OUT_STATUS_KEEP_ACTIVE n) 0)
  let o := s.outp n
  let s := s.setOutp n { o with fine := fineNext o.fine (s.get (OUT_DELAY_FINE n)) }
  let p : Int := s.get (OUT_PERIOD_PERIOD n) * nsTime
  let at_ := (s.axleSpan (o.src + 1)).1 + o.lead
  let extra := (o.phase * 2 ^ 16 - at_) % p
  let s := (s.outFlip n (s.pulseAt n o.lead) (s.pulseLevel n true)).when (decide (extra ≠ 0)) (·.raise (OUT_EVT_REALIGN n))
  let s := s.setOutp n { s.outp n with
    lead := o.lead + p + extra, trail := o.lead + s.get (OUT_WIDTH_WIDTH n) * nsTime, inside := true }
  s.outFallen n

/-- The trailing edge that is due (R216). -/
def State.pulseTrail (n : Nat) (s : State) : State :=
  let s := s.outFlip n (s.pulseAt n (s.outp n).trail) (s.pulseLevel n false)
  (s.setOutp n { s.outp n with inside := false }).outFallen n

/-- A pulse train in one cycle of the time base: at most one edge of each kind falls in it. Its axle's tank runs, or the edge
generator places the edges (R224). -/
def State.outPulseTick (n : Nat) (s : State) : State :=
  let a := (s.outp n).src + 1
  let (q0, q1) := s.axleSpan a
  let runs := s.get (AXL_STATUS_STATE a) != 0 || s.on (OUT_STATUS_KEEP_ACTIVE n)
  let s := s.when (runs && (s.outp n).inside && decide ((s.outp n).trail < q1 - q0)) (State.pulseTrail n)
  let s := s.when (runs && s.get (OUT_STATUS_STATE n) == 2 && decide ((s.outp n).lead < q1 - q0)) (State.pulseLead n)
  let o := s.outp n
  s.setOutp n { o with lead := o.lead - (q1 - q0), trail := o.trail - (q1 - q0) }

/-- What a held output has in force when it starts (R209, R225); with SRC 3 the root edge it counts from is any (R213). -/
def State.outLoad (n : Nat) (s : State) : State :=
  let o := s.outp n
  s.setOutp n { o with
    src := s.get (OUT_CFG_SRC n), pulse := s.on (OUT_CFG_MODE n)
    base := if s.get (OUT_CFG_SRC n) = 3 then Config.rootStart n (o.ready.getD 0) else 0
    div := s.get (OUT_DIV_DIV n), coarse := s.get (OUT_DELAY_COARSE n), fine := s.get (OUT_DELAY_FINE n)
    phase := s.outPhase n, fall := none, inside := false, trail := -8 * nsTime }

/-- The first edge of an output that is held and loaded, from the beginning of the cycle on (R213, R216): source edges before
the first aligned one, and axle time to the first boundary. -/
def State.outFirst (n : Nat) (s : State) : State :=
  let o := s.outp n
  let j := (s.outSpan n).1.ceil
  let q0 := (s.axleSpan (o.src + 1)).1
  s.setOutp n { o with
    rise := (alignUp j (o.base + o.coarse) o.div - j).toNat
    lead := (o.phase * 2 ^ 16 - q0) % (s.get (OUT_PERIOD_PERIOD n) * nsTime) }

/-- The 64 ns of R219 are over for an output whose conditions all hold. -/
def State.outWaited (s : State) (n : Nat) : Bool :=
  s.outReady n && (match (s.outp n).ready with | none => false | some c => decide (c + 20 ≤ s.cyc))

/-- Does the first edge of an output fall in the coming cycle? -/
def State.outComes (s : State) (n : Nat) : Bool :=
  let o := s.outp n
  if o.pulse then
    let (q0, q1) := s.axleSpan (o.src + 1)
    decide (o.lead < q1 - q0)
  else
    let span := s.outSpan n
    decide ((o.rise : Int) < span.2.ceil - span.1.ceil)

/-- One output in one cycle of the time base: it starts at the first aligned edge, or the first boundary, after its 64 ns
(R219); its transitions of the cycle are in `wave`. -/
def State.outTick (n : Nat) (s : State) : State :=
  let s := if s.outWaited n then
      let t := (s.outLoad n).outFirst n
      if t.outComes n then t.setOutState n 2 else s
    else s
  let s := if s.get (OUT_STATUS_STATE n) ≠ 2 then s
    else if (s.outp n).pulse then s.outPulseTick n else s.outClockTick n
  let o := s.outp n
  if o.late.isEmpty && o.wave.isEmpty then s
  else
    let wave := o.late.filter fun x => decide (x.1 < 16 / 5)
    let level := if s.get (OUT_STATUS_STATE n) = 2 then ((wave.getLast?).map (·.2)).getD o.level else false
    s.setOutp n { o with
      wave := wave, level := level
      late := (o.late.filter fun x => !decide (x.1 < 16 / 5)).map fun x => (x.1 - 16 / 5, x.2) }

/-- The first edge of an output has come, 64 ns after the last condition of R219: it runs from here on, its edges where R213 and
R216 place them (DESIGN CHOICE, log entry 4; DEDUCED, log entry 30). -/
def State.outStart (n : Nat) (s : State) : State :=
  let s := s.outEval n
  s.when (s.outWaited n) fun t => ((t.outLoad n).outFirst n).setOutState n 2

/-- The next rising or leading edge of a running output has come (R214, R215, R221) (DESIGN CHOICE, log entry 4; DEDUCED, log
entry 30). -/
def State.outEdge (n : Nat) (s : State) : State :=
  if s.get (OUT_STATUS_STATE n) ≠ 2 then s
  else if (s.outp n).pulse then s.pulseLead n
  else
    let span := s.outSpan n
    let j0 := span.1.ceil
    let s := match (s.outp n).fall with | some f => s.outFall n f j0 span | none => s
    s.when (s.get (OUT_STATUS_STATE n) == 2) (State.outRise n j0 span)

/-- A write of OUT_KEEP (R224). -/
def State.outKeepWrite (m : Master) (v : Word) (r : RegRow) (s : State) : State := (s.plainWrite m OUT_KEEP v r).outEvalAll

/-! ### Commands -/

/-- OUTPUT_ENABLE_WRITE (R210). -/
def execOutputEnableWrite (m : Master) (n : Nat) (v : Word) (s : State) : Host.Outcome State Fault Refusal :=
  .next (s.when (decide (n < 24)) (State.access m (OUT_CFG n) (State.outCfgWrite m n v)))

/-- OUTPUT_START (R219). -/
def execOutputStart (n : Nat) (s : State) : Host.Outcome State Fault Refusal :=
  .next (s.when (decide (n < 24)) (State.outStart n))

/-- PHASE_HI_WRITE (R218). -/
def execPhaseHiWrite (m : Master) (n : Nat) (v : Word) (s : State) : Host.Outcome State Fault Refusal :=
  .next (s.when (decide (n < 24)) (State.access m (OUT_PHASE_HI n) (State.outPhaseWrite m n v)))

/-- OUTPUT_DIV_CHANGE (R214). -/
def execOutputDivChange (n : Nat) (s : State) : Host.Outcome State Fault Refusal :=
  .next (s.when (decide (n < 24)) (State.outEdge n))

end Sys2Proof.Machine
end

