-- ==== Sys2Proof/Machine/MbxOps.lean ====
section
/-! DEFINITION. Operations of the mailboxes (chapter 20): ends, posts, releases, resets of one end and powered-down cores. -/

namespace Sys2Proof.Machine

/-- The owner of end `e` (0 H, 1 C) of mailbox `n` (R417); none is the switch service agent. -/
def mbxOwner (n e : Nat) : Option Master :=
  match n, e with
  | 0, 0 => some .spi | 1, 0 => some .pcie | 2, 0 => some .i2c | 3, 0 => some .jtag
  | 4, 0 => some .coachA | 5, 0 => some .coachB | 6, 0 => some .coachA | 7, 0 => some .coachB
  | 4, _ => some .coachB | 6, _ => none | 7, _ => none | _, _ => some .coachA

/-- The core that owns an end: 0 coachman A, 1 coachman B. -/
def mbxCore (n e : Nat) : Option Nat :=
  match mbxOwner n e with
  | some .coachA => some 0 | some .coachB => some 1 | _ => none

/-- Is the owner of an end a core that is powered down (R427)? -/
def State.endDown (s : State) (n e : Nat) : Bool :=
  match mbxCore n e with
  | some c => s.fw.down.testBit c
  | none => false

/-- Words of a queue (R419). -/
def queueWords (q : List Msg) : Nat := (q.map fun m => 1 + m.data.length).sum

/-- The queue an end sends on, and the queue it receives from. -/
def State.sendQueue (s : State) (n e : Nat) : List Msg := if e = 0 then (s.mb n).inbound else (s.mb n).outbound
def State.recvQueue (s : State) (n e : Nat) : List Msg := s.sendQueue n (1 - e)
def State.setSendQueue (n e : Nat) (q : List Msg) (s : State) : State :=
  if e = 0 then s.setMb n { s.mb n with inbound := q } else s.setMb n { s.mb n with outbound := q }

/-- Free words of the queue an end sends on. -/
def State.sendFree (s : State) (n e : Nat) : Nat := 16 - queueWords (s.sendQueue n e)

/-- The oldest messages dropped until `need` words are free (R422): what is left, and how many were dropped. -/
def dropFor (need : Nat) : List Msg → List Msg × Nat
  | [] => ([], 0)
  | m :: q =>
    if queueWords (m :: q) + need ≤ 16 then (m :: q, 0)
    else let (r, k) := dropFor need q; (r, k + 1)

/-- A message is posted by end `e` (R420, R422). -/
def State.mbxPost (n e op tag : Nat) (data : List Word) (s : State) : State :=
  let x := s.mb n
  let seq := if e = 0 then x.inSeq else x.outSeq
  let (q, k) := dropFor (1 + data.length) (s.sendQueue n e)
  let s := s.setSendQueue n e (q ++ [⟨op, tag, data, seq, s.get (MBX_STATUS_EPOCH n e)⟩])
  let x := s.mb n
  let s := s.setMb n (if e = 0 then { x with inSeq := (seq + 1) % 256 } else { x with outSeq := (seq + 1) % 256 })
  let s := s.when (decide (0 < k)) fun t =>
    ((t.countBy (MBX_COUNT_OVERWRITTEN n e) k).raise (MBX_EVT_OVERWRITE n e)).raise (MBX_EVT_COLLISION n (1 - e))
  s.raise (MBX_EVT_MSG n (1 - e))

/-- A write of SEND_W0 (R420, R421) (DEDUCED, log entry 52). -/
def State.mbxSend (m : Master) (n e : Nat) (v : Word) (s : State) : State :=
  let len := v.toNat % 256
  if 15 < len then (s.raise (MBX_EVT_SEND_ERR n e)).refuseWrite m (MBX_SEND_W0 n e)
  else s.mbxPost n e (v.toNat / 65536) (v.toNat / 256 % 256) ((List.range len).map fun k => s.rd (MBX_SEND_W n e k))

/-- The message shown at end `e` is released (R424) (DEDUCED, log entry 52). -/
def State.mbxRelease (n e : Nat) (s : State) : State :=
  match s.recvQueue n e with
  | [] => s
  | _ :: q => (s.setSendQueue n (1 - e) q).when q.isEmpty (·.raise (MBX_EVT_EMPTY n (1 - e)))

/-- An end reset (R425, R439) (DEDUCED, log entry 52). -/
def State.mbxEndReset (n e : Nat) (s : State) : State :=
  let k := (s.recvQueue n e).length
  let s := (s.setSendQueue n (1 - e) []).countBy (MBX_COUNT_DISCARDED n (1 - e)) k
  let s := s.when (decide (0 < k)) fun t => (t.raise (MBX_EVT_EMPTY n (1 - e))).raise (MBX_EVT_DISCARD n (1 - e))
  let s := s.countMod (MBX_STATUS_EPOCH n e)
  let s := s.each (List.range 15) fun k t => t.wr (MBX_SEND_W n e k) 0
  if e = 0 ∧ n < 4 then { s with fw := { s.fw with mask := smPut s.fw.mask n 0 } } else s

/-- Every end is reset (R429) (DEDUCED, log entry 52). -/
def State.mbxResetAll (s : State) : State := s.each (List.range 8) fun n t => (t.mbxEndReset n 0).mbxEndReset n 1

/-- A write of CTRL (R424, R425, R428). -/
def State.mbxCtrl (n e : Nat) (v : Word) (s : State) : State :=
  if v.getLsbD 1 then s.mbxEndReset n e else s.when (v.getLsbD 0) (State.mbxRelease n e)

/-- Mailbox, end and offset of an address of the MBX block. -/
def mbxPlace (a : Nat) : Nat × Nat × Nat := ((a - 0x310000) / 0x200, (a - 0x310000) / 0x100 % 2, a % 0x100)

/-- Does an access to a mailbox end meet a powered-down core (R427)? -/
def State.mbxDown (s : State) (a : Nat) : Bool :=
  let (n, e, off) := mbxPlace a
  s.endDown n e || (s.endDown n (1 - e) && !(off == 0x80 || off == 0x84 || off == 0x90))

/-- The error response of R427. -/
def State.mbxError (m : Master) (write : Bool) (a : Nat) (s : State) : State :=
  (s.errorReply m).logFault 0x06 (mbxPlace a).1 (some (m, write, a))

/-- A write of a register of a mailbox end (R417, R420 to R427). -/
def State.mbxWrite (m : Master) (a : Nat) (v : Word) (r : RegRow) (s : State) : State :=
  let (n, e, off) := mbxPlace a
  if s.mbxDown a then s.mbxError m true a
  else if mbxOwner n e ≠ some m then s.refuseWrite m a
  else if off = 0 then s.mbxSend m n e v
  else if off = 0x88 then s.mbxCtrl n e v
  else s.plainWrite m a v r

/-- What a window or STATUS of an end reads (R423, R427). -/
def State.mbxRead (s : State) (a : Nat) : Word :=
  let (n, e, off) := mbxPlace a
  let q := s.recvQueue n e
  if 0x40 ≤ off ∧ off < 0x80 then
    match q with
    | [] => 0
    | x :: _ =>
      if off = 0x40 then packWord [(x.opcode, 16), (x.tag, 8), (x.data.length, 0)] else x.data.getD ((off - 0x44) / 4) 0
  else if off = 0x80 then
    packWord [(s.get (MBX_STATUS_EPOCH n (1 - e)), 24), (s.get (MBX_STATUS_EPOCH n e), 16),
      (if s.endDown n (1 - e) then 0 else 1, 15), (q.length, 10), (s.sendFree n e, 5), (queueWords q, 0)]
  else if off = 0x8C then
    match q with
    | [] => 0
    | x :: _ => packWord [(x.seq, 24), (x.epoch, 16), (1, 0)]
  else s.rd a

/-- A core restarts (R427, R483): its ends are reset and it is powered down; what it was doing is gone, and an operation that
runs on for a command of coachman A answers nobody (DEDUCED, log entry 52). -/
def State.coreDown (core : Nat) (s : State) : State :=
  let ends := (List.range 8).flatMap fun n => [(n, 0), (n, 1)]
  let s := (ends.filter fun p => mbxCore p.1 p.2 == some core).foldl (fun t p => t.mbxEndReset p.1 p.2) s
  let s := { s with fw := { s.fw with down := putBit s.fw.down core true } }
  if core = 0 then
    let orphan (w : Nat × Nat) : Nat × Nat :=
      if w.1 = 6 then (6, 8) else if (w.1 = 3 ∨ w.1 = 4) ∧ w.2 ≠ 0 then (w.1, 9) else w
    let host (j : I2cJob) : I2cJob := match j.who with | .command _ => { j with who := .host } | _ => j
    let s := s.each [0, 1, 2, 3] fun b t => t.setBus b { t.bus b with
      now := (t.bus b).now.map host, waits := (t.bus b).waits.map host }
    { s with
      fw := { s.fw with taken := [], replies := [], deferred := [], passed := none, gauge := [] }
      nvs := { s.nvs with job := s.nvs.job.map fun (j : NvJob) => { j with why := j.why.map orphan } } }
  else s

end Sys2Proof.Machine
end

