-- ==== Sys2Proof/Machine/NvOps.lean ====
section
/-! DEFINITION. The operations of the NV store (R395 to R399, R406) and what a cut leaves behind (R402). -/

namespace Sys2Proof.Machine

/-- One group read from the array is checked (R397): the state, and whether the group is uncorrectable. -/
def State.nvCheckGroup (g : Nat) (s : State) : State :=
  if g ∈ s.nvs.uncorr then
    (((s.raise NVS_EVT_UNCORR).count NVS_COUNT_UNCORRECTED).set NVS_ERR_ADDR_ERR_ADDR (8 * g)).logFault 0x21 0 none
  else if g ∈ s.nvs.corr then s.count NVS_COUNT_CORRECTED
  else s

/-- The groups of a range that a READ takes from the array (R397). -/
def State.arrayGroups (s : State) (a n : Nat) : List Nat :=
  if n = 0 then []
  else ((List.range ((a + n - 1) / 8 - a / 8 + 1)).map (a / 8 + ·)).filter fun g => (s.nvBuffered (g / 32)).isNone

/-- Pages that enter the write buffer are read from the array and checked (R398). -/
def State.nvLoadChecked (pages : List Nat) (s : State) : State :=
  s.each ((pages.filter fun k => (s.nvBuffered k).isNone).flatMap fun k => s.arrayGroups (256 * k) 256) State.nvCheckGroup

/-- A READ (R397): the state, the octets and the status (DEDUCED, log entry 47). -/
def State.nvRead (a n : Nat) (s : State) : State × List Octet × Nat :=
  if s.on NVS_STATUS_PFW_ACTIVE then (s, [], 5)
  else if 0x20000 < a + n then (s, [], 1)
  else
    let gs := s.arrayGroups a n
    (s.each gs State.nvCheckGroup, s.nvOctets a n, if gs.any (· ∈ s.nvs.uncorr) then 6 else 0)

/-- A WRITE without its commit (R396, R398, R399, R411): the state and the status (DEDUCED, log entry 47). -/
def State.nvWrite (a : Nat) (bs : List Octet) (s : State) : State × Nat :=
  let pages := pagesOf a bs.length
  if s.on NVS_STATUS_PFW_ACTIVE then (s, 5)
  else if 0x20000 < a + bs.length then (s, 1)
  else if bs.isEmpty then (s, 0)
  else if a < 0x1000 then (s, 1)
  else if pages.any (pageProtected (s.get NVS_PROTECT_LEVEL)) then (s.raise NVS_EVT_PROT_REJECT, 3)
  else if 16 < (pages ++ s.nvs.buffer.map (·.1)).eraseDups.length then (s, 2)
  else ((s.nvLoadChecked pages).nvPut a bs, 0)

/-- A DISCARD (R396) (DEDUCED, log entry 47). -/
def State.nvDiscard (s : State) : State × Nat :=
  if s.on NVS_STATUS_PFW_ACTIVE then (s, 5) else ({ s with nvs := { s.nvs with buffer := [] } }.nvDirty, 0)

/-- The octets of the data window (R396). -/
def State.nvWindow (s : State) (n : Nat) : List Octet :=
  (((List.range ((n + 3) / 4)).flatMap fun k => octetsLE 4 (s.rd (NVS_DATA k)).toNat)).take n

/-- Octets put into the data window (R396). -/
def State.nvToWindow (bs : List Octet) (s : State) : State :=
  ((List.range bs.length).zip bs).foldl
    (fun t p => t.wr (NVS_DATA (p.1 / 4)) (putBits (t.rd (NVS_DATA (p.1 / 4))) (8 * (p.1 % 4)) 8 p.2.toNat)) s

/-- An operation with the range and window as they stand (R396): 0 READ, 1 WRITE, 2 COMMIT, 3 DISCARD, 4 HOT_SAVE; and its
status once it has ended (DEDUCED, log entry 47). -/
def State.nvOp (op : Nat) (commit : Bool) (why : List (Nat × Nat)) (s : State) : State × Option Nat :=
  let a := s.get NVS_ADDR_ADDR
  let n := s.get NVS_LEN_LEN
  let commitNow (s : State) : State × Option Nat :=
    let idle := s.nvs.buffer.isEmpty
    let (t, st) := s.commitStart true why
    (t, if idle || st != 0 then some st else none)
  match op with
  | 0 => let (t, bs, st) := s.nvRead a n; (t.nvToWindow bs, some st)
  | 1 =>
    let (t, st) := s.nvWrite a (s.nvWindow n)
    if st ≠ 0 ∨ n = 0 ∨ !commit then (t, some st) else commitNow t
  | 2 => commitNow s
  | 3 => let (t, st) := s.nvDiscard; (t, some st)
  | _ => let (t, st) := s.hotSaveOp true; (t, if st = 0 then none else some st)

/-- BUSY and STATUS of an operation (R396): one that has ended holds BUSY to the end of the cycle (DESIGN CHOICE, log entry 91). -/
def State.nvReport (r : State × Option Nat) : State :=
  match r.2 with
  | some st => (r.1.set NVS_CMD_STATUS st).set NVS_CMD_BUSY 1
  | none => r.1.set NVS_CMD_BUSY 1

/-- A write of NVS_ADDR, NVS_LEN or NVS_DATA (R395). -/
def State.nvRegWrite (m : Master) (a : Nat) (v : Word) (r : RegRow) (s : State) : State :=
  if m = .coachB then s.plainWrite m a v r else s.refuseWrite m a

/-- A write of NVS_CMD (R395, R396). -/
def State.nvCmdWrite (m : Master) (v : Word) (r : RegRow) (s : State) : State :=
  if m ≠ .coachB then s.refuseWrite m NVS_CMD
  else if fieldOf NVS_CMD_GO v = 0 then s.plainWrite m NVS_CMD v r
  else if s.on NVS_CMD_BUSY then s.refuseWrite m NVS_CMD
  else
    let t := (s.plainWrite m NVS_CMD v r).set NVS_CMD_GO 0
    let op := if fieldOf NVS_CMD_OP v < 5 then fieldOf NVS_CMD_OP v else t.get NVS_CMD_OP
    State.nvReport (t.nvOp op (fieldOf NVS_CMD_COMMIT v == 1) [])

/-- A write of NVS_PROTECT (R412). -/
def State.protectEffect (m : Master) (v : Word) (r : RegRow) (s : State) : State :=
  if s.on NVS_PROTECT_LOCK && changes s NVS_PROTECT_LEVEL v then s.refuseWrite m NVS_PROTECT
  else
    let s := s.plainWrite m NVS_PROTECT v r
    s.setB FLT_STATUS_NVLOG_OFF (s.get NVS_PROTECT_LEVEL == 3)

/-! ### A cut (R402) -/

/-- A group whose programming was cut: its data is old, new, or uncorrectable with raw octets (R402) (DESIGN CHOICE, log entry
48). -/
def State.tearGroup (g : Nat) (new : List Octet) (s : State) : State :=
  let n := s.nvs
  if smRange n.array (8 * g) 8 = new then s
  else
    let clear (l : List Nat) : List Nat := l.filter (· != g)
    let t := s.useFree
    match Config.tornOutcome s.free % 3 with
    | 0 => t
    | 1 => { t with nvs := { n with array := smPutList n.array (8 * g) new, uncorr := clear n.uncorr, corr := clear n.corr } }
    | _ =>
      let raw := (List.range 8).map (Config.tornOctet s.free)
      { t with nvs := { n with array := smPutList n.array (8 * g) raw, uncorr := g :: clear n.uncorr, corr := clear n.corr } }

/-- A page cut after `k` of its groups (R402) (DESIGN CHOICE, log entry 48). -/
def State.tearPage (page k : Nat) (bs : List Octet) (s : State) : State :=
  let n := s.nvs
  let clear (l : List Nat) : List Nat := l.filter fun g => g / 32 != page || k ≤ g % 32
  let s := { s with nvs := { n with
    array := smPutList n.array (256 * page) (bs.take (8 * k)), uncorr := clear n.uncorr, corr := clear n.corr } }
  if k < 32 then s.tearGroup (32 * page + k) (slice bs (8 * k) 8) else s

/-- The pages a commit or hot save in progress programs, in order, with their octets. -/
def State.programming (s : State) : List (Nat × List Octet) :=
  match s.nvs.job, s.nvs.save with
  | some j, _ => j.pages.map fun k => (k, (s.nvBuffered k).getD (s.nvArrayPage k))
  | none, some _ => (List.range 8).map fun j => (8 * (s.hotTarget - 1) + j, s.hotGet (256 * j) 256)
  | none, none => []

/-- A commit or hot save is cut after so many groups, and the buffer is lost (R402) (DESIGN CHOICE, log entry 48). -/
def State.nvCut (groups : Nat) (s : State) : State :=
  let ps := s.programming
  let s := ((List.range ps.length).zip ps).foldl
    (fun t p => if p.1 * 32 ≤ groups then t.tearPage p.2.1 (min 32 (groups - p.1 * 32)) p.2.2 else t) s
  { s with nvs := { s.nvs with buffer := [], job := none, save := none, pfwLow := false } }.nvDirty

/-- Groups programmed in so many time-base cycles, 1.25 µs each (R400): one cycle is 3.2 ns. -/
def groupsIn (cycles : Nat) : Nat := cycles * 16 / 6250

/-- A cut now, by the time since the operation began. -/
def State.nvCutNow (s : State) : State :=
  match s.nvs.job with
  | some j => s.nvCut (groupsIn (s.cyc - j.start))
  | none => s.nvCut (groupsIn (s.cyc - s.nvs.saveStart))

end Sys2Proof.Machine
end

