-- ==== Sys2Proof/Machine/Refs.lean ====
section
/-! DEFINITION. The commands of references (chapter 04): their registers, tapped edges, ticks and waits, and the time of day
from a receiver. -/

namespace Sys2Proof.Machine

/-! ### Registers -/

/-- Is the reference a lane of a 100G port other than its first (R94)? -/
def State.refUnavailable (s : State) (n : Nat) : Bool :=
  decide (16 ≤ n) && s.laneOfFat (n - 16)

/-- Do the fields in force keep R92 and R100? -/
def State.refCfgOk (s : State) (n : Nat) : Bool :=
  let f := s.get (REFM_FNOM_FNOM n)
  let d := s.get (REFM_DIV_DIV n)
  let rate := if s.on (REFM_CFG_TYPE n) then decide (1 ≤ f ∧ f ≤ 500000 ∧ d = 1)
    else decide (1 ≤ f ∧ f ≤ 1000000000 ∧ d ≤ f ∧ f ≤ 500000 * d)
  rate && (!s.on (REFM_CFG_FAST n) || decide (n < 16 ∧ 2000000 ≤ f))

/-- The fields that are taken only while ENABLE reads 0 (R93). -/
def refGuarded (n : Nat) : List FieldRef :=
  [REFM_CFG_TYPE n, REFM_CFG_EDGE n, REFM_CFG_FAST n, REFM_CFG_FORMAT n, REFM_CFG_TERM n, REFM_CFG_BIAS n]

/-- ENABLE is taken: counters cleared, VOID (R99). -/
def State.refStart (n : Nat) (s : State) : State :=
  let s := (s.wr (REFM_COUNT n) 0).set (REFM_CFG_ENABLE n) 1
  let s := s.setRef n { s.ref n with cond := 0, jumped := false, bad := false, badRun := 0 }
  (s.setRefState n 1).refLines n

/-- ENABLE is cleared: windows and FAILED_ONCE cleared, DISABLED (R99). -/
def State.refStop (n : Nat) (s : State) : State :=
  let s := (s.clearWindows n).set (REFM_STATE_FAILED_ONCE n) 0
  let s := s.setRef n { s.ref n with cond := 0, seen := none }
  (s.setRefState n 0).edgesStop n false

/-- What a new OVERRIDE does to the state (R99). -/
def State.overrideChange (n : Nat) (s : State) : State :=
  let st := s.get (REFM_STATE_STATE n)
  match s.get (REFM_CFG_OVERRIDE n) with
  | 1 => if st = 2 ∨ st = 4 then s.setRefState n 3 else s
  | 2 => if st = 2 ∨ st = 3 then s.failRef n else s
  | _ => s

/-- A write of REFM_CFG that is not discarded (R93, R99, R109). -/
def State.refCfgTaken (m : Master) (n : Nat) (v : Word) (r : RegRow) (s : State) : State :=
  let was := s.on (REFM_CFG_ENABLE n)
  let en := v.getLsbD 0
  let v := if 16 ≤ n then keepFields s (refGuarded n) v else v
  let locked := was && en && (refGuarded n).any fun f => changes s f v
  let s := s.when locked (State.refuseWrite m (REFM_CFG n))
  let v := if locked then keepFields s (refGuarded n) v else v
  let old := s.get (REFM_CFG_OVERRIDE n)
  let s := s.plainWrite m (REFM_CFG n) (keepField s (REFM_CFG_ENABLE n) v) r
  if !was && en then
    (if s.refCfgOk n then s.refStart n else (s.set (REFM_STATE_CFG_ERR n) 1).refuseWrite m (REFM_CFG n))
  else if was && !en then (s.set (REFM_CFG_ENABLE n) 0).refStop n
  else
    let s := s.when (decide (s.get (REFM_CFG_OVERRIDE n) ≠ old)) (State.overrideChange n)
    s.refEval n

/-- A write of REFM_CFG (R93, R94, R99): with ENABLE = 1 it is discarded while the reference is unavailable. -/
def State.refCfgWrite (m : Master) (n : Nat) (v : Word) (r : RegRow) (s : State) : State :=
  if v.getLsbD 0 && s.refUnavailable n then s.refuseWrite m (REFM_CFG n) else s.thenSelect (State.refCfgTaken m n v r)

/-- A write of REFM_FNOM or REFM_DIV (R93, R94). -/
def State.refFixedWrite (m : Master) (n a : Nat) (v : Word) (r : RegRow) (s : State) : State :=
  if 16 ≤ n ∧ a = REFM_FNOM n then s
  else if s.on (REFM_CFG_ENABLE n) ∧ (writeFields r.fields (s.rd a) v).1 ≠ s.rd a then s.refuseWrite m a
  else s.plainWrite m a v r

/-- A write of REFM_SOFT, REFM_HARD or REFM_REENTRY (R102). -/
def State.refLimitWrite (m : Master) (n a : Nat) (v : Word) (r : RegRow) (s : State) : State :=
  let t := s.plainWrite m a v r
  if t.get (REFM_REENTRY_LIMIT n) ≤ t.get (REFM_SOFT_LIMIT n) ∧ t.get (REFM_SOFT_LIMIT n) ≤ t.get (REFM_HARD_LIMIT n) then t
  else s.badRange m a

/-- A write of REFM_TOD_CFG (R115) (DESIGN CHOICE, log entry 83). -/
def State.todCfgWrite (m : Master) (v : Word) (r : RegRow) (s : State) : State :=
  let p := fieldOf REFM_TOD_CFG_PULSE_REF v
  if s.on (REFM_CFG_TYPE p) && s.get (REFM_FNOM_FNOM p) == 1 then
    let s := s.when (s.get REFM_TOD_CFG_PULSE_REF != p) State.todUnlock
    s.plainWrite m REFM_TOD_CFG v r
  else (s.plainWrite m REFM_TOD_CFG (keepField s REFM_TOD_CFG_PULSE_REF v) r).badRange m REFM_TOD_CFG

/-! ### Time of day -/

/-- A pulse labelled while LOCK reads 1 corrects one domain (R234). -/
def State.todCorrect (label d : Nat) (tp : Int) (s : State) : State :=
  if !s.on (TIM_CFG_TOD_EN d) then s
  else
    let x := tp + (s.sel d).o * 2 ^ 24
    let sec := (x + (secUnit / 2 : Nat)) / (secUnit : Int)
    let named := sec % (2 ^ 48 : Int)
    if (10 ^ 8 * 2 ^ 40 : Int) < (x - sec * secUnit).natAbs then s.raise (TIM_EVT_TOD_FAR d)
    else
      let s := s.when (decide (named ≠ label)) fun t => t.setDom d { t.dom d with shift := some (label - named) }
      s.secValid d

/-- The pulse takes a label (R116). -/
def State.todLabel (label : Nat) (pulse : Nat × Int × Int) (s : State) : State :=
  let s := s.setWide REFM_TOD_SEC_LO REFM_TOD_SEC_HI 16 (label : Nat)
  let s := { s with tod := { s.tod with prev := some label } }
  if s.on REFM_TOD_STATUS_LOCK then (s.todCorrect label 0 pulse.2.1).todCorrect label 1 pulse.2.2 else s

/-- A pulse is paired with a label (R116) (DEDUCED, log entry 23). -/
def State.todPair (label : Nat) (pulse : Nat × Int × Int) (s : State) : State :=
  let next := match s.tod.prev with | some p => decide (label = p + 1) | none => false
  let jump := s.on REFM_TOD_STATUS_LOCK && !next
  let s := s.when jump fun t => t.todUnlock.raise REFM_TOD_STATUS_DISCONT
  let s := { s.countMod REFM_TOD_STATUS_PAIRED with tod := { s.tod with
    good := if next then s.tod.good + 1 else 0, miss := 0, taken := true } }
  let s := s.when (decide (3 ≤ s.tod.good)) (·.set REFM_TOD_STATUS_LOCK 1)
  s.todLabel label pulse

/-- A pulse has no pair (R116) (DEDUCED, log entry 23). -/
def State.todMiss (pulse : Nat × Int × Int) (s : State) : State :=
  let s := { s with tod := { s.tod with good := 0, miss := s.tod.miss + 1, taken := true } }
  if !s.on REFM_TOD_STATUS_LOCK then s
  else if 2 ≤ s.tod.miss then s.todUnlock
  else s.todLabel (s.tod.prev.getD 0 + 1) pulse

/-- WINDOW in gauge counts (R115). -/
def State.todWindow (s : State) : Nat := s.get REFM_TOD_CFG_WINDOW * 640000000

/-- With ALIGN = 0 the latest pulse, if nothing named it before the next one, has no pair (R115, R116) (DEDUCED, log entry 23;
DESIGN CHOICE, log entry 84). -/
def State.todUnnamed (s : State) : State :=
  match s.tod.pulse with
  | some p => if s.tod.taken || s.on REFM_TOD_CFG_ALIGN then s else s.todMiss p
  | none => s

/-- A pulse of PULSE_REF in GOOD (R115). A bad pulse is never paired (R108): it is a pulse without a pair (DEDUCED, log entry
23; DESIGN CHOICE, log entry 84). -/
def State.todPulse (t : Nat) (bad : Bool) (s : State) : State :=
  let stamp (d : Nat) : Int := (s.cAt d t + (s.dom d).e * secUnit) % (cSpan : Int)
  let pulse := (t, stamp 0, stamp 1)
  let s := s.todUnnamed
  if bad then ({ s with tod := { s.tod with labels := [], pulse := none } } : State).todMiss pulse
  else if s.on REFM_TOD_CFG_ALIGN then
    let l := s.tod.labels.find? fun x => decide (t ≤ x.2 + s.todWindow)
    let s := { s with tod := { s.tod with labels := [], pulse := some pulse } }
    match l with
    | some x => s.todPair x.1 pulse
    | none => s.todMiss pulse
  else { s with tod := { s.tod with pulse := some pulse, taken := false } }

/-- A second named by a sentence (R115) (DEDUCED, log entry 23). -/
def State.todNamed (label t : Nat) (s : State) : State :=
  if s.on REFM_TOD_CFG_ALIGN then { s with tod := { s.tod with labels := s.tod.labels ++ [(label, t)] } }
  else match s.tod.pulse with
    | some p => if !s.tod.taken && decide (t ≤ p.1 + s.todWindow) then s.todPair label p else s
    | none => s

/-! ### Sentences -/

/-- Characters of a text. -/
def ascii (x : String) : List Nat := x.toList.map Char.toNat

/-- A number written in decimal digits. -/
def decimal : List Nat → Option Nat
  | [] => none
  | cs => cs.foldl (fun n c => n.bind fun k => if 48 ≤ c ∧ c ≤ 57 then some (10 * k + (c - 48)) else none) (some 0)

/-- One upper-case hexadecimal digit. -/
def hexDigit (c : Nat) : Option Nat :=
  if 48 ≤ c ∧ c ≤ 57 then some (c - 48) else if 65 ≤ c ∧ c ≤ 70 then some (c - 55) else none

/-- A line cut at a separator. -/
def splitAt (sep : Nat) : List Nat → List (List Nat)
  | [] => [[]]
  | c :: cs =>
    if c = sep then [] :: splitAt sep cs
    else match splitAt sep cs with
      | [] => [[c]]
      | f :: fs => (c :: f) :: fs

/-- A time field hhmmss with an ignored fraction: hours, minutes and seconds as a second of the day (R113, R114). -/
def timeField (cs : List Nat) : Option Nat :=
  match splitAt 46 cs with
  | h :: fraction =>
    if h.length ≠ 6 ∨ 1 < fraction.length ∨ fraction.any (fun f => !f.isEmpty && (decimal f).isNone) then none
    else match decimal (h.take 2), decimal ((h.drop 2).take 2), decimal (h.drop 4) with
      | some a, some b, some c => if a < 24 ∧ b < 60 ∧ c ≤ 60 then some (a * 3600 + b * 60 + c) else none
      | _, _, _ => none
  | [] => none

def leapYear (y : Nat) : Bool := (y % 4 == 0 && y % 100 != 0) || y % 400 == 0
def monthDays (y m : Nat) : Nat := if m = 2 then (if leapYear y then 29 else 28) else if m ∈ [4, 6, 9, 11] then 30 else 31

/-- Days from 1970-01-01 to a date; none for a date that does not exist. -/
def daysOf (y m d : Nat) : Option Nat :=
  if y < 1970 ∨ m < 1 ∨ 12 < m ∨ d < 1 ∨ monthDays y m < d then none
  else
    let leaps (k : Nat) : Nat := k / 4 - k / 100 + k / 400
    some ((y - 1970) * 365 + (leaps (y - 1) - leaps 1969) + (((List.range (m - 1)).map fun j => monthDays y (j + 1)).sum + (d - 1)))

/-- What a line says (R113). -/
inductive Sentence where
  /-- Not one of the three sentences. -/
  | other
  | bad
  /-- ZDA or RMC: day, second of the day. -/
  | utc (kind day sec : Nat)
  /-- QZTL: seconds and offset. -/
  | qztl (sec ofs : Nat)
  deriving DecidableEq, Repr

/-- The fields of a line between $ and *, read as a sentence. -/
def readFieldsOf (fs : List (List Nat)) : Sentence :=
  let f (k : Nat) : List Nat := fs.getD k []
  let tag := f 0
  if tag = ascii "QZTL" then
    match decimal (f 1), decimal (f 3) with
    | some x, some o =>
      if (f 1).length ≤ 15 ∧ (f 3).length ≤ 3 ∧ f 2 = ascii "A" ∧ fs.length = 4 then .qztl x o else .bad
    | _, _ => .bad
  else if tag.length = 5 ∧ tag.drop 2 = ascii "ZDA" then
    match timeField (f 1), decimal (f 2), decimal (f 3), decimal (f 4) with
    | some t, some d, some m, some y => match daysOf y m d with | some k => .utc 1 k t | none => .bad
    | _, _, _, _ => .bad
  else if tag.length = 5 ∧ tag.drop 2 = ascii "RMC" then
    if f 2 ≠ ascii "A" ∨ (f 9).length ≠ 6 then .bad
    else match timeField (f 1), decimal ((f 9).take 2), decimal (((f 9).drop 2).take 2), decimal ((f 9).drop 4) with
      | some t, some d, some m, some y => match daysOf (2000 + y) m d with | some k => .utc 2 k t | none => .bad
      | _, _, _, _ => .bad
  else .other

/-- A line as received, from $ to its LF (DEDUCED, log entry 23). -/
def readSentence (bytes : List Octet) : Sentence :=
  let cs := bytes.map BitVec.toNat
  match cs with
  | 36 :: rest =>
    match splitAt 42 (rest.filter fun c => c != 13 && c != 10) with
    | [body, [h, l]] =>
      let sum := body.foldl (fun x c => x ^^^ c) 0
      let fs := splitAt 44 body
      match readFieldsOf fs with
      | .other => .other
      | x => if (hexDigit h).map (· * 16) = some (sum / 16 * 16) ∧ hexDigit l = some (sum % 16) then x else .bad
    | body :: _ => match readFieldsOf (splitAt 44 body) with | .other => .other | _ => .bad
    | [] => .other
  | _ => .other

/-- A sentence on TOD_RX whose LF ends at time `t` (R113 to R116) (DEDUCED, log entry 23; DESIGN CHOICE, log entry 82). -/
def State.todReceive (bytes : List Octet) (t : Nat) (s : State) : State :=
  if !s.on REFM_TOD_CFG_RX_EN ∨ s.pwr.state = .vigil ∨ s.pwr.state = .dormant then s
  else match readSentence bytes with
    | .other => s
    | .bad => s.count REFM_TOD_STATUS_BAD_SENTENCES
    | .qztl x o => ((s.set REFM_TOD_STATUS_LAST_KIND 3).set REFM_TOD_STATUS_LAST_OFS o).todNamed x t
    | .utc kind day sec =>
      let s := s.set REFM_TOD_STATUS_LAST_KIND kind
      let leap := s.get REFM_TOD_CFG_LEAP
      let s := if sec ≠ 0 ∨ leap = 0 then s
        else ((s.set REFM_TOD_CFG_UTC_OFS (s.get REFM_TOD_CFG_UTC_OFS + (if leap = 1 then 1
          else 255))).set REFM_TOD_CFG_LEAP 0).raise
          REFM_TOD_STATUS_LEAP_DONE
      s.todNamed (day * 86400 + sec + s.get REFM_TOD_CFG_UTC_OFS) t

/-- The decimal digits of a number, most significant first. -/
def digitsOf : Nat → Nat → List Nat
  | 0, _ => []
  | k + 1, n => if n < 10 then [48 + n] else digitsOf k (n / 10) ++ [48 + n % 10]

def hexChar (n : Nat) : Nat := if n < 10 then 48 + n else 55 + n

/-- The time line of R113. -/
def timeLine (sec : Nat) (valid : Bool) (ofs : Nat) : List Octet :=
  let body := ascii "QZTL," ++ digitsOf 15 sec ++ ascii (if valid then ",A," else ",V,") ++ digitsOf 3 ofs
  let sum := body.foldl (fun x c => x ^^^ c) 0
  (ascii "$" ++ body ++ ascii "*" ++ [hexChar (sum / 16), hexChar (sum % 16), 13, 10]).map (BitVec.ofNat 8)

/-- The time line of this second (R117). -/
def State.todSend (s : State) : State :=
  if !s.on REFM_TOD_CFG_TX_EN ∨ s.pwr.state = .vigil ∨ s.pwr.state = .dormant then s
  else
    let mode := s.get GLB_STATUS_MODE
    s.emit .todLine 0 [] (timeLine (s.domTime 0 / secUnit) (mode == 2 || mode == 3) (s.get REFM_TOD_CFG_UTC_OFS))

/-! ### Edges and ticks -/

/-- Activity is lost (R99, R100). -/
def State.actLost (n : Nat) (s : State) : State :=
  ((s.setRef n { s.ref n with since := none }).setCond n 0 true).refEval n

/-- Is the edge of reference `n` at time `t` one that its home gauge, on its default source, has taken for conversion (R91,
R251, R259)? -/
def State.homeTook (s : State) (n t : Nat) : Bool := s.homeReady n && (s.gauge (homeGauge n)).lastStart == some t

/-- A sample of reference `n` reaches the selectors: every one, or only those forced onto it (R128). -/
def State.sampleOut (n t : Nat) (all : Bool) (s : State) : State :=
  let s := s.setRef n { s.ref n with sampled := some t }
  s.each [0, 1, 2, 3] fun l u => u.when (all || u.forcedOn l n) (State.edgeToLoop n t l)

/-- A bad pulse: a second one in a row sets PW; it counts as activity, and for nothing else (R108, R116). -/
def State.badEdge (n t : Nat) (took : Bool) (s : State) : State :=
  let r := s.ref n
  let s := (s.setRef n { r with badRun := r.badRun + 1, bad := true }).count (REFM_COUNT_BAD_PULSE n)
  let s := s.when (decide (1 ≤ r.badRun)) (·.setCond n 5 true)
  let s := ((s.when took (State.jumpCheck n t)).edgeActivity n t).refEval n
  s.when (took && s.get REFM_TOD_CFG_PULSE_REF == n && s.qualified n) (State.todPulse t true)

/-- A good edge: phase jumps, activity, the windows, then the loops and the time of day (R100, R101, R107, R115). -/
def State.goodEdge (n t : Nat) (took : Bool) (s : State) : State :=
  let s := (s.setRef n { s.ref n with badRun := 0 }).setCond n 5 false
  let s := (s.when took (State.jumpCheck n t)).edgeActivity n t
  let r := s.ref n
  let s := s.when (took && r.since.isSome) fun u => u.setRef n { r with
    edges := keepEdges t (((t : Int) - r.corr, (r.last.map (·.2)).getD 0) :: r.edges) }
  let s := s.refEval n
  let s := s.when took (State.sampleOut n t (decide (2 ≤ s.get (REFM_STATE_STATE n))))
  s.when (took && s.get REFM_TOD_CFG_PULSE_REF == n && s.qualified n && s.on (REFM_CFG_TYPE n)) (State.todPulse t false)

/-- What REFM makes of a tapped edge that its home gauge sees (R91, R100, R101, R107, R108). A disabled reference only feeds a
loop that is forced onto it (R128) (DESIGN CHOICE, log entry 4; DEDUCED, log entry 22). -/
def State.refEdge (n t width : Nat) (s : State) : State :=
  let took := s.homeTook n t
  if !s.homeReady n then s
  else if s.get (REFM_STATE_STATE n) = 0 then s.when took (State.sampleOut n t false)
  else
    let late := match (s.ref n).seen with | some t0 => decide (s.actSpan n < ((t - t0 : Nat) : Rat)) | none => false
    let s := s.when (late && (s.ref n).since.isSome) fun u => (u.actLost n).edgesStop n true
    if s.badPulse n width then s.badEdge n t took else s.goodEdge n t took

/-- A tapped edge: an edge of a reference behind its pre-divider (R91), which reaches every gauge channel that takes this signal
(R248) and, in its active direction, REFM (R252) (DEDUCED, log entry 22). -/
def State.tappedEdge (n : Nat) (e : Edge) (width : Nat) (s : State) : State :=
  if s.asleep ∨ !s.signal n then s
  else
    let s := s.tapSignal n e
    s.when (e.falling == s.on (REFM_CFG_EDGE n)) (State.thenSelect (State.refEdge n e.time width))

/-- Activity is lost (R99, R100); of a disabled reference only its silence is left (R128). -/
def State.activityLost (n : Nat) (fast : Bool) (s : State) : State :=
  if s.asleep ∨ (fast && !s.on (REFM_CFG_FAST n)) then s
  else s.thenSelect fun t => (t.when (t.get (REFM_STATE_STATE n) != 0) (State.actLost n)).edgesStop n true

/-- The 100 ms tick (R98, R101, R103, R121): the comparison comes as the cycle ends, after whatever becomes of the references in it
(R130). -/
def State.tick100 (t : Nat) (s : State) : State :=
  if s.asleep then s
  else (s.each (List.range 64) fun n u => u.refTick100 t n).each [0, 1, 2, 3] fun l u => u.setSel l { u.sel l with compare := true }

/-- The 1 s tick (R101, R103, R104). -/
def State.tick1 (t : Nat) (s : State) : State :=
  if s.asleep then s else s.thenSelect fun u => u.each (List.range 64) fun n w => w.refTick1 t n

/-- A wait ends (R98, R99). -/
def State.waitEnd (n : Nat) (s : State) : State :=
  s.when (!s.asleep && s.get (REFM_STATE_STATE n) == 2 && s.get (REFM_CFG_OVERRIDE n) == 0 && s.on (REFM_STATE_SHORT_VALID n) &&
    !s.on GLB_STATUS_XO_INT && decide (s.waitTicks n < (s.ref n).waited)) (State.thenSelect (·.setRefState n 3))

/-! ### Commands -/

/-- REF_ENABLE_WRITE (R99). -/
def execRefEnableWrite (m : Master) (n : Nat) (v : Word) (s : State) : Host.Outcome State Fault Refusal :=
  .next (s.when (decide (n < 64)) (State.access m (REFM_CFG n) (State.refCfgWrite m n v)))

/-- OVERRIDE_WRITE (R99). -/
def execOverrideWrite (m : Master) (n : Nat) (v : Word) (s : State) : Host.Outcome State Fault Refusal :=
  .next (s.when (decide (n < 64)) (State.access m (REFM_CFG n) (State.refCfgWrite m n v)))

/-- TAPPED_EDGE (R107). -/
def execTappedEdge (n : Nat) (e : Edge) (width : Nat) (s : State) : Host.Outcome State Fault Refusal :=
  .next (s.when (decide (n < 64)) (State.tappedEdge n e width))

/-- ACTIVITY_LOSS (R100). -/
def execActivityLoss (n : Nat) (fast : Bool) (s : State) : Host.Outcome State Fault Refusal :=
  .next (s.when (decide (n < 64)) (State.activityLost n fast))

/-- REF_TICK_100MS (R101). -/
def execRefTick100ms (t : Nat) (s : State) : Host.Outcome State Fault Refusal := .next (s.tick100 t)

/-- REF_TICK_1S (R104). -/
def execRefTick1s (t : Nat) (s : State) : Host.Outcome State Fault Refusal := .next (s.tick1 t)

/-- QUALIFICATION_WAIT_END (R98). -/
def execQualificationWaitEnd (n : Nat) (s : State) : Host.Outcome State Fault Refusal :=
  .next (s.when (decide (n < 64)) (State.waitEnd n))

/-- TOD_SENTENCE (R113). -/
def execTodSentence (bytes : List Octet) (t : Nat) (s : State) : Host.Outcome State Fault Refusal :=
  .next (s.todReceive bytes t)

/-- TOD_LINE_TRANSMIT (R117). -/
def execTodLineTransmit (s : State) : Host.Outcome State Fault Refusal := .next s.todSend

end Sys2Proof.Machine
end

