-- ==== Sys2Proof/Machine/Select.lean ====
section
/-! DEFINITION. The commands of selection (chapter 05), and the registers of a selector. -/

namespace Sys2Proof.Machine

/-- A write of SEL_CTRL (R126 to R130, R133): a new MANUAL_REF in MANUAL or FORCED mode abandons a changeover. -/
def State.selCtrlWrite (m : Master) (l : Nat) (v : Word) (r : RegRow) (s : State) : State :=
  let old := s.get (SEL_CTRL_MANUAL_REF l)
  let s := s.plainWrite m (SEL_CTRL l) v r
  let moved := decide (s.get (SEL_CTRL_MANUAL_REF l) ≠ old) && s.get (SEL_CTRL_MODE l) != 0 && (s.sel l).target.isSome
  let s := s.when moved (State.abandonChange l)
  (s.setBuild l (s.sel l).b).selEval l

/-- A write of SEL_RANK or SEL_QL (R120, R130). -/
def State.selOrderWrite (m : Master) (l a : Nat) (v : Word) (r : RegRow) (s : State) : State :=
  (s.plainWrite m a v r).selEval l

/-- A write of SEL_ALIGN_HI: O takes effect (R137). -/
def State.alignWrite (m : Master) (l : Nat) (v : Word) (r : RegRow) (s : State) : State :=
  let s := s.plainWrite m (SEL_ALIGN_HI l) v r
  let s := s.setSel l { s.sel l with o := s.getWideI (SEL_ALIGN_LO l) (SEL_ALIGN_HI l) 16 }
  s.setBuild l (s.sel l).b

/-- B has reached O (R135). -/
def State.bleedEnd (l : Nat) (s : State) : State :=
  s.when (s.get (SEL_CTRL_CHG l) == 1 && s.get (SEL_BLEED_RATE l) != 0) fun t => t.setBuild l (t.alignment l)

/-! ### Commands -/

/-- CHANGEOVER_COMPLETE (R131). -/
def execChangeoverComplete (l : Nat) (s : State) : Host.Outcome State Fault Refusal :=
  .next (s.when (decide (l < 4) && !s.asleep) (State.changeoverComplete l))

/-- FORCED_REF_NO_EDGE (R128). -/
def execForcedRefNoEdge (l : Nat) (s : State) : Host.Outcome State Fault Refusal :=
  .next (s.when (decide (l < 4) && !s.asleep) (State.forcedNoEdge l))

/-- ALIGN_HI_WRITE (R137). -/
def execAlignHiWrite (m : Master) (l : Nat) (v : Word) (s : State) : Host.Outcome State Fault Refusal :=
  .next (s.when (decide (l < 4)) (State.access m (SEL_ALIGN_HI l) (State.alignWrite m l v)))

/-- BUILD_OUT_BLEED_END (R135). -/
def execBuildOutBleedEnd (l : Nat) (s : State) : Host.Outcome State Fault Refusal :=
  .next (s.when (decide (l < 4) && !s.asleep) (State.bleedEnd l))

end Sys2Proof.Machine
end

