-- ==== Sys2Proof/Machine/HoldOps.lean ====
section
/-! DEFINITION. Operations of the sprag (chapter 07): observations and the weighted fit, stages, temperature, records in the
NV store, and the values of loops in holdover. -/

namespace Sys2Proof.Machine

/-! ### The fit -/

/-- Σ x^j / j! for j below `n`, by Horner's rule from the last term (DESIGN CHOICE, log entry 26). -/
def expSeries : Nat → Nat → Rat → Rat
  | 0, _, _ => 1
  | n + 1, j, x => 1 + x / (j : Nat) * expSeries n (j + 1) x

def squareTimes : Nat → Rat → Rat
  | 0, x => x
  | k + 1, x => squareTimes k (fine (x * x))

/-- exp(-x) for x ≥ 0, to about 2^-80. -/
def expNeg (x : Rat) : Rat := squareTimes 16 (fine (1 / expSeries 16 1 (x / (65536 : Nat))))

/-- One column of a Gauss-Jordan elimination; a pivot of 0 is passed over. -/
def gaussStep (m : List (List Rat)) (k : Nat) : List (List Rat) :=
  let row := m.getD k []
  let p := row.getD k 0
  if p = 0 then m
  else
    let row := row.map (· / p)
    (List.range m.length).map fun i =>
      if i = k then row
      else
        let r := m.getD i []
        let f := r.getD k 0
        List.zipWith (fun x y => x - f * y) r row

/-- The inverse of a symmetric matrix of size `n`; a row whose pivot is 0 answers 0. -/
def inverse (n : Nat) (m : List (List Rat)) : List (List Rat) :=
  let aug := (List.range n).map fun i => m.getD i [] ++ (List.range n).map fun j => if i = j then (1 : Rat) else 0
  let out := (List.range n).foldl gaussStep aug
  (List.range n).map fun i => if (out.getD i []).getD i 0 = 1 then (out.getD i []).drop n else List.replicate n 0

def dot (x y : List Rat) : Rat := ratSum (List.zipWith (· * ·) x y)

/-- A weighted least-squares fit (R166): coefficients and their covariance factors. `pri` adds an observation of a
coefficient: its place, value and weight (DEDUCED, log entry 27). -/
def wls (n : Nat) (rows : List (List Rat × Rat × Rat)) (pri : List (Nat × Rat × Rat)) : List Rat × List (List Rat) :=
  let k := List.range n
  let a := k.map fun i => k.map fun j =>
    ratSum (rows.map fun r => r.2.2 * r.1.getD i 0 * r.1.getD j 0) +
      ratSum (pri.map fun p => if p.1 = i ∧ i = j then p.2.2 else 0)
  let b := k.map fun i =>
    ratSum (rows.map fun r => r.2.2 * r.1.getD i 0 * r.2.1) + ratSum (pri.map fun p => if p.1 = i then p.2.1 * p.2.2 else 0)
  let inv := inverse n a
  (inv.map fun r => dot r b, inv)

/-- Weighted residual variance: none with no degree of freedom left (DEDUCED, log entry 27). -/
def residual (n : Nat) (rows : List (List Rat × Rat × Rat)) (c : List Rat) : Option Rat :=
  let sw := ratSum (rows.map fun r => r.2.2)
  if sw ≤ (n : Rat) then none
  else some (ratSum (rows.map fun r => r.2.2 * ((r.2.1 - dot r.1 c) * (r.2.1 - dot r.1 c))) / (sw - (n : Rat)))

/-- Weight of an observation by its age (R166) (DEDUCED, log entry 27). -/
def State.obsWeight (s : State) (o : Obs) : Rat :=
  expNeg ((s.secNow - o.sec) / 3600 / (s.get HOLD_LEARN_FORGET : Rat))

/-- Span of the temperatures observed in the last FORGET hours. -/
def State.obsSpan (s : State) : Rat :=
  let ts := (s.hold.obs.filter fun o => decide (s.secNow - o.sec ≤ 3600 * (s.get HOLD_LEARN_FORGET : Rat))).filterMap (·.temp)
  match ts with
  | [] => 0
  | t :: _ => ts.foldl (fun m x => if m < x then x else m) t - ts.foldl (fun m x => if x < m then x else m) t

/-- The terms the observations enable by themselves (R166): bits y0, a, c1, c2. -/
def State.termsByData (s : State) (minutes : Nat) : Nat :=
  let w := s.obsSpan
  let ts := s.on HOLD_CFG_TS_EN
  1 + (if 1440 ≤ minutes then 2 else 0) + (if ts ∧ 2 ≤ w then 4 else 0) + (if ts ∧ 10 ≤ w then 8 else 0)

/-- The model's contribution of its terms `a`, `c1`, `c2` that are not fitted now. -/
def Model.fixedPart (m : Model) (fit : Nat) (dt dT : Rat) : Rat :=
  (if fit.testBit 1 then 0 else m.a * dt) + (if fit.testBit 2 then 0 else m.c1 * dT) + (if fit.testBit 3 then 0 else m.c2 * dT * dT)

/-- The temperature of an observation less T_ref; one without a reading stands at T_ref (DEDUCED, log entry 27). -/
def Model.dT (m : Model) (o : Obs) : Rat := match o.temp with | some t => t - m.tempRef | none => 0

/-- The restored value and uncertainty of a term that has a prior (R185): bits a, c1, c2. -/
def Model.priorOf (p : Model) (k : Nat) : Option (Rat × Rat) :=
  if !p.terms.testBit k then none
  else match k with | 1 => some (p.a, p.ua) | 2 => some (p.c1, p.uT) | 3 => some (p.c2, p.uT) | _ => none

/-- The rows of the fit of some terms: regressors, value less the terms that are not fitted, weight (R163, R166). -/
def State.fitRows (s : State) (ks : List Nat) (fit : Nat) : List (List Rat × Rat × Rat) :=
  let h := s.hold
  let m := h.model
  let now := (h.obs.headD default).day
  h.obs.map fun o =>
    let dt := o.day - now
    let dT := m.dT o
    (ks.map fun k => if k = 0 then (1 : Rat) else if k = 1 then dt else if k = 2 then dT else dT * dT,
      o.y - m.fixedPart fit dt dT, s.obsWeight o)

/-- The terms among `fit` that are fitted now (R185): a term with a prior waits while its restored uncertainty is 0 or the
observations leave the fit no residual to weigh it by (DEDUCED, log entry 27). -/
def State.fitNow (s : State) (fit : Nat) : List Nat :=
  let ks := [0, 1, 2, 3].filter fit.testBit
  let rows := s.fitRows ks fit
  let blind := (residual ks.length rows (wls ks.length rows []).1).isNone
  ks.filter fun k => match s.hold.prior.bind fun p => p.priorOf k with
    | some (_, u) => !blind && u != 0
    | none => true

/-- The fit over the observations kept (R163, R166, R185). A term restored from a record is fitted once the new observations
alone would enable it, with its restored value as a prior (DEDUCED, log entry 27). -/
def State.refit (s : State) : State :=
  let h := s.hold
  let m := h.model
  let now := (h.obs.headD default).day
  let data := s.termsByData (if h.prior.isSome then h.newMin else h.learnMin)
  let terms := m.terms ||| data
  let ks := s.fitNow (if h.prior.isSome then data else terms)
  let fit := ks.foldl (fun f k => f + 2 ^ k) 0
  let rows := s.fitRows ks fit
  let n := ks.length
  let plain := wls n rows []
  let pri := match h.prior with
    | none => []
    | some p =>
      match residual n rows plain.1 with
      | none => []
      | some v => ((List.range n).zip ks).filterMap fun (i, k) => (p.priorOf k).map fun (x, u) => (i, x, v / (u / 3 * (u / 3)))
  let (c, inv) := if pri.isEmpty then plain else wls n rows pri
  let var := residual n rows c
  let at_ (k : Nat) : Option Nat := ks.findIdx? (· == k)
  let coef (k : Nat) (old : Rat) : Rat := match at_ k with | some i => fine (c.getD i 0) | none => old
  let cov (i j : Nat) : Rat := (inv.getD i []).getD j 0
  -- the temperature observed farthest from T_ref
  let far := h.obs.foldl (fun d o => if ratAbs d < ratAbs (m.dT o) then m.dT o else d) 0
  match var with
  | none =>
    -- the fit gives no standard error: three free values
    let f (j : Nat) : Rat := (Config.unstated (s.free + j) % 2 ^ 32 : Nat) / (2 ^ 48 : Nat)
    { s with
      free := s.free + 3
      hold := { h with model := { m with
        tRef := now, y0 := coef 0 m.y0, a := coef 1 m.a, c1 := coef 2 m.c1, c2 := coef 3 m.c2, terms := terms
        uy0 := f 0, ua := if fit.testBit 1 then f 1 else m.ua, uT := if fit.testBit 2 then f 2 else m.uT } } }
  | some v =>
    let se (i : Nat) : Rat := fine (3 * ratSqrt (v * cov i i))
    let uT := match at_ 2, at_ 3 with
      | some i, some j => fine (3 * ratSqrt (v * (cov i i + 2 * far * cov i j + far * far * cov j j)))
      | some i, none => se i
      | none, _ => m.uT
    { s with hold := { h with model := { m with
        tRef := now, y0 := coef 0 m.y0, a := coef 1 m.a, c1 := coef 2 m.c1, c2 := coef 3 m.c2, terms := terms
        uy0 := match at_ 0 with | some i => se i | none => m.uy0
        ua := match at_ 1 with | some i => se i | none => m.ua
        uT := uT } } }

/-! ### Reports -/

/-- A coefficient as a 32-bit register holds it. -/
def word32 (x : Int) : Nat := wrapTo 32 (clampInt (-2147483648) 2147483647 x)

/-- The registers that report the model (R163, R166, R169). -/
def State.reportModel (s : State) : State :=
  let m := s.hold.model
  let s := (s.set HOLD_STATUS_TERMS m.terms).set HOLD_LEARNT_LEARN_MIN (min s.hold.learnMin (2 ^ 20 - 1))
  let s := s.set HOLD_AGE_VALUE (if m.terms.testBit 1 then word32 (unit48 m.a) else 0)
  let s := s.set HOLD_TC1_VALUE (if m.terms.testBit 2 then word32 (unit48 m.c1) else 0)
  let s := s.set HOLD_TC2_VALUE (if m.terms.testBit 3 then word32 (roundAway (m.c2 * (2 ^ 56 : Nat))) else 0)
  let s := s.set HOLD_UA_VALUE (if m.terms.testBit 1 then word32 (unit48 m.ua) else 0)
  let s := s.set HOLD_UT_VALUE (if m.terms.testBit 2 then word32 (unit48 m.uT) else 0)
  let s := s.setI HOLD_TEMP_T_REF (roundAway (m.tempRef * 256))
  s.setWide HOLD_YPRED_LO HOLD_YPRED_HI 16 (unit48 s.yXO)

/-- The stage changes (R169). -/
def State.setStage (k : Nat) (s : State) : State :=
  if s.get HOLD_STATUS_STAGE = k then s else ((s.set HOLD_STATUS_STAGE k).raise HOLD_EVT_STAGE_CHG).offerEval

/-! ### Observations -/

/-- The learning loop that LEARN_SRC = 0 names at the start of an interval (R165). -/
def State.autoLoop (s : State) : Option Nat := if s.loopState 0 = 2 then some 0 else if s.loopState 2 = 2 then some 2 else none

/-- The learning loop under the configuration in force (R165). -/
def State.learningLoop (s : State) : Option Nat :=
  if !s.on HOLD_CFG_LEARN_EN then none
  else match s.get HOLD_CFG_LEARN_SRC with
    | 1 => some 0
    | 2 => some 2
    | _ => s.hold.autoLearner

/-- Do the conditions of R164 hold now for loop `l`? -/
def State.learnClean (s : State) (l : Nat) : Bool :=
  s.loopState l == 2 && !s.on (DPL_STATUS_FLYWHEEL l) && !s.on (DPL_STATUS_STEPPING l) && !s.on (DPL_STATUS_RAMP_BUSY l) &&
    (s.get (DPL_CFG_SRC l) != 0 || (!s.on (SEL_STATUS_CHG_BUSY l) && !s.on (SEL_STATUS_BLEEDING l) &&
      (match (s.sel l).active with | some a => !s.suspect l a | none => true))) &&
    !s.on GLB_STATUS_XO_INT && (!s.on HOLD_CFG_TS_EN || (!s.on HOLD_STATUS_TSENS_FAIL && !s.on HOLD_STATUS_SLEW))

/-- An update of loop `l` with frequency y: the learning loop's updates are summed (R164), and an update in LOCKED enters the
window of R172. -/
def State.learnUpdate (l : Nat) (s : State) : State :=
  let y := (s.loop l).y
  let s := if s.hold.learner = some l then
      { s with hold := { s.hold with ySum := s.hold.ySum + y, yCount := s.hold.yCount + 1 } } else s
  if s.loopState l ≠ 2 then s
  else
    let keep : Rat := (s.get HOLD_BIAS_WIN : Rat) + (s.get HOLD_BIAS_GUARD : Rat) + 16
    let h := s.holdLoop l
    let d := y - (1 / (1 + s.yXO) - 1)
    s.setHoldLoop l { h with track := (s.secNow, fine d) :: h.track.filter fun p => decide (s.secNow - keep ≤ p.1) }

/-- A valid observation is taken into the model (R163, R166, R169) (DEDUCED, log entry 27). -/
def State.takeObservation (yobs : Rat) (temp : Option Rat) (s : State) : State :=
  let h := s.hold
  let s := { s with hold := { h with
    obs := ⟨s.secNow, s.dayNow, temp, fine yobs⟩ :: h.obs
    learnMin := h.learnMin + 1, newMin := h.newMin + 1, calMin := h.calMin + 1
    model := match temp with | some t => if h.refSet then h.model else { h.model with tempRef := t } | none => h.model
    refSet := h.refSet || temp.isSome
    histSum := h.histSum + fine yobs, histTemp := h.histTemp + temp.getD 0, histCount := h.histCount + 1 } }
  let s := s.refit
  let stage := s.get HOLD_STATUS_STAGE
  let ml := s.get HOLD_LEARN_MIN_LEARN
  let s := if stage = 0 then s.setStage 1
    else if stage = 1 ∧ ml ≤ s.hold.learnMin ∧ (s.hold.prior.isNone ∨ ml ≤ s.hold.newMin) then s.setStage 2
    else if stage = 2 ∧ 4320 ≤ s.hold.learnMin then s.setStage 3
    else s
  s.reportModel

/-- One hour of the history is complete (R183). -/
def State.historyEntry (s : State) : State :=
  let h := s.hold
  if h.histMin < 59 then { s with hold := { h with histMin := h.histMin + 1 } }
  else
    let n : Rat := if h.histCount = 0 then 1 else (h.histCount : Nat)
    let e := octetsLE 6 (s.domTime 0 / secUnit) ++ octetsLE 2 h.histCount ++ octetsLE 6 (wrapTo 48 (unit48 (h.histSum / n))) ++
      octetsLE 2 (wrapTo 16 (roundAway (h.histTemp / n * 256)))
    let hist := (h.history ++ [e]).drop ((h.history.length + 1) - 16)
    let page := hist.flatten
    ({ s with hold := { h with history := hist, histSum := 0, histTemp := 0, histCount := 0, histMin := 0 } }).hotPut 0x110
      (page ++ List.replicate (256 - page.length) 0)

/-- Sixty seconds end (R164, R165) (DEDUCED, log entry 27). -/
def State.observe (s : State) : State :=
  if s.asleep then s
  else
    let h := s.hold
    let s := match h.learner with
      | none => s
      | some l =>
        if h.broken || h.yCount == 0 || !s.learnClean l then s.count HOLD_LEARNT_DISCARDS
        else
          let t : Option Rat := if !s.on HOLD_CFG_TS_EN then none else some (if h.tCount = 0 then h.tLast
            else h.tSum / (h.tCount : Nat))
          s.takeObservation (1 / (1 + h.ySum / (h.yCount : Nat)) - 1) t
    let s := s.historyEntry
    let s := { s with hold := { s.hold with autoLearner := s.autoLoop } }
    let l := s.learningLoop
    let clean := match l with | some l => s.learnClean l | none => true
    { s with hold := { s.hold with learner := l, ySum := 0, yCount := 0, broken := !clean, tSum := 0, tCount := 0 } }

/-! ### Temperature -/

/-- The slew of R168 in K/h, from the readings and their times in s, newest first. -/
def slewOf (rs : List (Rat × Rat)) : Rat :=
  match rs.head?, rs.getLast? with
  | some (i, t1), some (j, t0) => if i = j then 0 else (t1 - t0) * 3600 / (i - j)
  | _, _ => 0

/-- The readings of the last ten minutes (R168). -/
def State.recentTemps (s : State) : List (Rat × Rat) := s.hold.temps.filter fun r => decide (s.secNow - r.1 ≤ 600)

/-- The slew is evaluated again (R168). -/
def State.slewEval (s : State) : State :=
  let s := { s with hold := { s.hold with temps := s.recentTemps } }
  let fast := decide ((s.get HOLD_TSENS_SLEW_LIM : Rat) / 10 < ratAbs (slewOf s.hold.temps))
  (s.setB HOLD_STATUS_SLEW fast).when fast State.learnBreakAll

/-- A read of the sensor has failed (R167). -/
def State.tempFail (s : State) : State :=
  if !s.on HOLD_CFG_TS_EN ∨ s.asleep then s
  else
    let h := s.hold
    let s := { s with hold := { h with failRun := h.failRun + 1, goodTick := false } }
    let s := s.when (decide (3 ≤ s.hold.failRun)) fun t => (t.set HOLD_STATUS_TSENS_FAIL 1).learnBreakAll
    s.slewEval

/-- A read of the sensor (R167) (DEDUCED, log entry 58). -/
def State.tempRead (ack : Bool) (hi lo : Octet) (s : State) : State :=
  if !s.on HOLD_CFG_TS_EN ∨ s.asleep then s
  else if !ack then s.tempFail
  else
    let n := if s.on HOLD_TSENS_FORMAT then lo.toNat * 256 + hi.toNat else hi.toNat * 256 + lo.toNat
    let t : Rat := (signedOf 16 n : Rat) / 256
    let h := s.hold
    let s := { s with hold := { h with
      temps := (s.secNow, t) :: h.temps, failRun := 0, goodTick := true, tLast := t, tAt := s.secNow
      tSum := h.tSum + t, tCount := h.tCount + 1 } }
    ((s.set HOLD_TEMP_T_NOW n).set HOLD_STATUS_TSENS_FAIL 0).slewEval

/-! ### Records -/

/-- A CRC-32 over the octets before it, in four octets. -/
def sealRecord (bs : List Octet) : List Octet := bs ++ octetsLE 4 (crc32 bs)

/-- Does a record hold its MAGIC and its CRC? -/
def recordOk (magic : Nat) (bs : List Octet) : Bool :=
  fromLE (bs.take 4) == magic && fromLE (bs.drop (bs.length - 4)) == crc32 (bs.take (bs.length - 4))

/-- Is SEQ `a` newer than `b` (R182)? -/
def seqNewer (a b : Nat) : Bool := let d := (a + 2 ^ 32 - b) % 2 ^ 32; decide (0 < d ∧ d < 2 ^ 31)

/-- SEQ of a record. -/
def seqOf (bs : List Octet) : Nat := fromLE ((bs.drop 4).take 4)

/-- Where the next record of a pair goes, and its SEQ (R182): 0 record A, 1 record B. -/
def nextRecord (magic : Nat) (a b : List Octet) : Nat × Nat :=
  match recordOk magic a, recordOk magic b with
  | false, false => (0, 1)
  | true, false => (1, (seqOf a + 1) % 2 ^ 32)
  | false, true => (0, (seqOf b + 1) % 2 ^ 32)
  | true, true =>
    if seqNewer (seqOf b) (seqOf a) then (0, (seqOf b + 1) % 2 ^ 32) else (1, (seqOf a + 1) % 2 ^ 32)

def modelMagic : Nat := 0x4D485A51
def calMagic : Nat := 0x4C435A51

/-- The model record (R183). -/
def State.modelRecord (s : State) (seq : Nat) : List Octet :=
  let m := s.hold.model
  let i48 (k : Nat) (x : Rat) : List Octet := octetsLE k (wrapTo (8 * k) (unit48 x))
  let tref := (m.tRef * 86400).floor.toNat % 2 ^ 48
  sealRecord (octetsLE 4 modelMagic ++ octetsLE 4 seq ++ octetsLE 8 tref ++ i48 8 m.y0 ++ i48 4 m.a ++ i48 4 m.c1 ++
    octetsLE 4 (wrapTo 32 (roundAway (m.c2 * (2 ^ 56 : Nat)))) ++ octetsLE 2 (wrapTo 16 (roundAway (m.tempRef * 256))) ++
    octetsLE 1 m.terms ++ octetsLE 1 (s.get HOLD_STATUS_STAGE) ++ octetsLE 4 s.hold.learnMin ++
    i48 4 m.uy0 ++ i48 4 m.ua ++ i48 4 m.uT ++ List.replicate 196 0)

/-- What a refused test leaves behind: a refusal of the bucket is counted (R184, R401). -/
def State.testRefused (pages : List Nat) (s : State) : State :=
  if s.on NVS_STATUS_PFW_ACTIVE || pages.any (pageProtected (s.get NVS_PROTECT_LEVEL)) then s
  else s.when (!s.bucketTakes (pages ++ s.nvs.buffer.map (·.1))) State.bucketRefuses

/-- A record is written and committed, tested first (R184): the state, and whether it was taken (DEDUCED, log entry 28). -/
def State.recordWrite (a : Nat) (bs : List Octet) (why : Nat × Nat) (s : State) : State × Bool :=
  if s.recordTaken (pagesOf a bs.length) then
    let s := ((s.nvLoadChecked (pagesOf a bs.length)).nvPut a bs).commitStart false [why]
    (s.1, s.2 == 0)
  else (s.testRefused (pagesOf a bs.length), false)

/-- The model record is committed (R184): nothing while STAGE reads NONE, nor while a clear erases the records (R170). The hot copy
follows a commit that is taken (R179) (DEDUCED, log entry 28). -/
def State.commitModel (s : State) : State :=
  if s.get HOLD_STATUS_STAGE = 0 ∨ s.hold.clearing then s
  else
    let (k, seq) := nextRecord modelMagic (s.nvOctets 0x10000 256) (s.nvOctets 0x10100 256)
    let bs := s.modelRecord seq
    let (t, ok) := s.recordWrite (0x10000 + 256 * k) bs (1, 0)
    if ok then t.hotPut 0x10 bs else t.raise HOLD_EVT_COMMIT_FAIL

/-- A history page is committed (R183, R184): the ring has 126 pages (DEDUCED, log entry 28). -/
def State.commitHistory (s : State) : State :=
  if s.asleep ∨ s.hold.history.isEmpty then s
  else
    let bs := s.hold.history.flatten
    let bs := bs ++ List.replicate (256 - bs.length) 0
    let (t, ok) := s.recordWrite (0x10200 + 256 * s.hold.histPage) bs (2, s.hold.history.length)
    if ok then t else t.raise HOLD_EVT_COMMIT_FAIL

/-- A history page has been programmed: its entries leave the open page (R183, R184). -/
def State.historyDone (n : Nat) (s : State) : State :=
  let rest := s.hold.history.drop n
  let page := rest.flatten
  ({ s with hold := { s.hold with history := rest, histPage := (s.hold.histPage + 1) % 126 } }).hotPut 0x110
    (page ++ List.replicate (256 - page.length) 0)

/-- A calibration word is written and committed (R180, R182, R445). -/
def State.writeCal (y : Int) (source : Nat) (why : Nat) (s : State) : State × Bool :=
  let (k, seq) := nextRecord calMagic (s.nvOctets 0x18000 256) (s.nvOctets 0x18100 256)
  let bs := sealRecord (octetsLE 4 calMagic ++ octetsLE 4 seq ++ octetsLE 8 (wrapTo 64 y) ++ octetsLE 1 source ++
    List.replicate 235 0)
  let (t, ok) := s.recordWrite (0x18000 + 256 * k) bs (3, why)
  if ok then ({ t with hold := { t.hold with calNext := some y } }, true) else (t, false)

/-- A calibration word takes effect (R181). -/
def State.calEffect (s : State) : State :=
  match s.hold.calNext with
  | none => s
  | some y =>
    let s := { s with hold := { s.hold with calNext := none } }
    ((s.setWide HOLD_CAL_LO HOLD_CAL_HI 16 y).set HOLD_STATUS_CAL_VALID 1).raise HOLD_EVT_CAL_WRITTEN

/-- What a clear tests before anything is cleared (R170, R446): 0 free to go, 3 protected, 4 refused. -/
def State.clearTest (s : State) : Nat :=
  if 2 ≤ s.get NVS_PROTECT_LEVEL then 3 else if s.recordTaken [256, 257] then 0 else 4

/-- A clear begins (R170): zeros over both records in one commit, and over the copy in the hot image. -/
def State.clearStart (why : Nat) (s : State) : State :=
  let s := { s with hold := { s.hold with clearing := true } }
  let s := ((s.nvLoadChecked [256, 257]).hotPut 0x10 (List.replicate 256 0)).nvPut 0x10000 (List.replicate 512 0)
  (s.commitStart false [(4, why)]).1

/-- The commit of a clear is complete (R169, R170). -/
def State.clearEnd (s : State) : State :=
  if !s.hold.clearing then s
  else
    let h := s.hold
    let s := { s with hold := { h with
      clearing := false, model := default, obs := [], learnMin := 0, newMin := 0, calMin := 0, prior := none, refSet := false,
      broken := true } }
    (s.setStage 0).reportModel

/-! ### Registers -/

/-- A write of HOLD_CFG: predictions (R171), and an observation under another learning loop is spoilt (R164, R165). -/
def State.holdCfgWrite (m : Master) (v : Word) (r : RegRow) (s : State) : State :=
  let s := (s.plainWrite m HOLD_CFG v r).offerEval
  let l := s.learningLoop
  let s := s.when (decide (l ≠ s.hold.learner)) fun t => { t with hold := { t.hold with learner := l, broken := true } }
  s.slewEval

/-- A write of HOLD_TSENS: SLEW follows its limit (R168). -/
def State.holdSensWrite (m : Master) (v : Word) (r : RegRow) (s : State) : State := (s.plainWrite m HOLD_TSENS v r).slewEval

/-! ### Holdover -/

/-- One second of holdover of a loop (R173, R174) (DEDUCED, log entry 28). -/
def State.holdTickLoop (l : Nat) (s : State) : State :=
  if s.loopState l ≠ 3 then s
  else
    let h := s.holdLoop l
    let fail := s.on HOLD_STATUS_TSENS_FAIL
    let d := ratAbs (s.hold.tLast - h.tEntry)
    let ts := s.on HOLD_CFG_TS_EN
    let slew : Rat := (s.get HOLD_TSENS_SLEW_LIM : Rat) / 36000 * (s.secNow - s.hold.tAt)
    let s := s.setHoldLoop l { h with
      tau := h.tau + 1
      theta := if ts ∧ !fail ∧ s.hold.goodTick then fine (h.theta + d) else h.theta
      thetaF := if ts ∧ fail then fine (h.thetaF + d + slew) else h.thetaF }
    let s := if h.entering then s else s.setBase l (fine (s.yHold l))
    s.reportBound l

/-- The 1 s tick of the sprag (R173, R174). -/
def State.holdTick (s : State) : State :=
  if s.asleep then s
  else
    let s := s.slewEval.each [0, 1, 2, 3] State.holdTickLoop
    { s with hold := { s.hold with goodTick := false } }

/-- Sprag expiry of a loop (R176) (DEDUCED, log entry 28). -/
def State.expire (l : Nat) (s : State) : State :=
  let h := s.holdLoop l
  if s.loopState l ≠ 3 ∨ s.asleep then s
  else if decide (60 * s.get HOLD_EXPIRY_HOLD_LIMIT ≤ h.tau) || decide (s.get (HOLD_LP_STATUS_CONF l) ≤ s.get HOLD_EXPIRY_CONF_MIN)
      || !s.offered l then
    let s := (s.raise HOLD_EVT_EXPIRY).setHoldLoop l { h with expired := some s.cyc }
    (s.queueEvent 4 [packWord [(l, 0), (min h.tau (2 ^ 24 - 1), 8)]]).setLoopState l 4
  else s

end Sys2Proof.Machine
end

