-- ==== Sys2Proof/Machine/NvStore.lean ====
section
/-! DEFINITION. The commands of the NV store (chapter 19) and how a commit ends for those that wait on it. -/

namespace Sys2Proof.Machine

/-- The hot save of R408 begins once nothing else is being programmed, or is skipped (R408, R413). -/
def State.pfwSave (s : State) : State :=
  if !s.nvs.pfwLow || s.nvs.job.isSome || s.nvs.save.isSome then s
  else
    let s := { s with nvs := { s.nvs with pfwLow := false } }
    if s.get NVS_PROTECT_LEVEL = 3 then s.raise NVS_EVT_PFW_SKIP else s.hotSaveStart 0 false

/-- Has protection dropped the pages of a waiter of this kind (R411, R413)? -/
def State.waiterLost (s : State) (kind status : Nat) : Bool :=
  match kind with
  | 3 => decide (1 ≤ s.get NVS_PROTECT_LEVEL)
  | 5 => s.get NVS_PROTECT_LEVEL == 3
  | 6 => status != 0
  | _ => decide (2 ≤ s.get NVS_PROTECT_LEVEL)

/-- One that waited for a commit learns of its end (R170, R181, R184, R445, R446). -/
def State.tellWaiter (status : Nat) (w : Nat × Nat) (s : State) : State :=
  let lost := s.waiterLost w.1 status
  match w.1 with
  | 1 => s.when lost (·.raise HOLD_EVT_COMMIT_FAIL)
  | 2 => if lost then s.raise HOLD_EVT_COMMIT_FAIL else s.historyDone w.2
  | 3 =>
    let s := if lost then { s with hold := { s.hold with calNext := none } } else s
    let s := s.when (lost && w.2 == 0) (·.raise HOLD_EVT_COMMIT_FAIL)
    if w.2 = 0 then s else s.fwNv (w.2 - 1) (if lost then 3 else 0) []
  | 4 =>
    let s := if lost then ({ s with hold := { s.hold with clearing := false } }.raise HOLD_EVT_CLEAR_REFUSED).warn else s.clearEnd
    if w.2 = 0 then s else s.fwNv (w.2 - 1) (if lost then 3 else 0) []
  | 5 => s
  | _ => s.fwNv w.2 status []

/-- The commit in progress, if any, ends (R400). -/
def State.jobEnd (s : State) : State :=
  match s.nvs.job with
  | none => s
  | some j =>
    let (t, st) := s.commitFinish j
    (j.why.foldl (fun t w => t.tellWaiter st w) t).pfwSave

/-- Does the commit in progress have a waiter of this kind? -/
def State.jobWaits (s : State) (kind : Nat) : Bool :=
  match s.nvs.job with
  | none => false
  | some j => j.why.any fun w => w.1 == kind

/-- The hot save in progress, if any, ends, and a HOT_SAVE command is answered (R405, R436). -/
def State.saveEnd (s : State) : State :=
  match s.nvs.save with
  | none => s
  | some (cause, _) =>
    let st := if s.get NVS_PROTECT_LEVEL = 3 then 3 else 0
    let s := s.hotSaveEnd
    let s := match s.fw.passed with
      | some mb => if cause = 3 then { (s.fwNv mb st []) with fw := { (s.fwNv mb st []).fw with passed := none } } else s
      | none => s
    s.pfwSave

/-- PFW_N is taken (R408): PFW_ACTIVE, the fault, and the hot save. -/
def State.pfwTaken (s : State) : State :=
  if s.on NVS_STATUS_PFW_ACTIVE then s
  else
    let s := (s.set NVS_STATUS_PFW_ACTIVE 1).logFault 0x22 0 none
    { s with nvs := { s.nvs with pfwLow := true } }.pfwSave

/-! ### Commands -/

/-- NV_READ_OP (R397). -/
def execNvReadOp (m : Master) (v : Word) (s : State) : Host.Outcome State Fault Refusal :=
  .next (State.access m NVS_CMD (State.nvCmdWrite m v) s)
/-- NV_WRITE_OP (R398). -/
def execNvWriteOp (m : Master) (v : Word) (s : State) : Host.Outcome State Fault Refusal :=
  .next (State.access m NVS_CMD (State.nvCmdWrite m v) s)
/-- NV_COMMIT_OP (R400). -/
def execNvCommitOp (m : Master) (v : Word) (s : State) : Host.Outcome State Fault Refusal :=
  .next (State.access m NVS_CMD (State.nvCmdWrite m v) s)
/-- NV_DISCARD_OP (R396). -/
def execNvDiscardOp (m : Master) (v : Word) (s : State) : Host.Outcome State Fault Refusal :=
  .next (State.access m NVS_CMD (State.nvCmdWrite m v) s)
/-- NV_HOT_SAVE_OP (R406). -/
def execNvHotSaveOp (m : Master) (v : Word) (s : State) : Host.Outcome State Fault Refusal :=
  .next (State.access m NVS_CMD (State.nvCmdWrite m v) s)
/-- PFW_N_CLEAR (R409). -/
def execPfwNClear (s : State) : Host.Outcome State Fault Refusal := .next (s.set NVS_STATUS_PFW_ACTIVE 0)
/-- PROTECT_WRITE (R412). -/
def execProtectWrite (m : Master) (v : Word) (s : State) : Host.Outcome State Fault Refusal :=
  .next (State.access m NVS_PROTECT (State.protectEffect m v) s)

end Sys2Proof.Machine
end

