-- ==== Sys2Proof/Machine/FwdOps.lean ====
section
/-! DEFINITION. Reading a frame's headers, the forwarding tables, and the decisions of the pipeline (chapter 15). -/

namespace Sys2Proof.Machine

/-! ### Headers -/

/-- Octet `k` of a frame; 0 where the frame has none. -/
def octAt (bs : List Octet) (k : Nat) : Nat := (bs.getD k 0).toNat

/-- `n` octets from place `k`, most significant first. -/
def numAt (bs : List Octet) (k n : Nat) : Nat := (List.range n).foldl (fun a j => a * 256 + octAt bs (k + j)) 0

/-- Addresses, tag and EtherType of a frame (R327). -/
structure Hdr where
  da : Nat
  sa : Nat
  tagged : Bool
  vid : Nat
  pcp : Nat
  dei : Nat
  etype : Nat
  /-- Where the octets behind the EtherType begin. -/
  off : Nat
  deriving DecidableEq, Repr, Inhabited

/-- The headers of a frame: only one tag, of TPID 0x8100, is read (R327). -/
def headerOf (bs : List Octet) : Hdr :=
  let tci := numAt bs 14 2
  if numAt bs 12 2 = 0x8100 then ⟨numAt bs 0 6, numAt bs 6 6, true, tci % 4096, tci / 8192, tci / 4096 % 2, numAt bs 16 2, 18⟩
  else ⟨numAt bs 0 6, numAt bs 6 6, false, 0, 0, 0, numAt bs 12 2, 14⟩

/-- What the classifier reads of the layers above (R330). -/
structure IpHdr where
  l3 : Nat
  dscp : Nat
  proto : Nat
  dst : Nat
  l4 : Bool
  l4off : Nat
  deriving DecidableEq, Repr, Inhabited

def isL4 (proto : Nat) : Bool := proto == 6 || proto == 17

def ipOf (bs : List Octet) (h : Hdr) : IpHdr :=
  let o := h.off
  if h.etype = 0x0800 then
    let proto := octAt bs (o + 9)
    ⟨1, octAt bs (o + 1) / 4, proto, numAt bs (o + 16) 4, isL4 proto && numAt bs (o + 6) 2 % 8192 == 0, o + octAt bs o % 16 * 4⟩
  else if h.etype = 0x86DD then
    let proto := octAt bs (o + 6)
    if isL4 proto then ⟨2, numAt bs o 2 / 64 % 64, proto, numAt bs (o + 36) 4, true, o + 40⟩ else ⟨2, 0, 0, 0, false, o + 40⟩
  else ⟨0, 0, 0, 0, false, o⟩

/-- Where the PTP message of a frame begins, and its transport: 0 Ethernet, 1 UDP/IPv4, 2 UDP/IPv6 (R329). -/
def ptpAt (bs : List Octet) : Option (Nat × Nat) :=
  let h := headerOf bs
  if h.etype = 0x88F7 then some (h.off, 0)
  else
    let ip := ipOf bs h
    let port := numAt bs (ip.l4off + 2) 2
    if ip.l4 ∧ ip.proto = 17 ∧ (port = 319 ∨ port = 320) then some (ip.l4off + 8, ip.l3) else none


/-! ### Tables -/

/-- Port map of two words. -/
def portMap (lo hi : Word) : Nat := lo.toNat + hi.toNat % 2 ^ 18 * 2 ^ 32

/-- A VLAN entry (R328). -/
structure Vlan where
  member : Nat
  untag : Nat
  learn : Bool
  floodUc : Bool
  floodMc : Bool
  deriving DecidableEq, Repr, Inhabited

def State.vlanWords (s : State) (vid : Nat) : List Word := smAt s.fwd.vlan vid
def State.setVlan (vid : Nat) (ws : List Word) (s : State) : State :=
  { s with fwd := { s.fwd with vlan := smPut s.fwd.vlan vid ws } }

/-- The VLAN of a VID: with VALID = 0 it has no members (R328). -/
def State.vlanOf (s : State) (vid : Nat) : Vlan :=
  match s.vlanWords vid with
  | [w1, w2, w3, w4] => if w2.getLsbD 31 then ⟨portMap w1 w2, portMap w3 w4, w2.getLsbD 30, w2.getLsbD 29,
    w2.getLsbD 28⟩ else default
  | _ => default

def State.ruleWords (s : State) (n : Nat) : List Word := smAt s.fwd.rules n
def State.setRule (n : Nat) (ws : List Word) (s : State) : State :=
  { s with fwd := { s.fwd with rules := smPut s.fwd.rules n ws, hits := smPut s.fwd.hits n 0 } }

/-- May a rule hold these words: INGRESS of its key at most 49, REDIRECT_PORT at most 48 (R330, R331)? -/
def ruleValid (ws : List Word) : Bool := decide (getBits (ws.getD 0 0) 20 6 ≤ 49 ∧ getBits (ws.getD 12 0) 17 6 ≤ 48)

def State.macAt (s : State) (ix : Nat) : Option MacEntry := smAt s.fwd.mac ix
def State.setMac (ix : Nat) (e : Option MacEntry) (s : State) : State :=
  { s with fwd := { s.fwd with mac := smPut s.fwd.mac ix e } }

/-- The indices of the ways of a key's bucket (DESIGN CHOICE, log entry 40). -/
def waysOf (mac vid : Nat) : List Nat := (List.range 8).map fun w => Config.macBucket mac vid % 16384 * 8 + w

/-- The entry of a key, with its index (R332). -/
def State.findMac (s : State) (mac vid : Nat) : Option (Nat × MacEntry) :=
  (waysOf mac vid).findSome? fun ix =>
    match s.macAt ix with
    | some e => if e.mac = mac ∧ e.vid = vid then some (ix, e) else none
    | none => none

/-- A free way of a key's bucket; which of several is a free value (DESIGN CHOICE, log entry 40). -/
def State.freeWay (s : State) (mac vid : Nat) : Option Nat :=
  let ws := (waysOf mac vid).filter fun ix => (s.macAt ix).isNone
  ws[Config.freeWay s.free % ws.length]?

/-- A new entry takes a free way; none when the bucket is full (R334, R337). -/
def State.addMac (e : MacEntry) (s : State) : Option State :=
  (s.freeWay e.mac e.vid).map fun ix => (s.setMac ix (some e)).useFree

/-- The dynamic entries that name a port, or all, go (R336, R337). -/
def State.flushMac (p : Option Nat) (s : State) : State :=
  let stays (e : Option MacEntry) : Bool :=
    match e with
    | none => true
    | some e => e.isStatic || (match p with | none => false | some p => !e.ports.testBit p)
  { s with fwd := { s.fwd with mac := s.fwd.mac.filter fun x => stays x.2 } }

/-- The words of a MAC entry (R332). -/
def macWords : Option MacEntry → List Word
  | none => [0, 0, 0, 0]
  | some e => [BitVec.ofNat 32 e.mac, packWord [(e.vid, 16), (e.mac / 2 ^ 32, 0)], BitVec.ofNat 32 e.ports,
      packWord [(1, 31), (if e.isStatic then 1 else 0, 30), (e.ports / 2 ^ 32, 0)]]

/-- The entry that four words spell, with age 2, and whether VALID is set. -/
def macOfWords (w0 w1 w2 w3 : Word) : MacEntry × Bool :=
  (⟨w0.toNat + w1.toNat % 65536 * 2 ^ 32, getBits w1 16 12, portMap w2 w3, w3.getLsbD 30, 2⟩, w3.getLsbD 31)

/-- Learning of a source address (R334, R335). -/
def State.learn (i mac vid : Nat) (s : State) : State :=
  match s.findMac mac vid with
  | some (ix, e) =>
    if e.isStatic then s
    else (s.setMac ix (some { e with ports := 2 ^ i, age := 2 })).when (decide (e.ports ≠ 2 ^ i)) (·.count FWD_COUNT_MOVES)
  | none => match s.addMac ⟨mac, vid, 2 ^ i, false, 2⟩ with
    | some t => t
    | none => s.count FWD_COUNT_LEARN_FULL

/-! ### The classifier -/

/-- The frame key of R330. -/
def frameKey (i : Nat) (bs : List Octet) (vid prio : Nat) : List Nat :=
  let h := headerOf bs
  let ip := ipOf bs h
  [i * 2 ^ 20 + vid * 2 ^ 8 + prio * 2 ^ 5 + (if h.tagged then 16 else 0) + ip.l3 * 4 + (if ip.l4 then 2 else 0),
    h.da % 2 ^ 32, h.etype * 2 ^ 16 + h.da / 2 ^ 32, ip.dscp * 2 ^ 26 + ip.proto * 2 ^ 16,
    if ip.l4 then numAt bs ip.l4off 2 * 2 ^ 16 + numAt bs (ip.l4off + 2) 2 else 0, ip.dst]

/-- Does a rule match a frame key (R330)? -/
def ruleMatches (key : List Nat) (ws : List Word) : Bool :=
  (ws.getD 12 0).getLsbD 31 && (List.range 6).all fun j => ((key.getD j 0 ^^^ (ws.getD j 0).toNat) &&& (ws.getD (6 + j) 0).toNat) == 0

/-- The lowest-numbered matching rule (R330). -/
def State.ruleFor (s : State) (key : List Nat) : Option (Nat × Word) :=
  s.fwd.rules.findSome? fun x => if ruleMatches key x.2 then some (x.1, x.2.getD 12 0) else none

/-! ### The pipeline -/

/-- The field of FWD_PCP_MAP that maps a priority (R333). -/
def pcpField (i prio : Nat) : FieldRef := ⟨FWD_PCP_MAP i, 3 * prio, 3⟩

/-- Bit of CGU_GATE_STATUS: is a block gated now? -/
def State.gateIn (s : State) (k : Nat) : Bool := (s.get CGU_GATE_STATUS_GATED).testBit k

/-- Is an event message consumed by a session of the port (R278, R326)? Sync by a SLAVE, Delay_Req by a MASTER, peer-delay
messages by a session that measures peer delay. -/
def State.sessConsumes (s : State) (p : Nat) (bs : List Octet) : Bool :=
  match ptpAt bs with
  | none => false
  | some (o, tr) =>
    let type := octAt bs o % 16
    (List.range 192).any fun k =>
      s.get (SESS_STATUS_STATE k) != 0 && s.get (SESS_CFG_PORT k) == p && s.get (SESS_CFG_TRANSPORT k) == tr &&
        s.get (SESS_CFG_DOMAIN_NUM k) == octAt bs (o + 4) &&
        ((type == 0 && s.get (SESS_CFG_ROLE k) == 1) || (type == 1 && s.get (SESS_CFG_ROLE k) == 0) ||
          ((type == 2 || type == 3) && s.get (SESS_CFG_DELAY k) == 1))

/-- Is a frame taken at stage 1 (R290, R317, R326)? -/
def State.stageOne (s : State) (p : Nat) (bs : List Octet) : Bool :=
  let h := headerOf bs
  h.etype == 0x8808 || (h.etype == 0x88B5 && s.on (CPL_PORT_CFG_ENABLE p) && numAt bs h.off 4 == 0x515A4350) || s.sessConsumes p bs

/-- Is a frame trapped to P49 (R329)? (DEDUCED, log entry 42) -/
def State.traps (s : State) (bs : List Octet) : Bool :=
  (headerOf bs).da / 16 == 0x0180C200000 || (s.on FWD_CFG_PTP_TRAP && (ptpAt bs).isSome)

/-- Is a frame a peer-delay message that a peer-to-peer transparent clock does not forward (R276)? (DEDUCED, log entry 42) -/
def State.pdelayStops (s : State) (bs : List Octet) : Bool :=
  s.get TSE_CFG_TC_MODE == 2 && match ptpAt bs with
    | some (o, _) => let t := octAt bs o % 16; t == 2 || t == 3 || t == 10
    | none => false

/-- The output set of R332. -/
def State.outputSet (s : State) (i : Nat) (h : Hdr) (vid : Nat) (act : Word) (stop : Bool) : Nat :=
  let v := s.vlanOf vid
  let redirect := act.getLsbD 23
  let out :=
    if redirect then 2 ^ getBits act 17 6
    else if isBroadcast h.da then v.member
    else match s.findMac h.da vid with
      | some (_, e) => e.ports
      | none => if isMulticast h.da then (if v.floodMc then v.member else 0) else if v.floodUc then v.member else 0
  let out := if redirect then out else out &&& v.member
  let out := if stop then 0 else putBit out i false
  if act.getLsbD 29 then putBit out 49 true else out

/-- Stages 2 to 6 of the pipeline (R326 to R335): the state, the frame with what was decided of it, and its output set
(DEDUCED, log entry 42). -/
def State.pipeline (f : Frame) (s : State) : State × Frame × Nat :=
  let i := f.inp
  let bs := f.bytes
  let h := headerOf bs
  let prio := if h.tagged then h.pcp else s.get (FWD_PORT_CFG_DEF_PRIO i)
  let vid := if h.vid = 0 then s.get (FWD_PORT_CFG_PVID i) else h.vid
  let v := s.vlanOf vid
  let cls := s.get (pcpField i prio)
  let f := { f with
    vid := vid, prio := prio, dei := h.dei, cls := cls, untag := v.untag }
  let acc := s.get (FWD_PORT_CFG_ACCEPT i)
  if h.vid = 4095 ∨ (acc = 1 ∧ h.vid = 0) ∨ (acc = 2 ∧ h.vid ≠ 0) ∨ (s.on (FWD_PORT_CFG_INGRESS_FILTER i) ∧ !v.member.testBit i) then
    (s.count (FWD_PORT_DROP_VLAN_DROP i), { f with dropped := true }, 0)
  else if s.traps bs then (s.count (FWD_PORT_DROP2_TRAPPED i), f, 2 ^ 49)
  else
    let hit := s.ruleFor (frameKey i bs vid prio)
    let act := match hit with | some (_, a) => a | none => 0
    let s := match hit with
      | some (n, _) => { s with fwd := { s.fwd with hits := smPut s.fwd.hits n (satInc 32 (smAt s.fwd.hits n)) } }
      | none => s
    let f := { f with marked := act.getLsbD 28 && !act.getLsbD 30 }
    if act.getLsbD 30 then (s.count (FWD_PORT_DROP_RULE_DROP i), { f with dropped := true }, 0)
    else
      let f := if act.getLsbD 27 then { f with cls := getBits act 24 3 } else f
      let s := s.when (!isMulticast h.sa && i != 49 && !act.getLsbD 16 && v.learn && s.on (FWD_PORT_CFG_LEARN_EN i) &&
        s.on FWD_CFG_LEARN_EN)
        (State.learn i h.sa vid)
      let out := s.outputSet i h vid act (s.pdelayStops bs)
      if out = 0 then (s.count (FWD_PORT_DROP2_NO_DEST i), { f with dropped := true }, 0) else (s, f, out)

/-! ### Ageing and table access -/

/-- A sweep of the MAC table (R335): an entry of age 0 goes, any other dynamic entry's age falls by one. -/
def State.ageSweep (s : State) : State :=
  if s.get FWD_CFG_AGE_TIME = 0 ∨ s.gateIn 16 then s
  else
    let step (x : Nat × Option MacEntry) : Option (Nat × Option MacEntry) :=
      match x.2 with
      | some e => if e.isStatic then some x else if e.age = 0 then none else some (x.1, some { e with age := e.age - 1 })
      | none => none
    { s with fwd := { s.fwd with mac := s.fwd.mac.filterMap step } }

/-- The data registers of a table operation, and their new words. -/
def State.tblData (s : State) (n : Nat) : List Word := (List.range n).map fun k => s.rd (FWD_TBL_DATA k)
def State.setTblData (ws : List Word) (s : State) : State :=
  (ws.zip (List.range ws.length)).foldl (fun t x => t.wr (FWD_TBL_DATA x.2) x.1) s

/-- A table operation's outcome: 0 OK, 1 NOT_FOUND, 2 FULL, 3 INVALID. -/
def State.tblStatus (k : Nat) (s : State) : State := s.set FWD_TBL_CMD_STATUS k

/-- The words a table keeps of an entry: reserved bits read 0 (R8). -/
def vlanKept (ws : List Word) : List Word :=
  match ws with
  | [w1, w2, w3, w4] => [w1, w2 &&& 0xF003FFFF#32, w3, w4 &&& 0x0003FFFF#32]
  | _ => [0, 0, 0, 0]

/-- READ of a table (R337). -/
def State.tblRead (table ix : Nat) (s : State) : State :=
  if table = 0 then
    if 1 ≤ ix ∧ ix ≤ 4094 then (s.setTblData (if (s.vlanWords ix).isEmpty then [0, 0, 0, 0] else s.vlanWords ix)).tblStatus 0
    else s.tblStatus 3
  else if table = 1 then (s.setTblData (macWords (s.macAt ix))).tblStatus 0
  else if ix ≤ 2047 then
    let ws := if (s.ruleWords ix).isEmpty then List.replicate 13 0 else s.ruleWords ix
    (s.setTblData (ws ++ [BitVec.ofNat 32 (smAt s.fwd.hits ix)])).tblStatus 0
  else s.tblStatus 3

/-- WRITE of an entry (R331, R337). -/
def State.tblWrite (table ix : Nat) (s : State) : State :=
  if table = 0 ∧ 1 ≤ ix ∧ ix ≤ 4094 then (s.setVlan ix (vlanKept (s.tblData 4))).tblStatus 0
  else if table = 2 ∧ ix ≤ 2047 ∧ ruleValid (s.tblData 13) then (s.setRule ix (s.tblData 13)).tblStatus 0
  else s.tblStatus 3

/-- The entry the data registers spell. -/
def State.tblMac (s : State) : MacEntry × Bool :=
  macOfWords (s.rd (FWD_TBL_DATA 0)) (s.rd (FWD_TBL_DATA 1)) (s.rd (FWD_TBL_DATA 2)) (s.rd (FWD_TBL_DATA 3))

/-- A MAC entry is placed by its key: it replaces an entry with that key, else takes a free way; an entry with VALID = 0 leaves
none. The answer is 0 OK, 2 FULL, 3 INVALID (R337) (DEDUCED, log entry 41). -/
def State.placeMac (e : MacEntry) (valid : Bool) (s : State) : State × Nat :=
  if e.vid = 0 ∨ 4094 < e.vid then (s, 3)
  else match s.findMac e.mac e.vid, valid with
    | some (ix, _), true => (s.setMac ix (some e), 0)
    | some (ix, _), false => (s.setMac ix none, 0)
    | none, false => (s, 0)
    | none, true => match s.addMac e with
      | some t => (t, 0)
      | none => (s, 2)

/-- INSERT by key (R337). -/
def State.tblInsert (table : Nat) (s : State) : State :=
  if table ≠ 1 then s.tblStatus 3
  else
    let (t, k) := s.placeMac s.tblMac.1 s.tblMac.2
    t.tblStatus k

/-- DELETE of an entry (R337) (DEDUCED, log entry 41). -/
def State.tblDelete (table ix : Nat) (s : State) : State :=
  if table = 0 then (if 1 ≤ ix ∧ ix ≤ 4094 then (s.setVlan ix []).tblStatus 0 else s.tblStatus 3)
  else if table = 1 then
    match s.findMac s.tblMac.1.mac s.tblMac.1.vid with
    | some (k, _) => (s.setMac k none).tblStatus 0
    | none => s.tblStatus 1
  else if ix ≤ 2047 then (s.setRule ix []).tblStatus 0 else s.tblStatus 3

/-- LOOKUP of a key (R337). -/
def State.tblLookup (table : Nat) (s : State) : State :=
  if table ≠ 1 then s.tblStatus 3
  else match s.findMac s.tblMac.1.mac s.tblMac.1.vid with
    | some (k, e) => ((s.setTblData (macWords (some e))).set FWD_TBL_CMD_INDEX k).tblStatus 0
    | none => s.tblStatus 1

/-- FLUSH of dynamic entries (R337). -/
def State.tblFlush (table ix : Nat) (s : State) : State :=
  if table ≠ 1 then s.tblStatus 3
  else if ix.testBit 16 then (s.flushMac none).tblStatus 0
  else if ix % 64 < 50 then (s.flushMac (some (ix % 64))).tblStatus 0 else s.tblStatus 3

/-- The operation FWD_TBL_CMD names (R337) (DEDUCED, log entry 41). -/
def State.tblOp (s : State) : State :=
  let t := s.get FWD_TBL_CMD_TABLE
  let ix := s.get FWD_TBL_CMD_INDEX
  match s.get FWD_TBL_CMD_OP with
  | 0 => s.tblRead t ix
  | 1 => s.tblWrite t ix
  | 2 => s.tblInsert t
  | 3 => s.tblDelete t ix
  | 4 => s.tblLookup t
  | _ => s.tblFlush t ix

end Sys2Proof.Machine
end

