-- ==== Sys2Proof/Machine/PtpFrames.lean ====
section
/-! DEFINITION. PTP messages as octets (R273): one changed in place, and one of a session built with its headers. -/

namespace Sys2Proof.Machine

/-! ### A message changed in place -/

/-- Octets put in place of those at `k`. -/
def putOctets (bs : List Octet) (k : Nat) (xs : List Octet) : List Octet := bs.take k ++ xs ++ bs.drop (k + xs.length)

/-- Sum of the 16-bit words from place `k`. -/
def wordSum (bs : List Octet) : Nat → Nat → Nat
  | 0, _ => 0
  | n + 1, k => numAt bs k 2 + wordSum bs n (k + 2)

/-- The checksum of a PTP message over UDP after it was changed (R273): 0 over IPv4, the two octets behind the message over
IPv6. -/
def fixChecksum (old new : List Octet) (ptp tr : Nat) : List Octet :=
  if tr = 1 then putOctets new (ptp - 2) [0, 0]
  else if tr = 2 then
    let len := numAt old (ptp + 2) 2
    let n := len / 2
    let pad := numAt old (ptp + len) 2
    putOctets new (ptp + len) (octetsBE 2 ((pad + wordSum old n ptp + 65535 * (n + 1) - wordSum new n ptp) % 65535))
  else new

/-- correctionField of the PTP message at `o`, raised by `x` (R276). -/
def addCorrection (bs : List Octet) (o : Nat) (x : Int) : List Octet :=
  putOctets bs (o + 8) (octetsBE 8 (wrapTo 64 (signedOf 64 (numAt bs (o + 8) 8) + x)))

/-- A one-step message takes its transmit stamp (R273): seconds and whole ns in originTimestamp, the rest in correctionField. -/
def oneStep (bs : List Octet) (o tr : Nat) (t : Int) : List Octet :=
  fixChecksum bs (addCorrection (putOctets bs (o + 34) (octetsBE 6 (stampSec t) ++ octetsBE 4 (stampNs t))) o (stampSub t)) o tr

/-! ### A message of a session -/

/-- The one's complement sum of octets, folded, as a checksum. -/
def checksum (bs : List Octet) : Nat := 65535 - wordSum bs (bs.length / 2) 0 % 65535

/-- A PTP message: the header of IEEE 1588 and its body (PRESUMED, log entry 34). -/
def ptpMessage (type dn seq flags : Nat) (corr : Int) (src ctl log : Nat) (body : List Octet) : List Octet :=
  octetsBE 1 type ++ octetsBE 1 0x12 ++ octetsBE 2 (34 + body.length) ++ octetsBE 1 dn ++ octetsBE 1 0 ++ octetsBE 2 flags ++
    octetsBE 8 (wrapTo 64 corr) ++ octetsBE 4 0 ++ octetsBE 10 src ++ octetsBE 2 seq ++ octetsBE 1 ctl ++ octetsBE 1 log ++ body

/-- sourcePortIdentity of a session: the clockIdentity and the number of the session, from 1 (PRESUMED, log entry 34). -/
def sessIdentity (k : Nat) : Nat := Config.clockIdentity.toNat * 65536 + (k + 1)

/-- The Ethernet destination of a session's messages: the one the commands set, else that of Annex E (PRESUMED, log entry 34). -/
def State.sessDa (s : State) (k type : Nat) : Nat :=
  match (s.sess k).l2 with
  | [lo, hi] => lo.toNat + hi.toNat % 65536 * 2 ^ 32
  | _ => if type = 2 ∨ type = 3 ∨ type = 0xA then 0x0180C200000E else 0x011B19000000

/-- Words `j` to `j` + 3 of a session's IP addresses: the destination from 0, the source from 4 (R449). -/
def State.sessAddr (s : State) (k j n : Nat) : List Octet := (List.range n).flatMap fun i => octetsBE 4 ((s.sess k).ip.getD (j + i) 0).toNat

/-- An IPv4 header (PRESUMED, log entry 34). -/
def ipv4Header (dscp ttl len : Nat) (addrs : List Octet) : List Octet :=
  let h (c : Nat) : List Octet := octetsBE 1 0x45 ++ octetsBE 1 (dscp * 4) ++ octetsBE 2 (20 + len) ++ octetsBE 4 0 ++
    octetsBE 1 ttl ++
    octetsBE 1 17 ++ octetsBE 2 c ++ addrs
  h (checksum (h 0))

/-- A PTP message of a session with its headers, from the destination address on, the FCS left off; over UDP/IPv4 the UDP checksum
is 0, over UDP/IPv6 two octets follow the message (R273) (PRESUMED, log entry 34). -/
def State.sessFrame (s : State) (k type : Nat) (msg : List Octet) : List Octet :=
  let head := octetsBE 6 (s.sessDa k type) ++ octetsBE 6 (s.getWide (PRT_MACADDR_LO (s.get (SESS_CFG_PORT k))) (PRT_MACADDR_HI (s.get (SESS_CFG_PORT k))) 16)
  let port := if type < 4 then 319 else 320
  let opt := ((s.sess k).ip.getD 8 0).toNat
  let ports := octetsBE 2 port ++ octetsBE 2 port
  let bs := match s.get (SESS_CFG_TRANSPORT k) with
    | 0 => head ++ octetsBE 2 0x88F7 ++ msg
    | 1 =>
      let addrs := s.sessAddr k 4 1 ++ s.sessAddr k 0 1
      head ++ octetsBE 2 0x0800 ++ ipv4Header (opt % 64) (opt / 256 % 256) (8 + msg.length) addrs ++ ports ++
        octetsBE 2 (8 + msg.length) ++
        octetsBE 2 0 ++ msg
    | _ =>
      let addrs := s.sessAddr k 4 4 ++ s.sessAddr k 0 4
      let len := 10 + msg.length
      let sum := checksum (addrs ++ octetsBE 4 len ++ octetsBE 4 17 ++ ports ++ octetsBE 2 len ++ octetsBE 2 0 ++ msg ++
        octetsBE 2 0)
      head ++ octetsBE 2 0x86DD ++ octetsBE 4 (6 * 2 ^ 28 + opt % 64 * 2 ^ 22) ++ octetsBE 2 len ++ octetsBE 1 17 ++
        octetsBE 1 (opt / 256 % 256) ++ addrs ++ ports ++ octetsBE 2 len ++ octetsBE 2 sum ++ msg ++ octetsBE 2 0
  bs ++ List.replicate (60 - bs.length) 0

/-- Is the destination of a session a group address? -/
def State.sessGroup (s : State) (k type : Nat) : Bool :=
  match s.get (SESS_CFG_TRANSPORT k) with
  | 0 => (s.sessDa k type).testBit 40
  | 1 => ((s.sess k).ip.getD 0 0xE0000000).toNat / 2 ^ 28 == 0xE
  | _ => ((s.sess k).ip.getD 0 0xFF000000).toNat / 2 ^ 24 == 0xFF

/-- A frame of a session leaves its port with its FCS (R273, R322). -/
def State.sessEmit (k type : Nat) (kind : OutKind) (nums : List Int) (msg : List Octet) (s : State) : State :=
  let p := s.get (SESS_CFG_PORT k)
  let bs := s.sessFrame k type msg
  if s.macOpen p then (s.emit kind k nums (bs ++ octetsLE 4 (crc32 bs))).countTx p (bs.length + 4) (numAt bs 0 6) else s

end Sys2Proof.Machine
end

