-- ==== Sys2Proof/Machine/Ptp.lean ====
section
/-! DEFINITION. The commands of the 1588 engine (chapter 12): calibration, sessions, event messages, the stamp queue and ESMC. -/

namespace Sys2Proof.Machine

/-! ### Calibration -/

/-- The weight of a calibration result in the filter of R269, of time constant 0.5 s at one result in 4.096 ms: between the
weights T / (τ + T) and T / τ of its two plain discrete forms (DESIGN CHOICE, log entry 93). -/
def calWeight : Rat :=
  let lo : Rat := 4096 / 504096
  let hi : Rat := 4096 / 500000
  lo + (hi - lo) * (Config.calForm % 1025 : Nat) / 1024

/-- A path of a port has been measured: 256 conversions, in units of 2^-16 ns (R269) (DEDUCED, log entry 33). -/
def State.calPath (p : Nat) (tx : Bool) (samples : List Nat) (s : State) : State :=
  if !s.tseOn ∨ samples.length ≠ 256 then s
  else
    let x : Rat := (samples.sum : Nat) / (256 : Rat)
    let old := s.calLatency p tx
    let new := fine (old + calWeight * (x - old))
    let s := { s with tse := { s.tse with lat := smPut s.tse.lat (pathKey p tx) (some new) } }
    s.set (if tx then TSE_PORT_LAT_TX_LAT p else TSE_PORT_LAT_RX_LAT p) (wrapTo 32 (roundAway new))

/-- CAL_OK is set at the end of the first 16 calibration cycles (R269, R281). -/
def State.calReady (p : Nat) (s : State) : State :=
  if !s.tseOn ∨ s.on (TSE_PORT_STATUS_CAL_OK p) ∨ !s.lockSeen p then s
  else (s.set (TSE_PORT_STATUS_CAL_OK p) 1).sessionsEval p

/-! ### Session registers -/

/-- The fields a session takes only while it is off (R277). -/
def sessGuarded (k : Nat) : List FieldRef :=
  [SESS_CFG_DOMAIN_NUM k, SESS_CFG_TRANSPORT k, SESS_CFG_DELAY k, SESS_CFG_TWO_STEP k, SESS_CFG_DOM k]

/-- Has another enabled session the same port, domainNumber and transport (R277)? (DEDUCED, log entry 35) -/
def State.sessTwin (s : State) (k : Nat) : Bool :=
  (List.range 192).any fun j => j != k && s.on (SESS_CFG_ENABLE j) && s.get (SESS_CFG_PORT j) == s.get (SESS_CFG_PORT k) &&
    s.get (SESS_CFG_DOMAIN_NUM j) == s.get (SESS_CFG_DOMAIN_NUM k) && s.get (SESS_CFG_TRANSPORT j) == s.get (SESS_CFG_TRANSPORT k)

/-- A session that begins anew: no mpd, nothing pending. -/
def State.sessClear (k : Nat) (s : State) : State :=
  let x := s.sess k
  (s.setSess k { x with
    pend := none, sync := none, reqs := [], presp := none, mpds := [], seen := false, exch := false, since := s.cyc }).showMpd k

/-- A write of SESS_CFG (R277, R280): enabling, disabling, or a rebind (DEDUCED, log entry 35). -/
def State.sessCfgWrite (m : Master) (k : Nat) (v : Word) (r : RegRow) (s : State) : State :=
  let a := SESS_CFG k
  let was := s.on (SESS_CFG_ENABLE k)
  let en := v.getLsbD 0
  let locked := was && en && (sessGuarded k).any fun f => changes s f v
  let s := s.when locked (State.refuseWrite m a)
  let v := if locked then keepFields s (sessGuarded k) v else v
  let bad := (writeFields r.fields (s.rd a) v).2
  let s := s.plainWrite m a (keepField s (SESS_CFG_ENABLE k) v) r
  if !was && en then
    if bad || s.laneOfFat (s.get (SESS_CFG_PORT k)) || s.sessTwin k then (s.raise (SESS_STATUS_CFG_ERR k)).refuseWrite m a
    else
      let s := ((s.set (SESS_CFG_ENABLE k) 1).wr (SESS_COUNT k) 0).sessClear k
      s.setSessState k (if s.get (SESS_CFG_ROLE k) = 0 then 2 else 1)
  else if was && !en then ((s.set (SESS_CFG_ENABLE k) 0).sessClear k).setSessState k 0
  else if was then (s.sessClear k).setSessState k (if s.get (SESS_CFG_ROLE k) = 0 then 2 else 1)
  else s

/-- A write of TSE_ESMC_CFG: OWN_RANK must name a QL of OPTION (DEDUCED, log entry 37). -/
def State.esmcCfgWrite (m : Master) (v : Word) (r : RegRow) (s : State) : State :=
  let bad := (qlCode (v.getLsbD 0) (fieldOf TSE_ESMC_CFG_OWN_RANK v)).isNone
  (s.plainWrite m TSE_ESMC_CFG (if bad then keepField s TSE_ESMC_CFG_OWN_RANK v else v) r).when bad (State.badRange m TSE_ESMC_CFG)

/-! ### Event messages -/

/-- The body of a PTP message (PRESUMED, log entry 34). -/
def ptpBody (type : Nat) (ts : Int) (req : Nat) : List Octet :=
  octetsBE 6 (stampSec ts) ++ octetsBE 4 (stampNs ts) ++
    (if type = 3 ∨ type = 9 ∨ type = 0xA then octetsBE 10 req else if type = 2 then octetsBE 10 0 else [])

/-- A PTP message leaves through session `k`: messageType, sequenceId, twoStepFlag, timestamp and correctionField in units of
2^-16 ns, requestingPortIdentity (R273) (PRESUMED, log entry 34). -/
def State.ptpSend (k type seq : Nat) (two : Bool) (ts corr : Int) (req : Nat) (s : State) : State :=
  let flags := (if two then 0x200 else 0) + if s.sessGroup k type then 0 else 0x400
  let ctl := if type = 8 then 2 else if type = 9 then 3 else if type < 2 then type else 5
  let log := if type = 0 ∨ type = 8 then s.get (SESS_INTV_LOG_SYNC k) else if type = 9 then s.get (SESS_INTV_LOG_DELAY k) else 0x7F
  s.sessEmit k type .ptp [type, seq, if two then 1 else 0, ts, corr, req]
    (ptpMessage type (s.get (SESS_CFG_DOMAIN_NUM k)) seq flags corr (sessIdentity k) ctl log (ptpBody type ts req))

/-- A stamp as a message carries it: whole ns in the timestamp, the rest in the correctionField (R273). -/
def wholeNs (t : Int) : Int := t - t % 65536
def subNs (t : Int) : Int := t % 65536

/-- May a session send event messages: engine on, port ready and stamped? -/
def State.sessSends (s : State) (k : Nat) : Bool :=
  let p := s.get (SESS_CFG_PORT k)
  s.get (SESS_STATUS_STATE k) != 0 && s.tseOn && s.portReady p && s.on (TSE_PORT_CFG_TS_EN p)

/-- The stamp, in the session's domain, of a message it sends now. -/
def State.sessTx (s : State) (k : Nat) : Int := s.txStamp (s.get (SESS_CFG_PORT k)) (s.get (SESS_CFG_DOM k))

/-- A MASTER session sends Sync, and Follow_Up when two-step (R273, R278). -/
def State.sendSync (k : Nat) (s : State) : State :=
  if !s.sessSends k ∨ s.get (SESS_STATUS_STATE k) ≠ 2 ∨ s.get (SESS_CFG_ROLE k) ≠ 0 then s
  else
    let t := s.sessTx k
    let x := s.sess k
    let s := s.setSess k { x with syncSeq := (x.syncSeq + 1) % 65536 }
    if s.on (SESS_CFG_TWO_STEP k) then
      (s.ptpSend k 0 x.syncSeq true 0 0 0).ptpSend k 8 x.syncSeq false (wholeNs t) (subNs t) 0
    else s.ptpSend k 0 x.syncSeq false (wholeNs t) (subNs t) 0

/-- Delay_Req of a SLAVE, or Pdelay_Req of any role (R278). -/
def State.sendReq (k : Nat) (s : State) : State :=
  let delay := s.get (SESS_CFG_DELAY k)
  if !s.sessSends k ∨ !(delay == 1 || (delay == 0 && s.get (SESS_CFG_ROLE k) == 1)) then s
  else
    let t := s.sessTx k
    let x := s.sess k
    let s := s.setSess k { x with reqSeq := (x.reqSeq + 1) % 65536, reqs := x.reqs ++ [(x.reqSeq, t)] }
    s.ptpSend k (if delay = 1 then 2 else 1) x.reqSeq false 0 0 0

/-- Is a message from the parent: the peer the session commands named, else the one the BMCA chose; with neither, every master is
accepted (R278, R283, R449) (PRESUMED, log entry 34). -/
def State.fromPeer (s : State) (k : Nat) (msg : PtpMsg) : Bool :=
  let x := s.sess k
  if x.peer ≠ 0 then x.peer == msg.src else x.parent == 0 || x.parent == msg.src

/-- The stamp of a received event message; none when the session treats it as not received (R267). -/
def State.heardAt (s : State) (k : Nat) (msg : PtpMsg) : Option Int :=
  if s.sessHears k then s.rxStamp (s.get (SESS_CFG_PORT k)) (s.get (SESS_CFG_DOM k)) msg.rx else none

/-- A Sync or its Follow_Up reaches a SLAVE (R279 to R281). -/
def State.hearSync (k : Nat) (msg : PtpMsg) (s : State) : State :=
  let x := s.sess k
  if s.get (SESS_STATUS_STATE k) = 0 ∨ s.get (SESS_CFG_ROLE k) ≠ 1 ∨ !s.tseOn ∨ !s.fromPeer k msg then s
  else if msg.followUp then
    match x.pend with
    | some (seq, corr, t2) => if seq = msg.seq then s.sessSync k (msg.ts + msg.corr + corr) t2 else s.sessDiscard k
    | none => s.sessDiscard k
  else match s.heardAt k msg with
    | none => s
    | some t2 =>
      let s := s.when x.pend.isSome (State.sessDiscard k)
      if msg.twoStep then s.setSess k { s.sess k with pend := some (msg.seq, msg.corr, t2) }
      else s.sessSync k (msg.ts + msg.corr) t2

/-- A Delay_Req reaches a MASTER (R278). -/
def State.hearDelayReq (k : Nat) (msg : PtpMsg) (s : State) : State :=
  if s.get (SESS_STATUS_STATE k) ≠ 2 ∨ s.get (SESS_CFG_ROLE k) ≠ 0 ∨ !s.sessSends k then s
  else match s.heardAt k msg with
    | none => s
    | some t => s.ptpSend k 9 msg.seq false (wholeNs t) (msg.corr - subNs t) msg.src

/-- A Delay_Resp reaches a SLAVE (R279) (PRESUMED, log entry 34). -/
def State.hearDelayResp (k : Nat) (msg : PtpMsg) (s : State) : State :=
  let x := s.sess k
  if s.get (SESS_STATUS_STATE k) = 0 ∨ s.get (SESS_CFG_ROLE k) ≠ 1 ∨ s.get (SESS_CFG_DELAY k) ≠ 0 ∨ !s.tseOn then s
  else match x.reqs.find? fun q => q.1 == msg.seq with
    | none => s
    | some q =>
      let s := s.setSess k { x with reqs := x.reqs.erase q }
      match x.sync with
      | none => s.sessDiscard k
      | some (t1, t2) => s.sessExchange k (((t2 - t1 + (msg.ts - msg.corr - q.2) : Int) : Rat) / 2)

/-- A Pdelay_Req is answered (R278) (PRESUMED, log entry 34). -/
def State.hearPdelayReq (k : Nat) (msg : PtpMsg) (s : State) : State :=
  if s.get (SESS_CFG_DELAY k) ≠ 1 ∨ !s.sessSends k then s
  else match s.heardAt k msg with
    | none => s
    | some t2 =>
      let t3 := s.sessTx k
      (s.ptpSend k 3 msg.seq true (wholeNs t2) (-(subNs t2)) msg.src).ptpSend k 10 msg.seq false (wholeNs t3) (msg.corr + subNs t3)
        msg.src

/-- A Pdelay_Resp or its follow-up completes an exchange (R279) (PRESUMED, log entry 34). -/
def State.hearPdelayResp (k : Nat) (msg : PtpMsg) (s : State) : State :=
  let x := s.sess k
  if s.get (SESS_STATUS_STATE k) = 0 ∨ s.get (SESS_CFG_DELAY k) ≠ 1 ∨ !s.tseOn then s
  else match x.reqs.find? fun q => q.1 == msg.seq with
    | none => s
    | some q =>
      if msg.followUp then
        match x.presp with
        | some (seq, t2, t4) =>
          if seq = msg.seq then
            let s := s.setSess k { x with presp := none, reqs := x.reqs.erase q }
            s.sessExchange k (((t4 - q.2 - (msg.ts + msg.corr - t2) : Int) : Rat) / 2)
          else s
        | none => s
      else match s.heardAt k msg with
        | none => s
        | some t4 =>
          if msg.twoStep then s.setSess k { x with presp := some (msg.seq, msg.ts - msg.corr, t4) }
          else (s.setSess k { x with reqs := x.reqs.erase q }).sessExchange k (((t4 - q.2 - msg.corr : Int) : Rat) / 2)

/-- A response has not arrived in time (R279). -/
def State.respLate (k : Nat) (s : State) : State :=
  match (s.sess k).reqs with
  | [] => s
  | q :: qs =>
    let x := s.sess k
    let presp := match x.presp with | some p => if p.1 = q.1 then none else some p | none => none
    (s.setSess k { x with reqs := qs, presp := presp }).sessDiscard k

/-- No Sync, or no completed exchange, for SYNC_TIMEOUT intervals (R280) (DEDUCED, log entry 35). -/
def State.sessLate (k : Nat) (s : State) : State :=
  if s.get (SESS_STATUS_STATE k) ≠ 2 ∨ s.get (SESS_CFG_ROLE k) = 0 then s
  else ((s.raise (SESS_STATUS_TIMEOUT_EVT k)).count (SESS_COUNT_TIMEOUTS k)).setSessState k 3

/-! ### The stamp queue -/

/-- A read of TSE_TXTS_0 (R275): the head entry, its other words into the master's shadow. -/
def State.txtsRead (m : Master) (s : State) : State × Word :=
  match s.tse.queue with
  | [] => (s, 0)
  | e :: q =>
    let w := packWord [(1, 31), (e.port, 16), (e.domainNum, 8), (e.msgType, 4), (e.dom, 0)]
    let sec := stampSec e.stamp
    let s := { s with tse := { s.tse with queue := q } }.set TSE_TXTS_STATUS_LEVEL q.length
    (s.setShadow m TSE_TXTS_0 [packWord [(e.seqId, 16), (stampSub e.stamp, 0)], BitVec.ofNat 32 (stampNs e.stamp),
      BitVec.ofNat 32 sec, BitVec.ofNat 32 (sec / 2 ^ 32 % 2 ^ 16)], w)

/-! ### ESMC -/

/-- An ESMC PDU is received (R284) (DEDUCED, log entry 37). -/
def State.esmcHear (p ssm : Nat) (essm : Option Nat) (s : State) : State :=
  if !(s.getWide TSE_ESMC_RX_LO TSE_ESMC_RX_HI 16).testBit p ∨ s.get (PRT_STATUS_STATE p) ≠ 3 ∨ !s.fwRuns then s
  else (s.set (TSE_PORT_STATUS_ESMC_TIMEOUT p) 0).setQl p (qlRank (s.on TSE_ESMC_CFG_OPTION) (s.on TSE_ESMC_CFG_ENHANCED) ssm essm)

/-- No PDU for 5 s (R284) (DEDUCED, log entry 37). -/
def State.esmcLate (p : Nat) (s : State) : State :=
  if (s.getWide TSE_ESMC_RX_LO TSE_ESMC_RX_HI 16).testBit p && s.fwRuns then (s.set (TSE_PORT_STATUS_ESMC_TIMEOUT p) 1).setQl p 0
  else s

/-- The information PDUs of a second (R285). -/
def State.esmcInfo (s : State) : State := s.each s.esmcPorts (State.esmcSend 0)

/-- The event PDUs after a change in the QL sent (R285). -/
def State.esmcEvent (s : State) : State :=
  s.each (s.esmcPorts.filter fun p => smAt s.tse.sentRank p != s.sentQl p) (State.esmcSend 1)

/-! ### Commands -/

/-- LANE_CALIBRATION_PATH (R269). -/
def execLaneCalibrationPath (p : Nat) (tx : Bool) (samples : List Nat) (s : State) : Host.Outcome State Fault Refusal :=
  .next (s.when (decide (p < 48)) (State.calPath p tx samples))

/-- CAL_OK_SET (R269). -/
def execCalOkSet (p : Nat) (s : State) : Host.Outcome State Fault Refusal := .next (s.when (decide (p < 48)) (State.calReady p))

/-- SESSION_ENABLE_WRITE (R280). -/
def execSessionEnableWrite (m : Master) (k : Nat) (v : Word) (s : State) : Host.Outcome State Fault Refusal :=
  .next (s.when (decide (k < 192)) (State.access m (SESS_CFG k) (State.sessCfgWrite m k v)))

/-- REBIND (R280). -/
def execRebind (m : Master) (k : Nat) (v : Word) (s : State) : Host.Outcome State Fault Refusal :=
  .next (s.when (decide (k < 192)) (State.access m (SESS_CFG k) (State.sessCfgWrite m k v)))

/-- SYNC_TRANSMIT (R278). -/
def execSyncTransmit (k : Nat) (s : State) : Host.Outcome State Fault Refusal :=
  .next (s.when (decide (k < 192)) (State.sendSync k))

/-- DELAY_REQ_TRANSMIT (R278). -/
def execDelayReqTransmit (k : Nat) (s : State) : Host.Outcome State Fault Refusal :=
  .next (s.when (decide (k < 192)) (State.sendReq k))

/-- SYNC_RECEIVE (R279). -/
def execSyncReceive (k : Nat) (msg : PtpMsg) (s : State) : Host.Outcome State Fault Refusal :=
  .next (s.when (decide (k < 192)) (State.hearSync k msg))

/-- DELAY_REQ_RECEIVE (R278). -/
def execDelayReqReceive (k : Nat) (msg : PtpMsg) (s : State) : Host.Outcome State Fault Refusal :=
  .next (s.when (decide (k < 192)) (State.hearDelayReq k msg))

/-- DELAY_RESP_RECEIVE (R279). -/
def execDelayRespReceive (k : Nat) (msg : PtpMsg) (s : State) : Host.Outcome State Fault Refusal :=
  .next (s.when (decide (k < 192)) (State.hearDelayResp k msg))

/-- PDELAY_REQ_RECEIVE (R278). -/
def execPdelayReqReceive (k : Nat) (msg : PtpMsg) (s : State) : Host.Outcome State Fault Refusal :=
  .next (s.when (decide (k < 192)) (State.hearPdelayReq k msg))

/-- PDELAY_RESP_RECEIVE (R279). -/
def execPdelayRespReceive (k : Nat) (msg : PtpMsg) (s : State) : Host.Outcome State Fault Refusal :=
  .next (s.when (decide (k < 192)) (State.hearPdelayResp k msg))

/-- DELAY_RESP_TIMEOUT (R279). -/
def execDelayRespTimeout (k : Nat) (s : State) : Host.Outcome State Fault Refusal :=
  .next (s.when (decide (k < 192)) (State.respLate k))

/-- SYNC_TIMEOUT (R280). -/
def execSyncTimeout (k : Nat) (s : State) : Host.Outcome State Fault Refusal := .next (s.when (decide (k < 192)) (State.sessLate k))

/-- TXTS_POP (R275). -/
def execTxtsPop (m : Master) (s : State) : Host.Outcome State Fault Refusal :=
  .next (s.readAccess m TSE_TXTS_0 fun _ => State.txtsRead m)

/-- ESMC_PDU_RECEIVE (R284). -/
def execEsmcPduReceive (p ssm : Nat) (essm : Option Nat) (s : State) : Host.Outcome State Fault Refusal :=
  .next (s.when (decide (p < 48)) (State.esmcHear p ssm essm))

/-- ESMC_TIMEOUT (R284). -/
def execEsmcTimeout (p : Nat) (s : State) : Host.Outcome State Fault Refusal := .next (s.when (decide (p < 48)) (State.esmcLate p))

/-- ESMC_INFO_TRANSMIT (R285). -/
def execEsmcInfoTransmit (s : State) : Host.Outcome State Fault Refusal := .next s.esmcInfo

/-- ESMC_EVENT_TRANSMIT (R285). -/
def execEsmcEventTransmit (s : State) : Host.Outcome State Fault Refusal := .next s.esmcEvent

end Sys2Proof.Machine
end

