-- ==== Sys2Proof/Machine/Bmca.lean ====
section
/-! DEFINITION. What coachman A does for the PTP instances (R283, R34): Announce messages, the best master clock algorithms, and
the unicast negotiation of G.8275.2. -/

namespace Sys2Proof.Machine

/-! ### Data sets -/

/-- The instance of a domainNumber (R450). -/
def State.instOf (s : State) (dn : Nat) : Option PtpInst := smAt s.tse.insts dn

def PtpInst.profile (x : PtpInst) : Nat := getBits (x.words.getD 0 0) 8 3
/-- Does it use the alternate BMCA (R283)? -/
def PtpInst.alternate (x : PtpInst) : Bool := x.profile == 2 || x.profile == 3
def PtpInst.localPriority (x : PtpInst) : Nat := getBits (x.words.getD 1 0) 16 8
def PtpInst.slaveOnly (x : PtpInst) : Bool := (x.words.getD 1 0).getLsbD 24

/-- The Announce interval of a profile in time-base cycles: 2 s, 1/8 s for G.8275.1, 1 s for G.8275.2 (PRESUMED, log entry 36). -/
def PtpInst.interval (x : PtpInst) : Nat := if x.profile = 2 then 39062500 else if x.profile = 3 then 312500000 else 625000000

/-- The device's own data set: clockClass 248, 255 as a slave only, with accuracy and variance unknown (PRESUMED, log entry 36). -/
def PtpInst.own (x : PtpInst) : Foreign :=
  { src := Config.clockIdentity.toNat * 65536, gm := Config.clockIdentity.toNat
    quality := (if x.slaveOnly then 255 else 248) * 2 ^ 24 + 0xFEFFFF, prio1 := getBits (x.words.getD 1 0) 0 8
    prio2 := getBits (x.words.getD 1 0) 8 8, steps := 0, seen := [] }

/-- What a data set is compared by, the smaller the better: the default algorithm of IEEE 1588, or the alternate one of G.8275 with
its localPriority (R283) (PRESUMED, log entry 36). -/
def Foreign.key (f : Foreign) (alternate : Bool) (localPriority : Nat) : List Nat :=
  let q := [f.quality / 2 ^ 24, f.quality / 2 ^ 16 % 256, f.quality % 65536, f.prio2]
  let q := if alternate then q ++ [localPriority] else f.prio1 :: q
  (if alternate ∧ f.quality / 2 ^ 24 ≤ 127 then q else q ++ [f.gm]) ++ [f.steps, f.src]

/-- Is a list of numbers before another, the first difference deciding? -/
def listBefore : List Nat → List Nat → Bool
  | a :: as, b :: bs => decide (a < b) || (a == b && listBefore as bs)
  | _, _ => false

/-- Is a data set better than another? A port has the localPriority 128, the clock that of its instance (PRESUMED, log entry 36). -/
def PtpInst.better (x : PtpInst) (f g : Foreign) : Bool :=
  let p (h : Foreign) : Nat := if h.src = x.own.src then x.localPriority else 128
  listBefore (f.key x.alternate (p f)) (g.key x.alternate (p g))

/-! ### Masters heard -/

/-- Does a master count: two Announce messages within four intervals, the last within three (PRESUMED, log entry 36)? -/
def State.qualifies (s : State) (x : PtpInst) (f : Foreign) : Bool :=
  match f.seen with
  | a :: b :: _ => decide (s.cyc ≤ a + 3 * x.interval ∧ s.cyc ≤ b + 4 * x.interval ∧ f.steps < 255 ∧ f.gm ≠ Config.clockIdentity.toNat)
  | _ => false

/-- The best of data sets. -/
def PtpInst.best (x : PtpInst) : List Foreign → Option Foreign
  | [] => none
  | f :: fs => match x.best fs with
    | some g => some (if x.better f g then f else g)
    | none => some f

/-- The best master a session has heard. -/
def State.portBest (s : State) (x : PtpInst) (k : Nat) : Option Foreign := x.best ((s.sess k).foreign.filter (s.qualifies x))

/-- The sessions of an instance (R450). -/
def State.instSessions (s : State) (dn : Nat) : List Nat :=
  (List.range 192).filter fun k => s.get (SESS_STATUS_STATE k) != 0 && s.get (SESS_CFG_DOMAIN_NUM k) == dn

/-- An Announce message has reached coachman A for a session. -/
def State.announceHear (k : Nat) (bs : List Octet) (o : Nat) (s : State) : State :=
  let x := s.sess k
  let src := numAt bs (o + 20) 10
  let old := match x.foreign.find? fun f => f.src == src with | some f => f.seen | none => []
  let f : Foreign := {
    src := src, gm := numAt bs (o + 53) 8, quality := numAt bs (o + 48) 4, prio1 := octAt bs (o + 47), prio2 := octAt bs (o + 52),
    steps := numAt bs (o + 61) 2, seen := (s.cyc :: old).take 2 }
  s.setSess k { x with foreign := (f :: x.foreign.filter fun g => g.src != src).take 5 }

/-! ### The decision -/

/-- ROLE of a session by the state decision of the BMCA: 0 MASTER, 1 SLAVE, 2 PASSIVE; none while it still listens (R283)
(PRESUMED, log entry 36). -/
def State.bmcaRole (s : State) (x : PtpInst) (dn k : Nat) : Option Nat :=
  let bests := (s.instSessions dn).filterMap fun j => (s.portBest x j).map fun f => (j, f)
  match x.best (bests.map (·.2)) with
  | none =>
    if x.slaveOnly then some 1
    else if s.get (SESS_CFG_ROLE k) = 0 ∨ (s.sess k).since + 3 * x.interval < s.cyc then some 0 else none
  | some e =>
    let mine := s.portBest x k
    if !x.slaveOnly && x.own.quality / 2 ^ 24 ≤ 127 then
      (match mine with | some f => some (if x.better x.own f then 0 else 2) | none => some 0)
    else if !x.slaveOnly && x.better x.own e then some 0
    else if (bests.find? fun b => b.2 == e).map (·.1) = some k then some 1
    else if x.slaveOnly then some 2
    else match mine with
      | some f => some (if f.gm = e.gm then 2 else 0)
      | none => some 0

/-- A session takes the role the BMCA gives it: a write of its ROLE by coachman A, a rebind when it changes (R280, R283). -/
def State.applyRole (x : PtpInst) (k role : Nat) (s : State) : State :=
  let parent := if role = 1 then (match s.portBest x k with | some f => f.src | none => 0) else 0
  let s := s.setSess k { s.sess k with parent := parent }
  if s.get (SESS_CFG_ROLE k) = role then s
  else s.access .coachA (SESS_CFG k) (State.sessCfgWrite .coachA k (putBits (s.rd (SESS_CFG k)) 2 2 role))

/-- Coachman A runs the BMCA of an instance (R283). -/
def State.bmcaRun (dn : Nat) (x : PtpInst) (s : State) : State :=
  let roles := (s.instSessions dn).filterMap fun k => (s.bmcaRole x dn k).map fun r => (k, r)
  roles.foldl (fun t (r : Nat × Nat) => t.applyRole x r.1 r.2) s

/-- The data set an instance announces: its parent's, one step further, or its own. -/
def State.announced (s : State) (dn : Nat) (x : PtpInst) : Foreign :=
  match (s.instSessions dn).find? fun k => s.get (SESS_CFG_ROLE k) == 1 with
  | some k => (match s.portBest x k with | some f => { f with steps := f.steps + 1 } | none => x.own)
  | none => x.own

/-- An Announce message leaves a session (PRESUMED, log entry 36). -/
def State.announceSend (k : Nat) (f : Foreign) (s : State) : State :=
  let x := s.sess k
  let body := octetsBE 10 0 ++ octetsBE 3 0 ++ octetsBE 1 f.prio1 ++ octetsBE 4 f.quality ++ octetsBE 1 f.prio2 ++
    octetsBE 8 f.gm ++
    octetsBE 2 f.steps ++ octetsBE 1 0xA0
  let dn := s.get (SESS_CFG_DOMAIN_NUM k)
  let s := s.setSess k { x with sigSeq := (x.sigSeq + 1) % 65536 }
  s.sessEmit k 0xB .announce [dn] (ptpMessage 0xB dn x.sigSeq (if s.sessGroup k 0xB then 0
    else 0x400) 0 (sessIdentity k) 5 0x7F body)

/-! ### Unicast negotiation -/

/-- A Signaling message with one TLV leaves a session (PRESUMED, log entry 36). -/
def State.signalSend (k target tlv : Nat) (value : List Octet) (s : State) : State :=
  let x := s.sess k
  let body := octetsBE 10 target ++ octetsBE 2 tlv ++ octetsBE 2 value.length ++ value
  let s := s.setSess k { x with sigSeq := (x.sigSeq + 1) % 65536 }
  s.sessEmit k 0xC .ptp [0xC, x.sigSeq, tlv] (ptpMessage 0xC (s.get (SESS_CFG_DOMAIN_NUM k)) x.sigSeq 0x400 0 (sessIdentity k) 5 0x7F body)

/-- A Signaling message has reached coachman A for a session: a REQUEST is granted as asked, a GRANT is kept, a CANCEL ends one and is
acknowledged (R265, R283) (PRESUMED, log entry 36). -/
def State.signalHear (k : Nat) (bs : List Octet) (o : Nat) (s : State) : State :=
  let src := numAt bs (o + 20) 10
  let type := octAt bs (o + 48) / 16
  let rest := (s.sess k).grants.filter fun g => g.1 != type
  match numAt bs (o + 44) 2 with
  | 4 => s.signalSend k src 5 (octetsBE 1 (type * 16) ++ octetsBE 1 (octAt bs (o + 49)) ++
    octetsBE 4 (numAt bs (o + 50) 4) ++ octetsBE 1 0 ++ octetsBE 1 1)
  | 5 => s.setSess k { s.sess k with grants := (type, s.cyc + numAt bs (o + 50) 4 * 312500000) :: rest }
  | 6 => (s.setSess k { s.sess k with grants := rest }).signalSend k src 7 (octetsBE 1 (type * 16) ++ octetsBE 1 0)
  | _ => s

/-- The messages a G.8275.2 slave asks its parent for: Announce, Sync, Delay_Resp, each where no grant stands (PRESUMED, log entry
36). -/
def State.signalAsk (k : Nat) (s : State) : State :=
  let log (type : Nat) : Nat := if type = 0 then s.get (SESS_INTV_LOG_SYNC k) else if type = 9
    then s.get (SESS_INTV_LOG_DELAY k) else 0
  let open_ (type : Nat) : Bool := !(s.sess k).grants.any fun g => g.1 == type && decide (s.cyc < g.2)
  s.each ([0xB, 0, 9].filter open_) fun type t =>
    t.signalSend k (2 ^ 80 - 1) 4 (octetsBE 1 (type * 16) ++ octetsBE 1 (log type) ++ octetsBE 4 300)

/-! ### Coachman A's port -/

/-- A PTP message has reached P49 from port `p` (R283). -/
def State.ptpToA (p : Nat) (bs : List Octet) (s : State) : State :=
  match ptpAt bs with
  | none => s
  | some (o, tr) =>
    let type := octAt bs o % 16
    let dn := octAt bs (o + 4)
    let hears (k : Nat) : Bool := s.get (SESS_CFG_PORT k) == p && s.get (SESS_CFG_TRANSPORT k) == tr && s.portReady p
    if !s.fwRuns ∨ !s.tseOn then s
    else match s.instOf dn with
      | none => s
      | some x =>
        let ks := (s.instSessions dn).filter hears
        if type = 0xB then s.each ks fun k t => t.announceHear k bs o
        else if type = 0xC ∧ x.profile = 3 then s.each ks fun k t => t.signalHear k bs o
        else s

/-- The Announce turn of an instance: coachman A runs its BMCA, sends an Announce message for each PTP port in MASTER, and asks for
the unicast messages that are not granted (R283) (PRESUMED, log entry 36). -/
def State.announce (dn : Nat) (s : State) : State :=
  match s.instOf dn with
  | none => s
  | some x =>
    if !s.fwRuns ∨ !s.tseOn then s
    else
      let s := s.bmcaRun dn x
      let f := s.announced dn x
      let up (k : Nat) : Bool := s.get (PRT_STATUS_STATE (s.get (SESS_CFG_PORT k))) == 3
      let ks := (s.instSessions dn).filter up
      let s := s.each (ks.filter fun k => s.get (SESS_CFG_ROLE k) == 0) fun k t => t.announceSend k f
      s.each (ks.filter fun k => x.profile == 3 && s.get (SESS_CFG_ROLE k) == 1) State.signalAsk

/-- ANNOUNCE_TRANSMIT (R283). -/
def execAnnounceTransmit (domain : Nat) (s : State) : Host.Outcome State Fault Refusal := .next (s.announce domain)

end Sys2Proof.Machine
end

