-- ==== Sys2Proof/Machine/MirOps.lean ====
section
/-! DEFINITION. The mirror's records, its ring and its sampling (chapter 18), and the delivery of a packet to host memory that
samples and frames for P48 share (R467). -/

namespace Sys2Proof.Machine

/-! ### The receive ring -/

/-- Do frames stand still: a block of the frame path is gated, or the device is in STAGING, or in LEAN or KEEP or below (R33, R80,
R469)? -/
def State.framesStopped (s : State) : Bool :=
  s.gateIn 16 || s.gateIn 17 || s.gateIn 18 || s.pwr.state != .run || s.get GLB_STATUS_MODE == 0

/-- Has P48 room: a receive descriptor is free (R467)? -/
def State.pktRoom (s : State) : Bool :=
  s.get (HIF_RING_LEN_LEN 0) != 0 && s.get (HIF_RING_HEAD_HEAD 0) != s.get (HIF_RING_TAIL_TAIL 0) && !s.framesStopped

/-- A stamp as a descriptor or a record holds it: SUBNS 2 octets, NS 4, SEC 6, little-endian; 0 where there is none. -/
def stampLE (t : Option Int) : List Octet :=
  match t with
  | some t => octetsLE 2 (stampSub t) ++ octetsLE 4 (stampNs t) ++ octetsLE 6 (stampSec t)
  | none => List.replicate 12 0

/-- Octets go to the buffer of receive descriptor HEAD, the descriptor is filled, HEAD advances (R467). -/
def State.pktDeliver (bytes : List Octet) (port flags : Nat) (a b : Option Int) (s : State) : State :=
  let h := s.get (HIF_RING_HEAD_HEAD 0)
  let bit (t : Option Int) (k : Nat) : Nat := if t.isSome then 2 ^ k else 0
  let d := octetsLE 2 bytes.length ++ octetsLE 1 port ++ octetsLE 1 (flags + 1 + bit a 1 + bit b 2) ++ stampLE a ++ stampLE b ++
    List.replicate 28 0
  let s := (s.emit .hostWrite 0 [h, 0] bytes).emit .hostWrite 0 [h, 1] d
  (s.set (HIF_RING_HEAD_HEAD 0) ((h + 1) % s.get (HIF_RING_LEN_LEN 0))).raise HIF_PKT_EVT_RX_DONE

/-! ### Records -/

/-- A candidate (R384, R386): direction (1 egress), bad, mail, class, port, stamp in domain A, causes, the octets from the
destination address, L. -/
structure MirRec where
  dir : Nat
  bad : Bool
  mail : Bool
  cls : Nat
  port : Nat
  stamp : Option Int
  reason : Nat
  bytes : List Octet
  len : Nat
  deriving DecidableEq, Repr, Inhabited

def State.slotSize (s : State) : Nat := if s.on MIR_CFG_SLOT then 256 else 128

/-- Header and capture of a record (R386). -/
def State.recordOctets (s : State) (r : MirRec) : List Octet :=
  let cap := r.bytes.take (min r.len (s.slotSize - 32))
  let tsv := r.stamp.isSome && s.on (TIM_STATUS_SEC_VALID 0)
  let bit (b : Bool) (k : Nat) : Nat := if b then 2 ^ k else 0
  let flags := r.dir + bit (decide (s.slotSize - 32 < r.len)) 1 + bit r.bad 2 + bit r.mail 3 + bit tsv 4 + r.cls * 32
  octetsLE 2 s.mir.seq ++ octetsLE 1 flags ++ octetsLE 1 r.port ++ octetsLE 2 r.len ++ octetsLE 2 (min 65535 s.mir.lost) ++
    stampLE r.stamp ++ octetsLE 2 cap.length ++ octetsLE 1 r.reason ++ List.replicate 9 0 ++ cap

/-! ### The ring -/

/-- Records in the ring, and its free slots (R387). -/
def State.ringUsed (s : State) : Nat :=
  let n := s.get MIR_RING_LEN_LEN
  if n = 0 then 0 else (s.get MIR_RING_WR_WR + n - s.get MIR_RING_RD_RD % n) % n
def State.ringFree (s : State) : Nat := s.get MIR_RING_LEN_LEN - 1 - s.ringUsed

/-- Is the mirror at work: on, not gated, in RUN (R392)? -/
def State.mirOn (s : State) : Bool := s.get MIR_STATUS_STATE != 0 && !s.gateIn 19 && s.pwr.state == .run

def State.setFifo (q : List (List Octet)) (s : State) : State :=
  { s with mir := { s.mir with fifo := q } }.set MIR_STATUS_FIFO_LEVEL q.length

/-- RING to SAMPLING (R389). -/
def State.mirSampling (s : State) : State :=
  if s.get MIR_STATUS_STATE = 1 then
    let s := { s with mir := { s.mir with samples := 0 } }
    (s.set MIR_STATUS_STATE 2).raise MIR_EVT_SAMPLING_START
  else s

/-- SAMPLING to RING when its condition holds (R389). -/
def State.mirResume (s : State) : State :=
  if s.get MIR_STATUS_STATE = 2 ∧ 2 ≤ s.get MIR_RING_LEN_LEN ∧ !s.on MIR_STATUS_THERMAL ∧ s.mir.fifo.isEmpty ∧
      s.get MIR_RESUME_RESUME ≤ s.ringFree then
    (s.set MIR_STATUS_STATE 1).raise MIR_EVT_RING_RESUME
  else s

/-- A candidate is lost (R390) (DEDUCED, log entry 46). -/
def State.mirLose (s : State) : State :=
  ({ s with mir := { s.mir with lost := s.mir.lost + 1 } }).count MIR_COUNT_LOST_COUNT

/-- A record goes out as a packet (R390). -/
def State.mirSend (r : MirRec) (s : State) : State :=
  let p48 := !s.on MIR_CFG_SAMPLE_PORT
  if p48 && !s.pktRoom then s.count MIR_COUNT_SAMPLE_LOST_COUNT
  else
    let bytes := s.recordOctets r
    let s := { s with mir := { s.mir with seq := (s.mir.seq + 1) % 65536 } }
    let s := s.count MIR_COUNT_SAMPLES_COUNT
    if p48 then s.pktDeliver bytes r.port (8 + (if r.mail then 16 else 0) + r.cls * 32) none none
    else s.emit .frame 49 [0] bytes

/-- A candidate in SAMPLING (R390). -/
def State.mirSample (r : MirRec) (s : State) : State :=
  let n := s.mir.samples + 1
  let k := s.get MIR_CFG_SAMPLE_N
  if k ≠ 0 ∧ k ≤ n then ({ s with mir := { s.mir with samples := 0 } }).mirSend r
  else ({ s with mir := { s.mir with samples := n } }).mirLose

/-- A candidate (R387, R389, R390) (DEDUCED, log entry 46). -/
def State.mirCandidate (r : MirRec) (s : State) : State :=
  if !s.mirOn then s
  else if s.get MIR_STATUS_STATE = 1 ∧ s.mir.fifo.length < 1024 then
    let bytes := s.recordOctets r
    let slot := bytes ++ List.replicate (s.slotSize - bytes.length) 0
    let s := s.setFifo (s.mir.fifo ++ [slot])
    { s with mir := { s.mir with seq := (s.mir.seq + 1) % 65536, lost := 0 } }
  else s.mirSampling.mirSample r

/-- Is a port selected (R384)? -/
def State.mirIn (s : State) (p : Nat) : Bool := (s.getWide MIR_SEL_IN_LO MIR_SEL_IN_HI 16).testBit p
def State.mirOut (s : State) (p : Nat) : Bool := (s.getWide MIR_SEL_OUT_LO MIR_SEL_OUT_HI 16).testBit p

/-- The ingress record of a frame that has been received whole and counted (R384, R385). -/
def State.mirIngress (f : Frame) (s : State) : State :=
  let rule := f.marked && (s.get MIR_CFG_RULE_DIR == 0 || s.get MIR_CFG_RULE_DIR == 2)
  let sel := decide (f.inp < 48) && s.mirIn f.inp
  if f.consumed ∨ (!rule ∧ !sel) then s
  else s.mirCandidate ⟨0, f.dropped || f.gateDrop, f.mail, f.cls, f.inp, f.stampA, (if rule then 1 else 0) + (if sel then 2 else 0),
    f.bytes, f.bytes.length⟩

/-- The egress record of a copy that has left (R384, R385). -/
def State.mirEgress (f : Frame) (o cls : Nat) (mail bad : Bool) (stamp : Int) (bytes : List Octet) (s : State) : State :=
  let rule := f.marked && (s.get MIR_CFG_RULE_DIR == 1 || s.get MIR_CFG_RULE_DIR == 2)
  let sel := decide (o < 48) && s.mirOut o
  if !rule ∧ !sel then s
  else
    let st := if decide (o < 48) && s.tseOn then some stamp else none
    s.mirCandidate ⟨1, bad, mail, cls, o, st, (if rule then 1 else 0) + (if sel then 4 else 0), bytes, bytes.length⟩

/-! ### What the commands do -/

/-- The head record goes to the ring, or finds no room (R387, R388, R389) (DEDUCED, log entry 46). -/
def State.mirDrain (s : State) : State :=
  let n := s.get MIR_RING_LEN_LEN
  if !s.mirOn then s
  else match s.mir.fifo with
    | [] => s.mirResume
    | x :: xs =>
      if n < 2 ∨ s.ringFree = 0 then s.mirSampling
      else
        let wr := s.get MIR_RING_WR_WR
        let base := s.getWide MIR_RING_BASE_LO MIR_RING_BASE_HI 32
        let s := s.emit .hostWrite 1 [base + wr * s.slotSize] x
        let s := ((s.setFifo xs).set MIR_RING_WR_WR ((wr + 1) % n)).count MIR_COUNT_RECORDS_COUNT
        let s := s.when (s.get MIR_IRQ_WATERMARK != 0 && s.ringUsed == s.get MIR_IRQ_WATERMARK) (·.raise MIR_EVT_WATERMARK)
        s.mirResume

/-- A record has stayed unread for HOLD µs (R388). -/
def State.mirHold (s : State) : State :=
  s.when (s.get MIR_IRQ_HOLD != 0 && s.ringUsed != 0 && s.mirOn) (·.raise MIR_EVT_WATERMARK)

/-- A DMA write ends with an error (R389) (DEDUCED, log entry 46). -/
def State.mirError (s : State) : State :=
  if s.get MIR_STATUS_STATE = 0 then s
  else
    let a := s.getWide MIR_RING_BASE_LO MIR_RING_BASE_HI 32 + s.get MIR_RING_WR_WR * s.slotSize
    (((s.set MIR_CFG_EN 0).setFifo []).set MIR_STATUS_STATE 0 |>.raise MIR_EVT_DMA_ERR).logFault 0x15 0 (some (.dma, true,
      a % 2 ^ 24))

/-- EN is written 0 (R389): the FIFO is counted as lost. -/
def State.mirOff (s : State) : State :=
  let n := s.mir.fifo.length
  let s := (s.countBy MIR_COUNT_LOST_COUNT n).setFifo []
  ({ s with mir := { s.mir with lost := s.mir.lost + n } }).set MIR_STATUS_STATE 0

/-- EN is written 1 (R389). -/
def State.mirStart (s : State) : State :=
  if s.get MIR_STATUS_STATE ≠ 0 then s
  else if 2 ≤ s.get MIR_RING_LEN_LEN ∧ !s.on MIR_STATUS_THERMAL
    then (s.set MIR_RING_WR_WR (s.get MIR_RING_RD_RD)).set MIR_STATUS_STATE 1
  else ({ s with mir := { s.mir with samples := 0 } }).set MIR_STATUS_STATE 2

/-- The governor orders sampling, or ends it (R389, R391). -/
def State.mirThermal (b : Bool) (s : State) : State :=
  let s := s.setB MIR_STATUS_THERMAL b
  if b then s.mirSampling else s.mirResume

end Sys2Proof.Machine
end

