-- ==== Sys2Proof/Machine/BufOps.lean ====
section
/-! DEFINITION. Buffers (chapter 16): frames and copies, charges, admission, pause towards the partner, the siding. -/

namespace Sys2Proof.Machine

/-! ### Scheduler outputs -/

def State.sout (s : State) (o : Nat) : SchOut := smAt s.sch.outs o
def State.setSout (o : Nat) (x : SchOut) (s : State) : State := { s with sch := { s.sch with outs := smPut s.sch.outs o x } }

/-- Rate of a port's MAC in Gb/s (R317); 0 without a rate. -/
def State.gbps (s : State) (p : Nat) : Nat :=
  match s.get (PRT_CFG_RATE (if s.laneOfFat p then quadPort p else p)) with
  | 1 => 1 | 2 => 10 | 3 => 25 | 4 => 100 | _ => 0

/-- Is a port in a near-end loopback, PCS or serial, its line input ignored (R319)? -/
def State.nearLoop (s : State) (p : Nat) : Bool := s.get (PRT_CFG_LOOP p) == 1 || s.get (PRT_CFG_LOOP p) == 2

/-- Is a port UP (R313)? -/
def State.portUp (s : State) (p : Nat) : Bool := s.get (PRT_STATUS_STATE p) == 3

/-! ### Frames and copies -/

/-- The depot of an ingress port (R32). -/
def depotOf (i : Nat) : Nat := if i = 48 then 0 else if i = 49 then 1 else i / 12

def State.frame? (s : State) (id : Nat) : Option Frame := s.buf.frames.find? fun f => f.id == id
def State.copy? (s : State) (id : Nat) : Option Copy := s.buf.copies.find? fun c => c.id == id
def State.setFrame (f : Frame) (s : State) : State :=
  { s with buf := { s.buf with frames := s.buf.frames.map fun g => if g.id = f.id then f else g } }
def State.setCopy (c : Copy) (s : State) : State :=
  { s with buf := { s.buf with copies := s.buf.copies.map fun d => if d.id = c.id then c else d } }
def State.copiesOf (s : State) (id : Nat) : List Copy := s.buf.copies.filter fun c => c.frame == id

/-- Copies charged to depot queue (d, o, c): its USED counts them until they have left. -/
def State.depotCopies (s : State) (d o c : Nat) : List Copy :=
  s.buf.copies.filter fun x => !x.store && depotOf x.inp == d && x.out == o && x.cls == c
/-- Copies charged to virtual output queue (i, o). -/
def State.voqCopies (s : State) (i o : Nat) : List Copy := s.buf.copies.filter fun x => x.store && x.inp == i && x.out == o

def sumOf (g : Copy → Nat) (cs : List Copy) : Nat := cs.foldl (fun n c => n + g c) 0

/-- USED and PEAK of a depot queue (R342, R357). -/
def State.showQueue (d o c : Nat) (s : State) : State :=
  let n := sumOf (·.cells) (s.depotCopies d o c)
  let q := 8 * o + c
  let s := s.set (BUF_Q_STATUS_USED d q) n
  s.set (BUF_Q_STATUS_PEAK d q) (max n (s.get (BUF_Q_STATUS_PEAK d q)))

/-- The registers of a virtual output queue and of the mail store. -/
def State.showVoq (i o : Nat) (s : State) : State :=
  let cs := s.voqCopies i o
  let s := (s.set (BUF_VOQ_FRAMES i o) (cs.filter fun c => c.place == .queued).length).set (BUF_VOQ_USED i o) (sumOf (·.cells) cs)
  let n := sumOf (·.cells) (s.buf.copies.filter (·.store))
  let s := s.set BUF_MAIL_STATUS_USED n
  s.set BUF_MAIL_STATUS_PEAK (max n (s.get BUF_MAIL_STATUS_PEAK))

def State.showCopy (c : Copy) (s : State) : State :=
  if c.store then s.showVoq c.inp c.out else s.showQueue (depotOf c.inp) c.out c.cls

/-! ### Pause towards the partner -/

/-- The octets of a PAUSE or PFC frame: the FCS follows (R351). -/
def State.pauseBytes (s : State) (p time : Nat) : List Octet :=
  let head := octetsBE 6 0x0180C2000001 ++ s.macOf p ++ octetsBE 2 0x8808
  let body :=
    if s.on (PRT_MAC_PFC_EN p) then
      let prio := s.get (BUF_IN_PRIO_LOSSLESS p)
      octetsBE 2 0x0101 ++ octetsBE 2 prio ++ (List.range 8).flatMap fun k => octetsBE 2 (if prio.testBit k then time else 0)
    else octetsBE 2 0x0001 ++ octetsBE 2 time
  let bs := head ++ body
  let bs := bs ++ List.replicate (60 - bs.length) 0
  bs ++ octetsLE 4 (crc32 bs)

/-- A pause frame leaves the port (R317, R351). -/
def State.pauseSend (p stop : Nat) (s : State) : State :=
  if !s.macOpen p then s
  else
    let bs := s.pauseBytes p (if stop = 1 then 0xFFFF else 0)
    ((s.emit .pause p [stop] bs).countTx p 64 0x0180C2000001).countPort p 17 1

/-- A pause frame is wanted: it leaves behind the frame in transmission, ahead of any other (R351). -/
def State.pauseWant (p stop : Nat) (s : State) : State :=
  if !(s.on (PRT_MAC_PFC_EN p) || s.on (PRT_STATUS_PAUSE_TX p)) || !s.portUp p then s
  else
    let x := s.sout p
    if x.tx.isSome then s.setSout p { x with pauses := x.pauses ++ [stop] } else s.pauseSend p stop

/-- XOFF_STATE follows HELD (R351) (DEDUCED, log entry 39). -/
def State.xoffEval (i : Nat) (s : State) : State :=
  if 48 ≤ i then s
  else
    let held := s.get (BUF_IN_STATUS_HELD i)
    let on := s.on (BUF_IN_STATUS_XOFF_STATE i)
    if !on && s.on (BUF_IN_PRIO_XOFF_EN i) && decide (s.get (BUF_IN_CFG_XOFF i) ≤ held) then
      ((s.set (BUF_IN_STATUS_XOFF_STATE i) 1).count (BUF_IN_COUNT_XOFF_COUNT i)).pauseWant i 1
    else if on && (!s.on (BUF_IN_PRIO_XOFF_EN i) || decide (held ≤ s.get (BUF_IN_CFG_XON i))) then
      (s.set (BUF_IN_STATUS_XOFF_STATE i) 0).pauseWant i 0
    else s

/-- HELD of an ingress port moves by some cells (R351). -/
def State.heldMove (i : Nat) (d : Int) (s : State) : State :=
  if 48 ≤ i then s else (s.setI (BUF_IN_STATUS_HELD i) ((s.get (BUF_IN_STATUS_HELD i) : Int) + d)).xoffEval i

/-! ### Charges -/

/-- The depot's registers move: free cells, shared pool, headroom, descriptors. -/
def State.depotMove (d : Nat) (cells pool head desc : Int) (s : State) : State :=
  let s := s.setI (BUF_DEP_STATUS_FREE d) ((s.get (BUF_DEP_STATUS_FREE d) : Int) - cells)
  let s := s.setI (BUF_DEP_STATUS_SHARED_USED d) ((s.get (BUF_DEP_STATUS_SHARED_USED d) : Int) + pool)
  let s := s.setI (BUF_DEP_STATUS2_HEAD_USED d) ((s.get (BUF_DEP_STATUS2_HEAD_USED d) : Int) + head)
  s.setI (BUF_DEP_DESC_DESC_FREE d) ((s.get (BUF_DEP_DESC_DESC_FREE d) : Int) - desc)

/-- A frame that has ended and has no copy left is no longer held. -/
def State.frameGone (id : Nat) (s : State) : State :=
  if (s.copiesOf id).isEmpty && (match s.frame? id with | some f => f.ended | none => false) then
    { s with buf := { s.buf with frames := s.buf.frames.filter fun f => f.id != id } }
  else s

/-- The stream of a mail copy: its key among the streams (R348). -/
def streamKey (i o c : Nat) : Nat := (48 * i + o) * 8 + c

/-- `next` moves past every released number that follows it (R376) (DEDUCED, log entry 45). -/
def advanceNext : Nat → Stream → Stream
  | 0, x => x
  | k + 1, x =>
    if x.released.contains x.next then advanceNext k ⟨(x.next + 1) % 65536, x.released.filter (fun n => n != x.next)⟩ else x

/-- A mail copy's number is released (R376) (DEDUCED, log entry 45). -/
def State.releaseSeq (c : Copy) (s : State) : State :=
  let key := streamKey c.inp c.out c.cls
  match smAt s.sch.streams key with
  | none => s
  | some x =>
    let x : Stream :=
      if c.seq = x.next then advanceNext 64 ⟨(x.next + 1) % 65536, x.released⟩
      else if (c.seq + 65536 - x.next) % 65536 ≤ 64 then { x with released := c.seq :: x.released } else x
    { s with sch := { s.sch with streams := smPut s.sch.streams key (some x) } }

/-- A copy goes: its cells return (R340), a mail copy's number is released. -/
def State.freeCopy (c : Copy) (s : State) : State :=
  let s := { s with buf := { s.buf with copies := s.buf.copies.filter fun x => x.id != c.id } }
  let s := s.when (c.mail && c.place == .queued) (State.releaseSeq c)
  let d := depotOf c.inp
  let s := if c.store then s else s.set (BUF_DEP_DESC_COPY_FREE d) (s.get (BUF_DEP_DESC_COPY_FREE d) + 1)
  let s := s.showCopy c
  let s := match s.frame? c.frame with
    | some f =>
      if !c.store && (s.copiesOf f.id).all (·.store) then
        let s := s.setFrame { f with cells := 0, pool := 0, head := 0 }
        (s.depotMove d (-(f.cells : Int)) (-(f.pool : Int)) (-(f.head : Int)) (-1)).heldMove f.inp (-(f.cells : Int))
      else s
    | none => s
  s.frameGone c.frame

/-- The charge of a frame that has arrived whole becomes what its octets need (R343) (DEDUCED, log entry 43). -/
def State.recharge (f : Frame) (s : State) : State :=
  let n := (f.bytes.length + 191) / 192
  let d := depotOf f.inp
  let less := f.cells - min n f.cells
  let s := if less = 0 then s
    else
      let head := min less f.head
      let pool := min (less - head) f.pool
      let s := s.setFrame { f with
        cells := f.cells - less, head := f.head - head, pool := f.pool - pool }
      (s.depotMove d (-(less : Int)) (-(pool : Int)) (-(head : Int)) 0).heldMove f.inp (-(less : Int))
  (s.copiesOf f.id).foldl (fun s c =>
    let less := c.cells - min n c.cells
    let hdr := min less c.hdr
    let shr := min (less - hdr) c.shr
    let rsv := less - hdr - shr
    let c := { c with cells := c.cells - less, hdr := c.hdr - hdr, shr := c.shr - shr, rsv := c.rsv - rsv }
    (s.setCopy c).showCopy c) s

/-! ### Admission -/

/-- Shared cells still free in a depot (R344, R345). -/
def State.sharedFree (s : State) (d : Nat) : Nat :=
  16384 - s.get (BUF_DEP_STATUS2_RSV_TOTAL d) - s.get (BUF_DEP_CFG_HEADROOM d) - s.get (BUF_DEP_STATUS_SHARED_USED d)

/-- sh(q) + x ≤ α(q) × (f - x), with α = 2^(ALPHA - 4) (R345) (DEDUCED, log entry 43). -/
def sharedFits (sh x f alpha : Nat) : Bool := decide (x ≤ f ∧ (sh + x) * 16 ≤ (f - x) * 2 ^ alpha)

/-- A copy is queued; a mail copy takes its number and its target (R348, R369, R376) (DEDUCED, log entry 43). -/
def State.enqueue (f : Frame) (o c : Nat) (mail store : Bool) (rsv shr hdr : Nat) (s : State) : State :=
  let key := streamKey f.inp o c
  let seq := smAt s.sch.seqs key
  let dom := s.get SCH_CFG_DOM
  let t := (if dom = 0 then f.cA else f.cB) + (s.get (SCH_TT_DELAY_DELAY o c) * 4 * 2 ^ 40 + 2) / 5
  let copy : Copy := {
    id := s.buf.nextId, frame := f.id, inp := f.inp, out := o, cls := c, mail := mail, store := store
    cells := rsv + shr + hdr, rsv := rsv, shr := shr, hdr := hdr, seq := if mail then seq else 0
    target := if mail then t % cSpan else 0, dom := if mail then dom else 0, fetched := false, late := false, waited := false
    promoted := 0, adm := s.cyc, place := .queued }
  let s := { s with buf := { s.buf with copies := s.buf.copies ++ [copy], nextId := s.buf.nextId + 1 } }
  let s := s.when mail fun s =>
    let fresh := (smAt s.sch.streams key).isNone
    { s with sch := { s.sch with
        seqs := smPut s.sch.seqs key ((seq + 1) % 65536)
        streams := if fresh then smPut s.sch.streams key (some ⟨seq, []⟩) else s.sch.streams } }
  s.showCopy copy

/-- A copy that a depot queue refuses (R341, R345, R349). -/
def State.refuseCopy (d o c : Nat) (mail : Bool) (s : State) : State :=
  (s.count (BUF_Q_DROPS_DROPS d (8 * o + c))).when mail (·.count (BUF_OUT_MAIL_DROPS_MAIL_DROPS o))

/-- One copy of a frame in its depot (R341, R345, R346): `multi` when the frame has several there, `f0` the shared cells free
before the frame. -/
def State.admitDepot (fid : Nat) (n f0 : Nat) (multi : Bool) (x : Nat × Nat × Bool) (s : State) : State :=
  match s.frame? fid with
  | none => s
  | some f =>
    let (o, c, mail) := x
    let d := depotOf f.inp
    let q := 8 * o + c
    let held := s.depotCopies d o c
    let r := if multi then 0 else min n (s.get (BUF_Q_CFG_RSV d q) - sumOf (·.rsv) held)
    let k := n - r
    let room := !(s.get (BUF_DEP_DESC_COPY_FREE d) == 0 || (f.cells == 0 && s.get (BUF_DEP_DESC_DESC_FREE d) == 0))
    let shared := sharedFits (sumOf (·.shr) held) k f0 (s.get (BUF_Q_CFG_ALPHA d q))
    let lossless := !multi && !mail && decide (f.inp < 48) && (s.get (BUF_IN_PRIO_LOSSLESS f.inp)).testBit f.prio &&
      s.on (BUF_IN_STATUS_XOFF_STATE f.inp) && decide (s.get (BUF_DEP_STATUS2_HEAD_USED d) + k ≤ s.get (BUF_DEP_CFG_HEADROOM d))
    if !room ∨ (k ≠ 0 ∧ !shared ∧ !lossless) then s.refuseCopy d o c mail
    else
      let shr := if k ≠ 0 && shared then k else 0
      let hdr := k - shr
      let first := f.cells == 0
      let s := s.when first fun s =>
        (s.setFrame { f with cells := n, pool := shr, head := hdr }).depotMove d n shr hdr 1
      let s := (s.set (BUF_DEP_DESC_COPY_FREE d) (s.get (BUF_DEP_DESC_COPY_FREE d) - 1)).count (BUF_Q_ADMITS_ADMITS d q)
      let s := s.when (decide (hdr ≠ 0 ∧ f.inp < 48)) (·.count (BUF_IN_COUNT_HEAD_ADMITS f.inp))
      let s := s.when mail (·.count (BUF_OUT_MAIL_SPILLS_MAIL_SPILLS o))
      let s := s.enqueue f o c mail false r shr hdr
      s.when first (State.heldMove f.inp n)

/-- The siding of an output (R353): 0 NORMAL, 1 SIDING, 2 FLUSH, 3 DETACHED. -/
def State.siding (s : State) (o : Nat) : Nat := s.get (BUF_OUT_STATUS_SIDING o)

/-- Is a new copy discarded before admission (R354)? -/
def State.sidingRefuses (s : State) (o c : Nat) : Bool :=
  match s.siding o with
  | 0 => false
  | 1 => !(s.get (BUF_OUT_CFG_SIDING_HOLD o)).testBit c
  | _ => true

/-- Is a copy of class `c` to output `o` mail (R333)? -/
def State.isMail (s : State) (o c : Nat) : Bool := decide (o < 48) && (s.get (FWD_PORT_CFG_MAIL_MAP o)).testBit c

/-- One copy at admission: discarded by the siding, placed in the mail store, or left for the depot (R349, R350, R354)
(DEDUCED, log entry 43). -/
def State.admitOne (fid n o : Nat) (acc : State × List (Nat × Nat × Bool)) : State × List (Nat × Nat × Bool) :=
  let (s, later) := acc
  match s.frame? fid with
  | none => acc
  | some f =>
    let c := f.cls
    if s.sidingRefuses o c then (s.count (BUF_OUT_SIDING_DROP_SIDING_DROP o), later)
    else if !s.isMail o c then (s, later ++ [(o, c, false)])
    else if f.inp < 48 ∧ sumOf (·.cells) (s.voqCopies f.inp o) + n ≤ s.get BUF_MAIL_CFG_VOQ_MAX ∧ s.get BUF_MAIL_STATUS_USED + n ≤ 8192 then
      (s.enqueue f o c true true 0 n 0, later)
    else if s.on BUF_MAIL_CFG_SPILL_EN then (s, later ++ [(o, c, true)])
    else (s.count (BUF_OUT_MAIL_DROPS_MAIL_DROPS o), later)

/-- Admission of a frame's copies, in ascending output order (R343 to R350). -/
def State.admission (fid outs : Nat) (s : State) : State :=
  match s.frame? fid with
  | none => s
  | some f =>
    let n := if 48 ≤ f.inp then 50 else (s.get (PRT_MAC_MAX_FRAME f.inp) + 191) / 192
    let s := s.setFrame { f with mail := (bitsOf outs 50).any fun o => s.isMail o f.cls }
    let (s, later) := (bitsOf outs 50).foldl (fun acc o => State.admitOne fid n o acc) (s, [])
    let f0 := s.sharedFree (depotOf f.inp)
    let multi := decide (2 ≤ later.length)
    later.foldl (fun s x => s.admitDepot fid n f0 multi x) s

/-! ### Registers of the buffers -/

/-- Reservations of a depot (R344). -/
def State.rsvTotal (s : State) (d : Nat) : Nat := (List.range 400).foldl (fun n q => n + s.get (BUF_Q_CFG_RSV d q)) 0

/-- What a queue holds beyond a lowered reservation counts as shared, the latest copies first (R344) (DEDUCED, log entry 43). -/
def State.lowerRsv (d q : Nat) (s : State) : State :=
  let held := s.depotCopies d (q / 8) (q % 8)
  let excess := sumOf (·.rsv) held - s.get (BUF_Q_CFG_RSV d q)
  (held.reverse.foldl (fun (acc : State × Nat) c =>
    let k := min acc.2 c.rsv
    let s := acc.1.setCopy { c with rsv := c.rsv - k, shr := c.shr + k }
    let s := match s.frame? c.frame with
      | some f => s.setFrame { f with pool := f.pool + k }
      | none => s
    (s.depotMove d 0 k 0 0, acc.2 - k)) (s, excess)).1

/-! ### The siding -/

/-- Time on a siding's timer, in cycles. -/
def State.sidingTime (s : State) (o : Nat) : Nat :=
  match smAt s.buf.timer o with
  | some (n, t) => if s.gateIn 17 then n else n + (s.cyc - t)
  | none => 0

def State.setTimer (o : Nat) (t : Option (Nat × Nat)) (s : State) : State :=
  { s with buf := { s.buf with timer := smPut s.buf.timer o t } }

/-- BUF's gate has closed or opened: timers stand still while it is closed (R356). -/
def State.timersGate (closed : Bool) (s : State) : State :=
  s.each (List.range 48) fun o t => match smAt t.buf.timer o with
    | some (n, at_) => t.setTimer o (some (if closed then n + (t.cyc - at_) else n, t.cyc))
    | none => t

/-- The flush of an output starts (R353, R355). -/
def State.flushStart (o : Nat) (s : State) : State := (s.set (BUF_OUT_STATUS_SIDING o) 2).setTimer o none

/-- A port-down event, or the entry of its output to LEAN or KEEP (R353). -/
def State.sidingDown (o : Nat) (low : Bool) (s : State) : State :=
  let s := s.set (BUF_OUT_STATUS_WD_ACTIVE o) 0
  match s.siding o with
  | 0 =>
    let s := s.raise (BUF_OUT_EVT_SIDING_START o)
    if low ∨ s.get (BUF_OUT_GRACE_GRACE o) = 0 then s.flushStart o
    else (s.set (BUF_OUT_STATUS_SIDING o) 1).setTimer o (some (0, s.cyc))
  | 1 => if low then s.flushStart o else s
  | _ => s

/-- A port has come UP (R353). -/
def State.sidingUp (o : Nat) (s : State) : State :=
  match s.siding o with
  | 1 => ((s.set (BUF_OUT_STATUS_SIDING o) 0).setTimer o none).raise (BUF_OUT_EVT_SIDING_END o)
  | 3 => (s.set (BUF_OUT_STATUS_SIDING o) 0).raise (BUF_OUT_EVT_SIDING_END o)
  | _ => s

/-- The grace timer reaches GRACE (R353). -/
def State.graceEnd (o : Nat) (s : State) : State := if s.siding o = 1 ∧ !s.gateIn 17 then s.flushStart o else s

/-- A new GRACE is checked against the time already elapsed (R356). -/
def State.graceCheck (o : Nat) (s : State) : State :=
  if s.siding o = 1 ∧ s.get (BUF_OUT_GRACE_GRACE o) * 5000 ≤ s.sidingTime o * 16 then s.flushStart o else s

/-- The flush of an output is complete (R336, R353, R355, R376): every copy that has not begun is discarded. -/
def State.flushEnd (o : Nat) (s : State) : State :=
  if s.siding o ≠ 2 ∨ s.gateIn 17 then s
  else
    let cs := s.buf.copies.filter fun c => c.out == o && (c.place == .queued || c.place == .slot)
    let s := cs.foldl (fun s c => (s.freeCopy c).count (BUF_OUT_FLUSHED_FLUSHED o)) s
    let s := { s with sch := { s.sch with streams := s.sch.streams.filter fun x => x.1 / 8 % 48 != o } }
    let s := s.raise (BUF_OUT_EVT_FLUSH o)
    if s.portUp o then s.set (BUF_OUT_STATUS_SIDING o) 0 else (s.set (BUF_OUT_STATUS_SIDING o) 3).flushMac (some o)

/-! ### Pause from the partner -/

/-- A class is held, or released (R317). -/
def State.setPaused (o c : Nat) (b : Bool) (s : State) : State :=
  s.set (PRT_STATUS_PAUSED o) (putBit (s.get (PRT_STATUS_PAUSED o)) c b)

/-- The watchdog of a hold (R352). -/
def State.watchdog (o c : Nat) (s : State) : State :=
  if !(s.get (PRT_STATUS_PAUSED o)).testBit c ∨ s.get (BUF_OUT_CFG_PAUSE_WD o) = 0 ∨ s.gateIn 17 then s
  else
    let s := s.setPaused o c false
    let s := s.set (BUF_OUT_STATUS_WD_ACTIVE o) (putBit (s.get (BUF_OUT_STATUS_WD_ACTIVE o)) c true)
    ((s.raise (BUF_OUT_EVT_WD o)).count (BUF_OUT_WD_COUNT_WD_COUNT o)).logFault 0x20 o none

end Sys2Proof.Machine
end

