-- ==== Sys2Proof/Machine/Coupling.lean ====
section
/-! DEFINITION. The commands of the coupling layer (chapter 13): registers, HELLOs, messages and the link offset. -/

namespace Sys2Proof.Machine

/-- Is the coupling engine running (R80, R307)? -/
def State.cplOn (s : State) : Bool :=
  !(s.get CGU_GATE_STATUS_GATED).testBit 21 && s.pwr.state != .vigil && s.pwr.state != .dormant

/-! ### Registers -/

def cplGuarded (p : Nat) : List FieldRef := [CPL_PORT_CFG_MISS_LIMIT p, CPL_PORT_CFG_DELAY_AVG p, CPL_PORT_CFG_FIT p,
  CPL_PORT_CFG_LOG_INTV p]

/-- A write of CPL_PORT_CFG (R287, R291). -/
def State.cplCfgWrite (m : Master) (p : Nat) (v : Word) (r : RegRow) (s : State) : State :=
  let a := CPL_PORT_CFG p
  let was := s.on (CPL_PORT_CFG_ENABLE p)
  let en := v.getLsbD 0
  let locked := was && en && (cplGuarded p).any fun f => changes s f v
  let s := s.when locked (State.refuseWrite m a)
  let v := if locked then keepFields s (cplGuarded p) v else v
  let bad := (writeFields r.fields (s.rd a) v).2
  let s := s.plainWrite m a (keepField s (CPL_PORT_CFG_ENABLE p) v) r
  if !was && en then
    if bad || !s.cplRate p then (s.raise (CPL_PORT_EVT_CFG_ERR p)).refuseWrite m a
    else
      let s := (((s.set (CPL_PORT_CFG_ENABLE p) 1).wr (CPL_PORT_COUNT p) 0).wr (CPL_PORT_COUNT2 p) 0).cplForget p
      s.setCplState p 1
  else if was && !en then ((s.set (CPL_PORT_CFG_ENABLE p) 0).cplForget p).setCplState p 0
  else s

/-- A write of CPL_NODE (R300). -/
def State.cplNodeWrite (m : Master) (v : Word) (r : RegRow) (s : State) : State :=
  let on := (List.range 48).any fun p => s.on (CPL_PORT_CFG_ENABLE p)
  let fixed := [CPL_NODE_ID, CPL_NODE_DOM]
  let locked := on && fixed.any fun f => changes s f v
  let s := s.when locked (State.refuseWrite m CPL_NODE)
  (s.plainWrite m CPL_NODE (if locked then keepFields s fixed v else v) r).nodeEval

/-- A write of CPL_NODE_ERR or CPL_PORT_ASYM_UNC: acc follows (R300, R301). -/
def State.cplErrWrite (m : Master) (a : Nat) (v : Word) (r : RegRow) (s : State) : State := (s.plainWrite m a v r).nodeEval

/-- A write of CPL_FEED_CFG (R299). -/
def State.feedWrite (m : Master) (l : Nat) (v : Word) (r : RegRow) (s : State) : State :=
  let old := s.get (CPL_FEED_CFG_PORT l)
  let s := s.plainWrite m (CPL_FEED_CFG l) v r
  if s.get (CPL_FEED_CFG_PORT l) = old then s
  else (s.when (s.fed l) fun t => t.setFeed l { t.feed l with transfer := true }).nodeEval

/-! ### HELLO -/

/-- A frame with EtherType 0x88B5 on a port with coupling on (R290, R291): octets from the destination address, FCS left off
(DEDUCED, log entry 38). -/
def State.helloHear (p : Nat) (bytes : List Octet) (s : State) : State :=
  let st := s.get (CPL_PORT_STATUS_STATE p)
  let num (k n : Nat) : Nat := fromBE (slice bytes k n)
  if st = 0 ∨ !s.cplOn ∨ num 12 2 ≠ 0x88B5 then s
  else if bytes.length ≠ 60 ∨ num 14 4 ≠ 0x515A4350 ∨ num 18 1 ≠ 1 then s.count (CPL_PORT_COUNT2_BAD_HELLOS p)
  else if num 19 1 ≠ 1 then s.raise (CPL_PORT_EVT_VERSION_MISMATCH p)
  else if num 22 2 = s.get CPL_NODE_ID then s.raise (CPL_PORT_EVT_ID_CLASH p)
  else
    let flags := num 20 1
    let s := (s.set (CPL_PORT_FAR_ID_FAR_NODE p) (num 22 2)).set (CPL_PORT_FAR_ID_FAR_GM p) (num 24 2)
    let s := (s.set (CPL_PORT_FAR_INFO_FAR_HOP p) (num 21 1)).set (CPL_PORT_FAR_INFO_FAR_PORT p) (num 26 1)
    let s := (s.setB (CPL_PORT_STATUS_FAR_GM p) (flags.testBit 1)).setB (CPL_PORT_STATUS_FAR_TRACE p) (flags.testBit 2)
    let first := !s.on (CPL_PORT_STATUS_SEEN p)
    let s := s.set (CPL_PORT_STATUS_SEEN p) 1
    let s := s.when (first && s.lockSeen p && decide (st < 3)) (State.helloSend p)
    let s := s.nodeEval
    if flags.testBit 0 then (if st = 1 then s.setCplState p 2 else s)
    else if 2 ≤ st then s.setCplState p 1
    else s

/-- The HELLO of a second (R290). -/
def State.helloDue (p : Nat) (s : State) : State :=
  let st := s.get (CPL_PORT_STATUS_STATE p)
  s.when ((st == 1 || st == 2) && s.cplOn && s.lockSeen p) (State.helloSend p)

/-! ### Sending messages -/

/-- A stamp as a message carries it (R293): seconds, ns, sub-ns. -/
def stampOctets (t : Int) : List Octet := octetsBE 6 (stampSec t) ++ octetsBE 4 (stampNs t) ++ octetsBE 2 (stampSub t)

/-- Octets of a field the spec gives no value for here: a free value (DEDUCED, log entry 38). -/
def State.openOctets (s : State) (j k : Nat) : List Octet := octetsBE k (Config.unstated (s.free + j))

/-- The message whose marker leaves now (R293, R301). -/
def State.cplMessage (s : State) (p seq : Nat) : List Octet :=
  let c := s.cplPort p
  let bit (b : Bool) (k : Nat) : Nat := if b then 2 ^ k else 0
  let phase := !s.on (TSE_PORT_STATUS_RX_NOPHASE p)
  let rx := match c.rxSeq with
    | some q => if phase then (c.arr.find? fun x => x.1 == q).map (·.2) else none
    | none => none
  let prev := (c.dep.find? fun x => x.1 == (seq + 65535) % 65536).map (·.2)
  let flags := bit (s.on CPL_NODE_GM) 0 + bit (s.on CPL_NODE_STATUS_TRACE) 1 + bit (s.on (TSE_PORT_STATUS_CAL_OK p)) 2 + bit phase 3 +
    bit (s.on CPL_NODE_DOM) 4 + bit rx.isSome 5
  let body := octetsBE 2 seq ++ octetsBE 1 flags ++ octetsBE 1 (s.get CPL_NODE_STATUS_HOP) ++ octetsBE 2 (s.get CPL_NODE_ID) ++
    octetsBE 2 s.cpl.gmId ++ octetsBE 2 (s.get CPL_NODE_STATUS_UPSTREAM_ID) ++
    (match c.rxSeq with | some q => octetsBE 2 q | none => s.openOctets 0 2) ++
    (match prev with | some t => stampOctets t | none => s.openOctets 1 12) ++
    (match rx with | some t => stampOctets t | none => s.openOctets 2 12) ++ octetsBE 4 (s.get CPL_NODE_ACC_ACC_ERR) ++
      octetsBE 1 p ++
    [0, 0, 0]
  body ++ octetsBE 4 (crc32 body)

/-- A coupling word as a 64B/66B block (R292): the sync header 0b10 above the 64 bits, lowest bit transmitted first: block type 0x4B,
24 bits, the O0 code 0x5, 28 bits; the 52 bits are the index and the six octets. -/
def couplingBlock (k : Nat) (six : List Octet) : Nat :=
  let x := k + 16 * fromLE six
  2 * 2 ^ 64 + (0x4B + x % 2 ^ 24 * 2 ^ 8 + 5 * 2 ^ 32 + x / 2 ^ 24 % 2 ^ 28 * 2 ^ 36)

/-- The index and the octets of a block; none where it is no coupling word (R292). -/
def wordOf (b : Nat) : Option (Nat × List Octet) :=
  let x := b / 2 ^ 8 % 2 ^ 24 + b / 2 ^ 36 % 2 ^ 28 * 2 ^ 24
  if b / 2 ^ 64 = 2 ∧ b % 256 = 0x4B ∧ b / 2 ^ 32 % 16 = 5 then some (x % 16, octetsLE 6 (x / 16)) else none

/-- The words of a message: its octets six by six (R292, R293). -/
def messageWords (bytes : List Octet) : List (Nat × List Octet) := (List.range 8).map fun k => (k, slice bytes (6 * k) 6)

/-- The message of the words from one word 0 to the next; none unless they are its eight, in index order (R295). -/
def messageOf (blocks : List Nat) : Option (List Octet) :=
  let ws := blocks.filterMap wordOf
  if ws.map (·.1) = List.range 8 then some (ws.flatMap (·.2)) else none

/-- One block of a port's line in units of 2^-16 ns. -/
def State.blockTime (s : State) (p : Nat) : Rat := 66 * bitTime (s.portRate p)

/-- The spacing of eligible blocks (R294): every block without FEC, every 32nd with Clause 74 FEC, every 80th with RS-FEC. -/
def State.eligible (s : State) (p : Nat) : Nat := if s.portFec p = 0 then 1 else if s.portFec p = 1 then 32 else 80

/-- Cycles of the time base to the next eligible block of a port. -/
def State.eligibleWait (s : State) (p : Nat) : Rat :=
  (Config.fecPlace p s.cyc % s.eligible p : Nat) * s.blockTime p * 5 / (16 * 65536)

/-- Words that are placed in idle blocks now, in index order (R294). -/
def State.placeWords (p n : Nat) (s : State) : State :=
  let c := s.cplPort p
  let s := s.setCplPort p { c with words := c.words.drop n }
  (c.words.take n).foldl (fun t (w : Nat × List Octet) => t.emit .coupling p [w.1, couplingBlock w.1 w.2] w.2) s

/-- The marker that is due is placed in the next eligible block (R292 to R294, R296); its words wait for idle blocks behind it
(DEDUCED, log entry 38). -/
def State.markerPlace (p : Nat) (s : State) : State :=
  let s := s.nodeEval
  let c := s.cplPort p
  let t := s.txStampIn (s.eligibleWait p) p (s.get CPL_NODE_DOM)
  let ws := messageWords (s.cplMessage p c.txSeq)
  let void := c.changed = some s.cyc
  let s := s.setCplPort p { c with
    due := none, txSeq := (c.txSeq + 1) % 65536, dep := if void then c.dep else ((c.txSeq, t) :: c.dep).take 32
    depAt := some s.cyc, words := c.words ++ ws }
  (s.placeWords p (c.words.length + 1)).useFree.useFree.useFree

/-- The marker of the next message falls due (R294): on an idle line it is placed at once with all its words, else when the frame in
transmission has ended (DEDUCED, log entry 38). -/
def State.markerFall (p : Nat) (busy : Bool) (s : State) : State :=
  let st := s.get (CPL_PORT_STATUS_STATE p)
  if st < 2 ∨ !s.cplOn then s
  else
    let s := s.setCplPort p { s.cplPort p with due := some s.cyc }
    if busy then s else (s.markerPlace p).placeWords p 8

/-- Blocks that have passed on a port's line since a cycle. -/
def State.blocksSince (s : State) (p t : Nat) : Rat := ((s.cyc - t : Nat) : Rat) * 16 * 65536 / 5 / s.blockTime p

/-- A frame has ended while a marker is due or words wait. With no frame behind it they are placed in the idle blocks. A coach frame
of `octets` that would still be in transmission at the fifth eligible block is held back for the marker; for a word it is held by one
block time. A frame that ends before, and a mail frame, are not held (R294) (DEDUCED, log entry 38). -/
def State.markerFree (p : Nat) (waiting : Option Nat) (s : State) : State :=
  if s.get (CPL_PORT_STATUS_STATE p) < 2 then s
  else match (s.cplPort p).due, waiting with
    | some _, none => (s.markerPlace p).placeWords p 8
    | some t, some octets =>
      if s.blocksSince p t + ((octets + 20) / 8 : Nat) < (5 * s.eligible p : Nat) then s
      else ((s.raise (CPL_PORT_EVT_FORCED p)).count (CPL_PORT_COUNT2_FORCED_HOLDS p)).markerPlace p
    | none, none => s.placeWords p 8
    | none, some _ => s.placeWords p 1

/-- No marker has been placed by half an interval after it was due (R294) (DEDUCED, log entry 38). -/
def State.markerLost (p : Nat) (s : State) : State :=
  if (s.cplPort p).due.isNone then s
  else (s.setCplPort p { s.cplPort p with
    due := none, txSeq := ((s.cplPort p).txSeq + 1) % 65536 }).raise (CPL_PORT_EVT_MAIL_BLOCKED p)

/-! ### Receiving messages -/

/-- The stamp kept for a SEQ. -/
def stampFor (xs : List (Nat × Int)) (seq : Nat) : Option Int := (xs.find? fun x => x.1 == seq).map (·.2)

/-- ratio of R297: far elapsed over local, between markers j and j - 16. -/
def CplPort.ratio (c : CplPort) (j : Nat) (t1 t2 : Int) : Rat :=
  let i := (j + 65536 - 16) % 65536
  match stampFor c.far i, stampFor c.arr i with
  | some a, some b => if t2 = b then 1 else ((t1 - a : Int) : Rat) / ((t2 - b : Int) : Rat)
  | _, _ => 1

/-- An offset of port `p` is delivered to the loops it feeds (R298, R299, R302). -/
def State.deliverOffset (p : Nat) (o : Int) (s : State) : State :=
  s.each [0, 1, 2, 3] fun l t =>
    if !t.fed l ∨ t.get (CPL_FEED_CFG_PORT l) ≠ p ∨ t.feedFails l ≠ 0 then t
    else
      let f := t.feed l
      let t := match f.transfer, f.last with
        | true, some old => t.setFeedBo l (f.bf + (o - old) * accUnit)
        | _, _ => t
      let t := t.setFeed l { t.feed l with last := some o, transfer := false }
      t.takeSample l (-((o : Rat) / 65536 - ((t.feed l).bf : Rat) / (65536 * accUnit : Int)))

/-- The computation of R297 at a valid message; the state and whether a mean link delay was computed. -/
def State.cplCompute (p seq rxSeq : Nat) (rxValid : Bool) (t4 : Int) (s : State) : State :=
  let c := s.cplPort p
  let j := (seq + 65535) % 65536
  match stampFor c.far j, stampFor c.arr j, stampFor c.dep rxSeq, rxValid with
  | some t1, some t2, some t3, true =>
    let ratio := c.ratio j t1 t2
    let k : Rat := (((t4 - t1 : Int) : Rat) - ratio * ((t3 - t2 : Int) : Rat)) / 2
    let mlds := (k :: c.mlds).take 128
    let mld := ratMean (mlds.take (2 ^ s.get (CPL_PORT_CFG_DELAY_AVG p)))
    let a : Rat := (s.getI (CPL_PORT_ASYM_ASYM_FIX p) : Rat) + (s.getI (CPL_PORT_ASYM_PROP_ASYM_PROP p) : Rat) / (2 ^ 32 : Nat) * mld
    let o := roundAway (((t2 - t1 : Int) : Rat) - mld - a)
    let s := s.setCplPort p { c with mlds := mlds }
    let s := (s.setWide (CPL_PORT_OFFSET_LO p) (CPL_PORT_OFFSET_HI p) 16 o).setWide (CPL_PORT_MLD_LO p) (CPL_PORT_MLD_HI p) 16 (roundAway mld)
    s.setI (CPL_PORT_RATIO_RATIO p) (clampInt (-2147483648) 2147483647 (roundAway ((ratio - 1) * (2 ^ 40 : Nat))))
  | _, _, _, _ => s.count (CPL_PORT_COUNT2_DISCARDS p)

/-- Could the computation be made? -/
def State.cplPossible (s : State) (p seq rxSeq : Nat) (rxValid : Bool) : Bool :=
  let c := s.cplPort p
  let j := (seq + 65535) % 65536
  (stampFor c.far j).isSome && (stampFor c.arr j).isSome && (stampFor c.dep rxSeq).isSome && rxValid

/-- A stamp field of a message, in units of 2^-16 ns. -/
def stampOf (bs : List Octet) : Int :=
  ((fromBE (slice bs 0 6) * 1000000000 + fromBE (slice bs 6 4)) * 65536 + fromBE (slice bs 10 2) : Nat)

/-- The arrival stamp of a marker (R296, R306, R307): the recovered-clock edge on the least-squares line through the last stamps of
the home gauge, as many of 2^(FIT + 5) as there are. -/
def State.arrivalOf (s : State) (p : Nat) (m : RxMark) : Option Int :=
  if s.on (TSE_PORT_STATUS_RX_NOPHASE p) ∨ (s.cplPort p).changed = some s.cyc then none
  else
    let marks := (s.gauge p).marks.take (2 ^ (s.get (CPL_PORT_CFG_FIT p) + 5))
    (lineAt marks (s.rxPlace p m)).map (s.rxStampAt p (s.get CPL_NODE_DOM) m)

/-- A valid message (R291, R295 to R298). -/
def State.cplValid (p : Nat) (bytes : List Octet) (m : RxMark) (s : State) : State :=
  let num (k n : Nat) : Nat := fromBE (slice bytes k n)
  let seq := num 0 2
  let flags := num 2 1
  let st := s.get (CPL_PORT_STATUS_STATE p)
  let c := s.cplPort p
  let lost := match c.heard with | some q => (seq + 65536 - q - 1) % 65536 | none => 0
  let s := s.countBy (CPL_PORT_COUNT_LOST p) lost
  let s := s.setCplPort p { c with
    rxSeq := some seq, heard := some seq, validRun := if lost = 0 then c.validRun + 1 else 1
    arr := match s.arrivalOf p m with | some t => ((seq, t) :: c.arr).take 32 | none => c.arr
    arrAt := some s.cyc
    far := (((seq + 65535) % 65536, stampOf (slice bytes 12 12)) :: c.far).take 32 }
  let s := (s.set (CPL_PORT_FAR_ID_FAR_NODE p) (num 4 2)).set (CPL_PORT_FAR_ID_FAR_GM p) (num 6 2)
  let s := ((s.set (CPL_PORT_FAR_INFO_FAR_HOP p) (num 3 1)).set (CPL_PORT_FAR_INFO_FAR_PORT p) (num 40 1)).set
    (CPL_PORT_FAR_INFO_FAR_UPSTREAM p) (num 8 2)
  let s := s.set (CPL_PORT_FAR_ACC_FAR_ACC p) (num 36 4)
  let s := (s.setB (CPL_PORT_STATUS_FAR_GM p) (flags.testBit 0)).setB (CPL_PORT_STATUS_FAR_TRACE p) (flags.testBit 1)
  let s := (s.setB (CPL_PORT_STATUS_FAR_CAL p) (flags.testBit 2)).setB (CPL_PORT_STATUS_FAR_PHASE p) (flags.testBit 3)
  let made := s.cplPossible p seq (num 10 2) (flags.testBit 5)
  let s := (s.cplCompute p seq (num 10 2) (flags.testBit 5) (stampOf (slice bytes 24 12))).nodeEval
  let farOk := flags.testBit 2 && flags.testBit 3
  if st = 2 then
    if 4 ≤ (s.cplPort p).validRun ∧ s.on (CPL_PORT_STATUS_READY p) ∧ farOk ∧ !(s.cplPort p).mlds.isEmpty
      then s.setCplState p 3 else s
  else if !farOk then s.setCplState p 2
  else if made then
    let s := (s.countMod (CPL_PORT_COUNT_OFFSETS p)).set (CPL_PORT_STATUS_OFFSET_VALID p) 1
    s.deliverOffset p (s.getWideI (CPL_PORT_OFFSET_LO p) (CPL_PORT_OFFSET_HI p) 16)
  else s

/-- The words from one word 0 to the next have arrived, as 66-bit blocks, the marker at `m` (R292, R295, R300) (DEDUCED, log entry
38). -/
def State.cplHear (p : Nat) (blocks : List Nat) (m : RxMark) (s : State) : State :=
  let st := s.get (CPL_PORT_STATUS_STATE p)
  let broken (s : State) : State := s.setCplPort p { s.cplPort p with validRun := 0 }
  if st < 2 ∨ !s.cplOn then s
  else match messageOf blocks with
  | none => broken s
  | some bytes =>
  if fromBE (slice bytes 44 4) ≠ crc32 (bytes.take 44) then
    (broken ((s.count (CPL_PORT_COUNT_CRC_ERRS p)).raise (CPL_PORT_EVT_CRC_ERR p)))
  else if (s.cplPort p).rxSeq = some (fromBE (slice bytes 0 2)) then broken s
  else if fromBE (slice bytes 4 2) = s.get CPL_NODE_ID then s.raise (CPL_PORT_EVT_ID_CLASH p)
  else s.cplValid p bytes m

/-- MISS_LIMIT intervals of the far end without a valid message (R291, R295) (DEDUCED, log entry 38). -/
def State.cplMissed (p : Nat) (s : State) : State :=
  if s.get (CPL_PORT_STATUS_STATE p) < 2 then s
  else ((s.countBy (CPL_PORT_COUNT_LOST p) (s.get (CPL_PORT_CFG_MISS_LIMIT p))).raise (CPL_PORT_EVT_MSG_LOST p)).setCplState p 1

/-- A bleed of B_f reaches 0: less than one cycle's move was left (R299). -/
def State.feedBleedEnd (l : Nat) (s : State) : State :=
  s.when (decide ((s.feed l).bf.natAbs ≤ (s.rd CPL_BLEED).toNat)) (State.setFeedBo l 0)

/-! ### Commands -/

/-- CPL_PORT_ENABLE_WRITE (R291). -/
def execCplPortEnableWrite (m : Master) (p : Nat) (v : Word) (s : State) : Host.Outcome State Fault Refusal :=
  .next (s.when (decide (p < 48)) (State.access m (CPL_PORT_CFG p) (State.cplCfgWrite m p v)))

/-- HELLO_RECEIVE (R290). -/
def execHelloReceive (p : Nat) (bytes : List Octet) (s : State) : Host.Outcome State Fault Refusal :=
  .next (s.when (decide (p < 48)) (State.helloHear p bytes))

/-- HELLO_TRANSMIT (R290). -/
def execHelloTransmit (p : Nat) (s : State) : Host.Outcome State Fault Refusal :=
  .next (s.when (decide (p < 48)) (State.helloDue p))

/-- MARKER_NOT_SENT (R294). -/
def execMarkerNotSent (p : Nat) (s : State) : Host.Outcome State Fault Refusal :=
  .next (s.when (decide (p < 48)) (State.markerLost p))

/-- COUPLING_MESSAGE_RECEIVE (R297). -/
def execCouplingMessageReceive (p : Nat) (blocks : List Nat) (m : RxMark) (s : State) : Host.Outcome State Fault Refusal :=
  .next (s.when (decide (p < 48)) (State.cplHear p blocks m))

/-- MISS_LIMIT (R291). -/
def execMissLimit (p : Nat) (s : State) : Host.Outcome State Fault Refusal := .next (s.when (decide (p < 48)) (State.cplMissed p))

/-- TRANSFER (R299). -/
def execTransfer (m : Master) (l : Nat) (v : Word) (s : State) : Host.Outcome State Fault Refusal :=
  .next (s.when (decide (l < 4)) (State.access m (CPL_FEED_CFG l) (State.feedWrite m l v)))

/-- CPL_NODE_WRITE (R300). -/
def execCplNodeWrite (m : Master) (v : Word) (s : State) : Host.Outcome State Fault Refusal :=
  .next (State.access m CPL_NODE (State.cplNodeWrite m v) s)

/-- FEED_BLEED_END (R299). -/
def execFeedBleedEnd (l : Nat) (s : State) : Host.Outcome State Fault Refusal :=
  .next (s.when (decide (l < 4)) (State.feedBleedEnd l))

end Sys2Proof.Machine
end

