-- ==== Sys2Proof/Machine/SchOps.lean ====
section
/-! DEFINITION. The scheduler (chapter 17): gate lists, the turntable, what an output sends, mail and the resequencer. Lengths of
time are in units of 2^-40 ns. -/

namespace Sys2Proof.Machine

/-! ### Gate lists -/

/-- One nanosecond. -/
def nsUnit : Nat := 2 ^ 40

/-- Is a gate list in force (R377)? -/
def State.gated? (s : State) (o : Nat) : Bool := decide (o < 48) && s.on (SCH_GCL_CFG_EN o) &&
  s.get (SCH_GCL_STATUS_OPER_LEN o) != 0

/-- A stretch of the cycle: entry, gates, start, end. -/
structure Seg where
  ix : Nat
  gates : Nat
  start : Nat
  stop : Nat
  deriving DecidableEq, Repr, Inhabited

/-- The stretches of the entries from number `e` at `p`: entries beyond CYCLE are cut off, the last holds to its end (R377). -/
def segments (cycle : Nat) : List (Nat × Nat) → Nat → Nat → List Seg
  | [], _, _ => []
  | [(g, _)], e, p => if p < cycle then [⟨e, g, p, cycle⟩] else []
  | (g, t) :: rest, e, p =>
    let q := min cycle (p + t * nsUnit)
    if p < q then ⟨e, g, p, q⟩ :: segments cycle rest (e + 1) q else segments cycle rest (e + 1) q

/-- The stretches of the oper list of an output. -/
def State.operSegs (s : State) (o : Nat) : List Seg :=
  let n := s.get (SCH_GCL_STATUS_OPER_LEN o)
  segments ((s.sout o).cycle * nsUnit) ((List.range n).map fun e => (s.get (SCH_GATE_OPER_GATES o e),
    s.get (SCH_INTV_OPER_INTERVAL o e))) 0 0

/-- The place in the cycle: (T - BASE) mod CYCLE (R377). -/
def State.gatePlace (s : State) (o : Nat) : Nat :=
  let x := s.sout o
  if x.cycle = 0 then 0
  else (((s.domTime (s.get SCH_CFG_DOM) : Int) - (x.base * nsUnit : Nat)) % ((x.cycle * nsUnit : Nat) : Int)).toNat

/-- The stretch in force. -/
def State.gateSeg (s : State) (o : Nat) : Option Seg :=
  let p := s.gatePlace o
  (s.operSegs o).find? fun g => decide (g.start ≤ p ∧ p < g.stop)

/-- The gates in force (R377). -/
def State.gates (s : State) (o : Nat) : Nat :=
  if s.gated? o then (match s.gateSeg o with | some g => g.gates | none => 255) else 255

/-- Is the gate of class `c` open? -/
def State.gateOpenFor (s : State) (o c : Nat) : Bool := (s.gates o).testBit c

/-- Time until the gate of class `c` closes; none while no entry of the list closes it. -/
def State.gateLeft (s : State) (o c : Nat) : Option Nat :=
  if !s.gated? o then none
  else
    let p := s.gatePlace o
    let segs := s.operSegs o
    match segs.find? fun g => decide (p < g.stop) && !g.gates.testBit c with
    | some g => some (g.start - p)
    | none => match segs.find? fun g => !g.gates.testBit c with
      | some g => some ((s.sout o).cycle * nsUnit - p + g.start)
      | none => none

/-- GATES and INDEX show what is in force (R377). -/
def State.gateShow (o : Nat) (s : State) : State :=
  let ix := if s.gated? o then (match s.gateSeg o with | some g => g.ix | none => 0) else 0
  (s.set (SCH_OUT_STATUS_GATES o) (s.gates o)).set (SCH_GCL_STATUS_INDEX o) ix

/-! ### What an output holds -/

/-- Time of `n` octets at the MAC rate of a port. -/
def State.octetTime (s : State) (o n : Nat) : Nat := if s.gbps o = 0 then 0 else n * 8 * nsUnit / s.gbps o

/-- The copy in the slot of an output (R359). -/
def State.slotCopy (s : State) (o : Nat) : Option Copy := s.buf.copies.find? fun c => c.out == o && c.place == .slot

/-- Is an output hungry (R359, R363)? -/
def State.hungry (s : State) (o : Nat) : Bool :=
  (s.slotCopy o).isNone &&
    (if o < 48 then s.portUp o && s.siding o == 0 else if o = 48 then s.pktRoom && (s.sout o).tx.isNone else !s.framesStopped)

/-- Is class `c` of an output held by pause (R317)? -/
def State.paused (s : State) (o c : Nat) : Bool := decide (o < 48) && (s.get (PRT_STATUS_PAUSED o)).testBit c

/-- May a coach copy cut through (R366)? (DEDUCED, log entry 44) -/
def State.cutThrough (s : State) (c : Copy) : Bool :=
  decide (c.inp < 48 ∧ c.out < 48) && (s.get (SCH_OUT_CFG_CT_CLASS c.out)).testBit c.cls && decide (s.gbps c.out ≤ s.gbps c.inp)

/-- The length a copy is taken at: L, or MAX_FRAME while it is not known (R374, R378). -/
def State.copyLen (s : State) (c : Copy) : Nat :=
  match s.frame? c.frame with
  | some f => if f.ended then f.bytes.length else s.get (PRT_MAC_MAX_FRAME c.inp)
  | none => 0

def State.preempting (s : State) (o : Nat) : Bool := decide (o < 48) && s.on (PRT_STATUS_PREEMPT_ACTIVE o)

/-- The least fragment of an output, in octets (R318). -/
def State.minFrag (s : State) (o : Nat) : Nat := 64 * (1 + s.get (PRT_MAC_ADD_FRAG o))

/-- Does its gate allow a coach copy to start (R378)? -/
def State.gateAllows (s : State) (c : Copy) : Bool :=
  s.gateOpenFor c.out c.cls && (match s.gateLeft c.out c.cls with
    | none => true
    | some t => decide (s.octetTime c.out (if s.preempting c.out then s.minFrag c.out else s.copyLen c) ≤ t))

/-! ### The turntable -/

/-- The highest coach class of an output (R360). -/
def State.topCoach (s : State) (o : Nat) : Nat := ([7, 6, 5, 4, 3, 2, 1].find? fun c => !s.isMail o c).getD 0

/-- The heads the class arbiter of a depot may offer, highest class first (R360). -/
def State.heads (s : State) (d o : Nat) : List Copy :=
  [7, 6, 5, 4, 3, 2, 1, 0].filterMap fun k =>
    match (s.depotCopies d o k).find? fun c => !c.mail && c.place == .queued with
    | some c => if s.paused o k || !s.gateAllows c then none else some c
    | none => none

/-- The promoted head that became so first. -/
def firstPromoted : List Copy → Option Copy
  | [] => none
  | c :: cs => match firstPromoted cs with
    | some d => if c.promoted ≠ 0 ∧ c.promoted < d.promoted then some c else some d
    | none => if c.promoted ≠ 0 then some c else none

/-- The head a depot offers at an output, with its rank (R360). -/
def State.offer (s : State) (d o : Nat) : Option (Copy × Nat) :=
  let hs := s.heads d o
  match firstPromoted hs with
  | some c => some (c, s.topCoach o)
  | none => hs.head?.map fun c => (c, c.cls)

/-- The depot an output grants, with the head it offers (R361). -/
def State.grant (s : State) (o : Nat) : Option (Nat × Copy) :=
  if !s.hungry o then none
  else
    let offers := [0, 1, 2, 3].filterMap fun d => (s.offer d o).map fun x => (d, x)
    let top := offers.foldl (fun n x => max n x.2.2) 0
    let gp := (s.sout o).gp
    ([0, 1, 2, 3].map fun j => (gp + j) % 4).findSome? fun d =>
      (offers.find? fun x => x.1 == d && x.2.2 == top).map fun x => (d, x.2.1)

/-- A head is placed in the slot of its output (R361, R364). -/
def State.placeHead (d : Nat) (c : Copy) (s : State) : State :=
  let s := s.when (decide (c.promoted ≠ 0)) (·.count (SCH_OUT_PROMOTIONS_PROMOTIONS c.out))
  let s := s.setCopy { c with place := .slot }
  s.setSout c.out { s.sout c.out with gp := (d + 1) % 4 }

/-- The accepts of one depot: at most four, from its accept pointer on (R361). -/
def State.accepts (grants : List (Nat × Nat × Copy)) (d : Nat) (s : State) : State :=
  let ap := smAt s.sch.ap d
  let mine := ((List.range 48).map fun j => (ap + j) % 48).filterMap fun o =>
    (grants.find? fun g => g.1 == o && g.2.1 == d).map fun g => (o, g.2.2)
  let mine := mine.take 4
  let s := mine.foldl (fun s x => s.placeHead d x.2) s
  match mine.getLast? with
  | some (o, _) => { s with sch := { s.sch with ap := smPut s.sch.ap d ((o + 1) % 48) } }
  | none => s

/-- The starts of the internal outputs: one for each depot, P48 and P49 first in turn (R363). -/
def State.internalStarts (s : State) : State :=
  let order := if s.sch.turn then [49, 48] else [48, 49]
  let grants := order.filterMap fun o => (s.grant o).map fun g => (o, g)
  let s := match grants with
    | (_, d1, c1) :: (_, d2, c2) :: _ => (s.placeHead d1 c1).when (d1 != d2) (State.placeHead d2 c2)
    | [(_, d, c)] => s.placeHead d c
    | [] => s
  { s with sch := { s.sch with turn := !s.sch.turn } }

/-- Do the queues stand still: BUF or SCH gated (R80), or the device asleep? -/
def State.queuesStill (s : State) : Bool := s.gateIn 17 || s.gateIn 18 || s.asleep

/-- One iteration (R361, R363) (DEDUCED, log entry 44). -/
def State.iterate (s : State) : State :=
  if s.queuesStill then s
  else
    let grants := (List.range 48).filterMap fun o => (s.grant o).map fun g => (o, g)
    let s := s.each [0, 1, 2, 3] (State.accepts grants)
    s.internalStarts

/-- The head of a depot queue is promoted (R364) (DEDUCED, log entry 44). -/
def State.promote (d o c : Nat) (s : State) : State :=
  if s.get (SCH_OUT_CFG_AGE_THR o) = 0 ∨ s.topCoach o = c ∨ s.queuesStill then s
  else match (s.depotCopies d o c).find? fun x => !x.mail && x.place == .queued with
    | none => s
    | some x =>
      if x.promoted ≠ 0 ∨ s.paused o c ∨ !s.gateOpenFor o c ∨ (o < 48 ∧ (!s.portUp o ∨ s.siding o ≠ 0)) then s
      else
        let n := s.buf.nextId
        ({ s with buf := { s.buf with nextId := n + 1 } }).setCopy { x with promoted := n + 1 }

/-- Does a promoted head wait at an output? -/
def State.promotedWaits (s : State) (o : Nat) : Bool := s.buf.copies.any fun c => c.out == o && c.promoted != 0 &&
  c.place == .queued

/-- The copy in a slot goes back to the head of its queue when its class is held or its gate closed (R359, R381). -/
def State.slotCheck (o : Nat) (s : State) : State :=
  match s.slotCopy o with
  | some c => if s.paused o c.cls || !s.gateOpenFor o c.cls then s.setCopy { c with place := .queued } else s
  | none => s

/-! ### What leaves an output -/

/-- The mean link delay a transparent clock adds to a Sync: of a peer-delay session of the ingress port (R276). -/
def State.tcLinkDelay (s : State) (p type : Nat) : Int :=
  if s.get TSE_CFG_TC_MODE ≠ 2 ∨ type ≠ 0 then 0
  else match (List.range 192).find? fun k => s.get (SESS_STATUS_STATE k) != 0 && s.get (SESS_CFG_PORT k) == p &&
    s.get (SESS_CFG_DELAY k) == 1 with
    | some k => roundAway (s.mpd k)
    | none => 0

/-- A PTP message a transparent clock forwards through `p` (R276): the state, and the octets changed. Without stamping on either
port nothing is added (TSE_PORT_CFG.TS_EN). -/
def State.tcEdit (f : Frame) (x : Tx) (p o tr : Nat) (bs : List Octet) (s : State) : State × List Octet :=
  let type := octAt bs o % 16
  let src := numAt bs (o + 20) 10
  let seq := numAt bs (o + 30) 2
  let held := (smAt s.tse.resid p).filter fun r => decide (s.cyc ≤ r.2.2.2 + 312500000)
  let keep (l : List (Nat × Nat × Int × Nat)) (s : State) : State := { s with tse := { s.tse with resid := smPut s.tse.resid p l } }
  let miss := decide (512 < o + 16)
  let b := s.on TSE_CFG_TC_DOM
  if type = 8 then
    match held.find? fun r => r.1 == src && r.2.1 == seq with
    | none => (s.count (TSE_PORT_EVT_TC_UNMATCHED p), bs)
    | some r =>
      let s := keep (held.filter fun q => !(q.1 == src && q.2.1 == seq)) s
      if miss then (s.raise (TSE_PORT_EVT_ONE_STEP_MISS p), bs) else (s, fixChecksum bs (addCorrection bs o r.2.2.1) o tr)
  else if 4 ≤ type ∨ !s.on (TSE_PORT_CFG_TS_EN f.inp) ∨ !s.on (TSE_PORT_CFG_TS_EN p) then (s, bs)
  else match (if b then f.stampB else f.stampA) with
    | none => (s, bs)
    | some inn =>
      let res := (if b then x.stampB else x.stampA) - inn + s.tcLinkDelay f.inp type
      if (octAt bs (o + 6)).testBit 1 then (if type = 0 then (keep (((src, seq, res, s.cyc) :: held).take 64) s, bs) else (s, bs))
      else if miss then (s.raise (TSE_PORT_EVT_ONE_STEP_MISS p), bs)
      else (s, fixChecksum bs (addCorrection bs o res) o tr)

/-- An event message that the host or the firmware sends through `p` (R273, R274). -/
def State.hostEvent (x : Tx) (p o tr : Nat) (bs : List Octet) (s : State) : State × List Octet :=
  let type := octAt bs o % 16
  if 4 ≤ type ∨ !s.on (TSE_PORT_CFG_TS_EN p) then (s, bs)
  else
    let dom := s.get TSE_CFG_HOST_DOM
    let t := if dom = 0 then x.stampA else x.stampB
    if !(octAt bs (o + 6)).testBit 1 && s.on (TSE_PORT_CFG_HOST_ONE_STEP p) then
      (if 512 < o + 44 then (s.raise (TSE_PORT_EVT_ONE_STEP_MISS p), bs) else (s, oneStep bs o tr t))
    else (s.pushStamp ⟨p, octAt bs (o + 4), type, dom, numAt bs (o + 30) 2, t⟩, bs)

/-- PTP messages as they leave a port (R273, R274, R276). -/
def State.ptpEdit (f : Frame) (x : Tx) (p : Nat) (bs : List Octet) (s : State) : State × List Octet :=
  match ptpAt bs with
  | none => (s, bs)
  | some (o, tr) =>
    if 48 ≤ p ∨ !s.tseOn then (s, bs)
    else if 48 ≤ f.inp then s.hostEvent x p o tr bs
    else if s.get TSE_CFG_TC_MODE = 0 then (s, bs)
    else s.tcEdit f x p o tr bs

/-- The tag of a copy as it leaves (R328): untouched, untagged, or with the frame's VID and priority (DEDUCED, log entry 42). -/
def tagEdit (f : Frame) (o : Nat) (bs : List Octet) : List Octet :=
  if f.raw then bs
  else
    let bare := if (headerOf bs).tagged then bs.take 12 ++ bs.drop 16 else bs
    if f.untag.testBit o then bare
    else bare.take 12 ++ octetsBE 2 0x8100 ++ octetsBE 2 (f.prio * 8192 + f.dei * 4096 + f.vid) ++ bare.drop 12

/-- The octets of a copy that leaves whole: its FCS is made anew (R273, R328). -/
def State.wholeOut (f : Frame) (x : Tx) (o : Nat) (s : State) : State × List Octet :=
  let (s, bs) := s.ptpEdit f x o (tagEdit f o (f.bytes.take (f.bytes.length - 4)))
  (s, bs ++ octetsLE 4 (crc32 bs))

/-- The octets of a stomped copy: those received, at most MAX_FRAME of them, and the inverse of their FCS (R367) (DEDUCED, log
entry 42). -/
def State.stompOut (s : State) (f : Frame) (o : Nat) : List Octet :=
  let bs := (tagEdit f o f.bytes).take (s.get (PRT_MAC_MAX_FRAME f.inp))
  bs ++ octetsLE 4 (crc32 bs ^^^ 0xFFFFFFFF)

/-- A copy starts (R359, R370). -/
def State.startTx (c : Copy) (s : State) : State :=
  let x := s.sout c.out
  let s := s.setCopy { c with place := .line }
  let s := s.showCopy c
  s.setSout c.out { x with tx := some ⟨c.id, s.cyc, 0, 0, false, s.txStamp c.out 0, s.txStamp c.out 1⟩ }

/-- Octets of a copy sent so far, at the MAC rate (R318). -/
def State.sentNow (s : State) (o : Nat) (x : Tx) : Nat := x.sent + (s.cyc - x.start) * 16 * s.gbps o / 40

/-- The copies still to leave as mail on an output, in the order of R375. -/
def State.remaining (s : State) (c : Copy) : Int :=
  let d := (c.target + cSpan - (s.dom c.dom).c % cSpan) % cSpan
  if d < cSpan / 2 then (d : Int) else (d : Int) - cSpan

def mailBefore (s : State) (a b : Copy) : Bool :=
  let x := s.remaining a
  let y := s.remaining b
  decide (x < y ∨ (x = y ∧ (b.cls < a.cls ∨ (b.cls = a.cls ∧ (a.inp < b.inp ∨ (a.inp = b.inp ∧ a.id < b.id))))))

def insertMail (s : State) (c : Copy) : List Copy → List Copy
  | [] => [c]
  | d :: ds => if mailBefore s c d then c :: d :: ds else d :: insertMail s c ds

def State.mailPending (s : State) (o : Nat) : List Copy :=
  (s.buf.copies.filter fun c => c.mail && c.out == o && c.place == .queued).foldl (fun l c => insertMail s c l) []

/-- What the resequencer says of a copy (R376). -/
inductive RsqWord where
  | leave | wait | skip | stale
  deriving DecidableEq, Repr

def State.rsqWord (s : State) (c : Copy) : RsqWord :=
  match smAt s.sch.streams (streamKey c.inp c.out c.cls) with
  | none => .leave
  | some x =>
    if c.seq = x.next then .leave
    else if (c.seq + 65536 - x.next) % 65536 < 32768 then
      if s.on (SCH_OUT_CFG_LATE_ACT c.out) ∨ s.remaining c + (s.get SCH_RSQ_GAP * nsUnit : Nat) ≤ 0 then .skip else .wait
    else .stale

/-- Missing numbers are given up (R376) (DEDUCED, log entry 45). -/
def State.rsqSkip (c : Copy) (s : State) : State :=
  let key := streamKey c.inp c.out c.cls
  let old := match smAt s.sch.streams key with | some x => x.released | none => []
  let x : Stream := ⟨c.seq, old.filter fun n => decide ((n + 65536 - c.seq) % 65536 ≤ 64)⟩
  let s := { s with sch := { s.sch with streams := smPut s.sch.streams key (some x) } }
  (s.count (SCH_OUT_RSQ_SKIPS_RSQ_SKIPS c.out)).raise (SCH_OUT_EVT_RSQ_SKIP c.out)

/-- Could a mail copy begin as far as its own frame goes (R372)? -/
def State.mailReady (s : State) (c : Copy) : Bool :=
  c.fetched && (match s.frame? c.frame with
    | some f => f.ended || decide (s.gbps c.out ≤ s.gbps c.inp)
    | none => false)

/-- May a port's MAC start a frame: UP, not lost, nothing on the line (R314)? -/
def State.macFree (s : State) (o : Nat) : Bool := s.portUp o && !(s.port o).lost && (s.sout o).tx.isNone

/-- Would a coach copy of `n` octets end before the next mail departure that is known (R374)? (DEDUCED, log entry 44) -/
def State.mailFits (s : State) (o n : Nat) : Bool :=
  s.preempting o || (s.mailPending o).all fun c =>
    if c.late then !(s.mailReady c && (s.rsqWord c == .leave || s.rsqWord c == .skip))
    else decide ((s.octetTime o (n + 20) : Int) ≤ s.remaining c)

/-- The copy in a slot starts, when it can (R359, R366, R374, R378, R381, R382) (DEDUCED, log entry 44). -/
def State.slotStart (o : Nat) (s : State) : State :=
  if s.queuesStill then s
  else
    let s := s.when (decide (o < 48)) (State.slotCheck o)
    match s.slotCopy o with
    | none => s
    | some c =>
      let whole : Bool := match s.frame? c.frame with | some f => f.ended | none => false
      if 48 ≤ o then (if whole ∧ (s.sout o).tx.isNone then s.startTx c else s)
      else if !s.macFree o ∨ (s.sout o).cut.isSome ∨ s.on (SCH_OUT_STATUS_HOLD o) ∨ s.siding o ≠ 0 then s
      else if !(whole || s.cutThrough c) ∨ !s.gateAllows c ∨ !s.mailFits o (s.copyLen c) then s
      else s.startTx c

/-! ### Holding coach aside -/

/-- The hold time h (R373). -/
def State.holdSpan (s : State) (o : Nat) : Nat := s.octetTime o (s.minFrag o + 87)

/-- The pause frames that waited leave behind a frame or fragment (R351). -/
def State.pausesOut (o : Nat) (s : State) : State :=
  let x := s.sout o
  x.pauses.foldl (fun s k => s.pauseSend o k) (s.setSout o { x with pauses := [] })

/-- The coach copy on the line is preempted, if what it has sent and what remains allow it (R318). -/
def State.preempt (o : Nat) (s : State) : State :=
  let x := s.sout o
  match x.tx with
  | none => s
  | some t => match s.copy? t.copy with
    | none => s
    | some c =>
      let sent := max (s.sentNow o t) (t.sent + s.minFrag o - 4)
      if c.mail ∨ s.copyLen c < sent + 64 then s
      else
        let s := (s.countPort o 19 1).countPort o 20 1
        let s := s.setCopy { c with place := .cut }
        (s.setSout o { x with tx := none, cut := some { t with sent := sent, preempts := t.preempts + 1 } }).pausesOut o

/-- A preempted copy goes on, when nothing holds it (R318, R373, R378). -/
def State.resume (o : Nat) (s : State) : State :=
  let x := s.sout o
  match x.cut, x.tx with
  | some t, none =>
    match s.copy? t.copy with
    | none => s
    | some c =>
      if s.on (SCH_OUT_STATUS_HOLD o) ∨ !s.gateOpenFor o c.cls ∨ !s.portUp o ∨ (s.port o).lost then s
      else (s.setCopy { c with place := .line }).setSout o { x with tx := some { t with start := s.cyc }, cut := none }
  | _, _ => s

/-- The timetable asserts the hold (R373). -/
def State.holdAssert (o : Nat) (s : State) : State :=
  if !s.preempting o ∨ s.queuesStill ∨ (s.mailPending o).isEmpty then s
  else (s.set (SCH_OUT_STATUS_HOLD o) 1).preempt o

/-- The hold is released when no mail frame is on the line or due in it (R373) (DEDUCED, log entry 44). -/
def State.holdEval (o : Nat) (s : State) : State :=
  if !s.on (SCH_OUT_STATUS_HOLD o) then s
  else
    let sending : Bool := match (s.sout o).tx with
      | some t => (match s.copy? t.copy with | some c => c.mail | none => false)
      | none => false
    let due := (s.mailPending o).any fun c => decide (s.remaining c ≤ s.holdSpan o)
    if sending ∨ due then s else (s.set (SCH_OUT_STATUS_HOLD o) 0).resume o

/-- The gates of an output change (R359, R377, R378, R381). -/
def State.gatesMove (o : Nat) (s : State) : State :=
  if s.gateIn 18 then s else
  let s := (s.gateShow o).slotCheck o
  let closed := match (s.sout o).tx with
    | some t => (match s.copy? t.copy with | some c => !c.mail && !s.gateOpenFor o c.cls | none => false)
    | none => false
  let s := s.when (closed && s.preempting o) (State.preempt o)
  s.resume o

/-! ### Mail -/

/-- A mail copy is late (R374). -/
def State.makeLate (c : Copy) (s : State) : State :=
  if c.late then s
  else
    let o := c.out
    let s := s.raise (SCH_OUT_EVT_LATE o)
    if s.on (SCH_OUT_CFG_LATE_ACT o) then (s.freeCopy c).count (SCH_OUT_MAIL_LATE_DISC_MAIL_LATE_DISC o)
      else s.setCopy { c with late := true }

/-- A mail copy departs (R369, R370, R374) (DEDUCED, log entry 45). -/
def State.mailStart (c : Copy) (shifted : Bool) (s : State) : State :=
  let o := c.out
  let s := s.count (SCH_OUT_MAIL_SENT_MAIL_SENT o)
  let s := if c.late then s.count (SCH_OUT_MAIL_LATE_MAIL_LATE o) else s.when shifted (·.count (SCH_OUT_FEC_SHIFT_FEC_SHIFT o))
  (s.releaseSeq c).startTx c

/-- A mail copy whose moment has come (R374, R375, R376). -/
def State.mailTurn (shifted : Bool) (id : Nat) (s : State) : State :=
  match s.copy? id with
  | none => s
  | some c =>
    let o := c.out
    match s.rsqWord c with
    | .stale => (s.freeCopy c).count (SCH_OUT_RSQ_STALE_RSQ_STALE o)
    | .wait =>
      let s := s.when (!c.waited) (·.count (SCH_OUT_RSQ_WAITS_RSQ_WAITS o))
      let c := { c with waited := true }
      (s.setCopy c).makeLate c
    | .leave => if s.macFree o ∧ s.mailReady c then s.mailStart c shifted else s.makeLate c
    | .skip =>
      let s := s.rsqSkip c
      if s.macFree o ∧ s.mailReady c then s.mailStart c shifted else s.makeLate c

/-- A start position at or after the target of the next mail copy (R354, R370 to R376, R382) (DEDUCED, log entry 44). -/
def State.mailDue (o : Nat) (shifted : Bool) (s : State) : State :=
  if s.queuesStill || s.siding o == 2 then s
  else match s.mailPending o with
    | [] => s
    | c0 :: cs =>
      let t := max 0 (s.remaining c0)
      let due := (c0 :: cs).filter fun c => decide (s.remaining c ≤ t)
      let s :=
        if s.portUp o then due.foldl (fun s c => s.mailTurn shifted c.id) s
        else due.foldl (fun s c => (s.freeCopy c).count (BUF_OUT_SIDING_MAIL_DISC_SIDING_MAIL_DISC o)) s
      s.holdEval o

/-- The fetch of the next mail copy begins (R372). -/
def State.mailFetch (o : Nat) (s : State) : State :=
  match (s.mailPending o).find? fun c => !c.fetched with
  | some c => if s.queuesStill then s else s.setCopy { c with fetched := true }
  | none => s

/-- A waiting copy reaches target plus GAP (R376, R381). -/
def State.rsqTimeout (o : Nat) (s : State) : State :=
  match (s.mailPending o).find? fun c => c.waited && s.rsqWord c != .leave with
  | none => s
  | some c =>
    let next := match smAt s.sch.streams (streamKey c.inp o c.cls) with | some x => x.next | none => 0
    let come := (s.mailPending o).any fun d => d.inp == c.inp && d.cls == c.cls && d.seq == next && d.adm == s.cyc
    if come ∨ s.queuesStill then s else s.rsqSkip c

/-- A stream has had no copy queued for 1 s (R376) (DEDUCED, log entry 45). -/
def State.streamIdle (i o c : Nat) (s : State) : State :=
  if s.buf.copies.any fun x => x.mail && x.inp == i && x.out == o && x.cls == c && x.place == .queued then s
  else { s with sch := { s.sch with streams := smPut s.sch.streams (streamKey i o c) none } }

/-! ### The end of a frame -/

/-- The octets of the coach frame that waits for the line: what is left of a preempted copy, or the copy in the slot. -/
def State.coachWaits (s : State) (o : Nat) : Option Nat :=
  match (s.sout o).cut with
  | some t => (s.copy? t.copy).map fun c => s.copyLen c - t.sent
  | none => (s.slotCopy o).map s.copyLen

/-- What goes with the end of a frame on a port: pause frames that waited, the marker that is due, the hold, the copy that was
preempted (R294, R351, R373). -/
def State.lineFree (o : Nat) (s : State) : State :=
  let s := s.pausesOut o
  let s := s.when s.cplOn (State.markerFree o (s.coachWaits o))
  (s.holdEval o).resume o

/-- The octets of a copy as it leaves, whole or stomped. -/
def State.lastOut (f : Frame) (x : Tx) (o : Nat) (s : State) : State × List Octet :=
  if x.stomp then (s, s.stompOut f o) else s.wholeOut f x o

/-- The octets that a port in a near-end loopback is about to return to its receiver, and how they end (R319). -/
def State.loopOut (s : State) (o : Nat) : Option (List Octet × FrameEnd) :=
  match (s.sout o).tx with
  | none => none
  | some x => ((s.copy? x.copy).bind fun c => s.frame? c.frame).bind fun f =>
    if o < 48 ∧ s.nearLoop o ∧ f.ended ∧ !s.gateIn 17 then some ((s.lastOut f x o).2, if x.stomp then .bad else .good) else none

/-- The receive stamps that go with a frame to P48 or P49 (R274): none of an event message on a port without stamping. -/
def State.stampsOf (s : State) (f : Frame) : Option Int × Option Int :=
  let event := match ptpAt f.bytes with | some (o, _) => decide (octAt f.bytes o % 16 < 4) | none => false
  if event && decide (f.inp < 48) && !s.on (TSE_PORT_CFG_TS_EN f.inp) then (none, none) else (f.stampA, f.stampB)

/-- A stamp among the numbers of an emission: whether there is one, and the stamp. -/
def stampNums : Option Int → List Int
  | some t => [1, t]
  | none => [0, 0]

/-- The last octet of a copy leaves its output (R322, R340, R367, R385). -/
def State.txEnd (o : Nat) (s : State) : State :=
  match (s.sout o).tx with
  | none => s
  | some x => match s.copy? x.copy with
    | none => s
    | some c => match s.frame? c.frame with
      | none => s
      | some f =>
        if !f.ended ∨ s.gateIn 17 then s
        else
          let (s, bs) := s.lastOut f x o
          let s := s.setSout o { s.sout o with tx := none }
          let s := s.when (decide (o < 48) && s.macOpen o) fun s =>
            let s := (s.emit .frame o [if x.stomp then 1 else 0] bs).countTx o bs.length (headerOf bs).da
            let s := s.when x.stomp (State.countPort o 18 1)
            s.when (decide (0 < x.preempts)) (State.countPort o 20 1)
          let s := s.when (decide (o = 48)) (State.pktDeliver bs f.inp (c.cls * 32) (s.stampsOf f).1 (s.stampsOf f).2)
          let s := s.when (decide (o = 49)) fun s =>
            (s.emit .frame 49 ((f.inp : Int) :: (stampNums (s.stampsOf f).1 ++ stampNums (s.stampsOf f).2)) bs).ptpToA f.inp bs
          let s := s.when x.stomp fun s => (s.count (SCH_OUT_STOMPED_STOMPED o)).raise (SCH_OUT_EVT_STOMP o)
          let s := s.mirEgress f o c.cls c.mail x.stomp x.stampA bs
          let s := s.freeCopy c
          s.when (decide (o < 48)) (State.lineFree o)

/-- A copy on the line, or preempted there, is cut short (R368): with /E/ at BASE-R rates, with /V/ and /T/R/ at 1000BASE-X; while
BUF is gated its cells stay charged. -/
def State.cutOne (o : Nat) (x : Tx) (s : State) : State :=
  match s.copy? x.copy with
  | none => s
  | some c => match s.frame? c.frame with
    | none => s
    | some f =>
      let bs := (tagEdit f o f.bytes).take (s.sentNow o x)
      let s := s.when (s.macOpen o) (State.emit · .frame o [if (s.port o).rate = 1 then 3 else 2] bs)
      let s := (s.count (SCH_OUT_CUT_SHORT_CUT_SHORT o)).raise (SCH_OUT_EVT_CUT_SHORT o)
      let s := s.mirEgress f o c.cls c.mail true x.stampA bs
      s.when (!s.gateIn 17) (State.freeCopy c)

/-- The transmission of a port ends at once (R314, R368). -/
def State.cutShort (o : Nat) (s : State) : State :=
  let x := s.sout o
  let s := s.setSout o { x with tx := none, cut := none, pauses := [] }
  let s := match x.tx with | some t => s.cutOne o t | none => s
  let s := match x.cut with | some t => s.cutOne o t | none => s
  s.set (SCH_OUT_STATUS_HOLD o) 0

/-- A frame has been found bad (R343, R367): copies that have begun are stomped, the others discarded. -/
def State.frameBad (id : Nat) (s : State) : State :=
  (s.copiesOf id).foldl (fun s c =>
    match c.place with
    | .queued => s.freeCopy c
    | .slot => s.freeCopy c
    | _ =>
      let x := s.sout c.out
      let mark (t : Tx) : Tx := if t.copy = c.id then { t with stomp := true } else t
      s.setSout c.out { x with tx := x.tx.map mark, cut := x.cut.map mark }) s

/-- What stood still while BUF was gated, once the gate opens (R80, R343): copies cut short on their line go, and frames whose end
came meanwhile are bad. -/
def State.bufReopen (s : State) : State :=
  let sends (c : Copy) : Bool := [(s.sout c.out).tx, (s.sout c.out).cut].any fun t => t.map (·.copy) == some c.id
  let lost := s.buf.copies.filter fun c => (c.place == .line || c.place == .cut) && !sends c
  let s := lost.foldl (fun s c => s.freeCopy c) s
  (s.buf.frames.filter fun f => f.ended && f.bad).foldl (fun s f => (s.frameBad f.id).frameGone f.id) s

/-! ### Gate list commands -/

/-- BASE as the registers hold it, in ns (R379). -/
def State.gclBase (s : State) (o : Nat) : Nat :=
  ((s.rd (SCH_GCL_BASE_SEC_LO o)).toNat + s.get (SCH_GCL_BASE_SEC_HI_SEC_HI o) * 2 ^ 32) * 10 ^ 9 + s.get (SCH_GCL_BASE_NS_NS o)

/-- The change time: BASE, or the first BASE + n × CYCLE that lies at least 1 µs ahead (R379); in ns. -/
def State.changeTime (s : State) (o : Nat) : Nat :=
  let base := s.gclBase o
  let cycle := s.get (SCH_GCL_CYCLE_CYCLE o)
  let t := (s.domTime (s.get SCH_CFG_DOM) + nsUnit - 1) / nsUnit + 1000
  if t ≤ base ∨ cycle = 0 then base else base + (t - base + cycle - 1) / cycle * cycle

/-- CHANGE (R379) (DEDUCED, log entry 74). -/
def State.gclSchedule (o : Nat) (s : State) : State :=
  let x := s.sout o
  let s := s.setSout o { x with change := some (s.changeTime o, s.get (SCH_GCL_CFG_LEN o), s.gclBase o,
    s.get (SCH_GCL_CYCLE_CYCLE o)) }
  s.set (SCH_GCL_STATUS_PENDING o) 1

/-- The change time has come: it lies in this cycle or before it (R379). -/
def State.gclSwap (o : Nat) (s : State) : State :=
  let x := s.sout o
  match x.change with
  | none => s
  | some (t, len, base, cycle) =>
    let d := s.get SCH_CFG_DOM
    if s.gateIn 18 ∨ s.domTime d + (s.dom d).inc ≤ t * nsUnit then s else
    let s := s.each (List.range 128) fun e t =>
      (t.wr (SCH_GATE_OPER o e) (t.rd (SCH_GATE_ADMIN o e))).wr (SCH_INTV_OPER o e) (t.rd (SCH_INTV_ADMIN o e))
    let s := s.setSout o { x with base := base, cycle := cycle, change := none }
    let s := (s.set (SCH_GCL_STATUS_OPER_LEN o) len).set (SCH_GCL_STATUS_PENDING o) 0
    (s.raise (SCH_OUT_EVT_GCL_SWAP o)).gatesMove o

end Sys2Proof.Machine
end

