-- ==== Sys2Proof/Machine/Forward.lean ====
section
/-! DEFINITION. The commands of a port's receive side and of the tables (chapters 14 and 15): a frame's head and tail, table
operations, ageing. -/

namespace Sys2Proof.Machine

/-! ### Frames received -/

/-- The receive stamp of a frame in a domain, where R267 forms one. -/
def State.arrivalStamp (s : State) (p d : Nat) (m : RxMark) : Option Int :=
  if s.tseOn && s.lockSeen p && !s.on (TSE_PORT_STATUS_RX_NOPHASE p) then s.rxStamp p d m else none

/-- Counter C at the arrival, in units of 2^-40 ns: the receive stamp less E, or C now where no stamp is formed (R340, R369)
(DEDUCED, log entry 42). -/
def State.arrivalCount (s : State) (p d : Nat) (m : RxMark) : Nat :=
  match s.arrivalStamp p d m with
  | some t => ((t * 2 ^ 24 - ((s.dom d).e * secUnit : Nat)) % (cSpan : Int)).toNat
  | none => (s.dom d).c

/-- A frame that has begun to arrive. -/
def State.newFrame (s : State) (p : Nat) (head : List Octet) : Frame :=
  { (default : Frame) with
    id := s.buf.nextId, inp := p, bytes := head }

/-- A frame enters the device. -/
def State.addFrame (f : Frame) (s : State) : State :=
  { s with buf := { s.buf with frames := s.buf.frames ++ [f], nextId := s.buf.nextId + 1 } }

/-- The head of a frame on a port (R80, R326, R340). -/
def State.frameHead (p : Nat) (head : List Octet) (m : RxMark) (s : State) : State :=
  let x := s.port p
  if !s.portUp p ∨ x.lost ∨ x.rx.isSome then s
  else
    let f := { s.newFrame p head with
      stampA := s.arrivalStamp p 0 m, stampB := s.arrivalStamp p 1 m, cA := s.arrivalCount p 0 m, cB := s.arrivalCount p 1 m }
    let s := s.setPort p { x with rx := some f.id }
    if s.framesStopped then s.addFrame { f with gateDrop := true }
    else if s.stageOne p head then s.addFrame { f with consumed := true }
    else
      let (s, f, outs) := s.pipeline f
      (s.addFrame f).admission f.id outs

/-- Counting of a received frame (R316, R318, R322): is it good? (DEDUCED, log entry 42) -/
def State.countRx (p : Nat) (f : Frame) (kind : FrameEnd) (frags : Nat) (s : State) : State × Bool :=
  let n := f.bytes.length
  let da := (headerOf f.bytes).da
  let s := if frags = 0 then s else s.countPort p 10 frags
  if kind = .assembly then (s.countPort p 12 1, false)
  else
    let s := if frags = 0 then s else s.countPort p 11 1
    if n < 64 then (s.countPort p 5 1, false)
    else if s.get (PRT_MAC_MAX_FRAME p) < n then (s.countPort p 6 1, false)
    else if kind = .bad then (s.countPort p 4 1, false)
    else
      let s := (s.countPort p 0 1).countPort p 1 n
      let s := if isBroadcast da then s.countPort p 3 1 else if isMulticast da then s.countPort p 2 1 else s
      (s.when f.gateDrop (State.countPort p 9 1), true)

/-- What the receiver found on the line is counted (R322). -/
def State.countLine (p : Nat) (e : LineErrs) (s : State) : State :=
  ((s.countPort p 21 e.corrected).countPort p 22 e.uncorrected).countPort p 23 e.blocks

/-- The rest of a frame, and how it ended (R343, R367, R385); while BUF is gated it is dropped, and its copies go once the gate
opens (R80) (DEDUCED, log entry 42). -/
def State.frameTail (p : Nat) (bytes : List Octet) (kind : FrameEnd) (frags : Nat) (s : State) : State :=
  let x := s.port p
  match x.rx with
  | none => s
  | some id =>
    let s := s.setPort p { x with rx := none }
    match s.frame? id with
    | none => s
    | some f =>
      let still := s.gateIn 17
      let f := { f with bytes := f.bytes ++ bytes, gateDrop := f.gateDrop || still }
      let (s, ok) := s.countRx p f kind frags
      let f := { f with
        ended := true, bad := !ok || still }
      let s := s.setFrame f
      if still then (s.when ok (State.mirIngress f)).frameGone id
      else if ok then ((s.recharge f).mirIngress f).frameGone id else (s.frameBad id).frameGone id

/-- A frame that is arriving is cut off by the loss of PCS lock (R367). -/
def State.frameCut (p : Nat) (s : State) : State :=
  if (s.port p).rx.isSome then s.frameTail p [] .bad 0 else s

/-- A frame from P48 or P49 enters whole (R32, R338): through the pipeline, or to the output and in the class it names. -/
def State.internalFrame (p : Nat) (bytes : List Octet) (named : Option (Nat × Nat)) (s : State) : State :=
  let f := { s.newFrame p bytes with
    ended := true, cA := (s.dom 0).c, cB := (s.dom 1).c }
  match named with
  | some (o, c) =>
    let f := { f with raw := true, cls := c }
    let s := (s.addFrame f).admission f.id (2 ^ o)
    match s.frame? f.id with
    | some g => ((s.recharge g).mirIngress g).frameGone f.id
    | none => s
  | none =>
    let (s, f, outs) := s.pipeline f
    let s := (s.addFrame f).admission f.id outs
    match s.frame? f.id with
    | some g => ((s.recharge g).mirIngress g).frameGone f.id
    | none => s

/-! ### The tables' command register -/

/-- A write of FWD_TBL_CMD (R337): BUSY reads 1 to the end of the cycle (DEDUCED, log entry 41). -/
def State.tblCmdWrite (m : Master) (v : Word) (r : RegRow) (s : State) : State :=
  let go := v.getLsbD 31
  if go && s.on FWD_TBL_CMD_BUSY then s.refuseWrite m FWD_TBL_CMD
  else
    let s := s.plainWrite m FWD_TBL_CMD (v &&& 0x7FFFFFFF#32) r
    s.when go fun t => t.tblOp.set FWD_TBL_CMD_BUSY 1

/-- A write of FWD_PORT_CFG of a front port: a MAIL_MAP with more than two bits set is out of range (R25, R333). -/
def State.mailMapWrite (m : Master) (p : Nat) (v : Word) (r : RegRow) (s : State) : State :=
  let f := FWD_PORT_CFG_MAIL_MAP p
  if (bitsOf (fieldOf f v) 8).length ≤ 2 then s.plainWrite m (FWD_PORT_CFG p) v r
  else (s.plainWrite m (FWD_PORT_CFG p) (keepField s f v) r).badRange m (FWD_PORT_CFG p)

/-! ### Commands -/

/-- FRAME_RECEIVE (R326); in a near-end loopback the line input is ignored (R319). -/
def execFrameReceive (p : Nat) (head : List Octet) (m : RxMark) (s : State) : Host.Outcome State Fault Refusal :=
  .next (s.when (decide (p < 48) && !s.nearLoop p) (State.frameHead p head m))

/-- FRAME_TAIL_ARRIVAL (R343). -/
def execFrameTailArrival (p : Nat) (bytes : List Octet) (kind : FrameEnd) (frags : Nat) (errs : LineErrs) (s : State) :
    Host.Outcome State Fault Refusal :=
  .next (s.when (decide (p < 48) && !s.nearLoop p) fun t => (t.countLine p errs).frameTail p bytes kind frags)

/-- TABLE_READ (R337). -/
def execTableRead (m : Master) (v : Word) (s : State) : Host.Outcome State Fault Refusal :=
  .next (State.access m FWD_TBL_CMD (State.tblCmdWrite m v) s)

/-- TABLE_WRITE_OP (R337). -/
def execTableWriteOp (m : Master) (v : Word) (s : State) : Host.Outcome State Fault Refusal :=
  .next (State.access m FWD_TBL_CMD (State.tblCmdWrite m v) s)

/-- TABLE_INSERT (R337). -/
def execTableInsert (m : Master) (v : Word) (s : State) : Host.Outcome State Fault Refusal :=
  .next (State.access m FWD_TBL_CMD (State.tblCmdWrite m v) s)

/-- TABLE_DELETE (R337). -/
def execTableDelete (m : Master) (v : Word) (s : State) : Host.Outcome State Fault Refusal :=
  .next (State.access m FWD_TBL_CMD (State.tblCmdWrite m v) s)

/-- TABLE_LOOKUP (R337). -/
def execTableLookup (m : Master) (v : Word) (s : State) : Host.Outcome State Fault Refusal :=
  .next (State.access m FWD_TBL_CMD (State.tblCmdWrite m v) s)

/-- TABLE_FLUSH (R337). -/
def execTableFlush (m : Master) (v : Word) (s : State) : Host.Outcome State Fault Refusal :=
  .next (State.access m FWD_TBL_CMD (State.tblCmdWrite m v) s)

/-- AGEING_SWEEP (R335). -/
def execAgeingSweep (s : State) : Host.Outcome State Fault Refusal := .next s.ageSweep

end Sys2Proof.Machine
end

