-- ==== Sys2Proof/Machine/Schedule.lean ====
section
/-! DEFINITION. The commands of the buffers, the scheduler and the mirror (chapters 16 to 18), and the marker that waits for a
frame to end (R294). -/

namespace Sys2Proof.Machine

/-! ### Register writes -/

/-- Registers given up to their Reset values. -/
def State.clearRegs (p : Nat → Bool) (s : State) : State := { s with regs := s.regs.filter fun x => !p x.1 }

/-- Is an address a counter of BUF (R357)? -/
def isBufCounter (a : Nat) : Bool :=
  (decide (0x250000 ≤ a ∧ a < 0x258000) && (a % 16 == 8 || a % 16 == 12)) ||
    (decide (0x241000 ≤ a ∧ a < 0x241C80) && decide (0x10 ≤ a % 0x40 ∧ a % 0x40 ≤ 0x24)) ||
    (decide (0x242000 ≤ a ∧ a < 0x242600) && a % 0x20 == 0xC)

/-- Is an address a counter of SCH (R383)? -/
def isSchCounter (a : Nat) : Bool := decide (0x281000 ≤ a ∧ a < 0x284200) && decide (0x10 ≤ a % 0x100 ∧ a % 0x100 ≤ 0x34)

/-- Is an address a counter of MIR (R389)? -/
def isMirCounter (a : Nat) : Bool := decide (0x2C0048 ≤ a ∧ a ≤ 0x2C0054)

/-- PEAK fields begin again from what is used now (R357) (DEDUCED, log entry 43). -/
def State.clearPeaks (s : State) : State :=
  let f (x : Nat × Word) : Nat × Word :=
    if decide (0x250000 ≤ x.1 ∧ x.1 < 0x258000) && x.1 % 16 == 4 then (x.1, putBits x.2 16 15 (getBits x.2 0 15))
    else if x.1 = BUF_MAIL_STATUS then (x.1, putBits x.2 16 14 (getBits x.2 0 14))
    else x
  { s with regs := (s.regs.map f).filter fun x => x.2 != resetWord x.1 }

/-- BUF_CTRL (R357). -/
def State.bufCtrlWrite (v : Word) (_ : RegRow) (s : State) : State :=
  (s.when (v.getLsbD 0) (State.clearRegs isBufCounter)).when (v.getLsbD 1) State.clearPeaks

/-- BUF_Q_CFG (R344): a reservation that does not fit its depot is out of range. -/
def State.bufQCfgWrite (m : Master) (d q : Nat) (v : Word) (r : RegRow) (s : State) : State :=
  let a := BUF_Q_CFG d q
  let f := BUF_Q_CFG_RSV d q
  let total := s.rsvTotal d - s.get f + fieldOf f v
  let beyond := decide (16384 < total + s.get (BUF_DEP_CFG_HEADROOM d))
  let s := s.plainWrite m a (if beyond then keepField s f v else v) r
  let s := s.when beyond (State.badRange m a)
  (s.set (BUF_DEP_STATUS2_RSV_TOTAL d) (s.rsvTotal d)).lowerRsv d q

/-- BUF_DEP_CFG (R344). -/
def State.bufDepWrite (m : Master) (d : Nat) (v : Word) (r : RegRow) (s : State) : State :=
  if 16384 < s.get (BUF_DEP_STATUS2_RSV_TOTAL d) + fieldOf (BUF_DEP_CFG_HEADROOM d) v then s.badRange m (BUF_DEP_CFG d)
  else s.plainWrite m (BUF_DEP_CFG d) v r

/-- BUF_IN_CFG: XON lies below the XOFF that stands (R25, R351); where neither XON would, the word sets neither (DESIGN CHOICE, log
entry 90). -/
def State.bufInWrite (m : Master) (i : Nat) (v : Word) (r : RegRow) (s : State) : State :=
  let a := BUF_IN_CFG i
  let fx := BUF_IN_CFG_XOFF i
  let fn := BUF_IN_CFG_XON i
  let xoff := getBits (writeFields r.fields (s.rd a) v).1 fx.lo fx.width
  let above := decide (xoff ≤ fieldOf fn v)
  let v := if !above then v else if s.get fn < xoff then keepField s fn v else keepFields s [fn, fx] v
  let told := (writeFields r.fields (s.rd a) v).2
  ((s.plainWrite m a v r).when (above && !told) (State.badRange m a)).xoffEval i

/-- BUF_IN_PRIO (R351). -/
def State.bufPrioWrite (m : Master) (i : Nat) (v : Word) (r : RegRow) (s : State) : State :=
  (s.plainWrite m (BUF_IN_PRIO i) v r).xoffEval i

/-- BUF_OUT_GRACE (R356). -/
def State.graceWrite (m : Master) (o : Nat) (v : Word) (r : RegRow) (s : State) : State :=
  (s.plainWrite m (BUF_OUT_GRACE o) v r).graceCheck o

/-- SCH_CTRL (R383). -/
def State.schCtrlWrite (v : Word) (_ : RegRow) (s : State) : State := s.when (v.getLsbD 0) (State.clearRegs isSchCounter)

/-- A write to the admin bank, BASE or CYCLE of an output (R379). -/
def State.adminWrite (m : Master) (o a : Nat) (v : Word) (r : RegRow) (s : State) : State :=
  if s.on (SCH_GCL_STATUS_PENDING o) then s.refuseWrite m a else s.plainWrite m a v r

/-- SCH_GCL_CFG (R377, R379): LEN belongs to the admin list, EN takes effect at once. -/
def State.gclCfgWrite (m : Master) (o : Nat) (v : Word) (r : RegRow) (s : State) : State :=
  let a := SCH_GCL_CFG o
  let f := SCH_GCL_CFG_LEN o
  let locked := s.on (SCH_GCL_STATUS_PENDING o) && changes s f v
  let s := s.when locked (State.refuseWrite m a)
  (s.plainWrite m a (if locked then keepField s f v else v) r).gatesMove o

/-- SCH_GCL_CTRL (R379). -/
def State.gclCtrlWrite (m : Master) (o : Nat) (v : Word) (_ : RegRow) (s : State) : State :=
  if !v.getLsbD 0 then s
  else if s.on (SCH_GCL_STATUS_PENDING o) then s.refuseWrite m (SCH_GCL_CTRL o)
  else s.gclSchedule o

/-- MIR_CFG (R389): SLOT and RULE_DIR are taken while EN reads 0, or in the write that clears it. -/
def State.mirCfgWrite (m : Master) (v : Word) (r : RegRow) (s : State) : State :=
  let was := s.on MIR_CFG_EN
  let en := v.getLsbD 0
  let fs := [MIR_CFG_SLOT, MIR_CFG_RULE_DIR]
  let locked := was && en && fs.any fun f => changes s f v
  let s := s.when locked (State.refuseWrite m MIR_CFG)
  let s := s.plainWrite m MIR_CFG (if locked then keepFields s fs v else v) r
  if !was && en then s.mirStart else if was && !en then s.mirOff else s

/-- The ring's base and length: taken only while EN reads 0. -/
def State.mirRingWrite (m : Master) (a : Nat) (v : Word) (r : RegRow) (s : State) : State :=
  if s.on MIR_CFG_EN then s.refuseWrite m a else s.plainWrite m a v r

/-- MIR_RING_RD (R389, R391): 0 to LEN - 1. -/
def State.ringRdEffect (m : Master) (v : Word) (r : RegRow) (s : State) : State :=
  if s.get MIR_RING_LEN_LEN ≤ fieldOf MIR_RING_RD_RD v ∧ fieldOf MIR_RING_RD_RD v ≠ 0 then s.badRange m MIR_RING_RD
  else (s.plainWrite m MIR_RING_RD v r).when s.mirOn State.mirResume

/-- MIR_CTRL. -/
def State.mirCtrlWrite (v : Word) (_ : RegRow) (s : State) : State := s.when (v.getLsbD 0) (State.clearRegs isMirCounter)

/-- XOFF_STATE still set when half the quanta time has passed (R351). -/
def State.pauseAgain (p : Nat) (s : State) : State :=
  s.when (s.on (BUF_IN_STATUS_XOFF_STATE p) && !s.gateIn 17) (State.pauseWant p 1)

/-- A further PAUSE_WD ms after a watchdog release (R352). -/
def State.watchdogEnd (o c : Nat) (s : State) : State :=
  if s.gateIn 17 then s else s.set (BUF_OUT_STATUS_WD_ACTIVE o) (putBit (s.get (BUF_OUT_STATUS_WD_ACTIVE o)) c false)

/-- The last octet of a copy leaves its output; in a near-end loopback its octets come back to the receiver (R319) (DESIGN CHOICE,
log entry 92). -/
def State.sendEnd (o : Nat) (s : State) : State :=
  let t := s.txEnd o
  match s.loopOut o with
  | some (bs, k) => (t.frameHead o bs default).frameTail o [] k 0
  | none => t

/-! ### Commands -/

/-- PAUSE_RESEND (R351). -/
def execPauseResend (p : Nat) (s : State) : Host.Outcome State Fault Refusal :=
  .next (s.when (decide (p < 48)) (State.pauseAgain p))

/-- PAUSE_WATCHDOG_END (R352). -/
def execPauseWatchdogEnd (o : Nat) (c : Nat) (s : State) : Host.Outcome State Fault Refusal :=
  .next (s.when (decide (o < 48 ∧ c < 8)) (State.watchdogEnd o c))

/-- GRACE_EXPIRY (R353). -/
def execGraceExpiry (o : Nat) (s : State) : Host.Outcome State Fault Refusal := .next (s.when (decide (o < 48)) (State.graceEnd o))

/-- FLUSH_COMPLETE (R355). -/
def execFlushComplete (o : Nat) (s : State) : Host.Outcome State Fault Refusal :=
  .next (s.when (decide (o < 48)) (State.flushEnd o))

/-- BUF_CLEAR_COUNTS (R357). -/
def execBufClearCounts (m : Master) (v : Word) (s : State) : Host.Outcome State Fault Refusal :=
  .next (State.access m BUF_CTRL (State.bufCtrlWrite v) s)

/-- TURNTABLE_ITERATION (R361). -/
def execTurntableIteration (s : State) : Host.Outcome State Fault Refusal := .next s.iterate

/-- PROMOTION (R364). -/
def execPromotion (d : Nat) (o : Nat) (c : Nat) (s : State) : Host.Outcome State Fault Refusal :=
  .next (s.when (decide (d < 4 ∧ o < 50 ∧ c < 8)) (State.promote d o c))

/-- SLOT_START (R359). -/
def execSlotStart (o : Nat) (s : State) : Host.Outcome State Fault Refusal := .next (s.when (decide (o < 50)) (State.slotStart o))

/-- MAIL_FETCH (R372). -/
def execMailFetch (o : Nat) (s : State) : Host.Outcome State Fault Refusal := .next (s.when (decide (o < 48)) (State.mailFetch o))

/-- HOLD_ASSERT (R373). -/
def execHoldAssert (o : Nat) (s : State) : Host.Outcome State Fault Refusal := .next (s.when (decide (o < 48)) (State.holdAssert o))

/-- MAIL_DEPARTURE (R370). -/
def execMailDeparture (o : Nat) (shifted : Bool) (s : State) : Host.Outcome State Fault Refusal :=
  .next (s.when (decide (o < 48)) (State.mailDue o shifted))

/-- RESEQUENCER_GAP_TIMEOUT (R376). -/
def execResequencerGapTimeout (o : Nat) (s : State) : Host.Outcome State Fault Refusal :=
  .next (s.when (decide (o < 48)) (State.rsqTimeout o))

/-- STREAM_IDLE (R376). -/
def execStreamIdle (i : Nat) (o : Nat) (c : Nat) (s : State) : Host.Outcome State Fault Refusal :=
  .next (s.when (decide (i < 50 ∧ o < 48 ∧ c < 8)) (State.streamIdle i o c))

/-- GCL_CHANGE (R379). -/
def execGclChange (m : Master) (o : Nat) (v : Word) (s : State) : Host.Outcome State Fault Refusal :=
  .next (s.when (decide (o < 48)) (State.access m (SCH_GCL_CTRL o) (State.gclCtrlWrite m o v)))

/-- GCL_SWAP (R379). -/
def execGclSwap (o : Nat) (s : State) : Host.Outcome State Fault Refusal := .next (s.when (decide (o < 48)) (State.gclSwap o))

/-- SCH_CLEAR_COUNTS (R383). -/
def execSchClearCounts (m : Master) (v : Word) (s : State) : Host.Outcome State Fault Refusal :=
  .next (State.access m SCH_CTRL (State.schCtrlWrite v) s)

/-- FRAME_TRANSMIT_END (R385). -/
def execFrameTransmitEnd (o : Nat) (s : State) : Host.Outcome State Fault Refusal :=
  .next (s.when (decide (o < 50 ∧ o ≠ 48)) (State.sendEnd o))

/-- GATE_BOUNDARY (R377). -/
def execGateBoundary (o : Nat) (s : State) : Host.Outcome State Fault Refusal :=
  .next (s.when (decide (o < 48)) (State.gatesMove o))

/-- MIRROR_ENABLE_WRITE (R389). -/
def execMirrorEnableWrite (m : Master) (v : Word) (s : State) : Host.Outcome State Fault Refusal :=
  .next (State.access m MIR_CFG (State.mirCfgWrite m v) s)

/-- MIRROR_RECORD_WRITE (R387). -/
def execMirrorRecordWrite (s : State) : Host.Outcome State Fault Refusal := .next s.mirDrain

/-- RING_RD_WRITE (R389). -/
def execRingRdWrite (m : Master) (v : Word) (s : State) : Host.Outcome State Fault Refusal :=
  .next (State.access m MIR_RING_RD (State.ringRdEffect m v) s)

/-- MIRROR_HOLD_TIMER (R388). -/
def execMirrorHoldTimer (s : State) : Host.Outcome State Fault Refusal := .next s.mirHold

/-- MIRROR_DMA_ERROR (R389). -/
def execMirrorDmaError (s : State) : Host.Outcome State Fault Refusal := .next s.mirError

/-- MIR_CLEAR_COUNTS (R389). -/
def execMirClearCounts (m : Master) (v : Word) (s : State) : Host.Outcome State Fault Refusal :=
  .next (State.access m MIR_CTRL (State.mirCtrlWrite v) s)

/-- MARKER_DUE (R294). -/
def execMarkerDue (p : Nat) (s : State) : Host.Outcome State Fault Refusal :=
  .next (s.when (decide (p < 48)) (State.markerFall p (s.sout p).tx.isSome))

end Sys2Proof.Machine
end

