-- ==== Sys2Proof/Machine/PortOps.lean ====
section
/-! DEFINITION. Operations of the ports that other chapters call (chapter 14): states, links, pause resolution, verification, and
the I2C masters. -/

namespace Sys2Proof.Machine

/-! ### Events of the line -/

/-- What depends on whether a port counts as in PCS lock is brought up to date (R311): its reference, sessions and coupling. -/
def State.linkEval (p : Nat) (s : State) : State := (s.refLinesEval (16 + p)).sessionsEval p

/-- The line of a port shows nothing. -/
def State.lineDown (p : Nat) (s : State) : State :=
  let s := (((s.set (PRT_STATUS_PCS_LOCK p) 0).set (PRT_STATUS_CDR_LOCK p) 0).set (PRT_STATUS_LF p) 0).set (PRT_STATUS_RF p) 0
  let s := ((s.set (PRT_STATUS_HI_BER p) 0).set (PRT_STATUS_AN_DONE p) 0).set (PRT_STATUS_AN_FALLBACK p) 0
  let s := s.setPort p { s.port p with lost := false }
  s.linkEval p

/-- The rate of a port has changed (R94, R270, R287): its reference enters VOID with its windows cleared, its calibration starts again
from the nominal latencies, its coupling follows (DEDUCED, log entry 39). -/
def State.rateEval (p : Nat) (s : State) : State :=
  let n := 16 + p
  let rate := s.portRate p
  if (s.port p).rate = rate then s
  else
    let s := s.setPort p { s.port p with rate := rate }
    let s := s.set (REFM_FNOM_FNOM n) (if rate = 1 then 125000000 else 156250000)
    let s := s.when (decide (2 ≤ s.get (REFM_STATE_STATE n))) (State.thenSelect fun t => ((t.setRefState n 1).clearWindows n).edgesStop n false)
    (s.calAgain p true).cplRateChange p

/-- The rates of the four lanes of a port's quad: the lanes of a 100G port have its rate (R94, R308). -/
def State.quadRates (p : Nat) (s : State) : State := s.each [0, 1, 2, 3] fun k => State.rateEval (quadPort p + k)

/-- A port takes a state (R313, R456): 0 OFF, 1 DOWN, 2 NEGOTIATE, 3 UP, 4 PARKED. -/
def State.setPortState (p st : Nat) (s : State) : State :=
  if s.get (PRT_STATUS_STATE p) = st then s
  else (((s.set (PRT_STATUS_STATE p) st).raise (PRT_EVT_STATE_CHG p)).queueEvent 9 [packWord [(p, 0), (st, 8)]]).quadRates p

/-- Verification begins anew, or pre-emption is off (R318). -/
def State.verifyRestart (p : Nat) (s : State) : State :=
  let s := s.setPort p { s.port p with verifySent := 0 }
  let on := s.on (PRT_MAC_PREEMPT_EN p)
  let dis := s.on (PRT_MAC_VERIFY_DIS p)
  let s := s.set (PRT_STATUS_VERIFY p) (if on && !dis then 1 else 0)
  (s.setB (PRT_STATUS_PREEMPT_ACTIVE p) (on && dis && s.portUp p)).resume p

/-- Pause as it resolves now (R315): IEEE 802.3 Table 28B-3 after a Clause 37 exchange, and the two permissions. -/
def State.pauseResolve (p : Nat) (s : State) : State :=
  let lp := s.get (PRT_AN_LP_LP_BASE p)
  let both (a b : Bool) : Bool := a && b
  let lpP := lp.testBit 7
  let lpA := lp.testBit 8
  let P := (s.port p).adv.testBit 7
  let A := (s.port p).adv.testBit 8
  let an := s.on (PRT_STATUS_AN_DONE p)
  let rx := !an || both P lpP || (P && A && !lpP && lpA)
  let tx := !an || both P lpP || (!P && A && lpP && lpA)
  (s.setB (PRT_STATUS_PAUSE_RX p) (rx && s.on (PRT_MAC_PAUSE_RX_EN p))).setB (PRT_STATUS_PAUSE_TX p) (tx &&
    s.on (PRT_MAC_PAUSE_TX_EN p))

/-- The port comes UP (R313, R315, R318, R353). -/
def State.portComesUp (p : Nat) (s : State) : State :=
  let s := (s.setPortState p 3).raise (PRT_EVT_LINK_UP p)
  ((s.pauseResolve p).sidingUp p).verifyRestart p

/-- An UP port leaves UP: the port-down event (R313, R353); the frames on its line end (R314, R367) (DEDUCED, log entry 39). -/
def State.portLeavesUp (p : Nat) (low : Bool) (s : State) : State :=
  if !s.portUp p then s
  else
    let s := (s.raise (PRT_EVT_LINK_DOWN p)).countPort p 25 1
    let s := (s.cutShort p).frameCut p
    let s := s.setPort p { s.port p with lost := false }
    let s := (s.set (PRT_STATUS_PREEMPT_ACTIVE p) 0).set (PRT_STATUS_VERIFY p) 0
    s.sidingDown p low

/-- A Clause 37 exchange begins: the base page advertised has full duplex, PAUSE and ASM_DIR, and remote fault 0b00 (R315). -/
def State.exchange (p : Nat) (s : State) : State :=
  let s := ((s.set (PRT_STATUS_AN_DONE p) 0).set (PRT_STATUS_AN_FALLBACK p) 0)
  let page := 0x20 + 0x80 * s.get (PRT_MAC_PAUSE_ADV p) + 0x100 * s.get (PRT_MAC_ASM_DIR_ADV p)
  (s.setPort p { s.port p with adv := page, half := false }).emit .an p [page] []

/-- ENABLE is 0: the port is OFF (R313). -/
def State.portOff (p : Nat) (s : State) : State :=
  let s := s.set (PRT_CFG_ENABLE p) 0
  if s.get (PRT_STATUS_STATE p) = 0 then s else ((s.portLeavesUp p false).setPortState p 0).lineDown p

/-- The PCS starts, or starts again: the port is DOWN (R313). -/
def State.portRestart (p : Nat) (s : State) : State := ((s.portLeavesUp p false).setPortState p 1).lineDown p

/-- The port is PARKED: entry to LEAN or KEEP (`low`), or the gate of its quad (R313, R321). -/
def State.portPark (low : Bool) (p : Nat) (s : State) : State :=
  let st := s.get (PRT_STATUS_STATE p)
  if st = 0 ∨ st = 4 then s else ((s.portLeavesUp p low).setPortState p 4).lineDown p

/-- Entry to LEAN or KEEP: the siding of every output flushes (R353, R358), every enabled port is PARKED (R321). -/
def State.portsPark (s : State) : State :=
  s.each (List.range 48) fun p t => (t.portPark true p).when (decide (t.siding p = 1)) (State.flushStart p)

/-- PARKED ends (R313, R321): a gated quad stays PARKED. -/
def State.portUnpark (p : Nat) (s : State) : State :=
  if s.get (PRT_STATUS_STATE p) ≠ 4 ∨ s.gateIn (p / 4) ∨ s.pwr.state != .run then s else s.setPortState p 1

/-- A RATE and a FEC that form a combination of R309. -/
def rateFits (rate fec : Nat) : Bool :=
  match rate with
  | 1 => fec == 0 | 2 => fec == 0 || fec == 1 | 3 => decide (fec ≤ 2) | 4 => fec == 2 | _ => false

/-- R309 and R310 for a port that is to have a rate and a FEC. -/
def State.portFits (s : State) (p rate fec : Nat) : Bool :=
  rateFits rate fec && (rate != 4 || (p % 4 == 0 && !(([1, 2, 3] : List Nat).any fun k => s.on (PRT_CFG_ENABLE (p + k)))))

/-- A write was not taken (R310). -/
def State.portRefuse (p : Nat) (s : State) : State := (s.raise (PRT_EVT_CFG_ERR p)).warn

/-- The state a port starts in: DOWN, or PARKED in LEAN and KEEP (R313, R321). -/
def State.startState (s : State) (p : Nat) : Nat := if s.pwr.state = .run ∧ !s.gateIn (p / 4) then 1 else 4

/-- STAGING ends: the ports whose ENABLE the image wrote start, when R310 allows them (R313, R321). -/
def State.portsStart (s : State) : State :=
  s.each (List.range 48) fun p t =>
    if !t.on (PRT_CFG_ENABLE p) ∨ t.get (PRT_STATUS_STATE p) ≠ 0 ∨ t.laneOfFat p then t
    else if t.portFits p (t.get (PRT_CFG_RATE p)) (t.get (PRT_CFG_FEC p)) then t.setPortState p (t.startState p)
    else (t.set (PRT_CFG_ENABLE p) 0).portRefuse p

/-- What the line transmitter of a port sends: nothing, electrical idle, Remote Fault, idles, the transmit stream, or what it
receives. -/
inductive LineTx where
  | off | electricalIdle | remoteFault | idles | stream | echo
  deriving DecidableEq, Repr

/-- What the line transmitter of a port sends now (R313, R314, R319). -/
def State.lineTx (s : State) (p : Nat) : LineTx :=
  let baseR := s.portRate p != 1
  match s.get (PRT_STATUS_STATE p) with
  | 0 => .off
  | 4 => .electricalIdle
  | _ =>
    if s.get (PRT_CFG_LOOP p) = 3 then .echo
    else if baseR && (!s.on (PRT_STATUS_PCS_LOCK p) || s.on (PRT_STATUS_LF p)) then .remoteFault
    else if baseR && s.on (PRT_STATUS_RF p) then .idles
    else .stream

/-! ### I2C masters -/

/-- Do the masters run (R325)? -/
def State.i2cOn (s : State) : Bool := !s.asleep

/-- A transfer goes on the bus (R323). -/
def State.i2cBegin (b : Nat) (j : I2cJob) (s : State) : State :=
  let s := s.setBus b { s.bus b with now := some j }
  let data := if j.write then (List.range j.len).map fun k => BitVec.ofNat 8 ((s.rd (PRT_I2C_DATA b (k / 4))).toNat / 256 ^ (k % 4)) else []
  let (ma, mc) := match j.mux with | some (a, c) => ((a : Int), (c : Int)) | none => (-1, -1)
  s.emit .i2c b [ma, mc, if j.write then 1 else 0, j.addr, (match j.pointer with | some p => (p : Int) | none => -1), j.len] data

/-- The transfer of a module poll (R325). -/
def State.pollJob (s : State) (p : Nat) : I2cJob :=
  { who := .poll p, mux := if s.on (PRT_MOD_ROUTE_MUX_EN p) then some (s.get (PRT_MOD_ROUTE_MUX_ADDR p),
    s.get (PRT_MOD_ROUTE_MUX_CHAN p)) else none
    write := false, addr := s.get (PRT_MOD_ROUTE_MOD_ADDR p), pointer := some (s.get (PRT_MOD_POLL_REG p)), len := 1 }

/-- The transfer of a sensor read (R167, R324): no multiplexer write. -/
def State.sensorJob (s : State) : I2cJob :=
  { who := .sensor false, mux := none, write := false, addr := s.get HOLD_TSENS_ADDR,
    pointer := some (s.get HOLD_TSENS_POINTER), len := 2 }

/-- The next transfer is taken: the sensor read, the host transfer, then polls in ascending port order (R324). -/
def State.i2cNextJob (b : Nat) (s : State) : State :=
  let x := s.bus b
  if x.now.isSome then s
  else if x.sensor then (s.setBus b { x with sensor := false }).i2cBegin b s.sensorJob
  else match x.waits with
    | some j => (s.setBus b { x with waits := none }).i2cBegin b j
    | none =>
      match x.polls.foldl (fun (m : Option Nat) p => match m with | some q => some (min p q) | none => some p) none with
      | some p => (s.setBus b { x with polls := x.polls.filter fun q => q != p }).i2cBegin b (s.pollJob p)
      | none => s

/-- A host transfer is wanted (R323, R451): it waits for the bus. -/
def State.i2cWant (b : Nat) (j : I2cJob) (s : State) : State :=
  let s := s.set (PRT_I2C_STATUS_BUSY b) 1
  (s.setBus b { s.bus b with waits := some j }).i2cNextJob b

/-- The bytes of a read, in the data registers (R323). -/
def State.i2cStore (b : Nat) (bytes : List Octet) (s : State) : State :=
  (bytes.zip (List.range bytes.length)).foldl (fun s x =>
    let a := PRT_I2C_DATA b (x.2 / 4)
    s.wr a (putBits (s.rd a) (8 * (x.2 % 4)) 8 x.1.toNat)) s

/-- A host transfer has ended (R323). -/
def State.i2cHostEnd (b : Nat) (j : I2cJob) (res : I2cResult) (bytes : List Octet) (s : State) : State :=
  let n := if j.write ∧ res = .done then j.len else min j.len bytes.length
  let s := if j.write then s else s.i2cStore b (bytes.take j.len)
  let s := ((s.set (PRT_I2C_STATUS_BUSY b) 0).set (PRT_I2C_STATUS_BYTES b) n).raise (PRT_I2C_STATUS_DONE b)
  match res with
  | .done => s
  | .nack => s.raise (PRT_I2C_STATUS_NACK b)
  | .nackMux => s.raise (PRT_I2C_STATUS_NACK_MUX b)
  | .timeout => s.raise (PRT_I2C_STATUS_TIMEOUT b)

/-- A poll of a module has ended (R325). -/
def State.pollEnd (p : Nat) (res : I2cResult) (bytes : List Octet) (s : State) : State :=
  let absent (v : Nat) (s : State) : State :=
    if s.get (PRT_MOD_STATUS_ABSENT p) = v then s else (s.set (PRT_MOD_STATUS_ABSENT p) v).raise (PRT_EVT_MOD_ABSENT_CHG p)
  match res, bytes with
  | .done, b :: _ =>
    let old := (s.port p).lastByte
    let s := s.setPort p { s.port p with lastByte := some b }
    let s := absent 0 ((s.set (PRT_MOD_STATUS_VALUE p) b.toNat).set (PRT_MOD_STATUS_VALID p) 1)
    match old with
    | some o => s.when (((o.toNat ^^^ b.toNat) &&& s.get (PRT_MOD_POLL_MASK p)) != 0) (·.raise (PRT_EVT_MOD_CHG p))
    | none => s
  | .nack, _ => absent 1 s
  | _, _ => s

/-- Is a sensor read on a master's bus, or waiting for it? -/
def I2cSt.reads (x : I2cSt) : Bool := x.sensor || (match x.now with | some j => j.who == .sensor false | none => false)

/-- A read of the sensor is due: it is queued on its master (R167). -/
def State.sensorDue (s : State) : State :=
  let b := s.get HOLD_TSENS_MASTER
  if !s.on HOLD_CFG_TS_EN ∨ !s.i2cOn ∨ (([0, 1, 2, 3] : List Nat).any fun k => (s.bus k).reads) then s
  else (s.setBus b { s.bus b with sensor := true }).i2cNextJob b

/-- A read of the sensor has not completed within 100 ms (R167): it counts as failed; on the bus it ends by itself. -/
def State.sensorLate (s : State) : State :=
  let fail (x : I2cSt) : I2cSt :=
    { x with sensor := false, now := x.now.map fun j => if j.who = .sensor false then { j with who := .sensor true } else j }
  if !(([0, 1, 2, 3] : List Nat).any fun k => (s.bus k).reads) then s
  else (s.each [0, 1, 2, 3] fun k t => t.setBus k (fail (t.bus k))).tempFail

/-- The bytes of a sensor read, or none (R167). -/
def State.sensorEnd (failed : Bool) (res : I2cResult) (bytes : List Octet) (s : State) : State :=
  if failed then s
  else match res, bytes with
    | .done, hi :: lo :: _ => s.tempRead true hi lo
    | _, _ => s.tempRead false 0 0

/-- A poll is due (R325). -/
def State.pollDue (p : Nat) (s : State) : State :=
  if s.get (PRT_MOD_POLL_PERIOD p) = 0 ∨ !s.i2cOn then s
  else
    let b := s.get (PRT_MOD_ROUTE_MASTER p)
    let x := s.bus b
    let now : Bool := match x.now with | some j => j.who == .poll p | none => false
    if now ∨ x.polls.contains p then s else (s.setBus b { x with polls := x.polls ++ [p] }).i2cNextJob b

end Sys2Proof.Machine
end

