-- ==== Sys2Proof/Machine/Holdover.lean ====
section
/-! DEFINITION. The commands of the sprag (chapter 07). -/

namespace Sys2Proof.Machine

/-- A write of HOLD_CTRL: CLEAR (R170) and COMMIT_NOW (R184). -/
def State.holdCtrlWrite (m : Master) (v : Word) (_ : RegRow) (s : State) : State :=
  let s :=
    if fieldOf HOLD_CTRL_CLEAR v = 0 then s
    else if s.hold.clearing then s.refuseWrite m HOLD_CTRL
    else if s.clearTest ≠ 0 then ((s.testRefused [256, 257]).raise HOLD_EVT_CLEAR_REFUSED).refuseWrite m HOLD_CTRL
    else s.clearStart 0
  s.when (fieldOf HOLD_CTRL_COMMIT_NOW v == 1) State.commitModel

/-- The automatic calibration word (R180). -/
def State.autoCal (s : State) : State :=
  if s.on HOLD_CFG_CAL_AUTO && s.get HOLD_STATUS_STAGE == 3 && decide (1440 ≤ s.hold.calMin) && !s.asleep then
    let s := { s with hold := { s.hold with calMin := 0 } }
    let (t, ok) := s.writeCal (unit48 s.yXO) 1 0
    if ok then t else t.raise HOLD_EVT_COMMIT_FAIL
  else s

/-! ### Commands -/

/-- OBSERVATION (R164). -/
def execObservation (s : State) : Host.Outcome State Fault Refusal := .next s.observe
/-- TEMP_SENSOR_READ (R167): the read goes to its I2C master; I2C_TRANSFER_DONE brings its bytes. -/
def execTempSensorRead (s : State) : Host.Outcome State Fault Refusal := .next s.sensorDue
/-- TEMP_READ_TIMEOUT (R167). -/
def execTempReadTimeout (s : State) : Host.Outcome State Fault Refusal := .next s.sensorLate
/-- CLEAR (R170). -/
def execClear (m : Master) (v : Word) (s : State) : Host.Outcome State Fault Refusal :=
  .next (State.access m HOLD_CTRL (State.holdCtrlWrite m v) s)
/-- HOLDOVER_TICK (R173). -/
def execHoldoverTick (s : State) : Host.Outcome State Fault Refusal := .next s.holdTick
/-- SPRAG_EXPIRY (R176). -/
def execSpragExpiry (l : Nat) (s : State) : Host.Outcome State Fault Refusal := .next (s.when (decide (l < 4)) (State.expire l))
/-- MODEL_COMMIT (R184). -/
def execModelCommit (s : State) : Host.Outcome State Fault Refusal := .next (s.when (!s.asleep) State.commitModel)
/-- HISTORY_COMMIT (R184). -/
def execHistoryCommit (s : State) : Host.Outcome State Fault Refusal := .next s.commitHistory
/-- AUTO_CALIBRATION (R180). -/
def execAutoCalibration (s : State) : Host.Outcome State Fault Refusal := .next s.autoCal

end Sys2Proof.Machine
end

