-- ==== Sys2Proof/Machine/Ports.lean ====
section
/-! DEFINITION. The commands of the ports and of the I2C masters (chapter 14). -/

namespace Sys2Proof.Machine

/-! ### Register writes -/

/-- A write of PRT_CFG (R308 to R310, R313, R321). -/
def State.prtCfgWrite (m : Master) (p : Nat) (v : Word) (r : RegRow) (s : State) : State :=
  let a := PRT_CFG p
  let st := s.get (PRT_STATUS_STATE p)
  let old := s.rd a
  let (new, bad) := writeFields r.fields old v
  let f (x : FieldRef) : Nat := getBits new x.lo x.width
  let rate := f (PRT_CFG_RATE p)
  let en := f (PRT_CFG_ENABLE p) == 1
  let fits := s.portFits p rate (f (PRT_CFG_FEC p))
  if s.laneOfFat p then s.refuseWrite m a
  else
    let s := s.when bad (State.badRange m a)
    if st = 0 then
      if s.get GLB_STATUS_MODE = 0 then (s.wr a new).quadRates p
      else if en && !fits then ((s.wr a (putBits new 0 1 0)).quadRates p).raise (PRT_EVT_CFG_ERR p) |>.refuseWrite m a
      else ((s.wr a new).quadRates p).when en fun t => t.setPortState p (t.startState p)
    else if !en then ((s.portOff p).wr a new).quadRates p
    else
      let changed := [PRT_CFG_RATE p, PRT_CFG_FEC p, PRT_CFG_AN_EN p, PRT_CFG_LOOP p].any fun x => f x != getBits old x.lo x.width
      if !changed then s.wr a new
      else if !fits then (s.raise (PRT_EVT_CFG_ERR p)).refuseWrite m a
      else
        let s := ((s.when (st != 4) (State.portRestart p)).wr a new).quadRates p
        s.setPort p { s.port p with restarted := some s.cyc }

/-- A write of PRT_MAC (R315, R318). -/
def State.prtMacWrite (m : Master) (p : Nat) (v : Word) (r : RegRow) (s : State) : State :=
  let old := s.rd (PRT_MAC p)
  let s := s.plainWrite m (PRT_MAC p) v r
  let new := s.rd (PRT_MAC p)
  let diff (f : FieldRef) : Bool := getBits old f.lo f.width != getBits new f.lo f.width
  let s := s.when (s.portUp p) (State.pauseResolve p)
  s.when (diff (PRT_MAC_PREEMPT_EN p) || diff (PRT_MAC_VERIFY_DIS p) || diff (PRT_MAC_VERIFY_TIME p)) (State.verifyRestart p)

/-- Negotiation is restarted, by AN_RESTART or by the partner (R313). -/
def State.anAgain (p : Nat) (s : State) : State :=
  if s.get (PRT_CFG_RATE p) ≠ 1 ∨ !s.on (PRT_CFG_AN_EN p) then s
  else match s.get (PRT_STATUS_STATE p) with
    | 3 => ((s.portLeavesUp p false).setPortState p 2).exchange p
    | 2 => s.exchange p
    | _ => s

/-- The counters of a port, and the pipeline's drops of it, clear (R322). -/
def State.clearPort (p : Nat) (s : State) : State :=
  s.clearRegs fun a => (decide (PRT_CNT_LO p 0 ≤ a ∧ a < PRT_CNT_LO p 26)) || a == FWD_PORT_DROP p || a == FWD_PORT_DROP2 p

/-- A write of PRT_CTRL (R313, R322). -/
def State.prtCtrlWrite (p : Nat) (v : Word) (_ : RegRow) (s : State) : State :=
  (s.when (v.getLsbD 0) (State.clearPort p)).when (v.getLsbD 1) (State.anAgain p)

/-- A write of PRT_MOD_POLL: polling begins anew from PERIOD 0, and stops with it (R325). -/
def State.modPollWrite (m : Master) (p : Nat) (v : Word) (r : RegRow) (s : State) : State :=
  let was := s.get (PRT_MOD_POLL_PERIOD p)
  let s := s.plainWrite m (PRT_MOD_POLL p) v r
  let now := s.get (PRT_MOD_POLL_PERIOD p)
  if now = 0 then s.each [0, 1, 2, 3] fun b t => t.setBus b { t.bus b with polls := (t.bus b).polls.filter fun q => q != p }
  else if was = 0 then (s.set (PRT_MOD_STATUS_VALID p) 0).setPort p { s.port p with lastByte := none }
  else s

/-- A write of PRT_I2C_XFER (R323). -/
def State.i2cXferWrite (m : Master) (b : Nat) (v : Word) (r : RegRow) (s : State) : State :=
  let a := PRT_I2C_XFER b
  let start := v.getLsbD 31
  if start && s.on (PRT_I2C_STATUS_BUSY b) then s.refuseWrite m a
  else
    let s := s.plainWrite m a (v &&& 0x7FFFFFFF#32) r
    if !start then s
    else
      let len := s.get (PRT_I2C_XFER_LEN b)
      if len = 0 then (s.set (PRT_I2C_STATUS_BYTES b) 0).raise (PRT_I2C_STATUS_DONE b)
      else s.i2cWant b {
        who := .host
        mux := if s.on (PRT_I2C_ROUTE_MUX_EN b) then some (s.get (PRT_I2C_ROUTE_MUX_ADDR b),
          s.get (PRT_I2C_ROUTE_MUX_CHAN b)) else none
        write := s.on (PRT_I2C_XFER_DIR b), addr := s.get (PRT_I2C_XFER_ADDR b)
        pointer := if s.on (PRT_I2C_XFER_NO_PTR b) then none else some (s.get (PRT_I2C_XFER_POINTER b)), len := len }

/-- A write of PRT_I2C_DATA (R323). -/
def State.i2cDataWrite (m : Master) (b a : Nat) (v : Word) (r : RegRow) (s : State) : State :=
  if s.on (PRT_I2C_STATUS_BUSY b) then s.refuseWrite m a else s.plainWrite m a v r

/-! ### Links -/

/-- The port-down of a port that has been lost for DOWN_HOLD (R313, R314). -/
def State.holdExpires (p : Nat) (s : State) : State :=
  if s.portUp p ∧ (s.port p).lost then (s.portLeavesUp p false).setPortState p 1 else s

/-- An UP port is lost: what is on its line ends, and DOWN_HOLD runs (R314, R367, R368). -/
def State.portLost (p : Nat) (s : State) : State :=
  if !s.portUp p ∨ (s.port p).lost then s
  else
    let s := (s.cutShort p).frameCut p
    let s := s.setPort p { s.port p with lost := true }
    if s.get (PRT_LINK_DOWN_HOLD p) = 0 then s.holdExpires p else s

/-- A fault sequence is being received, or no longer: its beginning is an event (R313). -/
def State.faultBit (status event : FieldRef) (b : Bool) (s : State) : State :=
  (s.when (b && !s.on status) (·.raise event)).setB status b

/-- Are Local Fault and Remote Fault sequences received at a port's rate (R313)? -/
def State.hearsFaults (s : State) (p : Nat) : Bool := s.get (PRT_CFG_RATE p) != 1

/-- PCS lock holds, with Local Fault or Remote Fault sequences received or not: without them the port is clear (R311, R313, R314)
(DEDUCED, log entry 39). -/
def State.lockGained (p : Nat) (lf rf : Bool) (s : State) : State :=
  let st := s.get (PRT_STATUS_STATE p)
  if st = 0 ∨ st = 4 ∨ s.laneOfFat p then s
  else
    let lf := lf && s.hearsFaults p
    let rf := rf && s.hearsFaults p
    let had := s.on (PRT_STATUS_PCS_LOCK p)
    let s := (s.set (PRT_STATUS_CDR_LOCK p) 1).set (PRT_STATUS_HI_BER p) 0
    let s := (s.faultBit (PRT_STATUS_LF p) (PRT_EVT_LF p) lf).faultBit (PRT_STATUS_RF p) (PRT_EVT_RF p) rf
    let s := if had then s else (((s.set (PRT_STATUS_PCS_LOCK p) 1).calRestart p).linkEval p).cplLock p
    if lf || rf then s.portLost p
    else if st = 1 then
      if s.get (PRT_CFG_RATE p) = 1 ∧ s.on (PRT_CFG_AN_EN p) then (s.setPortState p 2).exchange p else s.portComesUp p
    else if st = 3 ∧ (s.port p).lost then
      ((s.setPort p { s.port p with lost := false }).raise (PRT_EVT_LOCK_GLITCH p)).countPort p 24 1 |>.resume p
    else s

/-- A port is lost (R311, R313, R314, R367, R368) (DEDUCED, log entry 39). -/
def State.lockLost (p : Nat) (why : PortLoss) (s : State) : State :=
  let st := s.get (PRT_STATUS_STATE p)
  let fault := match why with | .lock _ _ => false | _ => true
  if st = 0 ∨ st = 4 ∨ s.laneOfFat p ∨ (fault && !s.hearsFaults p) then s
  else
    let s := match why with
      | .lock cdr hi =>
        let s := s.setB (PRT_STATUS_CDR_LOCK p) cdr
        ((s.setB (PRT_STATUS_HI_BER p) hi).set (PRT_STATUS_PCS_LOCK p) 0).linkEval p
      | .localFault => s.faultBit (PRT_STATUS_LF p) (PRT_EVT_LF p) true
      | .remoteFault => s.faultBit (PRT_STATUS_RF p) (PRT_EVT_RF p) true
    if st = 2 then (if s.on (PRT_STATUS_PCS_LOCK p) then s else s.setPortState p 1) else s.portLost p

/-- The exchange is complete: the partner's base page (R315). -/
def State.exchangeDone (p : Nat) (lp : Word) (s : State) : State :=
  if s.get (PRT_STATUS_STATE p) ≠ 2 ∨ !s.on (PRT_STATUS_PCS_LOCK p) then s
  else
    let s := s.set (PRT_AN_LP_LP_BASE p) lp.toNat
    if lp.getLsbD 5 then ((s.set (PRT_STATUS_AN_DONE p) 1).raise (PRT_EVT_AN_DONE p)).portComesUp p
    else s.setPort p { s.port p with half := true }

/-- Idles for 200 ms without a configuration ordered set (R315). -/
def State.fallBack (p : Nat) (s : State) : State :=
  if s.get (PRT_STATUS_STATE p) ≠ 2 ∨ !s.on (PRT_STATUS_PCS_LOCK p) then s else (s.set (PRT_STATUS_AN_FALLBACK p) 1).portComesUp p

/-- A second with a partner that advertises no full duplex (R315). -/
def State.anRetries (p : Nat) (s : State) : State :=
  s.when (s.get (PRT_STATUS_STATE p) == 2 && (s.port p).half) (State.exchange p)

/-- VERIFY_TIME has passed (R318); `answered`: the partner has answered a verify mPacket. -/
def State.verifyTick (p : Nat) (answered : Bool) (s : State) : State :=
  let v := s.get (PRT_STATUS_VERIFY p)
  let n := (s.port p).verifySent
  if !s.portUp p ∨ (v ≠ 1 ∧ v ≠ 2) then s
  else if v = 2 ∧ answered then (s.set (PRT_STATUS_VERIFY p) 3).set (PRT_STATUS_PREEMPT_ACTIVE p) 1
  else if n < 3 then
    let s := s.setPort p { s.port p with verifySent := n + 1 }
    (s.set (PRT_STATUS_VERIFY p) 2).when (s.macOpen p) (State.emit · .mpacket p [n] (s.macOf p))
  else (s.set (PRT_STATUS_VERIFY p) 4).raise (PRT_EVT_VERIFY_FAIL p)

/-! ### Pause from the partner -/

/-- A hold on one class, by quanta; none begins while the watchdog disregards the class (R317, R352). -/
def State.holdClass (p c quanta : Nat) (s : State) : State :=
  if s.isMail p c ∨ (s.get (BUF_OUT_STATUS_WD_ACTIVE p)).testBit c then s else s.setPaused p c (quanta != 0)

/-- A PAUSE or PFC frame has been received (R317). -/
def State.pauseHear (p : Nat) (bytes : List Octet) (s : State) : State :=
  let h := headerOf bytes
  let op := numAt bytes h.off 2
  if !s.portUp p ∨ h.etype ≠ 0x8808 then s
  else if op = 1 then
    let s := s.countPort p 7 1
    let s := if s.on (PRT_STATUS_PAUSE_RX p) then s.each (List.range 8) fun c t => t.holdClass p c (numAt bytes (h.off + 2) 2) else s
    s.slotCheck p
  else if op = 0x0101 then
    let vec := numAt bytes (h.off + 2) 2
    let s := s.countPort p 7 1
    let s := s.when ((bitsOf vec 8).any fun c => s.isMail p c) (State.countPort p 8 1)
    let s := if s.on (PRT_MAC_PFC_EN p) then s.each (bitsOf vec 8) fun c t => t.holdClass p c (numAt bytes (h.off + 4 + 2 * c) 2) else s
    s.slotCheck p
  else s

/-- The end of a transfer, by who asked for it: a target that stretches the clock too long gets nine clock pulses and a STOP; a
command's answer is left to the caller (R323, R324). -/
def State.i2cEnd (b : Nat) (res : I2cResult) (bytes : List Octet) (s : State) : State :=
  let x := s.bus b
  match x.now with
  | none => s
  | some j =>
    let s := s.setBus b { x with now := none }
    let s := s.when (res == .timeout) (State.emit · .i2c b [9] [])
    let s := match j.who with
      | .host => s.i2cHostEnd b j res bytes
      | .poll p => s.pollEnd p res bytes
      | .command _ => s.i2cHostEnd b j res bytes
      | .sensor failed => s.sensorEnd failed res bytes
    s.i2cNextJob b

/-! ### Commands -/

/-- PORT_CFG_WRITE (R310). -/
def execPortCfgWrite (m : Master) (p : Nat) (v : Word) (s : State) : Host.Outcome State Fault Refusal :=
  .next (s.when (decide (p < 48)) (State.access m (PRT_CFG p) (State.prtCfgWrite m p v)))

/-- A link event of a port reaches it: one of the cycle of a restarting write is discarded (R320). -/
def State.linkEvent (p : Nat) (g : State → State) (s : State) : State :=
  s.when (decide (p < 48) && (s.port p).restarted != some s.cyc) g

/-- PCS_LOCK_GAINED (R313). -/
def execPcsLockGained (p : Nat) (lf rf : Bool) (s : State) : Host.Outcome State Fault Refusal :=
  .next (s.linkEvent p (State.lockGained p lf rf))

/-- PCS_LOCK_LOST (R314). -/
def execPcsLockLost (p : Nat) (why : PortLoss) (s : State) : Host.Outcome State Fault Refusal :=
  .next (s.linkEvent p (State.lockLost p why))

/-- DOWN_HOLD_EXPIRY (R313). -/
def execDownHoldExpiry (p : Nat) (s : State) : Host.Outcome State Fault Refusal := .next (s.linkEvent p (State.holdExpires p))

/-- AN_COMPLETE (R315). -/
def execAnComplete (p : Nat) (lp : Word) (s : State) : Host.Outcome State Fault Refusal :=
  .next (s.linkEvent p (State.exchangeDone p lp))

/-- AN_RESTART (R313). -/
def execAnRestart (m : Option Master) (p : Nat) (v : Word) (s : State) : Host.Outcome State Fault Refusal :=
  .next (s.when (decide (p < 48)) (match m with
    | some m => State.access m (PRT_CTRL p) (State.prtCtrlWrite p v)
    | none => State.anAgain p))

/-- AN_FALLBACK (R315). -/
def execAnFallback (p : Nat) (s : State) : Host.Outcome State Fault Refusal := .next (s.linkEvent p (State.fallBack p))

/-- AN_RETRY (R315). -/
def execAnRetry (p : Nat) (s : State) : Host.Outcome State Fault Refusal := .next (s.linkEvent p (State.anRetries p))

/-- PAUSE_RECEIVE (R317). -/
def execPauseReceive (p : Nat) (bytes : List Octet) (s : State) : Host.Outcome State Fault Refusal :=
  .next (s.when (decide (p < 48)) (State.pauseHear p bytes))

/-- PAUSE_QUANTA_EXPIRY (R317). -/
def execPauseQuantaExpiry (p : Nat) (c : Nat) (s : State) : Host.Outcome State Fault Refusal :=
  .next (s.when (decide (p < 48 ∧ c < 8)) (State.setPaused p c false))

/-- PAUSE_WATCHDOG (R352). -/
def execPauseWatchdog (o : Nat) (c : Nat) (s : State) : Host.Outcome State Fault Refusal :=
  .next (s.when (decide (o < 48 ∧ c < 8)) (State.watchdog o c))

/-- VERIFY_TIMER (R318). -/
def execVerifyTimer (p : Nat) (answered : Bool) (s : State) : Host.Outcome State Fault Refusal :=
  .next (s.when (decide (p < 48)) (State.verifyTick p answered))

/-- CLEAR_PORT_COUNTERS (R322). -/
def execClearPortCounters (m : Master) (p : Nat) (v : Word) (s : State) : Host.Outcome State Fault Refusal :=
  .next (s.when (decide (p < 48)) (State.access m (PRT_CTRL p) (State.prtCtrlWrite p v)))

/-- I2C_TRANSFER_START (R323). -/
def execI2cTransferStart (m : Master) (bus : Nat) (v : Word) (s : State) : Host.Outcome State Fault Refusal :=
  .next (s.when (decide (bus < 4)) (State.access m (PRT_I2C_XFER bus) (State.i2cXferWrite m bus v)))

/-- MODULE_POLL (R325). -/
def execModulePoll (p : Nat) (s : State) : Host.Outcome State Fault Refusal := .next (s.when (decide (p < 48)) (State.pollDue p))

end Sys2Proof.Machine
end

