-- ==== Sys2Proof/Machine/ResetOps.lean ====
section
/-! DEFINITION. Resets (R46, R47, R66, R67): what each kind of reset keeps, the straps and the livery. -/

namespace Sys2Proof.Machine

/-- The straps are latched (R47, R48). -/
def State.latchStraps (straps : Nat) (s : State) : State :=
  let s := { s with boot := { s.boot with straps := straps } }
  let s := (s.set GLB_STRAPS_BOOT_SRC (straps / 256)).set GLB_STRAPS_ADDR straps
  (s.set GLB_STRAPS_IMG_SEL (straps / 64)).set GLB_STATUS_IMG (straps / 64)

/-- The coupling node's identity is loaded with bits [15:0] of the unique number (R66) (DEDUCED, log entry 38). -/
def State.nodeFromLivery (s : State) : State :=
  let id := if s.livery.intact then getBits s.livery.uidLo 0 16 else 0
  (s.set CPL_NODE_ID id).set CPL_NODE_STATUS_UPSTREAM_ID id

/-- GLB_FUSE and the livery registers show the livery (R66, R67). -/
def State.loadLivery (s : State) : State :=
  let l := s.livery
  let s := ((s.wr GLB_LIV_LOT l.lot).wr GLB_LIV_DIE l.die).wr GLB_LIV_REV l.rev
  let s := (s.wr GLB_LIV_UID_LO (if l.intact then l.uidLo else 0)).wr GLB_LIV_UID_HI (if l.intact then l.uidHi else 0)
  let s := (s.setB GLB_FUSE_SECURE (l.secure || !l.intact)).set GLB_FUSE_KEY_SET (if l.intact then l.keySet.toNat else 0)
  let s := (s.set GLB_FUSE_KEY_REVOKED l.keyRevoked.toNat).nodeFromLivery
  s.when (!l.intact) fun t => (t.set GLB_BOOT_STATUS_LIV_ERR 1).logFault 0x11 0 none

/-- Fields an internal reset keeps (R46) (DEDUCED, log entry 9). -/
def keptFields : List FieldRef := [GLB_BOOT_STATUS_LIV_ERR, GLB_BOOT_STATUS_REJECTS, GLB_BOOT_STATUS_ERROR,
  CGU_XO_EVT_FAILOVER_COUNT, CGU_GATE_STATUS_FORCE_COUNT, CGU_SWITCH_STATUS_SWITCH_COUNT, FLT_COUNT2_FATAL]

/-- Everything back to its Reset value: what lies outside the reset is kept (R46, R66, R393) (DEDUCED, log entry 9). -/
def State.blank (s : State) : State :=
  { State.reset with
    livery := s.livery, cyc := s.cyc, out := s.out, free := s.free, pending := s.pending
    nvs := { State.reset.nvs with array := s.nvs.array, uncorr := s.nvs.uncorr, corr := s.nvs.corr } }

/-- A reset through RESET_N (R46): the straps are latched and the livery is loaded (DEDUCED, log entry 9). -/
def State.hardReset (straps : Nat) (s : State) : State := (s.nvCutNow.blank.latchStraps straps).loadLivery

/-- An internal reset with its CAUSE (R46, R47) (DEDUCED, log entry 9). -/
def State.internalReset (cause : Nat) (s : State) : State :=
  let s := s.nvCutNow
  let t := s.blank
  let t := keptFields.foldl (fun t f => t.set f (s.get f)) t
  let t := t.when (s.on NVS_PROTECT_LOCK) fun t => t.wr NVS_PROTECT (s.rd NVS_PROTECT)
  let t := t.setB FLT_STATUS_NVLOG_OFF (t.get NVS_PROTECT_LEVEL == 3)
  ((t.latchStraps s.boot.straps).set GLB_BOOT_STATUS_CAUSE cause).loadLivery

/-- RESET_N is low for so many ns (R45) (DESIGN CHOICE, log entry 8). -/
def State.resetLow (widthNs : Nat) (s : State) : State :=
  let used := decide (500 ≤ widthNs ∧ widthNs < 2000)
  let taken := decide (2000 ≤ widthNs) || (used && Config.resetPulseTaken s.free)
  let s := s.when used State.useFree
  if taken then { s.nvCutNow.blank with boot := { State.reset.boot with straps := s.boot.straps, held := true } } else s

/-- RESET_N_ASSERT (R45). -/
def execResetNAssert (widthNs : Nat) (s : State) : Host.Outcome State Fault Refusal := .next (s.resetLow widthNs)
/-- RESET_N_RELEASE (R46). -/
def execResetNRelease (straps : Nat) (s : State) : Host.Outcome State Fault Refusal := .next (s.hardReset straps)
/-- The supplies leave their ranges: a commit is cut after `torn` groups and everything but the array and the livery is lost
(R402); the device stays in reset (DEDUCED, log entry 10). -/
def execSupplyLoss (torn : Nat) (s : State) : Host.Outcome State Fault Refusal :=
  .next { (s.nvCut torn).blank with boot := { State.reset.boot with straps := s.boot.straps, held := true } }

end Sys2Proof.Machine
end

