-- ==== Sys2Proof/Machine/RestoreOps.lean ====
section
/-! DEFINITION. What coachman B restores from the NV store at the end of STAGING and on exit from VIGIL (R180, R185, R406,
R482). -/

namespace Sys2Proof.Machine

/-- Pieces of `n` octets, `count` of them. -/
def pieces (n count : Nat) (bs : List Octet) : List (List Octet) := (List.range count).map fun k => slice bs (n * k) n

/-- Is any octet not 0? -/
def nonzero (bs : List Octet) : Bool := bs.any (· != 0)

/-- A fault entry from its 16 octets. -/
def entryOf (bs : List Octet) : FaultEntry :=
  let w (k : Nat) : Word := BitVec.ofNat 32 (fromLE (slice bs (4 * k) 4))
  ⟨w 0, w 1, w 2, w 3⟩

/-- SEQ of a fault entry (R478). -/
def FaultEntry.seq (e : FaultEntry) : Nat := e.w0.toNat % 65536

/-- Is a 16-bit SEQ newer than another? -/
def seqNewer16 (a b : Nat) : Bool := let d := (a + 65536 - b) % 65536; decide (0 < d ∧ d < 32768)

/-- Does a half of the hot region hold a MAGIC, and does its CRC hold (R404)? -/
def hotMagic (bs : List Octet) : Bool := fromLE (bs.take 4) == 0x54485A51
def hotOk (bs : List Octet) : Bool := hotMagic bs && fromLE (bs.drop 0x7FC) == crc32 (bs.take 0x7FC)

/-- The first page of the history ring that nothing has written, or the first page of all. -/
def State.historyPlace (s : State) : Nat :=
  ((List.range 126).find? fun k => !nonzero (smRange s.nvs.array (0x10200 + 256 * k) 256)).getD 0

/-- The hot image is restored (R406): the fault collector and the sprag find their parts of it (DEDUCED, log entry 50). -/
def State.hotRestore (s : State) : State :=
  let a := smRange s.nvs.array 0 0x800
  let b := smRange s.nvs.array 0x800 0x800
  let pick : Option (Nat × List Octet) := match hotOk a, hotOk b with
    | false, false => none
    | true, false => some (1, a)
    | false, true => some (2, b)
    | true, true => if seqNewer (seqOf b) (seqOf a) then some (2, b) else some (1, a)
  match pick with
  | some (h, bs) =>
    let tail := ((pieces 16 64 (bs.drop 0x210)).filter nonzero).map entryOf
    let hist := (pieces 16 16 (bs.drop 0x110)).filter nonzero
    let s := { s with
      nvs := { s.nvs with hot := smPutList [] 0 bs, half := h }
      flt := { s.flt with tail := (s.flt.tail ++ tail.reverse).take 64 }
      hold := { s.hold with history := hist } }
    (s.set NVS_STATUS_HOT_VALID 1).set NVS_STATUS_HOT_SEQ (seqOf bs)
  | none =>
    let seq := max (seqOf a) (seqOf b)
    let s := { s with nvs := { s.nvs with hot := smPutList [] 4 (octetsLE 4 seq), half := 0 } }
    let s := (s.set NVS_STATUS_HOT_VALID 0).set NVS_STATUS_HOT_SEQ seq
    s.when (hotMagic a || hotMagic b) (·.raise NVS_EVT_HOT_RESTORE_FAIL)

/-- A model from its record (R183). -/
def modelOf (bs : List Octet) : Model :=
  let u (k n : Nat) : Nat := fromLE (slice bs k n)
  let i (k n : Nat) : Int := signedOf (8 * n) (u k n)
  let y48 (x : Int) : Rat := (x : Rat) / (2 ^ 48 : Nat)
  { tRef := (u 0x08 6 : Rat) / (86400 : Nat), y0 := y48 (i 0x10 8), a := y48 (i 0x18 4), c1 := y48 (i 0x1C 4),
    c2 := (i 0x20 4 : Rat) / (2 ^ 56 : Nat), tempRef := (i 0x24 2 : Rat) / (256 : Nat), terms := u 0x26 1,
    uy0 := y48 (u 0x2C 4 : Nat), ua := y48 (u 0x30 4 : Nat), uT := y48 (u 0x34 4 : Nat) }

/-- The newest of some records that hold their MAGIC and CRC (R182). -/
def newestRecord (magic : Nat) (rs : List (List Octet)) : Option (List Octet) :=
  (rs.filter (recordOk magic)).foldl (fun best r => match best with
    | none => some r
    | some b => if seqNewer (seqOf r) (seqOf b) then some r else some b) none

/-- The places of the model: both records and the copy in the hot image (R185). -/
def State.modelRecords (s : State) : List (List Octet) :=
  [s.nvOctets 0x10000 256, s.nvOctets 0x10100 256, s.hotGet 0x10 256]

/-- The model is restored at the end of STAGING (R169, R185): y0 is to be anchored again (DEDUCED, log entry 50). -/
def State.modelRestore (s : State) : State :=
  match newestRecord modelMagic s.modelRecords with
  | none => s.when (s.modelRecords.any fun r => fromLE (r.take 4) == modelMagic) (·.raise HOLD_EVT_RESTORE_FAIL)
  | some bs =>
    let m := modelOf bs
    let s := { s with hold := { s.hold with
      model := m, prior := some m, refSet := true, obs := [], learnMin := fromLE (slice bs 0x28 4), newMin := 0 } }
    ((s.setStage 1).set HOLD_STATUS_RESTORED 1).reportModel

/-- The model is restored on exit from VIGIL at the stage it had at entry (R169, R179) (DEDUCED, log entry 50). -/
def State.modelReturn (s : State) : State :=
  match newestRecord modelMagic s.modelRecords with
  | none => s
  | some bs =>
    if s.hold.vigilStage < 2 then s
    else ({ s with hold := { s.hold with model := modelOf bs } }.setStage s.hold.vigilStage).reportModel

/-- The calibration word is loaded at the end of STAGING (R180) (DEDUCED, log entry 50). -/
def State.calRestore (s : State) : State :=
  match newestRecord calMagic [s.nvOctets 0x18000 256, s.nvOctets 0x18100 256] with
  | none => s
  | some bs => (s.setWide HOLD_CAL_LO HOLD_CAL_HI 16 (signedOf 64 (fromLE (slice bs 8 8)))).set HOLD_STATUS_CAL_VALID 1

/-- Is a page of the event log valid (R482)? -/
def logPageOk (bs : List Octet) : Bool :=
  fromLE (bs.take 4) == 0x4C455A51 && fromLE (slice bs 0x0C 4) == crc32 (bs.take 12 ++ bs.drop 16)

/-- The entries of a page of the event log, newest first. -/
def logPageEntries (bs : List Octet) : List FaultEntry :=
  ((pieces 16 (min 15 (fromLE (slice bs 8 1))) (bs.drop 16)).map entryOf).reverse

/-- The event log is recovered (R478, R482): its newest page, then the entries that only the hot tail holds; `since` are the
entries logged since the reset, oldest first (DEDUCED, log entry 50). -/
def State.logRecover (since : List FaultEntry) (s : State) : State :=
  let pages := (List.range 112).map fun k => (k, s.nvOctets (0x1000 + 256 * k) 256)
  let best := (pages.filter fun p => logPageOk p.2).foldl (fun (b : Option (Nat × List Octet)) p => match b with
    | none => some p
    | some q => if seqNewer (seqOf p.2) (seqOf q.2) then some p else some q) none
  let s := match best with
    | none => s
    | some (k, bs) => { s with flt := { s.flt with page := k, pageSeq := seqOf bs, pageEntries := logPageEntries bs } }
  let newest := s.flt.pageEntries.head?.map FaultEntry.seq
  let tail := (s.flt.tail.drop since.length).reverse
  let fresh := tail.filter fun e => match newest with | none => true | some q => seqNewer16 e.seq q
  let last := match fresh.getLast? with | some e => some e.seq | none => newest
  let next := match last with | none => 0 | some q => (q + 1) % 65536
  let s := { s with flt := { s.flt with seq := next } }
  let s := s.set FLT_NVLOG_NEXT_SEQ s.flt.seq
  if s.get NVS_PROTECT_LEVEL = 3 then s else (fresh ++ since).foldl (fun t e => t.pageAppend e) s

end Sys2Proof.Machine
end

