-- ==== Sys2Proof/Machine/PowerOps.lean ====
section
/-! DEFINITION. Clock gates (R77 to R80) and the power ladder (chapter 24): requests, entry, wake and exit, the governor. -/

namespace Sys2Proof.Machine

/-! ### Gates -/

/-- A gate takes effect (R78): the ports of a quad park (R313), the timers of BUF stand still (R356), the gauges are lost to
references and ports (R97, R267). -/
def State.gateShut (b : Nat) (s : State) : State :=
  if !s.gatesWanted.testBit b ∨ s.gateIn b ∨ 23 ≤ b then s
  else
    let s := s.set CGU_GATE_STATUS_GATED (putBit (s.get CGU_GATE_STATUS_GATED) b true)
    if b < 12 then s.each [0, 1, 2, 3] fun k t => t.portPark false (4 * b + k)
    else if b = 17 then s.timersGate true
    else if b = 22 then s.refLinesAll.phaseEvalAll
    else s

/-- A gate opens (R80, R263, R313). -/
def State.gateReopen (b : Nat) (s : State) : State :=
  if s.gatesWanted.testBit b ∨ !s.gateIn b then s
  else
    let s := s.set CGU_GATE_STATUS_GATED (putBit (s.get CGU_GATE_STATUS_GATED) b false)
    if b < 12 then s.each [0, 1, 2, 3] fun k t => t.portUnpark (4 * b + k)
    else if b = 17 then (s.timersGate false).bufReopen
    else if b = 18 then s.each (List.range 48) State.gatesMove
    else if b = 22 then (s.each (List.range 64) State.gaugeFresh).refLinesAll.phaseEvalAll
    else s

/-- A gate is forced (R78): every access in flight ends with an error response and a fault. -/
def State.gateForce (b : Nat) (inFlight : List InFlight) (s : State) : State :=
  if !s.gatesWanted.testBit b ∨ s.gateIn b ∨ 23 ≤ b then s
  else
    let s := inFlight.foldl (fun t a => (t.errorReply a.m).logFault 0x05 0 (some (a.m, a.write, a.addr))) s
    (s.countMod CGU_GATE_STATUS_FORCE_COUNT).gateShut b

/-! ### The ladder -/

/-- The code of a power state (R491). -/
def powerCode : PowerState → Nat
  | .run => 0 | .lean => 1 | .keep => 2 | .vigil => 3 | .dormant => 4
def powerOf : Nat → PowerState
  | 0 => .run | 1 => .lean | 2 => .keep | 3 => .vigil | _ => .dormant

/-- The gates a state closes, as CGU_GATE bits (R489) (DEDUCED, log entry 14). -/
def powerGates : PowerState → Nat
  | .run => 0 | .lean => 0x0F0FFF | .keep => 0x3F0FFF | _ => 0x7F0FFF

/-- The gates the governor asks for: those of the state and the quads it has shed (R77) (DEDUCED, log entry 14). -/
def State.govGates (s : State) : State :=
  { s with pwr := { s.pwr with gates := s.pwr.shed.foldl (fun g q => putBit g q true) (powerGates s.pwr.state) } }

/-- The state in force is shown (R491). -/
def State.showPower (s : State) : State :=
  let c := if powerCode s.pwr.state < 3 then powerCode s.pwr.state else 0
  (s.set PWR_STATUS_STATE c).set GLB_STATUS_PWR c

/-- The stops of LEAN or KEEP (R489) (DEDUCED, log entry 67). -/
def State.lowerTo (p : PowerState) (s : State) : State :=
  let s := ({ s with pwr := { s.pwr with state := p } }.govGates).portsPark
  let s := if p = .keep then s.each [1, 2, 3] State.axleOff else s
  s.outEvalAll.refLinesAll

/-- All gates of the state in force take effect (DEDUCED, log entry 14). -/
def State.gatesSettle (s : State) : State := (s.each (List.range 23) State.gateShut).each (List.range 23) State.gateReopen

/-- BUSY follows the transition in progress (R490). -/
def State.setTarget (t : Option PowerState) (s : State) : State :=
  { s with pwr := { s.pwr with target := t } }.setB PWR_STATUS_BUSY t.isSome

/-- The further stops of VIGIL and DORMANT (R489, R492): what is lost there is lost. -/
def State.deepStops (p : PowerState) (s : State) : State :=
  let s := s.each (List.range 64) fun n t => t.statEnd n true
  let s := s.each [0, 1, 2, 3] State.axleOff
  let s := s.each [0, 1, 2, 3] fun n t => t.setAxle n { t.axle n with q := 0, jumping := false }
  let fatal := s.get FLT_COUNT2_FATAL
  let priv := s.get HIF_PRIV_PRIV
  let lost (a : Nat) : Bool := (decide (0x240000 ≤ a ∧ a < 0x300000)) || decide (0x320000 ≤ a ∧ a < 0x340000)
  let s := (((s.clearRegs lost).set FLT_COUNT2_FATAL fatal).set HIF_PRIV_PRIV priv).setB FLT_STATUS_NVLOG_OFF
    (s.get NVS_PROTECT_LEVEL == 3)
  let fw := { (default : FwSt) with down := 3, mask := s.fw.mask, evSeq := s.fw.evSeq }
  let s := { s with
    fwd := default, buf := default, sch := default, mir := default, hif := default, flt := default, fw := fw
    pwr := { s.pwr with state := p, shed := [], upRun := [], downRun := [], phase := 4 } }
  (s.govGates.gatesSettle).outEvalAll

/-- VIGIL begins for the loops (R179): b_l as though the source were lost here. -/
def State.vigilFix (s : State) : State :=
  let s := s.each [0, 1, 2, 3] fun l t => t.when (t.loopState l != 0) (State.fixHold l t.secNow)
  { s with hold := { s.hold with vigilStage := s.get HOLD_STATUS_STAGE, vigilAt := s.domTime 0 } }

/-- The next part of an entry to VIGIL or DORMANT, once nothing is being programmed (R415, R416, R429, R492). -/
def State.powerNv (s : State) : State :=
  if s.nvs.job.isSome || s.nvs.save.isSome then s
  else
    let s := if s.pwr.phase ≠ 1 then s
      else
        let s := s.when (!s.nvs.buffer.isEmpty) fun t => ({ t with nvs := { t.nvs with
          buffer := [] } }.nvDirty).raise NVS_EVT_BUF_LOST
        let s := { s with pwr := { s.pwr with phase := 2 } }
        if s.get NVS_PROTECT_LEVEL = 3 ∨ s.on NVS_STATUS_PFW_ACTIVE then s
        else s.hotSaveStart (if s.pwr.target = some .vigil then 1 else 2) false
    if s.pwr.phase ≠ 2 ∨ s.nvs.save.isSome then s
    else
      let s := s.mbxResetAll
      match s.pwr.target with
      | some .vigil => { s with pwr := { s.pwr with phase := 3 } }.requestSwitch 2 1 true
      | some .dormant => s.deepStops .dormant
      | _ => s

/-- Entry to a lower state begins (R492) (DEDUCED, log entry 67). -/
def State.powerEnter (p : PowerState) (mask : Nat) (s : State) : State :=
  let s := { s with pwr := { s.pwr with from_ := s.pwr.state, mask := mask, heldWake := none, phase := 0 } }.setTarget (some p)
  match p with
  | .run => s
  | .lean => (s.lowerTo .lean).showPower
  | .keep => (s.lowerTo .keep).showPower
  | _ =>
    let s := if s.pwr.state = .keep then s else s.lowerTo .keep
    let s := if p = .vigil then s.commitModel else s
    { s with pwr := { s.pwr with phase := 1 } }.powerNv

/-- What an exit to LEAN or RUN from a lower state restarts (R205, R270, R313) (DEDUCED, log entry 67). -/
def State.rise (p : PowerState) (s : State) : State :=
  let keep := s.pwr.state = .keep
  let s := ({ s with pwr := { s.pwr with state := p } }.govGates).gatesSettle
  let s := if keep ∧ p ≠ .keep then ((s.each [1, 2, 3] fun n t => t.when (t.on (AXL_CFG_ENABLE n)) (State.axleStart n)).calRestartAll) else s
  (s.outEvalAll.refLinesAll).each (List.range 48) State.portUnpark

/-- The time-base switch for VIGIL was abandoned (R84, R492): code 3, and the device returns to the state it came from. -/
def State.vigilRefused (s : State) : State :=
  let back := s.pwr.from_
  let s := { s with pwr := { s.pwr with phase := 0 } }.setTarget none
  let s := if back = .keep then s else s.rise back
  (s.set PWR_STATUS_REFUSE 3).raise PWR_EVT_REFUSED

/-- The step the present Tj gives (R497) (DEDUCED, log entry 68). -/
def State.tempStep (s : State) : Nat :=
  let t := s.getI FLT_TEMP_TJ
  if 120 * 256 ≤ t then 3 else if 115 * 256 ≤ t then 2 else if 108 * 256 ≤ t then 1 else 0

/-- The next quad of the shed list is gated (R496) (DEDUCED, log entry 68). -/
def State.shedNext (s : State) : State :=
  let k := s.pwr.shed.length
  let w := s.getWide PWR_SHED_LO PWR_SHED_HI 16
  let es := (List.range 12).map fun j => w / 16 ^ j % 16
  let q := es.getD k 15
  if k < 12 ∧ q < 12 ∧ (es.take k).all (· != 15) then
    ({ s with pwr := { s.pwr with shed := q :: s.pwr.shed } } : State).govGates
  else s

/-- The last quad the governor gated is reopened (R496) (DEDUCED, log entry 68). -/
def State.shedBack (s : State) : State := ({ s with pwr := { s.pwr with shed := s.pwr.shed.tail } } : State).govGates

/-- The governor takes a step (R495 to R497); at TRIP a device in RUN enters LEAN (DEDUCED, log entry 68). -/
def State.govStep (n : Nat) (s : State) : State :=
  let old := s.get PWR_STATUS_STEP
  if old = n then s
  else
    let s := ((s.set PWR_STATUS_STEP n).raise PWR_EVT_STEP_CHG).logFault 0x24 n none
    let s := s.queueEvent 12 [packWord [(s.get FLT_TEMP_TJ, 0), (n, 16)]]
    let s := s.when (decide (old = 0)) fun t => (t.set GAU_GLB_STATUS_THROTTLED 1).mirThermal true
    let s := s.when (decide (n = 0)) fun t => (t.set GAU_GLB_STATUS_THROTTLED 0).mirThermal false
    let s := s.when (decide (old < 2 ∧ 2 ≤ n)) State.shedNext
    let s := s.when (decide (2 ≤ old ∧ n < 2)) State.shedBack
    if n = 3 then
      let s := { s with pwr := { s.pwr with lowHold := true } }
      if s.pwr.state = .run ∧ s.pwr.target.isNone then
        let t := s.powerEnter .lean 1
        { t with pwr := { t.pwr with trip := some s.cyc } }
      else s
    else s

/-- The exit to RUN begins, with its cause (R492, R493) (DEDUCED, log entry 67). -/
def State.powerExit (cause : Nat) (s : State) : State :=
  let s := (s.setTarget (some .run)).set PWR_WAKE_CAUSE_CAUSE cause
  if s.pwr.state = .vigil then s.requestSwitch 2 0 true else s

/-- Which refusal a request meets, 0 for none (R490, R491, R493, R497) (DEDUCED, log entry 69). -/
def State.powerRefusal (s : State) (p : PowerState) (mask : Nat) : Nat :=
  let reach := match s.pwr.state, p with
    | .run, .run => false | .run, _ => true
    | .lean, .lean => false | .lean, _ => true
    | .keep, .lean => false | .keep, .keep => false | .keep, _ => true
    | _, _ => false
  if !reach then 1
  else if p = .run ∧ s.get PWR_STATUS_STEP = 3 ∧ 110 * 256 ≤ s.getI FLT_TEMP_TJ then 2
  else if p = .dormant ∧ !mask.testBit 0 ∧ !mask.testBit 2 then 4
  else if s.on NVS_STATUS_PFW_ACTIVE then 5
  else 0

/-- A request that found no transition in progress (R490): `cause` is what PWR_WAKE_CAUSE takes for RUN (DEDUCED, log entry
69). -/
def State.powerAsk (p : PowerState) (mask cause : Nat) (s : State) : State :=
  let code := s.powerRefusal p mask
  if code ≠ 0 then (s.set PWR_STATUS_REFUSE code).raise PWR_EVT_REFUSED
  else if p = .run then
    let s := { s with pwr := { s.pwr with lowHold := false } }
    let s := s.when (s.get PWR_STATUS_STEP == 3) fun t => t.govStep t.tempStep
    s.powerExit cause
  else s.powerEnter p mask

/-- A write of PWR_REQ (R490, R503): a TARGET out of range stays as it was (R25). In the cycle in which TRIP entered LEAN a request
is tested from LEAN (R502) (DEDUCED, log entry 69). -/
def State.pwrReqWrite (m : Master) (v : Word) (r : RegRow) (s : State) : State :=
  if fieldOf PWR_REQ_GO v = 0 then s.plainWrite m PWR_REQ v r
  else if s.pwr.target.isSome && s.pwr.trip != some s.cyc then s.refuseWrite m PWR_REQ
  else
    let s := (s.plainWrite m PWR_REQ v r).set PWR_REQ_GO 0
    s.powerAsk (powerOf (s.get PWR_REQ_TARGET)) (s.get PWR_REQ_WAKE) 5

/-- Does a wake source apply to a state and is it armed there (R493)? Sources by PWR_WAKE_CAUSE code (DEDUCED, log entry 67). -/
def State.armed (s : State) (p : PowerState) (source : Nat) : Bool :=
  match source with
  | 1 => s.pwr.mask.testBit 0 && p != .run
  | 2 => s.pwr.mask.testBit 1 && p == .vigil
  | 3 => s.pwr.mask.testBit 2 && (p == .vigil || p == .dormant)
  | 4 => p == .vigil
  | _ => false

/-- A wake source acts on a device that has completed its entry (R493). -/
def State.wakeNow (source : Nat) (s : State) : State :=
  match s.pwr.state with
  | .run => s
  | .lean => s.powerAsk .run 0 source
  | .keep => s.powerAsk .run 0 source
  | _ => s.powerExit source

/-- A wake source is taken; during an entry it is held (R494) (DEDUCED, log entry 67). -/
def State.wake (source : Nat) (s : State) : State :=
  match s.pwr.target with
  | some .run => s
  | some p =>
    if s.armed p source then { s with pwr := { s.pwr with heldWake := s.pwr.heldWake.orElse fun _ => some source } } else s
  | none => s.when (s.armed s.pwr.state source) (State.wakeNow source)

/-- Every switch of the time base in progress or waiting has completed (DEDUCED, log entry 67). -/
def State.tbaseSettle (s : State) : State :=
  s.each (List.range (s.cgu.waiting.length + 1)) fun _ t =>
    match t.switchBusy 2 with
    | some w => t.switchDone w
    | none => t

/-- Entry completes (R492, R494): what it still waits for has happened by then (DEDUCED, log entry 67). -/
def State.entryDone (s : State) : State :=
  if s.pwr.target.isNone ∨ s.pwr.target = some .run then s
  else
  let s := match s.pwr.target with
    | some .vigil | some .dormant =>
      let s := (s.jobEnd.powerNv).saveEnd.powerNv
      let s := s.saveEnd.powerNv
      if s.pwr.phase = 3 then
        s.tbaseSettle.vigilFix.deepStops .vigil
      else s
    | _ => s.gatesSettle
  let s := ({ s with pwr := { s.pwr with phase := 0 } } : State).setTarget none
  match s.pwr.heldWake with
  | none => s
  | some c => ({ s with pwr := { s.pwr with heldWake := none } } : State).wakeNow c

/-- The readings of the sensor are older by the time asleep (R168, R174). -/
def State.vigilTemps (sec : Rat) (s : State) : State :=
  { s with hold := { s.hold with
      temps := s.hold.temps.map fun (r : Rat × Rat) => (r.1 - sec, r.2), tAt := s.hold.tAt - sec, goodTick := false } }.slewEval

/-- The loops on exit from VIGIL (R39, R156, R179): HOLDOVER where a prediction is offered, else FREERUN. -/
def State.vigilLoops (s : State) : State :=
  let tau := (s.domTime 0 + cSpan - s.hold.vigilAt) % cSpan / secUnit
  (s.vigilTemps (tau : Nat)).each [0, 1, 2, 3] fun l t =>
    if t.loopState l = 0 then t
    else if t.offered l then
      let tf : Rat := if t.on HOLD_CFG_TS_EN then (t.get HOLD_TSENS_SLEW_LIM : Rat) / 36000 * (tau * tau : Nat) / 2 else 0
      ((t.setHoldLoop l { t.holdLoop l with tau := tau, thetaF := tf }).setLoopState l 3).reportBound l
    else t.setLoopState l 4

/-- A reference on exit from VIGIL (R99, R111): VOID, with the lines as they are now in CAUSE. -/
def State.vigilRef (n : Nat) (s : State) : State :=
  if s.get (REFM_STATE_STATE n) = 0 then s
  else
    let s := (s.setRef n { s.ref n with cond := 0, badRun := 0, jumped := false, bad := false }).refLines n
    (((s.set (REFM_STATE_FAILED_ONCE n) 0).setRefState n 1).clearWindows n).edgesStop n true

/-- A selector on exit from VIGIL (R138): no changeover goes on, and no reference is followed. -/
def State.vigilSel (l : Nat) (s : State) : State :=
  (s.setSel l { s.sel l with
    target := none, bEdges := [], aEdges := [], aLost := false, follow := [], compare := false }).set (SEL_STATUS_CHG_BUSY l) 0

/-- References and selectors on exit from VIGIL. -/
def State.vigilRefs (s : State) : State :=
  (s.each [0, 1, 2, 3] State.vigilSel).thenSelect fun t => t.each (List.range 64) State.vigilRef

/-- Exit from VIGIL to RUN (R76, R179, R205, R236, R415, R478, R492). -/
def State.vigilExit (s : State) : State :=
  let loss := s.pwr.xoWake
  let s := ({ s with pwr := { s.pwr with state := .run, xoWake := 0 } }.govGates).gatesSettle
  let s := ((s.hotRestore.logRecover []).modelReturn).axleTo 0 3 true
  let s := if loss = 0 then s else { s.failover with cgu := { s.failover.cgu with coasting := false, goodRun := 0 } }
  let s := ((s.retime 1 (s.dom 0).c (s.dom 0).e).set (TIM_STATUS_SEC_VALID 1) 0).raise (TIM_EVT_VIGIL_LOST 1)
  let s := s.offerEval.vigilLoops.vigilRefs
  let s := s.each [1, 2, 3] fun n t => t.when (t.on (AXL_CFG_ENABLE n)) (State.axleStart n)
  let s := s.each (List.range 192) fun k t =>
    t.when (t.get (SESS_STATUS_STATE k) != 0) fun t => (t.dropExchanges k).setSessState k 1
  (((s.calRestartAll.set FWD_STATUS_TABLES_LOST 1).set PWR_STATUS_STEP 0).set GAU_GLB_STATUS_THROTTLED 0).outEvalAll.each (List.range 48) State.portUnpark

/-- Exit completes (R43, R492): the time base is back on the root first (DEDUCED, log entry 67). -/
def State.exitDone (s : State) : State :=
  if s.pwr.target ≠ some .run then s
  else if s.pwr.state = .dormant then s.internalReset 4
  else
    let done (s : State) : State :=
      let s := (s.showPower.setTarget none).raise PWR_EVT_WAKE
      if s.pwr.lowHold then s.powerEnter .lean 1 else s
    if s.pwr.state = .vigil then
      let s := match s.switchBusy 2 with
        | some w => if s.pwr.xoWake = 0 then s.switchDone w else s.switchByForce w
        | none => s
      if s.domSrc 2 = 0 ∧ (s.switchBusy 2).isNone then done s.vigilExit else s
    else done (s.rise .run)

end Sys2Proof.Machine
end

