-- ==== Sys2Proof/Machine/Power.lean ====
section
/-! DEFINITION. The commands of the power ladder and the governor (chapter 24), and the ends of commits and saves, which an
entry to VIGIL or DORMANT may wait for. -/

namespace Sys2Proof.Machine

/-- A low of WAKE_N (R493) (DESIGN CHOICE, log entry 8). -/
def State.wakePin (widthNs : Nat) (s : State) : State :=
  let used := decide (500 ≤ widthNs ∧ widthNs < 2000)
  let taken := decide (2000 ≤ widthNs) || (used && Config.wakePulseTaken s.free)
  (s.when used State.useFree).when taken (State.wake 1)

/-- An XO loss in VIGIL (R76, R493). -/
def State.vigilLoss (frequency : Bool) (s : State) : State :=
  if s.pwr.state ≠ .vigil ∨ s.pwr.xoWake ≠ 0 then s
  else
    let s := s.raise (if frequency then CGU_XO_EVT_LOSS_FREQ else CGU_XO_EVT_LOSS_ACT)
    State.wake 4 { s with pwr := { s.pwr with xoWake := if frequency then 2 else 1 } }

/-- A reading of the governor (R495): up at two readings in a row, down once below the leave limit for 1 s (DEDUCED, log entry
68). -/
def State.governor (s : State) : State :=
  if !s.boot.root ∨ s.asleep then s
  else
    let t := s.getI FLT_TEMP_TJ
    let step := s.get PWR_STATUS_STEP
    let up := [108, 115, 120].map fun (k : Int) => decide (k * 256 ≤ t)
    let ups := (List.range 3).map fun k => if up.getD k false then s.pwr.upRun.getD k 0 + 1 else 0
    let low := [105, 112].map fun (k : Int) => decide (t < k * 256)
    let downs := (List.range 2).map fun k => if low.getD k false then s.pwr.downRun.getD k 0 + 1 else 0
    let s := { s with pwr := { s.pwr with upRun := ups, downRun := downs } }
    let want := if 2 ≤ ups.getD 2 0 then 3 else if 2 ≤ ups.getD 1 0 then 2 else if 2 ≤ ups.getD 0 0 then 1 else 0
    if step < want then s.govStep want
    else if (step = 1 ∨ step = 2) ∧ 1000 < downs.getD (step - 1) 0 then s.govStep (step - 1)
    else s

/-- The timer of SHED (R496) (DEDUCED, log entry 68). -/
def State.shedTick (s : State) : State :=
  if s.asleep then s
  else if s.get PWR_STATUS_STEP < 2 then s.shedBack
  else s.when (decide (115 * 256 ≤ s.getI FLT_TEMP_TJ)) State.shedNext

/-- A write of the shed list (R25, R496): entries 12 to 14 are out of range. -/
def State.shedWrite (m : Master) (a : Nat) (v : Word) (r : RegRow) (s : State) : State :=
  let n := if a = PWR_SHED_LO then 8 else 4
  if (List.range n).any fun k => decide (12 ≤ v.toNat / 16 ^ k % 16 ∧ v.toNat / 16 ^ k % 16 ≤ 14) then s.badRange m a
  else s.plainWrite m a v r

/-- PFW_N is low (R407, R408, R501) (DESIGN CHOICE, log entry 8). -/
def State.pfwLine (widthNs : Nat) (s : State) : State :=
  if !s.boot.root ∨ s.asleep then s
  else
    let used := decide (500 ≤ widthNs ∧ widthNs < 2000)
    let taken := decide (2000 ≤ widthNs) || (used && Config.pfwPulseTaken s.free)
    let s := s.when used State.useFree
    if !taken ∨ s.on NVS_STATUS_PFW_ACTIVE then s
    else
      let s := s.pfwTaken
      if s.on PWR_CFG_PFW_LEAN ∧ (s.pwr.state = .run ∨ s.pwr.target = some .run) then
        let s := { s with pwr := { s.pwr with lowHold := true } }
        if s.pwr.target.isNone then s.powerEnter .lean 1 else s
      else s

/-! ### Commands -/

/-- COMMIT_DONE (R400). -/
def execCommitDone (s : State) : Host.Outcome State Fault Refusal := .next s.jobEnd.powerNv
/-- HOT_SAVE_DONE (R405). -/
def execHotSaveDone (s : State) : Host.Outcome State Fault Refusal := .next s.saveEnd.powerNv
/-- The clearing commit ends where it is still in progress, and the model is cleared (R169, R170). -/
def execClearCommitDone (s : State) : Host.Outcome State Fault Refusal := .next (s.when (s.jobWaits 4) fun t => t.jobEnd.powerNv)
/-- The commit of the word ends where it is still in progress, and the word takes effect (R181). -/
def execCalibrationTakesEffect (s : State) : Host.Outcome State Fault Refusal :=
  .next (s.when (s.jobWaits 3) fun t => t.jobEnd.powerNv).calEffect
/-- PFW_N_FALL (R408). -/
def execPfwNFall (widthNs : Nat) (s : State) : Host.Outcome State Fault Refusal := .next (s.pfwLine widthNs)
/-- POWER_REQUEST (R490). -/
def execPowerRequest (m : Master) (v : Word) (s : State) : Host.Outcome State Fault Refusal :=
  .next (State.access m PWR_REQ (State.pwrReqWrite m v) s)
/-- POWER_ENTRY_COMPLETE (R492). -/
def execPowerEntryComplete (s : State) : Host.Outcome State Fault Refusal := .next s.entryDone
/-- WAKE_N (R493). -/
def execWakeN (widthNs : Nat) (s : State) : Host.Outcome State Fault Refusal := .next (s.wakePin widthNs)
/-- WAKE_TIMER (R493). -/
def execWakeTimer (s : State) : Host.Outcome State Fault Refusal := .next (s.wake 2)
/-- SPI_CS_N_WAKE (R493). -/
def execSpiCsNWake (s : State) : Host.Outcome State Fault Refusal := .next (s.wake 3)
/-- VIGIL_XO_LOSS (R76). -/
def execVigilXoLoss (frequency : Bool) (s : State) : Host.Outcome State Fault Refusal := .next (s.vigilLoss frequency)
/-- POWER_EXIT_COMPLETE (R492). -/
def execPowerExitComplete (s : State) : Host.Outcome State Fault Refusal := .next s.exitDone
/-- GOVERNOR_READING (R495). -/
def execGovernorReading (s : State) : Host.Outcome State Fault Refusal := .next s.governor
/-- SHED_TIMER (R496). -/
def execShedTimer (s : State) : Host.Outcome State Fault Refusal := .next s.shedTick
/-- TOKEN_GAIN (R500). -/
def execTokenGain (s : State) : Host.Outcome State Fault Refusal :=
  .next (s.when (s.pwr.bucketOn && decide (s.get PWR_TOKENS_TOKENS < 60)) fun t => t.set PWR_TOKENS_TOKENS (t.get PWR_TOKENS_TOKENS + 1))
/-- WEAR_PERIOD_END (R500). -/
def execWearPeriodEnd (s : State) : Host.Outcome State Fault Refusal := .next { s with pwr := { s.pwr with wear := [] } }

end Sys2Proof.Machine
end

