-- ==== Sys2Proof/Machine/Clocks.lean ====
section
/-! DEFINITION. The commands of chapter 03: the XO judgement and its monitor, failover, gates, source switches, CLKOUT. -/

namespace Sys2Proof.Machine

/-- A write of CGU_GATE (R77, R78). -/
def State.gateWrite (m : Master) (v : Word) (r : RegRow) (s : State) : State := s.plainWrite m CGU_GATE v r

/-- What follows the governor's switch of the time base for an entry to VIGIL (R179, R492). -/
def State.afterSwitch (w : Switch) (s : State) : State :=
  s.when (w.dom == 2 && w.gov && s.pwr.phase == 3) fun t => t.vigilFix.deepStops .vigil

/-- A switch of a domain completes (R82). -/
def State.switchEnd (dom : Nat) (s : State) : State :=
  match s.switchBusy dom with
  | none => s
  | some w => (s.switchDone w).afterSwitch w

/-- A switch of a domain completes by force (R83). -/
def State.switchForce (dom : Nat) (s : State) : State :=
  match s.switchBusy dom with
  | none => s
  | some w => (s.switchByForce w).afterSwitch w

/-- A switch is abandoned (R84): on entry to VIGIL the entry is refused; on its exit, and for the lane reference, the switch
is asked for again. -/
def State.switchAbandon (dom : Nat) (s : State) : State :=
  match s.switchBusy dom with
  | none => s
  | some w =>
    let s := s.switchDropped w
    if dom = 2 ∧ w.gov ∧ s.pwr.phase = 3 then s.vigilRefused
    else if dom = 6 ∨ (dom = 2 ∧ w.gov ∧ s.pwr.state = .vigil ∧ s.pwr.target = some .run) then
      { s with cgu := { s.cgu with retry := w :: s.cgu.retry.filter (·.dom != dom) } }
    else s

/-- An abandoned switch is asked for again (R84, R202) (DEDUCED, log entry 13). -/
def State.switchAgain (dom : Nat) (s : State) : State :=
  match s.cgu.retry.find? (·.dom == dom) with
  | none => s
  | some _ =>
    let s := { s with cgu := { s.cgu with retry := s.cgu.retry.filter (·.dom != dom) } }
    if dom = 6 then s.laneFollow else s.requestSwitch dom 0 true

/-- A frequency loss (R72): both windows differ from the reference count. -/
def State.freqLoss (c1 c2 : Nat) (s : State) : State :=
  if s.cgu.refCount ≠ 0 ∧ windowOff s.cgu.refCount c1 ∧ windowOff s.cgu.refCount c2 then
    ({ s with cgu := { s.cgu with lastCount := c2 } } : State).xoLoss CGU_XO_EVT_LOSS_FREQ
  else s

/-- Does the monitor watch the XO with the root running (R72)? A loss in VIGIL has a command of its own. -/
def State.watching (s : State) : Bool := s.boot.root && s.on CGU_XO_STATUS_JUDGED && !s.asleep

/-! ### Commands -/

/-- XO_JUDGEMENT_DONE (R71). -/
def execXoJudgementDone (active : Bool) (hz : Nat) (counts : List Nat) (s : State) : Host.Outcome State Fault Refusal :=
  .next (s.xoJudge active hz counts)
/-- XO_ACTIVITY_LOSS (R72). -/
def execXoActivityLoss (s : State) : Host.Outcome State Fault Refusal :=
  .next (s.when s.watching (State.xoLoss CGU_XO_EVT_LOSS_ACT))
/-- XO_FREQUENCY_LOSS (R72). -/
def execXoFrequencyLoss (count1 count2 : Nat) (s : State) : Host.Outcome State Fault Refusal :=
  .next (s.when s.watching (State.freqLoss count1 count2))
/-- FAILOVER_LOCK (R73). -/
def execFailoverLock (s : State) : Host.Outcome State Fault Refusal := .next { s with cgu := { s.cgu with coasting := false } }
/-- XO_RETURN_REQUEST (R75). -/
def execXoReturnRequest (m : Master) (v : Word) (s : State) : Host.Outcome State Fault Refusal :=
  .next (State.access m CGU_XO_CTRL (State.xoCtrlWrite m v) s)
/-- XO_RETURN_LOCK (R75). -/
def execXoReturnLock (count : Nat) (s : State) : Host.Outcome State Fault Refusal := .next (s.xoReturned count)
/-- XO_MONITOR_WINDOW (R75). -/
def execXoMonitorWindow (active : Bool) (hz count : Nat) (s : State) : Host.Outcome State Fault Refusal :=
  .next (s.monitorWindow active hz count)
/-- GATE_REQUEST (R78). -/
def execGateRequest (m : Master) (v : Word) (s : State) : Host.Outcome State Fault Refusal :=
  .next (State.access m CGU_GATE (State.gateWrite m v) s)
/-- GATE_TAKES_EFFECT (R78). -/
def execGateTakesEffect (bit : Nat) (s : State) : Host.Outcome State Fault Refusal := .next (s.gateShut bit)
/-- FORCED_GATE (R78). -/
def execForcedGate (bit : Nat) (inFlight : List InFlight) (s : State) : Host.Outcome State Fault Refusal :=
  .next (s.gateForce bit inFlight)
/-- GATE_OPEN (R80). -/
def execGateOpen (bit : Nat) (s : State) : Host.Outcome State Fault Refusal := .next (s.gateReopen bit)
/-- DOMAIN_SOURCE_WRITE (R81). -/
def execDomainSourceWrite (m : Master) (v : Word) (s : State) : Host.Outcome State Fault Refusal :=
  .next (State.access m CGU_DOM_SRC (State.domSrcWrite m v) s)
/-- SWITCH_COMPLETE (R82). -/
def execSwitchComplete (dom : Nat) (s : State) : Host.Outcome State Fault Refusal := .next (s.switchEnd dom)
/-- SWITCH_FORCED (R83). -/
def execSwitchForced (dom : Nat) (s : State) : Host.Outcome State Fault Refusal := .next (s.switchForce dom)
/-- SWITCH_ABANDONED (R84). -/
def execSwitchAbandoned (dom : Nat) (s : State) : Host.Outcome State Fault Refusal := .next (s.switchAbandon dom)
/-- SWITCH_RETRY (R84). -/
def execSwitchRetry (dom : Nat) (s : State) : Host.Outcome State Fault Refusal := .next (s.switchAgain dom)
/-- CLKOUT_WRITE (R89). -/
def execClkoutWrite (m : Master) (v : Word) (s : State) : Host.Outcome State Fault Refusal :=
  .next (State.access m CGU_CLKOUT (State.clkoutWrite m v) s)

end Sys2Proof.Machine
end

