-- ==== Sys2Proof/Machine/Flags.lean ====
section
/-! DEFINITION. What is formed from event bits in every cycle and never stored: the event maps of the references and gauges,
the interrupt causes and the pin IRQ_N (R470, R471). -/

namespace Sys2Proof.Machine

/-- A 64-bit map of the units whose word is not 0. -/
def State.mapOf (s : State) (addr : Nat → Nat) : Nat :=
  (List.range 64).foldl (fun n k => if s.rd (addr k) = 0 then n else n + 2 ^ k) 0

/-- References with any bit of REFM_EVT set. -/
def State.refEvtMap (s : State) : Nat := s.mapOf REFM_EVT
/-- Channels with any bit of GAU_EVT set. -/
def State.gauEvtMap (s : State) : Nat := s.mapOf GAU_EVT

/-- Is cause `n` pending (R470)? -/
def State.causePending (s : State) (n : Nat) : Bool :=
  if n < 4 then s.rd (MBX_EVT n 0) != 0
  else if n = 4 then s.on HIF_PKT_EVT_RX_DONE
  else if n = 5 then s.on HIF_PKT_EVT_TX_DONE || s.on HIF_PKT_EVT_DMA_ERR
  else if n = 6 then s.rd MIR_EVT != 0
  else if n = 7 then s.on FLT_EVT_IRQ
  else if n = 8 then s.on GLB_STATUS_MODE_EVT
  else decide (n = 9) && s.on CGU_XO_EVT_FAILOVER

/-- HIF_IRQ_STATUS.PENDING (R470). -/
def State.irqPending (s : State) : Nat :=
  (List.range 10).foldl (fun k n => if s.causePending n then k + 2 ^ n else k) 0

/-- IRQ_N is driven low (R471). -/
def State.irqLow (s : State) : Bool :=
  s.boot.root && !s.asleep && (s.irqPending &&& s.get HIF_IRQ_EN_IRQ_EN != 0 || s.causePending 9)

/-- May cause `n` send its vector (R472)? (DESIGN CHOICE, log entry 73) -/
def State.msixMay (s : State) (n : Nat) : Bool := decide (n = 9) || (decide (n < 9) && (s.get HIF_MSIX_EN_MSIX_EN).testBit n)

end Sys2Proof.Machine
end

