-- ==== Sys2Proof/Machine/Loops.lean ====
section
/-! DEFINITION. The commands of loops (chapter 06): updates and the filter, loss of the source, enabling, forcing, ramps and
the lead loop. -/

namespace Sys2Proof.Machine

/-! ### The update -/

/-- The filter of R143: e in ns, frequencies relative. -/
def State.filter (l : Nat) (e : Rat) (s : State) : State :=
  let tu := s.updateSec l
  let (kp, ki, _) := s.gains l tu
  let g : Rat := (10 ^ 9 : Nat)
  let (p, sl) := limited ((s.get (DPL_SLOPE_PSL l) : Rat) / 10 / g) (kp * e / g)
  let (di, fl) := limited ((s.get (DPL_FSL_FSL l) : Rat) / 100 / g * tu) (ki * tu * e / g)
  let integ := fine ((s.loop l).integ + di)
  let (lim, pl) := limited (s.pull l) (integ + p)
  let y := integ + p
  let integ := if pl then fine (lim - p) else integ
  let s := (s.setB (DPL_STATUS_SLOPE_LIMIT l) sl).setB (DPL_STATUS_FSL_LIMIT l) fl
  (s.setLoop l { s.loop l with integ := integ }).setY l (fine y)

/-- The step of R153 (DESIGN CHOICE, log entry 26). -/
def State.loopStep (l : Nat) (e : Rat) (s : State) : State :=
  let x := roundAway (e * (2 ^ 40 : Nat))
  let lp := s.loop l
  let s := if l < 2 then s.stepC l x
    else s.setLoop l { lp with shadow := (((lp.shadow : Int) + x) % (cSpan : Int)).toNat }
  let mask := s.get (DPL_CFG_AXLE l)
  let named := [1, 2, 3].filter fun n => mask.testBit (n - 1)
  let s := s.setLoop l { s.loop l with stepping := named.foldl (fun k n => k + 2 ^ n) 0 }
  let s := s.each named fun n t => t.requestStep n (roundAway (e * 2560)) true
  let s := s.setB (DPL_STATUS_STEPPING l) ((s.loop l).stepping != 0)
  ((s.raise (DPL_EVT_STEP l)).count (DPL_COUNT_STEPS l)).learnBreak l

/-- The lock and unlock criteria at an update (R154) (DEDUCED, log entry 25). -/
def State.lockEval (l : Nat) (e : Rat) (s : State) : State :=
  let lp := s.loop l
  let a := ratAbs e
  match s.loopState l with
  | 1 =>
    let t := if a ≤ (s.get (DPL_LOCK_LOCK_THR l) : Rat) then
        some (match lp.lockFor with | none => 0 | some x => fine (x + s.updateSec l)) else none
    let s := s.setLoop l { lp with lockFor := t }
    match t with
    | some x => if (s.get (DPL_LOCK_TIME_LOCK_TIME l) : Rat) / 10 ≤ x then s.setLoopState l 2 else s
    | none => s
  | 2 =>
    let n := if (s.get (DPL_LOCK_UNLOCK_THR l) : Rat) < a then lp.unlockRun + 1 else 0
    let s := s.setLoop l { lp with unlockRun := n }
    if s.get (DPL_LOCK_TIME_UNLOCK_CNT l) ≤ n then
      ((s.raise (DPL_EVT_UNLOCK l)).count (DPL_COUNT_UNLOCKS l)).setLoopState l 1
    else s
  | _ => s

/-- The end of an update interval (R142, R143, R153, R154, R155, R156) (DEDUCED, log entry 25). -/
def State.loopUpdate (l : Nat) (s : State) : State :=
  let st := s.loopState l
  let lp := s.loop l
  let clear (t : State) : State := t.setLoop l { t.loop l with samples := [] }
  if st = 0 ∨ s.asleep then s
  else if s.on (DPL_STATUS_STEPPING l) then clear s
  else
  let s := s.gainEval l
  if lp.samples.isEmpty ∨ s.inputHeld l then clear (s.flywheel l)
  else
    let e := fine (ratMean lp.samples + (lp.ramp.r : Rat) / (65536 * rampUnit : Int) + (s.rampAcc l : Rat) / 65536)
    let s := (clear s).setWide (DPL_PHERR_LO l) (DPL_PHERR_HI l) 16 (roundAway (e * 65536))
    let s := s.setLoop l { s.loop l with e := e }
    if st = 3 ∨ st = 4 then s
    else
      let s := (s.set (DPL_STATUS_FLYWHEEL l) 0).setLoop l { s.loop l with fresh := false }
      if lp.fresh && s.on (DPL_CFG_STEP_EN l) && decide ((1000 * s.get (DPL_LOCK_TIME_STEP_MIN l) : Nat) < ratAbs e) then
        s.loopStep l e
      else ((s.filter l e).learnUpdate l).lockEval l e

/-- Every axle has reported the step of a loop complete (R153). -/
def State.loopStepDone (l : Nat) (s : State) : State :=
  s.when ((s.loop l).stepping == 0) (·.set (DPL_STATUS_STEPPING l) 0)

/-- No sample has been taken for 3 × T_u, or the selector has no reference (R155). -/
def State.sourceLost (l : Nat) (s : State) : State :=
  if s.asleep ∨ s.inputHeld l ∨ !(s.loop l).samples.isEmpty then s else s.loseSource l

/-! ### Registers -/

/-- The bits of DPL_CFG.AXLE a loop may name: DP2 names AX1 and nothing else, the others never AX1. -/
def axleBits (l x : Nat) : Nat := if l = 2 then 1 else x / 2 * 2

/-- Does a source other than the selector give samples: has one come within 3 × T_u (R155, R156)? -/
def State.sourceGives (s : State) (l : Nat) : Bool :=
  s.loopSrc l != 0 && match (s.loop l).heard with
    | some c => decide (((s.cyc - c : Nat) : Rat) ≤ 3 * s.updateSec l * 312500000)
    | none => false

/-- The reference a loop can take samples of when it is switched on, and its basis (R156). -/
def State.samplesReady (s : State) (l : Nat) : Option (Nat × Nat) :=
  if s.loopSrc l = 0 ∧ s.get (DPL_CTRL_FORCE l) = 0 then (s.choice l).filter fun c => s.gives c.1 (2048 * s.cyc) else none

/-- A loop starts from OFF (R156): with samples at hand it makes a first selection and acquires, else it runs free (DEDUCED,
log entry 25). -/
def State.loopStart (l : Nat) (s : State) : State :=
  let lp := s.loop l
  let s := (s.wr (DPL_COUNT l) 0).setLoop l { lp with shadow := 0, wasLocked := false, samples := [], stepping := 0 }
  let s := s.setHoldLoop l { s.holdLoop l with left := false }
  let s := s.setSel l { s.sel l with active := none, target := none, had := [], follow := smPut (s.sel l).follow 64 none }
  let s := (s.set (SEL_STATUS_CHG_BUSY l) 0).showActive l 0
  let s := match s.samplesReady l with
    | some (n, basis) => ((s.firstSelect l n basis).preset l n).acquire l true
    | none =>
      if s.sourceGives l && s.get (DPL_CTRL_FORCE l) == 0 then s.acquire l true else (s.setLoopState l 4).selEval l
  s.offerEval

/-- Is an axle named by loop `l` steered by another enabled loop (R158)? -/
def State.axleTaken (s : State) (l mask : Nat) : Bool :=
  [0, 1, 2, 3].any fun k => k != l && s.on (DPL_CFG_ENABLE k) && (s.get (DPL_CFG_AXLE k)) &&& mask != 0

/-- Are SRC and SRC_ID such that a loop may be enabled (R158)? -/
def srcOk (src id : Nat) : Bool :=
  match src with | 0 => true | 1 => decide (id < 64) | 2 => decide (id < 192) | 3 => decide (id < 48) | 4 => true | _ => false

/-- A loop is switched off (R156, R161, R204). -/
def State.loopStop (l : Nat) (s : State) : State :=
  let mask := s.get (DPL_CFG_AXLE l)
  let s := (s.rampStop l).setLoopState l 0
  let s := s.setLoop l { s.loop l with stepping := 0, samples := [] }
  let s := (s.set (DPL_STATUS_STEPPING l) 0).set (DPL_STATUS_FLYWHEEL l) 0
  let s := s.each [1, 2, 3] fun n t => t.when (mask.testBit (n - 1)) (State.dropSteps n)
  s.outEvalAll

/-- The selector of a loop with another source is idle (R141). -/
def State.selIdle (l : Nat) (s : State) : State :=
  if s.loopSrc l = 0 ∨ ((s.sel l).active.isNone ∧ (s.sel l).target.isNone) then s
  else
    let s := s.setSel l { s.sel l with active := none, target := none, bEdges := [], aEdges := [], aLost := false }
    (s.set (SEL_STATUS_CHG_BUSY l) 0).showActive l 0

/-- A write of DPL_CFG that is not discarded (R156, R158) (DEDUCED, log entry 25). -/
def State.loopCfgTaken (m : Master) (l : Nat) (v : Word) (r : RegRow) (s : State) : State :=
  let a := DPL_CFG l
  let was := s.on (DPL_CFG_ENABLE l)
  let en := v.getLsbD 0
  let v := putBits v 16 3 (axleBits l (fieldOf (DPL_CFG_AXLE l) v))
  let fixed := [DPL_CFG_SRC l, DPL_CFG_SRC_ID l, DPL_CFG_AXLE l]
  let locked := was && en && fixed.any fun f => changes s f v
  let s := s.when locked (State.refuseWrite m a)
  let v := if was && en then keepFields s fixed v else v
  let mask := s.get (DPL_CFG_AXLE l)
  -- a source that is out of range is none of R141, though the field keeps its old one (R25, R158)
  let named := decide (fieldOf (DPL_CFG_SRC l) v ≤ 4)
  let moved := changes s (DPL_CFG_SRC l) v || changes s (DPL_CFG_SRC_ID l) v
  let s := s.when moved fun t => t.setLoop l { t.loop l with heard := none }
  let s := s.plainWrite m a (keepField s (DPL_CFG_ENABLE l) v) r
  if !was && en then
    if named && srcOk (s.get (DPL_CFG_SRC l)) (s.get (DPL_CFG_SRC_ID l)) && !s.axleTaken l (s.get (DPL_CFG_AXLE l)) then
      let s := s.set (DPL_CFG_ENABLE l) 1
      let s := s.when (s.loopSrc l == 3) (State.feedStart l)
      s.when (s.get GLB_STATUS_MODE != 0 && !s.asleep) (State.loopStart l)
    else (s.raise (DPL_EVT_CFG_ERR l)).refuseWrite m a
  else if was && !en then
    -- the loop that is switched off names its old axles until it has stopped
    let s := (s.set (DPL_CFG_AXLE l) mask).loopStop l
    let s := (s.set (DPL_CFG_ENABLE l) 0).set (DPL_CFG_AXLE l) (axleBits l (fieldOf (DPL_CFG_AXLE l) v))
    s.outEvalAll.selIdle l
  else s.selIdle l

/-- A write of DPL_CFG (R158): with ENABLE = 0 it is discarded for the lead loop. -/
def State.loopCfgWrite (m : Master) (l : Nat) (v : Word) (r : RegRow) (s : State) : State :=
  if s.on (DPL_CFG_ENABLE l) && !v.getLsbD 0 && s.get GLB_STATUS_LEAD == l then s.refuseWrite m (DPL_CFG l)
    else s.loopCfgTaken m l v r

/-- A write of DPL_CTRL (R156, R157). FORCE = 3 is out of range and forces nothing. -/
def State.forceWrite (m : Master) (l : Nat) (v : Word) (r : RegRow) (s : State) : State :=
  let s := s.plainWrite m (DPL_CTRL l) v r
  let f := fieldOf (DPL_CTRL_FORCE l) v
  if s.asleep ∨ f = 3 then s
  else if f ≠ 0 then s.forceLoop l f
  else if s.loopSrc l ≠ 0 then
    s.when (s.sourceGives l && (s.loopState l == 3 || s.loopState l == 4)) (State.acquire l (s.loopState l == 4))
  else if s.loopState l = 4 then
    match (s.sel l).active with
    | some n => if s.gives n (2048 * s.cyc) then s.firstSelect l n (s.get (SEL_STATUS_BASIS l)) else s
    | none => s.selEval l
  else if s.loopState l = 3 then
    match (s.sel l).active with
    | some n => if s.gives n (2048 * s.cyc) && (s.sel l).target.isNone then s.startChange l n else s
    | none => s.selEval l
  else s

/-- A write of DPL_GPER (R158). -/
def State.gperWrite (m : Master) (l : Nat) (v : Word) (r : RegRow) (s : State) : State :=
  if s.on (DPL_CFG_ENABLE l) && decide (v ≠ s.rd (DPL_GPER l)) then s.refuseWrite m (DPL_GPER l)
    else s.plainWrite m (DPL_GPER l) v r

/-- A write of DPL_LOCK: UNLOCK_THR may not lie below LOCK_THR. -/
def State.lockWrite (m : Master) (l : Nat) (v : Word) (r : RegRow) (s : State) : State :=
  let t := s.plainWrite m (DPL_LOCK l) v r
  if t.get (DPL_LOCK_UNLOCK_THR l) < t.get (DPL_LOCK_LOCK_THR l) then s.badRange m (DPL_LOCK l) else t

/-- A ramp starts (R159 to R161). -/
def State.rampBegin (m : Master) (l : Nat) (s : State) : State :=
  let a := DPL_RAMP_CTRL l
  let lp := s.loop l
  let kind := s.on (DPL_RAMP_CTRL_KIND l)
  let rate := (s.rd (DPL_RAMP_RATE l)).toNat
  let val := s.getWideI (DPL_RAMP_VAL_LO l) (DPL_RAMP_VAL_HI l) 16
  if lp.ramp.busy then s.refuseWrite m a
  else if (kind && s.loopState l != 4) || rate == 0 then (s.raise (DPL_EVT_CFG_ERR l)).refuseWrite m a
  else
    let yt : Rat := (val : Rat) / (2 ^ 48 : Nat)
    if (!kind && val == 0) || (kind && decide (yt = lp.yt)) then s.raise (DPL_EVT_RAMP_DONE l)
    else
      let s := s.setLoop l { lp with ramp := ⟨true, kind, val, rate, 0⟩, yt := if kind then yt else lp.yt }
      (s.set (DPL_STATUS_RAMP_BUSY l) 1).learnBreak l

/-- A write of DPL_RAMP_CTRL (R161): ABORT stops a busy ramp, then START. -/
def State.rampWrite (m : Master) (l : Nat) (v : Word) (r : RegRow) (s : State) : State :=
  let s := s.plainWrite m (DPL_RAMP_CTRL l) v r
  let s := (s.set (DPL_RAMP_CTRL_START l) 0).set (DPL_RAMP_CTRL_ABORT l) 0
  let s := s.when (v.getLsbD 1) (State.rampStop l)
  s.when (v.getLsbD 0) (State.rampBegin m l)

/-- The ramp has reached its end (R159, R160). -/
def State.rampReached (l : Nat) (s : State) : State :=
  let lp := s.loop l
  if !lp.ramp.busy then s
  else if lp.ramp.freq then (s.setBase l (fine (s.yNom + lp.yt))).rampFinish l
  else s.rampFinish l

/-- A write of DPL_LEAD (R162). -/
def State.leadWrite (m : Master) (v : Word) (r : RegRow) (s : State) : State :=
  let l := fieldOf DPL_LEAD_LEAD v
  if !s.on (DPL_CFG_ENABLE l) then s.refuseWrite m DPL_LEAD
  else ((s.plainWrite m DPL_LEAD v r).set GLB_STATUS_LEAD l).modeFollow

/-! ### Commands -/

/-- LOOP_UPDATE (R143). -/
def execLoopUpdate (l : Nat) (s : State) : Host.Outcome State Fault Refusal :=
  .next (s.when (decide (l < 4)) (State.loopUpdate l))

/-- LOOP_STEP_COMPLETE (R153). -/
def execLoopStepComplete (l : Nat) (s : State) : Host.Outcome State Fault Refusal :=
  .next (s.when (decide (l < 4)) (State.loopStepDone l))

/-- SOURCE_LOST (R155). -/
def execSourceLost (l : Nat) (s : State) : Host.Outcome State Fault Refusal :=
  .next (s.when (decide (l < 4)) (State.sourceLost l))

/-- LOOP_ENABLE_WRITE (R156). -/
def execLoopEnableWrite (m : Master) (l : Nat) (v : Word) (s : State) : Host.Outcome State Fault Refusal :=
  .next (s.when (decide (l < 4)) (State.access m (DPL_CFG l) (State.loopCfgWrite m l v)))

/-- FORCE_WRITE (R156). -/
def execForceWrite (m : Master) (l : Nat) (v : Word) (s : State) : Host.Outcome State Fault Refusal :=
  .next (s.when (decide (l < 4)) (State.access m (DPL_CTRL l) (State.forceWrite m l v)))

/-- RAMP_START (R161). -/
def execRampStart (m : Master) (l : Nat) (v : Word) (s : State) : Host.Outcome State Fault Refusal :=
  .next (s.when (decide (l < 4)) (State.access m (DPL_RAMP_CTRL l) (State.rampWrite m l v)))

/-- RAMP_ABORT (R161). -/
def execRampAbort (m : Master) (l : Nat) (v : Word) (s : State) : Host.Outcome State Fault Refusal :=
  .next (s.when (decide (l < 4)) (State.access m (DPL_RAMP_CTRL l) (State.rampWrite m l v)))

/-- RAMP_DONE (R159). -/
def execRampDone (l : Nat) (s : State) : Host.Outcome State Fault Refusal :=
  .next (s.when (decide (l < 4)) (State.rampReached l))

/-- LEAD_LOOP_WRITE (R162). -/
def execLeadLoopWrite (m : Master) (v : Word) (s : State) : Host.Outcome State Fault Refusal :=
  .next (State.access m DPL_LEAD (State.leadWrite m v) s)

end Sys2Proof.Machine
end

