-- ==== Sys2Proof/Machine/StagingOps.lean ====
section
/-! DEFINITION. The stage loader up to the point where it makes accesses of its own (chapter 02): its states, the host stream,
the header and image checks' order of actions, rejection, and the end of STAGING. -/

namespace Sys2Proof.Machine

/-- The states of R62 by code. -/
abbrev bootWaitRoot : Nat := 0
abbrev bootDiscover : Nat := 1
abbrev bootFetch : Nat := 2
abbrev bootVerify : Nat := 3
abbrev bootApply : Nat := 4
abbrev bootDone : Nat := 5
abbrev bootHalted : Nat := 6

/-- The loader's state (R62). -/
def State.bootState (s : State) : Nat := s.get GLB_BOOT_STATUS_STATE

/-- The loader takes a state; FAULT_N is low in HALTED (R64, R477). -/
def State.setBoot (st : Nat) (s : State) : State := (s.set GLB_BOOT_STATUS_STATE st).faultNEval

/-- FIFO_FREE follows the FIFO (R51). -/
def State.showFifo (s : State) : State := s.set GLB_BOOT_STATUS_FIFO_FREE (256 - s.boot.fifo.length)

/-- Flash offset of image A and of image B (R50). -/
def slotOffset (slot : Nat) : Nat := if slot = 0 then 0x000000 else 0x200000

/-- The read that fetches the slot at hand: 1-4-4 fast read at 100 MHz where SFDP advertises it, else 0x03 at 25 MHz (R50)
(PRESUMED, log entry 76). -/
def State.flashRead (s : State) : State :=
  let slot : Int := slotOffset (s.get GLB_STATUS_IMG)
  if s.boot.fast then s.emit .qspi 0 [0xEB, slot, 4, 100] [] else s.emit .qspi 0 [0x03, slot, 1, 25] []

/-- DISCOVER begins: the SFDP table is read with 0x5A at 25 MHz on one lane (R50). -/
def State.discoverStart (s : State) : State := (s.setBoot bootDiscover).emit .qspi 0 [0x5A, 0, 1, 25] []

/-- A fetch begins: nothing has been received (R62). -/
def State.fetchStart (s : State) : State :=
  let s := s.when s.boot.qspi State.flashRead
  let b := { s.boot with
    image := [], fifo := [], header := false, pos := 64, segs := 0, entry := 0, waiting := false, privMap := none }
  (({ s with boot := b }.showFifo).set GLB_BOOT_STATUS_SIG_OK 0).setBoot bootFetch

/-- A field of the header (R55). -/
def State.hdr (s : State) (off n : Nat) : Nat := fromLE (slice s.boot.image off n)
def State.imgLen (s : State) : Nat := s.hdr 0x08 4
def State.segCount (s : State) : Nat := s.hdr 0x0C 2
/-- The image is to be verified and says it is signed (R59). -/
def State.signed (s : State) : Bool := s.on GLB_FUSE_SECURE && (s.hdr 0x16 1).testBit 0
/-- Octets the loader expects, once the header is known. -/
def State.expected (s : State) : Nat := s.imgLen + if s.signed then 132 else 0

/-- One waiting word is taken from the FIFO (R51). -/
def State.fifoTake (s : State) : State :=
  match s.boot.fifo with
  | [] => s
  | w :: ws => { s with boot := { s.boot with fifo := ws, image := s.boot.image ++ octetsLE 4 w.toNat } }.showFifo

/-- All waiting words are taken. -/
def State.fifoDrain (s : State) : State :=
  { s with boot := { s.boot with
      fifo := []
      image := s.boot.image ++ s.boot.fifo.flatMap fun (w : Word) => octetsLE 4 w.toNat } }.showFifo

/-- The loader takes a word at a tick in FETCH (R51) (DEDUCED, log entry 15). -/
def State.fifoTick (s : State) : State := if s.bootState = bootFetch ∧ !s.boot.qspi then s.fifoTake else s

/-- Has the host sent every octet the loader expects? (DEDUCED, log entry 15) -/
def State.streamFull (s : State) : Bool :=
  s.boot.header && decide (s.expected ≤ s.boot.image.length + 4 * s.boot.fifo.length)

/-- An image is rejected (R64, R65); what APPLY had done is undone by `applyReject`. -/
def State.reject (code : Nat) (s : State) : State :=
  let s := ((s.set GLB_BOOT_STATUS_ERROR code).count GLB_BOOT_STATUS_REJECTS).set GLB_BOOT_STATUS_SIG_OK 0
  let s := s.logFault 0x10 code none
  if s.boot.qspi ∧ !s.boot.tried then
    let slot := 1 - s.get GLB_STATUS_IMG
    let s := ({ s with boot := { s.boot with tried := true } }.set GLB_BOOT_STATUS_FALLBACK 1).set GLB_STATUS_IMG slot
    s.fetchStart
  else
    let spi := s.boot.qspi || s.get GLB_STRAPS_BOOT_SRC == 3
    { s with boot := { s.boot with loading := if spi then some .spi else s.boot.loading, qspi := false } }.setBoot bootHalted

/-! ### The end of STAGING -/

/-- What coachman B restores before STAGING ends (R180, R185, R406, R482) (DEDUCED, log entry 50). -/
def State.nvRestore (s : State) : State :=
  let since := s.flt.tail.reverse
  ((s.hotRestore.logRecover since).modelRestore).calRestore

/-- µs from the reset to now; the time before the root ran is a free value of at most 1,300 µs (R49) (DESIGN CHOICE, log entry
21). -/
def State.stagingUs (s : State) : Nat := Config.startupUs s.free % 1301 + (s.cyc - s.boot.start) * 2 / 625

/-- STAGING ends (R39, R53, R60, R500): privilege, the token bucket, loops, axles and ports; MODE is WORKSHOP or the state of the
lead loop (DEDUCED, log entry 20). -/
def State.stagingEnd (workshop : Bool) (priv : Nat) (s : State) : State :=
  let s := (s.set GLB_BOOT_TIME_STAGING_US (min 0xFFFFFF s.stagingUs)).useFree
  let s := (s.nvRestore.setBoot bootDone).set HIF_PRIV_PRIV (1 + 2 * (priv % 8))
  let s := { s with pwr := { s.pwr with bucketOn := true, wear := [] } }.set PWR_TOKENS_TOKENS 60
  let s := s.each [0, 1, 2, 3] fun l t => t.when (t.on (DPL_CFG_ENABLE l)) (State.loopStart l)
  let lead := s.loopState (s.get GLB_STATUS_LEAD)
  let s := s.setMode (if workshop then 5 else lead)
  let s := s.each [1, 2, 3] fun n t => t.when (t.on (AXL_CFG_ENABLE n)) (State.axleStart n)
  s.portsStart

/-- AX0 has locked and the root runs (R49, R62) (DESIGN CHOICE, log entry 21). -/
def State.rootStart (s : State) : State :=
  if s.boot.root ∨ s.boot.held ∨ !s.on CGU_XO_STATUS_JUDGED then s
  else
    let src := s.get GLB_STRAPS_BOOT_SRC
    let load : Option Master := if src = 1 then some .spi else if src = 2 then some .pcie else none
    let s := { s with boot := { s.boot with
      root := true, start := s.cyc, loading := load, qspi := decide (src = 0) } }.axleTo 0 3 true
    if src = 0 then s.discoverStart
    else if src = 3 then
      if s.on GLB_FUSE_SECURE then s.reject 0x14
      else s.stagingEnd true 7
    else s.fetchStart

/-- The SFDP read is over (R50) (DEDUCED, log entry 20). -/
def State.discovered (sfdp fastRead : Bool) (s : State) : State :=
  if s.bootState ≠ bootDiscover then s
  else { s with boot := { s.boot with fast := sfdp && fastRead } }.fetchStart

/-! ### The two registers of the loading interface -/

/-- May a master write GLB_BOOT_CTRL and GLB_BOOT_DATA (R52)? -/
def State.loads (s : State) (m : Master) : Bool := s.bootState != bootDone && s.boot.loading == some m

/-- A write of GLB_BOOT_DATA (R51, R52, R62) (DEDUCED, log entry 15). -/
def State.bootData (m : Master) (v : Word) (s : State) : State :=
  let put (s : State) : State := { s with boot := { s.boot with fifo := s.boot.fifo ++ [v] } }.showFifo
  if !s.loads m then s.refuseWrite m GLB_BOOT_DATA
  else if s.bootState = bootHalted then put s.fetchStart
  else if s.bootState ≠ bootFetch ∨ s.boot.qspi ∨ s.streamFull then s.refuseWrite m GLB_BOOT_DATA
  else if 256 ≤ s.boot.fifo.length then s.reject 0x12
  else put s

/-- The strapped slot is read from its start (R62, R64). -/
def State.firstSlot (s : State) : State :=
  let s := (s.set GLB_STATUS_IMG (s.get GLB_STRAPS_IMG_SEL)).set GLB_BOOT_STATUS_FALLBACK 0
  { s with boot := { s.boot with qspi := true, tried := false } }

/-- A write of GLB_BOOT_CTRL (R52, R62, R63). -/
def State.bootCtrl (m : Master) (v : Word) (s : State) : State :=
  if !s.loads m then s.refuseWrite m GLB_BOOT_CTRL
  else if !v.getLsbD 0 then s
  else if s.bootState = bootFetch then (s.when s.boot.qspi State.firstSlot).fetchStart
  else if s.bootState ≠ bootHalted then s.refuseWrite m GLB_BOOT_CTRL
  else if s.get GLB_STRAPS_BOOT_SRC = 0 then s.firstSlot.discoverStart
  else s.fetchStart

end Sys2Proof.Machine
end

