-- ==== Sys2Proof/Machine/HostOps.lean ====
section
/-! DEFINITION. What the registers of the fault collector and of the host interfaces do when they are written (R467, R469, R475,
R480, R484). -/

namespace Sys2Proof.Machine

/-- The first capture is cleared (R480). -/
def State.clearCapture (s : State) : State :=
  let s := s.each [0, 1, 2, 3] fun k t => t.wr (FLT_FIRST_W k) 0
  (s.set FLT_STATUS_FIRST_VALID 0).set FLT_FIRST_OVF_OVF 0

/-- A write of FLT_CTRL (R475, R477, R480). -/
def State.fltCtrlWrite (v : Word) (s : State) : State :=
  let s := s.setB FLT_CTRL_HOLD (v.getLsbD 0)
  let s := s.when (v.getLsbD 2) State.clearCapture
  let s := s.when (v.getLsbD 1) fun t => (t.set FLT_STATUS_SQ_ACTIVE 0).outEvalAll
  s.faultNEval

/-- A write of FLT_SQ: a squelch in force follows it. -/
def State.fltSqWrite (m : Master) (v : Word) (r : RegRow) (s : State) : State := (s.plainWrite m FLT_SQ v r).outEvalAll

/-- A write of FLT_TEMP_LIM: WARN_LO lies below WARN_HI. -/
def State.tempLimWrite (m : Master) (v : Word) (r : RegRow) (s : State) : State :=
  let t := s.plainWrite m FLT_TEMP_LIM v r
  if t.getI FLT_TEMP_LIM_WARN_LO < t.getI FLT_TEMP_LIM_WARN_HI then t else s.badRange m FLT_TEMP_LIM

/-- A ring stops: LEN, HEAD and TAIL are 0 (R21, R469). -/
def State.ringStop (r : Nat) (s : State) : State :=
  ((s.set (HIF_RING_LEN_LEN r) 0).set (HIF_RING_HEAD_HEAD r) 0).set (HIF_RING_TAIL_TAIL r) 0

/-- A write of LEN of a packet ring (R467, R469) (DEDUCED, log entry 63). -/
def State.ringLenEffect (m : Master) (r : Nat) (v : Word) (row : RegRow) (s : State) : State :=
  if fieldOf (HIF_RING_LEN_LEN r) v = 0 then s.ringStop r
  else if s.get (HIF_RING_LEN_LEN r) ≠ 0 then s.refuseWrite m (HIF_RING_LEN r)
  else s.plainWrite m (HIF_RING_LEN r) v row

/-- A write of BASE of a packet ring. -/
def State.ringBaseWrite (m : Master) (r a : Nat) (v : Word) (row : RegRow) (s : State) : State :=
  if s.get (HIF_RING_LEN_LEN r) ≠ 0 then s.refuseWrite m a else s.plainWrite m a v row

/-- A write of TAIL of a packet ring: 0 to LEN - 1 (DEDUCED, log entry 63). -/
def State.ringTailWrite (m : Master) (r : Nat) (v : Word) (row : RegRow) (s : State) : State :=
  let x := fieldOf (HIF_RING_TAIL_TAIL r) v
  if x ≠ 0 ∧ s.get (HIF_RING_LEN_LEN r) ≤ x then s.badRange m (HIF_RING_TAIL r) else s.plainWrite m (HIF_RING_TAIL r) v row

end Sys2Proof.Machine
end

