-- ==== Sys2Proof/Machine/TableOps.lean ====
section
/-! DEFINITION. Entries of the five tables in their TABLE_LOAD format, as the stage loader and coachman A place them
(R57, R331, R337, R379, R452, R520). -/

namespace Sys2Proof.Machine

/-- Words of an entry by table identifier; none for an identifier that names no table (R57). -/
def entryWords : Nat → Option Nat
  | 1 => some 4 | 2 => some 5 | 3 => some 14 | 4 => some 3 | 5 => some 2 | _ => none

/-- Word `k` of an entry as a number. -/
def wordAt (ws : List Word) (k : Nat) : Nat := (ws.getD k 0).toNat

/-- Output and gate index of a gate entry; output and class of a delay (R379). -/
def gatePlaceOf (ws : List Word) : Nat × Nat := (wordAt ws 0 % 64, wordAt ws 0 / 256 % 128)
def delayPlaceOf (ws : List Word) : Nat × Nat := (wordAt ws 0 % 64, wordAt ws 0 / 256 % 8)

/-- Do the fields of an entry lie in their ranges (R331, R379, R520)? (DEDUCED, log entry 19) -/
def entryOk (table : Nat) (ws : List Word) : Bool :=
  match table with
  | 1 => decide (1 ≤ wordAt ws 1 / 65536 % 4096 ∧ wordAt ws 1 / 65536 % 4096 ≤ 4094)
  | 2 => decide (1 ≤ wordAt ws 0 ∧ wordAt ws 0 ≤ 4094)
  | 3 => decide (wordAt ws 0 ≤ 2047) && ruleValid (ws.drop 1)
  | 4 => decide ((gatePlaceOf ws).1 ≤ 47 ∧ wordAt ws 2 % 2 ^ 30 ≤ 1000000000)
  | 5 => decide ((delayPlaceOf ws).1 ≤ 47 ∧ 750 ≤ wordAt ws 1 % 2 ^ 15 ∧ wordAt ws 1 % 2 ^ 15 ≤ 25000)
  | _ => false

/-- The MAC entry of four words, and whether it is valid. -/
def macEntryOf (ws : List Word) : MacEntry × Bool := macOfWords (ws.getD 0 0) (ws.getD 1 0) (ws.getD 2 0) (ws.getD 3 0)

/-- A gate entry goes to the admin bank, a delay to SCH_TT_DELAY (DEDUCED, log entry 74). -/
def State.putGate (ws : List Word) (s : State) : State :=
  let (o, k) := gatePlaceOf ws
  (s.set (SCH_GATE_ADMIN_GATES o k) (wordAt ws 1)).set (SCH_INTV_ADMIN_INTERVAL o k) (wordAt ws 2)
def State.putDelay (ws : List Word) (s : State) : State :=
  let (o, c) := delayPlaceOf ws
  s.set (SCH_TT_DELAY_DELAY o c) (wordAt ws 1)

/-- An entry in range is placed by the loader: the state, and whether its bucket was full (R520) (DEDUCED, log entry 74). -/
def State.loadEntry (table : Nat) (ws : List Word) (s : State) : State × Bool :=
  match table with
  | 1 => let (t, k) := s.placeMac (macEntryOf ws).1 (macEntryOf ws).2; (t, k == 2)
  | 2 => (s.setVlan (wordAt ws 0) (vlanKept (ws.drop 1)), false)
  | 3 => (s.setRule (wordAt ws 0) (ws.drop 1), false)
  | 4 => (if s.on (SCH_GCL_STATUS_PENDING (gatePlaceOf ws).1)
    then s.refuseWrite .loader (SCH_GATE_ADMIN (gatePlaceOf ws).1 (gatePlaceOf ws).2)
      else s.putGate ws, false)
  | _ => (s.putDelay ws, false)

/-- A switch command of coachman A through the table bank (R436, R452): the words are put into FWD_TBL_DATA, the operation is
performed, and its status is read: 0 OK, 1 NOT_FOUND, 2 FULL, 3 INVALID. -/
def State.bankOp (op table index : Nat) (ws : List Word) (s : State) : State × Nat :=
  let s := s.setTblData ws
  let s := ((s.set FWD_TBL_CMD_OP op).set FWD_TBL_CMD_TABLE table).set FWD_TBL_CMD_INDEX index
  let t := s.tblOp
  (t, t.get FWD_TBL_CMD_STATUS)

end Sys2Proof.Machine
end

