-- ==== Sys2Proof/Machine/Bus.lean ====
section
/-! DEFINITION. The register bus: what a write of any register does, what a read of any register gives and does, and the two
accesses every master makes (R6 to R14, R26, R423, R464, R465). -/

namespace Sys2Proof.Machine

/-! ### Writes, block by block: `a` is the byte address, `r` the row of its register -/

/-- Number of the repeated unit an address lies in. -/
def unitNo (base stride a : Nat) : Nat := (a - base) / stride

def State.writeGlb (m : Master) (a : Nat) (v : Word) (r : RegRow) (s : State) : State :=
  if a = GLB_BOOT_CTRL then s.bootCtrl m v
  else if a = GLB_BOOT_DATA then s.bootData m v
  else s.plainWrite m a v r

def State.writeCgu (m : Master) (a : Nat) (v : Word) (r : RegRow) (s : State) : State :=
  if a = CGU_XO_CTRL then s.xoCtrlWrite m v r
  else if a = CGU_GATE then s.gateWrite m v r
  else if a = CGU_DOM_SRC then s.domSrcWrite m v r
  else if a = CGU_CLKOUT then s.clkoutWrite m v r
  else s.plainWrite m a v r

def State.writeRefm (m : Master) (a : Nat) (v : Word) (r : RegRow) (s : State) : State :=
  let n := unitNo 0x020000 0x100 a
  if a = REFM_TOD_CFG then s.todCfgWrite m v r
  else if 64 ≤ n then s.plainWrite m a v r
  else if a = REFM_CFG n then s.refCfgWrite m n v r
  else if a = REFM_FNOM n ∨ a = REFM_DIV n then s.refFixedWrite m n a v r
  else if a = REFM_SOFT n ∨ a = REFM_HARD n ∨ a = REFM_REENTRY n then s.refLimitWrite m n a v r
  else s.plainWrite m a v r

def State.writeSel (m : Master) (a : Nat) (v : Word) (r : RegRow) (s : State) : State :=
  let l := unitNo 0x030000 0x400 a
  let off := a % 0x400
  if a = SEL_CTRL l then s.selCtrlWrite m l v r
  else if 0x10 ≤ off ∧ off < 0x50 then s.selOrderWrite m l a v r
  else if a = SEL_ALIGN_HI l then s.alignWrite m l v r
  else if a = SEL_BLEED l then
    let s := s.plainWrite m a v r
    s.setBuild l (s.sel l).b
  else s.plainWrite m a v r

def State.writeDpl (m : Master) (a : Nat) (v : Word) (r : RegRow) (s : State) : State :=
  let l := unitNo 0x040000 0x1000 a
  if a = DPL_LEAD then s.leadWrite m v r
  else if a = DPL_CFG l then s.loopCfgWrite m l v r
  else if a = DPL_CTRL l then s.forceWrite m l v r
  else if a = DPL_GPER l then s.gperWrite m l v r
  else if a = DPL_LOCK l then s.lockWrite m l v r
  else if a = DPL_RAMP_CTRL l then s.rampWrite m l v r
  else s.plainWrite m a v r

def State.writeHold (m : Master) (a : Nat) (v : Word) (r : RegRow) (s : State) : State :=
  if a = HOLD_CTRL then s.holdCtrlWrite m v r
  else if a = HOLD_CFG then s.holdCfgWrite m v r
  else if a = HOLD_TSENS then s.holdSensWrite m v r
  else if a = HOLD_EXPIRY then (s.plainWrite m a v r).offerEval
  else s.plainWrite m a v r

def State.writeAxl (m : Master) (a : Nat) (v : Word) (r : RegRow) (s : State) : State :=
  let n := unitNo 0x060000 0x1000 a
  let off := a % 0x1000
  if a = AXL_CFG n then s.axleCfgWrite m n v r
  else if a = AXL_CTRL n then s.axleCtrlWrite m n v
  else if a = AXL_FWORD_LO n then s.fwordWrite m n false v
  else if a = AXL_FWORD_HI n then s.fwordWrite m n true v
  else if a = AXL_STEP_LO n then s.stepLoWrite m n v r
  else if a = AXL_STEP_HI n then s.stepWrite m n v
  else if a = AXL_STEP_RATE n ∨ a = AXL_LOCK n then s.axlePlain m n a v r
  else if 0x100 ≤ off ∧ off < 0x200 ∧ off % 16 < 8 then s.bandWrite m n (off / 16 % 16) (off % 16 == 4) v r
  else s.plainWrite m a v r

def State.writeOut (m : Master) (a : Nat) (v : Word) (r : RegRow) (s : State) : State :=
  let n := unitNo 0x070000 0x100 a
  if a = OUT_KEEP then s.outKeepWrite m v r
  else if a = OUT_CFG n then s.outCfgWrite m n v r
  else if a = OUT_DIV n then s.outDivWrite m n v r
  else if a = OUT_DELAY n then s.outDelayWrite m n v r
  else if a = OUT_PERIOD n ∨ a = OUT_WIDTH n then s.outPulseWrite m n a v r
  else if a = OUT_PHASE_HI n then s.outPhaseWrite m n v r
  else s.plainWrite m a v r

def State.writeTim (m : Master) (a : Nat) (v : Word) (r : RegRow) (s : State) : State :=
  let d := unitNo 0x080000 0x100 a
  if a = TIM_SNAP_CTRL then s.snapWrite m v r
  else if a = TIM_SRV_CFG then s.srvCfgWrite m v r
  else if a = TIM_SRV_TGT_HI 0 then s.targetHi m 0 v r
  else if a = TIM_SRV_TGT_HI 1 then s.targetHi m 1 v r
  else if 2 ≤ d then s.plainWrite m a v r
  else if a = TIM_CTRL d then s.timCtrlWrite m d v r
  else if a = TIM_INC_LO d then s.incWrite m d false v r
  else if a = TIM_INC_HI d then s.incWrite m d true v r
  else s.plainWrite m a v r

def State.writeGau (m : Master) (a : Nat) (v : Word) (r : RegRow) (s : State) : State :=
  let n := unitNo 0x090000 0x100 a
  if 64 ≤ n then s.plainWrite m a v r
  else if a = GAU_CFG n then s.gaugeCfgWrite m n v r
  else if a = GAU_STAT_CTRL n then s.statCtrlWrite m n v
  else s.plainWrite m a v r

def State.writeTse (m : Master) (a : Nat) (v : Word) (r : RegRow) (s : State) : State :=
  let p := unitNo 0x0A1000 0x40 a
  let k := unitNo 0x0A4000 0x40 a
  if a = TSE_ESMC_CFG then s.esmcCfgWrite m v r
  else if 0x0A4000 ≤ a then (if a = SESS_CFG k then s.sessCfgWrite m k v r else s.plainWrite m a v r)
  else if 0x0A1000 ≤ a ∧ a = TSE_PORT_CFG p then (s.plainWrite m a v r).sessionsEval p
  else s.plainWrite m a v r

def State.writeCpl (m : Master) (a : Nat) (v : Word) (r : RegRow) (s : State) : State :=
  let p := unitNo 0x0B1000 0x80 a
  let l := unitNo 0x0B0100 0x10 a
  if a = CPL_NODE then s.cplNodeWrite m v r
  else if a = CPL_NODE_ERR then s.cplErrWrite m a v r
  else if 0x0B1000 ≤ a then
    if a = CPL_PORT_CFG p then s.cplCfgWrite m p v r
    else if a = CPL_PORT_ASYM_UNC p then s.cplErrWrite m a v r
    else s.plainWrite m a v r
  else if 0x0B0100 ≤ a ∧ a = CPL_FEED_CFG l then s.feedWrite m l v r
  else s.plainWrite m a v r

def State.writePrt (m : Master) (a : Nat) (v : Word) (r : RegRow) (s : State) : State :=
  let p := unitNo 0x100000 0x1000 a
  let off := a % 0x1000
  if a = PRT_CFG p then s.prtCfgWrite m p v r
  else if a = PRT_MAC p then s.prtMacWrite m p v r
  else if a = PRT_CTRL p then s.prtCtrlWrite p v r
  else if a = PRT_MOD_POLL p then s.modPollWrite m p v r
  else if a = PRT_I2C_XFER p then s.i2cXferWrite m p v r
  else if 0xD00 ≤ off ∧ off < 0xD80 then s.i2cDataWrite m p a v r
  else s.plainWrite m a v r

def State.writeFwd (m : Master) (a : Nat) (v : Word) (r : RegRow) (s : State) : State :=
  let p := unitNo 0x201000 0x10 a
  if a = FWD_TBL_CMD then s.tblCmdWrite m v r
  else if 0x201000 ≤ a ∧ p < 48 ∧ a = FWD_PORT_CFG p then s.mailMapWrite m p v r
  else s.plainWrite m a v r

def State.writeBuf (m : Master) (a : Nat) (v : Word) (r : RegRow) (s : State) : State :=
  let d := unitNo 0x240100 0x20 a
  let o := unitNo 0x241000 0x40 a
  let i := unitNo 0x242000 0x20 a
  if a = BUF_CTRL then s.bufCtrlWrite v r
  else if 0x250000 ≤ a then
    let d := unitNo 0x250000 0x2000 a
    let q := unitNo 0x250000 0x10 a % 0x200
    if a = BUF_Q_CFG d q then s.bufQCfgWrite m d q v r else s.plainWrite m a v r
  else if 0x242000 ≤ a then
    if 48 ≤ i then s.plainWrite m a v r
    else if a = BUF_IN_CFG i then s.bufInWrite m i v r
    else if a = BUF_IN_PRIO i then s.bufPrioWrite m i v r
    else s.plainWrite m a v r
  else if 0x241000 ≤ a then (if a = BUF_OUT_GRACE o then s.graceWrite m o v r else s.plainWrite m a v r)
  else if 0x240100 ≤ a ∧ a = BUF_DEP_CFG d then s.bufDepWrite m d v r
  else s.plainWrite m a v r

def State.writeSch (m : Master) (a : Nat) (v : Word) (r : RegRow) (s : State) : State :=
  let o := unitNo 0x281000 0x100 a
  if a = SCH_CTRL then s.schCtrlWrite v r
  else if a = SCH_CFG then (s.plainWrite m a v r).each (List.range 48) State.gatesMove
  else if 0x2A0000 ≤ a ∧ a % 0x800 < 0x400 then s.adminWrite m (unitNo 0x2A0000 0x800 a) a v r
  else if a < 0x281000 ∨ 0x2A0000 ≤ a then s.plainWrite m a v r
  else if a = SCH_GCL_CFG o then s.gclCfgWrite m o v r
  else if a = SCH_GCL_CTRL o then s.gclCtrlWrite m o v r
  else if a = SCH_GCL_BASE_NS o ∨ a = SCH_GCL_BASE_SEC_LO o ∨ a = SCH_GCL_BASE_SEC_HI o ∨ a = SCH_GCL_CYCLE o then
    s.adminWrite m o a v r
  else s.plainWrite m a v r

def State.writeMir (m : Master) (a : Nat) (v : Word) (r : RegRow) (s : State) : State :=
  if a = MIR_CFG then s.mirCfgWrite m v r
  else if a = MIR_CTRL then s.mirCtrlWrite v r
  else if a = MIR_RING_BASE_LO ∨ a = MIR_RING_BASE_HI ∨ a = MIR_RING_LEN then s.mirRingWrite m a v r
  else if a = MIR_RING_RD then s.ringRdEffect m v r
  else if a = MIR_RESUME then (s.plainWrite m a v r).when s.mirOn State.mirResume
  else s.plainWrite m a v r

def State.writeNvs (m : Master) (a : Nat) (v : Word) (r : RegRow) (s : State) : State :=
  if a = NVS_CMD then s.nvCmdWrite m v r
  else if a = NVS_PROTECT then s.protectEffect m v r
  else if a = NVS_ADDR ∨ a = NVS_LEN ∨ 0x301000 ≤ a then s.nvRegWrite m a v r
  else s.plainWrite m a v r

def State.writeHif (m : Master) (a : Nat) (v : Word) (r : RegRow) (s : State) : State :=
  let n := unitNo 0x320100 0x20 a
  if a < 0x320100 then s.plainWrite m a v r
  else if a = HIF_RING_LEN n then s.ringLenEffect m n v r
  else if a = HIF_RING_TAIL n then s.ringTailWrite m n v r
  else if a = HIF_RING_BASE_LO n ∨ a = HIF_RING_BASE_HI n then s.ringBaseWrite m n a v r
  else s.plainWrite m a v r

def State.writeFlt (m : Master) (a : Nat) (v : Word) (r : RegRow) (s : State) : State :=
  if a = FLT_CTRL then s.fltCtrlWrite v
  else if a = FLT_SQ then s.fltSqWrite m v r
  else if a = FLT_TEMP_LIM then s.tempLimWrite m v r
  else s.plainWrite m a v r

def State.writePwr (m : Master) (a : Nat) (v : Word) (r : RegRow) (s : State) : State :=
  if a = PWR_REQ then s.pwrReqWrite m v r
  else if a = PWR_SHED_LO ∨ a = PWR_SHED_HI then s.shedWrite m a v r
  else s.plainWrite m a v r

/-- What a write of the register at `a` does (R11). -/
def State.regWrite (m : Master) (a : Nat) (v : Word) (r : RegRow) (s : State) : State :=
  match blockOf a with
  | some .glb => s.writeGlb m a v r
  | some .cgu => s.writeCgu m a v r
  | some .refm => s.writeRefm m a v r
  | some .sel => s.writeSel m a v r
  | some .dpl => s.writeDpl m a v r
  | some .hold => s.writeHold m a v r
  | some .axl => s.writeAxl m a v r
  | some .out => s.writeOut m a v r
  | some .tim => s.writeTim m a v r
  | some .gau => s.writeGau m a v r
  | some .tse => s.writeTse m a v r
  | some .cpl => s.writeCpl m a v r
  | some .prt => s.writePrt m a v r
  | some .fwd => s.writeFwd m a v r
  | some .buf => s.writeBuf m a v r
  | some .sch => s.writeSch m a v r
  | some .mir => s.writeMir m a v r
  | some .nvs => s.writeNvs m a v r
  | some .mbx => s.mbxWrite m a v r
  | some .hif => s.writeHif m a v r
  | some .flt => s.writeFlt m a v r
  | some .pwr => s.writePwr m a v r
  | none => s

/-- A write of master `m` to address `a`. -/
def State.busWrite (m : Master) (a : Nat) (v : Word) (s : State) : State := s.access m a (State.regWrite m a v)

/-! ### Reads -/

/-- Word `k` of a time in the layout of TIM_NOW, from units of 2^-40 ns (DEDUCED, log entry 70). -/
def timeWord (t k : Nat) : Word :=
  match k with
  | 0 => BitVec.ofNat 32 (t / 2 ^ 8 % 2 ^ 32)
  | 1 => BitVec.ofNat 32 (t / 2 ^ 40 % 10 ^ 9)
  | 2 => BitVec.ofNat 32 (t / secUnit)
  | _ => BitVec.ofNat 32 (t / secUnit / 2 ^ 32 % 2 ^ 16)

/-- Word `k` of an entry of the transmit stamp queue (R275) (DEDUCED, log entry 70). -/
def stampWord (e : Option TxStamp) (k : Nat) : Word :=
  match e with
  | none => 0
  | some e => match k with
    | 0 => packWord [(1, 31), (e.port, 16), (e.domainNum, 8), (e.msgType, 4), (e.dom, 0)]
    | 1 => packWord [(e.seqId, 16), (stampSub e.stamp, 0)]
    | 2 => BitVec.ofNat 32 (stampNs e.stamp)
    | 3 => BitVec.ofNat 32 (stampSec e.stamp)
    | _ => BitVec.ofNat 32 (stampSec e.stamp / 2 ^ 32 % 2 ^ 16)

/-- A word with a field as given. -/
def withField (w : Word) (f : FieldRef) (v : Nat) : Word := putBits w f.lo f.width v

/-- The word a register holds now. Most are as stored; these are formed when they are read (DEDUCED, log entry 70). -/
def State.liveWord (s : State) (a : Nat) : Word :=
  let w := s.rd a
  match blockOf a with
  | some .refm =>
    if a = REFM_EVT_SUM_LO then BitVec.ofNat 32 s.refEvtMap
    else if a = REFM_EVT_SUM_HI then BitVec.ofNat 32 (s.refEvtMap / 2 ^ 32)
    else w
  | some .hold =>
    if a = HOLD_YPRED_LO ∨ a = HOLD_YPRED_HI then
      let n := wrapTo 48 (unit48 s.yXO)
      if s.get HOLD_STATUS_STAGE = 0 then w else if a = HOLD_YPRED_LO then BitVec.ofNat 32 n else BitVec.ofNat 32 (n / 2 ^ 32)
    else w
  | some .tim =>
    if TIM_NOW0 0 ≤ a ∧ a < TIM_NOW0 0 + 16 then timeWord (s.domTime 0) ((a - TIM_NOW0 0) / 4)
    else if TIM_NOW0 1 ≤ a ∧ a < TIM_NOW0 1 + 16 then timeWord (s.domTime 1) ((a - TIM_NOW0 1) / 4)
    else if TIM_SRV_NOW0 ≤ a ∧ a < TIM_SRV_NOW0 + 16 then timeWord s.servedTime ((a - TIM_SRV_NOW0) / 4)
    else if TIM_SRV_ACC_0 ≤ a ∧ a ≤ TIM_SRV_ACC_2 then
      let n := wrapTo 80 (roundAway ((s.tim.acc : Rat) / (accUnit : Int)))
      BitVec.ofNat 32 (n / 2 ^ (8 * (a - TIM_SRV_ACC_0)) % 2 ^ 32)
    else w
  | some .gau =>
    if a = GAU_EVT_SUM_LO then BitVec.ofNat 32 s.gauEvtMap
    else if a = GAU_EVT_SUM_HI then BitVec.ofNat 32 (s.gauEvtMap / 2 ^ 32)
    else w
  | some .tse =>
    if TSE_TXTS_0 ≤ a ∧ a < TSE_TXTS_0 + 20 then stampWord s.tse.queue.head? ((a - TSE_TXTS_0) / 4)
    else
      let p := unitNo 0x0A1000 0x40 a
      if 0x0A1000 ≤ a ∧ a < 0x0A4000 ∧ (a = TSE_PORT_LAT_TX p ∨ a = TSE_PORT_LAT_RX p) then
        BitVec.ofNat 32 (roundAway (s.calLatency p (a == TSE_PORT_LAT_TX p))).toNat
      else w
  | some .cpl =>
    let l := unitNo 0x0B0100 0x10 a
    if 0x0B0100 ≤ a ∧ a < 0x0B0140 ∧ a = CPL_FEED_STATUS l then BitVec.ofNat 32 (s.feedStatus l) else w
  | some .prt => if a % 0x1000 = 0 ∧ s.laneOfFat (unitNo 0x100000 0x1000 a) then 0 else w
  | some .sch =>
    let o := unitNo 0x281000 0x100 a
    if 0x281000 ≤ a ∧ a < 0x2A0000 then
      let t := s.gateShow o
      if a = SCH_OUT_STATUS o then
        withField (withField (t.rd a) (SCH_OUT_STATUS_HUNGRY o) (if s.hungry o then 1 else 0)) (SCH_OUT_STATUS_PROMOTED o)
          (if s.promotedWaits o then 1 else 0)
      else t.rd a
    else w
  | some .mbx => s.mbxRead a
  | some .hif => if a = HIF_IRQ_STATUS then BitVec.ofNat 32 s.irqPending else w
  | some .flt =>
    if FLT_LOG_W 0 ≤ a ∧ a ≤ FLT_LOG_W 3 then
      match s.flt.log[s.get FLT_LOG_INDEX_INDEX]? with
      | none => 0
      | some e => match (a - FLT_LOG_W 0) / 4 with | 0 => e.w0 | 1 => e.w1 | 2 => e.w2 | _ => e.w3
    else w
  | _ => w

/-- The pop of R275, which the read of TSE_TXTS_0 makes. -/
def State.popStamp (s : State) : State :=
  let q := s.tse.queue.drop 1
  { s with tse := { s.tse with queue := q } }.set TSE_TXTS_STATUS_LEVEL q.length

/-- A read of a register that is not the higher word of a multi-word value (R11, R13, R464): its word, the latch of the higher
words, the clearing of RC fields, the pop of the stamp queue. -/
def State.lowRead (m : Master) (a : Nat) (r : RegRow) (s : State) : State × Word :=
  let w := readFields r.fields (s.liveWord a)
  let t := match multiLow a with
    | none => s
    | some n =>
      if a = TSE_TXTS_0 ∧ s.tse.queue.isEmpty then s
      else s.setShadow m a ((List.range (n - 1)).map fun k => s.liveWord (a + 4 * (k + 1)))
  let t := if r.fields.any fun f => f.access == .rc then t.wr a (clearedFields r.fields (t.rd a)) else t
  (if a = TSE_TXTS_0 then t.popStamp else t, w)

/-- What a read of the register at `a` gives and does (R464, R465). -/
def State.regRead (m : Master) (a : Nat) (r : RegRow) (s : State) : State × Word :=
  match multiHigh a with
  | some (low, k) => (s, (s.shadowOf m low).getD (k - 1) 0)
  | none => s.lowRead m a r

/-- A read of master `m` at address `a`: a mailbox end of a powered-down core answers with an error (R427), a gated block latches
zeros (R465). -/
def State.busRead (m : Master) (a : Nat) (s : State) : State :=
  match s.verdict m a with
  | .row _ =>
    if blockOf a = some .mbx ∧ s.mbxDown a then s.mbxError m false a else s.readAccess m a (State.regRead m a)
  | .gated =>
    let s := s.readAccess m a (State.regRead m a)
    match multiHigh a, multiLow a with
    | none, some n => s.setShadow m a (List.replicate (n - 1) 0)
    | _, _ => s
  | _ => s.readAccess m a (State.regRead m a)

/-- The answer a master has had last. -/
def State.replyOf (s : State) (m : Master) : Reply := smAt s.hif.reply (masterId m)
/-- Did the last access of a master end with an error response? -/
def State.replyError (s : State) (m : Master) : Bool := s.replyOf m == .error
/-- The word the last read of a master gave. -/
def State.replyWord (s : State) (m : Master) : Word :=
  match s.replyOf m with | .data w => w | _ => 0

/-! ### The commands -/

/-- REGISTER_WRITE (R11). -/
def execRegisterWrite (m : Master) (addr : Nat) (v : Word) (s : State) : Host.Outcome State Fault Refusal :=
  .next (s.busWrite m addr v)
/-- RC_READ (R13). -/
def execRcRead (m : Master) (addr : Nat) (s : State) : Host.Outcome State Fault Refusal := .next (s.busRead m addr)
/-- MULTI_WORD_LOW_READ (R464). -/
def execMultiWordLowRead (m : Master) (addr : Nat) (s : State) : Host.Outcome State Fault Refusal := .next (s.busRead m addr)

end Sys2Proof.Machine
end

