-- ==== Sys2Proof/Machine/Mailbox.lean ====
section
/-! DEFINITION. The commands of the mailboxes and the supervision of the management cores (chapter 20, R483). -/

namespace Sys2Proof.Machine

/-- Restarts of a core in the last 60 s, newest first (R483) (DEDUCED, log entry 53). -/
def State.recentRestarts (s : State) (core : Nat) : List Nat :=
  (smAt s.fw.restarts core).filter fun t => decide (s.cyc - t < 60 * 312500000)

/-- Commands passed to coachman B that wait for an NV operation (R436, R483): model and history waiters answer none. -/
def State.passedMailboxes (s : State) : List Nat :=
  let job : List (Nat × Nat) := match s.nvs.job with | none => [] | some j => j.why
  let of (w : Nat × Nat) : List Nat :=
    if w.1 = 6 then [w.2] else if (w.1 = 3 ∨ w.1 = 4) ∧ w.2 ≠ 0 then [w.2 - 1] else []
  job.flatMap of ++ s.fw.passed.toList

/-- The NV operations of a restarted coachman B end as a cut ends them (R402, R483): what waited for them has failed. -/
def State.nvAbandon (s : State) : State :=
  if s.nvs.job.isNone ∧ s.nvs.save.isNone then s
  else
    let kinds : List Nat := match s.nvs.job with | none => [] | some j => j.why.map fun (w : Nat × Nat) => w.1
    let s := s.nvCutNow
    let s := (s.set NVS_STATUS_COMMITTING 0).set NVS_CMD_BUSY 0
    let s := s.when (kinds.any fun k => k == 1 || k == 2 || k == 3) (·.raise HOLD_EVT_COMMIT_FAIL)
    { s with hold := { s.hold with clearing := false, calNext := none } }

/-- A core restarts (R427, R442, R483) (DEDUCED, log entries 52 and 53). -/
def State.coreRestart (core : Nat) (extension : Bool) (s : State) : State :=
  if !s.boot.root ∨ s.asleep then s
  else
    let recent := s.recentRestarts core
    let s := { s with fw := { s.fw with restarts := smPut s.fw.restarts core (s.cyc :: recent) } }
    let passed := s.passedMailboxes
    let s := if core = 1 then { s.nvAbandon with fw := { s.nvAbandon.fw with passed := none } } else s
    let s := if core = 1 then s.each passed fun mb t => t.fwAnswer mb 6 3 [] else s
    let s := s.coreDown core
    s.logFault (if 2 ≤ recent.length then 0x17 else 0x16) (core + if extension then 128 else 0) none

/-- SEND_W0_WRITE (R420). -/
def execSendW0Write (m : Master) (n e : Nat) (v : Word) (s : State) : Host.Outcome State Fault Refusal :=
  .next (s.when (decide (n < 8 ∧ e < 2)) (State.access m (MBX_SEND_W0 n e) (State.mbxWrite m (MBX_SEND_W0 n e) v)))
/-- RELEASE (R424). -/
def execRelease (m : Master) (n e : Nat) (v : Word) (s : State) : Host.Outcome State Fault Refusal :=
  .next (s.when (decide (n < 8 ∧ e < 2)) (State.access m (MBX_CTRL n e) (State.mbxWrite m (MBX_CTRL n e) v)))
/-- END_RESET (R425). -/
def execEndReset (m : Master) (n e : Nat) (v : Word) (s : State) : Host.Outcome State Fault Refusal :=
  .next (s.when (decide (n < 8 ∧ e < 2)) (State.access m (MBX_CTRL n e) (State.mbxWrite m (MBX_CTRL n e) v)))
/-- PCIE_FUNCTION_RESET (R461). -/
def execPcieFunctionReset (s : State) : Host.Outcome State Fault Refusal :=
  .next (s.when (s.boot.root && !s.asleep) fun t => (((t.mbxEndReset 1 0).ringStop 0).ringStop 1).set HIF_MSIX_EN_MSIX_EN 0)
/-- CORE_WATCHDOG_EXPIRY (R483). -/
def execCoreWatchdogExpiry (core : Nat) (s : State) : Host.Outcome State Fault Refusal :=
  .next (s.when (decide (core < 2)) (State.coreRestart core false))
/-- CORE_READY (R427). -/
def execCoreReady (core : Nat) (s : State) : Host.Outcome State Fault Refusal :=
  .next (s.when (decide (core < 2) && s.boot.root && !s.asleep) fun t =>
    { t with fw := { t.fw with down := putBit t.fw.down core false } })

end Sys2Proof.Machine
end

