-- ==== Sys2Proof/Machine/FwOps.lean ====
section
/-! DEFINITION. The command interpreter of coachman A (chapter 21): its command table, taking and checking requests, posting
responses, and the accesses it makes as master 4. -/

namespace Sys2Proof.Machine

/-- One command: opcode, view P, shortest and longest request (tables of chapter 21). -/
structure CmdRow where
  opcode : Nat
  priv : Bool
  lo : Nat
  hi : Nat
  deriving DecidableEq, Repr, Inhabited

/-- The commands of the interpreter (R430, R432). -/
def cmdRows : List CmdRow := [
  ⟨0x0101, false, 0, 0⟩, ⟨0x0102, true, 0, 0⟩, ⟨0x0103, false, 1, 1⟩, ⟨0x0104, true, 0, 0⟩, ⟨0x0105, true, 1, 15⟩,
  ⟨0x0106, true, 1, 10⟩, ⟨0x0201, false, 1, 1⟩, ⟨0x0202, false, 1, 1⟩, ⟨0x0203, true, 1, 1⟩, ⟨0x0301, false, 1, 1⟩,
  ⟨0x0302, true, 3, 3⟩, ⟨0x0303, true, 2, 2⟩, ⟨0x0304, true, 0, 0⟩, ⟨0x0305, false, 0, 0⟩, ⟨0x0401, false, 1, 1⟩,
  ⟨0x0402, true, 2, 2⟩, ⟨0x0501, false, 0, 0⟩, ⟨0x0502, true, 3, 3⟩, ⟨0x0601, true, 3, 3⟩, ⟨0x0701, true, 6, 6⟩,
  ⟨0x0702, true, 10, 10⟩, ⟨0x0703, true, 2, 2⟩, ⟨0x0704, false, 1, 1⟩, ⟨0x0705, false, 1, 1⟩, ⟨0x0801, false, 1, 1⟩,
  ⟨0x0802, true, 1, 1⟩, ⟨0x0901, true, 1, 1⟩, ⟨0x0902, false, 2, 2⟩, ⟨0x0903, true, 3, 15⟩, ⟨0x0A01, true, 2, 2⟩,
  ⟨0x0A02, true, 2, 15⟩, ⟨0x0A03, true, 0, 0⟩, ⟨0x0A04, true, 2, 15⟩, ⟨0x0A05, true, 0, 0⟩, ⟨0x0B01, false, 1, 1⟩,
  ⟨0x0B02, true, 2, 2⟩, ⟨0x0B03, false, 0, 0⟩]

/-- Does coachman B run? -/
def State.coreBRuns (s : State) : Bool := !s.fw.down.testBit 1

/-! ### Taking and checking -/

/-- May a message be taken from a mailbox (R433, R434): nothing of it is being carried out or waits to be posted? -/
def State.takable (s : State) (mb : Nat) : Bool :=
  (s.request mb).isNone && (smAt s.fw.replies mb).all Taken.event && !(s.mb mb).inbound.isEmpty

/-- Is a mailbox privileged: does its H end's interface hold privilege (R16)? -/
def State.mbxPrivileged (s : State) (mb : Nat) : Bool :=
  match mbxOwner mb 0 with | some m => s.privileged m | none => false

/-- The first three checks of R432; the others belong to each command (DEDUCED, log entry 54). -/
def State.fwCheck (mb opcode len : Nat) (s : State) : State :=
  match cmdRows.find? fun (r : CmdRow) => r.opcode == opcode with
  | none => s.fwAnswer mb 1 0 []
  | some r =>
    if r.priv && !s.mbxPrivileged mb then s.fwAnswer mb 2 0 []
    else if len < r.lo ∨ r.hi < len then s.fwInvalid mb 0
    else s

/-- The oldest message of the next mailbox in rotation is taken, released and checked (R432, R433). -/
def State.commandTake (s : State) : State :=
  if !s.fwRuns then s
  else match ([0, 1, 2, 3].map fun k => (s.fw.turn + k) % 4).find? s.takable with
    | none => s
    | some mb => match (s.mb mb).inbound with
      | [] => s
      | x :: _ =>
        let s := s.mbxRelease mb 1
        let s := { s with fw := { s.fw with
          turn := (mb + 1) % 4
          taken := smPut s.fw.taken mb (some ⟨x.opcode, x.tag, x.data, false⟩) } }
        s.fwCheck mb x.opcode x.data.length

/-- The oldest response or event of a mailbox is posted once there is room (R434). -/
def State.responsePost (mb : Nat) (s : State) : State :=
  if !s.fwRuns then s
  else match smAt s.fw.replies mb with
    | [] => s
    | t :: ts =>
      if s.sendFree mb 1 < 1 + t.data.length then s
      else ({ s with fw := { s.fw with replies := smPut s.fw.replies mb ts } } : State).mbxPost mb 1 t.opcode t.tag t.data

/-- Carries out the request of a mailbox where it has this opcode; `f` is given its payload words. -/
def State.command (mb opcode : Nat) (f : List Word → State → State) (s : State) : State :=
  if !s.fwRuns then s
  else match s.request mb with
    | some t => if t.opcode = opcode then f t.data s else s
    | none => s

/-- Payload word `n` of a request, counted from 1, and a field of it. -/
def payload (ws : List Word) (n : Nat) : Word := ws.getD (n - 1) 0
def payloadBits (ws : List Word) (n lo width : Nat) : Nat := getBits (payload ws n) lo width

/-- Octets in words, four a word, lowest first (R323, R451). -/
def wordsOf (bs : List Octet) : List Word :=
  (List.range ((bs.length + 3) / 4)).map fun k => BitVec.ofNat 32 (fromLE (slice bs (4 * k) 4))
def octetsOf (ws : List Word) : List Octet := ws.flatMap fun (w : Word) => octetsLE 4 w.toNat

/-! ### Accesses of coachman A (R435) -/

/-- Registers read one after another. -/
def State.fwRead (as : List Nat) (s : State) : State × List Word :=
  as.foldl (fun (acc : State × List Word) a =>
    let t := acc.1.busRead .coachA a
    (t, acc.2 ++ [t.replyWord .coachA])) (s, [])

/-- A register written. -/
def State.fwWrite (a : Nat) (v : Word) (s : State) : State := s.busWrite .coachA a v

/-- A status command: the registers' words, or UNAVAILABLE where one is gated (R455). -/
def State.fwStatus (mb : Nat) (as : List Nat) (s : State) : State :=
  if as.any s.gatedAt then s.fwAnswer mb 9 0 []
  else
    let (t, ws) := s.fwRead as
    t.fwOk mb ws

/-- Would every field of a word be in range in the register at `a`? -/
def fieldsFit (a : Nat) (old v : Word) : Bool :=
  match regRow a with | some r => !(writeFields r.fields old v).2 | none => false

/-! ### Work passed to coachman B (R436) -/

/-- Is coachman B free to start an NV operation: up, with none in progress and no entry to VIGIL or DORMANT under way?
(DEDUCED, log entry 54) -/
def State.nvFree (s : State) : Bool :=
  s.coreBRuns && s.nvs.job.isNone && s.nvs.save.isNone && s.pwr.target != some .vigil && s.pwr.target != some .dormant

/-- An operation of R396 with its range; its status, once it has ended (DEDUCED, log entry 47). -/
def State.nvCommand (op a n : Nat) (commit : Bool) (why : List (Nat × Nat)) (s : State) : State × Option Nat :=
  let s := ((s.set NVS_ADDR_ADDR a).set NVS_LEN_LEN n).set NVS_CMD_OP op
  let r := (s.setB NVS_CMD_COMMIT commit).nvOp op commit why
  (State.nvReport r, r.2)

end Sys2Proof.Machine
end

