-- ==== Sys2Proof/Machine/FaultCmds.lean ====
section
/-! DEFINITION. The commands of the fault collector (chapter 23): the reset of a reaction, FAULT_N, the event log, the temperature
and rail monitors. -/

namespace Sys2Proof.Machine

/-- Does the collector run (R487)? -/
def State.collectorOn (s : State) : Bool := s.boot.root && !s.asleep

/-- The reset of a RESET reaction (R476): held while a rail that asked for it is out of range; FAULT_N stays low after it. -/
def State.reactionReset (s : State) : State :=
  match s.flt.resetCause with
  | none => s
  | some c =>
    if s.flt.resetHeld ∧ s.flt.rails ≠ 0 then s
    else
      let t := s.internalReset c
      ({ t with flt := { t.flt with pulse := true } } : State).faultNEval

/-- A pulse of FAULT_N ends (R477). -/
def State.pulseEnd (s : State) : State := ({ s with flt := { s.flt with pulse := false } } : State).faultNEval

/-- The open page of the event log is committed (R482) (DEDUCED, log entry 51). -/
def State.logCommit (s : State) : State :=
  if !s.collectorOn ∨ !s.coreBRuns ∨ (s.nvBuffered (16 + s.flt.page)).isNone then s else (s.commitStart false [(5, 0)]).1

/-- Numbers in ascending order. -/
def insertInt (x : Int) : List Int → List Int
  | [] => [x]
  | y :: ys => if x ≤ y then x :: y :: ys else y :: insertInt x ys
def sortInts : List Int → List Int
  | [] => []
  | x :: xs => insertInt x (sortInts xs)

/-- Twice the median of eight readings (DEDUCED, log entry 66). -/
def twiceMedian (xs : List Int) : Int := (sortInts xs).getD 3 0 + (sortInts xs).getD 4 0

/-- A sensor at a reading (R484): after 10 readings in a row more than 15 K from the median it is left out (DEDUCED, log entry
66). -/
def State.sensorJudge (m2 : Int) (k : Nat) (x : Int) (s : State) : State :=
  if s.flt.out.testBit k then s
  else
    let run := if 2 * 15 * 256 < (2 * x - m2).natAbs then smAt s.flt.odd k + 1 else 0
    let s := { s with flt := { s.flt with odd := smPut s.flt.odd k run } }
    if run < 10 then s
    else ({ s with flt := { s.flt with out := putBit s.flt.out k true } } : State).logFault 0x18 k none

/-- A limit of Tj (R484): the fault is logged once, and armed again 2 K inside the limit (DEDUCED, log entry 66). -/
def State.tempLimit (k : Nat) (beyond inside : Bool) (s : State) : State :=
  if beyond && !s.flt.warned.testBit k then
    ({ s with flt := { s.flt with warned := putBit s.flt.warned k true } } : State).logFault 0x23 k none
  else if inside then { s with flt := { s.flt with warned := putBit s.flt.warned k false } }
  else s

/-- The eight sensors are read, in units of 1/256 °C (R484) (DEDUCED, log entry 66). -/
def State.temperature (xs : List Int) (s : State) : State :=
  if !s.collectorOn ∨ xs.length ≠ 8 then s
  else
    let m2 := twiceMedian xs
    let s := ((List.range 8).zip xs).foldl (fun (t : State) p => t.sensorJudge m2 p.1 p.2) s
    match (((List.range 8).zip xs).filter fun p => !s.flt.out.testBit p.1).map (·.2) with
    | [] => s
    | y :: ys =>
      let tj := ys.foldl max y
      let top := if s.flt.tjSeen then max tj (s.getI FLT_TEMP_TJ_MAX) else tj
      let s := { s with flt := { s.flt with tjSeen := true }, pwr := { s.pwr with die := tj } }
      let s := (s.setI FLT_TEMP_TJ tj).setI FLT_TEMP_TJ_MAX top
      let hi : Int := s.getI FLT_TEMP_LIM_WARN_HI * (256 : Int)
      let lo : Int := s.getI FLT_TEMP_LIM_WARN_LO * (256 : Int)
      (s.tempLimit 0 (decide (hi < tj)) (decide (tj ≤ hi - 512))).tempLimit 1 (decide (tj < lo)) (decide (lo + 512 ≤ tj))

/-- The bit of a rail and a limit (R485). -/
def railBit (rail : Nat) (high : Bool) : Nat := if high then 7 + rail else rail

/-- FLT_RAIL shows the excursions. -/
def State.showRails (s : State) : State := s.wr FLT_RAIL (BitVec.ofNat 32 s.flt.rails)

/-- A rail is out of range (R485): one fault for each excursion. -/
def State.railOut (rail : Nat) (high : Bool) (s : State) : State :=
  if !s.collectorOn ∨ s.flt.rails.testBit (railBit rail high) then s
  else
    let s := { s with flt := { s.flt with rails := putBit s.flt.rails (railBit rail high) true } }
    s.showRails.logFault (0x28 + rail) (if high then 1 else 0) none

/-- An excursion ends (R485). -/
def State.railBack (rail : Nat) (high : Bool) (s : State) : State :=
  if !s.collectorOn then s
  else ({ s with flt := { s.flt with rails := putBit s.flt.rails (railBit rail high) false } } : State).showRails

/-! ### Commands -/

/-- FAULT_RESET (R476). -/
def execFaultReset (s : State) : Host.Outcome State Fault Refusal := .next s.reactionReset
/-- FAULT_N_PULSE_END (R477). -/
def execFaultNPulseEnd (s : State) : Host.Outcome State Fault Refusal := .next s.pulseEnd
/-- CLEAR_FIRST (R480). -/
def execClearFirst (m : Master) (v : Word) (s : State) : Host.Outcome State Fault Refusal :=
  .next (State.access m FLT_CTRL (fun _ => State.fltCtrlWrite v) s)
/-- SQ_RELEASE (R475). -/
def execSqRelease (m : Master) (v : Word) (s : State) : Host.Outcome State Fault Refusal :=
  .next (State.access m FLT_CTRL (fun _ => State.fltCtrlWrite v) s)
/-- NVLOG_PAGE_COMMIT (R482). -/
def execNvlogPageCommit (s : State) : Host.Outcome State Fault Refusal := .next s.logCommit
/-- TEMPERATURE_READING (R484). -/
def execTemperatureReading (readings : List Int) (s : State) : Host.Outcome State Fault Refusal :=
  .next (s.temperature readings)
/-- RAIL_EXCURSION (R485). -/
def execRailExcursion (rail : Nat) (high : Bool) (s : State) : Host.Outcome State Fault Refusal :=
  .next (s.when (decide (rail < 7)) (State.railOut rail high))
/-- RAIL_EXCURSION_END (R485). -/
def execRailExcursionEnd (rail : Nat) (high : Bool) (s : State) : Host.Outcome State Fault Refusal :=
  .next (s.when (decide (rail < 7)) (State.railBack rail high))

end Sys2Proof.Machine
end

