-- ==== Sys2Proof/Machine/Firmware.lean ====
section
/-! DEFINITION. The firmware commands (chapter 21): each carries out the request that its mailbox holds. -/

namespace Sys2Proof.Machine

/-! ### System -/

/-- The words coachman A's ROM returns for the part and its version (R1). -/
def romWord : Word := 0x48160204#32

def State.cmdSysInfo (mb : Nat) (s : State) : State :=
  let (t, ws) := s.fwRead [GLB_STATUS, GLB_BOOT_IMGVER, GLB_LIV_UID_LO, GLB_LIV_UID_HI]
  t.fwOk mb (romWord :: ws)

/-- An action that waits for its response to be released (R438): 0 a reset, else 1 + 16 × target + mask (DEDUCED, log entry
59). -/
def State.deferAction (mb what : Nat) (s : State) : State :=
  match s.request mb with
  | none => s
  | some t => ({ s with fw := { s.fw with deferred := s.fw.deferred ++ [(mb, t.tag, what)] } } : State).fwOk mb []

/-- Has the response of a deferred action been posted? (DEDUCED, log entry 59) -/
def State.deferredPosted (s : State) (d : Nat × Nat × Nat) : Bool :=
  !((smAt s.fw.replies d.1).any fun t => !t.event && t.tag == d.2.1)

/-- Coachman A writes PWR_REQ for a command (R490). -/
def State.powerRequest (target mask : Nat) (s : State) : State :=
  s.fwWrite PWR_REQ (packWord [(1, 31), (mask, 4), (target, 0)])

/-- The oldest deferred action begins (R438) (DEDUCED, log entry 59). -/
def State.deferredBegin (s : State) : State :=
  if !s.fwRuns then s
  else match s.fw.deferred with
    | [] => s
    | d :: ds =>
      if !s.deferredPosted d then s
      else if d.2.2 = 0 then s.internalReset 1
      else
        let s := { s with fw := { s.fw with deferred := ds } }
        if s.pwr.target.isSome then s else s.powerRequest ((d.2.2 - 1) / 16) ((d.2.2 - 1) % 16)

/-- SET_EVENTS (R439, R456). -/
def State.cmdSetEvents (mb : Nat) (ws : List Word) (s : State) : State :=
  let mask := (payload ws 1).toNat
  if 2 ^ 13 ≤ mask then s.fwInvalid mb 1
  else ({ s with fw := { s.fw with mask := smPut s.fw.mask mb mask } } : State).fwOk mb []

/-- The enter-workshop command (R39, R41). -/
def State.cmdWorkshop (mb : Nat) (s : State) : State :=
  if 1 ≤ s.get GLB_STATUS_MODE ∧ s.get GLB_STATUS_MODE ≤ 4 then (s.setMode 5).fwOk mb [] else s.fwInvalid mb 0

/-- May code at an offset of the extension area be called (R440)? -/
def State.callable (s : State) (off : Nat) : Bool :=
  off % 4 == 0 && s.boot.filled.any fun r => decide (r.1 ≤ off ∧ off < r.1 + r.2)

/-- The words an extension returned, posted as they are: a status word and up to 14 data words (R440) (DESIGN CHOICE, log
entry 56). -/
def State.fwRaw (mb : Nat) (ret : List Word) (s : State) : State :=
  let w := (ret.getD 0 0).toNat
  s.fwAnswer mb (w / 2 ^ 24) (w % 2 ^ 24) ((ret.drop 1).take 14)

/-- CALL_EXTENSION (R440): `ret` is what the code returns, and none while it has not returned (DESIGN CHOICE, log entry 56). -/
def State.cmdExtension (mb : Nat) (ret ws : List Word) (s : State) : State :=
  let off := (payload ws 1).toNat
  if !s.callable off then s.fwAnswer mb 8 0 []
  else
    let s := s.emit .call mb ((off : Int) :: (ws.drop 1).map fun (w : Word) => (w.toNat : Int)) []
    if ret.isEmpty then s else s.fwRaw mb ret

/-- Fuses of the livery are programmed and read back (R443): `reads` says whether they hold what was programmed. A single fuse that
does not stays blank; what the fuses of a key slot hold then is open (DEDUCED, log entry 57). -/
def State.fuseBurn (mb : Nat) (reads : Bool) (l : Livery) (slot : Option Nat) (s : State) : State :=
  if reads then ({ s with livery := l } : State).fwOk mb []
  else match slot with
    | none => s.fwAnswer mb 6 1 []
    | some k =>
      let x := Config.unstated s.free
      let l := { s.livery with
        keySet := s.livery.keySet ||| BitVec.ofNat 4 (x % 2 * 2 ^ k)
        keyHash := smPut s.livery.keyHash k (octetsBE 32 (x / 2 % 2 ^ 256)) }
      ({ s.useFree with livery := l } : State).fwAnswer mb 6 1 []

/-- FUSE_PROGRAM (R443): `reads` is what the read back of the fuses gives. -/
def State.cmdFuse (mb : Nat) (reads : Bool) (ws : List Word) (s : State) : State :=
  let kind := payloadBits ws 1 0 2
  let slot := payloadBits ws 2 0 2
  let l := s.livery
  if s.get GLB_STATUS_MODE ≠ 5 then s.fwInvalid mb 0
  else match kind with
    | 0 =>
      if ws.length ≠ 10 then s.fwInvalid mb 0
      else if l.keySet.getLsbD slot then s.fwInvalid mb 2
      else
        let hash := (ws.drop 2).flatMap fun (w : Word) => octetsBE 4 w.toNat
        s.fuseBurn mb reads
          { l with keySet := l.keySet ||| BitVec.ofNat 4 (2 ^ slot), keyHash := smPut l.keyHash slot hash } (some slot)
    | 1 =>
      if ws.length ≠ 2 then s.fwInvalid mb 0
      else if !l.keySet.getLsbD slot then s.fwInvalid mb 2
      else s.fuseBurn mb reads { l with keyRevoked := l.keyRevoked ||| BitVec.ofNat 4 (2 ^ slot) } none
    | 2 => if ws.length ≠ 1 then s.fwInvalid mb 0 else s.fuseBurn mb reads { l with secure := true } none
    | _ => s.fwInvalid mb 1

/-! ### References, loops and the sprag -/

def State.cmdRefStatus (mb : Nat) (ws : List Word) (s : State) : State :=
  let n := payloadBits ws 1 0 6
  s.fwStatus mb [REFM_STATE n, REFM_YS n, REFM_YL n, REFM_DRATE n, REFM_TCROSS n]

def State.cmdSelStatus (mb : Nat) (ws : List Word) (s : State) : State :=
  let l := payloadBits ws 1 0 2
  s.fwStatus mb [SEL_STATUS l, SEL_CAND_LO l, SEL_CAND_HI l, SEL_SUSPECT_LO l, SEL_SUSPECT_HI l]

def State.cmdSelManual (mb : Nat) (ws : List Word) (s : State) : State :=
  let l := payloadBits ws 1 0 2
  let a := SEL_CTRL l
  let v := withField (withField (s.rd a) (SEL_CTRL_MODE l) (payloadBits ws 1 8 2)) (SEL_CTRL_MANUAL_REF l) (payloadBits ws 1 16 6)
  if fieldsFit a (s.rd a) v then (s.fwWrite a v).fwOk mb [] else s.fwInvalid mb 1

def State.cmdLoopStatus (mb : Nat) (ws : List Word) (s : State) : State :=
  let l := payloadBits ws 1 0 2
  s.fwStatus mb [DPL_STATUS l, DPL_FREQ_LO l, DPL_FREQ_HI l, DPL_PHERR_LO l, DPL_PHERR_HI l]

/-- A signed 48-bit value in two words (R7). -/
def wideOf (lo hi : Word) : Int := signedOf 48 (lo.toNat + hi.toNat % 2 ^ 16 * 2 ^ 32)

/-- LOOP_SAMPLE (R444). -/
def State.cmdLoopSample (mb : Nat) (ws : List Word) (s : State) : State :=
  let l := payloadBits ws 1 0 2
  if !s.on (DPL_CFG_ENABLE l) ∨ s.loopSrc l ≠ 4 then s.fwInvalid mb 0
  else (s.takeSample l ((wideOf (payload ws 2) (payload ws 3) : Rat) / (65536 : Nat))).fwOk mb []

/-- Status of a record that coachman B is to write and commit: 0 where it is taken (R184, R413, R500) (DEDUCED, log entry 54). -/
def State.recordStatus (s : State) (pages : List Nat) (prot : Bool) : Nat :=
  let all := pages ++ s.nvs.buffer.map (·.1)
  if s.on NVS_STATUS_PFW_ACTIVE then 5 else if prot then 3 else if !s.bucketTakes all then 4
  else if 16 < all.eraseDups.length then 2 else 0

/-- The longest calibration word: 50 ppm in units of 2^-48 (R180, R445). -/
def calLimit : Nat := 14073748835

/-- SET_CAL (R445): the answer follows the commit. -/
def State.cmdSetCal (mb : Nat) (ws : List Word) (s : State) : State :=
  let y := wideOf (payload ws 1) (payload ws 2)
  if calLimit < y.natAbs then s.fwInvalid mb 1
  else if !s.nvFree then s
  else
    let (k, _) := nextRecord calMagic (s.nvOctets 0x18000 256) (s.nvOctets 0x18100 256)
    let st := s.recordStatus [384 + k] (decide (1 ≤ s.get NVS_PROTECT_LEVEL))
    if st ≠ 0 then (s.testRefused [384 + k]).fwNv mb st [] else (s.writeCal y 0 (mb + 1)).1

/-- Is a clear that HOLD_CTRL.CLEAR started in progress (R446)? -/
def State.clearByHost (s : State) : Bool :=
  s.hold.clearing && match s.nvs.job with | none => false | some j => j.why.any fun (w : Nat × Nat) => w.1 == 4 && w.2 == 0

/-- CLEAR_MODEL (R446): the answer follows the commit. -/
def State.cmdClearModel (mb : Nat) (s : State) : State :=
  if s.clearByHost then s.fwBusy mb
  else if !s.nvFree then s
  else
    let st := s.recordStatus [256, 257] (decide (2 ≤ s.get NVS_PROTECT_LEVEL))
    if st ≠ 0 then (s.testRefused [256, 257]).fwNv mb st [] else s.clearStart (mb + 1)

def State.cmdHoldStatus (mb : Nat) (s : State) : State :=
  s.fwStatus mb [HOLD_STATUS, HOLD_LEARNT, HOLD_YPRED_LO, HOLD_YPRED_HI, HOLD_CAL_LO, HOLD_CAL_HI]

/-! ### Outputs, time and gauges -/

def State.cmdOutStatus (mb : Nat) (ws : List Word) (s : State) : State :=
  let n := payloadBits ws 1 0 5
  if 24 ≤ n then s.fwInvalid mb 1 else s.fwStatus mb [OUT_STATUS n, OUT_EVT n]

/-- OUT_ENABLE (R447): ascending outputs; a write of 1 that is not taken is reported. -/
def State.cmdOutEnable (mb : Nat) (ws : List Word) (s : State) : State :=
  let named := bitsOf (payload ws 1).toNat 24
  let want (n : Nat) : Bool := (payload ws 2).getLsbD n
  let s := s.each named fun n t => t.fwWrite (OUT_CFG n) (withField (t.rd (OUT_CFG n)) (OUT_CFG_ENABLE n) (if want n then 1 else 0))
  let lost := (named.filter fun n => want n && !s.on (OUT_CFG_ENABLE n)).foldl (fun k n => k + 2 ^ n) 0
  if lost = 0 then s.fwOk mb [0] else s.fwAnswer mb 6 0 [BitVec.ofNat 32 lost]

/-- TIME_READ (R240, R435). -/
def State.cmdTimeRead (mb : Nat) (s : State) : State :=
  let s := s.fwWrite TIM_SNAP_CTRL (withField (s.rd TIM_SNAP_CTRL) TIM_SNAP_CTRL_TAKE 1)
  s.fwStatus mb ([TIM_SNAP_A0, TIM_SNAP_B0, TIM_SNAP_SRV0].flatMap fun a => [a, a + 4, a + 8, a + 12])

/-- TIME_SET_SEC (R233). -/
def State.cmdTimeSetSec (mb : Nat) (ws : List Word) (s : State) : State :=
  let d := payloadBits ws 1 0 1
  let s := (s.fwWrite (TIM_SET_SEC_LO d) (payload ws 2)).fwWrite (TIM_SET_SEC_HI d) (payload ws 3 &&& 0xFFFF#32)
  (s.fwWrite (TIM_CTRL d) 2#32).fwOk mb []

/-- GAUGE_RUN (R448): the first arrival starts the run, which answers when it ends; a further arrival is its timeout (DEDUCED,
log entry 58). -/
def State.cmdGaugeRun (mb : Nat) (ws : List Word) (s : State) : State :=
  match smAt s.fw.gauge mb with
  | some n =>
    let s := { s with fw := { s.fw with gauge := smPut s.fw.gauge mb none } }
    let s := s.fwWrite (GAU_STAT_CTRL n) 2#32
    s.fwAnswer mb 7 0 (s.gaugeWords n)
  | none =>
    let n := payloadBits ws 1 0 6
    let cfg := withField (withField (s.rd (GAU_STAT_CFG n)) (GAU_STAT_CFG_QTY n) (payloadBits ws 1 8 2)) (GAU_STAT_CFG_N n)
      (payloadBits ws 2 0 16)
    if !fieldsFit (GAU_STAT_CFG n) (s.rd (GAU_STAT_CFG n)) cfg then s.fwInvalid mb 1
    else if payloadBits ws 2 0 16 = 0 then s.fwInvalid mb 2
    else if payloadBits ws 3 0 16 = 0 then s.fwInvalid mb 3
    else if s.gatedAt (GAU_STAT_CFG n) then s.fwAnswer mb 9 0 []
    else if s.on (GAU_STATUS_STAT_BUSY n) then s.fwBusy mb
    else if !(s.wr (GAU_STAT_CFG n) cfg).statTaken n then s.fwInvalid mb 0
    else
      let s := (s.fwWrite (GAU_STAT_CFG n) cfg).fwWrite (GAU_STAT_CTRL n) 1#32
      { s with fw := { s.fw with gauge := smPut s.fw.gauge mb (some n) } }

/-! ### 1588 and coupling -/

/-- Profile of the PTP unit a session belongs to (R450); none where it belongs to none. -/
def State.sessProfile (s : State) (k : Nat) : Option Nat :=
  (smAt s.tse.insts (s.get (SESS_CFG_DOMAIN_NUM k))).map fun x => getBits (x.words.getD 0 0) 8 3

/-- The two destinations of a G.8275.1 session (R449), as their low and high words. -/
def profileAddress (lo hi : Word) : Bool :=
  let a := lo.toNat + hi.toNat % 2 ^ 16 * 2 ^ 32
  a == 0x011B19000000 || a == 0x0180C200000E

/-- SESS_L2 (R449). -/
def State.cmdSessL2 (mb : Nat) (ws : List Word) (s : State) : State :=
  let k := payloadBits ws 1 0 8
  if 192 ≤ k then s.fwInvalid mb 1
  else if s.on (SESS_CFG_ENABLE k) then s.fwInvalid mb 0
  else if s.sessProfile k = some 2 ∧ !profileAddress (payload ws 2) (payload ws 3) then s.fwInvalid mb 2
  else if s.gatedAt (SESS_CFG k) then s.fwAnswer mb 9 0 []
  else
    let peer := ((payload ws 4).toNat * 2 ^ 32 + (payload ws 5).toNat) * 2 ^ 16 + payloadBits ws 6 0 16
    (s.setSess k { s.sess k with l2 := [payload ws 2, payload ws 3 &&& 0xFFFF#32], peer := peer }).fwOk mb []

/-- SESS_IP (R449): the three further words of an IPv4 address are 0 (DEDUCED, log entry 55). -/
def State.cmdSessIp (mb : Nat) (ws : List Word) (s : State) : State :=
  let k := payloadBits ws 1 0 8
  let extra := [3, 4, 5, 7, 8, 9].find? fun n => payload ws n != 0
  if 192 ≤ k then s.fwInvalid mb 1
  else if s.on (SESS_CFG_ENABLE k) then s.fwInvalid mb 0
  else match (if payloadBits ws 1 8 1 = 0 then extra else none) with
    | some n => s.fwInvalid mb n
    | none =>
      if s.gatedAt (SESS_CFG k) then s.fwAnswer mb 9 0 []
      else (s.setSess k { s.sess k with
        ip := (ws.drop 1).take 8 ++ [payload ws 10 &&& 0xFF3F#32, BitVec.ofNat 32 (payloadBits ws 1 8 1)] }).fwOk mb []

/-- Does a profile allow a domainNumber (R450)? -/
def profileAllows (profile dn : Nat) : Bool :=
  match profile with
  | 2 => decide (24 ≤ dn ∧ dn ≤ 43)
  | 3 => decide (44 ≤ dn ∧ dn ≤ 63)
  | p => decide (p ≤ 4)

/-- PTP_PROFILE (R450) (DEDUCED, log entry 55). -/
def State.cmdPtpProfile (mb : Nat) (ws : List Word) (s : State) : State :=
  let dn := payloadBits ws 1 0 8
  let profile := payloadBits ws 1 8 3
  let put (x : Option PtpInst) (s : State) : State :=
    let s := (s.instSessions dn).foldl (fun (t : State) k => t.setSess k { t.sess k with parent := 0 }) s
    { s with tse := { s.tse with insts := smPut s.tse.insts dn x } }
  if !profileAllows profile dn then s.fwInvalid mb 1
  else if profile = 4 then (if (smAt s.tse.insts dn).isSome then (put none s).fwOk mb [] else s.fwAnswer mb 8 0 [])
  else if (smAt s.tse.insts dn).isNone ∧ 8 ≤ s.tse.insts.length then s.fwInvalid mb 0
  else if s.gatedAt (SESS_CFG 0) then s.fwAnswer mb 9 0 []
  else (put (some ⟨[payload ws 1 &&& 0x7FF#32, payload ws 2 &&& 0x1FFFFFF#32]⟩) s).fwOk mb []

/-- portState of a session as IEEE 1588-2019 enumerates it (PRESUMED, log entry 36). -/
def State.portState (s : State) (k : Nat) : Nat :=
  if s.get (SESS_STATUS_STATE k) = 0 then 3
  else match s.get (SESS_CFG_ROLE k) with
    | 0 => 6
    | 2 => 7
    | _ => if s.get (SESS_STATUS_STATE k) = 2 then 9 else if (s.sess k).parent = 0 ∧ (s.sess k).peer = 0 then 4 else 8

/-- PTP_PORT_DS (R283, R432): the port's state, the parent its instance has chosen and what that announces; without an instance the
parent is the peer named, and what it announces is open (PRESUMED, log entry 36). -/
def State.cmdPtpPortDs (mb : Nat) (ws : List Word) (s : State) : State :=
  let k := payloadBits ws 1 0 8
  if 192 ≤ k then s.fwInvalid mb 1
  else if s.gatedAt (SESS_CFG k) then s.fwAnswer mb 9 0 []
  else
    let dn := s.get (SESS_CFG_DOMAIN_NUM k)
    let words (src quality : Nat) : List Word :=
      [packWord [(s.portState k, 0)], BitVec.ofNat 32 (src / 2 ^ 48), BitVec.ofNat 32 (src / 2 ^ 16), packWord [(src % 2 ^ 16, 16)],
        packWord [(quality / 2 ^ 24, 0), (quality / 2 ^ 16 % 256, 8), (quality % 2 ^ 16, 16)]]
    match s.instOf dn with
    | some x => s.fwOk mb (words (s.announced dn x).src (s.announced dn x).quality)
    | none => s.useFree.fwOk mb (words (s.sess k).peer (Config.unstated s.free % 2 ^ 32))

def State.cmdCplStatus (mb : Nat) (ws : List Word) (s : State) : State :=
  let p := payloadBits ws 1 0 6
  if 48 ≤ p then s.fwInvalid mb 1
  else s.fwStatus mb [CPL_PORT_STATUS p, CPL_PORT_OFFSET_LO p, CPL_PORT_OFFSET_HI p, CPL_PORT_MLD_LO p, CPL_PORT_MLD_HI p,
    CPL_PORT_FAR_ID p, CPL_NODE_ACC]

/-! ### Ports and the switch -/

def State.cmdPortStatus (mb : Nat) (ws : List Word) (s : State) : State :=
  let p := payloadBits ws 1 0 6
  if 48 ≤ p then s.fwInvalid mb 1 else s.fwStatus mb [PRT_STATUS p, TSE_PORT_STATUS p, BUF_OUT_STATUS p]

/-- MODULE_READ (R451): the answer follows the transfer (DEDUCED, log entry 58). -/
def State.cmdModuleRead (mb : Nat) (ws : List Word) (s : State) : State :=
  let p := payloadBits ws 1 0 6
  let n := payloadBits ws 1 16 8
  let b := s.get (PRT_MOD_ROUTE_MASTER p)
  let waits (o : Option I2cJob) : Bool := match o with | some j => j.who == .command mb | none => false
  if [0, 1, 2, 3].any fun (k : Nat) => waits (s.bus k).now || waits (s.bus k).waits then s
  else if 48 ≤ p ∨ 56 < n then s.fwInvalid mb 1
  else if n = 0 then s.fwOk mb []
  else if s.on (PRT_I2C_STATUS_BUSY b) then s.fwBusy mb
  else s.i2cWant b {
    who := .command mb
    mux := if s.on (PRT_MOD_ROUTE_MUX_EN p) then some (s.get (PRT_MOD_ROUTE_MUX_ADDR p), s.get (PRT_MOD_ROUTE_MUX_CHAN p)) else none
    write := false, addr := s.get (PRT_MOD_ROUTE_MOD_ADDR p), pointer := some (payloadBits ws 1 8 8), len := n }

/-- A transfer of an I2C master ends; a command that waited for it is answered (R323, R324, R451). -/
def State.i2cDone (b : Nat) (res : I2cResult) (bytes : List Octet) (s : State) : State :=
  let job := (s.bus b).now
  let s := s.i2cEnd b res bytes
  match job with
  | none => s
  | some j => match j.who with
    | .command mb => match res with
      | .done => s.fwOk mb (wordsOf (bytes.take j.len))
      | .nack => s.fwAnswer mb 6 1 []
      | .nackMux => s.fwAnswer mb 6 2 []
      | .timeout => s.fwAnswer mb 7 0 []
    | _ => s

/-- MAC_FLUSH (R337); a switch command waits while FWD_TBL_CMD.BUSY reads 1 (R452). -/
def State.cmdMacFlush (mb : Nat) (ws : List Word) (s : State) : State :=
  let p := payloadBits ws 1 0 6
  let all := payloadBits ws 1 16 1
  if all = 0 ∧ 50 ≤ p then s.fwInvalid mb 1
  else if s.gatedAt FWD_TBL_CMD then s.fwAnswer mb 9 0 []
  else if s.on FWD_TBL_CMD_BUSY then s
  else (s.bankOp 5 1 (p + 2 ^ 16 * all) []).1.fwOk mb []

/-- MAC_LOOKUP (R337) (DEDUCED, log entry 55). -/
def State.cmdMacLookup (mb : Nat) (ws : List Word) (s : State) : State :=
  if !entryOk 1 (ws ++ [0, 0]) then s.fwInvalid mb 2
  else if s.gatedAt FWD_TBL_CMD then s.fwAnswer mb 9 0 []
  else if s.on FWD_TBL_CMD_BUSY then s
  else
    let (t, st) := s.bankOp 4 1 0 ws
    if st = 0 then t.fwOk mb (t.tblData 4 ++ [BitVec.ofNat 32 (t.get FWD_TBL_CMD_INDEX)]) else t.fwAnswer mb 8 0 []

/-- The payload word of TABLE_WRITE that holds the first field of an entry out of its range (R452, R520). -/
def entryOffends (table : Nat) (ws : List Word) : Nat :=
  match table with
  | 1 => 3
  | 2 => 2
  | 3 => if 2047 < wordAt ws 0 then 2 else 15
  | 4 => if 47 < (gatePlaceOf ws).1 then 2 else 4
  | _ => if 47 < (delayPlaceOf ws).1 then 2 else 3

/-- A table operation of coachman A answers by its status (R452). -/
def State.bankAnswer (mb : Nat) (r : State × Nat) : State :=
  match r.2 with
  | 0 => r.1.fwOk mb []
  | 1 => r.1.fwAnswer mb 8 0 []
  | 2 => r.1.fwAnswer mb 6 2 []
  | _ => r.1.fwInvalid mb 2

/-- TABLE_WRITE (R452). -/
def State.cmdTableWrite (mb : Nat) (ws : List Word) (s : State) : State :=
  let table := payloadBits ws 1 0 16
  let del := payloadBits ws 1 16 1 == 1
  let es := ws.drop 1
  match entryWords table with
  | none => s.fwInvalid mb 1
  | some n =>
    if es.length ≠ n then s.fwInvalid mb 0
    else if del ∧ 4 ≤ table then s.fwInvalid mb 1
    else if !entryOk table es then s.fwInvalid mb (entryOffends table es)
    else if table = 4 ∧ s.on (SCH_GCL_STATUS_PENDING (gatePlaceOf es).1) then s.fwInvalid mb 0
    else if s.gatedAt (if 4 ≤ table then SCH_CTRL else FWD_TBL_CMD) then s.fwAnswer mb 9 0 []
    else if table < 4 ∧ s.on FWD_TBL_CMD_BUSY then s
    else match table with
      | 1 => State.bankAnswer mb (s.bankOp (if del then 3 else 2) 1 0 es)
      | 2 => State.bankAnswer mb (s.bankOp (if del then 3 else 1) 0 (wordAt es 0) (es.drop 1))
      | 3 => State.bankAnswer mb (s.bankOp (if del then 3 else 1) 2 (wordAt es 0) (es.drop 1))
      | 4 => (s.putGate es).fwOk mb []
      | _ => (s.putDelay es).fwOk mb []

/-! ### The NV store -/

/-- NV_READ (R453): an uncorrectable read carries the raw octets. -/
def State.cmdNvRead (mb : Nat) (ws : List Word) (s : State) : State :=
  let n := (payload ws 2).toNat
  if 56 < n then s.fwInvalid mb 2
  else if !s.nvFree then s
  else
    let (t, st) := s.nvCommand 0 (payloadBits ws 1 0 17) n false []
    let words := wordsOf (t.nvWindow n)
    match st with
    | some 0 => t.fwOk mb words
    | some 6 => t.fwNv mb 6 words
    | some k => t.fwNv mb k []
    | none => t

/-- The octets a write request carries, where their words have the right number (R453). -/
def requestOctets (ws : List Word) (n : Nat) : Option (List Octet) :=
  if ws.length - 2 = (n + 3) / 4 then some ((octetsOf (ws.drop 2)).take n) else none

/-- NV_WRITE (R453): with its commit, the answer follows the commit. -/
def State.cmdNvWrite (mb : Nat) (ws : List Word) (s : State) : State :=
  let a := payloadBits ws 1 0 17
  let n := (payload ws 2).toNat
  match requestOctets ws n with
  | none => if 52 < n then s.fwInvalid mb 2 else s.fwInvalid mb 0
  | some bs =>
    if 52 < n then s.fwInvalid mb 2
    else if n = 0 then s.fwOk mb []
    else if a < 0x8000 ∨ 0x10000 < a + n then s.fwInvalid mb 1
    else if !s.nvFree then s
    else
      let (t, st) := (s.nvToWindow bs).nvCommand 1 a n (payloadBits ws 1 24 1 == 1) [(6, mb)]
      match st with
      | some k => t.fwNv mb k []
      | none => t

/-- NV_COMMIT (R436): the answer follows the commit. -/
def State.cmdNvCommit (mb : Nat) (s : State) : State :=
  if !s.nvFree then s
  else
    let (t, st) := s.nvCommand 2 (s.get NVS_ADDR_ADDR) (s.get NVS_LEN_LEN) false [(6, mb)]
    match st with
    | some k => t.fwNv mb k []
    | none => t

/-- HOT_USER_WRITE (R454) (DEDUCED, log entry 55). -/
def State.cmdHotUserWrite (mb : Nat) (ws : List Word) (s : State) : State :=
  let off := (payload ws 1).toNat
  let n := (payload ws 2).toNat
  match requestOctets ws n with
  | none => if 52 < n then s.fwInvalid mb 2 else s.fwInvalid mb 0
  | some bs =>
    if 52 < n then s.fwInvalid mb 2
    else if 491 < off ∨ 492 < off + n then s.fwInvalid mb 1
    else if !s.nvFree then s
    else (s.hotPut (0x610 + off) bs).fwOk mb []

/-- HOT_SAVE (R436): the answer follows the save. -/
def State.cmdHotSave (mb : Nat) (s : State) : State :=
  if !s.nvFree then s
  else
    let (t, st) := s.nvCommand 4 (s.get NVS_ADDR_ADDR) (s.get NVS_LEN_LEN) false []
    match st with
    | some k => t.fwNv mb k []
    | none => { t with fw := { t.fw with passed := some mb } }

/-! ### Faults and power -/

/-- Pages of the event log before the open page, newest first: valid pages whose SEQ falls (R482). -/
def logPagesBefore (s : State) : Nat → Nat → Nat → List FaultEntry
  | 0, _, _ => []
  | k + 1, page, seq =>
    let p := (page + 111) % 112
    let bs := s.nvOctets (0x1000 + 256 * p) 256
    if logPageOk bs && seqNewer seq (seqOf bs) then logPageEntries bs ++ logPagesBefore s k p (seqOf bs) else []

/-- The NV event log, newest entry first, the open page included (R482). -/
def State.eventLog (s : State) : List FaultEntry := s.flt.pageEntries ++ logPagesBefore s 111 s.flt.page s.flt.pageSeq

/-- FAULT_LOG_READ (R482): it waits for coachman B (R436). -/
def State.cmdFaultLogRead (mb : Nat) (ws : List Word) (s : State) : State :=
  if !s.coreBRuns then s
  else match s.eventLog[payloadBits ws 1 0 16]? with
  | some e => s.fwOk mb [e.w0, e.w1, e.w2, e.w3]
  | none => s.fwAnswer mb 8 0 []

/-- POWER_STATE (R438, R490, R503); one that passes the checks of R432 waits for coachman B (R436) (DEDUCED, log entry 55). -/
def State.cmdPowerState (mb : Nat) (ws : List Word) (s : State) : State :=
  let target := payloadBits ws 1 0 3
  let mask := (payload ws 2).toNat
  if 5 ≤ target then s.fwInvalid mb 1
  else if 16 ≤ mask then s.fwInvalid mb 2
  else if s.pwr.target.isSome then s.fwBusy mb
  else if !s.coreBRuns then s
  else
    let p := powerOf target
    let code := s.powerRefusal p mask
    if code ≠ 0 then (s.powerRequest target mask).fwAnswer mb 6 code []
    else if target < 3 then (s.powerRequest target mask).fwOk mb []
    else s.deferAction mb (1 + 16 * target + mask)

/-- THERMAL_STATUS (R484, R495): it waits for coachman B (R436). -/
def State.cmdThermal (mb : Nat) (s : State) : State :=
  if !s.coreBRuns then s else s.fwOk mb [packWord [(s.get FLT_TEMP_TJ, 0), (s.get PWR_STATUS_STEP, 16)]]

/-! ### Commands -/

/-- COMMAND_TAKE (R433). -/
def execCommandTake (s : State) : Host.Outcome State Fault Refusal := .next s.commandTake
/-- RESPONSE_POST (R434). -/
def execResponsePost (mb : Nat) (s : State) : Host.Outcome State Fault Refusal :=
  .next (s.when (decide (mb < 4)) (State.responsePost mb))
/-- SYS_INFO (R430). -/
def execSysInfo (mb : Nat) (s : State) : Host.Outcome State Fault Refusal :=
  .next (s.command mb 0x0101 fun _ => State.cmdSysInfo mb)
/-- RESET (R438). -/
def execReset (mb : Nat) (s : State) : Host.Outcome State Fault Refusal :=
  .next (s.command mb 0x0102 fun _ => State.deferAction mb 0)
/-- DEFERRED_ACTION (R438). -/
def execDeferredAction (s : State) : Host.Outcome State Fault Refusal := .next s.deferredBegin
/-- SET_EVENTS (R439). -/
def execSetEvents (mb : Nat) (s : State) : Host.Outcome State Fault Refusal :=
  .next (s.command mb 0x0103 (State.cmdSetEvents mb))
/-- ENTER_WORKSHOP (R39). -/
def execEnterWorkshop (mb : Nat) (s : State) : Host.Outcome State Fault Refusal :=
  .next (s.command mb 0x0104 fun _ => State.cmdWorkshop mb)
/-- CALL_EXTENSION (R440). -/
def execCallExtension (mb : Nat) (ret : List Word) (s : State) : Host.Outcome State Fault Refusal :=
  .next (s.command mb 0x0105 (State.cmdExtension mb ret))
/-- EXTENSION_TIMEOUT (R442). -/
def execExtensionTimeout (mb : Nat) (s : State) : Host.Outcome State Fault Refusal :=
  .next (s.command mb 0x0105 fun ws t => t.when (t.callable (payload ws 1).toNat) (State.coreRestart 0 true))
/-- FUSE_PROGRAM (R443). -/
def execFuseProgram (mb : Nat) (reads : Bool) (s : State) : Host.Outcome State Fault Refusal :=
  .next (s.command mb 0x0106 (State.cmdFuse mb reads))
/-- REF_STATUS (R432). -/
def execRefStatus (mb : Nat) (s : State) : Host.Outcome State Fault Refusal := .next (s.command mb 0x0201 (State.cmdRefStatus mb))
/-- SEL_STATUS (R432). -/
def execSelStatus (mb : Nat) (s : State) : Host.Outcome State Fault Refusal := .next (s.command mb 0x0202 (State.cmdSelStatus mb))
/-- SEL_MANUAL (R432). -/
def execSelManual (mb : Nat) (s : State) : Host.Outcome State Fault Refusal := .next (s.command mb 0x0203 (State.cmdSelManual mb))
/-- LOOP_STATUS (R432). -/
def execLoopStatus (mb : Nat) (s : State) : Host.Outcome State Fault Refusal :=
  .next (s.command mb 0x0301 (State.cmdLoopStatus mb))
/-- LOOP_SAMPLE (R444). -/
def execLoopSample (mb : Nat) (s : State) : Host.Outcome State Fault Refusal :=
  .next (s.command mb 0x0302 (State.cmdLoopSample mb))
/-- SET_CAL (R445). -/
def execSetCal (mb : Nat) (s : State) : Host.Outcome State Fault Refusal := .next (s.command mb 0x0303 (State.cmdSetCal mb))
/-- CLEAR_MODEL (R446). -/
def execClearModel (mb : Nat) (s : State) : Host.Outcome State Fault Refusal :=
  .next (s.command mb 0x0304 fun _ => State.cmdClearModel mb)
/-- HOLD_STATUS (R432). -/
def execHoldStatus (mb : Nat) (s : State) : Host.Outcome State Fault Refusal :=
  .next (s.command mb 0x0305 fun _ => State.cmdHoldStatus mb)
/-- OUT_STATUS (R432). -/
def execOutStatus (mb : Nat) (s : State) : Host.Outcome State Fault Refusal := .next (s.command mb 0x0401 (State.cmdOutStatus mb))
/-- OUT_ENABLE (R447). -/
def execOutEnable (mb : Nat) (s : State) : Host.Outcome State Fault Refusal := .next (s.command mb 0x0402 (State.cmdOutEnable mb))
/-- TIME_READ (R435). -/
def execTimeRead (mb : Nat) (s : State) : Host.Outcome State Fault Refusal :=
  .next (s.command mb 0x0501 fun _ => State.cmdTimeRead mb)
/-- TIME_SET_SEC (R432). -/
def execTimeSetSec (mb : Nat) (s : State) : Host.Outcome State Fault Refusal :=
  .next (s.command mb 0x0502 (State.cmdTimeSetSec mb))
/-- GAUGE_RUN (R448). -/
def execGaugeRun (mb : Nat) (s : State) : Host.Outcome State Fault Refusal := .next (s.command mb 0x0601 (State.cmdGaugeRun mb))
/-- SESS_L2 (R449). -/
def execSessL2 (mb : Nat) (s : State) : Host.Outcome State Fault Refusal := .next (s.command mb 0x0701 (State.cmdSessL2 mb))
/-- SESS_IP (R449). -/
def execSessIp (mb : Nat) (s : State) : Host.Outcome State Fault Refusal := .next (s.command mb 0x0702 (State.cmdSessIp mb))
/-- PTP_PROFILE (R450). -/
def execPtpProfile (mb : Nat) (s : State) : Host.Outcome State Fault Refusal :=
  .next (s.command mb 0x0703 (State.cmdPtpProfile mb))
/-- PTP_PORT_DS (R432). -/
def execPtpPortDs (mb : Nat) (s : State) : Host.Outcome State Fault Refusal := .next (s.command mb 0x0704 (State.cmdPtpPortDs mb))
/-- CPL_STATUS (R432). -/
def execCplStatus (mb : Nat) (s : State) : Host.Outcome State Fault Refusal := .next (s.command mb 0x0705 (State.cmdCplStatus mb))
/-- PORT_STATUS (R432). -/
def execPortStatus (mb : Nat) (s : State) : Host.Outcome State Fault Refusal :=
  .next (s.command mb 0x0801 (State.cmdPortStatus mb))
/-- MODULE_READ (R451). -/
def execModuleRead (mb : Nat) (s : State) : Host.Outcome State Fault Refusal :=
  .next (s.command mb 0x0802 (State.cmdModuleRead mb))
/-- I2C_TRANSFER_DONE (R323). -/
def execI2cTransferDone (bus : Nat) (result : I2cResult) (bytes : List Octet) (s : State) : Host.Outcome State Fault Refusal :=
  .next (s.when (decide (bus < 4) && s.i2cOn) (State.i2cDone bus result bytes))
/-- MAC_FLUSH (R432). -/
def execMacFlush (mb : Nat) (s : State) : Host.Outcome State Fault Refusal := .next (s.command mb 0x0901 (State.cmdMacFlush mb))
/-- MAC_LOOKUP (R432). -/
def execMacLookup (mb : Nat) (s : State) : Host.Outcome State Fault Refusal := .next (s.command mb 0x0902 (State.cmdMacLookup mb))
/-- TABLE_WRITE (R452). -/
def execTableWrite (mb : Nat) (s : State) : Host.Outcome State Fault Refusal :=
  .next (s.command mb 0x0903 (State.cmdTableWrite mb))
/-- NV_READ (R453). -/
def execNvRead (mb : Nat) (s : State) : Host.Outcome State Fault Refusal := .next (s.command mb 0x0A01 (State.cmdNvRead mb))
/-- NV_WRITE (R453). -/
def execNvWrite (mb : Nat) (s : State) : Host.Outcome State Fault Refusal := .next (s.command mb 0x0A02 (State.cmdNvWrite mb))
/-- NV_COMMIT (R436). -/
def execNvCommit (mb : Nat) (s : State) : Host.Outcome State Fault Refusal :=
  .next (s.command mb 0x0A03 fun _ => State.cmdNvCommit mb)
/-- HOT_USER_WRITE (R454). -/
def execHotUserWrite (mb : Nat) (s : State) : Host.Outcome State Fault Refusal :=
  .next (s.command mb 0x0A04 (State.cmdHotUserWrite mb))
/-- HOT_SAVE (R436). -/
def execHotSave (mb : Nat) (s : State) : Host.Outcome State Fault Refusal :=
  .next (s.command mb 0x0A05 fun _ => State.cmdHotSave mb)
/-- FAULT_LOG_READ (R482). -/
def execFaultLogRead (mb : Nat) (s : State) : Host.Outcome State Fault Refusal :=
  .next (s.command mb 0x0B01 (State.cmdFaultLogRead mb))
/-- POWER_STATE (R490). -/
def execPowerState (mb : Nat) (s : State) : Host.Outcome State Fault Refusal :=
  .next (s.command mb 0x0B02 (State.cmdPowerState mb))
/-- THERMAL_STATUS (R432). -/
def execThermalStatus (mb : Nat) (s : State) : Host.Outcome State Fault Refusal :=
  .next (s.command mb 0x0B03 fun _ => State.cmdThermal mb)

end Sys2Proof.Machine
end

