-- ==== Sys2Proof/Machine/Host.lean ====
section
/-! DEFINITION. The commands of the host interfaces (chapter 22): words of SPI and I2C, PCIe requests, JTAG, packets of P48, and
MSI-X messages. -/

namespace Sys2Proof.Machine

/-- Do the interfaces perform accesses (R49, R473)? (DESIGN CHOICE, log entry 4) -/
def State.hostOn (s : State) : Bool := s.boot.root && !s.asleep

/-! ### SPI and I2C -/

/-- Is a frame or transaction meant for this device: DEV equal to the latched ADDR (R458), or the address 0x10 + ADDR (R460)? -/
def State.spiMine (s : State) (dev : Nat) : Bool := dev == s.get GLB_STRAPS_ADDR
def State.i2cMine (s : State) (dev : Nat) : Bool := dev == 0x10 + s.get GLB_STRAPS_ADDR

/-- The access after an address, in the 24-bit space (R458, R460). -/
def nextAddr (a : Nat) : Nat := (a + 4) % 2 ^ 24

/-- A read whose word is sent late: the access is performed and its value lost (R459, R460, R474) (DEDUCED, log entry 61). -/
def State.lateRead (m : Master) (flag : FieldRef) (a : Nat) (s : State) : State :=
  let s := ((s.busRead m a).raise flag).answer m (.data 0xFFFFFFFF#32)
  s.logFault 0x07 (masterId m) (some (m, false, a))

/-- A word cut short: nothing is performed (R458, R460) (DEDUCED, log entry 61). -/
def State.cutWord (m : Master) (flag : FieldRef) (s : State) : State := (s.raise flag).logFault 0x07 (masterId m) none

/-- A word read over SPI: all ones until the root runs (R49); too late for its slot it is not sent (R459) (DEDUCED, log entry
61). -/
def State.spiRead (a : Nat) (late : Bool) (s : State) : State :=
  if !s.boot.root then s.answer .spi (if s.boot.held ∨ s.asleep then .none else .data 0xFFFFFFFF#32)
  else if s.hostOn ∧ late then s.lateRead .spi HIF_ERR_SPI_LATE a else s.busRead .spi a

/-- A word written over I2C: the address goes on by one word (R460); an address that is not acknowledged does nothing (R49, R460,
R473) (DEDUCED, log entry 61). -/
def State.i2cSlaveWrite (dev a : Nat) (v : Word) (s : State) : State :=
  if !s.hostOn ∨ !s.i2cMine dev then s
  else
    let s := s.busWrite .i2c a v
    { s with hif := { s.hif with i2cNext := nextAddr a } }

/-- A read goes on at the address that follows the last word where the transaction gives none (R460). -/
def State.i2cSlaveRead (dev : Nat) (addr : Option Nat) (late : Bool) (s : State) : State :=
  if !s.hostOn ∨ !s.i2cMine dev then s
  else
    let a := addr.getD s.hif.i2cNext
    let s := if late then s.lateRead .i2c HIF_ERR_I2C_ERR a else s.busRead .i2c a
    { s with hif := { s.hif with i2cNext := nextAddr a } }

/-! ### PCIe -/

/-- One DWORD of a request (R461): `whole` says, for a write, that all its byte enables are set, and for a read that any is. -/
def State.pcieWord (write : Bool) (a : Nat) (v : Word) (whole : Bool) (s : State) : State :=
  if write then
    if whole then s.busWrite .pcie a v
    else ((s.answer .pcie .ok).raise HIF_ERR_PCIE_PARTIAL).logFault 0x07 (masterId .pcie) (some (.pcie, true, a))
  else if whole then s.busRead .pcie a else s.answer .pcie .none

/-- A memory request to BAR0: its DWORDs in ascending order, and what each was answered (R461, R473) (DEDUCED, log entry 61;
DESIGN CHOICE, log entry 73). -/
def State.pcieAccess (write : Bool) (addr : Nat) (words : List Word) (enables : List Bool) (s : State) : State :=
  if !s.hostOn ∨ !s.hif.pcieUp then s
  else
    let one (t : State) (k : Nat) : State :=
      let t := t.pcieWord write ((addr + 4 * k) % 2 ^ 24) (words.getD k 0) (enables.getD k false)
      { t with hif := { t.hif with completion := t.hif.completion ++ [t.replyOf .pcie] } }
    (List.range enables.length).foldl one { s with hif := { s.hif with completion := [] } }

/-- A cause becomes pending, its enable is set, or its mask is lifted (R472): its vector is sent, or held in the pending-bit
array while the link is down or PCIe masks it (DEDUCED, log entry 64; DESIGN CHOICE, log entry 73). -/
def State.msixSend (n : Nat) (masked : Bool) (s : State) : State :=
  if !s.boot.root ∨ !s.causePending n then s
  else if s.asleep ∨ !s.hif.pcieUp ∨ (masked && s.msixMay n) then
    { s with hif := { s.hif with msixHeld := putBit s.hif.msixHeld n true } }
  else if s.msixMay n then State.emit { s with hif := { s.hif with msixHeld := putBit s.hif.msixHeld n false } } .msix n [] []
  else s

/-- The link comes up (R472): held causes that are still pending and may send do so; those PCIe masks stay held (DEDUCED, log
entry 64; DESIGN CHOICE, log entry 73). -/
def State.linkUp (masks : Nat) (s : State) : State :=
  if !s.hostOn then s
  else
    let due := (bitsOf s.hif.msixHeld 10).filter fun n => s.causePending n && s.msixMay n
    let stay := (due.filter masks.testBit).foldl (fun w n => putBit w n true) 0
    let s := { s with hif := { s.hif with pcieUp := true, msixHeld := stay } }
    s.each (due.filter fun n => !masks.testBit n) fun n t => t.emit .msix n [] []

/-! ### JTAG -/

/-- Is the last access still under way (R462)? Before 1 µs, 312.5 cycles, has passed the answer is open (DESIGN CHOICE, log
entry 62). -/
def State.jtagBusy (s : State) : Bool :=
  match s.hif.jtagAt with
  | none => false
  | some t => decide (s.cyc < t + 313) && Config.jtagBusy s.free

/-- Update-DR of MGMT (R49, R462, R473) (DESIGN CHOICE, log entry 62). -/
def State.jtagUpdate (dr : Nat) (s : State) : State :=
  if s.asleep then s
  else
    let s := { s with hif := { s.hif with jtagDr := dr % 2 ^ 58 } }
    if !s.boot.root then { s with hif := { s.hif with jtagErr := true } }
    else
      let busy := s.jtagBusy
      let s := s.useFree
      if busy then s.raise HIF_ERR_JTAG_ERR
      else
        let a := dr / 2 ^ 33 % 2 ^ 24
        let s := { s with hif := { s.hif with jtagErr := false, jtagAt := some s.cyc } }
        if dr.testBit 57 then s.busWrite .jtag a (BitVec.ofNat 32 (dr / 2))
        else
          let s := s.busRead .jtag a
          match s.replyOf .jtag with
          | .data w => { s with hif := { s.hif with jtagData := w } }
          | _ => s

/-- Capture-DR of MGMT (R462): data of the last read, error flag of the last access (DESIGN CHOICE, log entry 62). -/
def State.jtagCapture (s : State) : State :=
  if s.asleep then s
  else
    let h := s.hif
    { s with hif := { h with jtagDr := h.jtagDr / 2 ^ 33 * 2 ^ 33 + h.jtagData.toNat * 2 + (if h.jtagErr then 1 else 0) } }

/-! ### Packets of P48 -/

/-- A frame for P48 goes to the buffer of receive descriptor HEAD (R467): the copy on its way, or in the slot (DEDUCED, log
entry 63). -/
def State.packetRx (s : State) : State :=
  if !s.pktRoom then s
  else
    let s := if (s.sout 48).tx.isNone then s.slotStart 48 else s
    s.txEnd 48

/-- Transmit descriptor HEAD and its frame (R338, R468) (DEDUCED, log entry 63). -/
def State.packetTx (desc : List Word) (bytes : List Octet) (s : State) : State :=
  let n := s.get (HIF_RING_LEN_LEN 1)
  let h := s.get (HIF_RING_HEAD_HEAD 1)
  if n = 0 ∨ h = s.get (HIF_RING_TAIL_TAIL 1) ∨ s.framesStopped then s
  else
    let w := desc.getD 2 0
    let len := getBits w 0 16
    let out := getBits w 16 8
    let bad := decide (len < 60 ∨ 9596 < len ∨ (48 ≤ out ∧ out ≠ 255))
    let body := bytes.take len
    let s := if bad then s
      else s.internalFrame 48 (body ++ octetsLE 4 (crc32 body)) (if out = 255 then none else some (out, getBits w 26 3))
    let flags := getBits w 24 8 ||| (if bad then 3 else 1)
    let s := s.emit .hostWrite 2 [h, 1] [BitVec.ofNat 8 flags]
    (s.set (HIF_RING_HEAD_HEAD 1) ((h + 1) % n)).raise HIF_PKT_EVT_TX_DONE

/-- A PCIe error on a ring's memory access (R469): master 6 made it (R461); which access it was is open (DEDUCED, log entry
63). -/
def State.ringError (r : Nat) (s : State) : State :=
  if !s.hostOn ∨ s.get (HIF_RING_LEN_LEN r) = 0 then s
  else
    let acc := (Master.dma, Config.unstated s.free % 2 == 1, Config.unstated (s.free + 1) % 2 ^ 24)
    (((s.useFree.useFree.ringStop r).raise HIF_PKT_EVT_DMA_ERR)).logFault 0x15 (1 + r) (some acc)

/-! ### Commands -/

/-- SPI_WRITE_WORD (R458): `dev` is the frame's DEV. -/
def execSpiWriteWord (dev addr : Nat) (v : Word) (s : State) : Host.Outcome State Fault Refusal :=
  .next (s.when (s.spiMine dev) (State.busWrite .spi addr v))
/-- SPI_READ_WORD (R458, R459): a frame for another device is ignored. -/
def execSpiReadWord (dev addr : Nat) (late : Bool) (s : State) : Host.Outcome State Fault Refusal :=
  .next (s.when (s.spiMine dev) (State.spiRead addr late))
/-- SPI_FRAME_END (R458). -/
def execSpiFrameEnd (dev : Nat) (partialWord : Bool) (s : State) : Host.Outcome State Fault Refusal :=
  .next (s.when (s.hostOn && s.spiMine dev && partialWord) (State.cutWord .spi HIF_ERR_SPI_PARTIAL))
/-- I2C_WRITE_WORD (R460): `dev` is the 7-bit address the host sent. -/
def execI2cWriteWord (dev addr : Nat) (v : Word) (s : State) : Host.Outcome State Fault Refusal :=
  .next (s.i2cSlaveWrite dev addr v)
/-- I2C_READ_WORD (R460). -/
def execI2cReadWord (dev : Nat) (addr : Option Nat) (late : Bool) (s : State) : Host.Outcome State Fault Refusal :=
  .next (s.i2cSlaveRead dev addr late)
/-- I2C_TRANSACTION_END (R460). -/
def execI2cTransactionEnd (dev : Nat) (partialWord : Bool) (s : State) : Host.Outcome State Fault Refusal :=
  .next (s.when (s.hostOn && s.i2cMine dev && partialWord) (State.cutWord .i2c HIF_ERR_I2C_PARTIAL))
/-- PCIE_REQUEST (R461). -/
def execPcieRequest (write : Bool) (addr : Nat) (words : List Word) (enables : List Bool) (s : State) :
    Host.Outcome State Fault Refusal :=
  .next (s.pcieAccess write addr words enables)
/-- JTAG_UPDATE_DR (R462). -/
def execJtagUpdateDr (dr : Nat) (s : State) : Host.Outcome State Fault Refusal := .next (s.jtagUpdate dr)
/-- JTAG_CAPTURE_DR (R462). -/
def execJtagCaptureDr (s : State) : Host.Outcome State Fault Refusal := .next s.jtagCapture
/-- PACKET_RX (R467). -/
def execPacketRx (s : State) : Host.Outcome State Fault Refusal := .next s.packetRx
/-- PACKET_TX (R468). -/
def execPacketTx (desc : List Word) (bytes : List Octet) (s : State) : Host.Outcome State Fault Refusal :=
  .next (s.packetTx desc bytes)
/-- RING_DMA_ERROR (R469). -/
def execRingDmaError (r : Nat) (s : State) : Host.Outcome State Fault Refusal :=
  .next (s.when (decide (r < 2)) (State.ringError r))
/-- RING_LEN_WRITE (R469). -/
def execRingLenWrite (m : Master) (r : Nat) (v : Word) (s : State) : Host.Outcome State Fault Refusal :=
  .next (s.when (decide (r < 2)) (State.access m (HIF_RING_LEN r) (State.ringLenEffect m r v)))
/-- MSIX_SEND (R472). -/
def execMsixSend (cause : Nat) (masked : Bool) (s : State) : Host.Outcome State Fault Refusal :=
  .next (s.when (decide (cause < 10)) (State.msixSend cause masked))
/-- PCIE_LINK_UP (R472). -/
def execPcieLinkUp (masks : Nat) (s : State) : Host.Outcome State Fault Refusal := .next (s.linkUp masks)

end Sys2Proof.Machine
end

