-- ==== Sys2Proof/Machine/Crypto.lean ====
section
/-! DEFINITION. SHA-256 and the ECDSA P-256 verification that R59 names, over whole numbers. PRESUMED: the constants and steps
are those of FIPS 180-4 and FIPS 186-4, which the spec cites and does not reproduce. -/

namespace Sys2Proof.Machine

/-! ### SHA-256 -/

/-- 32-bit sums and rotations. -/
def add32 (a b : Nat) : Nat := (a + b) % 0x100000000
def rotr32 (n x : Nat) : Nat := x / 2 ^ n + x * 2 ^ (32 - n) % 0x100000000

/-- The largest `r` of `n` more bits under `acc` whose power `k` is at most `x`. -/
def rootBits (k x : Nat) : Nat → Nat → Nat
  | 0, acc => acc
  | n + 1, acc => rootBits k x n (if (acc + 2 ^ n) ^ k ≤ x then acc + 2 ^ n else acc)

/-- The first 32 bits of the fraction of the `k`-th root of a number below 512. -/
def rootFraction (k p : Nat) : Nat := rootBits k (p * 2 ^ (32 * k)) 37 0 % 2 ^ 32

/-- The first 64 primes, which SHA-256 takes its constants from. -/
def shaPrimes : List Nat :=
  (List.range 312).filter fun n => decide (2 ≤ n) && (List.range 16).all fun d => decide (n ≤ d + 2) || n % (d + 2) != 0

/-- The round constants: from the cube roots of the primes. -/
def shaK : List Nat := shaPrimes.map (rootFraction 3)
/-- The first chaining value: from the square roots of the first eight. -/
def shaStart : List Nat := (shaPrimes.take 8).map (rootFraction 2)

/-- The next word of the message schedule; `w` holds the words so far, newest first. -/
def shaNext (w : List Nat) : Nat :=
  let x := w.getD 14 0
  let y := w.getD 1 0
  let s0 := rotr32 7 x ^^^ rotr32 18 x ^^^ x / 2 ^ 3
  let s1 := rotr32 17 y ^^^ rotr32 19 y ^^^ y / 2 ^ 10
  add32 (add32 (w.getD 15 0) s0) (add32 (w.getD 6 0) s1)

/-- `n` more words of the schedule. -/
def shaSchedule : Nat → List Nat → List Nat
  | 0, w => w
  | n + 1, w => shaSchedule n (shaNext w :: w)

/-- One round over the eight working variables. -/
def shaRound (h : List Nat) (kw : Nat) : List Nat :=
  match h with
  | [a, b, c, d, e, f, g, x] =>
    let s1 := rotr32 6 e ^^^ rotr32 11 e ^^^ rotr32 25 e
    let ch := (e &&& f) ^^^ ((0xFFFFFFFF - e) &&& g)
    let t1 := add32 (add32 x s1) (add32 ch kw)
    let s0 := rotr32 2 a ^^^ rotr32 13 a ^^^ rotr32 22 a
    let mj := (a &&& b) ^^^ (a &&& c) ^^^ (b &&& c)
    [add32 t1 (add32 s0 mj), a, b, c, add32 d t1, e, f, g]
  | _ => h

/-- One block of sixteen words. -/
def shaBlock (h ws : List Nat) : List Nat :=
  let w := (shaSchedule 48 ws.reverse).reverse
  let r := (shaK.zip w).foldl (fun h kw => shaRound h (add32 kw.1 kw.2)) h
  (h.zip r).map fun p => add32 p.1 p.2

/-- Big-endian words of octets. -/
def wordsBE : Nat → List Octet → List Nat
  | 0, _ => []
  | n + 1, bs => fromBE (bs.take 4) :: wordsBE n (bs.drop 4)

/-- The blocks of a padded message, in turn. -/
def shaBlocks : Nat → List Nat → List Octet → List Nat
  | 0, h, _ => h
  | n + 1, h, bs => shaBlocks n (shaBlock h (wordsBE 16 (bs.take 64))) (bs.drop 64)

/-- SHA-256 of octets, as a 256-bit number (PRESUMED, log entry 17). -/
def sha256 (bs : List Octet) : Nat :=
  let len := bs.length
  let pad := bs ++ 0x80#8 :: List.replicate ((119 - len % 64) % 64) 0 ++ octetsBE 8 (8 * len)
  (shaBlocks (pad.length / 64) shaStart pad).foldl (fun n w => n * 0x100000000 + w) 0

/-! ### P-256 -/

def p256P : Nat := 2 ^ 256 - 2 ^ 224 + 2 ^ 192 + 2 ^ 96 - 1
def p256N : Nat := 0xFFFFFFFF00000000FFFFFFFFFFFFFFFFBCE6FAADA7179E84F3B9CAC2FC632551
def p256B : Nat := 0x5AC635D8AA3A93E7B3EBBD55769886BC651D06B0CC53B0F63BCE3C3E27D2604B
def p256Gx : Nat := 0x6B17D1F2E12C4247F8BCE6E563A440F277037D812DEB33A0F4A13945D898C296
def p256Gy : Nat := 0x4FE342E2FE1A7F9B8EE7EB4A7C0F9E162BCE33576B315ECECBB6406837BF51F5

/-- A power modulo `m`, the exponent taken bit by bit from its `n` low bits. -/
def powMod (m b e : Nat) : Nat → Nat
  | 0 => 1 % m
  | n + 1 =>
    let r := powMod m b (e / 2) n
    let r := r * r % m
    if e % 2 = 1 then r * b % m else r

/-- The inverse modulo a prime of 256 bits. -/
def invMod (m x : Nat) : Nat := powMod m (x % m) (m - 2) 256

/-- A difference modulo the field prime. -/
def subP (a b : Nat) : Nat := (a + p256P - b % p256P) % p256P

/-- A point in projective coordinates with weights 2, 3, 1; the third is 0 at infinity. -/
abbrev EcPoint := Nat × Nat × Nat

/-- Twice a point. -/
def ecDouble : EcPoint → EcPoint
  | (x, y, z) =>
    if z = 0 ∨ y = 0 then (1, 1, 0)
    else
      let d := z * z % p256P
      let g := y * y % p256P
      let b := x * g % p256P
      let a := 3 * (subP x d * (x + d)) % p256P
      let x3 := subP (a * a) (8 * b)
      (x3, subP (a * subP (4 * b) x3) (8 * (g * g)), subP ((y + z) * (y + z)) (g + d))

/-- The sum of two points. -/
def ecAdd : EcPoint → EcPoint → EcPoint
  | (x1, y1, z1), (x2, y2, z2) =>
    if z1 = 0 then (x2, y2, z2)
    else if z2 = 0 then (x1, y1, z1)
    else
      let a := z1 * z1 % p256P
      let b := z2 * z2 % p256P
      let u1 := x1 * b % p256P
      let u2 := x2 * a % p256P
      let s1 := y1 * z2 % p256P * b % p256P
      let s2 := y2 * z1 % p256P * a % p256P
      if u1 = u2 then (if s1 = s2 then ecDouble (x1, y1, z1) else (1, 1, 0))
      else
        let h := subP u2 u1
        let r := subP s2 s1
        let h2 := h * h % p256P
        let h3 := h2 * h % p256P
        let v := u1 * h2 % p256P
        let x3 := subP (r * r) (h3 + 2 * v)
        (x3, subP (r * subP v x3) (s1 * h3), h * z1 % p256P * z2 % p256P)

/-- A multiple of a point, by the `n` low bits of `k`. -/
def ecMul (q : EcPoint) (k : Nat) : Nat → EcPoint
  | 0 => (1, 1, 0)
  | n + 1 =>
    let r := ecDouble (ecMul q (k / 2) n)
    if k % 2 = 1 then ecAdd r q else r

/-- Does a point lie on the curve? -/
def onCurve (x y : Nat) : Bool :=
  decide (x < p256P ∧ y < p256P) && y * y % p256P == (subP (x * x % p256P * x) (3 * x) + p256B) % p256P

/-- The verification of R59: public key, digest, r and s (PRESUMED, log entry 17). -/
def ecdsaVerify (qx qy e r s : Nat) : Bool :=
  if r = 0 ∨ s = 0 ∨ p256N ≤ r ∨ p256N ≤ s ∨ !onCurve qx qy then false
  else
    let w := invMod p256N s
    let (x, _, z) := ecAdd (ecMul (p256Gx, p256Gy, 1) (e * w % p256N) 256) (ecMul (qx, qy, 1) (r * w % p256N) 256)
    if z = 0 then false
    else
      let zi := invMod p256P z
      x * (zi * zi % p256P) % p256P % p256N == r

end Sys2Proof.Machine
end

