-- ==== Sys2Proof/Machine/Staging.lean ====
section
/-! DEFINITION. The stage loader's checks, the segments it applies, the undoing of a rejected image, and its commands
(chapter 02). -/

namespace Sys2Proof.Machine

/-! ### Header and image -/

/-- The version of the ROM this manual describes (R1). -/
abbrev romVersion : Nat := 0x0204

/-- The first header check that fails, as a rejection code; 0 when all pass (R55) (DEDUCED, log entry 16; DESIGN CHOICE, log
entry 77). -/
def State.headerCode (s : State) : Nat :=
  let len := s.imgLen
  if s.hdr 0x00 4 ≠ 0x54535A51 then 0x01
  else if crc32 (s.boot.image.take 0x3C) ≠ s.hdr 0x3C 4 then 0x02
  else if s.hdr 0x04 2 ≠ 2 ∨ s.hdr 0x06 2 ≠ 64 then 0x03
  else if s.hdr 0x0E 2 ≠ 0x4816 then 0x04
  else if romVersion < s.hdr 0x14 2 then 0x05
  else if len % 4 ≠ 0 ∨ len < 64 ∨ 1048576 < s.expected then 0x06
  else 0

/-- The header is there and is checked (R55). From flash `bytes` are its octets; a host has streamed them (DEDUCED, log entry
15). -/
def State.headerIn (bytes : List Octet) (s : State) : State :=
  if s.bootState ≠ bootFetch ∨ s.boot.header then s
  else
    let t := if s.boot.qspi then { s with boot := { s.boot with image := bytes.take 64 } } else s.fifoDrain
    if t.boot.image.length < 64 then s
    else if t.headerCode = 0 then { t with boot := { t.boot with header := true } }
    else t.reject t.headerCode

/-- Every expected octet has been received (R62). From flash `bytes` are those that follow the header (DEDUCED, log entry 15). -/
def State.imageIn (bytes : List Octet) (s : State) : State :=
  if s.bootState ≠ bootFetch ∨ !s.boot.header then s
  else
    let t := if s.boot.qspi then { s with boot := { s.boot with image := s.boot.image ++ bytes } } else s.fifoDrain
    if t.boot.image.length < s.expected then s
    else { t with boot := { t.boot with image := t.boot.image.take s.expected } }.setBoot bootVerify

/-- The signature check of R59, as a rejection code (DEDUCED, log entry 16; PRESUMED, log entry 17). -/
def State.signatureCode (s : State) : Nat :=
  let block := s.boot.image.drop s.imgLen
  let num (k : Nat) : Nat := fromBE (slice block k 32)
  let slot := s.hdr 0x17 1
  let l := s.livery
  let have_ := l.intact && decide (slot < 4) && l.keySet.getLsbD slot && !l.keyRevoked.getLsbD slot
  if !s.signed ∨ fromLE (block.take 4) ≠ 0x47535A51 then 0x08
  else if !have_ then 0x09
  else if sha256 (slice block 4 64) ≠ fromBE (smAt l.keyHash slot) then 0x0A
  else if !ecdsaVerify (num 4) (num 36) (sha256 (s.boot.image.take s.imgLen)) (num 68) (num 100) then 0x0B
  else 0

/-- IMG_CRC, then the signature while SECURE is set (R55, R59) (DEDUCED, log entry 16). -/
def State.imageCode (s : State) : Nat :=
  if crc32 (slice s.boot.image 0x40 (s.imgLen - 0x40)) ≠ s.hdr 0x38 4 then 0x07
  else if s.on GLB_FUSE_SECURE then s.signatureCode
  else 0

/-- The checks of VERIFY are complete (R59, R62). -/
def State.verified (s : State) : State :=
  if s.bootState ≠ bootVerify then s
  else if s.imageCode = 0 then (s.setB GLB_BOOT_STATUS_SIG_OK (s.on GLB_FUSE_SECURE)).setBoot bootApply
  else s.reject s.imageCode

/-! ### The undoing of an image (R64) -/

/-- A word with its RW fields at their Reset values (DEDUCED, log entry 18). -/
def rwReset (r : RegRow) (w : Word) : Word :=
  r.fields.foldl (fun w f => if f.access = .rw ∨ f.access = .wo then putBits w f.lo f.width f.reset else w) w

/-- Registers whose ENABLE starts a unit: their units stop before their registers go back. -/
def startsUnit (a : Nat) : Bool :=
  match blockOf a with
  | some .refm => decide (a < 0x024000) && a % 0x100 == 0
  | some .dpl => decide (a < 0x044000) && a % 0x1000 == 0
  | some .axl => a % 0x1000 == 0
  | some .out => decide (a < 0x071800) && a % 0x100 == 0
  | some .gau => decide (a < 0x094000) && a % 0x100 == 0
  | some .tse => decide (0x0A4000 ≤ a) && a % 0x40 == 0
  | some .cpl => decide (0x0B1000 ≤ a) && a % 0x80 == 0
  | some .prt => a % 0x1000 == 0
  | some .mir => a == MIR_CFG
  | _ => false

/-- Units are stopped by a write of their Reset configuration, without the faults such writes may log (DEDUCED, log entry 18). -/
def State.stopUnits (s : State) : State :=
  let stop (t : State) (a : Nat) : State := match regRow a with
    | some r => if startsUnit a then t.regWrite .loader a (rwReset r (t.rd a)) r else t
    | none => t
  let t := (s.regs.map (·.1)).foldl stop s
  { t with flt := s.flt, fw := s.fw }

/-- Every RW field outside GLB back to its Reset value; NVS_PROTECT stays while LOCK reads 1 (R412) (DEDUCED, log entry 18). -/
def State.resetRw (s : State) : State :=
  (s.regs.map (·.1)).foldl (fun t a => match regRow a with
    | some r => if blockOf a = some .glb ∨ (a = NVS_PROTECT ∧ s.on NVS_PROTECT_LOCK) then t else t.wr a (rwReset r (t.rd a))
    | none => t) s

/-- The gate lists in force and the changes that wait are forgotten: the oper bank, GCL_STATUS, the change times (R64) (DEDUCED,
log entry 18). -/
def State.gclForget (s : State) : State :=
  let ours (a : Nat) : Bool := (decide (0x2A0000 ≤ a) && decide (0x400 ≤ a % 0x800)) || (decide (0x281000 ≤ a) && a % 0x100 == 0x78)
  let s := (s.regs.map (·.1)).foldl (fun t a => if blockOf a = some .sch ∧ ours a then t.wr a (resetWord a) else t) s
  s.each (List.range 48) fun o t => t.setSout o { t.sout o with base := 0, cycle := 0, change := none }

/-- The image is undone: registers, tables, the extension area, and what the registers stood for (R64) (DEDUCED, log entry
18). -/
def State.unapply (s : State) : State :=
  let s := s.stopUnits.resetRw
  let s := { s with
    boot := { s.boot with ext := [], filled := [], privMap := none }
    fwd := default
    tim := { s.tim with a := { s.tim.a with inc := resetInc }, b := { s.tim.b with inc := resetInc }, tgtA := 0, tgtB := 0 }
    sels := [], outs := [] }
  let s := s.each [1, 2, 3] fun n t => t.setAxle n default
  let s := s.gclForget.each [0, 1] fun d t => t.set (TIM_STATUS_SEC_PENDING d) 0
  let s := (s.set GLB_STATUS_LEAD 0).setAcc s.tim.acc
  let s := (s.setB FLT_STATUS_NVLOG_OFF (s.get NVS_PROTECT_LEVEL == 3)).nodeFromLivery
  (s.gatesSettle.nodeEval.offerEval.outEvalAll).faultNEval

/-- An image is rejected in APPLY (R64) (DEDUCED, log entry 18). -/
def State.applyReject (code : Nat) (s : State) : State := (s.reject code).unapply

/-! ### Segments (R57, R58, R520) -/

/-- How an entry ends. -/
inductive Applied where
  | ok
  /-- A WAIT entry whose condition does not hold yet. -/
  | wait
  | bad (code : Nat)
  deriving DecidableEq, Repr

/-- Little-endian words of octets. -/
def wordsLE : Nat → List Octet → List Word
  | 0, _ => []
  | n + 1, bs => BitVec.ofNat 32 (fromLE (bs.take 4)) :: wordsLE n (bs.drop 4)

/-- Groups of `k` words. -/
def groupsOf (k : Nat) : Nat → List Word → List (List Word)
  | 0, _ => []
  | n + 1, ws => ws.take k :: groupsOf k n (ws.drop k)

/-- A loader access: what comes of it is an error or the state after it (R58). -/
def State.loaderWrite (a : Nat) (v : Word) (s : State) : State × Applied :=
  let t := s.busWrite .loader a v
  (t, if t.replyError .loader then .bad 0x0E else .ok)

/-- One entry of a segment of this type and target (DEDUCED, log entry 19). -/
def State.applyEntry (type target : Nat) (ws : List Word) (s : State) : State × Applied :=
  let a := wordAt ws 0
  match type with
  | 1 => if 2 ^ 24 ≤ a then (s, .bad 0x13) else s.loaderWrite a (ws.getD 1 0)
  | 2 =>
    if 2 ^ 24 ≤ a then (s, .bad 0x13)
    else
      let t := s.busRead .loader a
      if t.replyError .loader then (t, .bad 0x0E)
      else t.loaderWrite a ((t.replyWord .loader &&& ~~~ ws.getD 1 0) ||| (ws.getD 2 0 &&& ws.getD 1 0))
  | 3 =>
    if 2 ^ 24 ≤ a then (s, .bad 0x13)
    else if 1000000 < wordAt ws 3 then (s, .bad 0x0D)
    else if wordAt ws 3 = 0 then (s, .ok)
    else
      let t := s.busRead .loader a
      if t.replyError .loader then (t, .bad 0x0E)
      else (t, if t.replyWord .loader &&& ws.getD 1 0 = ws.getD 2 0 then .ok else .wait)
  | 4 =>
    let n := 4 * (ws.length - 1)
    if 0x80000 < a + n then (s, .bad 0x10)
    else
      let bs := (ws.drop 1).flatMap fun (w : Word) => octetsLE 4 w.toNat
      let b := { s.boot with ext := smPutList s.boot.ext a bs, filled := (a, n) :: s.boot.filled }
      ({ s with boot := b }, .ok)
  | 5 =>
    if !entryOk target ws then (s, .bad 0x0D)
    else
      let (t, full) := s.loadEntry target ws
      (t, if full then .bad 0x15 else .ok)
  | _ => ({ s with boot := { s.boot with privMap := some (a % 8) } }, .ok)

/-- Entries in payload order (DEDUCED, log entry 19). -/
def State.applyEntries (type target : Nat) : List (List Word) → State → State × Applied
  | [], s => (s, .ok)
  | ws :: rest, s =>
    match s.applyEntry type target ws with
    | (t, .ok) => State.applyEntries type target rest { t with boot := { t.boot with entry := t.boot.entry + 1, waiting := false } }
    | r => r

/-- Words of an entry of a segment: 0 where the payload is one entry. -/
def entrySize (type target : Nat) : Option Nat :=
  match type with
  | 1 => some 2 | 2 => some 3 | 3 => some 4 | 4 => some 0 | 5 => entryWords target | _ => some 1

/-- The segment at hand is done with. -/
def State.nextSegment (len : Nat) (s : State) : State :=
  { s with boot := { s.boot with pos := s.boot.pos + 8 + len, segs := s.boot.segs + 1, entry := 0, waiting := false } }

/-- The payload of the segment at hand is applied, from the entry it stands at. -/
def State.applyPayload (type target len : Nat) (s : State) : State :=
  match entrySize type target with
  | none => s.applyReject 0x11
  | some k =>
    let n := len / 4
    let k := if k = 0 then n else k
    if n % k ≠ 0 then s.applyReject 0x0D
    else
      let ws := wordsLE n (slice s.boot.image (s.boot.pos + 8) len)
      match s.applyEntries type target ((groupsOf k (n / k) ws).drop s.boot.entry) with
      | (t, .ok) => t.nextSegment len
      | (t, .wait) => { t with boot := { t.boot with waiting := true } }
      | (t, .bad code) => t.applyReject code

/-- The next segment is applied (R57, R58, R520, R521) (DEDUCED, log entry 19). -/
def State.segment (s : State) : State :=
  let b := s.boot
  if s.bootState ≠ bootApply ∨ (b.pos = s.imgLen ∧ b.segs = s.segCount) then s
  else if s.segCount ≤ b.segs ∨ s.imgLen < b.pos + 8 then s.applyReject 0x0D
  else
    let w0 := fromLE (slice b.image b.pos 4)
    let len := fromLE (slice b.image (b.pos + 4) 4)
    let type := w0 % 256
    let target := w0 / 65536
    if len % 4 ≠ 0 ∨ s.imgLen < b.pos + 8 + len then s.applyReject 0x0D
    else if w0 / 256 % 256 ≠ 0 then s.applyReject 0x0D
    else if 0x80 ≤ type then s.nextSegment len
    else if type = 0 ∨ 6 < type then s.applyReject 0x0C
    else if target ≠ 0 ∧ type ≠ 5 then s.applyReject 0x0D
    else if len = 0 then s.nextSegment 0
    else if type = 6 ∧ len ≠ 4 then s.applyReject 0x0D
    else s.applyPayload type target len

/-- The last segment has been applied (R57, R62). -/
def State.applied (s : State) : State :=
  let b := s.boot
  if s.bootState ≠ bootApply ∨ b.waiting then s
  else if b.pos = s.imgLen ∧ b.segs = s.segCount then
    let s := s.wr GLB_BOOT_IMGVER (BitVec.ofNat 32 (s.hdr 0x10 4))
    s.stagingEnd false (b.privMap.getD 0)
  else if b.pos = s.imgLen ∨ b.segs = s.segCount then s.applyReject 0x0D
  else s

/-! ### Commands -/

/-- ROOT_RUNS (R62). -/
def execRootRuns (s : State) : Host.Outcome State Fault Refusal := .next s.rootStart
/-- DISCOVER_DONE (R50). -/
def execDiscoverDone (sfdp fastRead : Bool) (s : State) : Host.Outcome State Fault Refusal := .next (s.discovered sfdp fastRead)
/-- BOOT_DATA_WRITE (R51). -/
def execBootDataWrite (m : Master) (v : Word) (s : State) : Host.Outcome State Fault Refusal :=
  .next (State.access m GLB_BOOT_DATA (fun _ => State.bootData m v) s)
/-- HEADER_RECEIVED (R55). -/
def execHeaderReceived (bytes : List Octet) (s : State) : Host.Outcome State Fault Refusal := .next (s.headerIn bytes)
/-- IMAGE_FETCHED (R62). -/
def execImageFetched (bytes : List Octet) (s : State) : Host.Outcome State Fault Refusal := .next (s.imageIn bytes)
/-- VERIFY_DONE (R59). -/
def execVerifyDone (s : State) : Host.Outcome State Fault Refusal := .next s.verified
/-- SEGMENT_APPLY (R58): a WAIT entry whose condition does not hold leaves the segment where it stands, for a later poll. -/
def execSegmentApply (s : State) : Host.Outcome State Fault Refusal := .next s.segment
/-- WAIT_SEGMENT_TIMEOUT (R521). -/
def execWaitSegmentTimeout (s : State) : Host.Outcome State Fault Refusal :=
  .next (if s.bootState = bootApply ∧ s.boot.waiting then s.applyReject 0x0F else s)
/-- APPLY_DONE (R62). -/
def execApplyDone (s : State) : Host.Outcome State Fault Refusal := .next s.applied
/-- RESTART (R63). -/
def execRestart (m : Master) (v : Word) (s : State) : Host.Outcome State Fault Refusal :=
  .next (State.access m GLB_BOOT_CTRL (fun _ => State.bootCtrl m v) s)

end Sys2Proof.Machine
end

