-- ==== Sys2Proof/Machine/Dispatch.lean ====
section
/-! DEFINITION. What each command does: one arm for each row of the table of commands. -/

namespace Sys2Proof.Machine

/-- The effect of a command on everything but the queue. -/
def exec (i : Instr) (s : State) : Host.Outcome State Fault Refusal :=
  match i with
  | .registerWrite m addr v => Sys2Proof.Machine.execRegisterWrite m addr v s
  | .rcRead m addr => Sys2Proof.Machine.execRcRead m addr s
  | .multiWordLowRead m addr => Sys2Proof.Machine.execMultiWordLowRead m addr s
  | .resetNAssert widthNs => Sys2Proof.Machine.execResetNAssert widthNs s
  | .resetNRelease straps => Sys2Proof.Machine.execResetNRelease straps s
  | .xoJudgementDone active hz counts => Sys2Proof.Machine.execXoJudgementDone active hz counts s
  | .rootRuns => Sys2Proof.Machine.execRootRuns s
  | .discoverDone sfdp fastRead => Sys2Proof.Machine.execDiscoverDone sfdp fastRead s
  | .bootDataWrite m v => Sys2Proof.Machine.execBootDataWrite m v s
  | .headerReceived bytes => Sys2Proof.Machine.execHeaderReceived bytes s
  | .imageFetched bytes => Sys2Proof.Machine.execImageFetched bytes s
  | .verifyDone => Sys2Proof.Machine.execVerifyDone s
  | .segmentApply => Sys2Proof.Machine.execSegmentApply s
  | .waitSegmentTimeout => Sys2Proof.Machine.execWaitSegmentTimeout s
  | .applyDone => Sys2Proof.Machine.execApplyDone s
  | .restart m v => Sys2Proof.Machine.execRestart m v s
  | .enterWorkshop mb => Sys2Proof.Machine.execEnterWorkshop mb s
  | .leadLoopWrite m v => Sys2Proof.Machine.execLeadLoopWrite m v s
  | .xoActivityLoss => Sys2Proof.Machine.execXoActivityLoss s
  | .xoFrequencyLoss count1 count2 => Sys2Proof.Machine.execXoFrequencyLoss count1 count2 s
  | .failoverLock => Sys2Proof.Machine.execFailoverLock s
  | .xoReturnRequest m v => Sys2Proof.Machine.execXoReturnRequest m v s
  | .xoReturnLock count => Sys2Proof.Machine.execXoReturnLock count s
  | .gateRequest m v => Sys2Proof.Machine.execGateRequest m v s
  | .gateTakesEffect bit => Sys2Proof.Machine.execGateTakesEffect bit s
  | .forcedGate bit inFlight => Sys2Proof.Machine.execForcedGate bit inFlight s
  | .gateOpen bit => Sys2Proof.Machine.execGateOpen bit s
  | .domainSourceWrite m v => Sys2Proof.Machine.execDomainSourceWrite m v s
  | .switchComplete dom => Sys2Proof.Machine.execSwitchComplete dom s
  | .switchForced dom => Sys2Proof.Machine.execSwitchForced dom s
  | .switchAbandoned dom => Sys2Proof.Machine.execSwitchAbandoned dom s
  | .switchRetry dom => Sys2Proof.Machine.execSwitchRetry dom s
  | .clkoutWrite m v => Sys2Proof.Machine.execClkoutWrite m v s
  | .refEnableWrite m n v => Sys2Proof.Machine.execRefEnableWrite m n v s
  | .overrideWrite m n v => Sys2Proof.Machine.execOverrideWrite m n v s
  | .tappedEdge n e width => Sys2Proof.Machine.execTappedEdge n e width s
  | .activityLoss n fast => Sys2Proof.Machine.execActivityLoss n fast s
  | .refTick100ms t => Sys2Proof.Machine.execRefTick100ms t s
  | .refTick1s t => Sys2Proof.Machine.execRefTick1s t s
  | .qualificationWaitEnd n => Sys2Proof.Machine.execQualificationWaitEnd n s
  | .todSentence bytes t => Sys2Proof.Machine.execTodSentence bytes t s
  | .todLineTransmit => Sys2Proof.Machine.execTodLineTransmit s
  | .changeoverComplete l => Sys2Proof.Machine.execChangeoverComplete l s
  | .forcedRefNoEdge l => Sys2Proof.Machine.execForcedRefNoEdge l s
  | .alignHiWrite m l v => Sys2Proof.Machine.execAlignHiWrite m l v s
  | .loopUpdate l => Sys2Proof.Machine.execLoopUpdate l s
  | .loopStepComplete l => Sys2Proof.Machine.execLoopStepComplete l s
  | .sourceLost l => Sys2Proof.Machine.execSourceLost l s
  | .loopEnableWrite m l v => Sys2Proof.Machine.execLoopEnableWrite m l v s
  | .forceWrite m l v => Sys2Proof.Machine.execForceWrite m l v s
  | .rampStart m l v => Sys2Proof.Machine.execRampStart m l v s
  | .rampAbort m l v => Sys2Proof.Machine.execRampAbort m l v s
  | .rampDone l => Sys2Proof.Machine.execRampDone l s
  | .observation => Sys2Proof.Machine.execObservation s
  | .tempSensorRead => Sys2Proof.Machine.execTempSensorRead s
  | .tempReadTimeout => Sys2Proof.Machine.execTempReadTimeout s
  | .clear m v => Sys2Proof.Machine.execClear m v s
  | .clearCommitDone => Sys2Proof.Machine.execClearCommitDone s
  | .holdoverTick => Sys2Proof.Machine.execHoldoverTick s
  | .spragExpiry l => Sys2Proof.Machine.execSpragExpiry l s
  | .modelCommit => Sys2Proof.Machine.execModelCommit s
  | .historyCommit => Sys2Proof.Machine.execHistoryCommit s
  | .autoCalibration => Sys2Proof.Machine.execAutoCalibration s
  | .calibrationTakesEffect => Sys2Proof.Machine.execCalibrationTakesEffect s
  | .axleEnableWrite m n v => Sys2Proof.Machine.execAxleEnableWrite m n v s
  | .bandSearchDone n found band fine => Sys2Proof.Machine.execBandSearchDone n found band fine s
  | .injectionLockHeld n => Sys2Proof.Machine.execInjectionLockHeld n s
  | .pullinTimeout n => Sys2Proof.Machine.execPullinTimeout n s
  | .dllLocked n => Sys2Proof.Machine.execDllLocked n s
  | .dllHoldWrite m n v => Sys2Proof.Machine.execDllHoldWrite m n v s
  | .lossOfLock n => Sys2Proof.Machine.execLossOfLock n s
  | .hop m n v => Sys2Proof.Machine.execHop m n v s
  | .search m n v => Sys2Proof.Machine.execSearch m n v s
  | .fwordHiWrite m n v => Sys2Proof.Machine.execFwordHiWrite m n v s
  | .stepHiWrite m n v => Sys2Proof.Machine.execStepHiWrite m n v s
  | .stepDone n => Sys2Proof.Machine.execStepDone n s
  | .stepAbort m n v => Sys2Proof.Machine.execStepAbort m n v s
  | .bandHiWrite m n k v => Sys2Proof.Machine.execBandHiWrite m n k v s
  | .ax0LossOfLock => Sys2Proof.Machine.execAx0LossOfLock s
  | .fineCopy n fine => Sys2Proof.Machine.execFineCopy n fine s
  | .outputEnableWrite m n v => Sys2Proof.Machine.execOutputEnableWrite m n v s
  | .outputStart n => Sys2Proof.Machine.execOutputStart n s
  | .phaseHiWrite m n v => Sys2Proof.Machine.execPhaseHiWrite m n v s
  | .outputDivChange n => Sys2Proof.Machine.execOutputDivChange n s
  | .incHiWrite m d v => Sys2Proof.Machine.execIncHiWrite m d v s
  | .set m d v => Sys2Proof.Machine.execSet m d v s
  | .step m d v => Sys2Proof.Machine.execStep m d v s
  | .setSec m d v => Sys2Proof.Machine.execSetSec m d v s
  | .secondBoundary d => Sys2Proof.Machine.execSecondBoundary d s
  | .snapshot m v => Sys2Proof.Machine.execSnapshot m v s
  | .servedRevert => Sys2Proof.Machine.execServedRevert s
  | .targetHiWrite m d v => Sys2Proof.Machine.execTargetHiWrite m d v s
  | .gaugeEnableWrite m n v => Sys2Proof.Machine.execGaugeEnableWrite m n v s
  | .startEdge n src e => Sys2Proof.Machine.execStartEdge n src e s
  | .stopEdge n src e => Sys2Proof.Machine.execStopEdge n src e s
  | .conversionComplete n => Sys2Proof.Machine.execConversionComplete n s
  | .tollgateClose n => Sys2Proof.Machine.execTollgateClose n s
  | .statStart m n v => Sys2Proof.Machine.execStatStart m n v s
  | .statAbort m n v => Sys2Proof.Machine.execStatAbort m n v s
  | .laneCalibrationPath p tx samples => Sys2Proof.Machine.execLaneCalibrationPath p tx samples s
  | .calOkSet p => Sys2Proof.Machine.execCalOkSet p s
  | .sessionEnableWrite m k v => Sys2Proof.Machine.execSessionEnableWrite m k v s
  | .rebind m k v => Sys2Proof.Machine.execRebind m k v s
  | .syncTransmit k => Sys2Proof.Machine.execSyncTransmit k s
  | .delayReqTransmit k => Sys2Proof.Machine.execDelayReqTransmit k s
  | .syncReceive k msg => Sys2Proof.Machine.execSyncReceive k msg s
  | .delayReqReceive k msg => Sys2Proof.Machine.execDelayReqReceive k msg s
  | .delayRespReceive k msg => Sys2Proof.Machine.execDelayRespReceive k msg s
  | .pdelayReqReceive k msg => Sys2Proof.Machine.execPdelayReqReceive k msg s
  | .pdelayRespReceive k msg => Sys2Proof.Machine.execPdelayRespReceive k msg s
  | .delayRespTimeout k => Sys2Proof.Machine.execDelayRespTimeout k s
  | .syncTimeout k => Sys2Proof.Machine.execSyncTimeout k s
  | .txtsPop m => Sys2Proof.Machine.execTxtsPop m s
  | .esmcPduReceive p ssm essm => Sys2Proof.Machine.execEsmcPduReceive p ssm essm s
  | .esmcTimeout p => Sys2Proof.Machine.execEsmcTimeout p s
  | .esmcInfoTransmit => Sys2Proof.Machine.execEsmcInfoTransmit s
  | .esmcEventTransmit => Sys2Proof.Machine.execEsmcEventTransmit s
  | .cplPortEnableWrite m p v => Sys2Proof.Machine.execCplPortEnableWrite m p v s
  | .helloReceive p bytes => Sys2Proof.Machine.execHelloReceive p bytes s
  | .helloTransmit p => Sys2Proof.Machine.execHelloTransmit p s
  | .markerDue p => Sys2Proof.Machine.execMarkerDue p s
  | .markerNotSent p => Sys2Proof.Machine.execMarkerNotSent p s
  | .couplingMessageReceive p blocks m => Sys2Proof.Machine.execCouplingMessageReceive p blocks m s
  | .missLimit p => Sys2Proof.Machine.execMissLimit p s
  | .transfer m l v => Sys2Proof.Machine.execTransfer m l v s
  | .cplNodeWrite m v => Sys2Proof.Machine.execCplNodeWrite m v s
  | .portCfgWrite m p v => Sys2Proof.Machine.execPortCfgWrite m p v s
  | .pcsLockGained p lf rf => Sys2Proof.Machine.execPcsLockGained p lf rf s
  | .pcsLockLost p why => Sys2Proof.Machine.execPcsLockLost p why s
  | .downHoldExpiry p => Sys2Proof.Machine.execDownHoldExpiry p s
  | .anComplete p lp => Sys2Proof.Machine.execAnComplete p lp s
  | .anRestart m p v => Sys2Proof.Machine.execAnRestart m p v s
  | .anFallback p => Sys2Proof.Machine.execAnFallback p s
  | .anRetry p => Sys2Proof.Machine.execAnRetry p s
  | .frameReceive p head m => Sys2Proof.Machine.execFrameReceive p head m s
  | .frameTailArrival p bytes kind frags errs => Sys2Proof.Machine.execFrameTailArrival p bytes kind frags errs s
  | .pauseReceive p bytes => Sys2Proof.Machine.execPauseReceive p bytes s
  | .pauseQuantaExpiry p c => Sys2Proof.Machine.execPauseQuantaExpiry p c s
  | .verifyTimer p answered => Sys2Proof.Machine.execVerifyTimer p answered s
  | .clearPortCounters m p v => Sys2Proof.Machine.execClearPortCounters m p v s
  | .i2cTransferStart m bus v => Sys2Proof.Machine.execI2cTransferStart m bus v s
  | .i2cTransferDone bus result bytes => Sys2Proof.Machine.execI2cTransferDone bus result bytes s
  | .modulePoll p => Sys2Proof.Machine.execModulePoll p s
  | .tableRead m v => Sys2Proof.Machine.execTableRead m v s
  | .tableWriteOp m v => Sys2Proof.Machine.execTableWriteOp m v s
  | .tableInsert m v => Sys2Proof.Machine.execTableInsert m v s
  | .tableDelete m v => Sys2Proof.Machine.execTableDelete m v s
  | .tableLookup m v => Sys2Proof.Machine.execTableLookup m v s
  | .tableFlush m v => Sys2Proof.Machine.execTableFlush m v s
  | .ageingSweep => Sys2Proof.Machine.execAgeingSweep s
  | .pauseResend p => Sys2Proof.Machine.execPauseResend p s
  | .pauseWatchdog o c => Sys2Proof.Machine.execPauseWatchdog o c s
  | .pauseWatchdogEnd o c => Sys2Proof.Machine.execPauseWatchdogEnd o c s
  | .graceExpiry o => Sys2Proof.Machine.execGraceExpiry o s
  | .flushComplete o => Sys2Proof.Machine.execFlushComplete o s
  | .bufClearCounts m v => Sys2Proof.Machine.execBufClearCounts m v s
  | .turntableIteration => Sys2Proof.Machine.execTurntableIteration s
  | .promotion d o c => Sys2Proof.Machine.execPromotion d o c s
  | .slotStart o => Sys2Proof.Machine.execSlotStart o s
  | .mailFetch o => Sys2Proof.Machine.execMailFetch o s
  | .holdAssert o => Sys2Proof.Machine.execHoldAssert o s
  | .mailDeparture o shifted => Sys2Proof.Machine.execMailDeparture o shifted s
  | .resequencerGapTimeout o => Sys2Proof.Machine.execResequencerGapTimeout o s
  | .streamIdle inp o c => Sys2Proof.Machine.execStreamIdle inp o c s
  | .gclChange m o v => Sys2Proof.Machine.execGclChange m o v s
  | .gclSwap o => Sys2Proof.Machine.execGclSwap o s
  | .schClearCounts m v => Sys2Proof.Machine.execSchClearCounts m v s
  | .mirrorEnableWrite m v => Sys2Proof.Machine.execMirrorEnableWrite m v s
  | .mirrorRecordWrite => Sys2Proof.Machine.execMirrorRecordWrite s
  | .ringRdWrite m v => Sys2Proof.Machine.execRingRdWrite m v s
  | .mirrorHoldTimer => Sys2Proof.Machine.execMirrorHoldTimer s
  | .mirrorDmaError => Sys2Proof.Machine.execMirrorDmaError s
  | .mirClearCounts m v => Sys2Proof.Machine.execMirClearCounts m v s
  | .nvReadOp m v => Sys2Proof.Machine.execNvReadOp m v s
  | .nvWriteOp m v => Sys2Proof.Machine.execNvWriteOp m v s
  | .nvCommitOp m v => Sys2Proof.Machine.execNvCommitOp m v s
  | .nvDiscardOp m v => Sys2Proof.Machine.execNvDiscardOp m v s
  | .nvHotSaveOp m v => Sys2Proof.Machine.execNvHotSaveOp m v s
  | .commitDone => Sys2Proof.Machine.execCommitDone s
  | .hotSaveDone => Sys2Proof.Machine.execHotSaveDone s
  | .supplyLoss torn => Sys2Proof.Machine.execSupplyLoss torn s
  | .pfwNFall widthNs => Sys2Proof.Machine.execPfwNFall widthNs s
  | .pfwNClear => Sys2Proof.Machine.execPfwNClear s
  | .protectWrite m v => Sys2Proof.Machine.execProtectWrite m v s
  | .sendW0Write m n e v => Sys2Proof.Machine.execSendW0Write m n e v s
  | .release m n e v => Sys2Proof.Machine.execRelease m n e v s
  | .endReset m n e v => Sys2Proof.Machine.execEndReset m n e v s
  | .pcieFunctionReset => Sys2Proof.Machine.execPcieFunctionReset s
  | .coreWatchdogExpiry core => Sys2Proof.Machine.execCoreWatchdogExpiry core s
  | .coreReady core => Sys2Proof.Machine.execCoreReady core s
  | .commandTake => Sys2Proof.Machine.execCommandTake s
  | .responsePost mb => Sys2Proof.Machine.execResponsePost mb s
  | .sysInfo mb => Sys2Proof.Machine.execSysInfo mb s
  | .reset mb => Sys2Proof.Machine.execReset mb s
  | .deferredAction => Sys2Proof.Machine.execDeferredAction s
  | .setEvents mb => Sys2Proof.Machine.execSetEvents mb s
  | .callExtension mb ret => Sys2Proof.Machine.execCallExtension mb ret s
  | .extensionTimeout mb => Sys2Proof.Machine.execExtensionTimeout mb s
  | .fuseProgram mb reads => Sys2Proof.Machine.execFuseProgram mb reads s
  | .refStatus mb => Sys2Proof.Machine.execRefStatus mb s
  | .selStatus mb => Sys2Proof.Machine.execSelStatus mb s
  | .selManual mb => Sys2Proof.Machine.execSelManual mb s
  | .loopStatus mb => Sys2Proof.Machine.execLoopStatus mb s
  | .loopSample mb => Sys2Proof.Machine.execLoopSample mb s
  | .setCal mb => Sys2Proof.Machine.execSetCal mb s
  | .clearModel mb => Sys2Proof.Machine.execClearModel mb s
  | .holdStatus mb => Sys2Proof.Machine.execHoldStatus mb s
  | .outStatus mb => Sys2Proof.Machine.execOutStatus mb s
  | .outEnable mb => Sys2Proof.Machine.execOutEnable mb s
  | .timeRead mb => Sys2Proof.Machine.execTimeRead mb s
  | .timeSetSec mb => Sys2Proof.Machine.execTimeSetSec mb s
  | .gaugeRun mb => Sys2Proof.Machine.execGaugeRun mb s
  | .sessL2 mb => Sys2Proof.Machine.execSessL2 mb s
  | .sessIp mb => Sys2Proof.Machine.execSessIp mb s
  | .ptpProfile mb => Sys2Proof.Machine.execPtpProfile mb s
  | .ptpPortDs mb => Sys2Proof.Machine.execPtpPortDs mb s
  | .cplStatus mb => Sys2Proof.Machine.execCplStatus mb s
  | .portStatus mb => Sys2Proof.Machine.execPortStatus mb s
  | .moduleRead mb => Sys2Proof.Machine.execModuleRead mb s
  | .macFlush mb => Sys2Proof.Machine.execMacFlush mb s
  | .macLookup mb => Sys2Proof.Machine.execMacLookup mb s
  | .tableWrite mb => Sys2Proof.Machine.execTableWrite mb s
  | .nvRead mb => Sys2Proof.Machine.execNvRead mb s
  | .nvWrite mb => Sys2Proof.Machine.execNvWrite mb s
  | .nvCommit mb => Sys2Proof.Machine.execNvCommit mb s
  | .hotUserWrite mb => Sys2Proof.Machine.execHotUserWrite mb s
  | .hotSave mb => Sys2Proof.Machine.execHotSave mb s
  | .faultLogRead mb => Sys2Proof.Machine.execFaultLogRead mb s
  | .powerState mb => Sys2Proof.Machine.execPowerState mb s
  | .thermalStatus mb => Sys2Proof.Machine.execThermalStatus mb s
  | .spiWriteWord dev addr v => Sys2Proof.Machine.execSpiWriteWord dev addr v s
  | .spiReadWord dev addr late => Sys2Proof.Machine.execSpiReadWord dev addr late s
  | .spiFrameEnd dev partialWord => Sys2Proof.Machine.execSpiFrameEnd dev partialWord s
  | .i2cWriteWord dev addr v => Sys2Proof.Machine.execI2cWriteWord dev addr v s
  | .i2cReadWord dev addr late => Sys2Proof.Machine.execI2cReadWord dev addr late s
  | .i2cTransactionEnd dev partialWord => Sys2Proof.Machine.execI2cTransactionEnd dev partialWord s
  | .pcieRequest write addr words enables => Sys2Proof.Machine.execPcieRequest write addr words enables s
  | .jtagUpdateDr dr => Sys2Proof.Machine.execJtagUpdateDr dr s
  | .jtagCaptureDr => Sys2Proof.Machine.execJtagCaptureDr s
  | .packetRx => Sys2Proof.Machine.execPacketRx s
  | .packetTx desc bytes => Sys2Proof.Machine.execPacketTx desc bytes s
  | .ringDmaError r => Sys2Proof.Machine.execRingDmaError r s
  | .ringLenWrite m r v => Sys2Proof.Machine.execRingLenWrite m r v s
  | .msixSend cause masked => Sys2Proof.Machine.execMsixSend cause masked s
  | .pcieLinkUp masks => Sys2Proof.Machine.execPcieLinkUp masks s
  | .faultReset => Sys2Proof.Machine.execFaultReset s
  | .faultNPulseEnd => Sys2Proof.Machine.execFaultNPulseEnd s
  | .clearFirst m v => Sys2Proof.Machine.execClearFirst m v s
  | .sqRelease m v => Sys2Proof.Machine.execSqRelease m v s
  | .nvlogPageCommit => Sys2Proof.Machine.execNvlogPageCommit s
  | .temperatureReading readings => Sys2Proof.Machine.execTemperatureReading readings s
  | .railExcursion rail high => Sys2Proof.Machine.execRailExcursion rail high s
  | .railExcursionEnd rail high => Sys2Proof.Machine.execRailExcursionEnd rail high s
  | .powerRequest m v => Sys2Proof.Machine.execPowerRequest m v s
  | .powerEntryComplete => Sys2Proof.Machine.execPowerEntryComplete s
  | .wakeN widthNs => Sys2Proof.Machine.execWakeN widthNs s
  | .wakeTimer => Sys2Proof.Machine.execWakeTimer s
  | .spiCsNWake => Sys2Proof.Machine.execSpiCsNWake s
  | .vigilXoLoss frequency => Sys2Proof.Machine.execVigilXoLoss frequency s
  | .powerExitComplete => Sys2Proof.Machine.execPowerExitComplete s
  | .governorReading => Sys2Proof.Machine.execGovernorReading s
  | .shedTimer => Sys2Proof.Machine.execShedTimer s
  | .tokenGain => Sys2Proof.Machine.execTokenGain s
  | .wearPeriodEnd => Sys2Proof.Machine.execWearPeriodEnd s
  | .xoMonitorWindow active hz count => Sys2Proof.Machine.execXoMonitorWindow active hz count s
  | .frameTransmitEnd o => Sys2Proof.Machine.execFrameTransmitEnd o s
  | .gateBoundary o => Sys2Proof.Machine.execGateBoundary o s
  | .buildOutBleedEnd l => Sys2Proof.Machine.execBuildOutBleedEnd l s
  | .servedSlewEnd => Sys2Proof.Machine.execServedSlewEnd s
  | .feedBleedEnd l => Sys2Proof.Machine.execFeedBleedEnd l s
  | .announceTransmit domain => Sys2Proof.Machine.execAnnounceTransmit domain s

end Sys2Proof.Machine
end

