-- ==== Sys2Proof/Machine/Tick.lean ====
section
/-! DEFINITION. One cycle of the time base (R35): what the spec's counters, accumulators and bleeds do in every cycle, whatever is
commanded. -/

namespace Sys2Proof.Machine

/-- A cycle in VIGIL (R236): counter A counts on the XO, and stands still once the XO is lost there (R76) (DESIGN CHOICE, log
entry 1; DESIGN CHOICE, log entry 79). -/
def State.vigilTick (s : State) : State :=
  if s.pwr.xoWake ≠ 0 ∨ (s.switchBusy 2).isSome then s
  else (s.countTime 0 (s.srcFactor 1 * ((s.dom 0).inc : Nat)).floor.toNat).snapEnd

/-- What a cycle does on the time base: outputs (R213 to R219), CLKOUT (R88), counters (R228), edge generators (R195), loops and ramps
(R139, R153, R156, R159), bleeds (R135, R299), feeds, gauges (R254), served time (R241, R244), the loader's FIFO (R51), the NV store
(R396, R400), a table operation that completes (R337) (DESIGN CHOICE, log entry 1). -/
def State.countCycle (s : State) : State :=
  let s := s.each (List.range 24) State.outTick
  let s := s.clkTick.advance (s.domSrc 2) 1
  let s := s.each [0, 1, 2, 3] State.axleTick
  let s := s.each [0, 1, 2, 3] State.loopTick
  let s := s.each [0, 1, 2, 3] State.bleedTick
  let s := s.each [0, 1, 2, 3] State.feedTick
  let s := s.each (List.range 64) fun n => State.gaugePass n (2048 * (s.cyc + 1))
  (s.servedTick.servedEval.offerEval.snapEnd).fifoTick.nvTick.set FWD_TBL_CMD_BUSY 0

/-- A cycle in RUN, LEAN or KEEP: the comparison of a 100 ms tick comes after all that happened in the cycle (R130); a switch of the
time base leaves it without edges (R82). What another block sees one cycle later is passed on as the next begins (R201, R220)
(DESIGN CHOICE, log entry 1). -/
def State.rootTick (s : State) : State :=
  if (s.switchBusy 2).isSome then s else
  let s := (s.each [0, 1, 2, 3] State.selCompare).countCycle
  let s := { s with cyc := s.cyc + 1 }
  (s.each [1, 2, 3] State.squelchDue).showLoops

/-- The PORT_SHUT reaction (R475): ENABLE of the output port that the instance names is written 0. -/
def State.portShut (o : Nat) (s : State) : State := s.when (decide (o < 48)) (State.portOff o)

/-- One cycle: before the root runs and in DORMANT nothing counts (R49, R489) (DESIGN CHOICE, log entry 1). -/
def State.tick (s : State) : State :=
  if !s.boot.root then s
  else match s.pwr.state with
    | .dormant => s
    | .vigil => s.vigilTick
    | _ => (s.faultsLogged State.portShut).rootTick

end Sys2Proof.Machine
end

