-- ==== Sys2Proof/WellFormed.lean ====
section
/-! DEFINITION. Which commands are well formed: every unit number names a unit the spec gives the device, every address lies in
the 24-bit space at a whole word (R6, R26), and every list has the length its command states. -/

namespace Sys2Proof

/-- Are the readings those of an edge: c1 < r ≤ c2, so that 1 < v ≤ 2 cycles (R253)? -/
def edgeOk (e : Edge) : Bool := decide (2 ≤ e.m ∧ e.c1 < e.r ∧ e.r ≤ e.c2)

/-- Is a command well formed? -/
def Instr.wf (i : Instr) : Bool :=
  match i with
  | .registerWrite _ addr _ => decide (addr < 2 ^ 24 ∧ addr % 4 = 0)
  | .rcRead _ addr => decide (addr < 2 ^ 24 ∧ addr % 4 = 0)
  | .multiWordLowRead _ addr => decide (addr < 2 ^ 24 ∧ addr % 4 = 0)
  | .resetNAssert _ => true
  | .resetNRelease straps => decide (straps < 1024)
  | .xoJudgementDone _ _ _ => true
  | .rootRuns => true
  | .discoverDone _ _ => true
  | .bootDataWrite _ _ => true
  | .headerReceived _ => true
  | .imageFetched _ => true
  | .verifyDone => true
  | .segmentApply => true
  | .waitSegmentTimeout => true
  | .applyDone => true
  | .restart _ _ => true
  | .enterWorkshop mb => decide (mb < 4)
  | .leadLoopWrite _ _ => true
  | .xoActivityLoss => true
  | .xoFrequencyLoss _ _ => true
  | .failoverLock => true
  | .xoReturnRequest _ _ => true
  | .xoReturnLock _ => true
  | .gateRequest _ _ => true
  | .gateTakesEffect bit => decide (bit < 23)
  | .forcedGate bit _ => decide (bit < 23)
  | .gateOpen bit => decide (bit < 23)
  | .domainSourceWrite _ _ => true
  | .switchComplete dom => decide (dom < 7)
  | .switchForced dom => decide (dom < 7)
  | .switchAbandoned dom => decide (dom < 7)
  | .switchRetry dom => decide (dom < 7)
  | .clkoutWrite _ _ => true
  | .refEnableWrite _ n _ => decide (n < 64)
  | .overrideWrite _ n _ => decide (n < 64)
  | .tappedEdge n e _ => decide (n < 64) && edgeOk e
  | .activityLoss n _ => decide (n < 64)
  | .refTick100ms _ => true
  | .refTick1s _ => true
  | .qualificationWaitEnd n => decide (n < 64)
  | .todSentence _ _ => true
  | .todLineTransmit => true
  | .changeoverComplete l => decide (l < 4)
  | .forcedRefNoEdge l => decide (l < 4)
  | .alignHiWrite _ l _ => decide (l < 4)
  | .loopUpdate l => decide (l < 4)
  | .loopStepComplete l => decide (l < 4)
  | .sourceLost l => decide (l < 4)
  | .loopEnableWrite _ l _ => decide (l < 4)
  | .forceWrite _ l _ => decide (l < 4)
  | .rampStart _ l _ => decide (l < 4)
  | .rampAbort _ l _ => decide (l < 4)
  | .rampDone l => decide (l < 4)
  | .observation => true
  | .tempSensorRead => true
  | .tempReadTimeout => true
  | .clear _ _ => true
  | .clearCommitDone => true
  | .holdoverTick => true
  | .spragExpiry l => decide (l < 4)
  | .modelCommit => true
  | .historyCommit => true
  | .autoCalibration => true
  | .calibrationTakesEffect => true
  | .axleEnableWrite _ n _ => decide (n < 4)
  | .bandSearchDone n _ band fine => decide (n < 4 ∧ band < 16 ∧ fine < 256)
  | .injectionLockHeld n => decide (n < 4)
  | .pullinTimeout n => decide (n < 4)
  | .dllLocked n => decide (n < 4)
  | .dllHoldWrite _ n _ => decide (n < 4)
  | .lossOfLock n => decide (n < 4)
  | .hop _ n _ => decide (n < 4)
  | .search _ n _ => decide (n < 4)
  | .fwordHiWrite _ n _ => decide (n < 4)
  | .stepHiWrite _ n _ => decide (n < 4)
  | .stepDone n => decide (n < 4)
  | .stepAbort _ n _ => decide (n < 4)
  | .bandHiWrite _ n k _ => decide (1 ≤ n ∧ n < 4 ∧ k < 16)
  | .ax0LossOfLock => true
  | .fineCopy n _ => decide (n < 4)
  | .outputEnableWrite _ n _ => decide (n < 24)
  | .outputStart n => decide (n < 24)
  | .phaseHiWrite _ n _ => decide (n < 24)
  | .outputDivChange n => decide (n < 24)
  | .incHiWrite _ d _ => decide (d < 2)
  | .set _ d _ => decide (d < 2)
  | .step _ d _ => decide (d < 2)
  | .setSec _ d _ => decide (d < 2)
  | .secondBoundary d => decide (d < 2)
  | .snapshot _ _ => true
  | .servedRevert => true
  | .targetHiWrite _ d _ => decide (d < 2)
  | .gaugeEnableWrite _ n _ => decide (n < 64)
  | .startEdge n src e => decide (n < 64) && decide (src < 0x63) && edgeOk e
  | .stopEdge n src e => decide (n < 64) && decide (src < 0x63) && edgeOk e
  | .conversionComplete n => decide (n < 64)
  | .tollgateClose n => decide (n < 64)
  | .statStart _ n _ => decide (n < 64)
  | .statAbort _ n _ => decide (n < 64)
  | .laneCalibrationPath p _ _ => decide (p < 48)
  | .calOkSet p => decide (p < 48)
  | .sessionEnableWrite _ k _ => decide (k < 192)
  | .rebind _ k _ => decide (k < 192)
  | .syncTransmit k => decide (k < 192)
  | .delayReqTransmit k => decide (k < 192)
  | .syncReceive k _ => decide (k < 192)
  | .delayReqReceive k _ => decide (k < 192)
  | .delayRespReceive k _ => decide (k < 192)
  | .pdelayReqReceive k _ => decide (k < 192)
  | .pdelayRespReceive k _ => decide (k < 192)
  | .delayRespTimeout k => decide (k < 192)
  | .syncTimeout k => decide (k < 192)
  | .txtsPop _ => true
  | .esmcPduReceive p _ _ => decide (p < 48)
  | .esmcTimeout p => decide (p < 48)
  | .esmcInfoTransmit => true
  | .esmcEventTransmit => true
  | .cplPortEnableWrite _ p _ => decide (p < 48)
  | .helloReceive p _ => decide (p < 48)
  | .helloTransmit p => decide (p < 48)
  | .markerDue p => decide (p < 48)
  | .markerNotSent p => decide (p < 48)
  | .couplingMessageReceive p _ _ => decide (p < 48)
  | .missLimit p => decide (p < 48)
  | .transfer _ l _ => decide (l < 4)
  | .cplNodeWrite _ _ => true
  | .portCfgWrite _ p _ => decide (p < 48)
  | .pcsLockGained p _ _ => decide (p < 48)
  | .pcsLockLost p _ => decide (p < 48)
  | .downHoldExpiry p => decide (p < 48)
  | .anComplete p _ => decide (p < 48)
  | .anRestart _ p _ => decide (p < 48)
  | .anFallback p => decide (p < 48)
  | .anRetry p => decide (p < 48)
  | .frameReceive p _ _ => decide (p < 48)
  | .frameTailArrival p _ _ _ _ => decide (p < 48)
  | .pauseReceive p _ => decide (p < 48)
  | .pauseQuantaExpiry p c => decide (p < 48 ∧ c < 8)
  | .verifyTimer p _ => decide (p < 48)
  | .clearPortCounters _ p _ => decide (p < 48)
  | .i2cTransferStart _ bus _ => decide (bus < 4)
  | .i2cTransferDone bus _ _ => decide (bus < 4)
  | .modulePoll p => decide (p < 48)
  | .tableRead _ _ => true
  | .tableWriteOp _ _ => true
  | .tableInsert _ _ => true
  | .tableDelete _ _ => true
  | .tableLookup _ _ => true
  | .tableFlush _ _ => true
  | .ageingSweep => true
  | .pauseResend p => decide (p < 48)
  | .pauseWatchdog o c => decide (o < 48 ∧ c < 8)
  | .pauseWatchdogEnd o c => decide (o < 48 ∧ c < 8)
  | .graceExpiry o => decide (o < 48)
  | .flushComplete o => decide (o < 48)
  | .bufClearCounts _ _ => true
  | .turntableIteration => true
  | .promotion d o c => decide (d < 4 ∧ o < 50 ∧ c < 8)
  | .slotStart o => decide (o < 50)
  | .mailFetch o => decide (o < 48)
  | .holdAssert o => decide (o < 48)
  | .mailDeparture o _ => decide (o < 48)
  | .resequencerGapTimeout o => decide (o < 48)
  | .streamIdle i o c => decide (i < 50 ∧ o < 48 ∧ c < 8)
  | .gclChange _ o _ => decide (o < 48)
  | .gclSwap o => decide (o < 48)
  | .schClearCounts _ _ => true
  | .mirrorEnableWrite _ _ => true
  | .mirrorRecordWrite => true
  | .ringRdWrite _ _ => true
  | .mirrorHoldTimer => true
  | .mirrorDmaError => true
  | .mirClearCounts _ _ => true
  | .nvReadOp _ _ => true
  | .nvWriteOp _ _ => true
  | .nvCommitOp _ _ => true
  | .nvDiscardOp _ _ => true
  | .nvHotSaveOp _ _ => true
  | .commitDone => true
  | .hotSaveDone => true
  | .supplyLoss _ => true
  | .pfwNFall _ => true
  | .pfwNClear => true
  | .protectWrite _ _ => true
  | .sendW0Write _ n e _ => decide (n < 8 ∧ e < 2)
  | .release _ n e _ => decide (n < 8 ∧ e < 2)
  | .endReset _ n e _ => decide (n < 8 ∧ e < 2)
  | .pcieFunctionReset => true
  | .coreWatchdogExpiry core => decide (core < 2)
  | .coreReady core => decide (core < 2)
  | .commandTake => true
  | .responsePost mb => decide (mb < 4)
  | .sysInfo mb => decide (mb < 4)
  | .reset mb => decide (mb < 4)
  | .deferredAction => true
  | .setEvents mb => decide (mb < 4)
  | .callExtension mb ret => decide (mb < 4 ∧ ret.length ≤ 15)
  | .extensionTimeout mb => decide (mb < 4)
  | .fuseProgram mb _ => decide (mb < 4)
  | .refStatus mb => decide (mb < 4)
  | .selStatus mb => decide (mb < 4)
  | .selManual mb => decide (mb < 4)
  | .loopStatus mb => decide (mb < 4)
  | .loopSample mb => decide (mb < 4)
  | .setCal mb => decide (mb < 4)
  | .clearModel mb => decide (mb < 4)
  | .holdStatus mb => decide (mb < 4)
  | .outStatus mb => decide (mb < 4)
  | .outEnable mb => decide (mb < 4)
  | .timeRead mb => decide (mb < 4)
  | .timeSetSec mb => decide (mb < 4)
  | .gaugeRun mb => decide (mb < 4)
  | .sessL2 mb => decide (mb < 4)
  | .sessIp mb => decide (mb < 4)
  | .ptpProfile mb => decide (mb < 4)
  | .ptpPortDs mb => decide (mb < 4)
  | .cplStatus mb => decide (mb < 4)
  | .portStatus mb => decide (mb < 4)
  | .moduleRead mb => decide (mb < 4)
  | .macFlush mb => decide (mb < 4)
  | .macLookup mb => decide (mb < 4)
  | .tableWrite mb => decide (mb < 4)
  | .nvRead mb => decide (mb < 4)
  | .nvWrite mb => decide (mb < 4)
  | .nvCommit mb => decide (mb < 4)
  | .hotUserWrite mb => decide (mb < 4)
  | .hotSave mb => decide (mb < 4)
  | .faultLogRead mb => decide (mb < 4)
  | .powerState mb => decide (mb < 4)
  | .thermalStatus mb => decide (mb < 4)
  | .spiWriteWord dev addr _ => decide (dev < 64 ∧ addr < 2 ^ 24 ∧ addr % 4 = 0)
  | .spiReadWord dev addr _ => decide (dev < 64 ∧ addr < 2 ^ 24 ∧ addr % 4 = 0)
  | .spiFrameEnd dev _ => decide (dev < 64)
  | .i2cWriteWord dev addr _ => decide (dev < 128 ∧ addr < 2 ^ 24 ∧ addr % 4 = 0)
  | .i2cReadWord dev addr _ => decide (dev < 128) && addr.all (fun a => decide (a < 2 ^ 24 ∧ a % 4 = 0))
  | .i2cTransactionEnd dev _ => decide (dev < 128)
  | .pcieRequest write addr words enables => decide (addr < 2 ^ 24 ∧ addr % 4 = 0 ∧ (write = true → words.length = enables.length))
  | .jtagUpdateDr dr => decide (dr < 2 ^ 58)
  | .jtagCaptureDr => true
  | .packetRx => true
  | .packetTx desc _ => decide (desc.length = 4)
  | .ringDmaError r => decide (r < 2)
  | .ringLenWrite _ r _ => decide (r < 2)
  | .msixSend cause _ => decide (cause < 10)
  | .pcieLinkUp _ => true
  | .faultReset => true
  | .faultNPulseEnd => true
  | .clearFirst _ _ => true
  | .sqRelease _ _ => true
  | .nvlogPageCommit => true
  | .temperatureReading readings => decide (readings.length = 8)
  | .railExcursion rail _ => decide (rail < 7)
  | .railExcursionEnd rail _ => decide (rail < 7)
  | .powerRequest _ _ => true
  | .powerEntryComplete => true
  | .wakeN _ => true
  | .wakeTimer => true
  | .spiCsNWake => true
  | .vigilXoLoss _ => true
  | .powerExitComplete => true
  | .governorReading => true
  | .shedTimer => true
  | .tokenGain => true
  | .wearPeriodEnd => true
  | .xoMonitorWindow _ _ _ => true
  | .frameTransmitEnd o => decide (o < 50 ∧ o ≠ 48)
  | .gateBoundary o => decide (o < 48)
  | .buildOutBleedEnd l => decide (l < 4)
  | .servedSlewEnd => true
  | .feedBleedEnd l => decide (l < 4)
  | .announceTransmit domain => decide (domain < 256)

end Sys2Proof
end

