-- ==== Sys2Proof/Machine/Step.lean ====
section
/-! DEFINITION. One step of the block: the command at the front of the queue, or one cycle of the time base. -/

namespace Sys2Proof.Machine

/-- One step: the oldest waiting command acts on the state with the rest of the queue; with none waiting, a cycle passes
(DESIGN CHOICE, log entries 1 and 5). -/
def step (s : State) : Host.Outcome State Fault Refusal :=
  match s.pending with
  | [] => .next s.tick
  | c :: rest => exec c { s with pending := rest }

/-- The state with the command a word spells in front of its queue: no word spells one (DESIGN CHOICE, log entry 7). -/
def State.withFetchWord (s : State) (nbits w : Nat) : State :=
  match decodeTableWord nbits w with
  | some c => { s with pending := c :: s.pending }
  | none => s

end Sys2Proof.Machine
end

