-- ==== Sys2Proof/Safety.lean ====
section
/-! DEFINITION. What a safe state is: every store in its one canonical form, so that equal contents are equal data. -/

namespace Sys2Proof.Machine

/-- The register file lists addresses that rise, and no word that equals its register's Reset value. -/
def State.regsWf (s : State) : Bool := smWf resetWord s.regs

/-- The NV array lists octets that are not 0, at addresses that rise. -/
def State.arrayWf (s : State) : Bool := smWf (fun _ => (default : Octet)) s.nvs.array

/-- Both stores are canonical. -/
def State.wf (s : State) : Bool := s.regsWf && s.arrayWf

end Sys2Proof.Machine
end

