-- ==== Sys2Proof/Certificates/Slice0/Obligations.lean ====
section
/-! DEFINITION. The statements for the provers. The first sixteen are about the whole machine and single rules; the others say,
family by family, what each command comes to: every command of the table stands in some clause that concludes
`exec … = .next …`. -/

open Sys2Proof Sys2Proof.Machine

/-- A step takes the command at the front of the queue and runs it on the state with the rest (the block's own step). The
model's choices it rests on: log entry 7. -/
def Obligations.StepRunsTheOldestCommand : Prop :=
  ∀ (s : State) (c : Instr) (rest : List Instr), s.pending = c :: rest → step s = exec c { s with pending := rest }

/-- With no command waiting, one cycle of the time base passes: none in DORMANT, none before the root runs, and in VIGIL none
but of time counter A (log entry 1). -/
def Obligations.StepWithNothingWaiting : Prop :=
  (∀ s : State, s.pending = [] → step s = .next s.tick) ∧
  (∀ s : State, s.pending = [] → s.boot.root = false → step s = .next s) ∧
  (∀ s : State, s.pending = [] → s.pwr.state = .dormant → step s = .next s) ∧
  (∀ s : State, s.pending = [] → s.boot.root = true → (s.pwr.state = .run ∨ s.pwr.state = .lean ∨ s.pwr.state = .keep) →
    step s = .next (s.faultsLogged State.portShut).rootTick) ∧
  (∀ s : State, s.pending = [] → s.boot.root = true → s.pwr.state = .vigil → step s = .next s.vigilTick) ∧
  (∀ s : State, s.flt.heard = [] → s.faultsLogged State.portShut = s) ∧
  (∀ s : State, (s.switchBusy 2).isSome = true → s.rootTick = s ∧ s.vigilTick = s)

/-- The commands of one clock cycle act in the order of their places, and the faults of one cycle are logged by source, then
by instance; none is lost or added (R12, R29, R130, R177, R479). The model's choices it rests on: log entries 6, 65. -/
def Obligations.OrderWithinACycle : Prop :=
  (∀ (cs : List Instr) (s : State), s.arrive cs = { s with pending := s.pending ++ cycleOrder cs }) ∧
  (∀ cs : List Instr, (cycleOrder cs).Perm cs ∧ (cycleOrder cs).Pairwise fun c d => rank c ≤ rank d) ∧
  (∀ (cs : List Instr) (k : Nat), (cycleOrder cs).filter (fun c => rank c == k) = cs.filter fun c => rank c == k) ∧
  (∀ fs : List FaultReport, (sortFaults fs).Perm fs ∧
    (sortFaults fs).Pairwise fun f g => f.src < g.src ∨ (f.src = g.src ∧ f.inst ≤ g.inst))

/-- The machine right after reset: every register holds its Reset word, nothing waits, both stores are canonical. The
model's choices it rests on: log entry 3. -/
def Obligations.ResetState : Prop :=
  (∀ a : Nat, a ≠ GLB_LIV_REV → State.reset.rd a = resetWord a) ∧ State.reset.rd GLB_LIV_REV = 0x48160021#32 ∧ State.reset.pending = [] ∧ State.reset.wf = true ∧ State.reset.boot.root = false ∧
    State.reset.out = []

/-- Every command is carried out: it answers a next state, and leaves the commands that wait as they are. The model's
choices it rests on: log entries 4, 75. -/
def Obligations.EveryCommandCompletes : Prop :=
  ∀ (c : Instr) (s : State), ∃ t, exec c s = .next t ∧ t.pending = s.pending

/-- No step takes back what has left the device, and no step uses a free value a second time or turns the time base back.
The model's choices it rests on: log entries 2, 72. -/
def Obligations.NothingIsTakenBack : Prop :=
  ∀ s t : State, step s = .next t → s.out <:+ t.out ∧ s.free ≤ t.free ∧ (s.cyc ≤ t.cyc)

/-- Every step keeps the register file and the NV array in their one canonical form. The model's choices it rests on: log
entry 3. -/
def Obligations.CanonicalFormKept : Prop :=
  ∀ s t : State, s.wf = true → step s = .next t → t.wf = true

/-- An access to an address that holds no register (R9). -/
def Obligations.AddressesWithoutRegister : Prop :=
  (∀ (s : State) (m : Master) (a : Nat) (b : Block) (v : Word), s.boot.root = true → s.asleep = false → blockOf a = some b →
    regRow a = none → s.gatedAt a = false →
    exec (.rcRead m a) s = .next ((s.answer m (.data 0)).logFault 0x01 0 (some (m, false, a))) ∧
    exec (.registerWrite m a v) s = .next ((s.answer m .ok).logFault 0x01 0 (some (m, true, a)))) ∧
  (∀ (s : State) (m : Master) (a : Nat) (v : Word), s.boot.root = true → s.asleep = false → blockOf a = none →
    exec (.rcRead m a) s = .next ((s.errorReply m).logFault 0x01 0 (some (m, false, a))) ∧
    exec (.registerWrite m a v) s = .next ((s.errorReply m).logFault 0x01 0 (some (m, true, a)))) ∧
  faultClass 0x01 0 = 2

/-- An access to a P register without privilege (R14). -/
def Obligations.UnprivilegedAccesses : Prop :=
  (∀ (s : State) (m : Master) (a : Nat) (r : RegRow) (v : Word), s.boot.root = true → s.asleep = false → regRow a = some r →
    r.priv = true → s.privileged m = false → s.gatedAt a = false →
    exec (.rcRead m a) s = .next (s.answer m (.data 0)) ∧
    exec (.registerWrite m a v) s = .next ((s.answer m .ok).logFault 0x02 0 (some (m, true, a)))) ∧
  faultClass 0x02 0 = 2

/-- How long RESET_N must be low (R45). -/
def Obligations.ResetPulseLengths : Prop :=
  (∀ (s : State) (width : Nat), width < 500 → exec (.resetNAssert width) s = .next s) ∧
  (∀ (s : State) (width : Nat), 2000 ≤ width → ∃ t, exec (.resetNAssert width) s = .next t ∧ t.boot.held = true ∧
    t.regs = State.reset.regs) ∧
  (∀ (s : State) (width : Nat), 500 ≤ width → width < 2000 → ∃ t, exec (.resetNAssert width) s = .next t ∧
    (t = s.useFree ∨ t.boot.held = true ∧ t.regs = State.reset.regs))

/-- A message longer than 15 words is not posted (R421). -/
def Obligations.OverlongMessage : Prop :=
  (∀ (s : State) (m : Master) (n e : Nat) (v : Word) (r : RegRow), n < 8 → e < 2 → s.verdict m (MBX_SEND_W0 n e) = .row r →
    s.mbxDown (MBX_SEND_W0 n e) = false → mbxOwner n e = some m → 15 < v.toNat % 256 →
    exec (.sendW0Write m n e v) s = .next (((s.answer m .ok).set (MBX_EVT_SEND_ERR n e) 1).logFault 0x04 0
      (some (m, true, MBX_SEND_W0 n e))) ∧
    ((s.answer m .ok).set (MBX_EVT_SEND_ERR n e) 1).mbx = s.mbx) ∧
  faultClass 0x04 0 = 2

/-- What a release does (R424). -/
def Obligations.ReleaseOfMessage : Prop :=
  (∀ (s : State) (m : Master) (n e : Nat) (v : Word) (r : RegRow) (x : Msg) (q : List Msg), n < 8 → e < 2 →
    s.verdict m (MBX_CTRL n e) = .row r → s.mbxDown (MBX_CTRL n e) = false → mbxOwner n e = some m → v.getLsbD 0 = true →
    v.getLsbD 1 = false → s.recvQueue n e = x :: q →
    (q ≠ [] → exec (.release m n e v) s = .next ((s.answer m .ok).setSendQueue n (1 - e) q)) ∧
    (q = [] → exec (.release m n e v) s = .next
      (((s.answer m .ok).setSendQueue n (1 - e) []).set (MBX_EVT_EMPTY n (1 - e)) 1)) ∧
    queueWords (s.recvQueue n e) = queueWords q + (1 + x.data.length)) ∧
  (∀ (s : State) (m : Master) (n e : Nat) (v : Word) (r : RegRow), n < 8 → e < 2 →
    s.verdict m (MBX_CTRL n e) = .row r → s.mbxDown (MBX_CTRL n e) = false → mbxOwner n e = some m → v.getLsbD 0 = true →
    v.getLsbD 1 = false → s.recvQueue n e = [] → exec (.release m n e v) s = .next (s.answer m .ok))

/-- The states in which the loader takes RESTART (R63). -/
def Obligations.RestartTaken : Prop :=
  (∀ (s : State) (m : Master) (v : Word) (r : RegRow), s.verdict m GLB_BOOT_CTRL = .row r → s.boot.loading = some m →
    v.getLsbD 0 = true → s.bootState = 2 →
    exec (.restart m v) s = .next ((s.answer m .ok).when s.boot.qspi State.firstSlot).fetchStart) ∧
  (∀ (s : State) (m : Master) (v : Word) (r : RegRow), s.verdict m GLB_BOOT_CTRL = .row r → s.boot.loading = some m →
    v.getLsbD 0 = true → s.bootState = 6 → s.get GLB_STRAPS_BOOT_SRC = 0 →
    exec (.restart m v) s = .next (s.answer m .ok).firstSlot.discoverStart) ∧
  (∀ (s : State) (m : Master) (v : Word) (r : RegRow), s.verdict m GLB_BOOT_CTRL = .row r → s.boot.loading = some m →
    v.getLsbD 0 = true → s.bootState = 6 → s.get GLB_STRAPS_BOOT_SRC ≠ 0 →
    exec (.restart m v) s = .next (State.fetchStart (s.answer m .ok))) ∧
  (∀ (s : State) (m : Master) (v : Word) (r : RegRow), s.verdict m GLB_BOOT_CTRL = .row r → s.boot.loading = some m →
    v.getLsbD 0 = true → s.bootState ≠ 2 → s.bootState ≠ 6 →
    exec (.restart m v) s = .next ((s.answer m .ok).logFault 0x04 0 (some (m, true, GLB_BOOT_CTRL)))) ∧
  faultClass 0x04 0 = 2 ∧
  (∀ (s : State) (width : Nat), 2000 ≤ width → ∃ t, exec (.resetNAssert width) s = .next t ∧ t.bootState = 0)

/-- What HOT_USER_WRITE writes (R454). -/
def Obligations.HotUserArea : Prop :=
  (∀ (s : State) (mb : Nat) (t : Taken) (bs : List Octet), s.fwRuns = true → s.request mb = some t → t.opcode = 0x0A04 →
    s.nvFree = true → requestOctets t.data (payload t.data 2).toNat = some bs → (payload t.data 1).toNat ≤ 491 →
    (payload t.data 2).toNat ≤ 52 → (payload t.data 1).toNat + (payload t.data 2).toNat ≤ 492 →
    ∃ u, exec (.hotUserWrite mb) s = .next u ∧ u = State.fwOk mb [] { s with nvs := { s.nvs with
      hot := smPutList s.nvs.hot (0x610 + (payload t.data 1).toNat) bs } } ∧ u.nvs.array = s.nvs.array) ∧
  (∀ (s : State) (mb : Nat) (t : Taken), s.fwRuns = true → s.request mb = some t → t.opcode = 0x0A04 →
    492 < (payload t.data 1).toNat + (payload t.data 2).toNat →
    ∃ w, exec (.hotUserWrite mb) s = .next (s.fwAnswer mb 3 w []))

/-- Which reads of a multi-word value have side effects (R465). -/
def Obligations.ReadsOfMultiWordValues : Prop :=
  (∀ (s : State) (m : Master) (a k low : Nat) (r : RegRow), s.verdict m a = .row r → blockOf a ≠ some .mbx →
    multiHigh a = some (low, k) →
    exec (.rcRead m a) s = .next (s.answer m (.data ((s.shadowOf m low).getD (k - 1) 0)))) ∧
  (∀ (s : State) (m : Master) (a : Nat), s.verdict m a = .denied →
    ∃ t, exec (.multiWordLowRead m a) s = .next t ∧ t = s.answer m (.data 0) ∧ t.hif.shadow = s.hif.shadow) ∧
  (∀ (s : State) (m : Master) (a n : Nat), s.verdict m a = .gated → multiHigh a = none → multiLow a = some n →
    exec (.multiWordLowRead m a) s = .next ((s.answer m (.data 0)).setShadow m a (List.replicate (n - 1) 0)))

/-- An error on a ring's memory access, and the rings while frames are stopped (R469). -/
def Obligations.RingErrorsAndStops : Prop :=
  (∀ (s : State) (r : Nat), r < 2 → s.boot.root = true → s.asleep = false → s.get (HIF_RING_LEN_LEN r) ≠ 0 →
    ∃ acc, exec (.ringDmaError r) s = .next (((((s.useFree.useFree.set (HIF_RING_LEN_LEN r) 0).set (HIF_RING_HEAD_HEAD r) 0).set
      (HIF_RING_TAIL_TAIL r) 0).set HIF_PKT_EVT_DMA_ERR 1).logFault 0x15 (1 + r) acc)) ∧
  (∀ r : Nat, r < 2 → faultClass 0x15 (1 + r) = 1) ∧
  (∀ (s : State) (desc : List Word) (bytes : List Octet), (s.gateIn 16 = true ∨ s.gateIn 17 = true ∨ s.gateIn 18 = true ∨
      s.pwr.state = .lean ∨ s.pwr.state = .keep) →
    exec .packetRx s = .next s ∧ exec (.packetTx desc bytes) s = .next s)

/-- A rail fault while a power failure is being saved (R486). -/
def Obligations.RailFaultsInPowerFailure : Prop :=
  ∀ (s : State) (rail : Nat) (high : Bool), rail < 7 → s.boot.root = true → s.asleep = false → s.regsWf = true → s.flt.seq < 65536 →
    s.flt.heard = [] → s.flt.rails.testBit (if high then 7 + rail else rail) = false → s.on NVS_STATUS_PFW_ACTIVE = true →
    ∃ t, exec (.railExcursion rail high) s = .next t ∧ t.nvs = s.nvs ∧ t.loops = s.loops ∧ t.outs = s.outs ∧ t.flt.log = s.flt.log ∧
      t.flt.heard = [⟨0x28 + rail, if high then 1 else 0, none⟩] ∧
      (let u := t.faultsLogged State.portShut
       (∃ e, u.flt.log = (e :: s.flt.log).take 256 ∧ e.w0.toNat / 2 ^ 24 = 0x28 + rail) ∧ u.flt.heard = [] ∧ u.flt.tail = s.flt.tail ∧
       u.flt.pulse = s.flt.pulse ∧ u.flt.resetCause = s.flt.resetCause ∧ u.flt.resetHeld = s.flt.resetHeld ∧ u.nvs = s.nvs ∧
       u.loops = s.loops ∧ u.outs = s.outs ∧ u.get FLT_EVT_IRQ = s.get FLT_EVT_IRQ ∧
       u.get FLT_STATUS_SQ_ACTIVE = s.get FLT_STATUS_SQ_ACTIVE)

/-- The XO judgement, the losses the monitor finds, the failover's lock, and the return to the XO (R71 to R75). The model's
choices it rests on: log entries 11, 12, 78. -/
def Obligations.XoCommandsComplete : Prop :=
  (∀ (s : State) (active : Bool) (hz c : Nat) (counts : List Nat), s.regsWf = true → s.boot.held = false →
    s.get GLB_BOOT_STATUS_STATE = 0 → s.get CGU_XO_STATUS_JUDGED = 0 → judgeCause active hz counts = 0 → xoCode hz = some c →
    ∃ t, exec (.xoJudgementDone active hz counts) s = .next t ∧ t.get CGU_XO_STATUS_JUDGED = 1 ∧ t.get CGU_XO_STATUS_JUDGE_OK = 1 ∧
      t.get CGU_XO_STATUS_XO_SRC = 1 ∧ t.get CGU_XO_STATUS_FREQ = c % 16 ∧ t.get CGU_XO_STATUS_JUDGE_CAUSE = 0 ∧
      t.cgu.refCount = counts.getLastD 40000 ∧ ∀ a, a ≠ CGU_XO_STATUS → t.rd a = s.rd a) ∧
  (∀ s : State, s.regsWf = true → s.watching = true → s.on CGU_XO_STATUS_XO_SRC = false →
    exec .xoActivityLoss s = .next (s.set CGU_XO_EVT_LOSS_ACT 1)) ∧
  (∀ s : State, s.regsWf = true → s.watching = true → s.on CGU_XO_STATUS_XO_SRC = true →
    ∃ t, exec .xoActivityLoss s = .next t ∧ t.cgu.coasting = true ∧ t.cgu.goodRun = 0) ∧
  (∀ (s : State) (c1 c2 : Nat), s.regsWf = true → s.watching = true → s.cgu.refCount ≠ 0 → windowOff s.cgu.refCount c1 = true →
    windowOff s.cgu.refCount c2 = true → s.on CGU_XO_STATUS_XO_SRC = true →
    ∃ t, exec (.xoFrequencyLoss c1 c2) s = .next t ∧ t.cgu.coasting = true ∧ t.cgu.goodRun = 0) ∧
  (∀ (s : State) (c1 c2 : Nat), windowOff s.cgu.refCount c1 = false → exec (.xoFrequencyLoss c1 c2) s = .next s) ∧
  (∀ s : State, exec .failoverLock s = .next { s with cgu := { s.cgu with coasting := false } }) ∧
  (∀ (s : State) (m : Master) (v w : Word) (r : RegRow), s.regsWf = true → s.verdict m CGU_XO_CTRL = .row r →
    writeFields r.fields (s.rd CGU_XO_CTRL) v = (w, false) → getBits w 0 1 = 1 → s.get CGU_XO_STATUS_XO_SRC = 0 →
    s.get CGU_XO_STATUS_XO_GOOD = 1 → 10000 * fieldOf CGU_XO_CTRL_GOOD_WAIT w ≤ s.cgu.goodRun →
    ∃ t, exec (.xoReturnRequest m v) s = .next t ∧ t.cgu = { s.cgu with returning := true } ∧ t.get CGU_XO_CTRL_RETURN = 0) ∧
  (∀ (s : State) (m : Master) (v w : Word) (r : RegRow), s.regsWf = true → s.verdict m CGU_XO_CTRL = .row r →
    writeFields r.fields (s.rd CGU_XO_CTRL) v = (w, false) → getBits w 0 1 = 1 → s.get CGU_XO_STATUS_XO_GOOD = 0 →
    ∃ t, exec (.xoReturnRequest m v) s = .next t ∧ t.cgu = s.cgu ∧ t.get CGU_XO_CTRL_RETURN = 0 ∧
      t.get CGU_XO_EVT_RETURN_REFUSED = 1) ∧
  (∀ (s : State) (count : Nat), s.cgu.returning = false → exec (.xoReturnLock count) s = .next s) ∧
  (∀ (s : State) (count : Nat) (o : Option Nat), s.cgu.returning = true → s.cgu.windows.head?.bind (fun w => xoCode w.hz) = o →
    let u := { s with cgu := { s.cgu with returning := false, refCount := count, lastCount := count } }
    let u := ((u.set CGU_XO_STATUS_XO_SRC 1).set GLB_STATUS_XO_INT 0).set CGU_XO_EVT_RETURN_DONE 1
    let u := u.setI CGU_XO_STATUS_OFFSET (xoOffsetWord (xoOffset [count]))
    let u := match o with | some c => u.set CGU_XO_STATUS_FREQ c | none => u
    let u := ((u.rootChange (-(rootDelta count))).refsFreeze).offerEval.learnBreakAll
    exec (.xoReturnLock count) s = .next (u.queueEvent 11 [u.rd CGU_XO_EVT])) ∧
  (∀ (s : State) (active : Bool) (hz count : Nat), s.regsWf = true → s.on CGU_XO_STATUS_JUDGED = true → s.pwr.state ≠ .dormant →
    ∃ t, exec (.xoMonitorWindow active hz count) s = .next t ∧
      t.cgu.windows = (⟨active, hz, count⟩ :: s.cgu.windows).take 10 ∧
      t.cgu.lastCount = (if active then count else s.cgu.lastCount) ∧
      t.get CGU_XO_STATUS_XO_GOOD = (if t.xoPasses then 1 else 0) ∧
      t.cgu.goodRun = (if t.xoPasses && s.on CGU_XO_STATUS_XO_GOOD then s.cgu.goodRun + 1 else 0) ∧
      ∀ a, a ≠ CGU_XO_STATUS → t.rd a = s.rd a)

/-- Gating, source switches and CLKOUT: what each command comes to, and CLKOUT as a wave (R78 to R89). The model's choices
it rests on: log entries 13, 14. -/
def Obligations.ClockCommandsComplete : Prop :=
  (∀ (s : State) (m : Master) (v w : Word) (r : RegRow), s.verdict m CGU_GATE = .row r →
    writeFields r.fields (s.rd CGU_GATE) v = (w, false) →
    exec (.gateRequest m v) s = .next ((s.answer m .ok).wr CGU_GATE w)) ∧
  (∀ (s : State) (b : Nat), b < 23 → s.gatesWanted.testBit b = true → s.gateIn b = false →
    let u := s.set CGU_GATE_STATUS_GATED (putBit (s.get CGU_GATE_STATUS_GATED) b true)
    exec (.gateTakesEffect b) s = .next (
      if b < 12 then u.each [0, 1, 2, 3] fun k t => t.portPark false (4 * b + k)
      else if b = 17 then u.timersGate true else if b = 22 then u.refLinesAll.phaseEvalAll else u)) ∧
  (∀ (s : State) (b : Nat), s.gatesWanted.testBit b = false → exec (.gateTakesEffect b) s = .next s) ∧
  (∀ (s : State) (b : Nat) (f : List InFlight), b < 23 → s.gatesWanted.testBit b = true → s.gateIn b = false →
    let u := f.foldl (fun t x => (t.errorReply x.m).logFault 0x05 0 (some (x.m, x.write, x.addr))) s
    exec (.forcedGate b f) s = .next ((u.set CGU_GATE_STATUS_FORCE_COUNT (u.get CGU_GATE_STATUS_FORCE_COUNT + 1)).gateShut b)) ∧
  (∀ (s : State) (b : Nat), s.gatesWanted.testBit b = false → s.gateIn b = true →
    let u := s.set CGU_GATE_STATUS_GATED (putBit (s.get CGU_GATE_STATUS_GATED) b false)
    exec (.gateOpen b) s = .next (
      if b < 12 then u.each [0, 1, 2, 3] fun k t => t.portUnpark (4 * b + k)
      else if b = 17 then (u.timersGate false).bufReopen
      else if b = 18 then u.each (List.range 48) State.gatesMove
      else if b = 22 then (u.each (List.range 64) State.gaugeFresh).refLinesAll.phaseEvalAll else u)) ∧
  (∀ (s : State) (m : Master) (v w : Word) (r : RegRow), s.regsWf = true → s.verdict m CGU_DOM_SRC = .row r → s.get GLB_STATUS_MODE = 5 →
    s.cgu.busy = [] → writeFields r.fields (s.rd CGU_DOM_SRC) v = (w, false) →
    ([1, 2, 3, 4].all fun d => fieldOf (domField d) w == s.domSrc d) = true → fieldOf CGU_DOM_SRC_CORE w ≠ s.get CGU_DOM_SRC_CORE →
    ∃ t, exec (.domainSourceWrite m v) s = .next t ∧ t.cgu.busy = [⟨0, s.get CGU_DOM_SRC_CORE, fieldOf CGU_DOM_SRC_CORE w, false⟩] ∧
      t.get CGU_DOM_SRC_CORE = fieldOf CGU_DOM_SRC_CORE w ∧ t.get CGU_SWITCH_STATUS_BUSY = 1) ∧
  (∀ (s : State) (d : Nat) (w : Switch), s.switchBusy d = some w → d ≠ 2 → w.dom = d →
    exec (.switchComplete d) s = .next ((s.switchOver d w.new).recordSwitch d 3 5 false false)) ∧
  (∀ (s : State) (d : Nat) (w : Switch), s.switchBusy d = some w → d ≠ 2 → w.dom = d →
    exec (.switchForced d) s = .next (((s.switchOver d w.new).recordSwitch d 0 0 true false).logFault 0x08 d none)) ∧
  (∀ (s : State) (w : Switch), s.switchBusy 2 = some w → w.dom = 2 → s.pwr.phase ≠ 3 →
    exec (.switchComplete 2) s = .next ((((s.switchOver 2 w.new).recordSwitch 2 3 5 false false).advance w.old 3).advance w.new 5) ∧
    exec (.switchForced 2) s = .next (((((s.switchOver 2 w.new).recordSwitch 2 0 0 true false).logFault 0x08 2 none).raise
      (TIM_EVT_SLIP_UNKNOWN 0)).raise (TIM_EVT_SLIP_UNKNOWN 1))) ∧
  (∀ (s : State) (d : Nat) (w : Switch), s.switchBusy d = some w → d < 6 → d ≠ 2 → w.dom = d →
    exec (.switchAbandoned d) s = .next ((s.switchOver d w.old).recordSwitch d 3 0 false true)) ∧
  (∀ s : State, s.switchBusy 6 = none → s.cgu.waiting = [] → s.cgu.retry ≠ [] → (∀ w ∈ s.cgu.retry, w.dom = 6) →
    ∃ t, exec (.switchRetry 6) s = .next t ∧ t.cgu.retry = [] ∧
      (s.cgu.laneSrc = (if s.on (AXL_STATUS_LANE_FB 1) then 0 else 1) → t.cgu.busy = s.cgu.busy) ∧
      (s.cgu.laneSrc ≠ (if s.on (AXL_STATUS_LANE_FB 1) then 0 else 1) →
        t.cgu.busy = ⟨6, s.cgu.laneSrc, if s.on (AXL_STATUS_LANE_FB 1) then 0 else 1, false⟩ :: s.cgu.busy)) ∧
  (∀ (s : State) (m : Master) (v w : Word) (r : RegRow), s.regsWf = true → s.verdict m CGU_CLKOUT = .row r →
    writeFields r.fields (s.rd CGU_CLKOUT) v = (w, false) → fieldOf CGU_CLKOUT_DIV v ≤ 65536 →
    (fieldOf CGU_CLKOUT_DIV v = 0 ∨ s.clkHz (fieldOf CGU_CLKOUT_SRC v) ≤ 250000000 * fieldOf CGU_CLKOUT_DIV v) →
    s.srcDue 5 = fieldOf CGU_CLKOUT_SRC v →
    ∃ t, exec (.clkoutWrite m v) s = .next t ∧ t.rd CGU_CLKOUT = w ∧ t.cgu = s.cgu ∧ ∀ a, a ≠ CGU_CLKOUT → t.rd a = s.rd a) ∧
  (∀ s : State, (s.switchBusy 5).isSome = true → s.clkPin = .low) ∧
  (∀ s : State, s.switchBusy 5 = none → s.cgu.clkDiv = 0 → s.clkPin = .low) ∧
  (∀ s : State, s.switchBusy 5 = none → s.cgu.clkDiv = 1 → s.clkPin = .source) ∧
  (∀ s : State, s.switchBusy 5 = none → 2 ≤ s.cgu.clkDiv →
    s.clkPin = if s.cgu.clkPos < (s.cgu.clkDiv + 1) / 2 then .high else .low) ∧
  (∀ (s : State) (n : Nat), s.switchBusy 5 = none → 2 ≤ s.cgu.clkDiv → s.cgu.clkDiv = s.get CGU_CLKOUT_DIV → s.cgu.clkPos = 0 →
    let t := s.each (List.range n) fun _ u => u.clkEdge
    t.cgu.clkPos = n % s.cgu.clkDiv ∧ t.cgu.clkDiv = s.cgu.clkDiv ∧ t.regs = s.regs)

/-- What a write over the register bus comes to: discarded in a gated block, never performed while asleep, else the
register's own behaviour, and for a plain register the word with its writable fields taken (R11, R42, R79). A read gives the
register's word with its WO fields as zero, and clears its RC fields (R11, R13); the higher words of a multi-word value are
latched as the lowest is read (R464). The model's choices it rests on: log entries 70, 71. -/
def Obligations.RegisterAccessesComplete : Prop :=
  (∀ (s : State) (m : Master) (a : Nat) (v : Word), s.verdict m a = .never →
    exec (.registerWrite m a v) s = .next (s.answer m .none)) ∧
  (∀ (s : State) (m : Master) (a : Nat) (v : Word), s.verdict m a = .gated →
    exec (.registerWrite m a v) s = .next (s.answer m .ok)) ∧
  (∀ (s : State) (m : Master) (a : Nat) (v : Word) (r : RegRow), s.verdict m a = .row r →
    exec (.registerWrite m a v) s = .next (State.regWrite m a v r (s.answer m .ok))) ∧
  (∀ (s : State) (m : Master) (a : Nat) (v w : Word) (r : RegRow), s.verdict m a = .row r → blockOf a = some .flt →
    a ≠ FLT_CTRL → a ≠ FLT_SQ → a ≠ FLT_TEMP_LIM → writeFields r.fields (s.rd a) v = (w, false) →
    exec (.registerWrite m a v) s = .next ((s.answer m .ok).wr a w)) ∧
  (∀ (s : State) (m : Master) (a : Nat) (r : RegRow), s.regsWf = true → s.verdict m a = .row r → blockOf a ≠ some .mbx → a ≠ TSE_TXTS_0 →
    multiHigh a = none → multiLow a = none →
    ∃ t, exec (.rcRead m a) s = .next t ∧ t.replyOf m = .data (readFields r.fields (s.liveWord a)) ∧
      t.rd a = (if r.fields.any (fun f => f.access == .rc) then clearedFields r.fields (s.rd a) else s.rd a) ∧
      (∀ b, b ≠ a → t.rd b = s.rd b) ∧ t.out = s.out ∧ t.nvs = s.nvs ∧ t.flt = s.flt ∧ t.pending = s.pending) ∧
  (∀ (s : State) (m : Master) (a n : Nat) (r : RegRow), s.verdict m a = .row r → blockOf a ≠ some .mbx → a ≠ TSE_TXTS_0 →
    multiHigh a = none → multiLow a = some n → r.fields.any (fun f => f.access == .rc) = false →
    ∃ t, exec (.multiWordLowRead m a) s = .next t ∧ t.replyOf m = .data (readFields r.fields (s.liveWord a)) ∧
      t.shadowOf m a = (List.range (n - 1)).map (fun k => s.liveWord (a + 4 * (k + 1))) ∧
      t.regs = s.regs ∧ t.out = s.out ∧ t.nvs = s.nvs ∧ t.pending = s.pending) ∧
  (∀ (s : State) (m : Master) (a k low : Nat) (r : RegRow), s.verdict m a = .row r → blockOf a ≠ some .mbx →
    multiHigh a = some (low, k) →
    exec (.rcRead m a) s = .next (s.answer m (.data ((s.shadowOf m low).getD (k - 1) 0)))) ∧
  (∀ (s : State) (m : Master) (a : Nat), s.verdict m a = .gated → multiLow a = none →
    exec (.rcRead m a) s = .next (s.answer m (.data 0)))



/-- The two edges of RESET_N and the loss of the supplies (R45, R46, R402). The model's choices it rests on: log entries 3,
8, 9, 10. -/
def Obligations.ResetCommandsComplete : Prop :=
  (∀ (s : State) (width : Nat), 2000 ≤ width → ∃ t, exec (.resetNAssert width) s = .next t ∧ t.boot.held = true ∧
    t.regs = State.reset.regs ∧ t.livery = s.livery ∧ t.boot.straps = s.boot.straps ∧ t.fw = State.reset.fw ∧ t.hif = State.reset.hif) ∧
  (∀ (s : State) (width : Nat), width < 500 → exec (.resetNAssert width) s = .next s) ∧
  (∀ (s : State) (width : Nat), 500 ≤ width → width < 2000 →
    exec (.resetNAssert width) s = .next (if Config.resetPulseTaken s.free then
      { s.useFree.nvCutNow.blank with boot := { State.reset.boot with straps := s.boot.straps, held := true } } else s.useFree)) ∧
  (∀ (s : State) (straps : Nat), s.livery.intact = true → ∃ t, exec (.resetNRelease straps) s = .next t ∧ t.boot.held = false ∧
    t.boot.straps = straps ∧ t.get GLB_STRAPS_IMG_SEL = straps / 64 % 2 ∧ t.get GLB_STRAPS_BOOT_SRC = straps / 256 % 4 ∧
    t.get GLB_BOOT_STATUS_STATE = 0 ∧ t.rd GLB_LIV_LOT = s.livery.lot ∧ t.livery = s.livery ∧ t.fw.down = 3) ∧
  (∀ (s : State) (torn : Nat), ∃ t, exec (.supplyLoss torn) s = .next t ∧ t.boot.held = true ∧ t.regs = State.reset.regs ∧
    t.livery = s.livery ∧ t.nvs.buffer = [] ∧ t.nvs.array = (s.nvCut torn).nvs.array)

/-- The loader from the root's start to the last octet received, verification, segments and the end of APPLY (R49 to R52,
R55, R57 to R60, R62 to R64, R520, R521). The model's choices it rests on: log entries 15, 16, 17, 18, 19, 21, 76, 77. -/
def Obligations.LoaderCommandsComplete : Prop :=
  (∀ s : State, s.boot.root = false → s.boot.held = false → s.on CGU_XO_STATUS_JUDGED = true → s.get GLB_STRAPS_BOOT_SRC = 0 →
    exec .rootRuns s = .next (State.discoverStart (State.axleTo 0 3 true
      { s with boot := { s.boot with root := true, start := s.cyc, loading := none, qspi := true } }))) ∧
  (∀ s : State, s.boot.root = false → s.boot.held = false → s.on CGU_XO_STATUS_JUDGED = true → s.get GLB_STRAPS_BOOT_SRC = 1 →
    exec .rootRuns s = .next (State.fetchStart (State.axleTo 0 3 true
      { s with boot := { s.boot with root := true, start := s.cyc, loading := some .spi, qspi := false } }))) ∧
  (∀ s : State, s.boot.root = false → s.boot.held = false → s.on CGU_XO_STATUS_JUDGED = true → s.get GLB_STRAPS_BOOT_SRC = 3 →
    s.on GLB_FUSE_SECURE = false →
    exec .rootRuns s = .next (State.stagingEnd true 7 (State.axleTo 0 3 true
      { s with boot := { s.boot with root := true, start := s.cyc, loading := none, qspi := false } }))) ∧
  (∀ s : State, s.boot.root = true → exec .rootRuns s = .next s) ∧
  (∀ (s : State) (sfdp fast : Bool), s.regsWf = true → s.bootState = 1 →
    ∃ t, exec (.discoverDone sfdp fast) s = .next t ∧ t.bootState = 2 ∧ t.boot.fast = (sfdp && fast) ∧ t.boot.image = [] ∧
      t.boot.fifo = [] ∧ t.boot.header = false ∧ t.boot.pos = 64 ∧ t.get GLB_BOOT_STATUS_FIFO_FREE = 256) ∧
  (∀ (s : State) (m : Master) (v : Word) (r : RegRow), s.regsWf = true → s.verdict m GLB_BOOT_DATA = .row r →
    s.boot.loading = some m → s.bootState = 2 → s.boot.qspi = false → s.streamFull = false → s.boot.fifo.length < 256 →
    ∃ t, exec (.bootDataWrite m v) s = .next t ∧ t.boot = { s.boot with fifo := s.boot.fifo ++ [v] } ∧
      t.get GLB_BOOT_STATUS_FIFO_FREE = 255 - s.boot.fifo.length ∧ t.bootState = 2) ∧
  (∀ (s : State) (m : Master) (v : Word) (r : RegRow), s.verdict m GLB_BOOT_DATA = .row r → s.boot.loading ≠ some m →
    exec (.bootDataWrite m v) s = .next ((s.answer m .ok).logFault 0x04 0 (some (m, true, GLB_BOOT_DATA)))) ∧
  (∀ (s : State) (bytes : List Octet), s.bootState = 2 → s.boot.header = false → s.boot.qspi = true → bytes.length = 64 →
    State.headerCode { s with boot := { s.boot with image := bytes } } = 0 →
    exec (.headerReceived bytes) s = .next { s with boot := { s.boot with image := bytes, header := true } }) ∧
  (∀ (s : State) (bytes : List Octet) (c : Nat), s.bootState = 2 → s.boot.header = false → s.boot.qspi = true → bytes.length = 64 →
    State.headerCode { s with boot := { s.boot with image := bytes } } = c → c ≠ 0 →
    exec (.headerReceived bytes) s = .next (State.reject c { s with boot := { s.boot with image := bytes } })) ∧
  (∀ (s : State) (bytes : List Octet), s.regsWf = true → s.bootState = 2 → s.boot.header = true → s.boot.qspi = true →
    64 ≤ s.boot.image.length → State.expected { s with boot := { s.boot with image := s.boot.image ++ bytes } } ≤ (s.boot.image ++ bytes).length →
    ∃ t, exec (.imageFetched bytes) s = .next t ∧ t.bootState = 3 ∧
      t.boot.image = (s.boot.image ++ bytes).take (State.expected { s with boot := { s.boot with image := s.boot.image ++ bytes } })) ∧
  (∀ (s : State) (m : Master) (v : Word) (r : RegRow), s.regsWf = true → s.verdict m GLB_BOOT_CTRL = .row r →
    s.boot.loading = some m → v.getLsbD 0 = true → s.bootState = 6 → s.get GLB_STRAPS_BOOT_SRC ≠ 0 →
    ∃ t, exec (.restart m v) s = .next t ∧ t.bootState = 2 ∧ t.boot.image = [] ∧ t.boot.fifo = [] ∧ t.boot.header = false) ∧
  (∀ (s : State) (m : Master) (v : Word) (r : RegRow), s.regsWf = true → s.verdict m GLB_BOOT_CTRL = .row r →
    s.boot.loading = some m → v.getLsbD 0 = true → s.bootState = 6 → s.get GLB_STRAPS_BOOT_SRC = 0 →
    ∃ t, exec (.restart m v) s = .next t ∧ t.bootState = 1 ∧ t.get GLB_STATUS_IMG = s.get GLB_STRAPS_IMG_SEL ∧
      t.get GLB_BOOT_STATUS_FALLBACK = 0 ∧ t.boot.tried = false) ∧
  (∀ s : State, s.regsWf = true → s.bootState = 3 → s.imageCode = 0 → ∃ t, exec .verifyDone s = .next t ∧ t.bootState = 4 ∧ t.boot = s.boot ∧
    t.get GLB_BOOT_STATUS_SIG_OK = s.get GLB_FUSE_SECURE ∧ t.nvs = s.nvs ∧ t.pending = s.pending) ∧
  (∀ (s : State) (c : Nat), s.bootState = 3 → s.imageCode = c → c ≠ 0 → exec .verifyDone s = .next (s.reject c)) ∧
  (∀ (s : State) (type : Nat) (len : Nat), s.bootState = 4 → s.boot.segs < s.segCount → s.boot.pos + 8 + len ≤ s.imgLen → len % 4 = 0 →
    fromLE (slice s.boot.image s.boot.pos 4) = type → fromLE (slice s.boot.image (s.boot.pos + 4) 4) = len → 0x80 ≤ type → type < 256 →
    exec .segmentApply s = .next { s with boot := { s.boot with
      pos := s.boot.pos + 8 + len, segs := s.boot.segs + 1, entry := 0, waiting := false } }) ∧
  (∀ (s : State) (len : Nat), s.bootState = 4 → s.boot.segs < s.segCount → s.boot.pos + 8 + len ≤ s.imgLen → len % 4 = 0 → len ≠ 0 →
    fromLE (slice s.boot.image s.boot.pos 4) = 4 → fromLE (slice s.boot.image (s.boot.pos + 4) 4) = len →
    exec .segmentApply s = .next (s.applyPayload 4 0 len)) ∧
  (∀ (s : State) (len : Nat), s.bootState = 4 → s.boot.segs < s.segCount → s.boot.pos + 8 + len ≤ s.imgLen → len % 4 = 0 →
    fromLE (slice s.boot.image s.boot.pos 4) = 7 → fromLE (slice s.boot.image (s.boot.pos + 4) 4) = len →
    exec .segmentApply s = .next (s.applyReject 0x0C)) ∧
  (∀ s : State, s.bootState = 4 → s.boot.waiting = true → exec .waitSegmentTimeout s = .next (s.applyReject 0x0F)) ∧
  (∀ s : State, s.boot.waiting = false → exec .waitSegmentTimeout s = .next s) ∧
  (∀ s : State, s.bootState = 4 → s.boot.waiting = false → s.boot.pos = s.imgLen → s.boot.segs = s.segCount →
    exec .applyDone s = .next ((s.wr GLB_BOOT_IMGVER (BitVec.ofNat 32 (s.hdr 0x10 4))).stagingEnd false (s.boot.privMap.getD 0))) ∧
  (∀ s : State, s.bootState = 4 → s.boot.waiting = false → s.boot.pos = s.imgLen → s.boot.segs ≠ s.segCount →
    exec .applyDone s = .next (s.applyReject 0x0D))

/-- References: enabling, overrides, edges, loss of activity, ticks and waits (R91, R93, R94, R98 to R101, R103, R104, R107,
R108). The model's choices it rests on: log entries 22, 80, 81. -/
def Obligations.ReferenceCommandsComplete : Prop :=
  (∀ (s : State) (m : Master) (n : Nat) (v w : Word) (r : RegRow), n < 64 → s.verdict m (REFM_CFG n) = .row r →
    s.refUnavailable n = false → s.on (REFM_CFG_ENABLE n) = false → v.getLsbD 0 = true →
    let x := if 16 ≤ n then keepFields s (refGuarded n) v else v
    writeFields r.fields (s.rd (REFM_CFG n)) (keepField s (REFM_CFG_ENABLE n) x) = (w, false) →
    State.refCfgOk ((s.answer m .ok).wr (REFM_CFG n) w) n = true →
    exec (.refEnableWrite m n v) s = .next ((s.answer m .ok).thenSelect fun u => (u.wr (REFM_CFG n) w).refStart n)) ∧
  (∀ (s : State) (m : Master) (n : Nat) (v : Word) (r : RegRow), n < 64 → s.verdict m (REFM_CFG n) = .row r →
    s.refUnavailable n = true → v.getLsbD 0 = true →
    exec (.refEnableWrite m n v) s = .next ((s.answer m .ok).logFault 0x04 0 (some (m, true, REFM_CFG n)))) ∧
  (∀ (s : State) (m : Master) (n : Nat) (v w : Word) (r : RegRow), n < 64 → s.verdict m (REFM_CFG n) = .row r →
    s.on (REFM_CFG_ENABLE n) = true → v.getLsbD 0 = false →
    let x := if 16 ≤ n then keepFields s (refGuarded n) v else v
    writeFields r.fields (s.rd (REFM_CFG n)) (keepField s (REFM_CFG_ENABLE n) x) = (w, false) →
    exec (.refEnableWrite m n v) s = .next ((s.answer m .ok).thenSelect fun u =>
      ((u.wr (REFM_CFG n) w).set (REFM_CFG_ENABLE n) 0).refStop n)) ∧
  (∀ (s : State) (m : Master) (n : Nat) (v w : Word) (r : RegRow), n < 64 → s.verdict m (REFM_CFG n) = .row r →
    s.refUnavailable n = false → s.on (REFM_CFG_ENABLE n) = true → v.getLsbD 0 = true →
    let x := if 16 ≤ n then keepFields s (refGuarded n) v else v
    (refGuarded n).any (fun f => changes s f x) = false →
    writeFields r.fields (s.rd (REFM_CFG n)) (keepField s (REFM_CFG_ENABLE n) x) = (w, false) →
    exec (.overrideWrite m n v) s = .next ((s.answer m .ok).thenSelect fun t =>
      let u := t.wr (REFM_CFG n) w
      State.refEval n (if u.get (REFM_CFG_OVERRIDE n) ≠ s.get (REFM_CFG_OVERRIDE n) then u.overrideChange n else u))) ∧
  (∀ (s : State) (n : Nat) (e : Edge) (width : Nat), n < 64 → s.asleep = true ∨ s.signal n = false →
    exec (.tappedEdge n e width) s = .next s) ∧
  (∀ (s : State) (n : Nat) (e : Edge) (width : Nat), n < 64 → s.asleep = false → s.signal n = true →
    e.falling ≠ (s.tapSignal n e).on (REFM_CFG_EDGE n) ∨ (s.tapSignal n e).homeReady n = false →
    exec (.tappedEdge n e width) s = .next (s.tapSignal n e)) ∧
  (∀ (s : State) (n : Nat) (e : Edge) (width : Nat), n < 64 → s.asleep = false → s.signal n = true →
    e.falling = (s.tapSignal n e).on (REFM_CFG_EDGE n) →
    let u := s.tapSignal n e
    u.homeReady n = true → u.get (REFM_STATE_STATE n) = 0 →
    exec (.tappedEdge n e width) s = .next (u.thenSelect fun x =>
      if u.homeTook n e.time = true then x.sampleOut n e.time false else x)) ∧
  (∀ (s : State) (n : Nat) (e : Edge) (width : Nat), n < 64 → s.asleep = false → s.signal n = true →
    e.falling = (s.tapSignal n e).on (REFM_CFG_EDGE n) →
    let u := s.tapSignal n e
    u.homeReady n = true → u.get (REFM_STATE_STATE n) ≠ 0 →
    exec (.tappedEdge n e width) s = .next (u.thenSelect fun x =>
      let late := match (u.ref n).seen with | some t0 => decide (u.actSpan n < ((e.time - t0 : Nat) : Rat)) | none => false
      let y := if late = true ∧ (u.ref n).since.isSome = true then (x.actLost n).edgesStop n true else x
      if y.badPulse n width = true then y.badEdge n e.time (u.homeTook n e.time) else y.goodEdge n e.time (u.homeTook n e.time))) ∧
  (∀ (s : State) (n : Nat) (fast : Bool), n < 64 → s.asleep = false → (fast = true → s.on (REFM_CFG_FAST n) = true) →
    exec (.activityLoss n fast) s = .next (s.thenSelect fun t =>
      (if t.get (REFM_STATE_STATE n) ≠ 0 then ((t.setRef n { t.ref n with since := none }).setCond n 0 true).refEval n else t).edgesStop
        n true)) ∧
  (∀ (s : State) (t : Nat), s.asleep = false → exec (.refTick100ms t) s = .next
    ((s.each (List.range 64) fun n u => u.refTick100 t n).each [0, 1, 2, 3] fun l u => u.setSel l { u.sel l with compare := true })) ∧
  (∀ (s : State) (t : Nat), s.asleep = false →
    exec (.refTick1s t) s = .next (s.thenSelect fun u => u.each (List.range 64) fun n w => w.refTick1 t n)) ∧
  (∀ (s : State) (t : Nat), s.asleep = true → exec (.refTick100ms t) s = .next s ∧ exec (.refTick1s t) s = .next s) ∧
  (∀ (s : State) (n : Nat), n < 64 → s.asleep = false → s.get (REFM_STATE_STATE n) = 2 → s.get (REFM_CFG_OVERRIDE n) = 0 →
    s.on (REFM_STATE_SHORT_VALID n) = true → s.on GLB_STATUS_XO_INT = false → s.waitTicks n < (s.ref n).waited →
    exec (.qualificationWaitEnd n) s = .next (s.thenSelect fun t => t.setRefState n 3))



/-- The time of day from a receiver and the line sent each second (R113 to R117); a pulse without a pair: with LOCK it is
one second after the last label, a second such pulse in a row clears LOCK; a bad pulse is such a pulse (R108, R116). The
model's choices it rests on: log entries 23, 82, 83, 84. -/
def Obligations.TimeOfDayCommandsComplete : Prop :=
  (∀ (s : State) (bytes : List Octet) (t : Nat), s.on REFM_TOD_CFG_RX_EN = true → s.pwr.state ≠ .vigil → s.pwr.state ≠ .dormant →
    readSentence bytes = .bad → s.regsWf = true →
    ∃ u, exec (.todSentence bytes t) s = .next u ∧
      u.get REFM_TOD_STATUS_BAD_SENTENCES = satInc REFM_TOD_STATUS_BAD_SENTENCES.width (s.get REFM_TOD_STATUS_BAD_SENTENCES) ∧
      u.tod = s.tod ∧ u.tim = s.tim ∧ (∀ a, a ≠ REFM_TOD_STATUS → u.rd a = s.rd a)) ∧
  (∀ (s : State) (bytes : List Octet) (t : Nat), readSentence bytes = .other → exec (.todSentence bytes t) s = .next s) ∧
  (∀ (s : State) (bytes : List Octet) (t x o : Nat), s.regsWf = true → s.on REFM_TOD_CFG_RX_EN = true → s.pwr.state ≠ .vigil → s.pwr.state ≠ .dormant →
    readSentence bytes = .qztl x o → s.on REFM_TOD_CFG_ALIGN = true →
    ∃ u, exec (.todSentence bytes t) s = .next u ∧ u.get REFM_TOD_STATUS_LAST_KIND = 3 ∧
      u.tod = { s.tod with labels := s.tod.labels ++ [(x, t)] }) ∧
  (∀ (s : State) (bytes : List Octet) (t k day sec : Nat), s.regsWf = true → s.on REFM_TOD_CFG_RX_EN = true → s.pwr.state ≠ .vigil →
    s.pwr.state ≠ .dormant → readSentence bytes = .utc k day sec → sec ≠ 0 → s.on REFM_TOD_CFG_ALIGN = true →
    ∃ u, exec (.todSentence bytes t) s = .next u ∧
      u.tod = { s.tod with labels := s.tod.labels ++ [(day * 86400 + sec + s.get REFM_TOD_CFG_UTC_OFS, t)] } ∧
      ∀ a, a ≠ REFM_TOD_STATUS → u.rd a = s.rd a) ∧
  (∀ s : State, s.on REFM_TOD_CFG_TX_EN = true → s.pwr.state ≠ .vigil → s.pwr.state ≠ .dormant →
    exec .todLineTransmit s = .next (s.emit .todLine 0 [] (timeLine (s.domTime 0 / secUnit)
      (s.get GLB_STATUS_MODE == 2 || s.get GLB_STATUS_MODE == 3) (s.get REFM_TOD_CFG_UTC_OFS)))) ∧
  (∀ s : State, s.on REFM_TOD_CFG_TX_EN = false → exec .todLineTransmit s = .next s) ∧
  (∀ (s : State) (t p : Nat), s.regsWf = true → s.on REFM_TOD_STATUS_LOCK = true → s.on REFM_TOD_CFG_ALIGN = true → s.tod.prev = some p →
    s.on (TIM_CFG_TOD_EN 0) = false → s.on (TIM_CFG_TOD_EN 1) = false →
    (s.tod.miss = 0 → (s.todPulse t true).tod.prev = some (p + 1) ∧ (s.todPulse t true).on REFM_TOD_STATUS_LOCK = true) ∧
    (1 ≤ s.tod.miss → (s.todPulse t true).on REFM_TOD_STATUS_LOCK = false ∧ (s.todPulse t true).tod.prev = some p))

/-- Selection: the end of a changeover, a forced reference without edges, the alignment offset, the end of a bleed (R128,
R131, R135, R137). The model's choices it rests on: log entries 24, 85, 86, 87, 88. -/
def Obligations.SelectorCommandsComplete : Prop :=
  (∀ (s : State) (l b : Nat) (x : Rat), l < 4 → s.asleep = false → (s.sel l).target = some b → s.measured l b = some x →
    (s.holdLoop l).expired ≠ some s.cyc → (s.sel l).aLost = false →
    exec (.changeoverComplete l) s = .next
      (s.completeChange l b ((s.sel l).b + roundAway ((x - s.buildNs l) * 65536) * accUnit) (s.basisOf l b))) ∧
  (∀ (s : State) (l b : Nat) (x : Rat), l < 4 → s.asleep = false → (s.sel l).target = some b → s.measured l b = some x →
    (s.holdLoop l).expired ≠ some s.cyc → (s.sel l).aLost = true →
    exec (.changeoverComplete l) s = .next (s.completeChange l b (roundAway (x * 65536) * accUnit) (s.basisOf l b))) ∧
  (∀ (s : State) (l b : Nat), l < 4 → s.asleep = false → (s.sel l).target = some b → (s.holdLoop l).expired = some s.cyc →
    exec (.changeoverComplete l) s = .next (s.firstSelect l b (s.basisOf l b))) ∧
  (∀ (s : State) (l : Nat), (s.sel l).target = none → exec (.changeoverComplete l) s = .next s) ∧
  (∀ (s : State) (l b : Nat), l < 4 → s.asleep = false → (s.sel l).target = some b → s.get (SEL_CTRL_MODE l) = 2 →
    let u := s.setSel l { s.sel l with active := some b, target := none, bEdges := [], aEdges := [], aLost := false }
    exec (.forcedRefNoEdge l) s = .next ((((u.set (SEL_STATUS_CHG_BUSY l) 0).showActive l 7).reportChange l 0).selEval l)) ∧
  (∀ (s : State) (m : Master) (l : Nat) (v w : Word) (r : RegRow), l < 4 → s.verdict m (SEL_ALIGN_HI l) = .row r →
    writeFields r.fields (s.rd (SEL_ALIGN_HI l)) v = (w, false) →
    let u := (s.answer m .ok).wr (SEL_ALIGN_HI l) w
    exec (.alignHiWrite m l v) s = .next (State.setBuild l (s.sel l).b
      (u.setSel l { s.sel l with o := u.getWideI (SEL_ALIGN_LO l) (SEL_ALIGN_HI l) 16 }))) ∧
  (∀ (s : State) (l : Nat), l < 4 → s.asleep = false → s.get (SEL_CTRL_CHG l) = 1 → s.get (SEL_BLEED_RATE l) ≠ 0 →
    exec (.buildOutBleedEnd l) s = .next (s.setBuild l (s.alignment l))) ∧
  (∀ (s : State) (l : Nat), s.asleep = true ∨ s.get (SEL_CTRL_CHG l) ≠ 1 → exec (.buildOutBleedEnd l) s = .next s)

/-- In AUTO mode with REVERT = 1 there is a choice exactly while there is a candidate, and the choice is a candidate whose
place in the order no candidate comes before (R118, R119, R126). A comparison that finds one largest set of agreeing
references wins with it, and with basis 2; every member of the set agrees with the reference it is the set of (R123). The
model's choices it rests on: log entries 24, 85, 86. -/
def Obligations.WinnerIsBest : Prop :=
  (∀ (s : State) (l : Nat), s.get (SEL_CTRL_MODE l) = 0 → s.on (SEL_CTRL_REVERT l) = true →
    ((s.choice l).isSome = true ↔ s.candidates l ≠ []) ∧
    ∀ n basis : Nat, s.choice l = some (n, basis) →
      s.candidate l n = true ∧ n < 64 ∧ ∀ k ∈ s.candidates l, keyBefore (s.groupKey l k) (s.groupKey l n) = false) ∧
  (∀ (s : State) (l : Nat) (ev : List Nat) (i : Nat), i ∈ ev →
    (∀ j ∈ ev, s.agreeSet l ev j ≠ s.agreeSet l ev i → (s.agreeSet l ev j).length < (s.agreeSet l ev i).length) →
    s.decideGroup l ev = (s.agreeSet l ev i, 2) ∧
    ∀ j ∈ s.agreeSet l ev i, j ∈ ev ∧ ratAbs ((s.ref i).ys - (s.ref j).ys) ≤ (s.get (SEL_AGREE_WINDOW l) : Rat) / 10)

/-- A loop's update, step, loss of its source, enabling and the lead loop (R142, R143, R153 to R158, R162). The model's
choices it rests on: log entries 25, 26. -/
def Obligations.LoopCommandsComplete : Prop :=
  (∀ (s : State) (l : Nat), l < 4 → s.loopState l = 0 → exec (.loopUpdate l) s = .next s) ∧
  (∀ (s : State) (l : Nat), l < 4 → s.loopState l ≠ 0 → s.asleep = false → s.on (DPL_STATUS_STEPPING l) = true →
    exec (.loopUpdate l) s = .next (s.setLoop l { s.loop l with samples := [] })) ∧
  (∀ (s : State) (l : Nat), l < 4 → s.loopState l ≠ 0 → s.asleep = false → s.on (DPL_STATUS_STEPPING l) = false → (s.loop l).samples = [] →
    let u := (s.gainEval l).flywheel l
    exec (.loopUpdate l) s = .next (u.setLoop l { u.loop l with samples := [] })) ∧
  (∀ (s : State) (l : Nat) (x : Rat) (xs : List Rat), l < 4 → (s.loopState l = 1 ∨ s.loopState l = 2) → s.asleep = false →
    s.on (DPL_STATUS_STEPPING l) = false → (s.loop l).samples = x :: xs → (s.gainEval l).inputHeld l = false → (s.loop l).fresh = false →
    let g := s.gainEval l
    let e := fine (ratMean (x :: xs) + ((s.loop l).ramp.r : Rat) / (65536 * rampUnit : Int) + (g.rampAcc l : Rat) / 65536)
    let u := (g.setLoop l { g.loop l with samples := [] }).setWide (DPL_PHERR_LO l) (DPL_PHERR_HI l) 16 (roundAway (e * 65536))
    let u := (u.setLoop l { u.loop l with e := e }).set (DPL_STATUS_FLYWHEEL l) 0
    let u := u.setLoop l { u.loop l with fresh := false }
    exec (.loopUpdate l) s = .next (((u.filter l e).learnUpdate l).lockEval l e)) ∧
  (∀ (s : State) (l : Nat) (x : Rat) (xs : List Rat), l < 4 → (s.loopState l = 3 ∨ s.loopState l = 4) → s.asleep = false →
    s.on (DPL_STATUS_STEPPING l) = false → (s.loop l).samples = x :: xs → (s.gainEval l).inputHeld l = false →
    let g := s.gainEval l
    let e := fine (ratMean (x :: xs) + ((s.loop l).ramp.r : Rat) / (65536 * rampUnit : Int) + (g.rampAcc l : Rat) / 65536)
    let u := (g.setLoop l { g.loop l with samples := [] }).setWide (DPL_PHERR_LO l) (DPL_PHERR_HI l) 16 (roundAway (e * 65536))
    exec (.loopUpdate l) s = .next (u.setLoop l { u.loop l with e := e })) ∧
  (∀ (s : State) (l : Nat), l < 4 → (s.loop l).stepping = 0 →
    exec (.loopStepComplete l) s = .next (s.set (DPL_STATUS_STEPPING l) 0)) ∧
  (∀ (s : State) (l : Nat), l < 4 → (s.loop l).stepping ≠ 0 → exec (.loopStepComplete l) s = .next s) ∧
  (∀ (s : State) (l : Nat), l < 4 → s.asleep = false → s.inputHeld l = false → (s.loop l).samples = [] →
    (s.loopState l = 1 ∨ s.loopState l = 2) →
    let u := s.set (DPL_EVT_LOSS l) 1
    exec (.sourceLost l) s = .next (if (u.offered l && (u.loop l).wasLocked) = true then u.enterHoldover l else u.setLoopState l 4)) ∧
  (∀ (s : State) (l : Nat), l < 4 → s.asleep = false → s.inputHeld l = false → (s.loop l).samples = [] → s.loopState l ≠ 1 →
    s.loopState l ≠ 2 → exec (.sourceLost l) s = .next s) ∧
  (∀ (s : State) (m : Master) (l : Nat) (v w : Word) (r : RegRow), l < 4 → s.verdict m (DPL_CFG l) = .row r →
    s.on (DPL_CFG_ENABLE l) = false → v.getLsbD 0 = true →
    writeFields r.fields (s.rd (DPL_CFG l)) (keepField s (DPL_CFG_ENABLE l) (putBits v 16 3 (axleBits l (fieldOf (DPL_CFG_AXLE l) v)))) = (w, false) →
    let x := putBits v 16 3 (axleBits l (fieldOf (DPL_CFG_AXLE l) v))
    let moved := changes s (DPL_CFG_SRC l) x || changes s (DPL_CFG_SRC_ID l) x
    let u := (if moved = true then (s.answer m .ok).setLoop l { s.loop l with heard := none } else s.answer m .ok).wr (DPL_CFG l) w
    fieldOf (DPL_CFG_SRC l) x ≤ 4 → srcOk (u.get (DPL_CFG_SRC l)) (u.get (DPL_CFG_SRC_ID l)) = true → u.axleTaken l (u.get (DPL_CFG_AXLE l)) = false →
    let u := u.set (DPL_CFG_ENABLE l) 1
    let u := if u.loopSrc l = 3 then u.feedStart l else u
    exec (.loopEnableWrite m l v) s = .next (if u.get GLB_STATUS_MODE ≠ 0 ∧ u.asleep = false then u.loopStart l else u)) ∧
  (∀ (s : State) (m : Master) (l : Nat) (v : Word) (r : RegRow), l < 4 → s.verdict m (DPL_CFG l) = .row r →
    s.on (DPL_CFG_ENABLE l) = true → v.getLsbD 0 = false → s.get GLB_STATUS_LEAD = l →
    exec (.loopEnableWrite m l v) s = .next ((s.answer m .ok).logFault 0x04 0 (some (m, true, DPL_CFG l)))) ∧
  (∀ (s : State) (m : Master) (v w : Word) (r : RegRow), s.verdict m DPL_LEAD = .row r → s.on (DPL_CFG_ENABLE (fieldOf DPL_LEAD_LEAD v)) = true →
    writeFields r.fields (s.rd DPL_LEAD) v = (w, false) →
    exec (.leadLoopWrite m v) s = .next
      ((((s.answer m .ok).wr DPL_LEAD w).set GLB_STATUS_LEAD (fieldOf DPL_LEAD_LEAD v)).modeFollow)) ∧
  (∀ (s : State) (m : Master) (v : Word) (r : RegRow), s.verdict m DPL_LEAD = .row r → s.on (DPL_CFG_ENABLE (fieldOf DPL_LEAD_LEAD v)) = false →
    exec (.leadLoopWrite m v) s = .next ((s.answer m .ok).logFault 0x04 0 (some (m, true, DPL_LEAD))))

/-- Forcing a loop, and its ramps (R156, R157, R159 to R161). The model's choices it rests on: log entries 25, 26. -/
def Obligations.ForceAndRampCommandsComplete : Prop :=
  (∀ (s : State) (m : Master) (l : Nat) (v w : Word) (r : RegRow), l < 4 → s.verdict m (DPL_CTRL l) = .row r →
    writeFields r.fields (s.rd (DPL_CTRL l)) v = (w, false) → s.asleep = false →
    let u := (s.answer m .ok).wr (DPL_CTRL l) w
    (fieldOf (DPL_CTRL_FORCE l) v = 2 → u.loopState l ≠ 0 → exec (.forceWrite m l v) s = .next (u.setLoopState l 4)) ∧
    (fieldOf (DPL_CTRL_FORCE l) v = 1 → u.loopState l ≠ 0 → exec (.forceWrite m l v) s = .next
      (if u.offered l = false then u.setLoopState l 4 else if u.loopState l = 3 then u else u.enterHoldover l)) ∧
    (fieldOf (DPL_CTRL_FORCE l) v = 0 → u.loopSrc l ≠ 0 → exec (.forceWrite m l v) s = .next
      (if u.sourceGives l = true ∧ (u.loopState l = 3 ∨ u.loopState l = 4) then u.acquire l (u.loopState l == 4) else u))) ∧
  (∀ (s : State) (m : Master) (l : Nat) (v w : Word) (r : RegRow), l < 4 → s.verdict m (DPL_RAMP_CTRL l) = .row r →
    writeFields r.fields (s.rd (DPL_RAMP_CTRL l)) v = (w, false) → v.getLsbD 0 = true → v.getLsbD 1 = false →
    let u := (((s.answer m .ok).wr (DPL_RAMP_CTRL l) w).set (DPL_RAMP_CTRL_START l) 0).set (DPL_RAMP_CTRL_ABORT l) 0
    (s.loop l).ramp.busy = false → u.on (DPL_RAMP_CTRL_KIND l) = false → u.rd (DPL_RAMP_RATE l) ≠ 0 →
    u.getWideI (DPL_RAMP_VAL_LO l) (DPL_RAMP_VAL_HI l) 16 ≠ 0 →
    exec (.rampStart m l v) s = .next (((u.setLoop l { s.loop l with
      ramp := ⟨true, false, u.getWideI (DPL_RAMP_VAL_LO l) (DPL_RAMP_VAL_HI l) 16, (u.rd (DPL_RAMP_RATE l)).toNat, 0⟩ }).set
        (DPL_STATUS_RAMP_BUSY l) 1).learnBreak l)) ∧
  (∀ (s : State) (m : Master) (l : Nat) (v w : Word) (r : RegRow), l < 4 → s.verdict m (DPL_RAMP_CTRL l) = .row r →
    writeFields r.fields (s.rd (DPL_RAMP_CTRL l)) v = (w, false) → v.getLsbD 0 = false → v.getLsbD 1 = true →
    exec (.rampAbort m l v) s = .next
      (((((s.answer m .ok).wr (DPL_RAMP_CTRL l) w).set (DPL_RAMP_CTRL_START l) 0).set (DPL_RAMP_CTRL_ABORT l) 0).rampStop l)) ∧
  (∀ (s : State) (l : Nat), l < 4 → (s.loop l).ramp.busy = true → (s.loop l).ramp.freq = false →
    exec (.rampDone l) s = .next ((s.rampEnd l (s.loop l).ramp.goal).set (DPL_EVT_RAMP_DONE l) 1)) ∧
  (∀ (s : State) (l : Nat), l < 4 → (s.loop l).ramp.busy = true → (s.loop l).ramp.freq = true →
    exec (.rampDone l) s = .next ((s.setBase l (fine (s.yNom + (s.loop l).yt))).rampFinish l)) ∧
  (∀ (s : State) (l : Nat), (s.loop l).ramp.busy = false → exec (.rampDone l) s = .next s)

/-- What the sprag learns and reads (R164, R165, R167, R168, R183). The model's choices it rests on: log entries 26, 27. -/
def Obligations.LearningCommandsComplete : Prop :=
  (∀ s : State, s.asleep = false →
    ∃ t, exec .observation s = .next t ∧ t.hold.ySum = 0 ∧ t.hold.yCount = 0 ∧ t.hold.tSum = 0 ∧ t.hold.tCount = 0 ∧
      (s.hold.learner = none → t.hold.obs = s.hold.obs ∧ t.regs = s.regs ∧
        t.hold.learner = (if s.on HOLD_CFG_LEARN_EN = false then none else if s.get HOLD_CFG_LEARN_SRC = 1 then some 0
          else if s.get HOLD_CFG_LEARN_SRC = 2 then some 2 else s.autoLoop)) ∧
      (∀ l, s.hold.learner = some l → s.hold.broken = true ∨ s.hold.yCount = 0 ∨ s.learnClean l = false →
        t.hold.obs = s.hold.obs ∧ t.hold.learnMin = s.hold.learnMin ∧ t.regs = (s.count HOLD_LEARNT_DISCARDS).regs) ∧
      (∀ l, s.hold.learner = some l → s.hold.broken = false → s.hold.yCount ≠ 0 → s.learnClean l = true →
        t.hold.learnMin = s.hold.learnMin + 1 ∧ ∃ temp, t.hold.obs =
          ⟨s.secNow, s.dayNow, temp, fine (1 / (1 + s.hold.ySum / (s.hold.yCount : Nat)) - 1)⟩ :: s.hold.obs ∧
          (temp.isSome = true ↔ s.on HOLD_CFG_TS_EN = true))) ∧
  (∀ s : State, s.asleep = true → exec .observation s = .next s) ∧
  (∀ s : State, s.on HOLD_CFG_TS_EN = true → s.asleep = false → ([0, 1, 2, 3].any fun k => (s.bus k).reads) = false →
    let b := s.get HOLD_TSENS_MASTER
    exec .tempSensorRead s = .next ((s.setBus b { s.bus b with sensor := true }).i2cNextJob b)) ∧
  (∀ s : State, s.on HOLD_CFG_TS_EN = false ∨ s.asleep = true ∨ ([0, 1, 2, 3].any fun k => (s.bus k).reads) = true →
    exec .tempSensorRead s = .next s) ∧
  (∀ (s : State) (b : Nat) (j : I2cJob) (hi lo : Octet), b < 4 → (s.bus b).now = some j → j.who = .sensor false →
    s.on HOLD_CFG_TS_EN = true → s.asleep = false →
    let n := if s.on HOLD_TSENS_FORMAT = true then lo.toNat * 256 + hi.toNat else hi.toNat * 256 + lo.toNat
    let t : Rat := (signedOf 16 n : Rat) / 256
    let u := s.setBus b { s.bus b with now := none }
    let x := { u with hold := { s.hold with
      temps := (s.secNow, t) :: s.hold.temps, failRun := 0, goodTick := true, tLast := t, tAt := s.secNow,
      tSum := s.hold.tSum + t, tCount := s.hold.tCount + 1 } }
    exec (.i2cTransferDone b .done [hi, lo]) s = .next
      (State.i2cNextJob b (((x.set HOLD_TEMP_T_NOW n).set HOLD_STATUS_TSENS_FAIL 0).slewEval))) ∧
  (∀ s : State, s.regsWf = true → s.on HOLD_CFG_TS_EN = true → s.asleep = false → ([0, 1, 2, 3].any fun k => (s.bus k).reads) = true →
    ∃ t, exec .tempReadTimeout s = .next t ∧ t.hold.failRun = s.hold.failRun + 1 ∧ t.hold.goodTick = false ∧ t.hold.tLast = s.hold.tLast ∧
      (t.on HOLD_STATUS_TSENS_FAIL = true ↔ s.on HOLD_STATUS_TSENS_FAIL = true ∨ 2 ≤ s.hold.failRun) ∧
      (2 ≤ s.hold.failRun → t.hold.broken = true) ∧ (∀ k, k < 4 → (t.bus k).sensor = false) ∧ (∀ a, a ≠ HOLD_STATUS → t.rd a = s.rd a)) ∧
  (∀ s : State, ([0, 1, 2, 3].any fun k => (s.bus k).reads) = false → exec .tempReadTimeout s = .next s)

/-- What the sprag does by the clock and commits (R170, R173, R174, R176, R180, R184). The model's choices it rests on: log
entries 27, 28. -/
def Obligations.HoldoverCommandsComplete : Prop :=
  (∀ (s : State) (m : Master) (v : Word) (r : RegRow), s.verdict m HOLD_CTRL = .row r → fieldOf HOLD_CTRL_CLEAR v = 1 →
    fieldOf HOLD_CTRL_COMMIT_NOW v = 0 → s.hold.clearing = false → State.clearTest (s.answer m .ok) = 0 →
    exec (.clear m v) s = .next ((s.answer m .ok).clearStart 0)) ∧
  (∀ (s : State) (m : Master) (v : Word) (r : RegRow), s.verdict m HOLD_CTRL = .row r → fieldOf HOLD_CTRL_CLEAR v = 1 →
    fieldOf HOLD_CTRL_COMMIT_NOW v = 0 → s.hold.clearing = true →
    exec (.clear m v) s = .next ((s.answer m .ok).logFault 0x04 0 (some (m, true, HOLD_CTRL)))) ∧
  (∀ s : State, s.asleep = false → 
    let t := s.slewEval.each [0, 1, 2, 3] State.holdTickLoop
    exec .holdoverTick s = .next { t with hold := { t.hold with goodTick := false } }) ∧
  (∀ s : State, s.asleep = true → exec .holdoverTick s = .next s) ∧
  (∀ (s : State) (l : Nat), l < 4 → s.loopState l = 3 → s.asleep = false → 60 * s.get HOLD_EXPIRY_HOLD_LIMIT ≤ (s.holdLoop l).tau ∨
    s.get (HOLD_LP_STATUS_CONF l) ≤ s.get HOLD_EXPIRY_CONF_MIN ∨ s.offered l = false →
    exec (.spragExpiry l) s = .next ((((s.raise HOLD_EVT_EXPIRY).setHoldLoop l { s.holdLoop l with expired := some s.cyc }).queueEvent 4
      [packWord [(l, 0), (min (s.holdLoop l).tau (2 ^ 24 - 1), 8)]]).setLoopState l 4)) ∧
  (∀ (s : State) (l : Nat), s.loopState l ≠ 3 → exec (.spragExpiry l) s = .next s) ∧
  (∀ s : State, s.asleep = false → s.get HOLD_STATUS_STAGE = 0 ∨ s.hold.clearing = true → exec .modelCommit s = .next s) ∧
  (∀ (s u : State) (k seq : Nat), s.asleep = false → s.get HOLD_STATUS_STAGE ≠ 0 → s.hold.clearing = false →
    nextRecord modelMagic (s.nvOctets 0x10000 256) (s.nvOctets 0x10100 256) = (k, seq) →
    (s.recordWrite (0x10000 + 256 * k) (s.modelRecord seq) (1, 0) = (u, true) →
      exec .modelCommit s = .next (u.hotPut 0x10 (s.modelRecord seq))) ∧
    (s.recordWrite (0x10000 + 256 * k) (s.modelRecord seq) (1, 0) = (u, false) →
      exec .modelCommit s = .next (u.raise HOLD_EVT_COMMIT_FAIL))) ∧
  (∀ s : State, s.hold.history = [] → exec .historyCommit s = .next s) ∧
  (∀ (s u : State), s.asleep = false → s.hold.history ≠ [] →
    s.recordWrite (0x10200 + 256 * s.hold.histPage) (s.hold.history.flatten ++ List.replicate (256 - s.hold.history.flatten.length) 0)
      (2, s.hold.history.length) = (u, true) →
    exec .historyCommit s = .next u) ∧
  (∀ (s u : State), s.on HOLD_CFG_CAL_AUTO = true → s.get HOLD_STATUS_STAGE = 3 → 1440 ≤ s.hold.calMin → s.asleep = false →
    let x := { s with hold := { s.hold with calMin := 0 } }
    x.writeCal (unit48 x.yXO) 1 0 = (u, true) → exec .autoCalibration s = .next u) ∧
  (∀ s : State, s.hold.calMin < 1440 → exec .autoCalibration s = .next s)

/-- Writes of an axle's AXL_CFG and AXL_CTRL: enabling and disabling it, hops, DLL_HOLD, searches and discarded steps (R196,
R197, R203, R204). The model's choices it rests on: log entry 29. -/
def Obligations.AxleWritesComplete : Prop :=
  (∀ (s : State) (m : Master) (n : Nat) (v w : Word) (r : RegRow), 1 ≤ n → n < 4 → s.verdict m (AXL_CFG n) = .row r →
    v.getLsbD 8 = false →
    let x := if n = 1 then putBits v 4 1 0 else v
    writeFields r.fields (s.rd (AXL_CFG n)) x = (w, false) →
    let u := (s.answer m .ok).wr (AXL_CFG n) w
    u.stepLeft n = 0 → u.on (AXL_CFG_ENABLE n) = true → u.get (AXL_STATUS_STATE n) = 0 →
    u.get GLB_STATUS_MODE ≠ 0 → s.pwr.state = .run ∨ s.pwr.state = .lean →
    exec (.axleEnableWrite m n v) s = .next ((u.setAxle n { u.axle n with q := u.axleOrigin n }).axleEnter n)) ∧
  (∀ (s : State) (m : Master) (n : Nat) (v w : Word) (r : RegRow), 1 ≤ n → n < 4 → s.verdict m (AXL_CFG n) = .row r →
    v.getLsbD 8 = false →
    let x := if n = 1 then putBits v 4 1 0 else v
    writeFields r.fields (s.rd (AXL_CFG n)) x = (w, false) →
    let u := (s.answer m .ok).wr (AXL_CFG n) w
    u.stepLeft n = 0 → s.on (AXL_CFG_ENABLE n) = true → u.on (AXL_CFG_ENABLE n) = false →
    exec (.axleEnableWrite m n v) s = .next (u.axleOff n)) ∧
  (∀ (s : State) (m : Master) (n : Nat) (v w : Word) (r : RegRow), 1 ≤ n → n < 4 → s.verdict m (AXL_CFG n) = .row r →
    v.getLsbD 8 = false →
    let x := if n = 1 then putBits v 4 1 0 else v
    writeFields r.fields (s.rd (AXL_CFG n)) x = (w, false) →
    let u := (s.answer m .ok).wr (AXL_CFG n) w
    u.stepLeft n = 0 → u.on (AXL_CFG_ENABLE n) = true → u.get (AXL_STATUS_STATE n) ≠ 0 →
    changes s (AXL_CFG_ENTRY n) x = true →
    exec (.hop m n v) s = .next ((((u.raise (AXL_EVT_HOP n)).count (AXL_COUNT_HOPS n)).hopOff n).axleEnter n)) ∧
  (∀ (s : State) (m : Master) (n : Nat) (v w : Word) (r : RegRow), 1 ≤ n → n < 4 → s.verdict m (AXL_CFG n) = .row r →
    v.getLsbD 8 = true → s.get GLB_STATUS_MODE = 5 →
    let x := if n = 1 then putBits v 4 1 0 else v
    writeFields r.fields (s.rd (AXL_CFG n)) x = (w, false) →
    let u := (s.answer m .ok).wr (AXL_CFG n) w
    u.stepLeft n = 0 → s.on (AXL_CFG_ENABLE n) = u.on (AXL_CFG_ENABLE n) → s.on (AXL_CFG_DLL_HOLD n) = false →
    changes s (AXL_CFG_ENTRY n) x = false → u.get (AXL_STATUS_STATE n) ≠ 0 →
    exec (.dllHoldWrite m n v) s = .next (u.engage n (u.axle n).injecting)) ∧
  (∀ (s : State) (m : Master) (n : Nat) (v w : Word) (r : RegRow), 1 ≤ n → n < 4 → s.verdict m (AXL_CFG n) = .row r →
    v.getLsbD 8 = false →
    let x := if n = 1 then putBits v 4 1 0 else v
    writeFields r.fields (s.rd (AXL_CFG n)) x = (w, false) →
    let u := (s.answer m .ok).wr (AXL_CFG n) w
    u.stepLeft n = 0 → u.on (AXL_CFG_ENABLE n) = true → s.on (AXL_CFG_DLL_HOLD n) = true → u.on (AXL_CFG_DLL_HOLD n) = false →
    changes s (AXL_CFG_ENTRY n) x = false → u.get (AXL_STATUS_STATE n) = 4 →
    exec (.dllHoldWrite m n v) s = .next (u.axleTo n 2 true)) ∧
  (∀ (s : State) (m : Master) (v : Word) (r : RegRow), s.verdict m (AXL_CFG 0) = .row r →
    exec (.axleEnableWrite m 0 v) s = .next ((s.answer m .ok).refuseWrite m (AXL_CFG 0))) ∧
  (∀ (s : State) (m : Master) (n : Nat) (v : Word) (r : RegRow), 1 ≤ n → n < 4 → s.verdict m (AXL_CTRL n) = .row r →
    v.getLsbD 0 = true → v.getLsbD 1 = false → s.get (AXL_STATUS_STATE n) ≠ 0 →
    exec (.search m n v) s = .next (((s.answer m .ok).set (AXL_BAND_CODE_VALID n (s.axEntry n)) 0).searchStart n)) ∧
  (∀ (s : State) (m : Master) (n : Nat) (v : Word) (r : RegRow), 1 ≤ n → n < 4 → s.verdict m (AXL_CTRL n) = .row r →
    v.getLsbD 0 = false → v.getLsbD 1 = true → s.on (AXL_STATUS_STEP_BUSY n) = true →
    exec (.stepAbort m n v) s = .next
      ((((s.answer m .ok).setB (AXL_STATUS_STEP_BUSY n) false).raise (AXL_EVT_STEP_DROPPED n)).stepReport n))

/-- What an axle's tank does: band searches, pull-in, lock and its loss, the tracking loop's copy; an axle's frequency word,
phase steps and band table (R191 to R195, R197 to R201, R206, R208). The model's choices it rests on: log entries 29, 89. -/
def Obligations.AxleEventsAndStepsComplete : Prop :=
  (∀ (s : State) (n band fine : Nat), n < 4 → s.get (AXL_STATUS_STATE n) = 1 →
    let k := s.axEntry n
    let u := (s.set (AXL_BAND_CODE_BAND n k) band).set (AXL_BAND_CODE_FINE n k) fine
    let u := (u.setI (AXL_BAND_CODE_TEMP n k) (clampInt (-128) 127 (roundAway ((s.getI FLT_TEMP_TJ : Rat) / 256)))).set
      (AXL_BAND_CODE_VALID n k) 1
    exec (.bandSearchDone n true band fine) s = .next ((u.raise (AXL_EVT_SEARCH_DONE n)).pullin n true)) ∧
  (∀ (s : State) (n band fine : Nat), n < 4 → s.get (AXL_STATUS_STATE n) = 1 →
    exec (.bandSearchDone n false band fine) s = .next (((s.raise (AXL_EVT_BAND_FAIL n)).axleOff n).logFault 0x14 n none)) ∧
  (∀ (s : State) (n band fine : Nat) (found : Bool), s.get (AXL_STATUS_STATE n) ≠ 1 → exec (.bandSearchDone n found band fine) s = .next s) ∧
  (∀ (s : State) (n : Nat), 1 ≤ n → n < 4 → s.get (AXL_STATUS_STATE n) = 2 → s.on (AXL_CFG_DLL_HOLD n) = false →
    exec (.injectionLockHeld n) s = .next (((s.axleTo n 3 true).setSquelch n false).jumpEnd n)) ∧
  (∀ s : State, s.get (AXL_STATUS_STATE 0) = 2 → exec (.injectionLockHeld 0) s = .next (s.axleTo 0 3 true)) ∧
  (∀ (s : State) (n : Nat), 1 ≤ n → n < 4 → s.get (AXL_STATUS_STATE n) = 2 →
    exec (.pullinTimeout n) s = .next ((s.set (AXL_BAND_CODE_VALID n (s.axEntry n)) 0).searchStart n)) ∧
  (∀ (s : State) (n : Nat), 1 ≤ n → n < 4 → s.get (AXL_STATUS_STATE n) = 2 → s.on (AXL_CFG_DLL_HOLD n) = true →
    exec (.dllLocked n) s = .next (s.axleTo n 4 false)) ∧
  (∀ (s : State) (n : Nat), 1 ≤ n → n < 4 → s.get (AXL_STATUS_STATE n) = 2 → s.on (AXL_CFG_DLL_HOLD n) = false →
    exec (.dllLocked n) s = .next (s.engage n true)) ∧
  (∀ (s : State) (n : Nat), 1 ≤ n → n < 4 → s.get (AXL_STATUS_STATE n) = 3 →
    exec (.lossOfLock n) s = .next (((((s.raise (AXL_EVT_LOL n)).count (AXL_COUNT_LOL_COUNT n)).axleTo n 2 false).setSquelch n true).logFault
      0x14 n none)) ∧
  (∀ s : State, s.get (AXL_STATUS_STATE 0) = 3 →
    exec .ax0LossOfLock s = .next ((((s.raise (AXL_EVT_LOL 0)).count (AXL_COUNT_LOL_COUNT 0)).axleTo 0 2 false).logFault 0x14 0 none)) ∧
  (∀ (s : State) (n fine : Nat), 1 ≤ n → n < 4 → s.get (AXL_STATUS_STATE n) = 3 →
    exec (.fineCopy n fine) s = .next ((s.set (AXL_STATUS_FINE n) fine).set
      (AXL_BAND_CODE_FINE n (s.axEntry n)) fine)) ∧
  (∀ (s : State) (m : Master) (n : Nat) (v : Word) (r : RegRow), 1 ≤ n → n < 4 → s.verdict m (AXL_FWORD_HI n) = .row r →
    s.steerer n = none →
    let w := signedOf 48 ((s.axle n).wordLo.toNat + v.toNat % 2 ^ 16 * 2 ^ 32)
    w.natAbs ≤ 34339947158 →
    exec (.fwordHiWrite m n v) s = .next (((s.answer m .ok).setAxle n { s.axle n with word := w }).setWide
      (AXL_FWORD_LO n) (AXL_FWORD_HI n) 16 w)) ∧
  (∀ (s : State) (m : Master) (n : Nat) (v : Word) (r : RegRow), 1 ≤ n → n < 4 → s.verdict m (AXL_FWORD_HI n) = .row r →
    s.steerer n = none → 34339947158 < (signedOf 48 ((s.axle n).wordLo.toNat + v.toNat % 2 ^ 16 * 2 ^ 32)).natAbs →
    exec (.fwordHiWrite m n v) s = .next ((s.answer m .ok).logFault 0x03 0 (some (m, true, AXL_FWORD_HI n)))) ∧
  (∀ (s : State) (m : Master) (n l : Nat) (v : Word) (r : RegRow), 1 ≤ n → n < 4 → s.verdict m (AXL_FWORD_HI n) = .row r →
    s.steerer n = some l →
    exec (.fwordHiWrite m n v) s = .next ((s.answer m .ok).refuseWrite m (AXL_FWORD_HI n))) ∧
  (∀ (s : State) (m : Master) (n : Nat) (v : Word) (r : RegRow), 1 ≤ n → n < 4 → s.verdict m (AXL_STEP_HI n) = .row r →
    s.steerer n = none →
    exec (.stepHiWrite m n v) s = .next ((s.answer m .ok).requestStep n
      (signedOf 48 ((s.rd (AXL_STEP_LO n)).toNat + v.toNat % 2 ^ 16 * 2 ^ 32)) false)) ∧
  (∀ (s : State) (n : Nat), 1 ≤ n → n < 4 → s.stepLeft n ≠ 0 → s.get (AXL_STATUS_STATE n) ≠ 0 → s.on (AXL_CFG_STEP_MODE n) = false →
    exec (.stepDone n) s = .next (((s.axleMove n (s.stepLeft n)).setStepLeft n 0).stepComplete n)) ∧
  (∀ (s : State) (n : Nat), s.stepLeft n = 0 → exec (.stepDone n) s = .next s) ∧
  (∀ (s : State) (m : Master) (n k : Nat) (v w : Word) (r : RegRow), 1 ≤ n → n < 4 → k < 16 → s.verdict m (AXL_BAND_HI n k) = .row r →
    writeFields r.fields (s.rd (AXL_BAND_HI n k)) v = (w, false) → (s.axEntry n ≠ k ∨ s.get (AXL_STATUS_STATE n) = 0) →
    let x := (s.rd (AXL_BAND_LO n k)).toNat + v.toNat % 2 ^ 16 * 2 ^ 32
    (n = 1 → x = 2 ^ 47) → (n ≠ 1 → 1961 * 2 ^ 46 ≤ 1000 * x ∧ 1000 * x ≤ 2518 * 2 ^ 46) →
    let u := (s.answer m .ok).wr (AXL_BAND_HI n k) w
    exec (.bandHiWrite m n k v) s = .next
      ((u.setAxle n { s.axle n with ratios := smPut (s.axle n).ratios k x }).set (AXL_BAND_CODE_VALID n k) 0)) ∧
  (∀ (s : State) (m : Master) (n k : Nat) (v : Word) (r : RegRow), 1 ≤ n → n < 4 → k < 16 → s.verdict m (AXL_BAND_HI n k) = .row r →
    s.axEntry n = k → s.get (AXL_STATUS_STATE n) ≠ 0 →
    exec (.bandHiWrite m n k v) s = .next ((s.answer m .ok).refuseWrite m (AXL_BAND_HI n k)))



/-- A slew makes RATE steps in any 256 cycles on end (R195). The model's choices it rests on: log entry 29. -/
def Obligations.SlewIsEven : Prop :=
  ∀ rate c : Nat, rate ≤ 256 → ((List.range 256).filter fun i => slewNow rate (c + i)).length = rate

/-- An output is enabled, starts, takes a phase, and its dividers and delays come into force (R210, R212 to R216, R218,
R219). The model's choices it rests on: log entry 30. -/
def Obligations.OutputCommandsComplete : Prop :=
  (∀ (s : State) (m : Master) (n : Nat) (v w : Word) (r : RegRow), n < 24 → s.verdict m (OUT_CFG n) = .row r →
    s.on (OUT_CFG_ENABLE n) = false → v.getLsbD 0 = true →
    writeFields r.fields (s.rd (OUT_CFG n)) (keepField s (OUT_CFG_ENABLE n) v) = (w, false) →
    let u := (s.answer m .ok).wr (OUT_CFG n) w
    (u.outCfgOk n = true → exec (.outputEnableWrite m n v) s = .next ((u.set (OUT_CFG_ENABLE n) 1).outEval n)) ∧
    (u.outCfgOk n = false → exec (.outputEnableWrite m n v) s = .next ((u.raise (OUT_EVT_CFG_ERR n)).refuseWrite m (OUT_CFG n)))) ∧
  (∀ (s : State) (m : Master) (n : Nat) (v w : Word) (r : RegRow), n < 24 → s.verdict m (OUT_CFG n) = .row r →
    s.on (OUT_CFG_ENABLE n) = true → v.getLsbD 0 = false →
    writeFields r.fields (s.rd (OUT_CFG n)) (keepField s (OUT_CFG_ENABLE n) v) = (w, false) →
    exec (.outputEnableWrite m n v) s = .next ((((s.answer m .ok).wr (OUT_CFG n) w).set (OUT_CFG_ENABLE n) 0).outEval n)) ∧
  (∀ (s : State) (m : Master) (n : Nat) (v w : Word) (r : RegRow), n < 24 → s.verdict m (OUT_CFG n) = .row r →
    s.on (OUT_CFG_ENABLE n) = v.getLsbD 0 → (s.on (OUT_CFG_ENABLE n) = true → (outGuarded n).any (fun f => changes s f v) = false) →
    writeFields r.fields (s.rd (OUT_CFG n)) (keepField s (OUT_CFG_ENABLE n) v) = (w, false) →
    exec (.outputEnableWrite m n v) s = .next (((s.answer m .ok).wr (OUT_CFG n) w).outEval n)) ∧
  (∀ (s : State) (n c : Nat), n < 24 →
    let u := s.outEval n
    u.get (OUT_STATUS_STATE n) = 1 → u.outHold n = false → (∀ a, u.outAxle n = some a → u.get (AXL_STATUS_STATE a) = 3) →
    (u.outp n).ready = some c → c + 20 ≤ u.cyc →
    exec (.outputStart n) s = .next (((u.outLoad n).outFirst n).setOutState n 2)) ∧
  (∀ (s : State) (n : Nat), n < 24 → (s.outEval n).outWaited n = false → exec (.outputStart n) s = .next (s.outEval n)) ∧
  (∀ (s : State) (m : Master) (n : Nat) (v w : Word) (r : RegRow), n < 24 → s.verdict m (OUT_PHASE_HI n) = .row r →
    writeFields r.fields (s.rd (OUT_PHASE_HI n)) v = (w, false) →
    let u := (s.answer m .ok).wr (OUT_PHASE_HI n) w
    let o := s.outp n
    (u.outPhase n).natAbs < s.get (OUT_PERIOD_PERIOD n) * 65536 →
    exec (.phaseHiWrite m n v) s = .next (u.setOutp n { o with
      phase := u.outPhase n
      lead := if u.get (OUT_STATUS_STATE n) = 2 then liftTo (o.lead + (u.outPhase n - o.phase) * 2 ^ 16)
        (u.get (OUT_PERIOD_PERIOD n) * nsTime) (max 0 (o.trail + 8 * nsTime)) else o.lead })) ∧
  (∀ (s : State) (n : Nat), n < 24 → s.get (OUT_STATUS_STATE n) ≠ 2 → exec (.outputDivChange n) s = .next s) ∧
  (∀ (s : State) (n : Nat), n < 24 → s.regsWf = true → s.get (OUT_STATUS_STATE n) = 2 → (s.outp n).pulse = false → (s.outp n).fall = none →
    2 ≤ s.get (OUT_DIV_DIV n) →
    let d := s.get (OUT_DIV_DIV n)
    ∃ t, exec (.outputDivChange n) s = .next t ∧ (t.outp n).div = d ∧ (t.outp n).coarse = s.get (OUT_DELAY_COARSE n) ∧
      (t.outp n).fine = fineNext (s.outp n).fine (s.get (OUT_DELAY_FINE n)) ∧ (t.outp n).high = true ∧
      (t.outp n).fall = some ((s.outp n).rise + (d + 1) / 2) ∧
      (s.outp n).rise + d ≤ (t.outp n).rise ∧ (t.outp n).rise < (s.outp n).rise + 2 * d ∧
      ((s.outSpan n).1.ceil + (t.outp n).rise - ((s.outp n).base + s.get (OUT_DELAY_COARSE n))) % (d : Int) = 0 ∧
      (∀ a, a ≠ OUT_EVT n → t.rd a = s.rd a) ∧ t.out = s.out ∧ t.axles = s.axles) ∧
  (∀ (s : State) (n : Nat), n < 24 → s.get (OUT_STATUS_STATE n) = 2 → (s.outp n).pulse = true → (s.outp n).stopping = false →
    s.get (OUT_PERIOD_PERIOD n) ≠ 0 →
    ∃ t, exec (.outputDivChange n) s = .next t ∧ (t.outp n).fine = fineNext (s.outp n).fine (s.get (OUT_DELAY_FINE n)) ∧
      (t.outp n).inside = true ∧ (t.outp n).trail = (s.outp n).lead + s.get (OUT_WIDTH_WIDTH n) * nsTime ∧
      (s.outp n).lead + s.get (OUT_PERIOD_PERIOD n) * nsTime ≤ (t.outp n).lead ∧
      (t.outp n).lead < (s.outp n).lead + 2 * (s.get (OUT_PERIOD_PERIOD n) * nsTime) ∧
      ((s.axleSpan ((s.outp n).src + 1)).1 + (t.outp n).lead - (s.outp n).phase * 2 ^ 16) %
        (s.get (OUT_PERIOD_PERIOD n) * nsTime) = 0 ∧ t.axles = s.axles)

/-- Setting and stepping a domain, its increment, second boundaries and snapshots; served time: its target, the end of its
slew and its return to the primary (R229, R231 to R234, R240, R241, R246). The model's choices it rests on: log entries 31,
79. -/
def Obligations.TimeCommandsComplete : Prop :=
  (∀ (s : State) (m : Master) (d : Nat) (v w : Word) (r : RegRow), d < 2 → s.verdict m (TIM_INC_HI d) = .row r → s.loopState d = 0 →
    writeFields r.fields (s.rd (TIM_INC_HI d)) v = (w, false) →
    let inc := (s.rd (TIM_INC_LO d)).toNat + fieldOf (TIM_INC_HI_INC_HI d) v * 2 ^ 32
    3516677990279 ≤ inc → inc ≤ 3520196427487 →
    exec (.incHiWrite m d v) s = .next (((s.answer m .ok).wr (TIM_INC_HI d) w).setInc d inc)) ∧
  (∀ (s : State) (m : Master) (d : Nat) (v : Word) (r : RegRow), d < 2 → s.verdict m (TIM_INC_HI d) = .row r → s.loopState d ≠ 0 →
    exec (.incHiWrite m d v) s = .next ((s.answer m .ok).refuseWrite m (TIM_INC_HI d))) ∧
  (∀ (s : State) (m : Master) (d : Nat) (v : Word) (r : RegRow), d < 2 → s.verdict m (TIM_CTRL d) = .row r → s.loopState d = 0 →
    v.getLsbD 0 = true → v.getLsbD 1 = false → v.getLsbD 2 = false →
    let c := s.getWide (TIM_SET_SEC_LO d) (TIM_SET_SEC_HI d) 16 * (10 ^ 9 * 2 ^ 40) + s.get (TIM_SET_NS_NS d) * 2 ^ 40
    exec (.set m d v) s = .next (((((s.answer m .ok).retime d c 0).raise (TIM_EVT_STEPPED d)).count (TIM_COUNT_C_STEPS d)).secValid d)) ∧
  (∀ (s : State) (m : Master) (d : Nat) (v : Word) (r : RegRow), d < 2 → s.verdict m (TIM_CTRL d) = .row r → s.loopState d ≠ 0 →
    v.getLsbD 0 = true → v.getLsbD 1 = false → v.getLsbD 2 = false →
    exec (.set m d v) s = .next (((s.answer m .ok).raise (TIM_EVT_CFG_ERR d)).refuseWrite m (TIM_CTRL d))) ∧
  (∀ (s : State) (m : Master) (d : Nat) (v : Word) (r : RegRow), d < 2 → s.verdict m (TIM_CTRL d) = .row r →
    v.getLsbD 0 = false → v.getLsbD 1 = false → v.getLsbD 2 = true → s.getI (TIM_STEP_SEC_STEP_SEC d) = 0 → s.loopState d = 0 →
    s.getI (TIM_STEP_NS_STEP_NS d) ≠ 0 →
    exec (.step m d v) s = .next ((s.answer m .ok).stepC d (s.getI (TIM_STEP_NS_STEP_NS d) * 2 ^ 40))) ∧
  (∀ (s : State) (m : Master) (d : Nat) (v : Word) (r : RegRow), d < 2 → s.verdict m (TIM_CTRL d) = .row r →
    v.getLsbD 0 = false → v.getLsbD 1 = false → v.getLsbD 2 = true → s.getI (TIM_STEP_SEC_STEP_SEC d) ≠ 0 →
    s.getI (TIM_STEP_NS_STEP_NS d) = 0 →
    exec (.step m d v) s = .next ((s.answer m .ok).retime d (s.dom d).c
      ((((s.dom d).e : Int) + s.getI (TIM_STEP_SEC_STEP_SEC d)) % (2 ^ 48 : Int)).toNat)) ∧
  (∀ (s : State) (m : Master) (d : Nat) (v : Word) (r : RegRow), d < 2 → s.verdict m (TIM_CTRL d) = .row r →
    v.getLsbD 0 = false → v.getLsbD 1 = true → v.getLsbD 2 = false →
    exec (.setSec m d v) s = .next ((s.answer m .ok).set (TIM_STATUS_SEC_PENDING d) 1)) ∧
  (∀ (s : State) (d : Nat), d < 2 → s.on (TIM_STATUS_SEC_PENDING d) = false → (s.dom d).shift = none → s.on TIM_SNAP_CTRL_TRIG = false →
    exec (.secondBoundary d) s = .next (s.setDom d (s.dom d))) ∧
  (∀ (s : State) (d : Nat) (x : Int), d < 2 → s.regsWf = true → s.on (TIM_STATUS_SEC_PENDING d) = false → (s.dom d).shift = some x →
    s.on TIM_SNAP_CTRL_TRIG = false →
    ∃ t, exec (.secondBoundary d) s = .next t ∧ (t.dom d).shift = none ∧ (t.dom d).c = (s.dom d).c % cSpan ∧
      ((t.dom d).e : Int) = ((s.dom d).e + x) % 2 ^ 48 ∧ t.get (TIM_EVT_TOD_CORR d) = 1) ∧
  (∀ (s : State) (d : Nat), d < 2 → s.regsWf = true → s.on (TIM_STATUS_SEC_PENDING d) = true → s.on TIM_SNAP_CTRL_TRIG = false →
    ∃ t, exec (.secondBoundary d) s = .next t ∧ (t.dom d).shift = none ∧ t.on (TIM_STATUS_SEC_PENDING d) = false ∧
      t.on (TIM_STATUS_SEC_VALID d) = true ∧ (t.dom d).c = (s.dom d).c % cSpan ∧
      ((t.dom d).e : Int) = (s.getWide (TIM_SET_SEC_LO d) (TIM_SET_SEC_HI d) 16 - s.boundarySec d) % 2 ^ 48) ∧
  (∀ s : State, s.on (TIM_STATUS_SEC_PENDING 0) = false → (s.dom 0).shift = none → s.on TIM_SNAP_CTRL_TRIG = true →
    exec (.secondBoundary 0) s = .next (s.setDom 0 (s.dom 0)).snapshot) ∧
  (∀ (s : State) (m : Master) (v w : Word) (r : RegRow), s.verdict m TIM_SNAP_CTRL = .row r →
    writeFields r.fields (s.rd TIM_SNAP_CTRL) v = (w, false) →
    let u := (s.answer m .ok).wr TIM_SNAP_CTRL w
    u.on TIM_SNAP_CTRL_TAKE = true →
    exec (.snapshot m v) s = .next (u.set TIM_SNAP_CTRL_TAKE 0).snapshot) ∧
  (∀ (s : State) (m : Master) (v w : Word) (r : RegRow), s.verdict m (TIM_SRV_TGT_HI 0) = .row r →
    writeFields r.fields (s.rd (TIM_SRV_TGT_HI 0)) v = (w, false) →
    let u := (s.answer m .ok).wr (TIM_SRV_TGT_HI 0) w
    let u := { u with tim := { u.tim with tgtA := u.getWideI (TIM_SRV_TGT_LO 0) (TIM_SRV_TGT_HI 0) 16 } }
    exec (.targetHiWrite m 0 v) s = .next (u.setAcc s.tim.acc)) ∧
  (∀ (s : State) (m : Master) (v w : Word) (r : RegRow), s.verdict m (TIM_SRV_TGT_HI 1) = .row r →
    writeFields r.fields (s.rd (TIM_SRV_TGT_HI 1)) v = (w, false) →
    let u := (s.answer m .ok).wr (TIM_SRV_TGT_HI 1) w
    let u := { u with tim := { u.tim with tgtB := u.getWideI (TIM_SRV_TGT_LO 1) (TIM_SRV_TGT_HI 1) 16 } }
    exec (.targetHiWrite m 1 v) s = .next (u.setAcc s.tim.acc)) ∧
  (∀ s : State, s.on TIM_SRV_STATUS_VALID = true → s.get TIM_SRV_RATE_RATE ≠ 0 →
    ∃ t, exec .servedSlewEnd s = .next t ∧ t.tim.acc = s.srvTarget s.srvSrc ∧ t.tim.a = s.tim.a ∧ t.tim.b = s.tim.b ∧
      (s.regsWf = true → t.get TIM_SRV_STATUS_SLEWING = 0)) ∧
  (∀ s : State, s.on TIM_SRV_STATUS_VALID = false → exec .servedSlewEnd s = .next s) ∧
  (∀ s : State, s.on TIM_SRV_CFG_AUTO = true → s.srvSrc ≠ s.get TIM_SRV_CFG_SRC → s.on TIM_SRV_CFG_REVERT = true →
    s.loopState (s.get TIM_SRV_CFG_SRC) = 2 → s.on (TIM_STATUS_SEC_VALID (s.get TIM_SRV_CFG_SRC)) = true →
    exec .servedRevert s = .next (s.setSrc (s.get TIM_SRV_CFG_SRC))) ∧
  (∀ s : State, s.on TIM_SRV_CFG_REVERT = false → exec .servedRevert s = .next s)

/-- A port's calibration, and the registers of a session: enabling, disabling and rebinding it (R269, R270, R277, R280,
R281). The model's choices it rests on: log entries 33, 35, 93. -/
def Obligations.CalibrationAndSessionsComplete : Prop :=
  (∀ (s : State) (p : Nat) (samples : List Nat), p < 48 → s.tseOn = true → samples.length = 256 →
    let x : Rat := (samples.sum : Nat) / (256 : Rat)
    let new := fine (s.calLatency p true + calWeight * (x - s.calLatency p true))
    let u := { s with tse := { s.tse with lat := smPut s.tse.lat (2 * p) (some new) } }
    exec (.laneCalibrationPath p true samples) s = .next (u.set (TSE_PORT_LAT_TX_LAT p) (wrapTo 32 (roundAway new)))) ∧
  (∀ (s : State) (p : Nat) (samples : List Nat), p < 48 → s.tseOn = true → samples.length = 256 →
    let x : Rat := (samples.sum : Nat) / (256 : Rat)
    let new := fine (s.calLatency p false + calWeight * (x - s.calLatency p false))
    let u := { s with tse := { s.tse with lat := smPut s.tse.lat (2 * p + 1) (some new) } }
    exec (.laneCalibrationPath p false samples) s = .next (u.set (TSE_PORT_LAT_RX_LAT p) (wrapTo 32 (roundAway new)))) ∧
  (∀ (s : State) (p : Nat), p < 48 → s.tseOn = true → s.on (TSE_PORT_STATUS_CAL_OK p) = false → s.lockSeen p = true →
    exec (.calOkSet p) s = .next ((s.set (TSE_PORT_STATUS_CAL_OK p) 1).sessionsEval p)) ∧
  (∀ (s : State) (p : Nat), s.on (TSE_PORT_STATUS_CAL_OK p) = true → exec (.calOkSet p) s = .next s) ∧
  (∀ (s : State) (m : Master) (k : Nat) (v w : Word) (r : RegRow), k < 192 → s.verdict m (SESS_CFG k) = .row r →
    s.on (SESS_CFG_ENABLE k) = false → v.getLsbD 0 = true → (writeFields r.fields (s.rd (SESS_CFG k)) v).2 = false →
    writeFields r.fields (s.rd (SESS_CFG k)) (keepField s (SESS_CFG_ENABLE k) v) = (w, false) →
    let u := (s.answer m .ok).wr (SESS_CFG k) w
    u.laneOfFat (u.get (SESS_CFG_PORT k)) = false → u.sessTwin k = false →
    let u := ((u.set (SESS_CFG_ENABLE k) 1).wr (SESS_COUNT k) 0).sessClear k
    exec (.sessionEnableWrite m k v) s = .next (u.setSessState k (if u.get (SESS_CFG_ROLE k) = 0 then 2 else 1))) ∧
  (∀ (s : State) (m : Master) (k : Nat) (v w : Word) (r : RegRow), k < 192 → s.verdict m (SESS_CFG k) = .row r →
    s.on (SESS_CFG_ENABLE k) = true → v.getLsbD 0 = false →
    writeFields r.fields (s.rd (SESS_CFG k)) (keepField s (SESS_CFG_ENABLE k) v) = (w, false) →
    exec (.sessionEnableWrite m k v) s = .next
      (((((s.answer m .ok).wr (SESS_CFG k) w).set (SESS_CFG_ENABLE k) 0).sessClear k).setSessState k 0)) ∧
  (∀ (s : State) (m : Master) (k : Nat) (v w : Word) (r : RegRow), k < 192 → s.verdict m (SESS_CFG k) = .row r →
    s.on (SESS_CFG_ENABLE k) = true → v.getLsbD 0 = true → (sessGuarded k).any (fun f => changes s f v) = false →
    writeFields r.fields (s.rd (SESS_CFG k)) (keepField s (SESS_CFG_ENABLE k) v) = (w, false) →
    let u := (s.answer m .ok).wr (SESS_CFG k) w
    exec (.rebind m k v) s = .next ((u.sessClear k).setSessState k (if u.get (SESS_CFG_ROLE k) = 0 then 2 else 1)))

/-- What a session sends and hears (R273, R278 to R280). The model's choices it rests on: log entries 34, 35. -/
def Obligations.PtpMessagesComplete : Prop :=
  (∀ (s : State) (k : Nat), k < 192 → s.sessSends k = true → s.get (SESS_STATUS_STATE k) = 2 → s.get (SESS_CFG_ROLE k) = 0 →
    s.on (SESS_CFG_TWO_STEP k) = false →
    let t := s.sessTx k
    let u := s.setSess k { s.sess k with syncSeq := ((s.sess k).syncSeq + 1) % 65536 }
    exec (.syncTransmit k) s = .next (u.ptpSend k 0 (s.sess k).syncSeq false (t - t % 65536) (t % 65536) 0)) ∧
  (∀ (s : State) (k : Nat), k < 192 → s.sessSends k = true → s.get (SESS_STATUS_STATE k) = 2 → s.get (SESS_CFG_ROLE k) = 0 →
    s.on (SESS_CFG_TWO_STEP k) = true →
    let t := s.sessTx k
    let u := s.setSess k { s.sess k with syncSeq := ((s.sess k).syncSeq + 1) % 65536 }
    exec (.syncTransmit k) s = .next ((u.ptpSend k 0 (s.sess k).syncSeq true 0 0 0).ptpSend k 8 (s.sess k).syncSeq false
      (t - t % 65536) (t % 65536) 0)) ∧
  (∀ (s : State) (k : Nat), s.get (SESS_CFG_ROLE k) ≠ 0 → exec (.syncTransmit k) s = .next s) ∧
  (∀ (s : State) (k : Nat), k < 192 → s.sessSends k = true → s.get (SESS_CFG_DELAY k) = 0 → s.get (SESS_CFG_ROLE k) = 1 →
    let x := s.sess k
    let u := s.setSess k { x with reqSeq := (x.reqSeq + 1) % 65536, reqs := x.reqs ++ [(x.reqSeq, s.sessTx k)] }
    exec (.delayReqTransmit k) s = .next (u.ptpSend k 1 x.reqSeq false 0 0 0)) ∧
  (∀ (s : State) (k : Nat), k < 192 → s.sessSends k = true → s.get (SESS_CFG_DELAY k) = 1 →
    let x := s.sess k
    let u := s.setSess k { x with reqSeq := (x.reqSeq + 1) % 65536, reqs := x.reqs ++ [(x.reqSeq, s.sessTx k)] }
    exec (.delayReqTransmit k) s = .next (u.ptpSend k 2 x.reqSeq false 0 0 0)) ∧
  (∀ (s : State) (k : Nat) (msg : PtpMsg) (t2 : Int), k < 192 → s.get (SESS_STATUS_STATE k) ≠ 0 → s.get (SESS_CFG_ROLE k) = 1 →
    s.tseOn = true → s.fromPeer k msg = true → msg.followUp = false → msg.twoStep = false → (s.sess k).pend = none →
    s.heardAt k msg = some t2 →
    exec (.syncReceive k msg) s = .next (s.sessSync k (msg.ts + msg.corr) t2)) ∧
  (∀ (s : State) (k : Nat) (msg : PtpMsg) (t2 : Int), k < 192 → s.get (SESS_STATUS_STATE k) ≠ 0 → s.get (SESS_CFG_ROLE k) = 1 →
    s.tseOn = true → s.fromPeer k msg = true → msg.followUp = false → msg.twoStep = true → (s.sess k).pend = none →
    s.heardAt k msg = some t2 →
    exec (.syncReceive k msg) s = .next (s.setSess k { s.sess k with pend := some (msg.seq, msg.corr, t2) })) ∧
  (∀ (s : State) (k : Nat) (msg : PtpMsg) (corr t2 : Int), k < 192 → s.get (SESS_STATUS_STATE k) ≠ 0 → s.get (SESS_CFG_ROLE k) = 1 →
    s.tseOn = true → s.fromPeer k msg = true → msg.followUp = true → (s.sess k).pend = some (msg.seq, corr, t2) →
    exec (.syncReceive k msg) s = .next (s.sessSync k (msg.ts + msg.corr + corr) t2)) ∧
  (∀ (s : State) (k : Nat) (msg : PtpMsg) (t : Int), k < 192 → s.get (SESS_STATUS_STATE k) = 2 → s.get (SESS_CFG_ROLE k) = 0 →
    s.sessSends k = true → s.heardAt k msg = some t →
    exec (.delayReqReceive k msg) s = .next (s.ptpSend k 9 msg.seq false (t - t % 65536) (msg.corr - t % 65536) msg.src)) ∧
  (∀ (s : State) (k : Nat) (msg : PtpMsg) (seq : Nat) (t3 t1 t2 : Int), k < 192 → s.get (SESS_STATUS_STATE k) ≠ 0 →
    s.get (SESS_CFG_ROLE k) = 1 → s.get (SESS_CFG_DELAY k) = 0 → s.tseOn = true →
    (s.sess k).reqs.find? (fun q => q.1 == msg.seq) = some (seq, t3) → (s.sess k).sync = some (t1, t2) →
    exec (.delayRespReceive k msg) s = .next ((s.setSess k { s.sess k with reqs := (s.sess k).reqs.erase (seq, t3) }).sessExchange k
      (((t2 - t1 + (msg.ts - msg.corr - t3) : Int) : Rat) / 2))) ∧
  (∀ (s : State) (k : Nat) (msg : PtpMsg) (t2 : Int), k < 192 → s.get (SESS_CFG_DELAY k) = 1 → s.sessSends k = true →
    s.heardAt k msg = some t2 →
    let t3 := s.sessTx k
    exec (.pdelayReqReceive k msg) s = .next ((s.ptpSend k 3 msg.seq true (t2 - t2 % 65536) (-(t2 % 65536)) msg.src).ptpSend k 10
      msg.seq false (t3 - t3 % 65536) (msg.corr + t3 % 65536) msg.src)) ∧
  (∀ (s : State) (k : Nat) (msg : PtpMsg) (seq : Nat) (t1 t4 : Int), k < 192 → s.get (SESS_STATUS_STATE k) ≠ 0 →
    s.get (SESS_CFG_DELAY k) = 1 → s.tseOn = true → (s.sess k).reqs.find? (fun q => q.1 == msg.seq) = some (seq, t1) →
    msg.followUp = false → msg.twoStep = false → s.heardAt k msg = some t4 →
    exec (.pdelayRespReceive k msg) s = .next ((s.setSess k { s.sess k with reqs := (s.sess k).reqs.erase (seq, t1) }).sessExchange k
      (((t4 - t1 - msg.corr : Int) : Rat) / 2))) ∧
  (∀ (s : State) (k : Nat) (q : Nat × Int) (qs : List (Nat × Int)), k < 192 → (s.sess k).reqs = q :: qs → (s.sess k).presp = none →
    exec (.delayRespTimeout k) s = .next ((s.setSess k { s.sess k with reqs := qs }).count (SESS_COUNT_DISCARDS k))) ∧
  (∀ (s : State) (k : Nat), (s.sess k).reqs = [] → exec (.delayRespTimeout k) s = .next s) ∧
  (∀ (s : State) (k : Nat), k < 192 → s.get (SESS_STATUS_STATE k) = 2 → s.get (SESS_CFG_ROLE k) ≠ 0 →
    exec (.syncTimeout k) s = .next (((s.raise (SESS_STATUS_TIMEOUT_EVT k)).count (SESS_COUNT_TIMEOUTS k)).setSessState k 3)) ∧
  (∀ (s : State) (k : Nat), s.get (SESS_CFG_ROLE k) = 0 → exec (.syncTimeout k) s = .next s)

/-- The transmit stamp queue and ESMC (R275, R284 to R286). The Announce turn of a PTP instance: with no instance,
coachman A idle or the engine stopped nothing happens; else coachman A runs the BMCA of the instance, an Announce message
leaves each PTP port that is UP in MASTER, and a G.8275.2 slave asks for the unicast messages no grant stands for (R265,
R283; what the messages hold is the model's, log entry 36). -/
def Obligations.StampsEsmcAndAnnounceComplete : Prop :=
  (∀ (s : State) (m : Master) (r : RegRow), s.verdict m TSE_TXTS_0 = .row r → s.tse.queue = [] →
    exec (.txtsPop m) s = .next (s.answer m (.data 0))) ∧
  (∀ (s : State) (m : Master) (r : RegRow) (e : TxStamp) (q : List TxStamp), s.regsWf = true → s.verdict m TSE_TXTS_0 = .row r →
    s.tse.queue = e :: q → q.length < 512 →
    ∃ t, exec (.txtsPop m) s = .next t ∧ t.tse = { s.tse with queue := q } ∧ t.get TSE_TXTS_STATUS_LEVEL = q.length ∧
      t.replyOf m = .data (packWord [(1, 31), (e.port, 16), (e.domainNum, 8), (e.msgType, 4), (e.dom, 0)]) ∧
      t.shadowOf m TSE_TXTS_0 = [packWord [(e.seqId, 16), (stampSub e.stamp, 0)], BitVec.ofNat 32 (stampNs e.stamp),
        BitVec.ofNat 32 (stampSec e.stamp), BitVec.ofNat 32 (stampSec e.stamp / 2 ^ 32 % 2 ^ 16)] ∧
      ∀ a, a ≠ TSE_TXTS_STATUS → t.rd a = s.rd a) ∧
  (∀ (s : State) (p ssm : Nat) (essm : Option Nat), p < 48 → (s.getWide TSE_ESMC_RX_LO TSE_ESMC_RX_HI 16).testBit p = true →
    s.get (PRT_STATUS_STATE p) = 3 → s.fwRuns = true →
    exec (.esmcPduReceive p ssm essm) s = .next ((s.set (TSE_PORT_STATUS_ESMC_TIMEOUT p) 0).setQl p
      (qlRank (s.on TSE_ESMC_CFG_OPTION) (s.on TSE_ESMC_CFG_ENHANCED) ssm essm))) ∧
  (∀ (s : State) (p ssm : Nat) (essm : Option Nat), (s.getWide TSE_ESMC_RX_LO TSE_ESMC_RX_HI 16).testBit p = false →
    exec (.esmcPduReceive p ssm essm) s = .next s) ∧
  (∀ (s : State) (p : Nat), p < 48 → (s.getWide TSE_ESMC_RX_LO TSE_ESMC_RX_HI 16).testBit p = true → s.fwRuns = true →
    exec (.esmcTimeout p) s = .next ((s.set (TSE_PORT_STATUS_ESMC_TIMEOUT p) 1).setQl p 0)) ∧
  (∀ s : State, exec .esmcInfoTransmit s = .next (s.each s.esmcPorts (State.esmcSend 0))) ∧
  (∀ s : State, exec .esmcEventTransmit s = .next (s.each (s.esmcPorts.filter fun p => smAt s.tse.sentRank p != s.sentQl p)
    (State.esmcSend 1))) ∧
  (∀ (s : State) (p ssm : Nat) (essm : Option Nat), s.fwRuns = false →
    exec (.esmcPduReceive p ssm essm) s = .next s ∧ exec (.esmcTimeout p) s = .next s) ∧
  (∀ (s : State) (domain : Nat), smAt s.tse.insts domain = none → exec (.announceTransmit domain) s = .next s) ∧
  (∀ (s : State) (domain : Nat), s.fwRuns = false → exec (.announceTransmit domain) s = .next s) ∧
  (∀ (s : State) (domain : Nat), s.tseOn = false → exec (.announceTransmit domain) s = .next s) ∧
  (∀ (s : State) (domain : Nat) (x : PtpInst), smAt s.tse.insts domain = some x → s.fwRuns = true → s.tseOn = true →
    let u := s.bmcaRun domain x
    let ks := (u.instSessions domain).filter fun k => u.get (PRT_STATUS_STATE (u.get (SESS_CFG_PORT k))) == 3
    let v := u.each (ks.filter fun k => u.get (SESS_CFG_ROLE k) == 0) fun k t => t.announceSend k (u.announced domain x)
    exec (.announceTransmit domain) s = .next
      (if x.profile = 3 then v.each (ks.filter fun k => v.get (SESS_CFG_ROLE k) == 1) State.signalAsk else v)) ∧
  (∀ (s : State) (domain k : Nat) (x : PtpInst), k ∈ s.instSessions domain → x.slaveOnly = true →
    (s.instSessions domain).filterMap (fun j => s.portBest x j) = [] → s.bmcaRole x domain k = some 1)



/-- The best master of those heard is one of them, and none of them is better: the default algorithm and the alternate one of
G.8275 order data sets (R265, R283; the order itself is the model's reading, log entry 36). -/
def Obligations.BestMasterIsBest : Prop :=
  (∀ (x : PtpInst) (fs : List Foreign), x.best fs = none ↔ fs = []) ∧
  (∀ (x : PtpInst) (fs : List Foreign) (f : Foreign), x.best fs = some f →
    f ∈ fs ∧ ∀ g ∈ fs, x.better g f = false) ∧
  (∀ (x : PtpInst) (f g : Foreign), x.better f g = true → x.better g f = false)

/-- What the coupling layer of a port does (R287, R290, R291, R294, R295, R299 to R301). The model's choices it rests on:
log entry 38. -/
def Obligations.CouplingCommandsComplete : Prop :=
  (∀ (s : State) (m : Master) (p : Nat) (v w : Word) (r : RegRow), p < 48 → s.verdict m (CPL_PORT_CFG p) = .row r →
    s.on (CPL_PORT_CFG_ENABLE p) = false → v.getLsbD 0 = true → (writeFields r.fields (s.rd (CPL_PORT_CFG p)) v).2 = false →
    writeFields r.fields (s.rd (CPL_PORT_CFG p)) (keepField s (CPL_PORT_CFG_ENABLE p) v) = (w, false) →
    let u := (s.answer m .ok).wr (CPL_PORT_CFG p) w
    u.cplRate p = true →
    exec (.cplPortEnableWrite m p v) s = .next
      (((((u.set (CPL_PORT_CFG_ENABLE p) 1).wr (CPL_PORT_COUNT p) 0).wr (CPL_PORT_COUNT2 p) 0).cplForget p).setCplState p 1)) ∧
  (∀ (s : State) (m : Master) (p : Nat) (v w : Word) (r : RegRow), p < 48 → s.verdict m (CPL_PORT_CFG p) = .row r →
    s.on (CPL_PORT_CFG_ENABLE p) = true → v.getLsbD 0 = false →
    writeFields r.fields (s.rd (CPL_PORT_CFG p)) (keepField s (CPL_PORT_CFG_ENABLE p) v) = (w, false) →
    exec (.cplPortEnableWrite m p v) s = .next
      (((((s.answer m .ok).wr (CPL_PORT_CFG p) w).set (CPL_PORT_CFG_ENABLE p) 0).cplForget p).setCplState p 0)) ∧
  (∀ (s : State) (p : Nat) (bytes : List Octet), p < 48 → s.get (CPL_PORT_STATUS_STATE p) ≠ 0 → s.cplOn = true →
    fromBE (slice bytes 12 2) = 0x88B5 → bytes.length ≠ 60 →
    exec (.helloReceive p bytes) s = .next (s.count (CPL_PORT_COUNT2_BAD_HELLOS p))) ∧
  (∀ (s : State) (p : Nat) (bytes : List Octet), p < 48 → s.get (CPL_PORT_STATUS_STATE p) = 1 → s.cplOn = true →
    s.on (CPL_PORT_STATUS_SEEN p) = true → bytes.length = 60 → fromBE (slice bytes 12 2) = 0x88B5 → fromBE (slice bytes 14 4) = 0x515A4350 →
    fromBE (slice bytes 18 1) = 1 → fromBE (slice bytes 19 1) = 1 → fromBE (slice bytes 22 2) ≠ s.get CPL_NODE_ID →
    (fromBE (slice bytes 20 1)).testBit 0 = true →
    let u := (s.set (CPL_PORT_FAR_ID_FAR_NODE p) (fromBE (slice bytes 22 2))).set (CPL_PORT_FAR_ID_FAR_GM p) (fromBE (slice bytes 24 2))
    let u := (u.set (CPL_PORT_FAR_INFO_FAR_HOP p) (fromBE (slice bytes 21 1))).set (CPL_PORT_FAR_INFO_FAR_PORT p)
      (fromBE (slice bytes 26 1))
    let u := (u.setB (CPL_PORT_STATUS_FAR_GM p) ((fromBE (slice bytes 20 1)).testBit 1)).setB (CPL_PORT_STATUS_FAR_TRACE p)
      ((fromBE (slice bytes 20 1)).testBit 2)
    u.on (CPL_PORT_STATUS_SEEN p) = true →
    exec (.helloReceive p bytes) s = .next ((u.set (CPL_PORT_STATUS_SEEN p) 1).nodeEval.setCplState p 2)) ∧
  (∀ (s : State) (p : Nat), p < 48 → (s.get (CPL_PORT_STATUS_STATE p) = 1 ∨ s.get (CPL_PORT_STATUS_STATE p) = 2) → s.cplOn = true →
    s.lockSeen p = true → exec (.helloTransmit p) s = .next (s.helloSend p)) ∧
  (∀ (s : State) (p : Nat), s.lockSeen p = false → exec (.helloTransmit p) s = .next s) ∧
  (∀ (s : State) (p : Nat), p < 48 → 2 ≤ s.get (CPL_PORT_STATUS_STATE p) → s.cplOn = true → (s.sout p).tx = none →
    let u := s.setCplPort p { s.cplPort p with due := some s.cyc }
    exec (.markerDue p) s = .next ((u.markerPlace p).placeWords p 8)) ∧
  (∀ (s : State) (p : Nat), p < 48 → 2 ≤ s.get (CPL_PORT_STATUS_STATE p) → s.cplOn = true → (s.sout p).tx ≠ none →
    exec (.markerDue p) s = .next (s.setCplPort p { s.cplPort p with due := some s.cyc })) ∧
  (∀ (s : State) (p : Nat), (s.cplPort p).due = none → exec (.markerNotSent p) s = .next s) ∧
  (∀ (s : State) (p : Nat), p < 48 → (s.cplPort p).due ≠ none →
    exec (.markerNotSent p) s = .next ((s.setCplPort p { s.cplPort p with
      due := none, txSeq := ((s.cplPort p).txSeq + 1) % 65536 }).raise (CPL_PORT_EVT_MAIL_BLOCKED p))) ∧
  (∀ (s : State) (p : Nat) (blocks : List Nat) (bytes : List Octet) (m : RxMark), p < 48 → 2 ≤ s.get (CPL_PORT_STATUS_STATE p) →
    s.cplOn = true → messageOf blocks = some bytes → fromBE (slice bytes 44 4) = crc32 (bytes.take 44) →
    (s.cplPort p).rxSeq ≠ some (fromBE (slice bytes 0 2)) → fromBE (slice bytes 4 2) ≠ s.get CPL_NODE_ID →
    exec (.couplingMessageReceive p blocks m) s = .next (s.cplValid p bytes m)) ∧
  (∀ (s : State) (p : Nat) (blocks : List Nat) (bytes : List Octet) (m : RxMark), p < 48 → 2 ≤ s.get (CPL_PORT_STATUS_STATE p) →
    s.cplOn = true → messageOf blocks = some bytes → fromBE (slice bytes 44 4) ≠ crc32 (bytes.take 44) →
    let u := (s.count (CPL_PORT_COUNT_CRC_ERRS p)).raise (CPL_PORT_EVT_CRC_ERR p)
    exec (.couplingMessageReceive p blocks m) s = .next (u.setCplPort p { s.cplPort p with validRun := 0 })) ∧
  (∀ (s : State) (p : Nat) (blocks : List Nat) (m : RxMark), p < 48 → 2 ≤ s.get (CPL_PORT_STATUS_STATE p) → s.cplOn = true →
    messageOf blocks = none →
    exec (.couplingMessageReceive p blocks m) s = .next (s.setCplPort p { s.cplPort p with validRun := 0 })) ∧
  (∀ (s : State) (p : Nat), p < 48 → 2 ≤ s.get (CPL_PORT_STATUS_STATE p) →
    exec (.missLimit p) s = .next (((s.countBy (CPL_PORT_COUNT_LOST p) (s.get (CPL_PORT_CFG_MISS_LIMIT p))).raise
      (CPL_PORT_EVT_MSG_LOST p)).setCplState p 1)) ∧
  (∀ (s : State) (p : Nat), s.get (CPL_PORT_STATUS_STATE p) < 2 → exec (.missLimit p) s = .next s) ∧
  (∀ (s : State) (m : Master) (l : Nat) (v w : Word) (r : RegRow), l < 4 → s.verdict m (CPL_FEED_CFG l) = .row r →
    writeFields r.fields (s.rd (CPL_FEED_CFG l)) v = (w, false) →
    let u := (s.answer m .ok).wr (CPL_FEED_CFG l) w
    u.get (CPL_FEED_CFG_PORT l) ≠ s.get (CPL_FEED_CFG_PORT l) → u.fed l = true →
    exec (.transfer m l v) s = .next (u.setFeed l { s.feed l with transfer := true }).nodeEval) ∧
  (∀ (s : State) (m : Master) (v w : Word) (r : RegRow), s.verdict m CPL_NODE = .row r →
    ((List.range 48).all fun p => !s.on (CPL_PORT_CFG_ENABLE p)) = true → writeFields r.fields (s.rd CPL_NODE) v = (w, false) →
    exec (.cplNodeWrite m v) s = .next ((s.answer m .ok).wr CPL_NODE w).nodeEval) ∧
  (∀ (s : State) (l : Nat), l < 4 → (s.feed l).bf.natAbs ≤ (s.rd CPL_BLEED).toNat →
    exec (.feedBleedEnd l) s = .next ((s.setFeed l { s.feed l with bf := 0 }).setI (CPL_FEED_BO_BO l) 0)) ∧
  (∀ (s : State) (l : Nat), (s.rd CPL_BLEED).toNat < (s.feed l).bf.natAbs → exec (.feedBleedEnd l) s = .next s)

/-- A message placed on the line as coupling words is the message the far end reads from their blocks (R292, R293, R295). -/
def Obligations.CouplingWordsAgree : Prop :=
  ∀ bytes : List Octet, bytes.length = 48 →
    messageOf ((messageWords bytes).map fun w => couplingBlock w.1 w.2) = some bytes ∧
    ∀ w ∈ messageWords bytes, wordOf (couplingBlock w.1 w.2) = some w ∧ couplingBlock w.1 w.2 < 2 ^ 66 ∧
      couplingBlock w.1 w.2 % 256 = 0x4B ∧ couplingBlock w.1 w.2 / 2 ^ 32 % 16 = 5 ∧ couplingBlock w.1 w.2 / 2 ^ 64 = 2

/-- What a gauge channel does (R250, R253 to R260, R263). The model's choices it rests on: log entry 32. -/
def Obligations.GaugeCommandsComplete : Prop :=
  (∀ (s : State) (m : Master) (n : Nat) (v w : Word) (r : RegRow), n < 64 → s.verdict m (GAU_CFG n) = .row r →
    s.on (GAU_CFG_ENABLE n) = false → v.getLsbD 0 = true → fieldOf (GAU_CFG_SRC n) v ≠ defaultSource n →
    sourceCode (fieldOf (GAU_CFG_SRC n) v) = true → sourceCode (fieldOf (GAU_CFG_STOP_SRC n) v) = true →
    writeFields r.fields (s.rd (GAU_CFG n)) (keepField s (GAU_CFG_ENABLE n) v) = (w, false) →
    let u := (s.answer m .ok).wr (GAU_CFG n) w
    u.on (GAU_CFG_MODE n) = false →
    exec (.gaugeEnableWrite m n v) s = .next
      ((((((u.wr (GAU_COUNT n) 0).wr (GAU_COUNT2 n) 0).wr (GAU_COUNT3 n) 0).set (GAU_CFG_ENABLE n) 1).gaugeFresh n).gaugeLines n)) ∧
  (∀ (s : State) (m : Master) (n : Nat) (v w : Word) (r : RegRow), n < 64 → s.verdict m (GAU_CFG n) = .row r →
    s.on (GAU_CFG_ENABLE n) = true → v.getLsbD 0 = false → fieldOf (GAU_CFG_SRC n) v ≠ defaultSource n →
    sourceCode (fieldOf (GAU_CFG_SRC n) v) = true → sourceCode (fieldOf (GAU_CFG_STOP_SRC n) v) = true →
    writeFields r.fields (s.rd (GAU_CFG n)) (keepField s (GAU_CFG_ENABLE n) v) = (w, false) →
    exec (.gaugeEnableWrite m n v) s = .next
      (((((s.answer m .ok).wr (GAU_CFG n) w).set (GAU_CFG_ENABLE n) 0).statEnd n true).gaugeFresh n |>.gaugeLines n)) ∧
  (∀ (s : State) (n src : Nat) (e : Edge), (s.gaugeStopped n = true ∨ s.gaugeSource n ≠ src ∨ s.signal src = false ∨
      e.falling ≠ s.startFalling n) → exec (.startEdge n src e) s = .next s) ∧
  (∀ (s : State) (n src : Nat) (e : Edge) (x : Nat), n < 64 →
    s.sees n src (s.gaugeSource n) e.falling (s.startFalling n) (s.gauge n).seenStart e.time = true → (s.gauge n).gate = none →
    (s.gauge n).held = [] → s.on GAU_GLB_STATUS_THROTTLED = false → (s.gauge n).lastStart = some x → e.time < x + 1024000 →
    let g := { s.gauge n with seenStart := some e.time, count := (s.gauge n).count + 1 }
    exec (.startEdge n src e) s = .next ((((s.setGauge n g).count (GAU_COUNT_MISSED n)).raise (GAU_EVT_MISSED n)).setGauge n
      { g with lost := true })) ∧
  (∀ (s : State) (n src : Nat) (e : Edge) (x : Nat), n < 64 →
    s.sees n src (s.gaugeSource n) e.falling (s.startFalling n) (s.gauge n).seenStart e.time = true → (s.gauge n).gate = none →
    (s.gauge n).held = [] → s.on GAU_GLB_STATUS_THROTTLED = false → (s.gauge n).lastStart = some x → x + 1024000 ≤ e.time →
    e.time < x + 2048 * s.get (GAU_HOLDOFF_HOLDOFF n) →
    let g := { s.gauge n with seenStart := some e.time, count := (s.gauge n).count + 1 }
    exec (.startEdge n src e) s = .next (((s.setGauge n g).count (GAU_COUNT2_IGNORED n)).setGauge n { g with lost := true })) ∧
  (∀ (s : State) (n src : Nat) (e : Edge) (x : Nat), n < 64 →
    s.sees n src (s.gaugeSource n) e.falling (s.startFalling n) (s.gauge n).seenStart e.time = true → (s.gauge n).gate = none →
    (s.gauge n).held = [] → s.on GAU_GLB_STATUS_THROTTLED = true → (s.gauge n).lastStart = some x → e.time < x + 10240000 →
    let g := { s.gauge n with seenStart := some e.time, count := (s.gauge n).count + 1 }
    exec (.startEdge n src e) s = .next (((s.setGauge n g).count (GAU_COUNT2_SKIPPED n)).setGauge n { g with lost := true })) ∧
  (∀ (s : State) (n src : Nat) (e : Edge), n < 64 →
    s.sees n src (s.gaugeSource n) e.falling (s.startFalling n) (s.gauge n).seenStart e.time = true → (s.gauge n).gate = none →
    (s.gauge n).held = [] → (s.gauge n).lastStart = none → (s.gauge n).conv = none → s.on (GAU_CFG_MODE n) = false →
    exec (.startEdge n src e) s = .next (s.setGauge n { s.gauge n with
      conv := some (s.edgeStamp n e.time (!(s.gauge n).lost)), lastStart := some e.time, seenStart := some e.time, lost := false
      count := (s.gauge n).count + 1, marks := (((s.gauge n).count + 1, e.time) :: (s.gauge n).marks).take 256 })) ∧
  (∀ (s : State) (n src : Nat) (e : Edge), n < 64 →
    s.sees n src (s.gaugeSource n) e.falling (s.startFalling n) (s.gauge n).seenStart e.time = true → (s.gauge n).gate = none →
    (s.gauge n).held = [] → (s.gauge n).lastStart = none → (s.gauge n).conv = none → s.on (GAU_CFG_MODE n) = true →
    (s.gauge n).stop = none →
    let b := s.edgeStamp n e.time (!(s.gauge n).lost)
    exec (.startEdge n src e) s = .next ((s.setGauge n { s.gauge n with
      conv := some b, lastStart := some e.time, seenStart := some e.time, lost := false, count := (s.gauge n).count + 1
      marks := (((s.gauge n).count + 1, e.time) :: (s.gauge n).marks).take 256
      gate := some (b, 2048 * (s.rd (GAU_TOLL n)).toNat) }).set (GAU_STATUS_TOLL_OPEN n) 1)) ∧
  (∀ (s : State) (n src : Nat) (e : Edge) (b : Taken1) (w : Nat), n < 64 → s.on (GAU_CFG_MODE n) = true →
    s.sees n src (s.get (GAU_CFG_STOP_SRC n)) e.falling (s.on (GAU_CFG_STOP_EDGE n)) (s.gauge n).seenStop e.time = true →
    (s.gauge n).gate = some (b, w) → b.t < e.time → e.time ≤ b.t + w → (s.gauge n).lastStop = none → (s.gauge n).held = [] →
    (s.gauge n).sconv = none →
    let x := s.edgeStamp n e.time true
    exec (.stopEdge n src e) s = .next ((s.setGauge n { s.gauge n with
      sconv := some x, lastStop := some e.time, seenStop := some e.time, stop := some x, paired := true, gate := none
      ivl := some (x.stamp - b.stamp, e.time + 768000) }).set (GAU_STATUS_TOLL_OPEN n) 0)) ∧
  (∀ (s : State) (n src : Nat) (e : Edge), (s.on (GAU_CFG_MODE n) = false ∨ s.gaugeStopped n = true ∨ s.get (GAU_CFG_STOP_SRC n) ≠ src ∨
      s.signal src = false ∨ e.falling ≠ s.on (GAU_CFG_STOP_EDGE n)) → exec (.stopEdge n src e) s = .next s) ∧
  (∀ (s : State) (n : Nat) (e : Taken1), n < 64 → s.gaugeStopped n = false → (s.gauge n).conv = some e → (s.gauge n).sconv = none →
    s.on (GAU_CFG_MODE n) = false →
    exec (.conversionComplete n) s = .next ((s.setGauge n { s.gauge n with conv := none }).stampDone n e)) ∧
  (∀ (s : State) (n : Nat), (s.gauge n).conv = none → (s.gauge n).sconv = none → exec (.conversionComplete n) s = .next s) ∧
  (∀ (s : State) (n w : Nat) (b p : Taken1), n < 64 → s.gaugeStopped n = false → (s.gauge n).gate = some (b, w) →
    (s.gauge n).stop = some p → (s.gauge n).paired = false → p.t + 1 < b.t → b.t ≤ p.t + w → (s.gauge n).conv ≠ none →
    exec (.tollgateClose n) s = .next ((((s.setGauge n { s.gauge n with
      gate := none, paired := true, ivl := some (p.stamp - b.stamp, max (b.t + w) (max b.t p.t + 768000)) }).set
        (GAU_STATUS_TOLL_OPEN n) 0).raise (GAU_EVT_ORDER n)).count (GAU_COUNT3_ORDERS n))) ∧
  (∀ (s : State) (n w : Nat) (b p : Taken1), n < 64 → s.gaugeStopped n = false → (s.gauge n).gate = some (b, w) →
    (s.gauge n).stop = some p → ((s.gauge n).paired = true ∨ b.t < p.t ∨ p.t + w < b.t) →
    exec (.tollgateClose n) s = .next ((((s.setGauge n { s.gauge n with gate := none }).set (GAU_STATUS_TOLL_OPEN n) 0).count
      (GAU_COUNT3_TIMEOUTS n)).raise (GAU_EVT_TIMEOUT n))) ∧
  (∀ (s : State) (n w : Nat) (e : Taken1), n < 64 → s.gaugeStopped n = false → (s.gauge n).gate = some (e, w) → (s.gauge n).stop = none →
    exec (.tollgateClose n) s = .next ((((s.setGauge n { s.gauge n with gate := none }).set (GAU_STATUS_TOLL_OPEN n) 0).count
      (GAU_COUNT3_TIMEOUTS n)).raise (GAU_EVT_TIMEOUT n))) ∧
  (∀ (s : State) (n : Nat), (s.gauge n).gate = none → exec (.tollgateClose n) s = .next s) ∧
  (∀ (s : State) (m : Master) (n : Nat) (v : Word) (r : RegRow), n < 64 → s.verdict m (GAU_STAT_CTRL n) = .row r →
    v.getLsbD 0 = true → v.getLsbD 1 = false → (s.gauge n).run = none → s.statTaken n = true →
    let u := (s.answer m .ok).setGauge n { s.gauge n with
      run := some (s.get (GAU_STAT_CFG_QTY n), s.get (GAU_STAT_CFG_N n)), results := [], prevStamp := none }
    let u := (u.set (GAU_STAT_COUNT_COUNT n) 0).set (GAU_STAT_STD_STD n) 0
    let u := (u.setWide (GAU_STAT_MEAN_LO n) (GAU_STAT_MEAN_HI n) 32 0).setWide (GAU_STAT_MIN_LO n) (GAU_STAT_MIN_HI n) 32 0
    exec (.statStart m n v) s = .next ((u.setWide (GAU_STAT_MAX_LO n) (GAU_STAT_MAX_HI n) 32 0).set (GAU_STATUS_STAT_BUSY n) 1)) ∧
  (∀ (s : State) (m : Master) (n : Nat) (v : Word) (r : RegRow) (x : Nat × Nat), n < 64 → s.verdict m (GAU_STAT_CTRL n) = .row r →
    v.getLsbD 0 = false → v.getLsbD 1 = true → (s.gauge n).run = some x → s.gaugeMailbox n = none →
    exec (.statAbort m n v) s = .next ((((s.answer m .ok).setGauge n { s.gauge n with run := none }).set (GAU_STATUS_STAT_BUSY n) 0).raise
      (GAU_EVT_STAT_ABORTED n)))

/-- The span an interpolator measures lies between one and two time-base cycles, to 1/2048 of a cycle: it is one at the
reading of one cycle, two at that of two, and grows with the reading; the edge is the time-base edge that ends the span less
the span (R253). The model's choices it rests on: log entry 32. -/
def Obligations.EdgeSpanIsLinear : Prop :=
  (∀ e : Edge, e.c1 ≤ e.r → e.r ≤ e.c2 → e.c1 < e.c2 → 2048 ≤ e.span ∧ e.span ≤ 4096 ∧
    ((e.span : Int) - 2048) * (2 * (e.c2 - e.c1)) ≤ 4096 * (e.r - e.c1) + (e.c2 - e.c1) ∧
    4096 * ((e.r : Int) - e.c1) < ((e.span : Int) - 2048) * (2 * (e.c2 - e.c1)) + (e.c2 - e.c1)) ∧
  (∀ e : Edge, e.r = e.c1 → e.c1 < e.c2 → e.span = 2048) ∧
  (∀ e : Edge, e.r = e.c2 → e.c1 < e.c2 → e.span = 4096) ∧
  (∀ e : Edge, e.time = 2048 * e.m - e.span)

/-- Frames that arrive, and the operations on the tables (R326, R335, R337, R343). The model's choices it rests on: log
entries 40, 41, 42. -/
def Obligations.ForwardingCommandsComplete : Prop :=
  (∀ (s : State) (p : Nat) (head : List Octet) (m : RxMark), p < 48 → s.portUp p = true → (s.port p).lost = false →
    (s.port p).rx = none → s.nearLoop p = false → s.framesStopped = false → s.stageOne p head = false →
    let f := { s.newFrame p head with
      stampA := s.arrivalStamp p 0 m, stampB := s.arrivalStamp p 1 m, cA := s.arrivalCount p 0 m, cB := s.arrivalCount p 1 m }
    let u := (s.setPort p { s.port p with rx := some f.id }).pipeline f
    exec (.frameReceive p head m) s = .next ((u.1.addFrame u.2.1).admission u.2.1.id u.2.2)) ∧
  (∀ (s : State) (p : Nat) (head : List Octet) (m : RxMark), p < 48 → s.portUp p = true → (s.port p).lost = false →
    (s.port p).rx = none → s.nearLoop p = false → s.framesStopped = true →
    ∃ t, exec (.frameReceive p head m) s = .next t ∧ t.buf.frames.length = s.buf.frames.length + 1 ∧ t.buf.copies = s.buf.copies ∧
      t.buf.nextId = s.buf.nextId + 1 ∧ t.regs = s.regs ∧ t.fwd = s.fwd ∧ t.out = s.out) ∧
  (∀ (s : State) (p : Nat) (head : List Octet) (m : RxMark), (s.portUp p = false ∨ s.nearLoop p = true) →
    exec (.frameReceive p head m) s = .next s) ∧
  (∀ (s : State) (p frags id : Nat) (bytes : List Octet) (kind : FrameEnd) (errs : LineErrs) (f : Frame), p < 48 →
    s.nearLoop p = false → (s.port p).rx = some id → s.frame? id = some f → s.gateIn 17 = false →
    let t := s.countLine p errs
    let g := { f with bytes := f.bytes ++ bytes }
    let u := (t.setPort p { s.port p with rx := none }).countRx p g kind frags
    let h := { g with ended := true, bad := !u.2 }
    exec (.frameTailArrival p bytes kind frags errs) s = .next
      (if u.2 then (((u.1.setFrame h).recharge h).mirIngress h).frameGone id else ((u.1.setFrame h).frameBad id).frameGone id)) ∧
  (∀ (s : State) (p frags id : Nat) (bytes : List Octet) (kind : FrameEnd) (errs : LineErrs) (f : Frame), p < 48 →
    s.nearLoop p = false → (s.port p).rx = some id → s.frame? id = some f → s.gateIn 17 = true →
    let t := s.countLine p errs
    let g := { f with bytes := f.bytes ++ bytes, gateDrop := true }
    let u := (t.setPort p { s.port p with rx := none }).countRx p g kind frags
    let h := { g with ended := true, bad := true }
    exec (.frameTailArrival p bytes kind frags errs) s = .next
      ((if u.2 then (u.1.setFrame h).mirIngress h else u.1.setFrame h).frameGone id)) ∧
  (∀ (s : State) (p frags : Nat) (bytes : List Octet) (kind : FrameEnd) (errs : LineErrs), p < 48 → s.nearLoop p = false →
    (s.port p).rx = none → exec (.frameTailArrival p bytes kind frags errs) s = .next (s.countLine p errs)) ∧
  (∀ (s : State) (p frags : Nat) (bytes : List Octet) (kind : FrameEnd) (errs : LineErrs), s.nearLoop p = true →
    exec (.frameTailArrival p bytes kind frags errs) s = .next s) ∧
  (∀ (s : State) (m : Master) (v w : Word) (r : RegRow), s.verdict m FWD_TBL_CMD = .row r → s.on FWD_TBL_CMD_BUSY = false →
    v.getLsbD 31 = true → (writeFields r.fields (s.rd FWD_TBL_CMD) v).2 = false →
    writeFields r.fields (s.rd FWD_TBL_CMD) (v &&& 0x7FFFFFFF#32) = (w, false) →
    let u := (s.answer m .ok).wr FWD_TBL_CMD w
    (u.get FWD_TBL_CMD_OP = 0 → exec (.tableRead m v) s = .next ((u.tblRead (u.get FWD_TBL_CMD_TABLE) (u.get FWD_TBL_CMD_INDEX)).set FWD_TBL_CMD_BUSY 1)) ∧
    (u.get FWD_TBL_CMD_OP = 1 → exec (.tableWriteOp m v) s = .next ((u.tblWrite (u.get FWD_TBL_CMD_TABLE) (u.get FWD_TBL_CMD_INDEX)).set FWD_TBL_CMD_BUSY 1)) ∧
    (u.get FWD_TBL_CMD_OP = 2 → exec (.tableInsert m v) s = .next ((u.tblInsert (u.get FWD_TBL_CMD_TABLE)).set FWD_TBL_CMD_BUSY 1)) ∧
    (u.get FWD_TBL_CMD_OP = 3 → exec (.tableDelete m v) s = .next ((u.tblDelete (u.get FWD_TBL_CMD_TABLE) (u.get FWD_TBL_CMD_INDEX)).set FWD_TBL_CMD_BUSY 1)) ∧
    (u.get FWD_TBL_CMD_OP = 4 → exec (.tableLookup m v) s = .next ((u.tblLookup (u.get FWD_TBL_CMD_TABLE)).set FWD_TBL_CMD_BUSY 1)) ∧
    (u.get FWD_TBL_CMD_OP = 5 → exec (.tableFlush m v) s = .next ((u.tblFlush (u.get FWD_TBL_CMD_TABLE) (u.get FWD_TBL_CMD_INDEX)).set FWD_TBL_CMD_BUSY 1))) ∧
  (∀ s : State, s.get FWD_CFG_AGE_TIME ≠ 0 → s.gateIn 16 = false →
    ∃ t, exec .ageingSweep s = .next t ∧ t = { s with fwd := t.fwd } ∧ t.fwd.vlan = s.fwd.vlan ∧ t.fwd.rules = s.fwd.rules ∧
      ∀ x ∈ t.fwd.mac, ∃ y ∈ s.fwd.mac, y.1 = x.1 ∧ ∃ e g, x.2 = some e ∧ y.2 = some g ∧
        (e = g ∧ g.isStatic = true ∨ g.isStatic = false ∧ g.age ≠ 0 ∧ e = { g with age := g.age - 1 })) ∧
  (∀ s : State, s.get FWD_CFG_AGE_TIME = 0 → exec .ageingSweep s = .next s)

/-- The buffers' own commands: pauses, watchdogs, the siding, and clearing the counters (R317, R351 to R357). The model's
choices it rests on: log entries 43, 90. -/
def Obligations.BufferCommandsComplete : Prop :=
  (∀ (s : State) (p : Nat), p < 48 → s.on (BUF_IN_STATUS_XOFF_STATE p) = true → s.gateIn 17 = false →
    (s.on (PRT_MAC_PFC_EN p) = true ∨ s.on (PRT_STATUS_PAUSE_TX p) = true) → s.portUp p = true → (s.sout p).tx = none →
    s.macOpen p = true →
    exec (.pauseResend p) s = .next (((s.emit .pause p [1] (s.pauseBytes p 0xFFFF)).countTx p 64 0x0180C2000001).countPort p 17 1)) ∧
  (∀ (s : State) (p : Nat), s.on (BUF_IN_STATUS_XOFF_STATE p) = false → exec (.pauseResend p) s = .next s) ∧
  (∀ (s : State) (o c : Nat), o < 48 → c < 8 → s.gateIn 17 = false →
    exec (.pauseWatchdogEnd o c) s = .next
      (s.set (BUF_OUT_STATUS_WD_ACTIVE o) (putBit (s.get (BUF_OUT_STATUS_WD_ACTIVE o)) c false))) ∧
  (∀ (s : State) (o c : Nat), o < 48 → c < 8 → (s.get (PRT_STATUS_PAUSED o)).testBit c = true → s.get (BUF_OUT_CFG_PAUSE_WD o) ≠ 0 →
    s.gateIn 17 = false →
    let u := s.setPaused o c false
    let u := u.set (BUF_OUT_STATUS_WD_ACTIVE o) (putBit (u.get (BUF_OUT_STATUS_WD_ACTIVE o)) c true)
    exec (.pauseWatchdog o c) s = .next (((u.raise (BUF_OUT_EVT_WD o)).count (BUF_OUT_WD_COUNT_WD_COUNT o)).logFault 0x20 o none)) ∧
  (∀ (s : State) (p c : Nat), p < 48 → c < 8 →
    exec (.pauseQuantaExpiry p c) s = .next (s.set (PRT_STATUS_PAUSED p) (putBit (s.get (PRT_STATUS_PAUSED p)) c false))) ∧
  (∀ (s : State) (o : Nat), o < 48 → s.get (BUF_OUT_STATUS_SIDING o) = 1 → s.gateIn 17 = false →
    exec (.graceExpiry o) s = .next ((s.set (BUF_OUT_STATUS_SIDING o) 2).setTimer o none)) ∧
  (∀ (s : State) (o : Nat), s.get (BUF_OUT_STATUS_SIDING o) ≠ 1 → exec (.graceExpiry o) s = .next s) ∧
  (∀ (s : State) (o : Nat), o < 48 → s.get (BUF_OUT_STATUS_SIDING o) = 2 → s.gateIn 17 = false →
    (∀ c ∈ s.buf.copies, c.out = o → c.place ≠ .queued ∧ c.place ≠ .slot) → s.regsWf = true → s.portUp o = true →
    exec (.flushComplete o) s = .next ((State.raise { s with sch := { s.sch with
      streams := s.sch.streams.filter fun x => x.1 / 8 % 48 != o } } (BUF_OUT_EVT_FLUSH o)).set (BUF_OUT_STATUS_SIDING o) 0)) ∧
  (∀ (s : State) (o : Nat), o < 48 → s.get (BUF_OUT_STATUS_SIDING o) = 2 → s.gateIn 17 = false →
    (∀ c ∈ s.buf.copies, c.out = o → c.place ≠ .queued ∧ c.place ≠ .slot) → s.regsWf = true → s.portUp o = false →
    exec (.flushComplete o) s = .next (((State.raise { s with sch := { s.sch with
      streams := s.sch.streams.filter fun x => x.1 / 8 % 48 != o } } (BUF_OUT_EVT_FLUSH o)).set (BUF_OUT_STATUS_SIDING o) 3).flushMac
        (some o))) ∧
  (∀ (s : State) (o : Nat), (s.get (BUF_OUT_STATUS_SIDING o) ≠ 2 ∨ s.gateIn 17 = true) → exec (.flushComplete o) s = .next s) ∧
  (∀ (s : State) (m : Master) (v : Word) (r : RegRow), s.verdict m BUF_CTRL = .row r → v.getLsbD 0 = true → v.getLsbD 1 = false →
    exec (.bufClearCounts m v) s = .next ((s.answer m .ok).clearRegs isBufCounter)) ∧
  (∀ (s : State) (m : Master) (v : Word) (r : RegRow), s.verdict m BUF_CTRL = .row r → v.getLsbD 0 = false → v.getLsbD 1 = true →
    exec (.bufClearCounts m v) s = .next (s.answer m .ok).clearPeaks)

/-- The turntable, promotions, and what an output starts and ends (R359, R361, R363, R364, R367, R383, R385). The model's
choices it rests on: log entries 44, 92. -/
def Obligations.SchedulerCommandsComplete : Prop :=
  (∀ s : State, s.queuesStill = false →
    exec .turntableIteration s = .next (State.internalStarts (s.each [0, 1, 2, 3]
      (State.accepts ((List.range 48).filterMap fun o => (s.grant o).map fun g => (o, g)))))) ∧
  (∀ s : State, s.queuesStill = true → exec .turntableIteration s = .next s) ∧
  (∀ (s : State) (d o c : Nat) (x : Copy), d < 4 → o < 48 → c < 8 → s.get (SCH_OUT_CFG_AGE_THR o) ≠ 0 → s.topCoach o ≠ c →
    s.queuesStill = false → ((s.depotCopies d o c).find? fun x => !x.mail && x.place == .queued) = some x → x.promoted = 0 →
    s.paused o c = false → s.gateOpenFor o c = true → s.portUp o = true → s.siding o = 0 →
    exec (.promotion d o c) s = .next ({ s with buf := { s.buf with
      nextId := s.buf.nextId + 1, copies := s.buf.copies.map fun y => if y.id = x.id then { x with promoted := s.buf.nextId + 1 } else y } })) ∧
  (∀ (s : State) (d o c : Nat), s.get (SCH_OUT_CFG_AGE_THR o) = 0 → exec (.promotion d o c) s = .next s) ∧
  (∀ (s : State) (o : Nat) (c : Copy) (f : Frame), 48 ≤ o → o < 50 → s.queuesStill = false → s.slotCopy o = some c →
    s.frame? c.frame = some f → f.ended = true → (s.sout o).tx = none →
    exec (.slotStart o) s = .next (s.startTx c)) ∧
  (∀ (s : State) (o : Nat) (c : Copy) (f : Frame), o < 48 → s.queuesStill = false → (s.slotCheck o).slotCopy o = some c →
    (s.slotCheck o).frame? c.frame = some f → f.ended = true →
    let u := s.slotCheck o
    u.macFree o = true → (u.sout o).cut = none → u.on (SCH_OUT_STATUS_HOLD o) = false → u.siding o = 0 → u.gateAllows c = true →
    u.mailFits o (u.copyLen c) = true →
    exec (.slotStart o) s = .next (u.startTx c)) ∧
  (∀ (s : State) (o : Nat), 48 ≤ o → s.slotCopy o = none → exec (.slotStart o) s = .next s) ∧
  (∀ (s : State) (m : Master) (v : Word) (r : RegRow), s.verdict m SCH_CTRL = .row r → v.getLsbD 0 = true →
    exec (.schClearCounts m v) s = .next ((s.answer m .ok).clearRegs isSchCounter)) ∧
  (∀ (s : State) (x : Tx) (c : Copy) (f : Frame), (s.sout 49).tx = some x → s.copy? x.copy = some c → s.frame? c.frame = some f →
    f.ended = true → x.stomp = false → s.gateIn 17 = false →
    let u := s.wholeOut f x 49
    let t := u.1.setSout 49 { u.1.sout 49 with tx := none }
    let v := (t.emit .frame 49 ((f.inp : Int) :: (stampNums (t.stampsOf f).1 ++ stampNums (t.stampsOf f).2)) u.2).ptpToA f.inp u.2
    exec (.frameTransmitEnd 49) s = .next ((v.mirEgress f 49 c.cls c.mail false x.stampA u.2).freeCopy c)) ∧
  (∀ (s : State) (o : Nat) (x : Tx) (c : Copy) (f : Frame), o < 48 → (s.sout o).tx = some x → s.copy? x.copy = some c →
    s.frame? c.frame = some f → f.ended = true → x.stomp = false → x.preempts = 0 → s.gateIn 17 = false → s.nearLoop o = false →
    let u := s.wholeOut f x o
    let t := u.1.setSout o { u.1.sout o with tx := none }
    t.macOpen o = true →
    let t := (t.emit .frame o [0] u.2).countTx o u.2.length (headerOf u.2).da
    exec (.frameTransmitEnd o) s = .next (((t.mirEgress f o c.cls c.mail false x.stampA u.2).freeCopy c).lineFree o)) ∧
  (∀ (s : State) (o : Nat) (bs : List Octet) (k : FrameEnd), o < 48 → s.loopOut o = some (bs, k) →
    exec (.frameTransmitEnd o) s = .next (((s.txEnd o).frameHead o bs default).frameTail o [] k 0)) ∧
  (∀ (s : State) (o : Nat), (s.sout o).tx = none → exec (.frameTransmitEnd o) s = .next s)

/-- Mail, its timetable, the resequencer and the gate lists (R369 to R379). The model's choices it rests on: log entries 44,
45, 74. -/
def Obligations.MailAndGateCommandsComplete : Prop :=
  (∀ (s : State) (o : Nat) (c : Copy), o < 48 → s.queuesStill = false → ((s.mailPending o).find? fun c => !c.fetched) = some c →
    exec (.mailFetch o) s = .next (s.setCopy { c with fetched := true })) ∧
  (∀ (s : State) (o : Nat), (∀ c ∈ s.mailPending o, c.fetched = true) → exec (.mailFetch o) s = .next s) ∧
  (∀ (s : State) (o : Nat), o < 48 → s.preempting o = true → s.queuesStill = false → s.mailPending o ≠ [] →
    exec (.holdAssert o) s = .next ((s.set (SCH_OUT_STATUS_HOLD o) 1).preempt o)) ∧
  (∀ (s : State) (o : Nat), s.preempting o = false → exec (.holdAssert o) s = .next s) ∧
  (∀ (s : State) (o : Nat) (shifted : Bool) (c : Copy), o < 48 → s.queuesStill = false → s.siding o ≠ 2 → s.mailPending o = [c] →
    s.portUp o = true →
    exec (.mailDeparture o shifted) s = .next ((s.mailTurn shifted c.id).holdEval o)) ∧
  (∀ (s : State) (o : Nat) (shifted : Bool) (c : Copy), o < 48 → s.queuesStill = false → s.siding o ≠ 2 → s.mailPending o = [c] →
    s.portUp o = false →
    exec (.mailDeparture o shifted) s = .next (((s.freeCopy c).count (BUF_OUT_SIDING_MAIL_DISC_SIDING_MAIL_DISC o)).holdEval o)) ∧
  (∀ (s : State) (o : Nat) (shifted : Bool), s.mailPending o = [] → exec (.mailDeparture o shifted) s = .next s) ∧
  (∀ (s : State) (o : Nat) (c : Copy), o < 48 → s.queuesStill = false →
    ((s.mailPending o).find? fun c => c.waited && s.rsqWord c != .leave) = some c → (∀ d ∈ s.mailPending o, d.adm ≠ s.cyc) →
    exec (.resequencerGapTimeout o) s = .next (s.rsqSkip c)) ∧
  (∀ (s : State) (o : Nat), (∀ c ∈ s.mailPending o, c.waited = false) → exec (.resequencerGapTimeout o) s = .next s) ∧
  (∀ (s : State) (i o c : Nat), i < 50 → o < 48 → c < 8 →
    (∀ x ∈ s.buf.copies, ¬(x.mail = true ∧ x.inp = i ∧ x.out = o ∧ x.cls = c ∧ x.place = .queued)) →
    exec (.streamIdle i o c) s = .next ({ s with sch := { s.sch with streams := smPut s.sch.streams (streamKey i o c) none } })) ∧
  (∀ (s : State) (m : Master) (o : Nat) (v : Word) (r : RegRow), o < 48 → s.verdict m (SCH_GCL_CTRL o) = .row r → v.getLsbD 0 = true →
    s.on (SCH_GCL_STATUS_PENDING o) = false →
    exec (.gclChange m o v) s = .next (((s.answer m .ok).setSout o { s.sout o with
      change := some (s.changeTime o, s.get (SCH_GCL_CFG_LEN o), s.gclBase o, s.get (SCH_GCL_CYCLE_CYCLE o)) }).set
        (SCH_GCL_STATUS_PENDING o) 1)) ∧
  (∀ (s : State) (m : Master) (o : Nat) (v : Word) (r : RegRow), o < 48 → s.verdict m (SCH_GCL_CTRL o) = .row r → v.getLsbD 0 = true →
    s.on (SCH_GCL_STATUS_PENDING o) = true →
    exec (.gclChange m o v) s = .next ((s.answer m .ok).refuseWrite m (SCH_GCL_CTRL o))) ∧
  (∀ (s : State) (o at_ len base cycle : Nat), o < 48 → (s.sout o).change = some (at_, len, base, cycle) → s.gateIn 18 = false →
    at_ * nsUnit < s.domTime (s.get SCH_CFG_DOM) + (s.dom (s.get SCH_CFG_DOM)).inc →
    let u := s.each (List.range 128) fun (e : Nat) (t : State) =>
      (t.wr (SCH_GATE_OPER o e) (t.rd (SCH_GATE_ADMIN o e))).wr (SCH_INTV_OPER o e) (t.rd (SCH_INTV_ADMIN o e))
    let u := u.setSout o { s.sout o with base := base, cycle := cycle, change := none }
    let u := (u.set (SCH_GCL_STATUS_OPER_LEN o) len).set (SCH_GCL_STATUS_PENDING o) 0
    exec (.gclSwap o) s = .next ((u.raise (SCH_OUT_EVT_GCL_SWAP o)).gatesMove o)) ∧
  (∀ (s : State) (o : Nat), (s.sout o).change = none → exec (.gclSwap o) s = .next s) ∧
  (∀ (s : State) (o at_ len base cycle : Nat), (s.sout o).change = some (at_, len, base, cycle) →
    s.domTime (s.get SCH_CFG_DOM) + (s.dom (s.get SCH_CFG_DOM)).inc ≤ at_ * nsUnit → exec (.gclSwap o) s = .next s) ∧
  (∀ (s : State) (o : Nat), o < 48 → s.gateIn 18 = false → ((s.gateShow o).slotCheck o |>.sout o).tx = none →
    exec (.gateBoundary o) s = .next (((s.gateShow o).slotCheck o).resume o))

/-- The mirror (R387 to R390). The model's choices it rests on: log entry 46. -/
def Obligations.MirrorCommandsComplete : Prop :=
  (∀ (s : State) (m : Master) (v w : Word) (r : RegRow), s.verdict m MIR_CFG = .row r → s.on MIR_CFG_EN = false → v.getLsbD 0 = true →
    writeFields r.fields (s.rd MIR_CFG) v = (w, false) →
    let u := (s.answer m .ok).wr MIR_CFG w
    u.get MIR_STATUS_STATE = 0 → 2 ≤ u.get MIR_RING_LEN_LEN → u.on MIR_STATUS_THERMAL = false →
    exec (.mirrorEnableWrite m v) s = .next ((u.set MIR_RING_WR_WR (u.get MIR_RING_RD_RD)).set MIR_STATUS_STATE 1)) ∧
  (∀ (s : State) (m : Master) (v w : Word) (r : RegRow), s.verdict m MIR_CFG = .row r → s.on MIR_CFG_EN = true → v.getLsbD 0 = false →
    writeFields r.fields (s.rd MIR_CFG) v = (w, false) →
    exec (.mirrorEnableWrite m v) s = .next ((s.answer m .ok).wr MIR_CFG w).mirOff) ∧
  (∀ (s : State) (x : List Octet) (xs : List (List Octet)), s.regsWf = true → s.mirOn = true → s.mir.fifo = x :: xs → 2 ≤ s.get MIR_RING_LEN_LEN →
    s.ringFree ≠ 0 → s.get MIR_IRQ_WATERMARK = 0 →
    let u := (s.emit .hostWrite 1 [(s.getWide MIR_RING_BASE_LO MIR_RING_BASE_HI 32 + s.get MIR_RING_WR_WR * s.slotSize : Nat)] x).setFifo xs
    exec .mirrorRecordWrite s = .next ((u.set MIR_RING_WR_WR ((s.get MIR_RING_WR_WR + 1) % s.get MIR_RING_LEN_LEN)).count
      MIR_COUNT_RECORDS_COUNT).mirResume) ∧
  (∀ s : State, s.mirOn = true → s.mir.fifo ≠ [] → 2 ≤ s.get MIR_RING_LEN_LEN → s.ringFree = 0 →
    exec .mirrorRecordWrite s = .next s.mirSampling) ∧
  (∀ s : State, s.mirOn = false → exec .mirrorRecordWrite s = .next s) ∧
  (∀ (s : State) (m : Master) (v w : Word) (r : RegRow), s.verdict m MIR_RING_RD = .row r →
    fieldOf MIR_RING_RD_RD v < s.get MIR_RING_LEN_LEN → writeFields r.fields (s.rd MIR_RING_RD) v = (w, false) →
    s.mirOn = true →
    exec (.ringRdWrite m v) s = .next ((s.answer m .ok).wr MIR_RING_RD w).mirResume) ∧
  (∀ s : State, s.get MIR_IRQ_HOLD ≠ 0 → s.ringUsed ≠ 0 → s.mirOn = true → exec .mirrorHoldTimer s = .next (s.set MIR_EVT_WATERMARK 1)) ∧
  (∀ s : State, s.ringUsed = 0 → exec .mirrorHoldTimer s = .next s) ∧
  (∀ s : State, s.get MIR_STATUS_STATE ≠ 0 →
    let a := s.getWide MIR_RING_BASE_LO MIR_RING_BASE_HI 32 + s.get MIR_RING_WR_WR * s.slotSize
    exec .mirrorDmaError s = .next (((((s.set MIR_CFG_EN 0).setFifo []).set MIR_STATUS_STATE 0).raise MIR_EVT_DMA_ERR).logFault
      0x15 0 (some (.dma, true, a % 2 ^ 24)))) ∧
  (∀ s : State, s.get MIR_STATUS_STATE = 0 → exec .mirrorDmaError s = .next s) ∧
  (∀ (s : State) (m : Master) (v : Word) (r : RegRow), s.verdict m MIR_CTRL = .row r → v.getLsbD 0 = true →
    exec (.mirClearCounts m v) s = .next ((s.answer m .ok).clearRegs isMirCounter))

/-- A port's configuration, the gain and loss of its line, and auto-negotiation (R310, R311, R313 to R315, R320, R322). The
model's choices it rests on: log entry 39. -/
def Obligations.PortCommandsComplete : Prop :=
  (∀ (s : State) (m : Master) (p : Nat) (v w : Word) (r : RegRow), p < 48 → s.verdict m (PRT_CFG p) = .row r → s.laneOfFat p = false →
    writeFields r.fields (s.rd (PRT_CFG p)) v = (w, false) → s.get (PRT_STATUS_STATE p) = 0 → s.get GLB_STATUS_MODE ≠ 0 →
    fieldOf (PRT_CFG_ENABLE p) w = 1 → s.portFits p (fieldOf (PRT_CFG_RATE p) w) (fieldOf (PRT_CFG_FEC p) w) = true →
    let u := ((s.answer m .ok).wr (PRT_CFG p) w).quadRates p
    exec (.portCfgWrite m p v) s = .next (u.setPortState p (u.startState p))) ∧
  (∀ (s : State) (m : Master) (p : Nat) (v w : Word) (r : RegRow), p < 48 → s.verdict m (PRT_CFG p) = .row r → s.laneOfFat p = false →
    writeFields r.fields (s.rd (PRT_CFG p)) v = (w, false) → s.get (PRT_STATUS_STATE p) = 0 → s.get GLB_STATUS_MODE ≠ 0 →
    fieldOf (PRT_CFG_ENABLE p) w = 1 → s.portFits p (fieldOf (PRT_CFG_RATE p) w) (fieldOf (PRT_CFG_FEC p) w) = false →
    exec (.portCfgWrite m p v) s = .next (((((s.answer m .ok).wr (PRT_CFG p) (putBits w 0 1 0)).quadRates p).raise
      (PRT_EVT_CFG_ERR p)).refuseWrite m (PRT_CFG p))) ∧
  (∀ (s : State) (m : Master) (p : Nat) (v w : Word) (r : RegRow), p < 48 → s.verdict m (PRT_CFG p) = .row r → s.laneOfFat p = false →
    writeFields r.fields (s.rd (PRT_CFG p)) v = (w, false) → s.get (PRT_STATUS_STATE p) = 0 → s.get GLB_STATUS_MODE = 0 →
    exec (.portCfgWrite m p v) s = .next (((s.answer m .ok).wr (PRT_CFG p) w).quadRates p)) ∧
  (∀ (s : State) (m : Master) (p : Nat) (v w : Word) (r : RegRow), p < 48 → s.verdict m (PRT_CFG p) = .row r → s.laneOfFat p = false →
    writeFields r.fields (s.rd (PRT_CFG p)) v = (w, false) → s.get (PRT_STATUS_STATE p) ≠ 0 → fieldOf (PRT_CFG_ENABLE p) w = 0 →
    exec (.portCfgWrite m p v) s = .next ((((s.answer m .ok).portOff p).wr (PRT_CFG p) w).quadRates p)) ∧
  (∀ (s : State) (m : Master) (p : Nat) (v w : Word) (r : RegRow), p < 48 → s.verdict m (PRT_CFG p) = .row r → s.laneOfFat p = true →
    exec (.portCfgWrite m p v) s = .next ((s.answer m .ok).refuseWrite m (PRT_CFG p))) ∧
  (∀ (s : State) (p : Nat), p < 48 → (s.port p).restarted ≠ some s.cyc → s.get (PRT_STATUS_STATE p) = 1 → s.laneOfFat p = false →
    s.regsWf = true → s.on (PRT_STATUS_PCS_LOCK p) = true → s.get (PRT_CFG_RATE p) ≠ 1 →
    let u := (((s.set (PRT_STATUS_CDR_LOCK p) 1).set (PRT_STATUS_HI_BER p) 0).set (PRT_STATUS_LF p) 0).set (PRT_STATUS_RF p) 0
    exec (.pcsLockGained p false false) s = .next (u.portComesUp p)) ∧
  (∀ (s : State) (p : Nat), p < 48 → (s.port p).restarted ≠ some s.cyc → s.get (PRT_STATUS_STATE p) = 1 → s.laneOfFat p = false →
    s.regsWf = true → s.on (PRT_STATUS_PCS_LOCK p) = true → s.get (PRT_CFG_RATE p) ≠ 1 →
    let u := (((s.set (PRT_STATUS_CDR_LOCK p) 1).set (PRT_STATUS_HI_BER p) 0).set (PRT_STATUS_LF p) 0).set (PRT_STATUS_RF p) 1
    s.on (PRT_STATUS_RF p) = true → exec (.pcsLockGained p false true) s = .next u) ∧
  (∀ (s : State) (p : Nat) (lf rf : Bool), (s.get (PRT_STATUS_STATE p) = 0 ∨ s.get (PRT_STATUS_STATE p) = 4) →
    exec (.pcsLockGained p lf rf) s = .next s) ∧
  (∀ (s : State) (p : Nat) (cdr hi : Bool), p < 48 → (s.port p).restarted ≠ some s.cyc → s.get (PRT_STATUS_STATE p) = 1 →
    s.laneOfFat p = false → s.regsWf = true →
    exec (.pcsLockLost p (.lock cdr hi)) s = .next
      ((((s.setB (PRT_STATUS_CDR_LOCK p) cdr).setB (PRT_STATUS_HI_BER p) hi).set (PRT_STATUS_PCS_LOCK p) 0).linkEval p)) ∧
  (∀ (s : State) (p : Nat), p < 48 → (s.port p).restarted ≠ some s.cyc → s.get (PRT_STATUS_STATE p) = 1 → s.laneOfFat p = false →
    s.get (PRT_CFG_RATE p) ≠ 1 → s.on (PRT_STATUS_LF p) = false → s.regsWf = true →
    exec (.pcsLockLost p .localFault) s = .next ((s.set (PRT_EVT_LF p) 1).set (PRT_STATUS_LF p) 1)) ∧
  (∀ (s : State) (p : Nat), p < 48 → (s.port p).restarted ≠ some s.cyc → s.get (PRT_STATUS_STATE p) = 1 → s.laneOfFat p = false →
    s.get (PRT_CFG_RATE p) ≠ 1 → s.on (PRT_STATUS_RF p) = false → s.regsWf = true →
    exec (.pcsLockLost p .remoteFault) s = .next ((s.set (PRT_EVT_RF p) 1).set (PRT_STATUS_RF p) 1)) ∧
  (∀ (s : State) (p : Nat), s.get (PRT_CFG_RATE p) = 1 →
    exec (.pcsLockLost p .localFault) s = .next s ∧ exec (.pcsLockLost p .remoteFault) s = .next s) ∧
  (∀ (s : State) (p : Nat), p < 48 → (s.port p).restarted ≠ some s.cyc → s.portUp p = true → (s.port p).lost = true →
    exec (.downHoldExpiry p) s = .next ((s.portLeavesUp p false).setPortState p 1)) ∧
  (∀ (s : State) (p : Nat), (s.port p).lost = false → exec (.downHoldExpiry p) s = .next s) ∧
  (∀ (s : State) (p : Nat) (lp : Word), p < 48 → (s.port p).restarted ≠ some s.cyc → s.get (PRT_STATUS_STATE p) = 2 →
    s.on (PRT_STATUS_PCS_LOCK p) = true → lp.getLsbD 5 = true →
    exec (.anComplete p lp) s = .next ((((s.set (PRT_AN_LP_LP_BASE p) lp.toNat).set (PRT_STATUS_AN_DONE p) 1).set
      (PRT_EVT_AN_DONE p) 1).portComesUp p)) ∧
  (∀ (s : State) (p : Nat) (lp : Word), p < 48 → (s.port p).restarted ≠ some s.cyc → s.get (PRT_STATUS_STATE p) = 2 →
    s.on (PRT_STATUS_PCS_LOCK p) = true → lp.getLsbD 5 = false →
    exec (.anComplete p lp) s = .next ((s.set (PRT_AN_LP_LP_BASE p) lp.toNat).setPort p { s.port p with half := true })) ∧
  (∀ (s : State) (p : Nat), p < 48 → (s.port p).restarted ≠ some s.cyc → s.get (PRT_STATUS_STATE p) = 2 →
    s.on (PRT_STATUS_PCS_LOCK p) = true →
    exec (.anFallback p) s = .next ((s.set (PRT_STATUS_AN_FALLBACK p) 1).portComesUp p)) ∧
  (∀ (s : State) (p : Nat), p < 48 → (s.port p).restarted ≠ some s.cyc → s.get (PRT_STATUS_STATE p) = 2 → (s.port p).half = true →
    exec (.anRetry p) s = .next (s.exchange p)) ∧
  (∀ (s : State) (p : Nat), (s.get (PRT_STATUS_STATE p) ≠ 2 ∨ (s.port p).half = false) → exec (.anRetry p) s = .next s) ∧
  (∀ (s : State) (p : Nat) (lf rf : Bool) (why : PortLoss) (lp : Word), (s.port p).restarted = some s.cyc →
    exec (.pcsLockGained p lf rf) s = .next s ∧ exec (.pcsLockLost p why) s = .next s ∧ exec (.downHoldExpiry p) s = .next s ∧
      exec (.anComplete p lp) s = .next s ∧ exec (.anFallback p) s = .next s ∧ exec (.anRetry p) s = .next s) ∧
  (∀ (s : State) (p : Nat) (v : Word), p < 48 → s.get (PRT_CFG_RATE p) = 1 → s.on (PRT_CFG_AN_EN p) = true →
    s.get (PRT_STATUS_STATE p) = 3 →
    exec (.anRestart none p v) s = .next (((s.portLeavesUp p false).setPortState p 2).exchange p)) ∧
  (∀ (s : State) (m : Master) (p : Nat) (v : Word) (r : RegRow), p < 48 → s.verdict m (PRT_CTRL p) = .row r → v.getLsbD 0 = false →
    v.getLsbD 1 = true → s.get (PRT_CFG_RATE p) = 1 → s.on (PRT_CFG_AN_EN p) = true → s.get (PRT_STATUS_STATE p) = 2 →
    exec (.anRestart (some m) p v) s = .next ((s.answer m .ok).exchange p)) ∧
  (∀ (s : State) (m : Master) (p : Nat) (v : Word) (r : RegRow), p < 48 → s.verdict m (PRT_CTRL p) = .row r → v.getLsbD 0 = true →
    v.getLsbD 1 = false →
    exec (.clearPortCounters m p v) s = .next ((s.answer m .ok).clearRegs fun a =>
      (decide (PRT_CNT_LO p 0 ≤ a ∧ a < PRT_CNT_LO p 26)) || a == FWD_PORT_DROP p || a == FWD_PORT_DROP2 p))

/-- What a port's partner and its module ask for, and the I2C transfers (R317, R318, R323 to R325). The model's choices it
rests on: log entry 39. -/
def Obligations.PortTrafficComplete : Prop :=
  (∀ (s : State) (p : Nat) (bytes : List Octet), p < 48 → s.portUp p = true → (headerOf bytes).etype = 0x8808 →
    numAt bytes (headerOf bytes).off 2 = 1 → s.regsWf = true → s.on (PRT_STATUS_PAUSE_RX p) = false →
    exec (.pauseReceive p bytes) s = .next ((s.countPort p 7 1).slotCheck p)) ∧
  (∀ (s : State) (p : Nat) (bytes : List Octet), p < 48 → s.portUp p = true → (headerOf bytes).etype = 0x8808 →
    numAt bytes (headerOf bytes).off 2 = 1 → s.regsWf = true → s.on (PRT_STATUS_PAUSE_RX p) = true →
    exec (.pauseReceive p bytes) s = .next (((s.countPort p 7 1).each (List.range 8) fun c t =>
      t.holdClass p c (numAt bytes ((headerOf bytes).off + 2) 2)).slotCheck p)) ∧
  (∀ (s : State) (p : Nat) (bytes : List Octet), s.portUp p = false → exec (.pauseReceive p bytes) s = .next s) ∧
  (∀ (s : State) (p : Nat), p < 48 → s.portUp p = true → s.get (PRT_STATUS_VERIFY p) = 2 →
    exec (.verifyTimer p true) s = .next ((s.set (PRT_STATUS_VERIFY p) 3).set (PRT_STATUS_PREEMPT_ACTIVE p) 1)) ∧
  (∀ (s : State) (p : Nat) (answered : Bool), p < 48 → s.portUp p = true → s.get (PRT_STATUS_VERIFY p) = 1 →
    (s.port p).verifySent < 3 → s.regsWf = true → s.macOpen p = true →
    let u := (s.setPort p { s.port p with verifySent := (s.port p).verifySent + 1 }).set (PRT_STATUS_VERIFY p) 2
    exec (.verifyTimer p answered) s = .next (u.emit .mpacket p [(s.port p).verifySent] (s.macOf p))) ∧
  (∀ (s : State) (p : Nat), p < 48 → s.portUp p = true → s.get (PRT_STATUS_VERIFY p) = 2 → 3 ≤ (s.port p).verifySent →
    exec (.verifyTimer p false) s = .next ((s.set (PRT_STATUS_VERIFY p) 4).set (PRT_EVT_VERIFY_FAIL p) 1)) ∧
  (∀ (s : State) (p : Nat) (answered : Bool), s.portUp p = false → exec (.verifyTimer p answered) s = .next s) ∧
  (∀ (s : State) (m : Master) (b : Nat) (v w : Word) (r : RegRow), b < 4 → s.verdict m (PRT_I2C_XFER b) = .row r →
    v.getLsbD 31 = true → s.on (PRT_I2C_STATUS_BUSY b) = false → (writeFields r.fields (s.rd (PRT_I2C_XFER b)) v).2 = false →
    writeFields r.fields (s.rd (PRT_I2C_XFER b)) (v &&& 0x7FFFFFFF#32) = (w, false) →
    let u := (s.answer m .ok).wr (PRT_I2C_XFER b) w
    u.get (PRT_I2C_XFER_LEN b) = 0 →
    exec (.i2cTransferStart m b v) s = .next ((u.set (PRT_I2C_STATUS_BYTES b) 0).set (PRT_I2C_STATUS_DONE b) 1)) ∧
  (∀ (s : State) (m : Master) (b : Nat) (v w : Word) (r : RegRow), b < 4 → s.verdict m (PRT_I2C_XFER b) = .row r →
    v.getLsbD 31 = true → s.on (PRT_I2C_STATUS_BUSY b) = false → (writeFields r.fields (s.rd (PRT_I2C_XFER b)) v).2 = false →
    writeFields r.fields (s.rd (PRT_I2C_XFER b)) (v &&& 0x7FFFFFFF#32) = (w, false) →
    let u := (s.answer m .ok).wr (PRT_I2C_XFER b) w
    u.get (PRT_I2C_XFER_LEN b) ≠ 0 → u.on (PRT_I2C_ROUTE_MUX_EN b) = false → u.on (PRT_I2C_XFER_NO_PTR b) = true →
    exec (.i2cTransferStart m b v) s = .next (u.i2cWant b
      { who := .host, mux := none, write := u.on (PRT_I2C_XFER_DIR b), addr := u.get (PRT_I2C_XFER_ADDR b), pointer := none,
        len := u.get (PRT_I2C_XFER_LEN b) })) ∧
  (∀ (s : State) (p : Nat), p < 48 → s.get (PRT_MOD_POLL_PERIOD p) ≠ 0 → s.asleep = false →
    (s.bus (s.get (PRT_MOD_ROUTE_MASTER p))).now = none → (s.bus (s.get (PRT_MOD_ROUTE_MASTER p))).waits = none →
    (s.bus (s.get (PRT_MOD_ROUTE_MASTER p))).polls = [] →
    let b := s.get (PRT_MOD_ROUTE_MASTER p)
    exec (.modulePoll p) s = .next ((s.setBus b { s.bus b with polls := [p] }).i2cNextJob b)) ∧
  (∀ (s : State) (p : Nat), s.get (PRT_MOD_POLL_PERIOD p) = 0 → exec (.modulePoll p) s = .next s)

/-- What coachman B has the NV store do, its protection, the ends of commits and of hot saves, and a power failure (R169,
R181, R395 to R400, R405 to R409, R412). The model's choices it rests on: log entries 8, 47, 48, 49, 50, 91. -/
def Obligations.NvCommandsComplete : Prop :=
  (∀ (s u : State) (v w : Word) (r : RegRow) (bs : List Octet) (st : Nat), s.verdict .coachB NVS_CMD = .row r → fieldOf NVS_CMD_GO v = 1 →
    s.on NVS_CMD_BUSY = false → writeFields r.fields (s.rd NVS_CMD) v = (w, false) → fieldOf NVS_CMD_OP v = 0 →
    let t := ((s.answer .coachB .ok).wr NVS_CMD w).set NVS_CMD_GO 0
    t.nvRead (t.get NVS_ADDR_ADDR) (t.get NVS_LEN_LEN) = (u, bs, st) →
    exec (.nvReadOp .coachB v) s = .next (((u.nvToWindow bs).set NVS_CMD_STATUS st).set NVS_CMD_BUSY 1)) ∧
  (∀ (s u : State) (v w : Word) (r : RegRow) (st : Nat), s.verdict .coachB NVS_CMD = .row r → fieldOf NVS_CMD_GO v = 1 →
    s.on NVS_CMD_BUSY = false → writeFields r.fields (s.rd NVS_CMD) v = (w, false) → fieldOf NVS_CMD_OP v = 1 →
    (fieldOf NVS_CMD_COMMIT v = 0 ∨ st ≠ 0) →
    let t := ((s.answer .coachB .ok).wr NVS_CMD w).set NVS_CMD_GO 0
    t.nvWrite (t.get NVS_ADDR_ADDR) (t.nvWindow (t.get NVS_LEN_LEN)) = (u, st) →
    exec (.nvWriteOp .coachB v) s = .next ((u.set NVS_CMD_STATUS st).set NVS_CMD_BUSY 1)) ∧
  (∀ (s u x : State) (v w : Word) (r : RegRow), s.verdict .coachB NVS_CMD = .row r → fieldOf NVS_CMD_GO v = 1 →
    s.on NVS_CMD_BUSY = false → writeFields r.fields (s.rd NVS_CMD) v = (w, false) → fieldOf NVS_CMD_OP v = 1 →
    fieldOf NVS_CMD_COMMIT v = 1 →
    let t := ((s.answer .coachB .ok).wr NVS_CMD w).set NVS_CMD_GO 0
    t.get NVS_LEN_LEN ≠ 0 → t.nvWrite (t.get NVS_ADDR_ADDR) (t.nvWindow (t.get NVS_LEN_LEN)) = (u, 0) → u.nvs.buffer ≠ [] →
    u.commitStart true [] = (x, 0) → exec (.nvWriteOp .coachB v) s = .next (x.set NVS_CMD_BUSY 1)) ∧
  (∀ (s u : State) (v w : Word) (r : RegRow), s.verdict .coachB NVS_CMD = .row r → fieldOf NVS_CMD_GO v = 1 →
    s.on NVS_CMD_BUSY = false → writeFields r.fields (s.rd NVS_CMD) v = (w, false) → fieldOf NVS_CMD_OP v = 2 →
    s.nvs.buffer ≠ [] → (((s.answer .coachB .ok).wr NVS_CMD w).set NVS_CMD_GO 0).commitStart true [] = (u, 0) →
    exec (.nvCommitOp .coachB v) s = .next (u.set NVS_CMD_BUSY 1)) ∧
  (∀ (s : State) (v w : Word) (r : RegRow), s.verdict .coachB NVS_CMD = .row r → fieldOf NVS_CMD_GO v = 1 →
    s.on NVS_CMD_BUSY = false → writeFields r.fields (s.rd NVS_CMD) v = (w, false) → fieldOf NVS_CMD_OP v = 3 →
    let t := ((s.answer .coachB .ok).wr NVS_CMD w).set NVS_CMD_GO 0
    t.on NVS_STATUS_PFW_ACTIVE = false →
    exec (.nvDiscardOp .coachB v) s = .next (((State.set { t with nvs := { s.nvs with buffer := [] } } NVS_STATUS_DIRTY 0).set
      NVS_CMD_STATUS 0).set NVS_CMD_BUSY 1)) ∧
  (∀ (s u : State) (v w : Word) (r : RegRow), s.verdict .coachB NVS_CMD = .row r → fieldOf NVS_CMD_GO v = 1 →
    s.on NVS_CMD_BUSY = false → writeFields r.fields (s.rd NVS_CMD) v = (w, false) → fieldOf NVS_CMD_OP v = 4 →
    (((s.answer .coachB .ok).wr NVS_CMD w).set NVS_CMD_GO 0).hotSaveOp true = (u, 0) →
    exec (.nvHotSaveOp .coachB v) s = .next (u.set NVS_CMD_BUSY 1)) ∧
  (∀ (s : State) (m : Master) (v : Word) (r : RegRow), s.verdict m NVS_CMD = .row r → m ≠ .coachB →
    exec (.nvReadOp m v) s = .next ((s.answer m .ok).refuseWrite m NVS_CMD)) ∧
  (∀ s : State, exec .pfwNClear s = .next (s.set NVS_STATUS_PFW_ACTIVE 0)) ∧
  (∀ (s : State) (m : Master) (v w : Word) (r : RegRow), s.verdict m NVS_PROTECT = .row r → s.on NVS_PROTECT_LOCK = false →
    writeFields r.fields (s.rd NVS_PROTECT) v = (w, false) →
    let u := (s.answer m .ok).wr NVS_PROTECT w
    exec (.protectWrite m v) s = .next (u.setB FLT_STATUS_NVLOG_OFF (u.get NVS_PROTECT_LEVEL == 3))) ∧
  (∀ (s : State) (m : Master) (v : Word) (r : RegRow), s.verdict m NVS_PROTECT = .row r → s.on NVS_PROTECT_LOCK = true →
    changes s NVS_PROTECT_LEVEL v = true →
    exec (.protectWrite m v) s = .next ((s.answer m .ok).refuseWrite m NVS_PROTECT)) ∧
  (∀ (s u : State) (j : NvJob) (status : Nat), s.nvs.job = some j → s.commitFinish j = (u, status) →
    exec .commitDone s = .next (j.why.foldl (fun t w => t.tellWaiter status w) u).pfwSave.powerNv) ∧
  (∀ s : State, s.nvs.job = none → s.pwr.phase = 0 → exec .commitDone s = .next s) ∧
  (∀ (s : State) (cause : Nat) (cmd : Bool), s.nvs.save = some (cause, cmd) → s.fw.passed = none →
    s.hotSaveEnd.fw.passed = none → exec .hotSaveDone s = .next s.hotSaveEnd.pfwSave.powerNv) ∧
  (∀ s : State, s.nvs.save = none → s.pwr.phase = 0 → exec .hotSaveDone s = .next s) ∧
  (∀ s : State, s.jobWaits 4 = true → exec .clearCommitDone s = .next s.jobEnd.powerNv) ∧
  (∀ s : State, s.jobWaits 4 = false → exec .clearCommitDone s = .next s) ∧
  (∀ s : State, s.jobWaits 3 = false → exec .calibrationTakesEffect s = .next s.calEffect) ∧
  (∀ s : State, s.jobWaits 3 = true → exec .calibrationTakesEffect s = .next s.jobEnd.powerNv.calEffect) ∧
  (∀ (s : State) (width : Nat), s.boot.root = true → s.asleep = false → 2000 ≤ width → s.on NVS_STATUS_PFW_ACTIVE = false →
    s.pfwTaken.on PWR_CFG_PFW_LEAN = false → exec (.pfwNFall width) s = .next s.pfwTaken) ∧
  (∀ (s : State) (width : Nat), width < 500 → exec (.pfwNFall width) s = .next s)



/-- The power ladder: requests, entries, wakes and exits (R76, R490 to R494); the governor's readings and shedding, and the
token bucket (R495 to R497, R500). The model's choices it rests on: log entries 8, 49, 67, 68, 69. -/
def Obligations.PowerCommandsComplete : Prop :=
  (∀ (s : State) (m : Master) (v w : Word) (r : RegRow), s.verdict m PWR_REQ = .row r → fieldOf PWR_REQ_GO v = 1 →
    (s.pwr.target = none ∨ s.pwr.trip = some s.cyc) → writeFields r.fields (s.rd PWR_REQ) v = (w, false) →
    let u := ((s.answer m .ok).wr PWR_REQ w).set PWR_REQ_GO 0
    let p := powerOf (u.get PWR_REQ_TARGET)
    let mask := u.get PWR_REQ_WAKE
    let x := { u with pwr := { s.pwr with lowHold := false } }
    (u.powerRefusal p mask = 0 → p ≠ .run → exec (.powerRequest m v) s = .next (u.powerEnter p mask)) ∧
    (u.powerRefusal p mask = 0 → p = .run → u.get PWR_STATUS_STEP ≠ 3 → exec (.powerRequest m v) s = .next (x.powerExit 5)) ∧
    (u.powerRefusal p mask = 0 → p = .run → u.get PWR_STATUS_STEP = 3 →
      exec (.powerRequest m v) s = .next ((x.govStep x.tempStep).powerExit 5)) ∧
    (u.powerRefusal p mask ≠ 0 → exec (.powerRequest m v) s = .next
      ((u.set PWR_STATUS_REFUSE (u.powerRefusal p mask)).set PWR_EVT_REFUSED 1))) ∧
  (∀ (s : State) (m : Master) (v : Word) (r : RegRow), s.verdict m PWR_REQ = .row r → fieldOf PWR_REQ_GO v = 1 →
    s.pwr.target ≠ none → s.pwr.trip ≠ some s.cyc → exec (.powerRequest m v) s = .next ((s.answer m .ok).refuseWrite m PWR_REQ)) ∧
  (∀ s : State, (s.pwr.target = some .lean ∨ s.pwr.target = some .keep) → s.gatesSettle.pwr.heldWake = none →
    exec .powerEntryComplete s = .next (State.setTarget none { s.gatesSettle with pwr := { s.gatesSettle.pwr with phase := 0 } })) ∧
  (∀ s : State, s.pwr.target = none → exec .powerEntryComplete s = .next s) ∧
  (∀ (s : State) (width : Nat), 2000 ≤ width → exec (.wakeN width) s = .next (s.wake 1)) ∧
  (∀ (s : State) (width : Nat), width < 500 → exec (.wakeN width) s = .next s) ∧
  (∀ s : State, s.pwr.target = none → s.pwr.state = .vigil → s.pwr.mask.testBit 1 = true →
    exec .wakeTimer s = .next (s.powerExit 2)) ∧
  (∀ s : State, s.pwr.target = none → (s.pwr.state = .vigil ∨ s.pwr.state = .dormant) → s.pwr.mask.testBit 2 = true →
    exec .spiCsNWake s = .next (s.powerExit 3)) ∧
  (∀ s : State, s.pwr.target = none → s.pwr.state = .run → exec .wakeTimer s = .next s ∧ exec .spiCsNWake s = .next s) ∧
  (∀ (s : State) (c : Nat) (p : PowerState), p ≠ .run → s.pwr.target = some p → s.armed p 1 = true → s.pwr.heldWake = some c →
    exec (.wakeN 2000) s = .next { s with pwr := { s.pwr with heldWake := some c } }) ∧
  (∀ s : State, s.pwr.target = none → s.pwr.state = .vigil → s.pwr.xoWake = 0 →
    exec (.vigilXoLoss true) s = .next (State.powerExit 4 { s.set CGU_XO_EVT_LOSS_FREQ 1 with pwr := { s.pwr with xoWake := 2 } }) ∧
    exec (.vigilXoLoss false) s = .next (State.powerExit 4 { s.set CGU_XO_EVT_LOSS_ACT 1 with pwr := { s.pwr with xoWake := 1 } })) ∧
  (∀ (s : State) (frequency : Bool), s.pwr.state ≠ .vigil → exec (.vigilXoLoss frequency) s = .next s) ∧
  (∀ s : State, s.pwr.target = some .run → (s.pwr.state = .lean ∨ s.pwr.state = .keep) →
    let u := ((s.rise .run).showPower.setTarget none).set PWR_EVT_WAKE 1
    u.pwr.lowHold = false → exec .powerExitComplete s = .next u) ∧
  (∀ s : State, s.pwr.target = some .run → s.pwr.state = .dormant → exec .powerExitComplete s = .next (s.internalReset 4)) ∧
  (∀ s : State, s.pwr.target = none → exec .powerExitComplete s = .next s) ∧
  (∀ s : State, s.boot.root = true → s.asleep = false → s.getI FLT_TEMP_TJ < 105 * 256 → s.get PWR_STATUS_STEP = 0 →
    exec .governorReading s = .next { s with pwr := { s.pwr with
      upRun := [0, 0, 0], downRun := [s.pwr.downRun.getD 0 0 + 1, s.pwr.downRun.getD 1 0 + 1] } }) ∧
  (∀ s : State, s.boot.root = true → s.asleep = false → 120 * 256 ≤ s.getI FLT_TEMP_TJ → s.pwr.upRun.getD 2 0 = 1 →
    s.get PWR_STATUS_STEP ≠ 3 → s.get PWR_STATUS_STEP < 3 →
    exec .governorReading s = .next (State.govStep 3 { s with pwr := { s.pwr with
      upRun := [s.pwr.upRun.getD 0 0 + 1, s.pwr.upRun.getD 1 0 + 1, 2], downRun := [0, 0] } })) ∧
  (∀ s : State, s.asleep = true → exec .governorReading s = .next s) ∧
  (∀ s : State, s.asleep = false → s.get PWR_STATUS_STEP < 2 →
    exec .shedTimer s = .next (State.govGates { s with pwr := { s.pwr with shed := s.pwr.shed.tail } })) ∧
  (∀ s : State, s.asleep = false → 2 ≤ s.get PWR_STATUS_STEP → 115 * 256 ≤ s.getI FLT_TEMP_TJ → exec .shedTimer s = .next s.shedNext) ∧
  (∀ s : State, s.asleep = false → 2 ≤ s.get PWR_STATUS_STEP → s.getI FLT_TEMP_TJ < 115 * 256 → exec .shedTimer s = .next s) ∧
  (∀ s : State, s.pwr.bucketOn = true → s.get PWR_TOKENS_TOKENS < 60 →
    exec .tokenGain s = .next (s.set PWR_TOKENS_TOKENS (s.get PWR_TOKENS_TOKENS + 1))) ∧
  (∀ s : State, 60 ≤ s.get PWR_TOKENS_TOKENS → exec .tokenGain s = .next s) ∧
  (∀ s : State, exec .wearPeriodEnd s = .next { s with pwr := { s.pwr with wear := [] } })



/-- The mailboxes' registers, and the loss and return of a core (R417, R420, R424, R425, R427, R461, R483). The model's
choices it rests on: log entries 52, 53. -/
def Obligations.MailboxCommandsComplete : Prop :=
  (∀ (s : State) (m : Master) (n e : Nat) (v : Word) (r : RegRow), n < 8 → e < 2 → s.verdict m (MBX_SEND_W0 n e) = .row r →
    s.mbxDown (MBX_SEND_W0 n e) = false → mbxOwner n e = some m → v.toNat % 256 ≤ 15 →
    exec (.sendW0Write m n e v) s = .next ((s.answer m .ok).mbxPost n e (v.toNat / 65536) (v.toNat / 256 % 256)
      ((List.range (v.toNat % 256)).map fun k => s.rd (MBX_SEND_W n e k)))) ∧
  (∀ (s : State) (m : Master) (n e : Nat) (v : Word) (r : RegRow), n < 8 → e < 2 → s.verdict m (MBX_SEND_W0 n e) = .row r →
    s.mbxDown (MBX_SEND_W0 n e) = false → mbxOwner n e = some m → 15 < v.toNat % 256 →
    exec (.sendW0Write m n e v) s = .next (((s.answer m .ok).set (MBX_EVT_SEND_ERR n e) 1).refuseWrite m (MBX_SEND_W0 n e))) ∧
  (∀ (s : State) (m : Master) (n e : Nat) (v : Word) (r : RegRow), n < 8 → e < 2 → s.verdict m (MBX_SEND_W0 n e) = .row r →
    s.mbxDown (MBX_SEND_W0 n e) = false → mbxOwner n e ≠ some m →
    exec (.sendW0Write m n e v) s = .next ((s.answer m .ok).refuseWrite m (MBX_SEND_W0 n e))) ∧
  (∀ (s : State) (m : Master) (n e : Nat) (v : Word) (r : RegRow), n < 8 → e < 2 → s.verdict m (MBX_SEND_W0 n e) = .row r →
    s.mbxDown (MBX_SEND_W0 n e) = true →
    exec (.sendW0Write m n e v) s = .next (((s.answer m .ok).errorReply m).logFault 0x06 n (some (m, true, MBX_SEND_W0 n e)))) ∧
  (∀ (s : State) (m : Master) (n e : Nat) (v : Word) (r : RegRow), n < 8 → e < 2 → s.verdict m (MBX_CTRL n e) = .row r →
    s.mbxDown (MBX_CTRL n e) = false → mbxOwner n e = some m → v.getLsbD 0 = true → v.getLsbD 1 = false →
    exec (.release m n e v) s = .next ((s.answer m .ok).mbxRelease n e)) ∧
  (∀ (s : State) (m : Master) (n e : Nat) (v : Word) (r : RegRow), n < 8 → e < 2 → s.verdict m (MBX_CTRL n e) = .row r →
    s.mbxDown (MBX_CTRL n e) = false → mbxOwner n e = some m → v.getLsbD 1 = true →
    exec (.endReset m n e v) s = .next ((s.answer m .ok).mbxEndReset n e)) ∧
  (∀ s : State, s.boot.root = true → s.asleep = false →
    exec .pcieFunctionReset s = .next ((((s.mbxEndReset 1 0).ringStop 0).ringStop 1).set HIF_MSIX_EN_MSIX_EN 0)) ∧
  (∀ s : State, s.boot.root = true → s.asleep = false →
    let u := { s with fw := { s.fw with restarts := smPut s.fw.restarts 0 (s.cyc :: s.recentRestarts 0) } }
    exec (.coreWatchdogExpiry 0) s = .next ((u.coreDown 0).logFault (if 2 ≤ (s.recentRestarts 0).length then 0x17 else 0x16) 0 none)) ∧
  (∀ s : State, s.boot.root = true → s.asleep = false → s.nvs.job = none → s.nvs.save = none → s.fw.passed = none →
    let u := { s with fw := { s.fw with restarts := smPut s.fw.restarts 1 (s.cyc :: s.recentRestarts 1), passed := none } }
    exec (.coreWatchdogExpiry 1) s = .next
      ((State.coreDown 1 { u with hold := s.hold }).logFault (if 2 ≤ (s.recentRestarts 1).length then 0x17 else 0x16) 1 none)) ∧
  (∀ (s : State) (core : Nat), core < 2 → s.boot.root = true → s.asleep = false →
    exec (.coreReady core) s = .next { s with fw := { s.fw with down := putBit s.fw.down core false } }) ∧
  (∀ (s : State) (core : Nat), s.asleep = true → exec (.coreReady core) s = .next s)

/-- Coachman A takes requests, checks them, and posts responses; what it does for the system (R1, R39, R430 to R434, R438 to
R443, R456). The model's choices it rests on: log entries 54, 56, 57, 59, 60. -/
def Obligations.InterpreterCommandsComplete : Prop :=
  (∀ (s : State) (mb : Nat) (x : Msg) (xs : List Msg) (r : CmdRow), s.fwRuns = true →
    ([0, 1, 2, 3].map fun k => (s.fw.turn + k) % 4).find? s.takable = some mb → (s.mb mb).inbound = x :: xs →
    cmdRows.find? (fun c => c.opcode == x.opcode) = some r → (r.priv = true → s.mbxPrivileged mb = true) →
    r.lo ≤ x.data.length → x.data.length ≤ r.hi → (s.mbxRelease mb 1).mbxPrivileged mb = s.mbxPrivileged mb →
    let u := s.mbxRelease mb 1
    exec .commandTake s = .next { u with fw := { u.fw with
      turn := (mb + 1) % 4, taken := smPut u.fw.taken mb (some ⟨x.opcode, x.tag, x.data, false⟩) } }) ∧
  (∀ (s : State) (mb : Nat) (x : Msg) (xs : List Msg), s.fwRuns = true →
    ([0, 1, 2, 3].map fun k => (s.fw.turn + k) % 4).find? s.takable = some mb → (s.mb mb).inbound = x :: xs →
    cmdRows.find? (fun c => c.opcode == x.opcode) = none →
    let u := s.mbxRelease mb 1
    exec .commandTake s = .next (State.fwAnswer mb 1 0 [] { u with fw := { u.fw with
      turn := (mb + 1) % 4, taken := smPut u.fw.taken mb (some ⟨x.opcode, x.tag, x.data, false⟩) } })) ∧
  (∀ s : State, ([0, 1, 2, 3].map fun k => (s.fw.turn + k) % 4).find? s.takable = none → exec .commandTake s = .next s) ∧
  (∀ (s : State) (mb : Nat) (t : Taken) (ts : List Taken), mb < 4 → s.fwRuns = true → smAt s.fw.replies mb = t :: ts →
    1 + t.data.length ≤ s.sendFree mb 1 →
    exec (.responsePost mb) s = .next
      (State.mbxPost mb 1 t.opcode t.tag t.data { s with fw := { s.fw with replies := smPut s.fw.replies mb ts } })) ∧
  (∀ (s : State) (mb : Nat) (t : Taken) (ts : List Taken), mb < 4 → s.fwRuns = true → smAt s.fw.replies mb = t :: ts →
    s.sendFree mb 1 < 1 + t.data.length → exec (.responsePost mb) s = .next s) ∧
  (∀ (s : State) (mb : Nat) (t : Taken), s.fwRuns = true → s.request mb = some t → t.opcode = 0x0101 →
    let r := s.fwRead [GLB_STATUS, GLB_BOOT_IMGVER, GLB_LIV_UID_LO, GLB_LIV_UID_HI]
    exec (.sysInfo mb) s = .next (r.1.fwOk mb (0x48160204#32 :: r.2))) ∧
  (∀ (s : State) (mb : Nat) (t : Taken), s.fwRuns = true → s.request mb = some t → t.opcode ≠ 0x0101 →
    exec (.sysInfo mb) s = .next s) ∧
  (∀ (s : State) (mb : Nat) (t : Taken), s.fwRuns = true → s.request mb = some t → t.opcode = 0x0102 →
    exec (.reset mb) s = .next
      (State.fwOk mb [] { s with fw := { s.fw with deferred := s.fw.deferred ++ [(mb, t.tag, 0)] } })) ∧
  (∀ (s : State) (d : Nat × Nat × Nat) (ds : List (Nat × Nat × Nat)), s.fwRuns = true → s.fw.deferred = d :: ds →
    s.deferredPosted d = true → d.2.2 = 0 → exec .deferredAction s = .next (s.internalReset 1)) ∧
  (∀ (s : State) (d : Nat × Nat × Nat) (ds : List (Nat × Nat × Nat)), s.fwRuns = true → s.fw.deferred = d :: ds →
    s.deferredPosted d = false → exec .deferredAction s = .next s) ∧
  (∀ (s : State) (d : Nat × Nat × Nat) (ds : List (Nat × Nat × Nat)), s.fwRuns = true → s.fw.deferred = d :: ds →
    s.deferredPosted d = true → d.2.2 ≠ 0 → s.pwr.target = none →
    exec .deferredAction s = .next (State.busWrite .coachA PWR_REQ
      (packWord [(1, 31), ((d.2.2 - 1) % 16, 4), ((d.2.2 - 1) / 16, 0)]) { s with fw := { s.fw with deferred := ds } })) ∧
  (∀ (s : State) (d : Nat × Nat × Nat) (ds : List (Nat × Nat × Nat)), s.fwRuns = true → s.fw.deferred = d :: ds →
    s.deferredPosted d = true → d.2.2 ≠ 0 → s.pwr.target ≠ none →
    exec .deferredAction s = .next { s with fw := { s.fw with deferred := ds } }) ∧
  (∀ (s : State) (mb : Nat) (t : Taken), s.fwRuns = true → s.request mb = some t → t.opcode = 0x0103 →
    (payload t.data 1).toNat < 2 ^ 13 →
    exec (.setEvents mb) s = .next
      (State.fwOk mb [] { s with fw := { s.fw with mask := smPut s.fw.mask mb (payload t.data 1).toNat } })) ∧
  (∀ (s : State) (mb : Nat) (t : Taken), s.fwRuns = true → s.request mb = some t → t.opcode = 0x0103 →
    2 ^ 13 ≤ (payload t.data 1).toNat → exec (.setEvents mb) s = .next (s.fwInvalid mb 1)) ∧
  (∀ (s : State) (mb : Nat) (t : Taken), s.fwRuns = true → s.request mb = some t → t.opcode = 0x0104 →
    1 ≤ s.get GLB_STATUS_MODE → s.get GLB_STATUS_MODE ≤ 4 → exec (.enterWorkshop mb) s = .next ((s.setMode 5).fwOk mb [])) ∧
  (∀ (s : State) (mb : Nat) (t : Taken), s.fwRuns = true → s.request mb = some t → t.opcode = 0x0104 →
    5 ≤ s.get GLB_STATUS_MODE → exec (.enterWorkshop mb) s = .next (s.fwInvalid mb 0)) ∧
  (∀ (s : State) (mb : Nat) (t : Taken) (w : Word) (ret : List Word), s.fwRuns = true → s.request mb = some t →
    t.opcode = 0x0105 → s.callable (payload t.data 1).toNat = true →
    exec (.callExtension mb (w :: ret)) s = .next
      ((s.emit .call mb (((payload t.data 1).toNat : Int) :: (t.data.drop 1).map fun (x : Word) => (x.toNat : Int)) []).fwAnswer mb
        (w.toNat / 2 ^ 24) (w.toNat % 2 ^ 24) (ret.take 14))) ∧
  (∀ (s : State) (mb : Nat) (t : Taken) (ret : List Word), s.fwRuns = true → s.request mb = some t → t.opcode = 0x0105 →
    s.callable (payload t.data 1).toNat = false → exec (.callExtension mb ret) s = .next (s.fwAnswer mb 8 0 [])) ∧
  (∀ (s : State) (mb : Nat) (t : Taken), s.fwRuns = true → s.request mb = some t → t.opcode = 0x0105 →
    s.callable (payload t.data 1).toNat = true → exec (.extensionTimeout mb) s = .next (s.coreRestart 0 true)) ∧
  (∀ (s : State) (mb : Nat) (t : Taken), s.fwRuns = true → s.request mb = some t → t.opcode = 0x0106 →
    s.get GLB_STATUS_MODE = 5 → payloadBits t.data 1 0 2 = 0 → t.data.length = 10 →
    s.livery.keySet.getLsbD (payloadBits t.data 2 0 2) = false →
    exec (.fuseProgram mb true) s = .next (State.fwOk mb [] { s with livery := { s.livery with
      keySet := s.livery.keySet ||| BitVec.ofNat 4 (2 ^ payloadBits t.data 2 0 2)
      keyHash := smPut s.livery.keyHash (payloadBits t.data 2 0 2)
        ((t.data.drop 2).flatMap fun (w : Word) => octetsBE 4 w.toNat) } })) ∧
  (∀ (s : State) (mb : Nat) (t : Taken), s.fwRuns = true → s.request mb = some t → t.opcode = 0x0106 →
    s.get GLB_STATUS_MODE = 5 → payloadBits t.data 1 0 2 = 0 → t.data.length = 10 →
    s.livery.keySet.getLsbD (payloadBits t.data 2 0 2) = false →
    ∃ l : Livery, exec (.fuseProgram mb false) s = .next (State.fwAnswer mb 6 1 [] { s.useFree with livery := l }) ∧
      l = { s.livery with keySet := l.keySet, keyHash := l.keyHash } ∧
      ∀ j, j ≠ payloadBits t.data 2 0 2 →
        l.keySet.getLsbD j = s.livery.keySet.getLsbD j ∧ smAt l.keyHash j = smAt s.livery.keyHash j) ∧
  (∀ (s : State) (mb : Nat) (t : Taken), s.fwRuns = true → s.request mb = some t → t.opcode = 0x0106 →
    s.get GLB_STATUS_MODE = 5 → payloadBits t.data 1 0 2 = 1 → t.data.length = 2 →
    s.livery.keySet.getLsbD (payloadBits t.data 2 0 2) = true →
    exec (.fuseProgram mb true) s = .next (State.fwOk mb [] { s with livery := { s.livery with
      keyRevoked := s.livery.keyRevoked ||| BitVec.ofNat 4 (2 ^ payloadBits t.data 2 0 2) } }) ∧
    exec (.fuseProgram mb false) s = .next (s.fwAnswer mb 6 1 [])) ∧
  (∀ (s : State) (mb : Nat) (t : Taken), s.fwRuns = true → s.request mb = some t → t.opcode = 0x0106 →
    s.get GLB_STATUS_MODE = 5 → payloadBits t.data 1 0 2 = 2 → t.data.length = 1 →
    exec (.fuseProgram mb true) s = .next (State.fwOk mb [] { s with livery := { s.livery with secure := true } }) ∧
    exec (.fuseProgram mb false) s = .next (s.fwAnswer mb 6 1 [])) ∧
  (∀ (s : State) (mb : Nat) (reads : Bool) (t : Taken), s.fwRuns = true → s.request mb = some t → t.opcode = 0x0106 →
    s.get GLB_STATUS_MODE ≠ 5 → exec (.fuseProgram mb reads) s = .next (s.fwInvalid mb 0))

/-- The status commands answer the words of their registers, in order, and UNAVAILABLE where the block is gated; the
commands that set a loop, a selector, outputs and time (R240, R432, R435, R444 to R447, R455). The model's choices it rests
on: log entries 54, 55, 58. -/
def Obligations.TimingRequestsComplete : Prop :=
  (∀ (s : State) (mb : Nat) (t : Taken), s.fwRuns = true → s.request mb = some t →
    let n := payloadBits t.data 1 0 6
    let l := payloadBits t.data 1 0 2
    let k := payloadBits t.data 1 0 5
    (t.opcode = 0x0201 → exec (.refStatus mb) s = .next (s.fwStatus mb
      [REFM_STATE n, REFM_YS n, REFM_YL n, REFM_DRATE n, REFM_TCROSS n])) ∧
    (t.opcode = 0x0202 → exec (.selStatus mb) s = .next (s.fwStatus mb
      [SEL_STATUS l, SEL_CAND_LO l, SEL_CAND_HI l, SEL_SUSPECT_LO l, SEL_SUSPECT_HI l])) ∧
    (t.opcode = 0x0301 → exec (.loopStatus mb) s = .next (s.fwStatus mb
      [DPL_STATUS l, DPL_FREQ_LO l, DPL_FREQ_HI l, DPL_PHERR_LO l, DPL_PHERR_HI l])) ∧
    (t.opcode = 0x0305 → exec (.holdStatus mb) s = .next (s.fwStatus mb
      [HOLD_STATUS, HOLD_LEARNT, HOLD_YPRED_LO, HOLD_YPRED_HI, HOLD_CAL_LO, HOLD_CAL_HI])) ∧
    (t.opcode = 0x0401 → k < 24 → exec (.outStatus mb) s = .next (s.fwStatus mb [OUT_STATUS k, OUT_EVT k])) ∧
    (t.opcode = 0x0401 → 24 ≤ k → exec (.outStatus mb) s = .next (s.fwInvalid mb 1))) ∧
  (∀ (s : State) (mb : Nat) (as : List Nat), as.any s.gatedAt = false → s.fwStatus mb as = (s.fwRead as).1.fwOk mb (s.fwRead as).2) ∧
  (∀ (s : State) (mb : Nat) (as : List Nat), as.any s.gatedAt = true → s.fwStatus mb as = s.fwAnswer mb 9 0 []) ∧
  (∀ (s : State) (mb : Nat) (t : Taken), s.fwRuns = true → s.request mb = some t → t.opcode = 0x0203 →
    let a := SEL_CTRL (payloadBits t.data 1 0 2)
    let v := withField (withField (s.rd a) (SEL_CTRL_MODE (payloadBits t.data 1 0 2)) (payloadBits t.data 1 8 2))
      (SEL_CTRL_MANUAL_REF (payloadBits t.data 1 0 2)) (payloadBits t.data 1 16 6)
    (fieldsFit a (s.rd a) v = true → exec (.selManual mb) s = .next ((s.busWrite .coachA a v).fwOk mb [])) ∧
    (fieldsFit a (s.rd a) v = false → exec (.selManual mb) s = .next (s.fwInvalid mb 1))) ∧
  (∀ (s : State) (mb : Nat) (t : Taken), s.fwRuns = true → s.request mb = some t → t.opcode = 0x0302 →
    let l := payloadBits t.data 1 0 2
    (s.on (DPL_CFG_ENABLE l) = true → s.loopSrc l = 4 → exec (.loopSample mb) s = .next
      ((s.takeSample l ((wideOf (payload t.data 2) (payload t.data 3) : Rat) / (65536 : Nat))).fwOk mb [])) ∧
    (s.on (DPL_CFG_ENABLE l) = false → exec (.loopSample mb) s = .next (s.fwInvalid mb 0)) ∧
    (s.loopSrc l ≠ 4 → exec (.loopSample mb) s = .next (s.fwInvalid mb 0))) ∧
  (∀ (s : State) (mb k bits : Nat) (t : Taken), s.fwRuns = true → s.request mb = some t → t.opcode = 0x0303 → s.nvFree = true →
    nextRecord calMagic (s.nvOctets 0x18000 256) (s.nvOctets 0x18100 256) = (k, bits) →
    let y := wideOf (payload t.data 1) (payload t.data 2)
    let st := s.recordStatus [384 + k] (decide (1 ≤ s.get NVS_PROTECT_LEVEL))
    y.natAbs ≤ calLimit →
    (st = 0 → exec (.setCal mb) s = .next (s.writeCal y 0 (mb + 1)).1) ∧
    (st ≠ 0 → exec (.setCal mb) s = .next ((s.testRefused [384 + k]).fwNv mb st []))) ∧
  (∀ (s : State) (mb : Nat) (t : Taken), s.fwRuns = true → s.request mb = some t → t.opcode = 0x0303 →
    calLimit < (wideOf (payload t.data 1) (payload t.data 2)).natAbs → exec (.setCal mb) s = .next (s.fwInvalid mb 1)) ∧
  (∀ (s : State) (mb : Nat) (t : Taken), s.fwRuns = true → s.request mb = some t → t.opcode = 0x0304 → s.clearByHost = false →
    s.nvFree = true →
    let st := s.recordStatus [256, 257] (decide (2 ≤ s.get NVS_PROTECT_LEVEL))
    (st = 0 → exec (.clearModel mb) s = .next (s.clearStart (mb + 1))) ∧
    (st ≠ 0 → exec (.clearModel mb) s = .next ((s.testRefused [256, 257]).fwNv mb st []))) ∧
  (∀ (s : State) (mb : Nat) (t : Taken), s.fwRuns = true → s.request mb = some t → t.opcode = 0x0304 → s.clearByHost = true →
    exec (.clearModel mb) s = .next (s.fwAnswer mb 4 0 [])) ∧
  (∀ (s : State) (mb : Nat) (t : Taken), s.fwRuns = true → s.request mb = some t → t.opcode = 0x0402 →
    let named := bitsOf (payload t.data 1).toNat 24
    let u := s.each named fun n x => x.busWrite .coachA (OUT_CFG n)
      (withField (x.rd (OUT_CFG n)) (OUT_CFG_ENABLE n) (if (payload t.data 2).getLsbD n then 1 else 0))
    ((∀ n ∈ named, (payload t.data 2).getLsbD n = true → u.on (OUT_CFG_ENABLE n) = true) →
      exec (.outEnable mb) s = .next (u.fwOk mb [0]))) ∧
  (∀ (s : State) (mb : Nat) (t : Taken), s.fwRuns = true → s.request mb = some t → t.opcode = 0x0501 →
    exec (.timeRead mb) s = .next (State.fwStatus mb
      ([TIM_SNAP_A0, TIM_SNAP_B0, TIM_SNAP_SRV0].flatMap fun a => [a, a + 4, a + 8, a + 12])
      (s.busWrite .coachA TIM_SNAP_CTRL (withField (s.rd TIM_SNAP_CTRL) TIM_SNAP_CTRL_TAKE 1)))) ∧
  (∀ (s : State) (mb : Nat) (t : Taken), s.fwRuns = true → s.request mb = some t → t.opcode = 0x0502 →
    let d := payloadBits t.data 1 0 1
    exec (.timeSetSec mb) s = .next ((((s.busWrite .coachA (TIM_SET_SEC_LO d) (payload t.data 2)).busWrite .coachA (TIM_SET_SEC_HI d)
      (payload t.data 3 &&& 0xFFFF#32)).busWrite .coachA (TIM_CTRL d) 2#32).fwOk mb []))

/-- The requests for gauge runs, sessions, profiles, coupling and ports (R432, R448 to R451). The model's choices it rests
on: log entries 36, 41, 54, 55, 58. -/
def Obligations.NetworkRequestsComplete : Prop :=
  (∀ (s : State) (mb : Nat) (t : Taken), s.fwRuns = true → s.request mb = some t → t.opcode = 0x0601 →
    smAt s.fw.gauge mb = none →
    let n := payloadBits t.data 1 0 6
    let cfg := withField (withField (s.rd (GAU_STAT_CFG n)) (GAU_STAT_CFG_QTY n) (payloadBits t.data 1 8 2)) (GAU_STAT_CFG_N n)
      (payloadBits t.data 2 0 16)
    fieldsFit (GAU_STAT_CFG n) (s.rd (GAU_STAT_CFG n)) cfg = true → payloadBits t.data 2 0 16 ≠ 0 →
    payloadBits t.data 3 0 16 ≠ 0 → s.gatedAt (GAU_STAT_CFG n) = false →
    (s.on (GAU_STATUS_STAT_BUSY n) = true → exec (.gaugeRun mb) s = .next (s.fwAnswer mb 4 0 [])) ∧
    (s.on (GAU_STATUS_STAT_BUSY n) = false → (s.wr (GAU_STAT_CFG n) cfg).statTaken n = true →
      let u := (s.busWrite .coachA (GAU_STAT_CFG n) cfg).busWrite .coachA (GAU_STAT_CTRL n) 1#32
      exec (.gaugeRun mb) s = .next { u with fw := { u.fw with gauge := smPut u.fw.gauge mb (some n) } })) ∧
  (∀ (s : State) (mb n : Nat) (t : Taken), s.fwRuns = true → s.request mb = some t → t.opcode = 0x0601 →
    smAt s.fw.gauge mb = some n →
    let u := State.busWrite .coachA (GAU_STAT_CTRL n) 2#32 { s with fw := { s.fw with gauge := smPut s.fw.gauge mb none } }
    exec (.gaugeRun mb) s = .next (u.fwAnswer mb 7 0 (u.gaugeWords n))) ∧
  (∀ (s : State) (mb : Nat) (t : Taken), s.fwRuns = true → s.request mb = some t → t.opcode = 0x0701 →
    let k := payloadBits t.data 1 0 8
    (192 ≤ k → exec (.sessL2 mb) s = .next (s.fwInvalid mb 1)) ∧
    (k < 192 → s.on (SESS_CFG_ENABLE k) = true → exec (.sessL2 mb) s = .next (s.fwInvalid mb 0)) ∧
    (k < 192 → s.on (SESS_CFG_ENABLE k) = false → s.sessProfile k = some 2 →
      profileAddress (payload t.data 2) (payload t.data 3) = false → exec (.sessL2 mb) s = .next (s.fwInvalid mb 2)) ∧
    (k < 192 → s.on (SESS_CFG_ENABLE k) = false → s.sessProfile k ≠ some 2 → s.gatedAt (SESS_CFG k) = false →
      exec (.sessL2 mb) s = .next ((s.setSess k { s.sess k with
        l2 := [payload t.data 2, payload t.data 3 &&& 0xFFFF#32]
        peer := ((payload t.data 4).toNat * 2 ^ 32 + (payload t.data 5).toNat) * 2 ^ 16 + payloadBits t.data 6 0 16 }).fwOk mb []))) ∧
  (∀ (s : State) (mb : Nat) (t : Taken), s.fwRuns = true → s.request mb = some t → t.opcode = 0x0702 →
    let k := payloadBits t.data 1 0 8
    k < 192 → s.on (SESS_CFG_ENABLE k) = false → payloadBits t.data 1 8 1 = 1 → s.gatedAt (SESS_CFG k) = false →
    exec (.sessIp mb) s = .next ((s.setSess k { s.sess k with
      ip := (t.data.drop 1).take 8 ++ [payload t.data 10 &&& 0xFF3F#32, 1#32] }).fwOk mb [])) ∧
  (∀ (s : State) (mb : Nat) (t : Taken), s.fwRuns = true → s.request mb = some t → t.opcode = 0x0703 →
    let dn := payloadBits t.data 1 0 8
    let profile := payloadBits t.data 1 8 3
    let u := (s.instSessions dn).foldl (fun (x : State) k => x.setSess k { x.sess k with parent := 0 }) s
    (profileAllows profile dn = false → exec (.ptpProfile mb) s = .next (s.fwInvalid mb 1)) ∧
    (profileAllows profile dn = true → profile ≠ 4 → (smAt s.tse.insts dn).isSome = true → s.gatedAt (SESS_CFG 0) = false →
      exec (.ptpProfile mb) s = .next (State.fwOk mb [] { u with tse := { u.tse with
        insts := smPut u.tse.insts dn (some ⟨[payload t.data 1 &&& 0x7FF#32, payload t.data 2 &&& 0x1FFFFFF#32]⟩) } })) ∧
    (profileAllows profile dn = true → profile = 4 → (smAt s.tse.insts dn).isSome = true →
      exec (.ptpProfile mb) s = .next (State.fwOk mb [] { u with tse := { u.tse with insts := smPut u.tse.insts dn none } })) ∧
    (profileAllows profile dn = true → profile ≠ 4 → smAt s.tse.insts dn = none → 8 ≤ s.tse.insts.length →
      exec (.ptpProfile mb) s = .next (s.fwInvalid mb 0)) ∧
    (profileAllows profile dn = true → profile = 4 → smAt s.tse.insts dn = none →
      exec (.ptpProfile mb) s = .next (s.fwAnswer mb 8 0 []))) ∧
  (∀ (s : State) (mb : Nat) (t : Taken), s.fwRuns = true → s.request mb = some t → t.opcode = 0x0704 →
    let k := payloadBits t.data 1 0 8
    let dn := s.get (SESS_CFG_DOMAIN_NUM k)
    let words (src quality : Nat) : List Word :=
      [packWord [(s.portState k, 0)], BitVec.ofNat 32 (src / 2 ^ 48), BitVec.ofNat 32 (src / 2 ^ 16), packWord [(src % 2 ^ 16, 16)],
        packWord [(quality / 2 ^ 24, 0), (quality / 2 ^ 16 % 256, 8), (quality % 2 ^ 16, 16)]]
    k < 192 → s.gatedAt (SESS_CFG k) = false →
    (∀ x : PtpInst, smAt s.tse.insts dn = some x →
      exec (.ptpPortDs mb) s = .next (s.fwOk mb (words (s.announced dn x).src (s.announced dn x).quality))) ∧
    (smAt s.tse.insts dn = none → ∃ q < 2 ^ 32, exec (.ptpPortDs mb) s = .next (s.useFree.fwOk mb (words (s.sess k).peer q)))) ∧
  (∀ (s : State) (mb : Nat) (t : Taken), s.fwRuns = true → s.request mb = some t →
    let p := payloadBits t.data 1 0 6
    (t.opcode = 0x0705 → p < 48 → exec (.cplStatus mb) s = .next (s.fwStatus mb [CPL_PORT_STATUS p, CPL_PORT_OFFSET_LO p,
      CPL_PORT_OFFSET_HI p, CPL_PORT_MLD_LO p, CPL_PORT_MLD_HI p, CPL_PORT_FAR_ID p, CPL_NODE_ACC])) ∧
    (t.opcode = 0x0705 → 48 ≤ p → exec (.cplStatus mb) s = .next (s.fwInvalid mb 1)) ∧
    (t.opcode = 0x0801 → p < 48 → exec (.portStatus mb) s = .next (s.fwStatus mb [PRT_STATUS p, TSE_PORT_STATUS p, BUF_OUT_STATUS p])) ∧
    (t.opcode = 0x0801 → 48 ≤ p → exec (.portStatus mb) s = .next (s.fwInvalid mb 1))) ∧
  (∀ (s : State) (mb : Nat) (t : Taken), s.fwRuns = true → s.request mb = some t → t.opcode = 0x0802 →
    ([0, 1, 2, 3].all fun k => ((s.bus k).now.toList ++ (s.bus k).waits.toList).all fun j => j.who != .command mb) = true →
    let p := payloadBits t.data 1 0 6
    let n := payloadBits t.data 1 16 8
    let b := s.get (PRT_MOD_ROUTE_MASTER p)
    (48 ≤ p → exec (.moduleRead mb) s = .next (s.fwInvalid mb 1)) ∧
    (p < 48 → 56 < n → exec (.moduleRead mb) s = .next (s.fwInvalid mb 1)) ∧
    (p < 48 → n = 0 → exec (.moduleRead mb) s = .next (s.fwOk mb [])) ∧
    (p < 48 → 0 < n → n ≤ 56 → s.on (PRT_I2C_STATUS_BUSY b) = true → exec (.moduleRead mb) s = .next (s.fwAnswer mb 4 0 [])) ∧
    (p < 48 → 0 < n → n ≤ 56 → s.on (PRT_I2C_STATUS_BUSY b) = false → s.on (PRT_MOD_ROUTE_MUX_EN p) = false →
      exec (.moduleRead mb) s = .next (s.i2cWant b ⟨.command mb, none, false,
        s.get (PRT_MOD_ROUTE_MOD_ADDR p), some (payloadBits t.data 1 8 8), n⟩))) ∧
  (∀ (s : State) (b mb : Nat) (j : I2cJob) (bytes : List Octet), b < 4 → s.i2cOn = true → (s.bus b).now = some j →
    j.who = .command mb →
    exec (.i2cTransferDone b .done bytes) s = .next ((s.i2cEnd b .done bytes).fwOk mb (wordsOf (bytes.take j.len))) ∧
    exec (.i2cTransferDone b .nack bytes) s = .next ((s.i2cEnd b .nack bytes).fwAnswer mb 6 1 []) ∧
    exec (.i2cTransferDone b .nackMux bytes) s = .next ((s.i2cEnd b .nackMux bytes).fwAnswer mb 6 2 []) ∧
    exec (.i2cTransferDone b .timeout bytes) s = .next ((s.i2cEnd b .timeout bytes).fwAnswer mb 7 0 [])) ∧
  (∀ (s : State) (b p : Nat) (j : I2cJob) (res : I2cResult) (bytes : List Octet), b < 4 → s.i2cOn = true → (s.bus b).now = some j →
    (j.who = .host ∨ j.who = .poll p ∨ j.who = .sensor true ∨ j.who = .sensor false) → exec (.i2cTransferDone b res bytes) s = .next (s.i2cEnd b res bytes)) ∧
  (∀ (s : State) (mb : Nat) (t : Taken), s.fwRuns = true → s.request mb = some t → t.opcode = 0x0901 →
    let p := payloadBits t.data 1 0 6
    let all := payloadBits t.data 1 16 1
    (all = 0 → 50 ≤ p → exec (.macFlush mb) s = .next (s.fwInvalid mb 1)) ∧
    ((all = 1 ∨ p < 50) → s.gatedAt FWD_TBL_CMD = false → s.on FWD_TBL_CMD_BUSY = true → exec (.macFlush mb) s = .next s) ∧
    ((all = 1 ∨ p < 50) → s.gatedAt FWD_TBL_CMD = false → s.on FWD_TBL_CMD_BUSY = false →
      exec (.macFlush mb) s = .next ((s.bankOp 5 1 (p + 2 ^ 16 * all) []).1.fwOk mb []))) ∧
  (∀ (s u : State) (mb st : Nat) (t : Taken), s.fwRuns = true → s.request mb = some t → t.opcode = 0x0902 →
    entryOk 1 (t.data ++ [0, 0]) = true → s.gatedAt FWD_TBL_CMD = false → s.on FWD_TBL_CMD_BUSY = false →
    s.bankOp 4 1 0 t.data = (u, st) →
    (st = 0 → exec (.macLookup mb) s = .next (u.fwOk mb (u.tblData 4 ++ [BitVec.ofNat 32 (u.get FWD_TBL_CMD_INDEX)]))) ∧
    (st ≠ 0 → exec (.macLookup mb) s = .next (u.fwAnswer mb 8 0 []))) ∧
  (∀ (s : State) (mb : Nat) (t : Taken), s.fwRuns = true → s.request mb = some t → t.opcode = 0x0903 →
    let table := payloadBits t.data 1 0 16
    let es := t.data.drop 1
    (entryWords table = none → exec (.tableWrite mb) s = .next (s.fwInvalid mb 1)) ∧
    (table = 1 → entryWords 1 = some es.length → payloadBits t.data 1 16 1 = 0 → entryOk 1 es = true →
      s.gatedAt FWD_TBL_CMD = false → s.on FWD_TBL_CMD_BUSY = false →
      exec (.tableWrite mb) s = .next (State.bankAnswer mb (s.bankOp 2 1 0 es))) ∧
    (table = 4 → entryWords 4 = some es.length → payloadBits t.data 1 16 1 = 0 → entryOk 4 es = true →
      s.on (SCH_GCL_STATUS_PENDING (gatePlaceOf es).1) = false → s.gatedAt SCH_CTRL = false →
      exec (.tableWrite mb) s = .next ((s.putGate es).fwOk mb [])))

/-- The requests that pass to coachman B, the fault log, and the power ladder (R396, R436, R438, R453, R454, R482, R484,
R490, R503). The model's choices it rests on: log entries 47, 54, 55, 59, 69. -/
def Obligations.StoreRequestsComplete : Prop :=
  (∀ (s u : State) (mb st : Nat) (t : Taken), s.fwRuns = true → s.request mb = some t → t.opcode = 0x0A01 → s.nvFree = true →
    (payload t.data 2).toNat ≤ 56 → s.nvCommand 0 (payloadBits t.data 1 0 17) (payload t.data 2).toNat false [] = (u, some st) →
    (st = 0 → exec (.nvRead mb) s = .next (u.fwOk mb (wordsOf (u.nvWindow (payload t.data 2).toNat)))) ∧
    (st = 6 → exec (.nvRead mb) s = .next (u.fwNv mb 6 (wordsOf (u.nvWindow (payload t.data 2).toNat)))) ∧
    (st ≠ 0 → st ≠ 6 → exec (.nvRead mb) s = .next (u.fwNv mb st []))) ∧
  (∀ (s : State) (mb : Nat) (t : Taken), s.fwRuns = true → s.request mb = some t → t.opcode = 0x0A01 →
    56 < (payload t.data 2).toNat → exec (.nvRead mb) s = .next (s.fwInvalid mb 2)) ∧
  (∀ (s : State) (mb : Nat) (t : Taken), s.fwRuns = true → s.request mb = some t → t.opcode = 0x0A01 →
    (payload t.data 2).toNat ≤ 56 → s.nvFree = false → exec (.nvRead mb) s = .next s) ∧
  (∀ (s u : State) (mb : Nat) (t : Taken) (bs : List Octet) (o : Option Nat), s.fwRuns = true → s.request mb = some t →
    t.opcode = 0x0A02 → s.nvFree = true → requestOctets t.data (payload t.data 2).toNat = some bs →
    0 < (payload t.data 2).toNat → (payload t.data 2).toNat ≤ 52 → 0x8000 ≤ payloadBits t.data 1 0 17 →
    payloadBits t.data 1 0 17 + (payload t.data 2).toNat ≤ 0x10000 →
    (s.nvToWindow bs).nvCommand 1 (payloadBits t.data 1 0 17) (payload t.data 2).toNat (payloadBits t.data 1 24 1 == 1)
      [(6, mb)] = (u, o) →
    (∀ st : Nat, o = some st → exec (.nvWrite mb) s = .next (u.fwNv mb st [])) ∧
    (o = none → exec (.nvWrite mb) s = .next u)) ∧
  (∀ (s : State) (mb : Nat) (t : Taken) (bs : List Octet), s.fwRuns = true → s.request mb = some t → t.opcode = 0x0A02 →
    requestOctets t.data (payload t.data 2).toNat = some bs → 0 < (payload t.data 2).toNat → (payload t.data 2).toNat ≤ 52 →
    payloadBits t.data 1 0 17 < 0x8000 → exec (.nvWrite mb) s = .next (s.fwInvalid mb 1)) ∧
  (∀ (s u : State) (mb : Nat) (t : Taken) (o : Option Nat), s.fwRuns = true → s.request mb = some t → t.opcode = 0x0A03 →
    s.nvFree = true → s.nvCommand 2 (s.get NVS_ADDR_ADDR) (s.get NVS_LEN_LEN) false [(6, mb)] = (u, o) →
    (∀ st : Nat, o = some st → exec (.nvCommit mb) s = .next (u.fwNv mb st [])) ∧
    (o = none → exec (.nvCommit mb) s = .next u)) ∧
  (∀ (s : State) (mb : Nat) (t : Taken) (bs : List Octet), s.fwRuns = true → s.request mb = some t → t.opcode = 0x0A04 →
    s.nvFree = true → requestOctets t.data (payload t.data 2).toNat = some bs → (payload t.data 1).toNat ≤ 491 →
    (payload t.data 2).toNat ≤ 52 → (payload t.data 1).toNat + (payload t.data 2).toNat ≤ 492 →
    exec (.hotUserWrite mb) s = .next ((s.hotPut (0x610 + (payload t.data 1).toNat) bs).fwOk mb [])) ∧
  (∀ (s : State) (mb : Nat) (t : Taken) (bs : List Octet), s.fwRuns = true → s.request mb = some t → t.opcode = 0x0A04 →
    requestOctets t.data (payload t.data 2).toNat = some bs → (payload t.data 2).toNat ≤ 52 → 491 < (payload t.data 1).toNat →
    exec (.hotUserWrite mb) s = .next (s.fwInvalid mb 1)) ∧
  (∀ (s u : State) (mb : Nat) (t : Taken) (o : Option Nat), s.fwRuns = true → s.request mb = some t → t.opcode = 0x0A05 →
    s.nvFree = true → s.nvCommand 4 (s.get NVS_ADDR_ADDR) (s.get NVS_LEN_LEN) false [] = (u, o) →
    (∀ st : Nat, o = some st → exec (.hotSave mb) s = .next (u.fwNv mb st [])) ∧
    (o = none → exec (.hotSave mb) s = .next { u with fw := { u.fw with passed := some mb } })) ∧
  (∀ (s : State) (mb : Nat) (t : Taken) (e : FaultEntry), s.fwRuns = true → s.request mb = some t → t.opcode = 0x0B01 →
    s.coreBRuns = true → s.eventLog[payloadBits t.data 1 0 16]? = some e →
    exec (.faultLogRead mb) s = .next (s.fwOk mb [e.w0, e.w1, e.w2, e.w3])) ∧
  (∀ (s : State) (mb : Nat) (t : Taken), s.fwRuns = true → s.request mb = some t → t.opcode = 0x0B01 →
    s.coreBRuns = true → s.eventLog.length ≤ payloadBits t.data 1 0 16 → exec (.faultLogRead mb) s = .next (s.fwAnswer mb 8 0 [])) ∧
  (∀ (s : State) (mb : Nat) (t : Taken), s.fwRuns = true → s.request mb = some t → t.opcode = 0x0B02 →
    let target := payloadBits t.data 1 0 3
    let mask := (payload t.data 2).toNat
    let u := s.busWrite .coachA PWR_REQ (packWord [(1, 31), (mask, 4), (target, 0)])
    (5 ≤ target → exec (.powerState mb) s = .next (s.fwInvalid mb 1)) ∧
    (target < 5 → 16 ≤ mask → exec (.powerState mb) s = .next (s.fwInvalid mb 2)) ∧
    (target < 5 → mask < 16 → s.pwr.target ≠ none → exec (.powerState mb) s = .next (s.fwAnswer mb 4 0 [])) ∧
    (target < 5 → mask < 16 → s.pwr.target = none → s.coreBRuns = false → exec (.powerState mb) s = .next s) ∧
    (target < 5 → mask < 16 → s.pwr.target = none → s.coreBRuns = true → s.powerRefusal (powerOf target) mask ≠ 0 →
      exec (.powerState mb) s = .next (u.fwAnswer mb 6 (s.powerRefusal (powerOf target) mask) [])) ∧
    (target < 3 → mask < 16 → s.pwr.target = none → s.coreBRuns = true → s.powerRefusal (powerOf target) mask = 0 →
      exec (.powerState mb) s = .next (u.fwOk mb [])) ∧
    (3 ≤ target → target < 5 → mask < 16 → s.pwr.target = none → s.coreBRuns = true → s.powerRefusal (powerOf target) mask = 0 →
      exec (.powerState mb) s = .next (State.fwOk mb [] { s with fw := { s.fw with
        deferred := s.fw.deferred ++ [(mb, t.tag, 1 + 16 * target + mask)] } }))) ∧
  (∀ (s : State) (mb : Nat) (t : Taken), s.fwRuns = true → s.request mb = some t → t.opcode = 0x0B03 → s.coreBRuns = true →
    exec (.thermalStatus mb) s = .next
      (s.fwOk mb [BitVec.ofNat 32 (s.get FLT_TEMP_TJ + 2 ^ 16 * s.get PWR_STATUS_STEP)])) ∧
  (∀ (s : State) (mb : Nat) (t : Taken), s.fwRuns = true → s.request mb = some t → s.coreBRuns = false →
    (t.opcode = 0x0B01 → exec (.faultLogRead mb) s = .next s) ∧ (t.opcode = 0x0B03 → exec (.thermalStatus mb) s = .next s))

/-- Words of SPI and I2C, requests of PCIe, and scans of JTAG (R49, R458 to R462, R473, R474). The model's choices it rests
on: log entries 61, 62. -/
def Obligations.InterfaceCommandsComplete : Prop :=
  (∀ (s : State) (dev a : Nat) (v : Word), dev = s.get GLB_STRAPS_ADDR →
    exec (.spiWriteWord dev a v) s = .next (s.busWrite .spi a v)) ∧
  (∀ (s : State) (dev a : Nat), dev = s.get GLB_STRAPS_ADDR → s.boot.root = true →
    exec (.spiReadWord dev a false) s = .next (s.busRead .spi a)) ∧
  (∀ (s : State) (dev a : Nat) (late : Bool), dev = s.get GLB_STRAPS_ADDR → s.boot.root = false → s.boot.held = false →
    s.asleep = false → exec (.spiReadWord dev a late) s = .next (s.answer .spi (.data 0xFFFFFFFF#32))) ∧
  (∀ (s : State) (dev a : Nat), dev = s.get GLB_STRAPS_ADDR → s.boot.root = true → s.asleep = false →
    exec (.spiReadWord dev a true) s = .next ((((s.busRead .spi a).raise HIF_ERR_SPI_LATE).answer .spi (.data 0xFFFFFFFF#32)).logFault
      0x07 1 (some (.spi, false, a)))) ∧
  (∀ (s : State) (dev : Nat), dev = s.get GLB_STRAPS_ADDR → s.boot.root = true → s.asleep = false →
    exec (.spiFrameEnd dev true) s = .next ((s.raise HIF_ERR_SPI_PARTIAL).logFault 0x07 1 none)) ∧
  (∀ (s : State) (dev : Nat), exec (.spiFrameEnd dev false) s = .next s) ∧
  (∀ (s : State) (dev a : Nat) (v : Word) (late cut : Bool), dev ≠ s.get GLB_STRAPS_ADDR → exec (.spiWriteWord dev a v) s = .next s ∧
    exec (.spiReadWord dev a late) s = .next s ∧ exec (.spiFrameEnd dev cut) s = .next s) ∧
  (∀ (s : State) (dev a : Nat) (v : Word), dev = 0x10 + s.get GLB_STRAPS_ADDR → s.boot.root = true → s.asleep = false →
    let u := s.busWrite .i2c a v
    exec (.i2cWriteWord dev a v) s = .next { u with hif := { u.hif with i2cNext := (a + 4) % 2 ^ 24 } }) ∧
  (∀ (s : State) (dev a : Nat), dev = 0x10 + s.get GLB_STRAPS_ADDR → s.boot.root = true → s.asleep = false →
    let u := s.busRead .i2c a
    exec (.i2cReadWord dev (some a) false) s = .next { u with hif := { u.hif with i2cNext := (a + 4) % 2 ^ 24 } }) ∧
  (∀ (s : State) (dev : Nat) (late : Bool),
    exec (.i2cReadWord dev none late) s = exec (.i2cReadWord dev (some s.hif.i2cNext) late) s) ∧
  (∀ (s : State) (dev a : Nat), dev = 0x10 + s.get GLB_STRAPS_ADDR → s.boot.root = true → s.asleep = false →
    let u := (((s.busRead .i2c a).raise HIF_ERR_I2C_ERR).answer .i2c (.data 0xFFFFFFFF#32)).logFault 0x07 3 (some (.i2c, false, a))
    exec (.i2cReadWord dev (some a) true) s = .next { u with hif := { u.hif with i2cNext := (a + 4) % 2 ^ 24 } }) ∧
  (∀ (s : State) (dev : Nat), dev = 0x10 + s.get GLB_STRAPS_ADDR → s.boot.root = true → s.asleep = false →
    exec (.i2cTransactionEnd dev true) s = .next ((s.raise HIF_ERR_I2C_PARTIAL).logFault 0x07 3 none)) ∧
  (∀ (s : State) (dev : Nat), exec (.i2cTransactionEnd dev false) s = .next s) ∧
  (∀ (s : State) (dev a : Nat) (v : Word) (at? : Option Nat) (late cut : Bool),
    (dev ≠ 0x10 + s.get GLB_STRAPS_ADDR ∨ s.boot.root = false ∨ s.asleep = true) → exec (.i2cWriteWord dev a v) s = .next s ∧
    exec (.i2cReadWord dev at? late) s = .next s ∧ exec (.i2cTransactionEnd dev cut) s = .next s) ∧
  (∀ (s : State) (a : Nat) (v : Word), s.boot.root = true → s.asleep = false → s.hif.pcieUp = true →
    let u := State.busWrite .pcie (a % 2 ^ 24) v { s with hif := { s.hif with completion := [] } }
    exec (.pcieRequest true a [v] [true]) s = .next
      { u with hif := { u.hif with completion := u.hif.completion ++ [u.replyOf .pcie] } }) ∧
  (∀ (s : State) (a : Nat) (v : Word), s.boot.root = true → s.asleep = false → s.hif.pcieUp = true →
    let u := (((State.answer .pcie .ok { s with hif := { s.hif with completion := [] } }).raise HIF_ERR_PCIE_PARTIAL).logFault 0x07 2
      (some (.pcie, true, a % 2 ^ 24)))
    exec (.pcieRequest true a [v] [false]) s = .next
      { u with hif := { u.hif with completion := u.hif.completion ++ [u.replyOf .pcie] } }) ∧
  (∀ (s : State) (a : Nat), s.boot.root = true → s.asleep = false → s.hif.pcieUp = true →
    let u := State.busRead .pcie (a % 2 ^ 24) { s with hif := { s.hif with completion := [] } }
    exec (.pcieRequest false a [] [true]) s = .next
      { u with hif := { u.hif with completion := u.hif.completion ++ [u.replyOf .pcie] } }) ∧
  (∀ (s : State) (a : Nat) (write : Bool) (ws : List Word) (es : List Bool), s.hif.pcieUp = false →
    exec (.pcieRequest write a ws es) s = .next s) ∧
  (∀ (s : State) (dr : Nat), s.asleep = false → s.boot.root = false →
    exec (.jtagUpdateDr dr) s = .next { s with hif := { s.hif with jtagDr := dr % 2 ^ 58, jtagErr := true } }) ∧
  (∀ (s : State) (dr : Nat), s.asleep = false → s.boot.root = true → s.hif.jtagAt = none → dr.testBit 57 = true →
    exec (.jtagUpdateDr dr) s = .next (State.busWrite .jtag (dr / 2 ^ 33 % 2 ^ 24) (BitVec.ofNat 32 (dr / 2))
      { s.useFree with hif := { s.hif with jtagDr := dr % 2 ^ 58, jtagErr := false, jtagAt := some s.cyc } })) ∧
  (∀ (s : State) (dr : Nat) (w : Word), s.asleep = false → s.boot.root = true → s.hif.jtagAt = none → dr.testBit 57 = false →
    let u := State.busRead .jtag (dr / 2 ^ 33 % 2 ^ 24)
      { s.useFree with hif := { s.hif with jtagDr := dr % 2 ^ 58, jtagErr := false, jtagAt := some s.cyc } }
    u.replyOf .jtag = .data w →
    exec (.jtagUpdateDr dr) s = .next { u with hif := { u.hif with jtagData := w } }) ∧
  (∀ s : State, s.asleep = false → exec .jtagCaptureDr s = .next { s with hif := { s.hif with
      jtagDr := s.hif.jtagDr / 2 ^ 33 * 2 ^ 33 + s.hif.jtagData.toNat * 2 + (if s.hif.jtagErr then 1 else 0) } }) ∧
  (∀ (s : State) (dr : Nat), s.asleep = true → exec (.jtagUpdateDr dr) s = .next s ∧ exec .jtagCaptureDr s = .next s)

/-- The packet rings of P48 and the MSI-X messages (R338, R467 to R469, R472). The model's choices it rests on: log entries
63, 64, 73. -/
def Obligations.RingCommandsComplete : Prop :=
  (∀ s : State, s.pktRoom = true → (s.sout 48).tx.isNone = false → exec .packetRx s = .next (s.txEnd 48)) ∧
  (∀ s : State, s.pktRoom = true → (s.sout 48).tx.isNone = true → exec .packetRx s = .next ((s.slotStart 48).txEnd 48)) ∧
  (∀ s : State, s.pktRoom = false → exec .packetRx s = .next s) ∧
  (∀ (s : State) (desc : List Word) (bytes : List Octet),
    let h := s.get (HIF_RING_HEAD_HEAD 1)
    let n := s.get (HIF_RING_LEN_LEN 1)
    let w := desc.getD 2 0
    let len := getBits w 0 16
    n ≠ 0 → h ≠ s.get (HIF_RING_TAIL_TAIL 1) → s.framesStopped = false →
    (60 ≤ len → len ≤ 9596 → getBits w 16 8 = 255 →
      let u := (s.internalFrame 48 (bytes.take len ++ octetsLE 4 (crc32 (bytes.take len))) none).emit .hostWrite 2 [h, 1]
        [BitVec.ofNat 8 (getBits w 24 8 ||| 1)]
      exec (.packetTx desc bytes) s = .next ((u.set (HIF_RING_HEAD_HEAD 1) ((h + 1) % n)).raise HIF_PKT_EVT_TX_DONE)) ∧
    (60 ≤ len → len ≤ 9596 → getBits w 16 8 < 48 →
      let u := (s.internalFrame 48 (bytes.take len ++ octetsLE 4 (crc32 (bytes.take len)))
        (some (getBits w 16 8, getBits w 26 3))).emit .hostWrite 2 [h, 1] [BitVec.ofNat 8 (getBits w 24 8 ||| 1)]
      exec (.packetTx desc bytes) s = .next ((u.set (HIF_RING_HEAD_HEAD 1) ((h + 1) % n)).raise HIF_PKT_EVT_TX_DONE)) ∧
    (len < 60 →
      let u := s.emit .hostWrite 2 [h, 1] [BitVec.ofNat 8 (getBits w 24 8 ||| 3)]
      exec (.packetTx desc bytes) s = .next ((u.set (HIF_RING_HEAD_HEAD 1) ((h + 1) % n)).raise HIF_PKT_EVT_TX_DONE))) ∧
  (∀ (s : State) (desc : List Word) (bytes : List Octet), s.get (HIF_RING_HEAD_HEAD 1) = s.get (HIF_RING_TAIL_TAIL 1) →
    exec (.packetTx desc bytes) s = .next s) ∧
  (∀ (s : State) (r : Nat), r < 2 → s.boot.root = true → s.asleep = false → s.get (HIF_RING_LEN_LEN r) ≠ 0 →
    exec (.ringDmaError r) s = .next (((s.useFree.useFree.ringStop r).raise HIF_PKT_EVT_DMA_ERR).logFault 0x15 (1 + r)
      (some (.dma, Config.unstated s.free % 2 == 1, Config.unstated (s.free + 1) % 2 ^ 24)))) ∧
  (∀ (s : State) (r : Nat), s.get (HIF_RING_LEN_LEN r) = 0 → exec (.ringDmaError r) s = .next s) ∧
  (∀ (s : State) (m : Master) (r : Nat) (v : Word) (row : RegRow), r < 2 → s.verdict m (HIF_RING_LEN r) = .row row →
    exec (.ringLenWrite m r v) s = .next ((s.answer m .ok).ringLenEffect m r v row)) ∧
  (∀ (s : State) (n : Nat), n < 10 → s.boot.root = true → s.causePending n = true → s.asleep = false → s.hif.pcieUp = true →
    s.msixMay n = true → exec (.msixSend n false) s =
      .next (State.emit { s with hif := { s.hif with msixHeld := putBit s.hif.msixHeld n false } } .msix n [] [])) ∧
  (∀ (s : State) (n : Nat), n < 10 → s.boot.root = true → s.causePending n = true → s.msixMay n = true →
    exec (.msixSend n true) s = .next { s with hif := { s.hif with msixHeld := putBit s.hif.msixHeld n true } }) ∧
  (∀ (s : State) (n : Nat) (masked : Bool), n < 10 → s.boot.root = true → s.causePending n = true → s.hif.pcieUp = false →
    exec (.msixSend n masked) s = .next { s with hif := { s.hif with msixHeld := putBit s.hif.msixHeld n true } }) ∧
  (∀ (s : State) (n : Nat) (masked : Bool), s.causePending n = false → exec (.msixSend n masked) s = .next s) ∧
  (∀ (s : State) (masks : Nat), s.boot.root = true → s.asleep = false → s.hif.msixHeld = 0 →
    exec (.pcieLinkUp masks) s = .next { s with hif := { s.hif with pcieUp := true, msixHeld := 0 } }) ∧
  (∀ s : State, s.boot.root = true → s.asleep = false → s.hif.msixHeld = 2 → s.causePending 1 = true → s.msixMay 1 = true →
    exec (.pcieLinkUp 0) s = .next (State.emit { s with hif := { s.hif with pcieUp := true, msixHeld := 0 } } .msix 1 [] []) ∧
    exec (.pcieLinkUp 2) s = .next { s with hif := { s.hif with pcieUp := true, msixHeld := 2 } })

/-- The reset of a reaction, FAULT_N, the first fault, squelch, the event log, the sensors and the rails (R475 to R477,
R480, R482, R484, R485). The model's choices it rests on: log entries 65, 66. -/
def Obligations.FaultCommandsComplete : Prop :=
  (∀ (s : State) (c : Nat), s.flt.resetCause = some c → s.flt.resetHeld = false →
    let u := s.internalReset c
    exec .faultReset s = .next (State.faultNEval { u with flt := { u.flt with pulse := true } })) ∧
  (∀ (s : State) (c : Nat), s.flt.resetCause = some c → s.flt.resetHeld = true → s.flt.rails ≠ 0 → exec .faultReset s = .next s) ∧
  (∀ s : State, s.flt.resetCause = none → exec .faultReset s = .next s) ∧
  (∀ s : State, exec .faultNPulseEnd s = .next (s.setB FLT_STATUS_FAULT_N_LOW
    (s.on FLT_CTRL_HOLD || s.flt.resetCause.isSome || s.get GLB_BOOT_STATUS_STATE == 6)
    |> fun u => { u with flt := { s.flt with pulse := false } })) ∧
  (∀ (s : State) (m : Master) (v : Word) (r : RegRow), s.verdict m FLT_CTRL = .row r →
    exec (.clearFirst m v) s = .next ((s.answer m .ok).fltCtrlWrite v) ∧
    exec (.sqRelease m v) s = .next ((s.answer m .ok).fltCtrlWrite v)) ∧
  (∀ (s : State) (bs : List Octet), s.boot.root = true → s.asleep = false → s.coreBRuns = true →
    s.nvBuffered (16 + s.flt.page) = some bs → exec .nvlogPageCommit s = .next (s.commitStart false [(5, 0)]).1) ∧
  (∀ s : State, s.nvBuffered (16 + s.flt.page) = none → exec .nvlogPageCommit s = .next s) ∧
  (∀ (s : State) (xs : List Int), xs.length ≠ 8 → exec (.temperatureReading xs) s = .next s) ∧
  (∀ (s : State) (x : Int), s.boot.root = true → s.asleep = false → s.flt.out = 0 → s.flt.odd = [] → s.flt.tjSeen = true →
    s.flt.warned = 0 →
    let u := (s.setI FLT_TEMP_TJ x).setI FLT_TEMP_TJ_MAX (max x (s.getI FLT_TEMP_TJ_MAX))
    x ≤ u.getI FLT_TEMP_LIM_WARN_HI * 256 → u.getI FLT_TEMP_LIM_WARN_LO * 256 ≤ x →
    exec (.temperatureReading [x, x, x, x, x, x, x, x]) s = .next { u with pwr := { u.pwr with die := x } }) ∧
  (∀ (s : State) (rail : Nat) (high : Bool), rail < 7 → s.boot.root = true → s.asleep = false →
    s.flt.rails.testBit (if high then 7 + rail else rail) = false →
    let rails := putBit s.flt.rails (if high then 7 + rail else rail) true
    exec (.railExcursion rail high) s = .next (State.logFault (0x28 + rail) (if high then 1 else 0) none
      (State.wr { s with flt := { s.flt with rails := rails } } FLT_RAIL (BitVec.ofNat 32 rails)))) ∧
  (∀ (s : State) (rail : Nat) (high : Bool), s.flt.rails.testBit (if high then 7 + rail else rail) = true →
    exec (.railExcursion rail high) s = .next s) ∧
  (∀ (s : State) (rail : Nat) (high : Bool), rail < 7 → s.boot.root = true → s.asleep = false →
    let rails := putBit s.flt.rails (if high then 7 + rail else rail) false
    exec (.railExcursionEnd rail high) s = .next
      (State.wr { s with flt := { s.flt with rails := rails } } FLT_RAIL (BitVec.ofNat 32 rails)))
end

