-- ==== Sys2Proof/Laws/SMap.lean ====
section
/-! SUPPORT. Every write of a sparse store keeps its one canonical form, and a read after a write gives what was written there
and leaves every other key alone. -/

namespace Sys2Proof.Machine

variable {α : Type} [DecidableEq α] {d : Nat → α}

/-- A store that is canonical from a key on is canonical from any lower key on. -/
theorem smWfFrom_mono {a b : Nat} (hab : a ≤ b) : ∀ {m : SMap α}, smWfFrom d b m = true → smWfFrom d a m = true
  | [], _ => rfl
  | (j, v) :: m, h => by
    simp only [smWfFrom, Bool.and_eq_true, decide_eq_true_eq] at h ⊢
    exact ⟨⟨Nat.le_trans hab h.1.1, h.1.2⟩, h.2⟩

/-- A key below every key of a canonical store reads as unlisted. -/
theorem smGet_below {b k : Nat} (hk : k < b) : ∀ {m : SMap α}, smWfFrom d b m = true → smGet d m k = d k
  | [], _ => rfl
  | (j, v) :: m, h => by
    simp only [smWfFrom, Bool.and_eq_true, decide_eq_true_eq] at h
    have hj : k < j := Nat.lt_of_lt_of_le hk h.1.1
    simp [smGet, Nat.ne_of_lt hj, hj]

theorem smErase_wfFrom (k : Nat) : ∀ {b : Nat} {m : SMap α}, smWfFrom d b m = true → smWfFrom d b (smErase m k) = true
  | _, [], _ => rfl
  | b, (j, v) :: m, h => by
    simp only [smWfFrom, Bool.and_eq_true, decide_eq_true_eq] at h
    unfold smErase
    split
    · exact smWfFrom_mono (Nat.le_succ_of_le h.1.1) h.2
    · split
      · simpa [smWfFrom] using h
      · simpa [smWfFrom] using ⟨h.1, smErase_wfFrom k h.2⟩

theorem smInsert_wfFrom {k : Nat} {v : α} (hv : v ≠ d k) : ∀ {b : Nat} {m : SMap α}, b ≤ k → smWfFrom d b m = true →
    smWfFrom d b (smInsert m k v) = true
  | b, [], hb, _ => by simp [smInsert, smWfFrom, hb, hv]
  | b, (j, w) :: m, hb, h => by
    simp only [smWfFrom, Bool.and_eq_true, decide_eq_true_eq] at h
    unfold smInsert
    split
    · next e => subst e; simpa [smWfFrom, hb, hv] using h.2
    · split
      · next hlt => simpa [smWfFrom, hb, hv, h.1.2, h.2] using Nat.succ_le_of_lt hlt
      · next hne hlt => simpa [smWfFrom, h.1] using smInsert_wfFrom hv (by omega) h.2

/-- A write keeps the canonical form. -/
theorem smSet_wf (m : SMap α) (k : Nat) (v : α) (h : smWf d m = true) : smWf d (smSet d m k v) = true := by
  unfold smSet
  split
  · exact smErase_wfFrom k h
  · next hv => exact smInsert_wfFrom hv (Nat.zero_le k) h

/-- Dropping entries keeps the canonical form. -/
theorem smFilter_wfFrom (p : Nat × α → Bool) : ∀ {b : Nat} {m : SMap α}, smWfFrom d b m = true →
    smWfFrom d b (m.filter p) = true
  | _, [], _ => rfl
  | b, (j, v) :: m, h => by
    simp only [smWfFrom, Bool.and_eq_true, decide_eq_true_eq] at h
    simp only [List.filter]
    split
    · simpa [smWfFrom, h.1] using smFilter_wfFrom p h.2
    · exact smWfFrom_mono (Nat.le_succ_of_le h.1.1) (smFilter_wfFrom p h.2)

theorem smFilter_wf (p : Nat × α → Bool) (m : SMap α) (h : smWf d m = true) : smWf d (m.filter p) = true :=
  smFilter_wfFrom p h

/-- Changing the words of a canonical store and dropping those that now equal an unlisted one keeps the canonical form. -/
theorem smRemap_wfFrom (f : Nat × α → Nat × α) (hf : ∀ x, (f x).1 = x.1) : ∀ {b : Nat} {m : SMap α},
    smWfFrom d b m = true → smWfFrom d b ((m.map f).filter fun x => x.2 != d x.1) = true
  | _, [], _ => rfl
  | b, (j, v) :: m, h => by
    simp only [smWfFrom, Bool.and_eq_true, decide_eq_true_eq] at h
    have ih := smRemap_wfFrom f hf h.2
    simp only [List.map, List.filter]
    split
    · next e =>
      rcases hfx : f (j, v) with ⟨j', v'⟩
      have hj : j' = j := by have := hf (j, v); rw [hfx] at this; exact this
      subst hj
      rw [hfx] at e
      simpa [smWfFrom, h.1.1, ih] using e
    · exact smWfFrom_mono (Nat.le_succ_of_le h.1.1) ih

/-- A read of the key written gives what was written. -/
theorem smGet_smInsert_same (k : Nat) (v : α) : ∀ m : SMap α, smGet d (smInsert m k v) k = v
  | [] => by simp [smInsert, smGet]
  | (j, w) :: m => by
    unfold smInsert
    split
    · simp [smGet]
    · split
      · simp [smGet]
      · next h1 h2 => simp [smGet, h1, h2, smGet_smInsert_same k v m]

theorem smGet_smErase_same (k : Nat) : ∀ {b : Nat} {m : SMap α}, smWfFrom d b m = true → smGet d (smErase m k) k = d k
  | _, [], _ => rfl
  | b, (j, w) :: m, h => by
    simp only [smWfFrom, Bool.and_eq_true, decide_eq_true_eq] at h
    unfold smErase
    split
    · next e => exact smGet_below (by omega) h.2
    · split
      · next h1 h2 => simp [smGet, h1, h2]
      · next h1 h2 => simpa [smGet, h1, h2] using smGet_smErase_same k h.2

theorem smGet_smSet_same (m : SMap α) (k : Nat) (v : α) (h : smWf d m = true) : smGet d (smSet d m k v) k = v := by
  unfold smSet
  split
  · next e => rw [smGet_smErase_same k h, e]
  · exact smGet_smInsert_same k v m

theorem smGet_smInsert_ne {k k' : Nat} (hk : k' ≠ k) (v : α) : ∀ m : SMap α, smGet d (smInsert m k v) k' = smGet d m k'
  | [] => by simp [smInsert, smGet, hk]
  | (j, w) :: m => by
    unfold smInsert
    split
    · next e => subst e; simp [smGet, hk]
    · split
      · next h1 h2 =>
        by_cases hlt : k' < k
        · have : k' < j := by omega
          simp [smGet, hk, hlt, Nat.ne_of_lt this, this]
        · simp [smGet, hk, hlt]
      · simp only [smGet, smGet_smInsert_ne hk v m]

theorem smGet_smErase_ne {k k' : Nat} (hk : k' ≠ k) : ∀ {b : Nat} {m : SMap α}, smWfFrom d b m = true →
    smGet d (smErase m k) k' = smGet d m k'
  | _, [], _ => rfl
  | b, (j, w) :: m, h => by
    simp only [smWfFrom, Bool.and_eq_true, decide_eq_true_eq] at h
    unfold smErase
    split
    · next e =>
      subst e
      by_cases hlt : k' < k
      · simp [smGet, hk, hlt, smGet_below (Nat.lt_succ_of_lt hlt) h.2]
      · simp [smGet, hk, hlt]
    · split
      · rfl
      · simp only [smGet, smGet_smErase_ne hk h.2]

/-- A write leaves every other key alone. -/
theorem smGet_smSet_ne {k k' : Nat} (hk : k' ≠ k) (m : SMap α) (v : α) (h : smWf d m = true) :
    smGet d (smSet d m k v) k' = smGet d m k' := by
  unfold smSet
  split
  · exact smGet_smErase_ne hk h
  · exact smGet_smInsert_ne hk v m

theorem smPutList_wf [Inhabited α] : ∀ (vs : List α) (m : SMap α) (k : Nat), smWf (fun _ => (default : α)) m = true →
    smWf (fun _ => (default : α)) (smPutList m k vs) = true
  | [], _, _, h => h
  | v :: vs, m, k, h => smPutList_wf vs _ (k + 1) (smSet_wf m k v h)

end Sys2Proof.Machine
end

