-- ==== Sys2Proof/Laws/Keeps.lean ====
section
/-! SUPPORT. What no operation of the model ever does: leave a store out of its canonical form, touch the queue of waiting
commands, take back what has left the device, use a free value twice, or turn the time base back. -/

set_option linter.all false

namespace Sys2Proof.Machine

/-- The state `t` keeps what every operation keeps of `s`. -/
structure Keeps (s t : State) : Prop where
  regs : s.regsWf = true → t.regsWf = true
  array : s.arrayWf = true → t.arrayWf = true
  pending : t.pending = s.pending
  out : s.out <:+ t.out
  free : s.free ≤ t.free
  cyc : s.cyc ≤ t.cyc

theorem Keeps.refl (s : State) : Keeps s s := ⟨id, id, rfl, List.suffix_refl _, Nat.le_refl _, Nat.le_refl _⟩

theorem Keeps.trans {s t u : State} (h : Keeps s t) (g : Keeps t u) : Keeps s u :=
  ⟨g.regs ∘ h.regs, g.array ∘ h.array, g.pending.trans h.pending, h.out.trans g.out, Nat.le_trans h.free g.free, Nat.le_trans h.cyc g.cyc⟩

variable {s t : State}

/-- A change of what the six facts do not speak of. -/
theorem Keeps.same {u : State} (h : Keeps s t) (hr : u.regs = t.regs) (ha : u.nvs.array = t.nvs.array) (hp : u.pending = t.pending)
    (ho : u.out = t.out) (hf : t.free ≤ u.free) (hc : t.cyc ≤ u.cyc) : Keeps s u :=
  h.trans ⟨fun w => by rw [State.regsWf, hr]; exact w, fun w => by rw [State.arrayWf, ha]; exact w, hp, ho ▸ List.suffix_refl _, hf, hc⟩

/-- The same for a record written field by field. -/
theorem Keeps.fields (h : Keeps s t) {cyc : Nat} {livery boot cgu pwr refs tod sels loops hold axles tim outs gauges tse cpl ports i2c fwd buf sch
    mir nvs mbx fw hif flt free} (ha : nvs.array = t.nvs.array) (hf : t.free ≤ free) (hc : t.cyc ≤ cyc) :
    Keeps s ⟨t.regs, cyc, livery, boot, cgu, pwr, refs, tod, sels, loops, hold, axles, tim, outs, gauges, tse, cpl, ports, i2c, fwd, buf, sch,
      mir, nvs, mbx, fw, hif, flt, t.out, free, t.pending⟩ := h.same rfl ha rfl rfl hf hc

/-- The same where octets of the NV array are written. -/
theorem Keeps.array_fields (h : Keeps s t) {cyc : Nat} {livery boot cgu pwr refs tod sels loops hold axles tim outs gauges tse cpl ports i2c fwd buf sch
    mir nvs mbx fw hif flt free} {k : Nat} {bs : List Octet} (ha : nvs.array = smPutList t.nvs.array k bs) (hf : t.free ≤ free) (hc : t.cyc ≤ cyc) :
    Keeps s ⟨t.regs, cyc, livery, boot, cgu, pwr, refs, tod, sels, loops, hold, axles, tim, outs, gauges, tse, cpl, ports, i2c, fwd, buf, sch,
      mir, nvs, mbx, fw, hif, flt, t.out, free, t.pending⟩ :=
  h.trans ⟨id, fun w => by rw [State.arrayWf, ha]; exact smPutList_wf _ _ _ w, rfl, List.suffix_refl _, hf, hc⟩

theorem State.wr_keeps (h : Keeps s t) (a w) : Keeps s (t.wr a w) :=
  h.trans ⟨fun r => smSet_wf _ _ _ r, id, rfl, List.suffix_refl _, Nat.le_refl _, Nat.le_refl _⟩

theorem State.when_keeps {g : State → State} (hg : ∀ t, Keeps s t → Keeps s (g t)) (h : Keeps s t) (b) : Keeps s (t.when b g) := by
  unfold State.when; split
  · exact hg _ h
  · exact h

theorem Keeps.foldl {β : Type} {f : State → β → State} (hf : ∀ t x, Keeps s t → Keeps s (f t x)) :
    ∀ (l : List β) {t : State}, Keeps s t → Keeps s (l.foldl f t)
  | [], _, h => h
  | x :: l, _, h => Keeps.foldl hf l (hf _ x h)

theorem Keeps.foldl_fst {α β : Type} {f : State × α → β → State × α} (hf : ∀ p x, Keeps s p.1 → Keeps s (f p x).1) :
    ∀ (l : List β) {p : State × α}, Keeps s p.1 → Keeps s (l.foldl f p).1
  | [], _, h => h
  | x :: l, _, h => Keeps.foldl_fst hf l (hf _ x h)

theorem State.each_keeps {g : Nat → State → State} (hg : ∀ k t, Keeps s t → Keeps s (g k t)) (h : Keeps s t) (ks) : Keeps s (t.each ks g) :=
  Keeps.foldl (fun t k => hg k t) ks h

theorem Keeps.ite {t u : State} {c : Prop} [Decidable c] (h : c → Keeps s t) (g : ¬c → Keeps s u) : Keeps s (if c then t else u) := by
  split
  · exact h ‹_›
  · exact g ‹_›

theorem Keeps.ite_fst {β : Type} {p q : State × β} {c : Prop} [Decidable c] (h : c → Keeps s p.1) (g : ¬c → Keeps s q.1) :
    Keeps s (if c then p else q).1 := by
  split
  · exact h ‹_›
  · exact g ‹_›

theorem State.emit_keeps (h : Keeps s t) (k n xs bs) : Keeps s (t.emit k n xs bs) :=
  h.trans ⟨id, id, rfl, ⟨[_], rfl⟩, Nat.le_refl _, Nat.le_refl _⟩

theorem State.useFree_keeps (h : Keeps s t) : Keeps s t.useFree :=
  h.trans ⟨id, id, rfl, List.suffix_refl _, Nat.le_succ _, Nat.le_refl _⟩

end Sys2Proof.Machine
end

