-- ==== Sys2Proof/Laws/KeepsBase.lean ====
section
/-! SUPPORT. Every operation keeps what `Keeps` says: registers, events, time, loops, the NV store, faults and mailboxes. -/

namespace Sys2Proof.Machine

variable {s t : State}

/-! ### Ops.lean -/

theorem State.set_keeps (h : Keeps s t) (x0 x1) : Keeps s (State.set t x0 x1) := by
  unfold State.set
  with_reducible repeat'
    first
    | assumption | apply State.wr_keeps

theorem State.setI_keeps (h : Keeps s t) (x0 x1) : Keeps s (State.setI t x0 x1) := by
  unfold State.setI
  with_reducible repeat'
    first
    | assumption | apply State.set_keeps

theorem State.setB_keeps (h : Keeps s t) (x0 x1) : Keeps s (State.setB t x0 x1) := by
  unfold State.setB
  with_reducible repeat'
    first
    | assumption | intro _ | apply State.set_keeps | apply Keeps.ite

theorem State.raise_keeps (h : Keeps s t) (x0) : Keeps s (State.raise t x0) := by
  unfold State.raise
  with_reducible repeat'
    first
    | assumption | apply State.set_keeps

theorem State.count_keeps (h : Keeps s t) (x0) : Keeps s (State.count t x0) := by
  unfold State.count
  with_reducible repeat'
    first
    | assumption | apply State.set_keeps

theorem State.countBy_keeps (h : Keeps s t) (x0 x1) : Keeps s (State.countBy t x0 x1) := by
  unfold State.countBy
  with_reducible repeat'
    first
    | assumption | apply State.set_keeps

theorem State.countMod_keeps (h : Keeps s t) (x0) : Keeps s (State.countMod t x0) := by
  unfold State.countMod
  with_reducible repeat'
    first
    | assumption | apply State.set_keeps

theorem State.setWide_keeps (h : Keeps s t) (x0 x1 x2 x3) : Keeps s (State.setWide t x0 x1 x2 x3) := by
  unfold State.setWide
  with_reducible repeat'
    first
    | assumption | apply State.wr_keeps

theorem State.setRef_keeps (h : Keeps s t) (x0 x1) : Keeps s (State.setRef t x0 x1) := by
  unfold State.setRef
  with_reducible repeat'
    first
    | assumption | refine Keeps.fields ?_ rfl (Nat.le_refl _) (Nat.le_refl _)

theorem State.setSel_keeps (h : Keeps s t) (x0 x1) : Keeps s (State.setSel t x0 x1) := by
  unfold State.setSel
  with_reducible repeat'
    first
    | assumption | refine Keeps.fields ?_ rfl (Nat.le_refl _) (Nat.le_refl _)

theorem State.setLoop_keeps (h : Keeps s t) (x0 x1) : Keeps s (State.setLoop t x0 x1) := by
  unfold State.setLoop
  with_reducible repeat'
    first
    | assumption | refine Keeps.fields ?_ rfl (Nat.le_refl _) (Nat.le_refl _)

theorem State.setHoldLoop_keeps (h : Keeps s t) (x0 x1) : Keeps s (State.setHoldLoop t x0 x1) := by
  unfold State.setHoldLoop
  with_reducible repeat'
    first
    | assumption | refine Keeps.fields ?_ rfl (Nat.le_refl _) (Nat.le_refl _)

theorem State.setAxle_keeps (h : Keeps s t) (x0 x1) : Keeps s (State.setAxle t x0 x1) := by
  unfold State.setAxle
  with_reducible repeat'
    first
    | assumption | refine Keeps.fields ?_ rfl (Nat.le_refl _) (Nat.le_refl _)

theorem State.setOutp_keeps (h : Keeps s t) (x0 x1) : Keeps s (State.setOutp t x0 x1) := by
  unfold State.setOutp
  with_reducible repeat'
    first
    | assumption | refine Keeps.fields ?_ rfl (Nat.le_refl _) (Nat.le_refl _)

theorem State.setGauge_keeps (h : Keeps s t) (x0 x1) : Keeps s (State.setGauge t x0 x1) := by
  unfold State.setGauge
  with_reducible repeat'
    first
    | assumption | refine Keeps.fields ?_ rfl (Nat.le_refl _) (Nat.le_refl _)

theorem State.setSess_keeps (h : Keeps s t) (x0 x1) : Keeps s (State.setSess t x0 x1) := by
  unfold State.setSess
  with_reducible repeat'
    first
    | assumption | refine Keeps.fields ?_ rfl (Nat.le_refl _) (Nat.le_refl _)

theorem State.setCplPort_keeps (h : Keeps s t) (x0 x1) : Keeps s (State.setCplPort t x0 x1) := by
  unfold State.setCplPort
  with_reducible repeat'
    first
    | assumption | refine Keeps.fields ?_ rfl (Nat.le_refl _) (Nat.le_refl _)

theorem State.setFeed_keeps (h : Keeps s t) (x0 x1) : Keeps s (State.setFeed t x0 x1) := by
  unfold State.setFeed
  with_reducible repeat'
    first
    | assumption | refine Keeps.fields ?_ rfl (Nat.le_refl _) (Nat.le_refl _)

theorem State.setPort_keeps (h : Keeps s t) (x0 x1) : Keeps s (State.setPort t x0 x1) := by
  unfold State.setPort
  with_reducible repeat'
    first
    | assumption | refine Keeps.fields ?_ rfl (Nat.le_refl _) (Nat.le_refl _)

theorem State.setBus_keeps (h : Keeps s t) (x0 x1) : Keeps s (State.setBus t x0 x1) := by
  unfold State.setBus
  with_reducible repeat'
    first
    | assumption | refine Keeps.fields ?_ rfl (Nat.le_refl _) (Nat.le_refl _)

theorem State.setMb_keeps (h : Keeps s t) (x0 x1) : Keeps s (State.setMb t x0 x1) := by
  unfold State.setMb
  with_reducible repeat'
    first
    | assumption | refine Keeps.fields ?_ rfl (Nat.le_refl _) (Nat.le_refl _)

theorem State.setDom_keeps (h : Keeps s t) (x0 x1) : Keeps s (State.setDom t x0 x1) := by
  unfold State.setDom
  with_reducible repeat'
    first
    | assumption | intro _ | apply Keeps.ite | refine Keeps.fields ?_ rfl (Nat.le_refl _) (Nat.le_refl _)

theorem State.countPort_keeps (h : Keeps s t) (x0 x1 x2) : Keeps s (State.countPort x0 x1 x2 t) := by
  unfold State.countPort
  with_reducible repeat'
    first
    | assumption | apply State.setWide_keeps

theorem State.countTx_keeps (h : Keeps s t) (x0 x1 x2) : Keeps s (State.countTx x0 x1 x2 t) := by
  unfold State.countTx
  with_reducible repeat'
    first
    | assumption | intro _ | apply State.countPort_keeps | apply Keeps.ite

/-! ### Events.lean -/

theorem State.pushEvent_keeps (h : Keeps s t) (x0 x1 x2) : Keeps s (State.pushEvent x0 x1 x2 t) := by
  unfold State.pushEvent
  with_reducible repeat'
    first
    | assumption | intro _ | apply Keeps.ite | refine Keeps.fields ?_ rfl (Nat.le_refl _) (Nat.le_refl _)

theorem State.queueEvent_keeps (h : Keeps s t) (x0 x1) : Keeps s (State.queueEvent x0 x1 t) := by
  unfold State.queueEvent
  with_reducible repeat'
    first
    | assumption | intro _ | apply State.pushEvent_keeps | apply State.when_keeps | apply State.each_keeps

/-! ### AxleOps.lean -/

theorem State.setOutState_keeps (h : Keeps s t) (x0 x1) : Keeps s (State.setOutState x0 x1 t) := by
  unfold State.setOutState
  with_reducible repeat'
    first
    | assumption | intro _ | apply State.set_keeps | apply State.raise_keeps | apply State.when_keeps

theorem State.outStop_keeps (h : Keeps s t) (x0 x1) : Keeps s (State.outStop x0 x1 t) := by
  unfold State.outStop
  with_reducible repeat'
    first
    | assumption | apply State.setOutp_keeps | apply State.setOutState_keeps
    | refine Keeps.fields ?_ rfl (Nat.le_refl _) (Nat.le_refl _)

theorem State.outEval_keeps (h : Keeps s t) (x0) : Keeps s (State.outEval x0 t) := by
  unfold State.outEval
  with_reducible repeat'
    first
    | assumption | intro _ | apply State.setB_keeps | apply State.outStop_keeps | apply State.setOutp_keeps
    | apply State.setOutState_keeps | apply Keeps.ite | split
    | refine Keeps.fields ?_ rfl (Nat.le_refl _) (Nat.le_refl _)

theorem State.outEvalAll_keeps (h : Keeps s t) : Keeps s (State.outEvalAll t) := by
  unfold State.outEvalAll
  with_reducible repeat'
    first
    | assumption | intro _ | apply State.outEval_keeps | apply State.each_keeps

theorem State.axleWord_keeps (h : Keeps s t) (x0 x1) : Keeps s (State.axleWord x0 x1 t) := by
  unfold State.axleWord
  with_reducible repeat'
    first
    | assumption | apply State.setWide_keeps | apply State.setAxle_keeps
    | refine Keeps.fields ?_ rfl (Nat.le_refl _) (Nat.le_refl _)

theorem State.setStepLeft_keeps (h : Keeps s t) (x0 x1) : Keeps s (State.setStepLeft x0 x1 t) := by
  unfold State.setStepLeft
  with_reducible repeat'
    first
    | assumption | apply State.setWide_keeps | apply State.setB_keeps

theorem State.stepReport_keeps (h : Keeps s t) (x0) : Keeps s (State.stepReport x0 t) := by
  unfold State.stepReport
  with_reducible repeat'
    first
    | assumption | intro _ | apply State.setAxle_keeps | apply State.setLoop_keeps | apply State.each_keeps
    | apply Keeps.ite | refine Keeps.fields ?_ rfl (Nat.le_refl _) (Nat.le_refl _)

theorem State.stepComplete_keeps (h : Keeps s t) (x0) : Keeps s (State.stepComplete x0 t) := by
  unfold State.stepComplete
  with_reducible repeat'
    first
    | assumption | apply State.stepReport_keeps | apply State.raise_keeps

theorem State.setSquelch_keeps (h : Keeps s t) (x0 x1) : Keeps s (State.setSquelch x0 x1 t) := by
  unfold State.setSquelch
  with_reducible repeat'
    first
    | assumption | intro _ | apply State.setAxle_keeps | apply State.outEvalAll_keeps | apply State.set_keeps
    | apply Keeps.ite | refine Keeps.fields ?_ rfl (Nat.le_refl _) (Nat.le_refl _)

theorem State.squelchDue_keeps (h : Keeps s t) (x0) : Keeps s (State.squelchDue x0 t) := by
  unfold State.squelchDue
  with_reducible repeat'
    first
    | assumption | intro _ | apply State.outEvalAll_keeps | apply State.set_keeps | apply State.setAxle_keeps
    | apply Keeps.ite | refine Keeps.fields ?_ rfl (Nat.le_refl _) (Nat.le_refl _)

theorem State.showLoops_keeps (h : Keeps s t) : Keeps s (State.showLoops t) := by
  unfold State.showLoops
  with_reducible repeat'
    first
    | assumption | intro _ | apply State.outEvalAll_keeps | apply State.setLoop_keeps | apply State.each_keeps
    | apply Keeps.ite | refine Keeps.fields ?_ rfl (Nat.le_refl _) (Nat.le_refl _)

theorem State.axleMove_keeps (h : Keeps s t) (x0 x1) : Keeps s (State.axleMove x0 x1 t) := by
  unfold State.axleMove
  with_reducible repeat'
    first
    | assumption | apply State.setAxle_keeps | refine Keeps.fields ?_ rfl (Nat.le_refl _) (Nat.le_refl _)

theorem State.setAxleState_keeps (h : Keeps s t) (x0 x1) : Keeps s (State.setAxleState x0 x1 t) := by
  unfold State.setAxleState
  with_reducible repeat'
    first
    | assumption | intro _ | apply State.set_keeps | apply State.raise_keeps | apply State.when_keeps

theorem State.engage_keeps (h : Keeps s t) (x0 x1) : Keeps s (State.engage x0 x1 t) := by
  unfold State.engage
  with_reducible repeat'
    first
    | assumption | apply State.setAxle_keeps | apply State.setB_keeps
    | refine Keeps.fields ?_ rfl (Nat.le_refl _) (Nat.le_refl _)

theorem State.axleJump_keeps (h : Keeps s t) (x0) : Keeps s (State.axleJump x0 t) := by
  unfold State.axleJump
  with_reducible repeat'
    first
    | assumption | intro _ | apply State.setStepLeft_keeps | apply State.axleMove_keeps
    | apply State.stepComplete_keeps | apply State.setAxle_keeps | apply State.engage_keeps
    | apply State.setAxleState_keeps | apply State.setSquelch_keeps | apply State.when_keeps | apply Keeps.ite
    | refine Keeps.fields ?_ rfl (Nat.le_refl _) (Nat.le_refl _)

theorem State.requestStep_keeps (h : Keeps s t) (x0 x1 x2) : Keeps s (State.requestStep x0 x1 x2 t) := by
  unfold State.requestStep
  with_reducible repeat'
    first
    | assumption | intro _ | apply State.setAxle_keeps | apply State.setStepLeft_keeps
    | apply State.stepComplete_keeps | apply State.raise_keeps | apply State.axleJump_keeps | apply State.when_keeps
    | apply Keeps.ite | refine Keeps.fields ?_ rfl (Nat.le_refl _) (Nat.le_refl _)

theorem State.dropSteps_keeps (h : Keeps s t) (x0) : Keeps s (State.dropSteps x0 t) := by
  unfold State.dropSteps
  with_reducible repeat'
    first
    | assumption | intro _ | apply State.stepReport_keeps | apply State.raise_keeps | apply State.setB_keeps
    | apply Keeps.ite

theorem State.axleTick_keeps (h : Keeps s t) (x0) : Keeps s (State.axleTick x0 t) := by
  unfold State.axleTick
  with_reducible repeat'
    first
    | assumption | intro _ | apply State.setAxle_keeps | apply State.setStepLeft_keeps
    | apply State.stepComplete_keeps | apply State.when_keeps | apply Keeps.ite | split
    | refine Keeps.fields ?_ rfl (Nat.le_refl _) (Nat.le_refl _)

/-! ### TimeOps.lean -/

theorem State.setAcc_keeps (h : Keeps s t) (x0) : Keeps s (State.setAcc x0 t) := by
  unfold State.setAcc
  with_reducible repeat'
    first
    | assumption | apply State.setB_keeps | refine Keeps.fields ?_ rfl (Nat.le_refl _) (Nat.le_refl _)

theorem State.compensate_keeps (h : Keeps s t) (x0 x1) : Keeps s (State.compensate x0 x1 t) := by
  unfold State.compensate
  with_reducible repeat'
    first
    | assumption | intro _ | apply State.raise_keeps | apply State.setAcc_keeps | apply Keeps.ite

theorem State.retime_keeps (h : Keeps s t) (x0 x1 x2) : Keeps s (State.retime x0 x1 x2 t) := by
  unfold State.retime
  with_reducible repeat'
    first
    | assumption | intro _ | apply State.setDom_keeps | apply State.setWide_keeps | apply State.count_keeps
    | apply State.raise_keeps | apply State.compensate_keeps | apply State.when_keeps
    | refine Keeps.fields ?_ rfl (Nat.le_refl _) (Nat.le_refl _)

theorem State.stepC_keeps (h : Keeps s t) (x0 x1) : Keeps s (State.stepC x0 x1 t) := by
  unfold State.stepC
  with_reducible repeat'
    first
    | assumption | apply State.count_keeps | apply State.raise_keeps | apply State.retime_keeps

theorem State.setInc_keeps (h : Keeps s t) (x0 x1) : Keeps s (State.setInc x0 x1 t) := by
  unfold State.setInc
  with_reducible repeat'
    first
    | assumption | apply State.setWide_keeps | apply State.setDom_keeps
    | refine Keeps.fields ?_ rfl (Nat.le_refl _) (Nat.le_refl _)

theorem State.setSrc_keeps (h : Keeps s t) (x0) : Keeps s (State.setSrc x0 t) := by
  unfold State.setSrc
  with_reducible repeat'
    first
    | assumption | intro _ | apply State.set_keeps | apply State.setAcc_keeps | apply State.raise_keeps
    | apply State.queueEvent_keeps | apply Keeps.ite

theorem State.autoSource_keeps (h : Keeps s t) : Keeps s (State.autoSource t) := by
  unfold State.autoSource
  with_reducible repeat'
    first
    | assumption | intro _ | apply State.setSrc_keeps | apply State.when_keeps | apply Keeps.ite

theorem State.servedEval_keeps (h : Keeps s t) : Keeps s (State.servedEval t) := by
  unfold State.servedEval
  with_reducible repeat'
    first
    | assumption | intro _ | apply State.raise_keeps | apply State.set_keeps | apply State.autoSource_keeps
    | apply State.when_keeps

theorem State.secValid_keeps (h : Keeps s t) (x0) : Keeps s (State.secValid x0 t) := by
  unfold State.secValid
  with_reducible repeat'
    first
    | assumption | apply State.servedEval_keeps | apply State.set_keeps

theorem State.setTime_keeps (h : Keeps s t) (x0 x1) : Keeps s (State.setTime x0 x1 t) := by
  unfold State.setTime
  with_reducible repeat'
    first
    | assumption | apply State.wr_keeps

theorem State.snapshot_keeps (h : Keeps s t) : Keeps s (State.snapshot t) := by
  unfold State.snapshot
  with_reducible repeat'
    first
    | assumption | apply State.countMod_keeps | apply State.setTime_keeps

theorem State.relabel_keeps (h : Keeps s t) (x0 x1) : Keeps s (State.relabel x0 x1 t) := by
  unfold State.relabel
  with_reducible repeat'
    first
    | assumption | intro _ | apply State.setDom_keeps | apply State.secValid_keeps | apply State.retime_keeps
    | apply State.set_keeps | apply State.raise_keeps | apply Keeps.ite | split
    | refine Keeps.fields ?_ rfl (Nat.le_refl _) (Nat.le_refl _)

theorem State.countTime_keeps (h : Keeps s t) (x0 x1) : Keeps s (State.countTime x0 x1 t) := by
  unfold State.countTime
  with_reducible repeat'
    first
    | assumption | intro _ | apply State.setDom_keeps | apply State.relabel_keeps | apply State.when_keeps
    | refine Keeps.fields ?_ rfl (Nat.le_refl _) (Nat.le_refl _)

theorem State.snapEnd_keeps (h : Keeps s t) : Keeps s (State.snapEnd t) := by
  unfold State.snapEnd
  with_reducible repeat'
    first
    | assumption | intro _ | apply State.snapshot_keeps | apply Keeps.ite
    | refine Keeps.fields ?_ rfl (Nat.le_refl _) (Nat.le_refl _)

theorem State.advance_keeps (h : Keeps s t) (x0 x1) : Keeps s (State.advance x0 x1 t) := by
  unfold State.advance
  with_reducible repeat'
    first
    | assumption | apply State.countTime_keeps

theorem State.servedTick_keeps (h : Keeps s t) : Keeps s (State.servedTick t) := by
  unfold State.servedTick
  with_reducible repeat'
    first
    | assumption | intro _ | apply State.setAcc_keeps | apply Keeps.ite

/-! ### CplNode.lean -/

theorem State.setFeedBo_keeps (h : Keeps s t) (x0 x1) : Keeps s (State.setFeedBo x0 x1 t) := by
  unfold State.setFeedBo
  with_reducible repeat'
    first
    | assumption | apply State.setFeed_keeps | apply State.setI_keeps
    | refine Keeps.fields ?_ rfl (Nat.le_refl _) (Nat.le_refl _)

theorem State.feedStart_keeps (h : Keeps s t) (x0) : Keeps s (State.feedStart x0 t) := by
  unfold State.feedStart
  with_reducible repeat'
    first
    | assumption | apply State.set_keeps | apply State.setFeedBo_keeps | apply State.setFeed_keeps
    | refine Keeps.fields ?_ rfl (Nat.le_refl _) (Nat.le_refl _)

theorem State.feedTick_keeps (h : Keeps s t) (x0) : Keeps s (State.feedTick x0 t) := by
  unfold State.feedTick
  with_reducible repeat'
    first
    | assumption | intro _ | apply State.setFeedBo_keeps | apply Keeps.ite

theorem State.setNode_keeps (h : Keeps s t) (x0 x1 x2 x3 x4) : Keeps s (State.setNode x0 x1 x2 x3 x4 t) := by
  unfold State.setNode
  with_reducible repeat'
    first
    | assumption | apply State.setB_keeps | apply State.set_keeps
    | refine Keeps.fields ?_ rfl (Nat.le_refl _) (Nat.le_refl _)

theorem State.nodeHold_keeps (h : Keeps s t) : Keeps s (State.nodeHold t) := by
  unfold State.nodeHold
  with_reducible repeat'
    first
    | assumption | intro _ | apply Keeps.ite | refine Keeps.fields ?_ rfl (Nat.le_refl _) (Nat.le_refl _)

theorem State.nodeEval_keeps (h : Keeps s t) : Keeps s (State.nodeEval t) := by
  unfold State.nodeEval
  with_reducible repeat'
    first
    | assumption | intro _ | apply State.nodeHold_keeps | apply State.setNode_keeps | apply Keeps.ite | split

theorem State.helloSend_keeps (h : Keeps s t) (x0) : Keeps s (State.helloSend x0 t) := by
  unfold State.helloSend
  with_reducible repeat'
    first
    | assumption | intro _ | apply State.nodeEval_keeps | apply State.countTx_keeps | apply State.emit_keeps
    | apply Keeps.ite

theorem State.cplForget_keeps (h : Keeps s t) (x0) : Keeps s (State.cplForget x0 t) := by
  unfold State.cplForget
  with_reducible repeat'
    first
    | assumption | apply State.setCplPort_keeps | refine Keeps.fields ?_ rfl (Nat.le_refl _) (Nat.le_refl _)

theorem State.setCplState_keeps (h : Keeps s t) (x0 x1) : Keeps s (State.setCplState x0 x1 t) := by
  unfold State.setCplState
  with_reducible repeat'
    first
    | assumption | intro _ | apply State.raise_keeps | apply State.set_keeps | apply State.queueEvent_keeps
    | apply State.setCplPort_keeps | apply State.helloSend_keeps | apply State.nodeEval_keeps | apply State.when_keeps
    | apply Keeps.ite | refine Keeps.fields ?_ rfl (Nat.le_refl _) (Nat.le_refl _)

theorem State.cplEval_keeps (h : Keeps s t) (x0) : Keeps s (State.cplEval x0 t) := by
  unfold State.cplEval
  with_reducible repeat'
    first
    | assumption | intro _ | apply State.setB_keeps | apply State.setCplState_keeps | apply State.set_keeps
    | apply State.cplForget_keeps | apply Keeps.ite

theorem State.cplTurn_keeps (h : Keeps s t) (x0) : Keeps s (State.cplTurn x0 t) := by
  unfold State.cplTurn
  with_reducible repeat'
    first
    | assumption | intro _ | apply State.cplEval_keeps | apply State.setCplPort_keeps | apply Keeps.ite
    | refine Keeps.fields ?_ rfl (Nat.le_refl _) (Nat.le_refl _)

theorem State.cplLock_keeps (h : Keeps s t) (x0) : Keeps s (State.cplLock x0 t) := by
  unfold State.cplLock
  with_reducible repeat'
    first
    | assumption | intro _ | apply State.helloSend_keeps | apply State.when_keeps

theorem State.cplRateChange_keeps (h : Keeps s t) (x0) : Keeps s (State.cplRateChange x0 t) := by
  unfold State.cplRateChange
  with_reducible repeat'
    first
    | assumption | intro _ | apply State.setCplState_keeps | apply State.cplForget_keeps | apply State.raise_keeps
    | apply State.set_keeps | apply Keeps.ite

/-! ### LoopOps.lean -/

theorem State.setMode_keeps (h : Keeps s t) (x0) : Keeps s (State.setMode x0 t) := by
  unfold State.setMode
  with_reducible repeat'
    first
    | assumption | intro _ | apply State.countMod_keeps | apply State.raise_keeps | apply State.set_keeps
    | apply State.outEvalAll_keeps | apply State.queueEvent_keeps | apply Keeps.ite

theorem State.modeFollow_keeps (h : Keeps s t) : Keeps s (State.modeFollow t) := by
  unfold State.modeFollow
  with_reducible repeat'
    first
    | assumption | intro _ | apply State.setMode_keeps | apply State.when_keeps

theorem State.offerEval_keeps (h : Keeps s t) : Keeps s (State.offerEval t) := by
  unfold State.offerEval
  with_reducible repeat'
    first
    | assumption | intro _ | apply State.set_keeps | apply State.when_keeps | apply State.each_keeps | apply Keeps.ite
    | apply Keeps.foldl | apply Keeps.foldl_fst

theorem State.steer_keeps (h : Keeps s t) (x0) : Keeps s (State.steer x0 t) := by
  unfold State.steer
  with_reducible repeat'
    first
    | assumption | intro _ | apply State.setWide_keeps | apply State.setInc_keeps | apply State.setLoop_keeps
    | apply State.axleWord_keeps | apply State.when_keeps | apply State.each_keeps | apply Keeps.ite
    | refine Keeps.fields ?_ rfl (Nat.le_refl _) (Nat.le_refl _)

theorem State.setY_keeps (h : Keeps s t) (x0 x1) : Keeps s (State.setY x0 x1 t) := by
  unfold State.setY
  with_reducible repeat'
    first
    | assumption | intro _ | apply State.raise_keeps | apply State.setB_keeps | apply State.steer_keeps
    | apply State.setLoop_keeps | apply State.when_keeps | apply Keeps.ite | split
    | refine Keeps.fields ?_ rfl (Nat.le_refl _) (Nat.le_refl _)

theorem State.setBase_keeps (h : Keeps s t) (x0 x1) : Keeps s (State.setBase x0 x1 t) := by
  unfold State.setBase
  with_reducible repeat'
    first
    | assumption | apply State.setY_keeps | apply State.setLoop_keeps
    | refine Keeps.fields ?_ rfl (Nat.le_refl _) (Nat.le_refl _)

theorem State.rampEnd_keeps (h : Keeps s t) (x0 x1) : Keeps s (State.rampEnd x0 x1 t) := by
  unfold State.rampEnd
  with_reducible repeat'
    first
    | assumption | apply State.setLoop_keeps | apply State.setWide_keeps | apply State.set_keeps
    | refine Keeps.fields ?_ rfl (Nat.le_refl _) (Nat.le_refl _)

theorem State.rampFinish_keeps (h : Keeps s t) (x0) : Keeps s (State.rampFinish x0 t) := by
  unfold State.rampFinish
  with_reducible repeat'
    first
    | assumption | intro _ | apply State.raise_keeps | apply State.rampEnd_keeps | apply Keeps.ite

theorem State.rampStop_keeps (h : Keeps s t) (x0) : Keeps s (State.rampStop x0 t) := by
  unfold State.rampStop
  with_reducible repeat'
    first
    | assumption | intro _ | apply State.setLoop_keeps | apply State.raise_keeps | apply State.rampEnd_keeps
    | apply State.when_keeps | apply Keeps.ite | refine Keeps.fields ?_ rfl (Nat.le_refl _) (Nat.le_refl _)

theorem State.learnBreak_keeps (h : Keeps s t) (x0) : Keeps s (State.learnBreak x0 t) := by
  unfold State.learnBreak
  with_reducible repeat'
    first
    | assumption | intro _ | apply Keeps.ite | refine Keeps.fields ?_ rfl (Nat.le_refl _) (Nat.le_refl _)

theorem State.learnBreakAll_keeps (h : Keeps s t) : Keeps s (State.learnBreakAll t) := by
  unfold State.learnBreakAll
  with_reducible repeat'
    first
    | assumption | refine Keeps.fields ?_ rfl (Nat.le_refl _) (Nat.le_refl _)

theorem State.reportBound_keeps (h : Keeps s t) (x0) : Keeps s (State.reportBound x0 t) := by
  unfold State.reportBound
  with_reducible repeat'
    first
    | assumption | apply State.set_keeps

theorem State.fixHold_keeps (h : Keeps s t) (x0 x1) : Keeps s (State.fixHold x0 x1 t) := by
  unfold State.fixHold
  with_reducible repeat'
    first
    | assumption | intro _ | apply State.setHoldLoop_keeps | apply State.setWide_keeps | apply State.set_keeps
    | apply Keeps.ite | apply Keeps.ite_fst | split | refine Keeps.fields ?_ rfl (Nat.le_refl _) (Nat.le_refl _)

theorem State.gainEval_keeps (h : Keeps s t) (x0) : Keeps s (State.gainEval x0 t) := by
  unfold State.gainEval
  with_reducible repeat'
    first
    | assumption | apply State.setB_keeps

theorem State.setLoopState_keeps (h : Keeps s t) (x0 x1) : Keeps s (State.setLoopState x0 x1 t) := by
  unfold State.setLoopState
  with_reducible repeat'
    first
    | assumption | intro _ | apply State.count_keeps | apply State.raise_keeps | apply State.set_keeps
    | apply State.nodeEval_keeps | apply State.gainEval_keeps | apply State.learnBreak_keeps
    | apply State.setLoop_keeps | apply State.rampEnd_keeps | apply State.setHoldLoop_keeps
    | apply State.setWide_keeps | apply State.reportBound_keeps | apply State.setSel_keeps
    | apply State.queueEvent_keeps | apply State.modeFollow_keeps | apply State.steer_keeps
    | apply State.servedEval_keeps | apply State.when_keeps | apply Keeps.ite
    | refine Keeps.fields ?_ rfl (Nat.le_refl _) (Nat.le_refl _)

theorem State.enterHoldover_keeps (h : Keeps s t) (x0) : Keeps s (State.enterHoldover x0 t) := by
  unfold State.enterHoldover
  with_reducible repeat'
    first
    | assumption | apply State.setLoopState_keeps | apply State.fixHold_keeps

theorem State.loseSource_keeps (h : Keeps s t) (x0) : Keeps s (State.loseSource x0 t) := by
  unfold State.loseSource
  with_reducible repeat'
    first
    | assumption | intro _ | apply State.raise_keeps | apply State.enterHoldover_keeps
    | apply State.setLoopState_keeps | apply Keeps.ite

theorem State.forceLoop_keeps (h : Keeps s t) (x0 x1) : Keeps s (State.forceLoop x0 x1 t) := by
  unfold State.forceLoop
  with_reducible repeat'
    first
    | assumption | intro _ | apply State.enterHoldover_keeps | apply State.setLoopState_keeps | apply Keeps.ite

theorem State.rootChange_keeps (h : Keeps s t) (x0) : Keeps s (State.rootChange x0 t) := by
  unfold State.rootChange
  with_reducible repeat'
    first
    | assumption | intro _ | apply State.setLoop_keeps | apply State.setY_keeps | apply State.when_keeps
    | apply State.each_keeps | apply Keeps.ite | refine Keeps.fields ?_ rfl (Nat.le_refl _) (Nat.le_refl _)

theorem State.rampTick_keeps (h : Keeps s t) (x0) : Keeps s (State.rampTick x0 t) := by
  unfold State.rampTick
  with_reducible repeat'
    first
    | assumption | intro _ | apply State.rampFinish_keeps | apply State.setLoop_keeps | apply State.when_keeps
    | apply Keeps.ite | refine Keeps.fields ?_ rfl (Nat.le_refl _) (Nat.le_refl _)

theorem State.loopTick_keeps (h : Keeps s t) (x0) : Keeps s (State.loopTick x0 t) := by
  unfold State.loopTick
  with_reducible repeat'
    first
    | assumption | intro _ | apply State.rampTick_keeps | apply State.setLoop_keeps | apply State.set_keeps
    | apply State.setBase_keeps | apply State.setHoldLoop_keeps | apply State.when_keeps | apply Keeps.ite
    | refine Keeps.fields ?_ rfl (Nat.le_refl _) (Nat.le_refl _)

/-! ### NvBase.lean -/

theorem State.nvDirty_keeps (h : Keeps s t) : Keeps s (State.nvDirty t) := by
  unfold State.nvDirty
  with_reducible repeat'
    first
    | assumption | apply State.set_keeps

theorem State.nvPutByte_keeps (h : Keeps s t) (x0 x1) : Keeps s (State.nvPutByte x0 x1 t) := by
  unfold State.nvPutByte
  with_reducible repeat'
    first
    | assumption | refine Keeps.fields ?_ rfl (Nat.le_refl _) (Nat.le_refl _)

theorem State.nvPut_keeps (h : Keeps s t) (x0 x1) : Keeps s (State.nvPut x0 x1 t) := by
  unfold State.nvPut
  with_reducible repeat'
    first
    | assumption | intro _ | apply State.nvDirty_keeps | apply State.nvPutByte_keeps | apply Keeps.foldl
    | apply Keeps.foldl_fst

theorem State.drawToken_keeps (h : Keeps s t) : Keeps s (State.drawToken t) := by
  unfold State.drawToken
  with_reducible repeat'
    first
    | assumption | apply State.set_keeps

theorem State.bucketRefuses_keeps (h : Keeps s t) : Keeps s (State.bucketRefuses t) := by
  unfold State.bucketRefuses
  with_reducible repeat'
    first
    | assumption | apply State.raise_keeps | apply State.count_keeps

theorem State.programPage_keeps (h : Keeps s t) (k) : Keeps s (State.programPage k t) := by
  unfold State.programPage
  split
  · exact h
  · exact State.nvDirty_keeps (State.count_keeps (h.array_fields rfl (Nat.le_refl _) (Nat.le_refl _)) _)

theorem State.reachPages_keeps : ∀ (l : List Nat) {t : State}, Keeps s t → Keeps s (State.reachPages l t).1
  | [], _, h => h
  | k :: ks, t, h => by
    unfold State.reachPages
    refine Keeps.ite_fst (fun _ => ?_) (fun _ => h)
    have h1 : Keeps s { t with nvs := { t.nvs with buffer := t.nvs.buffer.filter (·.1 != k) } } := by
      with_reducible refine Keeps.fields h ?_ ?_ ?_
      · with_reducible rfl
      · with_reducible exact Nat.le_refl _
      · with_reducible exact Nat.le_refl _
    have h2 := State.raise_keeps (State.nvDirty_keeps h1) NVS_EVT_PROT_DROP
    have h3 := State.reachPages_keeps ks h2
    with_reducible exact h3

theorem State.jobReach_keeps (h : Keeps s t) (j) : Keeps s (State.jobReach j t) := by
  unfold State.jobReach
  exact (State.reachPages_keeps j.pages h).fields rfl (Nat.le_refl _) (Nat.le_refl _)

theorem State.commitStart_keeps (h : Keeps s t) (b why) : Keeps s (State.commitStart b why t).1 := by
  unfold State.commitStart
  refine Keeps.ite_fst (fun _ => h) (fun _ => ?_)
  refine Keeps.ite_fst (fun _ => h) (fun _ => ?_)
  refine Keeps.ite_fst (fun _ => State.bucketRefuses_keeps h) (fun _ => ?_)
  exact State.set_keeps (State.jobReach_keeps (State.drawToken_keeps h) _) _ _

theorem State.jobPage_keeps (h : Keeps s t) : Keeps s (State.jobPage t) := by
  unfold State.jobPage
  with_reducible repeat'
    first
    | assumption | apply State.jobReach_keeps | apply State.programPage_keeps | split
    | refine Keeps.fields ?_ rfl (Nat.le_refl _) (Nat.le_refl _)

theorem State.jobTick_keeps (h : Keeps s t) : Keeps s (State.jobTick t) := by
  unfold State.jobTick
  with_reducible repeat'
    first
    | assumption | intro _ | apply State.jobPage_keeps | apply State.when_keeps | split

theorem State.nvTick_keeps (h : Keeps s t) : Keeps s (State.nvTick t) := by
  unfold State.nvTick
  with_reducible repeat'
    first
    | assumption | intro _ | apply State.jobTick_keeps | apply State.set_keeps | apply State.when_keeps | split

theorem State.commitFinish_keeps (h : Keeps s t) (x0) : Keeps s (State.commitFinish x0 t).1 := by
  unfold State.commitFinish
  with_reducible repeat'
    first
    | assumption | intro _ | apply State.jobPage_keeps | apply State.setB_keeps | apply State.raise_keeps
    | apply State.set_keeps | apply State.when_keeps | apply State.each_keeps | apply Keeps.ite | apply Keeps.ite_fst
    | split | refine Keeps.fields ?_ rfl (Nat.le_refl _) (Nat.le_refl _)

theorem State.hotPut_keeps (h : Keeps s t) (x0 x1) : Keeps s (State.hotPut x0 x1 t) := by
  unfold State.hotPut
  with_reducible repeat'
    first
    | assumption | refine Keeps.fields ?_ rfl (Nat.le_refl _) (Nat.le_refl _)
    | refine Keeps.array_fields ?_ rfl (Nat.le_refl _) (Nat.le_refl _)

theorem State.hotSaveStart_keeps (h : Keeps s t) (x0 x1) : Keeps s (State.hotSaveStart x0 x1 t) := by
  unfold State.hotSaveStart
  with_reducible repeat'
    first
    | assumption | apply State.hotPut_keeps | apply State.set_keeps
    | refine Keeps.fields ?_ rfl (Nat.le_refl _) (Nat.le_refl _)

theorem State.hotSaveFinish_keeps (h : Keeps s t) (b) : Keeps s (State.hotSaveFinish b t) := by
  unfold State.hotSaveFinish
  with_reducible apply State.countBy_keeps
  with_reducible apply Keeps.ite
  all_goals intro _
  · with_reducible apply State.each_keeps
    · intro k t h
      exact h.fields rfl (Nat.le_refl _) (Nat.le_refl _)
    · with_reducible apply Keeps.array_fields h
      · with_reducible rfl
      · with_reducible exact Nat.le_refl _
      · with_reducible exact Nat.le_refl _
  · with_reducible apply Keeps.array_fields h
    · with_reducible rfl
    · with_reducible exact Nat.le_refl _
    · with_reducible exact Nat.le_refl _

theorem State.hotSaveEnd_keeps (h : Keeps s t) : Keeps s (State.hotSaveEnd t) := by
  unfold State.hotSaveEnd
  with_reducible repeat'
    first
    | assumption | intro _ | apply State.hotSaveFinish_keeps | apply State.setB_keeps | apply State.raise_keeps
    | apply State.set_keeps | apply State.when_keeps | apply Keeps.ite | split
    | refine Keeps.fields ?_ rfl (Nat.le_refl _) (Nat.le_refl _)

theorem State.hotSaveOp_keeps (h : Keeps s t) (x0) : Keeps s (State.hotSaveOp x0 t).1 := by
  unfold State.hotSaveOp
  with_reducible repeat'
    first
    | assumption | intro _ | apply State.bucketRefuses_keeps | apply State.hotSaveStart_keeps
    | apply State.drawToken_keeps | apply Keeps.ite | apply Keeps.ite_fst

/-! ### Faults.lean -/

theorem State.faultNEval_keeps (h : Keeps s t) : Keeps s (State.faultNEval t) := by
  unfold State.faultNEval
  with_reducible repeat'
    first
    | assumption | apply State.setB_keeps

theorem State.nvlogLose_keeps (h : Keeps s t) : Keeps s (State.nvlogLose t) := by
  unfold State.nvlogLose
  with_reducible repeat'
    first
    | assumption | apply State.raise_keeps | apply State.count_keeps

theorem State.openPage_keeps (h : Keeps s t) (x0 x1 x2) : Keeps s (State.openPage x0 x1 x2 t) := by
  unfold State.openPage
  with_reducible repeat'
    first
    | assumption | apply State.nvPut_keeps | refine Keeps.fields ?_ rfl (Nat.le_refl _) (Nat.le_refl _)

theorem State.pageAppend_keeps (h : Keeps s t) (x0) : Keeps s (State.pageAppend x0 t) := by
  unfold State.pageAppend
  with_reducible repeat'
    first
    | assumption | intro _ | apply State.openPage_keeps | apply State.nvlogLose_keeps | apply Keeps.ite

theorem State.nvlogAppend_keeps (h : Keeps s t) (x0) : Keeps s (State.nvlogAppend x0 t) := by
  unfold State.nvlogAppend
  with_reducible repeat'
    first
    | assumption | intro _ | apply State.pageAppend_keeps | apply State.when_keeps
    | refine Keeps.fields ?_ rfl (Nat.le_refl _) (Nat.le_refl _)

theorem State.faultCount_keeps (h : Keeps s t) (x0 x1) : Keeps s (State.faultCount x0 x1 t) := by
  unfold State.faultCount
  with_reducible repeat'
    first
    | assumption | intro _ | apply State.count_keeps | apply State.set_keeps | apply State.wr_keeps | apply Keeps.ite
    | split

theorem State.holdReaction_keeps (h : Keeps s t) : Keeps s (State.holdReaction t) := by
  unfold State.holdReaction
  with_reducible repeat'
    first
    | assumption | intro _ | apply State.forceLoop_keeps | apply State.set_keeps | apply State.when_keeps
    | apply State.each_keeps

theorem State.resetReaction_keeps (h : Keeps s t) (x0) : Keeps s (State.resetReaction x0 t) := by
  unfold State.resetReaction
  with_reducible repeat'
    first
    | assumption | intro _ | apply State.hotSaveOp_keeps | apply State.when_keeps | apply Keeps.ite
    | apply Keeps.ite_fst | refine Keeps.fields ?_ rfl (Nat.le_refl _) (Nat.le_refl _)

theorem State.logFault_keeps (h : Keeps s t) (x0 x1 x2) : Keeps s (State.logFault x0 x1 x2 t) := by
  unfold State.logFault
  with_reducible repeat'
    first
    | assumption | refine Keeps.fields ?_ rfl (Nat.le_refl _) (Nat.le_refl _)

theorem State.faultLogged_keeps (h : Keeps s t) (x0) : Keeps s (State.faultLogged x0 t) := by
  unfold State.faultLogged
  with_reducible repeat'
    first
    | assumption | intro _ | apply State.faultCount_keeps | apply State.set_keeps | apply State.queueEvent_keeps
    | apply State.nvlogAppend_keeps | apply State.raise_keeps | apply State.outEvalAll_keeps
    | apply State.holdReaction_keeps | apply State.when_keeps | split
    | refine Keeps.fields ?_ rfl (Nat.le_refl _) (Nat.le_refl _)

theorem State.faultsLogged_keeps {f : Nat → State → State} (hf : ∀ o t, Keeps s t → Keeps s (f o t)) (h : Keeps s t) :
    Keeps s (State.faultsLogged f t) := by
  unfold State.faultsLogged
  split
  · exact h
  · next g gs e =>
    have h0 : Keeps s { t with flt := { t.flt with heard := [] } } := by
      with_reducible refine Keeps.fields h ?_ ?_ ?_
      · with_reducible rfl
      · with_reducible exact Nat.le_refl _
      · with_reducible exact Nat.le_refl _
    have h1 := Keeps.foldl (f := fun t f => State.faultLogged f t) (fun _ x h => State.faultLogged_keeps h x) (g :: gs) h0
    have h2 := Keeps.foldl (f := fun t f' => t.when (f'.src == 0x20 && (t.rd (FLT_REACT 0x20)).getLsbD 6) (f f'.inst))
      (fun _ x h => State.when_keeps (hf x.inst) h _) (g :: gs) h1
    have h3 := Keeps.foldl (f := fun t f' => t.when ((t.faultReactions f'.src f'.inst).testBit 7) (State.resetReaction f'.src))
      (fun _ x h => State.when_keeps (fun _ h => State.resetReaction_keeps h _) h _) (g :: gs) h2
    exact State.faultNEval_keeps h3

theorem State.warn_keeps (h : Keeps s t) : Keeps s (State.warn t) := by
  unfold State.warn
  with_reducible repeat'
    first
    | assumption | apply State.logFault_keeps

theorem State.refuseWrite_keeps (h : Keeps s t) (x0 x1) : Keeps s (State.refuseWrite x0 x1 t) := by
  unfold State.refuseWrite
  with_reducible repeat'
    first
    | assumption | apply State.logFault_keeps

/-! ### FwBase.lean -/

theorem State.fwAnswer_keeps (h : Keeps s t) (x0 x1 x2 x3) : Keeps s (State.fwAnswer x0 x1 x2 x3 t) := by
  unfold State.fwAnswer
  with_reducible repeat'
    first
    | assumption | split | refine Keeps.fields ?_ rfl (Nat.le_refl _) (Nat.le_refl _)

theorem State.fwOk_keeps (h : Keeps s t) (x0 x1) : Keeps s (State.fwOk x0 x1 t) := by
  unfold State.fwOk
  with_reducible repeat'
    first
    | assumption | apply State.fwAnswer_keeps

theorem State.fwInvalid_keeps (h : Keeps s t) (x0 x1) : Keeps s (State.fwInvalid x0 x1 t) := by
  unfold State.fwInvalid
  with_reducible repeat'
    first
    | assumption | apply State.fwAnswer_keeps

theorem State.fwBusy_keeps (h : Keeps s t) (x0) : Keeps s (State.fwBusy x0 t) := by
  unfold State.fwBusy
  with_reducible repeat'
    first
    | assumption | apply State.fwAnswer_keeps

theorem State.fwNv_keeps (h : Keeps s t) (x0 x1 x2) : Keeps s (State.fwNv x0 x1 x2 t) := by
  unfold State.fwNv
  with_reducible repeat'
    first
    | assumption | intro _ | apply State.fwOk_keeps | apply State.fwAnswer_keeps | apply Keeps.ite

theorem State.gaugeAnswer_keeps (h : Keeps s t) (x0 x1) : Keeps s (State.gaugeAnswer x0 x1 t) := by
  unfold State.gaugeAnswer
  with_reducible repeat'
    first
    | assumption | intro _ | apply State.fwAnswer_keeps | apply State.fwOk_keeps | apply Keeps.ite | split
    | refine Keeps.fields ?_ rfl (Nat.le_refl _) (Nat.le_refl _)

/-! ### Access.lean -/

theorem State.answer_keeps (h : Keeps s t) (x0 x1) : Keeps s (State.answer x0 x1 t) := by
  unfold State.answer
  with_reducible repeat'
    first
    | assumption | intro _ | apply Keeps.ite | refine Keeps.fields ?_ rfl (Nat.le_refl _) (Nat.le_refl _)

theorem State.errorReply_keeps (h : Keeps s t) (x0) : Keeps s (State.errorReply x0 t) := by
  unfold State.errorReply
  with_reducible repeat'
    first
    | assumption | intro _ | apply State.answer_keeps | apply State.raise_keeps | apply Keeps.ite | split
    | refine Keeps.fields ?_ rfl (Nat.le_refl _) (Nat.le_refl _)

theorem State.access_keeps {eff : RegRow → State → State} (he : ∀ r t, Keeps s t → Keeps s (eff r t)) (h : Keeps s t) (m a) :
    Keeps s (State.access m a eff t) := by
  unfold State.access
  split
  · exact State.answer_keeps h _ _
  · exact State.logFault_keeps (State.errorReply_keeps h _) _ _ _
  · exact State.answer_keeps h _ _
  · exact State.logFault_keeps (State.answer_keeps h _ _) _ _ _
  · exact State.logFault_keeps (State.answer_keeps h _ _) _ _ _
  · exact he _ _ (State.answer_keeps h _ _)

theorem State.readAccess_keeps {val : RegRow → State → State × Word} (hv : ∀ r t, Keeps s t → Keeps s (val r t).1) (h : Keeps s t) (m a) :
    Keeps s (State.readAccess m a val t) := by
  unfold State.readAccess
  split
  · exact State.answer_keeps h _ _
  · exact State.logFault_keeps (State.errorReply_keeps h _) _ _ _
  · exact State.answer_keeps h _ _
  · exact State.logFault_keeps (State.answer_keeps h _ _) _ _ _
  · exact State.answer_keeps h _ _
  · exact State.answer_keeps (hv _ _ h) _ _

theorem State.setShadow_keeps (h : Keeps s t) (x0 x1 x2) : Keeps s (State.setShadow x0 x1 x2 t) := by
  unfold State.setShadow
  with_reducible repeat'
    first
    | assumption | intro _ | apply Keeps.ite | refine Keeps.fields ?_ rfl (Nat.le_refl _) (Nat.le_refl _)

theorem State.plainWrite_keeps (h : Keeps s t) (x0 x1 x2 x3) : Keeps s (State.plainWrite x0 x1 x2 x3 t) := by
  unfold State.plainWrite
  with_reducible repeat'
    first
    | assumption | intro _ | apply State.wr_keeps | apply State.logFault_keeps | apply State.when_keeps | split

theorem State.badRange_keeps (h : Keeps s t) (x0 x1) : Keeps s (State.badRange x0 x1 t) := by
  unfold State.badRange
  with_reducible repeat'
    first
    | assumption | apply State.logFault_keeps

/-! ### NvOps.lean -/

theorem State.nvCheckGroup_keeps (h : Keeps s t) (x0) : Keeps s (State.nvCheckGroup x0 t) := by
  unfold State.nvCheckGroup
  with_reducible repeat'
    first
    | assumption | intro _ | apply State.logFault_keeps | apply State.set_keeps | apply State.count_keeps
    | apply State.raise_keeps | apply Keeps.ite

theorem State.nvLoadChecked_keeps (h : Keeps s t) (x0) : Keeps s (State.nvLoadChecked x0 t) := by
  unfold State.nvLoadChecked
  with_reducible repeat'
    first
    | assumption | intro _ | apply State.nvCheckGroup_keeps | apply State.each_keeps

theorem State.nvRead_keeps (h : Keeps s t) (x0 x1) : Keeps s (State.nvRead x0 x1 t).1 := by
  unfold State.nvRead
  with_reducible repeat'
    first
    | assumption | intro _ | apply State.nvCheckGroup_keeps | apply State.each_keeps | apply Keeps.ite
    | apply Keeps.ite_fst

theorem State.nvWrite_keeps (h : Keeps s t) (x0 x1) : Keeps s (State.nvWrite x0 x1 t).1 := by
  unfold State.nvWrite
  with_reducible repeat'
    first
    | assumption | intro _ | apply State.raise_keeps | apply State.nvPut_keeps | apply State.nvLoadChecked_keeps
    | apply Keeps.ite | apply Keeps.ite_fst

theorem State.nvDiscard_keeps (h : Keeps s t) : Keeps s (State.nvDiscard t).1 := by
  unfold State.nvDiscard
  with_reducible repeat'
    first
    | assumption | intro _ | apply State.nvDirty_keeps | apply Keeps.ite | apply Keeps.ite_fst
    | refine Keeps.fields ?_ rfl (Nat.le_refl _) (Nat.le_refl _)

theorem State.nvToWindow_keeps (h : Keeps s t) (x0) : Keeps s (State.nvToWindow x0 t) := by
  unfold State.nvToWindow
  with_reducible repeat'
    first
    | assumption | intro _ | apply State.wr_keeps | apply Keeps.foldl | apply Keeps.foldl_fst

theorem State.nvOp_keeps (h : Keeps s t) (x0 x1 x2) : Keeps s (State.nvOp x0 x1 x2 t).1 := by
  unfold State.nvOp
  with_reducible repeat'
    first
    | assumption | intro _ | apply State.commitStart_keeps | apply State.nvRead_keeps | apply State.nvToWindow_keeps
    | apply State.nvWrite_keeps | apply State.nvDiscard_keeps | apply State.hotSaveOp_keeps | apply Keeps.ite
    | apply Keeps.ite_fst | split

theorem State.nvReport_keeps {x : State × Option Nat} (h : Keeps s x.1) : Keeps s (State.nvReport x) := by
  unfold State.nvReport
  split
  · exact State.set_keeps (State.set_keeps h _ _) _ _
  · exact State.set_keeps h _ _

theorem State.nvRegWrite_keeps (h : Keeps s t) (x0 x1 x2 x3) : Keeps s (State.nvRegWrite x0 x1 x2 x3 t) := by
  unfold State.nvRegWrite
  with_reducible repeat'
    first
    | assumption | intro _ | apply State.plainWrite_keeps | apply State.refuseWrite_keeps | apply Keeps.ite

theorem State.nvCmdWrite_keeps (h : Keeps s t) (x0 x1 x2) : Keeps s (State.nvCmdWrite x0 x1 x2 t) := by
  unfold State.nvCmdWrite
  with_reducible repeat'
    first
    | assumption | intro _ | apply State.refuseWrite_keeps | apply State.plainWrite_keeps | apply State.set_keeps
    | apply State.nvReport_keeps | apply State.nvOp_keeps | apply Keeps.ite

theorem State.protectEffect_keeps (h : Keeps s t) (x0 x1 x2) : Keeps s (State.protectEffect x0 x1 x2 t) := by
  unfold State.protectEffect
  with_reducible repeat'
    first
    | assumption | intro _ | apply State.refuseWrite_keeps | apply State.plainWrite_keeps | apply State.setB_keeps
    | apply Keeps.ite

theorem State.tearGroup_keeps (h : Keeps s t) (x0 x1) : Keeps s (State.tearGroup x0 x1 t) := by
  unfold State.tearGroup
  with_reducible repeat'
    first
    | assumption | intro _ | apply State.useFree_keeps | apply Keeps.ite | split
    | refine Keeps.fields ?_ rfl (Nat.le_refl _) (Nat.le_refl _)
    | refine Keeps.array_fields ?_ rfl (Nat.le_refl _) (Nat.le_refl _)

theorem State.tearPage_keeps (h : Keeps s t) (x0 x1 x2) : Keeps s (State.tearPage x0 x1 x2 t) := by
  unfold State.tearPage
  with_reducible repeat'
    first
    | assumption | intro _ | apply State.tearGroup_keeps | apply Keeps.ite
    | refine Keeps.fields ?_ rfl (Nat.le_refl _) (Nat.le_refl _)
    | refine Keeps.array_fields ?_ rfl (Nat.le_refl _) (Nat.le_refl _)

theorem State.nvCut_keeps (h : Keeps s t) (x0) : Keeps s (State.nvCut x0 t) := by
  unfold State.nvCut
  with_reducible repeat'
    first
    | assumption | intro _ | apply State.tearPage_keeps | apply State.nvDirty_keeps | apply Keeps.ite
    | apply Keeps.ite_fst | apply Keeps.foldl | apply Keeps.foldl_fst
    | refine Keeps.fields ?_ rfl (Nat.le_refl _) (Nat.le_refl _)

theorem State.nvCutNow_keeps (h : Keeps s t) : Keeps s (State.nvCutNow t) := by
  unfold State.nvCutNow
  with_reducible repeat'
    first
    | assumption | apply State.nvCut_keeps | split

/-! ### MbxOps.lean -/

theorem State.setSendQueue_keeps (h : Keeps s t) (x0 x1 x2) : Keeps s (State.setSendQueue x0 x1 x2 t) := by
  unfold State.setSendQueue
  with_reducible repeat'
    first
    | assumption | intro _ | apply State.setMb_keeps | apply Keeps.ite
    | refine Keeps.fields ?_ rfl (Nat.le_refl _) (Nat.le_refl _)

theorem State.mbxPost_keeps (h : Keeps s t) (x0 x1 x2 x3 x4) : Keeps s (State.mbxPost x0 x1 x2 x3 x4 t) := by
  unfold State.mbxPost
  with_reducible repeat'
    first
    | assumption | intro _ | apply State.setSendQueue_keeps | apply State.setMb_keeps | apply State.raise_keeps
    | apply State.countBy_keeps | apply State.when_keeps | apply Keeps.ite | split
    | refine Keeps.fields ?_ rfl (Nat.le_refl _) (Nat.le_refl _)

theorem State.mbxSend_keeps (h : Keeps s t) (x0 x1 x2 x3) : Keeps s (State.mbxSend x0 x1 x2 x3 t) := by
  unfold State.mbxSend
  with_reducible repeat'
    first
    | assumption | intro _ | apply State.refuseWrite_keeps | apply State.raise_keeps | apply State.mbxPost_keeps
    | apply Keeps.ite

theorem State.mbxRelease_keeps (h : Keeps s t) (x0 x1) : Keeps s (State.mbxRelease x0 x1 t) := by
  unfold State.mbxRelease
  with_reducible repeat'
    first
    | assumption | intro _ | apply State.setSendQueue_keeps | apply State.raise_keeps | apply State.when_keeps | split

theorem State.mbxEndReset_keeps (h : Keeps s t) (x0 x1) : Keeps s (State.mbxEndReset x0 x1 t) := by
  unfold State.mbxEndReset
  with_reducible repeat'
    first
    | assumption | intro _ | apply State.countBy_keeps | apply State.setSendQueue_keeps | apply State.raise_keeps
    | apply State.countMod_keeps | apply State.wr_keeps | apply State.when_keeps | apply State.each_keeps
    | apply Keeps.ite | refine Keeps.fields ?_ rfl (Nat.le_refl _) (Nat.le_refl _)

theorem State.mbxResetAll_keeps (h : Keeps s t) : Keeps s (State.mbxResetAll t) := by
  unfold State.mbxResetAll
  with_reducible repeat'
    first
    | assumption | intro _ | apply State.mbxEndReset_keeps | apply State.each_keeps

theorem State.mbxCtrl_keeps (h : Keeps s t) (x0 x1 x2) : Keeps s (State.mbxCtrl x0 x1 x2 t) := by
  unfold State.mbxCtrl
  with_reducible repeat'
    first
    | assumption | intro _ | apply State.mbxEndReset_keeps | apply State.mbxRelease_keeps | apply State.when_keeps
    | apply Keeps.ite

theorem State.mbxError_keeps (h : Keeps s t) (x0 x1 x2) : Keeps s (State.mbxError x0 x1 x2 t) := by
  unfold State.mbxError
  with_reducible repeat'
    first
    | assumption | apply State.logFault_keeps | apply State.errorReply_keeps

theorem State.mbxWrite_keeps (h : Keeps s t) (x0 x1 x2 x3) : Keeps s (State.mbxWrite x0 x1 x2 x3 t) := by
  unfold State.mbxWrite
  with_reducible repeat'
    first
    | assumption | intro _ | apply State.mbxError_keeps | apply State.refuseWrite_keeps | apply State.mbxSend_keeps
    | apply State.mbxCtrl_keeps | apply State.plainWrite_keeps | apply Keeps.ite | split

theorem State.coreDown_keeps (h : Keeps s t) (x0) : Keeps s (State.coreDown x0 t) := by
  unfold State.coreDown
  with_reducible repeat'
    first
    | assumption | intro _ | apply State.mbxEndReset_keeps | apply State.setBus_keeps | apply State.each_keeps
    | apply Keeps.ite | apply Keeps.ite_fst | apply Keeps.foldl | apply Keeps.foldl_fst | split
    | refine Keeps.fields ?_ rfl (Nat.le_refl _) (Nat.le_refl _)

end Sys2Proof.Machine
end

