-- ==== Sys2Proof/Laws/KeepsTiming.lean ====
section
/-! SUPPORT. Every operation keeps what `Keeps` says: the timing side: time, references, selection, axles, outputs, holdover, loops. -/

namespace Sys2Proof.Machine

variable {s t : State}

/-! ### Time.lean -/

theorem State.incWrite_keeps (h : Keeps s t) (x0 x1 x2 x3 x4) : Keeps s (State.incWrite x0 x1 x2 x3 x4 t) := by
  unfold State.incWrite
  with_reducible repeat'
    first
    | assumption | intro _ | apply State.refuseWrite_keeps | apply State.plainWrite_keeps | apply State.badRange_keeps
    | apply State.setInc_keeps | apply Keeps.ite

theorem State.timSet_keeps (h : Keeps s t) (x0 x1) : Keeps s (State.timSet x0 x1 t) := by
  unfold State.timSet
  with_reducible repeat'
    first
    | assumption | intro _ | apply State.refuseWrite_keeps | apply State.raise_keeps | apply State.secValid_keeps
    | apply State.count_keeps | apply State.retime_keeps | apply Keeps.ite

theorem State.timStep_keeps (h : Keeps s t) (x0 x1) : Keeps s (State.timStep x0 x1 t) := by
  unfold State.timStep
  with_reducible repeat'
    first
    | assumption | intro _ | apply State.refuseWrite_keeps | apply State.raise_keeps | apply State.retime_keeps
    | apply State.stepC_keeps | apply Keeps.ite

theorem State.timCtrlWrite_keeps (h : Keeps s t) (x0 x1 x2 x3) : Keeps s (State.timCtrlWrite x0 x1 x2 x3 t) := by
  unfold State.timCtrlWrite
  with_reducible repeat'
    first
    | assumption | intro _ | apply State.timSet_keeps | apply State.timStep_keeps | apply State.set_keeps
    | apply State.when_keeps

theorem State.secondBoundary_keeps (h : Keeps s t) (x0) : Keeps s (State.secondBoundary x0 t) := by
  unfold State.secondBoundary
  with_reducible repeat'
    first
    | assumption | intro _ | apply State.relabel_keeps | apply State.snapshot_keeps | apply State.when_keeps

theorem State.snapWrite_keeps (h : Keeps s t) (x0 x1 x2) : Keeps s (State.snapWrite x0 x1 x2 t) := by
  unfold State.snapWrite
  with_reducible repeat'
    first
    | assumption | intro _ | apply State.plainWrite_keeps | apply State.snapshot_keeps | apply State.set_keeps
    | apply State.when_keeps

theorem State.targetHi_keeps (h : Keeps s t) (x0 x1 x2 x3) : Keeps s (State.targetHi x0 x1 x2 x3 t) := by
  unfold State.targetHi
  with_reducible repeat'
    first
    | assumption | intro _ | apply State.plainWrite_keeps | apply State.setAcc_keeps | apply Keeps.ite
    | refine Keeps.fields ?_ rfl (Nat.le_refl _) (Nat.le_refl _)

theorem State.srvCfgWrite_keeps (h : Keeps s t) (x0 x1 x2) : Keeps s (State.srvCfgWrite x0 x1 x2 t) := by
  unfold State.srvCfgWrite
  with_reducible repeat'
    first
    | assumption | intro _ | apply State.plainWrite_keeps | apply State.setSrc_keeps | apply State.autoSource_keeps
    | apply Keeps.ite

theorem State.servedRevert_keeps (h : Keeps s t) : Keeps s (State.servedRevert t) := by
  unfold State.servedRevert
  with_reducible repeat'
    first
    | assumption | intro _ | apply State.setSrc_keeps | apply State.when_keeps

theorem State.servedSlewEnd_keeps (h : Keeps s t) : Keeps s (State.servedSlewEnd t) := by
  unfold State.servedSlewEnd
  with_reducible repeat'
    first
    | assumption | intro _ | apply State.setAcc_keeps | apply State.when_keeps

theorem execIncHiWrite_keeps {x0 x1 x2} {s t : State} (e : execIncHiWrite x0 x1 x2 s = .next t) : Keeps s t := by
  unfold execIncHiWrite at e
  injection e with e; subst e
  have h := Keeps.refl s
  with_reducible repeat'
    first
    | assumption | intro _ | apply State.access_keeps | apply State.incWrite_keeps | apply State.when_keeps

theorem execSet_keeps {x0 x1 x2} {s t : State} (e : execSet x0 x1 x2 s = .next t) : Keeps s t := by
  unfold execSet at e
  injection e with e; subst e
  have h := Keeps.refl s
  with_reducible repeat'
    first
    | assumption | intro _ | apply State.access_keeps | apply State.timCtrlWrite_keeps | apply State.when_keeps

theorem execStep_keeps {x0 x1 x2} {s t : State} (e : execStep x0 x1 x2 s = .next t) : Keeps s t := by
  unfold execStep at e
  injection e with e; subst e
  have h := Keeps.refl s
  with_reducible repeat'
    first
    | assumption | intro _ | apply State.access_keeps | apply State.timCtrlWrite_keeps | apply State.when_keeps

theorem execSetSec_keeps {x0 x1 x2} {s t : State} (e : execSetSec x0 x1 x2 s = .next t) : Keeps s t := by
  unfold execSetSec at e
  injection e with e; subst e
  have h := Keeps.refl s
  with_reducible repeat'
    first
    | assumption | intro _ | apply State.access_keeps | apply State.timCtrlWrite_keeps | apply State.when_keeps

theorem execSecondBoundary_keeps {x0} {s t : State} (e : execSecondBoundary x0 s = .next t) : Keeps s t := by
  unfold execSecondBoundary at e
  injection e with e; subst e
  have h := Keeps.refl s
  with_reducible repeat'
    first
    | assumption | intro _ | apply State.secondBoundary_keeps | apply State.when_keeps

theorem execSnapshot_keeps {x0 x1} {s t : State} (e : execSnapshot x0 x1 s = .next t) : Keeps s t := by
  unfold execSnapshot at e
  injection e with e; subst e
  have h := Keeps.refl s
  with_reducible repeat'
    first
    | assumption | intro _ | apply State.access_keeps | apply State.snapWrite_keeps | apply State.when_keeps
    | apply State.each_keeps | apply Keeps.ite | apply Keeps.foldl | apply Keeps.foldl_fst | split
    | refine Keeps.fields ?_ rfl (Nat.le_refl _) (Nat.le_refl _)

theorem execServedRevert_keeps {s t : State} (e : execServedRevert s = .next t) : Keeps s t := by
  unfold execServedRevert at e
  injection e with e; subst e
  have h := Keeps.refl s
  with_reducible repeat'
    first
    | assumption | apply State.servedRevert_keeps

theorem execTargetHiWrite_keeps {x0 x1 x2} {s t : State} (e : execTargetHiWrite x0 x1 x2 s = .next t) : Keeps s t := by
  unfold execTargetHiWrite at e
  injection e with e; subst e
  have h := Keeps.refl s
  with_reducible repeat'
    first
    | assumption | intro _ | apply State.access_keeps | apply State.targetHi_keeps | apply State.when_keeps

theorem execServedSlewEnd_keeps {s t : State} (e : execServedSlewEnd s = .next t) : Keeps s t := by
  unfold execServedSlewEnd at e
  injection e with e; subst e
  have h := Keeps.refl s
  with_reducible repeat'
    first
    | assumption | apply State.servedSlewEnd_keeps

/-! ### SelOps.lean -/

theorem State.setMap_keeps (h : Keeps s t) (x0 x1 x2) : Keeps s (State.setMap x0 x1 x2 t) := by
  unfold State.setMap
  with_reducible repeat'
    first
    | assumption | intro _ | apply State.setWide_keeps | apply Keeps.foldl | apply Keeps.foldl_fst

theorem State.setBuild_keeps (h : Keeps s t) (x0 x1) : Keeps s (State.setBuild x0 x1 t) := by
  unfold State.setBuild
  with_reducible repeat'
    first
    | assumption | intro _ | apply State.setSel_keeps | apply State.setWide_keeps | apply State.setB_keeps
    | apply State.learnBreak_keeps | apply State.when_keeps
    | refine Keeps.fields ?_ rfl (Nat.le_refl _) (Nat.le_refl _)

theorem State.bleedTick_keeps (h : Keeps s t) (x0) : Keeps s (State.bleedTick x0 t) := by
  unfold State.bleedTick
  with_reducible repeat'
    first
    | assumption | intro _ | apply State.setBuild_keeps | apply Keeps.ite

theorem State.flywheel_keeps (h : Keeps s t) (x0) : Keeps s (State.flywheel x0 t) := by
  unfold State.flywheel
  with_reducible repeat'
    first
    | assumption | intro _ | apply State.set_keeps | apply State.learnBreak_keeps | apply State.setY_keeps
    | apply Keeps.ite

theorem State.acquire_keeps (h : Keeps s t) (x0 x1) : Keeps s (State.acquire x0 x1 t) := by
  unfold State.acquire
  with_reducible repeat'
    first
    | assumption | apply State.setLoopState_keeps | apply State.setLoop_keeps
    | refine Keeps.fields ?_ rfl (Nat.le_refl _) (Nat.le_refl _)

theorem State.takeSample_keeps (h : Keeps s t) (x0 x1) : Keeps s (State.takeSample x0 x1 t) := by
  unfold State.takeSample
  with_reducible repeat'
    first
    | assumption | intro _ | apply State.setLoop_keeps | apply State.acquire_keeps | apply Keeps.ite
    | refine Keeps.fields ?_ rfl (Nat.le_refl _) (Nat.le_refl _)

theorem State.takeInput_keeps (h : Keeps s t) (x0 x1) : Keeps s (State.takeInput x0 x1 t) := by
  unfold State.takeInput
  with_reducible repeat'
    first
    | assumption | intro _ | apply State.setSel_keeps | apply State.setLoop_keeps | apply Keeps.ite
    | refine Keeps.fields ?_ rfl (Nat.le_refl _) (Nat.le_refl _)

theorem State.showActive_keeps (h : Keeps s t) (x0 x1) : Keeps s (State.showActive x0 x1 t) := by
  unfold State.showActive
  with_reducible repeat'
    first
    | assumption | apply State.set_keeps | split

theorem State.reportChange_keeps (h : Keeps s t) (x0 x1) : Keeps s (State.reportChange x0 x1 t) := by
  unfold State.reportChange
  with_reducible repeat'
    first
    | assumption | apply State.setWide_keeps | apply State.count_keeps | apply State.raise_keeps
    | apply State.queueEvent_keeps

theorem State.preset_keeps (h : Keeps s t) (x0 x1) : Keeps s (State.preset x0 x1 t) := by
  unfold State.preset
  with_reducible repeat'
    first
    | assumption | intro _ | apply State.setY_keeps | apply State.setLoop_keeps | apply Keeps.ite
    | refine Keeps.fields ?_ rfl (Nat.le_refl _) (Nat.le_refl _)

theorem State.firstSelect_keeps (h : Keeps s t) (x0 x1 x2) : Keeps s (State.firstSelect x0 x1 x2 t) := by
  unfold State.firstSelect
  with_reducible repeat'
    first
    | assumption | intro _ | apply State.setSel_keeps | apply State.showActive_keeps | apply State.setBuild_keeps
    | apply State.set_keeps | apply State.reportChange_keeps | apply State.acquire_keeps | apply State.preset_keeps
    | apply Keeps.ite | refine Keeps.fields ?_ rfl (Nat.le_refl _) (Nat.le_refl _)

theorem State.holdInput_keeps (h : Keeps s t) (x0) : Keeps s (State.holdInput x0 t) := by
  unfold State.holdInput
  with_reducible repeat'
    first
    | assumption | intro _ | apply State.setSel_keeps | apply State.flywheel_keeps | apply State.when_keeps
    | refine Keeps.fields ?_ rfl (Nat.le_refl _) (Nat.le_refl _)

theorem State.startChange_keeps (h : Keeps s t) (x0 x1) : Keeps s (State.startChange x0 x1 t) := by
  unfold State.startChange
  with_reducible repeat'
    first
    | assumption | intro _ | apply State.set_keeps | apply State.setSel_keeps | apply State.learnBreak_keeps
    | apply State.holdInput_keeps | apply State.when_keeps | apply Keeps.ite | split
    | refine Keeps.fields ?_ rfl (Nat.le_refl _) (Nat.le_refl _)

theorem State.abandonChange_keeps (h : Keeps s t) (x0) : Keeps s (State.abandonChange x0 t) := by
  unfold State.abandonChange
  with_reducible repeat'
    first
    | assumption | intro _ | apply State.set_keeps | apply State.setSel_keeps | apply State.count_keeps
    | apply State.raise_keeps | apply State.when_keeps | refine Keeps.fields ?_ rfl (Nat.le_refl _) (Nat.le_refl _)

theorem State.reportLack_keeps (h : Keeps s t) (x0) : Keeps s (State.reportLack x0 t) := by
  unfold State.reportLack
  with_reducible repeat'
    first
    | assumption | intro _ | apply State.setSel_keeps | apply State.raise_keeps | apply Keeps.ite | split
    | refine Keeps.fields ?_ rfl (Nat.le_refl _) (Nat.le_refl _)

theorem State.loseActive_keeps (h : Keeps s t) (x0) : Keeps s (State.loseActive x0 t) := by
  unfold State.loseActive
  with_reducible repeat'
    first
    | assumption | intro _ | apply State.showActive_keeps | apply State.setSel_keeps | apply State.raise_keeps
    | apply State.loseSource_keeps | apply State.when_keeps
    | refine Keeps.fields ?_ rfl (Nat.le_refl _) (Nat.le_refl _)

theorem State.pruneMarks_keeps (h : Keeps s t) (x0) : Keeps s (State.pruneMarks x0 t) := by
  unfold State.pruneMarks
  with_reducible repeat'
    first
    | assumption | intro _ | apply State.setMap_keeps | apply State.set_keeps | apply State.setSel_keeps
    | refine Keeps.fields ?_ rfl (Nat.le_refl _) (Nat.le_refl _)

theorem State.redecide_keeps (h : Keeps s t) (x0) : Keeps s (State.redecide x0 t) := by
  unfold State.redecide
  with_reducible repeat'
    first
    | assumption | intro _ | apply State.raise_keeps | apply State.setSel_keeps | apply State.when_keeps
    | refine Keeps.fields ?_ rfl (Nat.le_refl _) (Nat.le_refl _)

theorem State.applyChoice_keeps (h : Keeps s t) (x0) : Keeps s (State.applyChoice x0 t) := by
  unfold State.applyChoice
  with_reducible repeat'
    first
    | assumption | intro _ | apply State.reportLack_keeps | apply State.loseActive_keeps
    | apply State.startChange_keeps | apply State.firstSelect_keeps | apply State.showActive_keeps | apply Keeps.ite
    | split

theorem State.selEval_keeps (h : Keeps s t) (x0) : Keeps s (State.selEval x0 t) := by
  unfold State.selEval
  with_reducible repeat'
    first
    | assumption | intro _ | apply State.redecide_keeps | apply State.pruneMarks_keeps | apply State.applyChoice_keeps
    | apply State.abandonChange_keeps | apply Keeps.ite | apply Keeps.ite_fst | split

theorem State.selEvalAll_keeps (h : Keeps s t) : Keeps s (State.selEvalAll t) := by
  unfold State.selEvalAll
  with_reducible repeat'
    first
    | assumption | intro _ | apply State.selEval_keeps | apply State.each_keeps

theorem State.compareGroup_keeps (h : Keeps s t) (x0 x1) : Keeps s (State.compareGroup x0 x1 t) := by
  unfold State.compareGroup
  with_reducible repeat'
    first
    | assumption | intro _ | apply State.setSel_keeps | apply State.raise_keeps | apply State.learnBreak_keeps
    | apply State.setWide_keeps | apply State.when_keeps | apply State.each_keeps | apply Keeps.ite
    | apply Keeps.ite_fst | split | refine Keeps.fields ?_ rfl (Nat.le_refl _) (Nat.le_refl _)

theorem State.selTick_keeps (h : Keeps s t) (x0) : Keeps s (State.selTick x0 t) := by
  unfold State.selTick
  with_reducible repeat'
    first
    | assumption | intro _ | apply State.pruneMarks_keeps | apply State.setSel_keeps | apply State.compareGroup_keeps
    | apply State.selEval_keeps | apply Keeps.ite | apply Keeps.foldl | apply Keeps.foldl_fst
    | refine Keeps.fields ?_ rfl (Nat.le_refl _) (Nat.le_refl _)

theorem State.selCompare_keeps (h : Keeps s t) (x0) : Keeps s (State.selCompare x0 t) := by
  unfold State.selCompare
  with_reducible repeat'
    first
    | assumption | intro _ | apply State.selTick_keeps | apply State.setSel_keeps | apply State.when_keeps
    | refine Keeps.fields ?_ rfl (Nat.le_refl _) (Nat.le_refl _)

theorem State.edgeToLoop_keeps (h : Keeps s t) (x0 x1 x2) : Keeps s (State.edgeToLoop x0 x1 x2 t) := by
  unfold State.edgeToLoop
  with_reducible repeat'
    first
    | assumption | intro _ | apply State.firstSelect_keeps | apply State.startChange_keeps
    | apply State.holdInput_keeps | apply State.setSel_keeps | apply State.takeInput_keeps | apply State.when_keeps
    | apply Keeps.ite | split | refine Keeps.fields ?_ rfl (Nat.le_refl _) (Nat.le_refl _)

theorem State.completeChange_keeps (h : Keeps s t) (x0 x1 x2 x3) : Keeps s (State.completeChange x0 x1 x2 x3 t) := by
  unfold State.completeChange
  with_reducible repeat'
    first
    | assumption | intro _ | apply State.setSel_keeps | apply State.showActive_keeps | apply State.setBuild_keeps
    | apply State.set_keeps | apply State.reportChange_keeps | apply State.acquire_keeps | apply State.selEval_keeps
    | apply Keeps.ite | refine Keeps.fields ?_ rfl (Nat.le_refl _) (Nat.le_refl _)

theorem State.changeoverComplete_keeps (h : Keeps s t) (x0) : Keeps s (State.changeoverComplete x0 t) := by
  unfold State.changeoverComplete
  with_reducible repeat'
    first
    | assumption | intro _ | apply State.firstSelect_keeps | apply State.completeChange_keeps | apply Keeps.ite
    | split

theorem State.forcedNoEdge_keeps (h : Keeps s t) (x0) : Keeps s (State.forcedNoEdge x0 t) := by
  unfold State.forcedNoEdge
  with_reducible repeat'
    first
    | assumption | intro _ | apply State.setSel_keeps | apply State.showActive_keeps | apply State.set_keeps
    | apply State.selEval_keeps | apply State.reportChange_keeps | apply Keeps.ite | split
    | refine Keeps.fields ?_ rfl (Nat.le_refl _) (Nat.le_refl _)

theorem State.edgesStop_keeps (h : Keeps s t) (x0 x1) : Keeps s (State.edgesStop x0 x1 t) := by
  unfold State.edgesStop
  with_reducible repeat'
    first
    | assumption | intro _ | apply State.setRef_keeps | apply State.setSel_keeps | apply State.holdInput_keeps
    | apply State.when_keeps | apply State.each_keeps | apply Keeps.ite
    | refine Keeps.fields ?_ rfl (Nat.le_refl _) (Nat.le_refl _)

/-! ### RefOps.lean -/

theorem State.goodMap_keeps (h : Keeps s t) (x0) : Keeps s (State.goodMap x0 t) := by
  unfold State.goodMap
  with_reducible repeat'
    first
    | assumption | apply State.setWide_keeps

theorem State.clearWindows_keeps (h : Keeps s t) (x0) : Keeps s (State.clearWindows x0 t) := by
  unfold State.clearWindows
  with_reducible repeat'
    first
    | assumption | apply State.setRef_keeps | apply State.set_keeps
    | refine Keeps.fields ?_ rfl (Nat.le_refl _) (Nat.le_refl _)

theorem State.setCond_keeps (h : Keeps s t) (x0 x1 x2) : Keeps s (State.setCond x0 x1 x2 t) := by
  unfold State.setCond
  with_reducible repeat'
    first
    | assumption | intro _ | apply State.set_keeps | apply State.setRef_keeps | apply State.when_keeps
    | refine Keeps.fields ?_ rfl (Nat.le_refl _) (Nat.le_refl _)

theorem State.todUnlock_keeps (h : Keeps s t) : Keeps s (State.todUnlock t) := by
  unfold State.todUnlock
  with_reducible repeat'
    first
    | assumption | apply State.set_keeps | refine Keeps.fields ?_ rfl (Nat.le_refl _) (Nat.le_refl _)

theorem State.refFell_keeps (h : Keeps s t) (x0) : Keeps s (State.refFell x0 t) := by
  unfold State.refFell
  with_reducible repeat'
    first
    | assumption | intro _ | apply State.set_keeps | apply State.count_keeps | apply State.setRef_keeps
    | apply Keeps.ite | refine Keeps.fields ?_ rfl (Nat.le_refl _) (Nat.le_refl _)

theorem State.setRefState_keeps (h : Keeps s t) (x0 x1) : Keeps s (State.setRefState x0 x1 t) := by
  unfold State.setRefState
  with_reducible repeat'
    first
    | assumption | intro _ | apply State.set_keeps | apply State.refFell_keeps | apply State.raise_keeps
    | apply State.queueEvent_keeps | apply State.todUnlock_keeps | apply State.goodMap_keeps | apply State.when_keeps
    | apply Keeps.ite

theorem State.thenSelect_keeps {g : State → State} (hg : ∀ t, Keeps s t → Keeps s (g t)) (h : Keeps s t) : Keeps s (State.thenSelect g t) := by
  unfold State.thenSelect
  exact State.when_keeps (fun _ h => State.selEvalAll_keeps h) (hg _ h) _

theorem State.enterWait_keeps (h : Keeps s t) (x0 x1) : Keeps s (State.enterWait x0 x1 t) := by
  unfold State.enterWait
  with_reducible repeat'
    first
    | assumption | apply State.set_keeps | apply State.setRef_keeps | apply State.setRefState_keeps
    | refine Keeps.fields ?_ rfl (Nat.le_refl _) (Nat.le_refl _)

theorem State.failRef_keeps (h : Keeps s t) (x0) : Keeps s (State.failRef x0 t) := by
  unfold State.failRef
  with_reducible repeat'
    first
    | assumption | apply State.setRefState_keeps | apply State.set_keeps

theorem State.voidRef_keeps (h : Keeps s t) (x0) : Keeps s (State.voidRef x0 t) := by
  unfold State.voidRef
  with_reducible repeat'
    first
    | assumption | intro _ | apply State.set_keeps | apply State.clearWindows_keeps | apply State.setRefState_keeps
    | apply State.edgesStop_keeps | apply State.when_keeps

theorem State.refEval_keeps (h : Keeps s t) (x0) : Keeps s (State.refEval x0 t) := by
  unfold State.refEval
  with_reducible repeat'
    first
    | assumption | intro _ | apply State.voidRef_keeps | apply State.failRef_keeps | apply State.enterWait_keeps
    | apply Keeps.ite

theorem State.refActive_keeps (h : Keeps s t) (x0) : Keeps s (State.refActive x0 t) := by
  unfold State.refActive
  with_reducible repeat'
    first
    | assumption | intro _ | apply State.setRefState_keeps | apply State.enterWait_keeps | apply Keeps.ite | split

theorem State.refLines_keeps (h : Keeps s t) (x0) : Keeps s (State.refLines x0 t) := by
  unfold State.refLines
  with_reducible repeat'
    first
    | assumption | intro _ | apply State.setCond_keeps | apply Keeps.ite

theorem State.refLinesEval_keeps (h : Keeps s t) (x0) : Keeps s (State.refLinesEval x0 t) := by
  unfold State.refLinesEval
  with_reducible repeat'
    first
    | assumption | intro _ | apply State.thenSelect_keeps | apply State.refEval_keeps | apply State.refLines_keeps

theorem State.refLinesAll_keeps (h : Keeps s t) : Keeps s (State.refLinesAll t) := by
  unfold State.refLinesAll
  with_reducible repeat'
    first
    | assumption | intro _ | apply State.thenSelect_keeps | apply State.refEval_keeps | apply State.refLines_keeps
    | apply State.each_keeps

theorem State.jumpCheck_keeps (h : Keeps s t) (x0 x1) : Keeps s (State.jumpCheck x0 x1 t) := by
  unfold State.jumpCheck
  with_reducible repeat'
    first
    | assumption | intro _ | apply State.setRef_keeps | apply State.count_keeps | apply State.setI_keeps
    | apply State.setCond_keeps | apply Keeps.ite | split | refine Keeps.fields ?_ rfl (Nat.le_refl _) (Nat.le_refl _)

theorem State.edgeActivity_keeps (h : Keeps s t) (x0 x1) : Keeps s (State.edgeActivity x0 x1 t) := by
  unfold State.edgeActivity
  with_reducible repeat'
    first
    | assumption | intro _ | apply State.setRef_keeps | apply State.setCond_keeps | apply State.refActive_keeps
    | apply Keeps.ite | split | refine Keeps.fields ?_ rfl (Nat.le_refl _) (Nat.le_refl _)

theorem State.refTick100_keeps (h : Keeps s t) (x0 x1) : Keeps s (State.refTick100 x0 x1 t) := by
  unfold State.refTick100
  with_reducible repeat'
    first
    | assumption | intro _ | apply State.setB_keeps | apply State.setRef_keeps | apply State.setI_keeps
    | apply State.setCond_keeps | apply State.refEval_keeps | apply State.set_keeps | apply Keeps.ite
    | refine Keeps.fields ?_ rfl (Nat.le_refl _) (Nat.le_refl _)

theorem State.driftTick_keeps (h : Keeps s t) (x0 x1) : Keeps s (State.driftTick x0 x1 t) := by
  unfold State.driftTick
  with_reducible repeat'
    first
    | assumption | intro _ | apply State.set_keeps | apply State.setCond_keeps | apply State.setI_keeps
    | apply State.when_keeps | apply State.each_keeps | apply Keeps.ite | apply Keeps.foldl | apply Keeps.foldl_fst
    | split | refine Keeps.fields ?_ rfl (Nat.le_refl _) (Nat.le_refl _)

theorem State.refTick1_keeps (h : Keeps s t) (x0 x1) : Keeps s (State.refTick1 x0 x1 t) := by
  unfold State.refTick1
  with_reducible repeat'
    first
    | assumption | intro _ | apply State.setRef_keeps | apply State.setB_keeps | apply State.setI_keeps
    | apply State.setCond_keeps | apply State.driftTick_keeps | apply State.refEval_keeps | apply Keeps.ite
    | refine Keeps.fields ?_ rfl (Nat.le_refl _) (Nat.le_refl _)

theorem State.refsFreeze_keeps (h : Keeps s t) : Keeps s (State.refsFreeze t) := by
  unfold State.refsFreeze
  with_reducible repeat'
    first
    | assumption | intro _ | apply State.setRef_keeps | apply State.set_keeps | apply State.setB_keeps
    | apply State.each_keeps | refine Keeps.fields ?_ rfl (Nat.le_refl _) (Nat.le_refl _)

/-! ### CguOps.lean -/

theorem State.xoJudge_keeps (h : Keeps s t) (x0 x1 x2) : Keeps s (State.xoJudge x0 x1 x2 t) := by
  unfold State.xoJudge
  with_reducible repeat'
    first
    | assumption | intro _ | apply State.set_keeps | apply State.setI_keeps | apply State.logFault_keeps
    | apply State.refsFreeze_keeps | apply Keeps.ite | split
    | refine Keeps.fields ?_ rfl (Nat.le_refl _) (Nat.le_refl _)

theorem State.failover_keeps (h : Keeps s t) : Keeps s (State.failover t) := by
  unfold State.failover
  with_reducible repeat'
    first
    | assumption | apply State.raise_keeps | apply State.set_keeps | apply State.count_keeps
    | apply State.learnBreakAll_keeps | apply State.offerEval_keeps | apply State.refsFreeze_keeps
    | apply State.rootChange_keeps | apply State.logFault_keeps | apply State.queueEvent_keeps

theorem State.xoLoss_keeps (h : Keeps s t) (x0) : Keeps s (State.xoLoss x0 t) := by
  unfold State.xoLoss
  with_reducible repeat'
    first
    | assumption | intro _ | apply State.raise_keeps | apply State.failover_keeps | apply Keeps.ite
    | refine Keeps.fields ?_ rfl (Nat.le_refl _) (Nat.le_refl _)

theorem State.monitorWindow_keeps (h : Keeps s t) (x0 x1 x2) : Keeps s (State.monitorWindow x0 x1 x2 t) := by
  unfold State.monitorWindow
  with_reducible repeat'
    first
    | assumption | intro _ | apply State.setB_keeps | apply Keeps.ite
    | refine Keeps.fields ?_ rfl (Nat.le_refl _) (Nat.le_refl _)

theorem State.xoCtrlWrite_keeps (h : Keeps s t) (x0 x1 x2) : Keeps s (State.xoCtrlWrite x0 x1 x2 t) := by
  unfold State.xoCtrlWrite
  with_reducible repeat'
    first
    | assumption | intro _ | apply State.plainWrite_keeps | apply State.set_keeps | apply State.raise_keeps
    | apply Keeps.ite | refine Keeps.fields ?_ rfl (Nat.le_refl _) (Nat.le_refl _)

theorem State.xoReturned_keeps (h : Keeps s t) (x0) : Keeps s (State.xoReturned x0 t) := by
  unfold State.xoReturned
  with_reducible repeat'
    first
    | assumption | intro _ | apply State.raise_keeps | apply State.set_keeps | apply State.setI_keeps
    | apply State.learnBreakAll_keeps | apply State.offerEval_keeps | apply State.refsFreeze_keeps
    | apply State.rootChange_keeps | apply State.queueEvent_keeps | apply Keeps.ite | split
    | refine Keeps.fields ?_ rfl (Nat.le_refl _) (Nat.le_refl _)

theorem State.showSrc_keeps (h : Keeps s t) (x0 x1) : Keeps s (State.showSrc x0 x1 t) := by
  unfold State.showSrc
  with_reducible repeat'
    first
    | assumption | intro _ | apply State.set_keeps | apply Keeps.ite

theorem State.forceSrc_keeps (h : Keeps s t) (x0 x1) : Keeps s (State.forceSrc x0 x1 t) := by
  unfold State.forceSrc
  with_reducible repeat'
    first
    | assumption | intro _ | apply State.set_keeps | apply Keeps.ite
    | refine Keeps.fields ?_ rfl (Nat.le_refl _) (Nat.le_refl _)

theorem State.showBusy_keeps (h : Keeps s t) : Keeps s (State.showBusy t) := by
  unfold State.showBusy
  with_reducible repeat'
    first
    | assumption | apply State.setB_keeps

theorem State.requestSwitch_keeps (h : Keeps s t) (x0 x1 x2) : Keeps s (State.requestSwitch x0 x1 x2 t) := by
  unfold State.requestSwitch
  with_reducible repeat'
    first
    | assumption | intro _ | apply State.showSrc_keeps | apply State.showBusy_keeps | apply Keeps.ite | split
    | refine Keeps.fields ?_ rfl (Nat.le_refl _) (Nat.le_refl _)

theorem State.recordSwitch_keeps (h : Keeps s t) (x0 x1 x2 x3 x4) : Keeps s (State.recordSwitch x0 x1 x2 x3 x4 t) := by
  unfold State.recordSwitch
  with_reducible repeat'
    first
    | assumption | apply State.setB_keeps | apply State.set_keeps | apply State.countMod_keeps

theorem State.switchOver_keeps (h : Keeps s t) (x0 x1) : Keeps s (State.switchOver x0 x1 t) := by
  unfold State.switchOver
  with_reducible repeat'
    first
    | assumption | intro _ | apply State.forceSrc_keeps | apply State.showBusy_keeps | apply State.requestSwitch_keeps
    | apply Keeps.foldl | apply Keeps.foldl_fst | refine Keeps.fields ?_ rfl (Nat.le_refl _) (Nat.le_refl _)

theorem State.switchDone_keeps (h : Keeps s t) (x0) : Keeps s (State.switchDone x0 t) := by
  unfold State.switchDone
  with_reducible repeat'
    first
    | assumption | intro _ | apply State.recordSwitch_keeps | apply State.switchOver_keeps | apply State.advance_keeps
    | apply State.when_keeps

theorem State.switchByForce_keeps (h : Keeps s t) (x0) : Keeps s (State.switchByForce x0 t) := by
  unfold State.switchByForce
  with_reducible repeat'
    first
    | assumption | intro _ | apply State.logFault_keeps | apply State.recordSwitch_keeps
    | apply State.switchOver_keeps | apply State.raise_keeps | apply State.when_keeps

theorem State.switchDropped_keeps (h : Keeps s t) (x0) : Keeps s (State.switchDropped x0 t) := by
  unfold State.switchDropped
  with_reducible repeat'
    first
    | assumption | intro _ | apply State.recordSwitch_keeps | apply State.switchOver_keeps | apply State.advance_keeps
    | apply State.when_keeps

theorem State.laneFollow_keeps (h : Keeps s t) : Keeps s (State.laneFollow t) := by
  unfold State.laneFollow
  with_reducible repeat'
    first
    | assumption | intro _ | apply State.requestSwitch_keeps | apply Keeps.ite

theorem State.clkoutWrite_keeps (h : Keeps s t) (x0 x1 x2) : Keeps s (State.clkoutWrite x0 x1 x2 t) := by
  unfold State.clkoutWrite
  with_reducible repeat'
    first
    | assumption | intro _ | apply State.badRange_keeps | apply State.plainWrite_keeps
    | apply State.requestSwitch_keeps | apply Keeps.ite

theorem State.clkEdge_keeps (h : Keeps s t) : Keeps s (State.clkEdge t) := by
  unfold State.clkEdge
  with_reducible repeat'
    first
    | assumption | intro _ | apply Keeps.ite | refine Keeps.fields ?_ rfl (Nat.le_refl _) (Nat.le_refl _)

theorem State.clkTick_keeps (h : Keeps s t) : Keeps s (State.clkTick t) := by
  unfold State.clkTick
  with_reducible repeat'
    first
    | assumption | intro _ | apply State.clkEdge_keeps | apply State.each_keeps | apply Keeps.ite
    | refine Keeps.fields ?_ rfl (Nat.le_refl _) (Nat.le_refl _)

theorem State.domSrcWrite_keeps (h : Keeps s t) (x0 x1 x2) : Keeps s (State.domSrcWrite x0 x1 x2 t) := by
  unfold State.domSrcWrite
  with_reducible repeat'
    first
    | assumption | intro _ | apply State.refuseWrite_keeps | apply State.badRange_keeps
    | apply State.requestSwitch_keeps | apply State.when_keeps | apply State.each_keeps | apply Keeps.ite | split

/-! ### TseOps.lean -/

theorem State.setSessState_keeps (h : Keeps s t) (x0 x1) : Keeps s (State.setSessState x0 x1 t) := by
  unfold State.setSessState
  with_reducible repeat'
    first
    | assumption | intro _ | apply State.set_keeps | apply State.setSess_keeps | apply State.queueEvent_keeps
    | apply State.when_keeps | apply Keeps.ite | refine Keeps.fields ?_ rfl (Nat.le_refl _) (Nat.le_refl _)

theorem State.dropExchanges_keeps (h : Keeps s t) (x0) : Keeps s (State.dropExchanges x0 t) := by
  unfold State.dropExchanges
  with_reducible repeat'
    first
    | assumption | apply State.setSess_keeps | refine Keeps.fields ?_ rfl (Nat.le_refl _) (Nat.le_refl _)

theorem State.sessionsEval_keeps (h : Keeps s t) (x0) : Keeps s (State.sessionsEval x0 t) := by
  unfold State.sessionsEval
  with_reducible repeat'
    first
    | assumption | intro _ | apply State.cplTurn_keeps | apply State.dropExchanges_keeps
    | apply State.setSessState_keeps | apply State.each_keeps | apply Keeps.ite

theorem State.calAgain_keeps (h : Keeps s t) (x0 x1) : Keeps s (State.calAgain x0 x1 t) := by
  unfold State.calAgain
  with_reducible repeat'
    first
    | assumption | intro _ | apply State.sessionsEval_keeps | apply State.set_keeps | apply Keeps.ite
    | refine Keeps.fields ?_ rfl (Nat.le_refl _) (Nat.le_refl _)

theorem State.calRestart_keeps (h : Keeps s t) (x0) : Keeps s (State.calRestart x0 t) := by
  unfold State.calRestart
  with_reducible repeat'
    first
    | assumption | apply State.calAgain_keeps

theorem State.calRestartAll_keeps (h : Keeps s t) : Keeps s (State.calRestartAll t) := by
  unfold State.calRestartAll
  with_reducible repeat'
    first
    | assumption | intro _ | apply State.calRestart_keeps | apply State.each_keeps

theorem State.phaseEval_keeps (h : Keeps s t) (x0) : Keeps s (State.phaseEval x0 t) := by
  unfold State.phaseEval
  with_reducible repeat'
    first
    | assumption | intro _ | apply State.sessionsEval_keeps | apply State.setB_keeps | apply Keeps.ite

theorem State.phaseEvalAll_keeps (h : Keeps s t) : Keeps s (State.phaseEvalAll t) := by
  unfold State.phaseEvalAll
  with_reducible repeat'
    first
    | assumption | intro _ | apply State.phaseEval_keeps | apply State.each_keeps

theorem State.showMpd_keeps (h : Keeps s t) (x0) : Keeps s (State.showMpd x0 t) := by
  unfold State.showMpd
  with_reducible repeat'
    first
    | assumption | apply State.setWide_keeps

theorem State.sessAdvance_keeps (h : Keeps s t) (x0) : Keeps s (State.sessAdvance x0 t) := by
  unfold State.sessAdvance
  with_reducible repeat'
    first
    | assumption | intro _ | apply State.setSessState_keeps | apply Keeps.ite

theorem State.sessDiscard_keeps (h : Keeps s t) (x0) : Keeps s (State.sessDiscard x0 t) := by
  unfold State.sessDiscard
  with_reducible repeat'
    first
    | assumption | apply State.count_keeps

theorem State.sessOffset_keeps (h : Keeps s t) (x0 x1 x2) : Keeps s (State.sessOffset x0 x1 x2 t) := by
  unfold State.sessOffset
  with_reducible repeat'
    first
    | assumption | intro _ | apply State.set_keeps | apply State.setWide_keeps | apply State.countMod_keeps
    | apply State.takeSample_keeps | apply State.when_keeps | apply State.each_keeps | apply Keeps.ite

theorem State.sessSync_keeps (h : Keeps s t) (x0 x1 x2) : Keeps s (State.sessSync x0 x1 x2 t) := by
  unfold State.sessSync
  with_reducible repeat'
    first
    | assumption | apply State.setSess_keeps | apply State.sessOffset_keeps | apply State.sessAdvance_keeps
    | refine Keeps.fields ?_ rfl (Nat.le_refl _) (Nat.le_refl _)

theorem State.sessExchange_keeps (h : Keeps s t) (x0 x1) : Keeps s (State.sessExchange x0 x1 t) := by
  unfold State.sessExchange
  with_reducible repeat'
    first
    | assumption | apply State.setSess_keeps | apply State.sessAdvance_keeps | apply State.showMpd_keeps
    | refine Keeps.fields ?_ rfl (Nat.le_refl _) (Nat.le_refl _)

theorem State.pushStamp_keeps (h : Keeps s t) (x0) : Keeps s (State.pushStamp x0 t) := by
  unfold State.pushStamp
  with_reducible repeat'
    first
    | assumption | intro _ | apply State.count_keeps | apply State.set_keeps | apply Keeps.ite
    | refine Keeps.fields ?_ rfl (Nat.le_refl _) (Nat.le_refl _)

theorem State.setQl_keeps (h : Keeps s t) (x0 x1) : Keeps s (State.setQl x0 x1 t) := by
  unfold State.setQl
  with_reducible repeat'
    first
    | assumption | intro _ | apply State.selEval_keeps | apply State.wr_keeps | apply State.queueEvent_keeps
    | apply State.set_keeps | apply State.when_keeps | apply State.each_keeps

theorem State.esmcSend_keeps (h : Keeps s t) (x0 x1) : Keeps s (State.esmcSend x0 x1 t) := by
  unfold State.esmcSend
  with_reducible repeat'
    first
    | assumption | intro _ | apply State.countTx_keeps | apply State.emit_keeps | apply Keeps.ite | split
    | refine Keeps.fields ?_ rfl (Nat.le_refl _) (Nat.le_refl _)

/-! ### GaugeOps.lean -/

theorem State.gaugeFresh_keeps (h : Keeps s t) (x0) : Keeps s (State.gaugeFresh x0 t) := by
  unfold State.gaugeFresh
  with_reducible repeat'
    first
    | assumption | apply State.set_keeps | apply State.setGauge_keeps
    | refine Keeps.fields ?_ rfl (Nat.le_refl _) (Nat.le_refl _)

theorem State.statShow_keeps (h : Keeps s t) (x0) : Keeps s (State.statShow x0 t) := by
  unfold State.statShow
  with_reducible repeat'
    first
    | assumption | intro _ | apply State.set_keeps | apply State.setWide_keeps | apply State.when_keeps
    | apply State.each_keeps | apply Keeps.ite | apply Keeps.foldl | apply Keeps.foldl_fst | split
    | refine Keeps.fields ?_ rfl (Nat.le_refl _) (Nat.le_refl _)

theorem State.statEnd_keeps (h : Keeps s t) (x0 x1) : Keeps s (State.statEnd x0 x1 t) := by
  unfold State.statEnd
  with_reducible repeat'
    first
    | assumption | intro _ | apply State.set_keeps | apply State.setGauge_keeps | apply State.raise_keeps
    | apply State.gaugeAnswer_keeps | apply Keeps.ite | refine Keeps.fields ?_ rfl (Nat.le_refl _) (Nat.le_refl _)

theorem State.statResult_keeps (h : Keeps s t) (x0 x1 x2) : Keeps s (State.statResult x0 x1 x2 t) := by
  unfold State.statResult
  with_reducible repeat'
    first
    | assumption | intro _ | apply State.statShow_keeps | apply State.setGauge_keeps | apply State.statEnd_keeps
    | apply State.when_keeps | apply Keeps.ite | split | refine Keeps.fields ?_ rfl (Nat.le_refl _) (Nat.le_refl _)

theorem State.resultDone_keeps (h : Keeps s t) (x0) : Keeps s (State.resultDone x0 t) := by
  unfold State.resultDone
  with_reducible repeat'
    first
    | assumption | apply State.raise_keeps | apply State.wr_keeps

theorem State.gaugeSample_keeps (h : Keeps s t) (x0 x1) : Keeps s (State.gaugeSample x0 x1 t) := by
  unfold State.gaugeSample
  with_reducible repeat'
    first
    | assumption | intro _ | apply State.takeSample_keeps | apply State.setSel_keeps | apply State.each_keeps
    | apply Keeps.ite | refine Keeps.fields ?_ rfl (Nat.le_refl _) (Nat.le_refl _)

theorem State.passOne_keeps (h : Keeps s t) (x0 x1) : Keeps s (State.passOne x0 x1 t) := by
  unfold State.passOne
  with_reducible repeat'
    first
    | assumption | intro _ | apply State.set_keeps | apply State.setGauge_keeps | apply State.gaugeSample_keeps
    | apply State.when_keeps | apply Keeps.ite | split | refine Keeps.fields ?_ rfl (Nat.le_refl _) (Nat.le_refl _)

theorem State.gaugePass_keeps (h : Keeps s t) (x0 x1) : Keeps s (State.gaugePass x0 x1 t) := by
  unfold State.gaugePass
  with_reducible repeat'
    first
    | assumption | intro _ | apply State.passOne_keeps | apply State.each_keeps

theorem State.gaugeHold_keeps (h : Keeps s t) (x0 x1 x2) : Keeps s (State.gaugeHold x0 x1 x2 t) := by
  unfold State.gaugeHold
  with_reducible repeat'
    first
    | assumption | apply State.gaugePass_keeps | apply State.setB_keeps | apply State.setGauge_keeps
    | refine Keeps.fields ?_ rfl (Nat.le_refl _) (Nat.le_refl _)

theorem State.intervalWrite_keeps (h : Keeps s t) (x0) : Keeps s (State.intervalWrite x0 t) := by
  unfold State.intervalWrite
  with_reducible repeat'
    first
    | assumption | apply State.setGauge_keeps | apply State.setWide_keeps | apply State.gaugeHold_keeps
    | apply State.statResult_keeps | apply State.resultDone_keeps | split
    | refine Keeps.fields ?_ rfl (Nat.le_refl _) (Nat.le_refl _)

theorem State.stampDone_keeps (h : Keeps s t) (x0 x1) : Keeps s (State.stampDone x0 x1 t) := by
  unfold State.stampDone
  with_reducible repeat'
    first
    | assumption | intro _ | apply State.wr_keeps | apply State.resultDone_keeps | apply State.statResult_keeps
    | apply State.gaugeHold_keeps | apply State.setGauge_keeps | apply State.when_keeps | split
    | refine Keeps.fields ?_ rfl (Nat.le_refl _) (Nat.le_refl _)

theorem State.convDone_keeps (h : Keeps s t) (x0) : Keeps s (State.convDone x0 t) := by
  unfold State.convDone
  with_reducible repeat'
    first
    | assumption | intro _ | apply State.setGauge_keeps | apply State.intervalWrite_keeps
    | apply State.stampDone_keeps | apply Keeps.ite | split
    | refine Keeps.fields ?_ rfl (Nat.le_refl _) (Nat.le_refl _)

theorem State.startLost_keeps (h : Keeps s t) (x0) : Keeps s (State.startLost x0 t) := by
  unfold State.startLost
  with_reducible repeat'
    first
    | assumption | apply State.setGauge_keeps | refine Keeps.fields ?_ rfl (Nat.le_refl _) (Nat.le_refl _)

theorem State.pairUp_keeps (h : Keeps s t) (x0 x1 x2 x3 x4) : Keeps s (State.pairUp x0 x1 x2 x3 x4 t) := by
  unfold State.pairUp
  with_reducible repeat'
    first
    | assumption | apply State.set_keeps | apply State.setGauge_keeps
    | refine Keeps.fields ?_ rfl (Nat.le_refl _) (Nat.le_refl _)

theorem State.gateClose_keeps (h : Keeps s t) (x0) : Keeps s (State.gateClose x0 t) := by
  unfold State.gateClose
  with_reducible repeat'
    first
    | assumption | intro _ | apply State.raise_keeps | apply State.count_keeps | apply State.set_keeps
    | apply State.setGauge_keeps | apply State.intervalWrite_keeps | apply State.useFree_keeps
    | apply State.pairUp_keeps | apply State.when_keeps | apply Keeps.ite | split
    | refine Keeps.fields ?_ rfl (Nat.le_refl _) (Nat.le_refl _)

theorem State.gatePassed_keeps (h : Keeps s t) (x0 x1) : Keeps s (State.gatePassed x0 x1 t) := by
  unfold State.gatePassed
  with_reducible repeat'
    first
    | assumption | intro _ | apply State.gateClose_keeps | apply Keeps.ite | split

theorem State.startTaken_keeps (h : Keeps s t) (x0 x1) : Keeps s (State.startTaken x0 x1 t) := by
  unfold State.startTaken
  with_reducible repeat'
    first
    | assumption | intro _ | apply State.convDone_keeps | apply State.setGauge_keeps | apply State.set_keeps
    | apply State.useFree_keeps | apply State.pairUp_keeps | apply State.when_keeps | apply Keeps.ite | split
    | refine Keeps.fields ?_ rfl (Nat.le_refl _) (Nat.le_refl _)

theorem State.startEdge_keeps (h : Keeps s t) (x0 x1 x2) : Keeps s (State.startEdge x0 x1 x2 t) := by
  unfold State.startEdge
  with_reducible repeat'
    first
    | assumption | intro _ | apply State.gaugePass_keeps | apply State.gatePassed_keeps | apply State.setGauge_keeps
    | apply State.startLost_keeps | apply State.count_keeps | apply State.raise_keeps | apply State.startTaken_keeps
    | apply Keeps.ite | refine Keeps.fields ?_ rfl (Nat.le_refl _) (Nat.le_refl _)

theorem State.stopTaken_keeps (h : Keeps s t) (x0 x1) : Keeps s (State.stopTaken x0 x1 t) := by
  unfold State.stopTaken
  with_reducible repeat'
    first
    | assumption | intro _ | apply State.intervalWrite_keeps | apply State.setGauge_keeps | apply State.pairUp_keeps
    | apply State.useFree_keeps | apply State.when_keeps | apply Keeps.ite | split
    | refine Keeps.fields ?_ rfl (Nat.le_refl _) (Nat.le_refl _)

theorem State.stopEdge_keeps (h : Keeps s t) (x0 x1 x2) : Keeps s (State.stopEdge x0 x1 x2 t) := by
  unfold State.stopEdge
  with_reducible repeat'
    first
    | assumption | intro _ | apply State.gaugePass_keeps | apply State.gatePassed_keeps | apply State.setGauge_keeps
    | apply State.count_keeps | apply State.raise_keeps | apply State.stopTaken_keeps | apply Keeps.ite
    | refine Keeps.fields ?_ rfl (Nat.le_refl _) (Nat.le_refl _)

theorem State.tapSignal_keeps (h : Keeps s t) (x0 x1) : Keeps s (State.tapSignal x0 x1 t) := by
  unfold State.tapSignal
  with_reducible repeat'
    first
    | assumption | intro _ | apply State.stopEdge_keeps | apply State.startEdge_keeps | apply State.each_keeps

/-! ### Axles.lean -/

theorem State.laneEval_keeps (h : Keeps s t) : Keeps s (State.laneEval t) := by
  unfold State.laneEval
  with_reducible repeat'
    first
    | assumption | intro _ | apply State.calRestartAll_keeps | apply State.laneFollow_keeps | apply State.setB_keeps
    | apply Keeps.ite

theorem State.axleTo_keeps (h : Keeps s t) (x0 x1 x2) : Keeps s (State.axleTo x0 x1 x2 t) := by
  unfold State.axleTo
  with_reducible repeat'
    first
    | assumption | intro _ | apply State.engage_keeps | apply State.setAxleState_keeps | apply State.laneEval_keeps
    | apply State.when_keeps

theorem State.pullin_keeps (h : Keeps s t) (x0 x1) : Keeps s (State.pullin x0 x1 t) := by
  unfold State.pullin
  with_reducible repeat'
    first
    | assumption | apply State.set_keeps | apply State.setSquelch_keeps | apply State.axleTo_keeps

theorem State.searchStart_keeps (h : Keeps s t) (x0) : Keeps s (State.searchStart x0 t) := by
  unfold State.searchStart
  with_reducible repeat'
    first
    | assumption | apply State.set_keeps | apply State.count_keeps | apply State.setSquelch_keeps
    | apply State.axleTo_keeps

theorem State.axleEnter_keeps (h : Keeps s t) (x0) : Keeps s (State.axleEnter x0 t) := by
  unfold State.axleEnter
  with_reducible repeat'
    first
    | assumption | intro _ | apply State.pullin_keeps | apply State.searchStart_keeps | apply Keeps.ite

theorem State.axleStart_keeps (h : Keeps s t) (x0) : Keeps s (State.axleStart x0 t) := by
  unfold State.axleStart
  with_reducible repeat'
    first
    | assumption | intro _ | apply State.axleEnter_keeps | apply State.setAxle_keeps | apply Keeps.ite
    | refine Keeps.fields ?_ rfl (Nat.le_refl _) (Nat.le_refl _)

theorem State.jumpEnd_keeps (h : Keeps s t) (x0) : Keeps s (State.jumpEnd x0 t) := by
  unfold State.jumpEnd
  with_reducible repeat'
    first
    | assumption | intro _ | apply State.stepComplete_keeps | apply State.setAxle_keeps | apply State.when_keeps
    | refine Keeps.fields ?_ rfl (Nat.le_refl _) (Nat.le_refl _)

theorem State.axleOff_keeps (h : Keeps s t) (x0) : Keeps s (State.axleOff x0 t) := by
  unfold State.axleOff
  with_reducible repeat'
    first
    | assumption | intro _ | apply State.jumpEnd_keeps | apply State.setSquelch_keeps | apply State.axleTo_keeps
    | apply Keeps.ite

theorem State.hopOff_keeps (h : Keeps s t) (x0) : Keeps s (State.hopOff x0 t) := by
  unfold State.hopOff
  with_reducible repeat'
    first
    | assumption | intro _ | apply State.outEval_keeps | apply State.outStop_keeps | apply State.set_keeps
    | apply State.warn_keeps | apply State.raise_keeps | apply State.each_keeps | apply Keeps.ite

theorem State.axleHop_keeps (h : Keeps s t) (x0) : Keeps s (State.axleHop x0 t) := by
  unfold State.axleHop
  with_reducible repeat'
    first
    | assumption | apply State.count_keeps | apply State.raise_keeps | apply State.axleEnter_keeps
    | apply State.hopOff_keeps

theorem State.axleCfgWrite_keeps (h : Keeps s t) (x0 x1 x2 x3) : Keeps s (State.axleCfgWrite x0 x1 x2 x3 t) := by
  unfold State.axleCfgWrite
  with_reducible repeat'
    first
    | assumption | intro _ | apply State.refuseWrite_keeps | apply State.badRange_keeps | apply State.plainWrite_keeps
    | apply State.axleJump_keeps | apply State.axleOff_keeps | apply State.axleStart_keeps | apply State.axleHop_keeps
    | apply State.axleTo_keeps | apply State.engage_keeps | apply State.when_keeps | apply Keeps.ite

theorem State.axleCtrlWrite_keeps (h : Keeps s t) (x0 x1 x2) : Keeps s (State.axleCtrlWrite x0 x1 x2 t) := by
  unfold State.axleCtrlWrite
  with_reducible repeat'
    first
    | assumption | intro _ | apply State.refuseWrite_keeps | apply State.dropSteps_keeps
    | apply State.searchStart_keeps | apply State.set_keeps | apply State.when_keeps | apply Keeps.ite

theorem State.fwordWrite_keeps (h : Keeps s t) (x0 x1 x2 x3) : Keeps s (State.fwordWrite x0 x1 x2 x3 t) := by
  unfold State.fwordWrite
  with_reducible repeat'
    first
    | assumption | intro _ | apply State.refuseWrite_keeps | apply State.setAxle_keeps | apply State.badRange_keeps
    | apply State.axleWord_keeps | apply Keeps.ite | refine Keeps.fields ?_ rfl (Nat.le_refl _) (Nat.le_refl _)

theorem State.stepWrite_keeps (h : Keeps s t) (x0 x1 x2) : Keeps s (State.stepWrite x0 x1 x2 t) := by
  unfold State.stepWrite
  with_reducible repeat'
    first
    | assumption | intro _ | apply State.refuseWrite_keeps | apply State.requestStep_keeps | apply Keeps.ite

theorem State.stepLoWrite_keeps (h : Keeps s t) (x0 x1 x2 x3) : Keeps s (State.stepLoWrite x0 x1 x2 x3 t) := by
  unfold State.stepLoWrite
  with_reducible repeat'
    first
    | assumption | intro _ | apply State.refuseWrite_keeps | apply State.plainWrite_keeps | apply Keeps.ite

theorem State.bandWrite_keeps (h : Keeps s t) (x0 x1 x2 x3 x4 x5) : Keeps s (State.bandWrite x0 x1 x2 x3 x4 x5 t) := by
  unfold State.bandWrite
  with_reducible repeat'
    first
    | assumption | intro _ | apply State.refuseWrite_keeps | apply State.plainWrite_keeps | apply State.badRange_keeps
    | apply State.set_keeps | apply State.setAxle_keeps | apply Keeps.ite
    | refine Keeps.fields ?_ rfl (Nat.le_refl _) (Nat.le_refl _)

theorem State.axlePlain_keeps (h : Keeps s t) (x0 x1 x2 x3 x4) : Keeps s (State.axlePlain x0 x1 x2 x3 x4 t) := by
  unfold State.axlePlain
  with_reducible repeat'
    first
    | assumption | intro _ | apply State.refuseWrite_keeps | apply State.plainWrite_keeps | apply Keeps.ite

theorem State.searchEnd_keeps (h : Keeps s t) (x0 x1 x2 x3) : Keeps s (State.searchEnd x0 x1 x2 x3 t) := by
  unfold State.searchEnd
  with_reducible repeat'
    first
    | assumption | intro _ | apply State.set_keeps | apply State.setI_keeps | apply State.pullin_keeps
    | apply State.raise_keeps | apply State.logFault_keeps | apply State.axleOff_keeps | apply Keeps.ite

theorem State.lockHeld_keeps (h : Keeps s t) (x0) : Keeps s (State.lockHeld x0 t) := by
  unfold State.lockHeld
  with_reducible repeat'
    first
    | assumption | intro _ | apply State.axleTo_keeps | apply State.jumpEnd_keeps | apply State.setSquelch_keeps
    | apply Keeps.ite

theorem State.pullinFail_keeps (h : Keeps s t) (x0) : Keeps s (State.pullinFail x0 t) := by
  unfold State.pullinFail
  with_reducible repeat'
    first
    | assumption | intro _ | apply State.searchStart_keeps | apply State.set_keeps | apply Keeps.ite

theorem State.dllHeld_keeps (h : Keeps s t) (x0) : Keeps s (State.dllHeld x0 t) := by
  unfold State.dllHeld
  with_reducible repeat'
    first
    | assumption | intro _ | apply State.axleTo_keeps | apply State.engage_keeps | apply State.when_keeps
    | apply Keeps.ite

theorem State.axleLol_keeps (h : Keeps s t) (x0) : Keeps s (State.axleLol x0 t) := by
  unfold State.axleLol
  with_reducible repeat'
    first
    | assumption | intro _ | apply State.count_keeps | apply State.raise_keeps | apply State.logFault_keeps
    | apply State.setSquelch_keeps | apply State.axleTo_keeps | apply Keeps.ite

theorem State.ax0Lol_keeps (h : Keeps s t) : Keeps s (State.ax0Lol t) := by
  unfold State.ax0Lol
  with_reducible repeat'
    first
    | assumption | intro _ | apply State.count_keeps | apply State.raise_keeps | apply State.logFault_keeps
    | apply State.axleTo_keeps | apply Keeps.ite

theorem State.fineKeep_keeps (h : Keeps s t) (x0 x1) : Keeps s (State.fineKeep x0 x1 t) := by
  unfold State.fineKeep
  with_reducible repeat'
    first
    | assumption | intro _ | apply State.set_keeps | apply State.when_keeps

theorem State.slewEnd_keeps (h : Keeps s t) (x0) : Keeps s (State.slewEnd x0 t) := by
  unfold State.slewEnd
  with_reducible repeat'
    first
    | assumption | intro _ | apply State.stepComplete_keeps | apply State.setStepLeft_keeps
    | apply State.axleMove_keeps | apply Keeps.ite

theorem execAxleEnableWrite_keeps {x0 x1 x2} {s t : State} (e : execAxleEnableWrite x0 x1 x2 s = .next t) : Keeps s t := by
  unfold execAxleEnableWrite at e
  injection e with e; subst e
  have h := Keeps.refl s
  with_reducible repeat'
    first
    | assumption | intro _ | apply State.access_keeps | apply State.axleCfgWrite_keeps | apply State.when_keeps

theorem execBandSearchDone_keeps {x0 x1 x2 x3} {s t : State} (e : execBandSearchDone x0 x1 x2 x3 s = .next t) : Keeps s t := by
  unfold execBandSearchDone at e
  injection e with e; subst e
  have h := Keeps.refl s
  with_reducible repeat'
    first
    | assumption | intro _ | apply State.searchEnd_keeps | apply State.when_keeps

theorem execInjectionLockHeld_keeps {x0} {s t : State} (e : execInjectionLockHeld x0 s = .next t) : Keeps s t := by
  unfold execInjectionLockHeld at e
  injection e with e; subst e
  have h := Keeps.refl s
  with_reducible repeat'
    first
    | assumption | intro _ | apply State.lockHeld_keeps | apply State.when_keeps

theorem execPullinTimeout_keeps {x0} {s t : State} (e : execPullinTimeout x0 s = .next t) : Keeps s t := by
  unfold execPullinTimeout at e
  injection e with e; subst e
  have h := Keeps.refl s
  with_reducible repeat'
    first
    | assumption | intro _ | apply State.pullinFail_keeps | apply State.when_keeps

theorem execDllLocked_keeps {x0} {s t : State} (e : execDllLocked x0 s = .next t) : Keeps s t := by
  unfold execDllLocked at e
  injection e with e; subst e
  have h := Keeps.refl s
  with_reducible repeat'
    first
    | assumption | intro _ | apply State.dllHeld_keeps | apply State.when_keeps

theorem execDllHoldWrite_keeps {x0 x1 x2} {s t : State} (e : execDllHoldWrite x0 x1 x2 s = .next t) : Keeps s t := by
  unfold execDllHoldWrite at e
  injection e with e; subst e
  have h := Keeps.refl s
  with_reducible repeat'
    first
    | assumption | intro _ | apply State.access_keeps | apply State.axleCfgWrite_keeps | apply State.when_keeps

theorem execLossOfLock_keeps {x0} {s t : State} (e : execLossOfLock x0 s = .next t) : Keeps s t := by
  unfold execLossOfLock at e
  injection e with e; subst e
  have h := Keeps.refl s
  with_reducible repeat'
    first
    | assumption | intro _ | apply State.axleLol_keeps | apply State.when_keeps

theorem execHop_keeps {x0 x1 x2} {s t : State} (e : execHop x0 x1 x2 s = .next t) : Keeps s t := by
  unfold execHop at e
  injection e with e; subst e
  have h := Keeps.refl s
  with_reducible repeat'
    first
    | assumption | intro _ | apply State.access_keeps | apply State.axleCfgWrite_keeps | apply State.when_keeps

theorem execSearch_keeps {x0 x1 x2} {s t : State} (e : execSearch x0 x1 x2 s = .next t) : Keeps s t := by
  unfold execSearch at e
  injection e with e; subst e
  have h := Keeps.refl s
  with_reducible repeat'
    first
    | assumption | intro _ | apply State.access_keeps | apply State.axleCtrlWrite_keeps | apply State.when_keeps

theorem execFwordHiWrite_keeps {x0 x1 x2} {s t : State} (e : execFwordHiWrite x0 x1 x2 s = .next t) : Keeps s t := by
  unfold execFwordHiWrite at e
  injection e with e; subst e
  have h := Keeps.refl s
  with_reducible repeat'
    first
    | assumption | intro _ | apply State.access_keeps | apply State.fwordWrite_keeps | apply State.when_keeps

theorem execStepHiWrite_keeps {x0 x1 x2} {s t : State} (e : execStepHiWrite x0 x1 x2 s = .next t) : Keeps s t := by
  unfold execStepHiWrite at e
  injection e with e; subst e
  have h := Keeps.refl s
  with_reducible repeat'
    first
    | assumption | intro _ | apply State.access_keeps | apply State.stepWrite_keeps | apply State.when_keeps

theorem execStepDone_keeps {x0} {s t : State} (e : execStepDone x0 s = .next t) : Keeps s t := by
  unfold execStepDone at e
  injection e with e; subst e
  have h := Keeps.refl s
  with_reducible repeat'
    first
    | assumption | intro _ | apply State.slewEnd_keeps | apply State.when_keeps

theorem execStepAbort_keeps {x0 x1 x2} {s t : State} (e : execStepAbort x0 x1 x2 s = .next t) : Keeps s t := by
  unfold execStepAbort at e
  injection e with e; subst e
  have h := Keeps.refl s
  with_reducible repeat'
    first
    | assumption | intro _ | apply State.access_keeps | apply State.axleCtrlWrite_keeps | apply State.when_keeps

theorem execBandHiWrite_keeps {x0 x1 x2 x3} {s t : State} (e : execBandHiWrite x0 x1 x2 x3 s = .next t) : Keeps s t := by
  unfold execBandHiWrite at e
  injection e with e; subst e
  have h := Keeps.refl s
  with_reducible repeat'
    first
    | assumption | intro _ | apply State.access_keeps | apply State.bandWrite_keeps | apply State.when_keeps

theorem execAx0LossOfLock_keeps {s t : State} (e : execAx0LossOfLock s = .next t) : Keeps s t := by
  unfold execAx0LossOfLock at e
  injection e with e; subst e
  have h := Keeps.refl s
  with_reducible repeat'
    first
    | assumption | apply State.ax0Lol_keeps

theorem execFineCopy_keeps {x0 x1} {s t : State} (e : execFineCopy x0 x1 s = .next t) : Keeps s t := by
  unfold execFineCopy at e
  injection e with e; subst e
  have h := Keeps.refl s
  with_reducible repeat'
    first
    | assumption | intro _ | apply State.fineKeep_keeps | apply State.when_keeps

/-! ### Outputs.lean -/

theorem State.outCfgWrite_keeps (h : Keeps s t) (x0 x1 x2 x3) : Keeps s (State.outCfgWrite x0 x1 x2 x3 t) := by
  unfold State.outCfgWrite
  with_reducible repeat'
    first
    | assumption | intro _ | apply State.refuseWrite_keeps | apply State.plainWrite_keeps | apply State.outEval_keeps
    | apply State.set_keeps | apply State.raise_keeps | apply State.when_keeps | apply Keeps.ite

theorem State.outDivWrite_keeps (h : Keeps s t) (x0 x1 x2 x3) : Keeps s (State.outDivWrite x0 x1 x2 x3 t) := by
  unfold State.outDivWrite
  with_reducible repeat'
    first
    | assumption | apply State.outEval_keeps | apply State.plainWrite_keeps

theorem State.outDelayWrite_keeps (h : Keeps s t) (x0 x1 x2 x3) : Keeps s (State.outDelayWrite x0 x1 x2 x3 t) := by
  unfold State.outDelayWrite
  with_reducible repeat'
    first
    | assumption | intro _ | apply State.badRange_keeps | apply State.plainWrite_keeps | apply State.when_keeps
    | apply Keeps.ite

theorem State.outPulseWrite_keeps (h : Keeps s t) (x0 x1 x2 x3 x4) : Keeps s (State.outPulseWrite x0 x1 x2 x3 x4 t) := by
  unfold State.outPulseWrite
  with_reducible repeat'
    first
    | assumption | intro _ | apply State.refuseWrite_keeps | apply State.badRange_keeps | apply State.plainWrite_keeps
    | apply Keeps.ite

theorem State.outPhaseTake_keeps (h : Keeps s t) (x0 x1) : Keeps s (State.outPhaseTake x0 x1 t) := by
  unfold State.outPhaseTake
  with_reducible repeat'
    first
    | assumption | intro _ | apply State.setOutp_keeps | apply Keeps.ite
    | refine Keeps.fields ?_ rfl (Nat.le_refl _) (Nat.le_refl _)

theorem State.outPhaseWrite_keeps (h : Keeps s t) (x0 x1 x2 x3) : Keeps s (State.outPhaseWrite x0 x1 x2 x3 t) := by
  unfold State.outPhaseWrite
  with_reducible repeat'
    first
    | assumption | intro _ | apply State.plainWrite_keeps | apply State.badRange_keeps
    | apply State.outPhaseTake_keeps | apply Keeps.ite

theorem State.outFlip_keeps (h : Keeps s t) (x0 x1 x2) : Keeps s (State.outFlip x0 x1 x2 t) := by
  unfold State.outFlip
  with_reducible repeat'
    first
    | assumption | apply State.setOutp_keeps | refine Keeps.fields ?_ rfl (Nat.le_refl _) (Nat.le_refl _)

theorem State.outFallen_keeps (h : Keeps s t) (x0) : Keeps s (State.outFallen x0 t) := by
  unfold State.outFallen
  with_reducible repeat'
    first
    | assumption | intro _ | apply State.outStop_keeps | apply State.outEval_keeps | apply State.setOutp_keeps
    | apply Keeps.ite | refine Keeps.fields ?_ rfl (Nat.le_refl _) (Nat.le_refl _)

theorem State.outRise_keeps (h : Keeps s t) (x0 x1 x2) : Keeps s (State.outRise x0 x1 x2 t) := by
  unfold State.outRise
  with_reducible repeat'
    first
    | assumption | intro _ | apply State.outStop_keeps | apply State.raise_keeps | apply State.setOutp_keeps
    | apply State.outFlip_keeps | apply State.outFallen_keeps | apply State.when_keeps | apply Keeps.ite
    | refine Keeps.fields ?_ rfl (Nat.le_refl _) (Nat.le_refl _)

theorem State.outFall_keeps (h : Keeps s t) (x0 x1 x2 x3) : Keeps s (State.outFall x0 x1 x2 x3 t) := by
  unfold State.outFall
  with_reducible repeat'
    first
    | assumption | apply State.outFlip_keeps | apply State.outFallen_keeps | apply State.setOutp_keeps
    | refine Keeps.fields ?_ rfl (Nat.le_refl _) (Nat.le_refl _)

theorem State.outClock_keeps (n k j0 span) : ∀ (fuel : Nat) {t : State}, Keeps s t → Keeps s (State.outClock n k j0 span fuel t)
  | 0, _, h => h
  | fuel + 1, t, h => by
    unfold State.outClock
    refine Keeps.ite (fun _ => h) (fun _ => ?_)
    split
    · refine Keeps.ite (fun _ => Keeps.ite (fun _ => ?_) (fun _ => h)) (fun _ => Keeps.ite (fun _ => ?_) (fun _ => h))
      · exact State.outClock_keeps n k j0 span fuel (State.outFall_keeps h _ _ _ _)
      · exact State.outClock_keeps n k j0 span fuel (State.outRise_keeps h _ _ _)
    · exact Keeps.ite (fun _ => State.outClock_keeps n k j0 span fuel (State.outRise_keeps h _ _ _)) (fun _ => h)

theorem State.outClockTick_keeps (h : Keeps s t) (x0) : Keeps s (State.outClockTick x0 t) := by
  unfold State.outClockTick
  with_reducible repeat'
    first
    | assumption | apply State.outClock_keeps | apply State.setOutp_keeps
    | refine Keeps.fields ?_ rfl (Nat.le_refl _) (Nat.le_refl _)

theorem State.pulseLead_keeps (h : Keeps s t) (x0) : Keeps s (State.pulseLead x0 t) := by
  unfold State.pulseLead
  with_reducible repeat'
    first
    | assumption | intro _ | apply State.set_keeps | apply State.setOutp_keeps | apply State.outFlip_keeps
    | apply State.raise_keeps | apply State.outFallen_keeps | apply State.when_keeps
    | refine Keeps.fields ?_ rfl (Nat.le_refl _) (Nat.le_refl _)

theorem State.pulseTrail_keeps (h : Keeps s t) (x0) : Keeps s (State.pulseTrail x0 t) := by
  unfold State.pulseTrail
  with_reducible repeat'
    first
    | assumption | apply State.outFlip_keeps | apply State.outFallen_keeps | apply State.setOutp_keeps
    | refine Keeps.fields ?_ rfl (Nat.le_refl _) (Nat.le_refl _)

theorem State.outPulseTick_keeps (h : Keeps s t) (x0) : Keeps s (State.outPulseTick x0 t) := by
  unfold State.outPulseTick
  with_reducible repeat'
    first
    | assumption | intro _ | apply State.pulseTrail_keeps | apply State.pulseLead_keeps | apply State.setOutp_keeps
    | apply State.when_keeps | split | refine Keeps.fields ?_ rfl (Nat.le_refl _) (Nat.le_refl _)

theorem State.outLoad_keeps (h : Keeps s t) (x0) : Keeps s (State.outLoad x0 t) := by
  unfold State.outLoad
  with_reducible repeat'
    first
    | assumption | intro _ | apply State.setOutp_keeps | apply Keeps.ite
    | refine Keeps.fields ?_ rfl (Nat.le_refl _) (Nat.le_refl _)

theorem State.outFirst_keeps (h : Keeps s t) (x0) : Keeps s (State.outFirst x0 t) := by
  unfold State.outFirst
  with_reducible repeat'
    first
    | assumption | apply State.setOutp_keeps | refine Keeps.fields ?_ rfl (Nat.le_refl _) (Nat.le_refl _)

theorem State.outTick_keeps (h : Keeps s t) (x0) : Keeps s (State.outTick x0 t) := by
  unfold State.outTick
  with_reducible repeat'
    first
    | assumption | intro _ | apply State.outFirst_keeps | apply State.outLoad_keeps | apply State.setOutState_keeps
    | apply State.outPulseTick_keeps | apply State.outClockTick_keeps | apply State.setOutp_keeps | apply Keeps.ite
    | apply Keeps.ite_fst | refine Keeps.fields ?_ rfl (Nat.le_refl _) (Nat.le_refl _)

theorem State.outStart_keeps (h : Keeps s t) (x0) : Keeps s (State.outStart x0 t) := by
  unfold State.outStart
  with_reducible repeat'
    first
    | assumption | intro _ | apply State.outEval_keeps | apply State.setOutState_keeps | apply State.outFirst_keeps
    | apply State.outLoad_keeps | apply State.when_keeps

theorem State.outEdge_keeps (h : Keeps s t) (x0) : Keeps s (State.outEdge x0 t) := by
  unfold State.outEdge
  with_reducible repeat'
    first
    | assumption | intro _ | apply State.pulseLead_keeps | apply State.outFall_keeps | apply State.outRise_keeps
    | apply State.when_keeps | apply Keeps.ite | apply Keeps.ite_fst | split

theorem State.outKeepWrite_keeps (h : Keeps s t) (x0 x1 x2) : Keeps s (State.outKeepWrite x0 x1 x2 t) := by
  unfold State.outKeepWrite
  with_reducible repeat'
    first
    | assumption | apply State.outEvalAll_keeps | apply State.plainWrite_keeps

theorem execOutputEnableWrite_keeps {x0 x1 x2} {s t : State} (e : execOutputEnableWrite x0 x1 x2 s = .next t) : Keeps s t := by
  unfold execOutputEnableWrite at e
  injection e with e; subst e
  have h := Keeps.refl s
  with_reducible repeat'
    first
    | assumption | intro _ | apply State.access_keeps | apply State.outCfgWrite_keeps | apply State.when_keeps

theorem execOutputStart_keeps {x0} {s t : State} (e : execOutputStart x0 s = .next t) : Keeps s t := by
  unfold execOutputStart at e
  injection e with e; subst e
  have h := Keeps.refl s
  with_reducible repeat'
    first
    | assumption | intro _ | apply State.outStart_keeps | apply State.when_keeps

theorem execPhaseHiWrite_keeps {x0 x1 x2} {s t : State} (e : execPhaseHiWrite x0 x1 x2 s = .next t) : Keeps s t := by
  unfold execPhaseHiWrite at e
  injection e with e; subst e
  have h := Keeps.refl s
  with_reducible repeat'
    first
    | assumption | intro _ | apply State.access_keeps | apply State.outPhaseWrite_keeps | apply State.when_keeps

theorem execOutputDivChange_keeps {x0} {s t : State} (e : execOutputDivChange x0 s = .next t) : Keeps s t := by
  unfold execOutputDivChange at e
  injection e with e; subst e
  have h := Keeps.refl s
  with_reducible repeat'
    first
    | assumption | intro _ | apply State.outEdge_keeps | apply State.when_keeps

/-! ### Refs.lean -/

theorem State.refStart_keeps (h : Keeps s t) (x0) : Keeps s (State.refStart x0 t) := by
  unfold State.refStart
  with_reducible repeat'
    first
    | assumption | apply State.set_keeps | apply State.wr_keeps | apply State.setRef_keeps
    | apply State.refLines_keeps | apply State.setRefState_keeps
    | refine Keeps.fields ?_ rfl (Nat.le_refl _) (Nat.le_refl _)

theorem State.refStop_keeps (h : Keeps s t) (x0) : Keeps s (State.refStop x0 t) := by
  unfold State.refStop
  with_reducible repeat'
    first
    | assumption | apply State.set_keeps | apply State.clearWindows_keeps | apply State.setRef_keeps
    | apply State.edgesStop_keeps | apply State.setRefState_keeps
    | refine Keeps.fields ?_ rfl (Nat.le_refl _) (Nat.le_refl _)

theorem State.overrideChange_keeps (h : Keeps s t) (x0) : Keeps s (State.overrideChange x0 t) := by
  unfold State.overrideChange
  with_reducible repeat'
    first
    | assumption | intro _ | apply State.setRefState_keeps | apply State.failRef_keeps | apply Keeps.ite | split

theorem State.refCfgTaken_keeps (h : Keeps s t) (x0 x1 x2 x3) : Keeps s (State.refCfgTaken x0 x1 x2 x3 t) := by
  unfold State.refCfgTaken
  with_reducible repeat'
    first
    | assumption | intro _ | apply State.refuseWrite_keeps | apply State.plainWrite_keeps | apply State.refStart_keeps
    | apply State.set_keeps | apply State.refStop_keeps | apply State.overrideChange_keeps | apply State.refEval_keeps
    | apply State.when_keeps | apply Keeps.ite

theorem State.refCfgWrite_keeps (h : Keeps s t) (x0 x1 x2 x3) : Keeps s (State.refCfgWrite x0 x1 x2 x3 t) := by
  unfold State.refCfgWrite
  with_reducible repeat'
    first
    | assumption | intro _ | apply State.refuseWrite_keeps | apply State.thenSelect_keeps
    | apply State.refCfgTaken_keeps | apply Keeps.ite

theorem State.refFixedWrite_keeps (h : Keeps s t) (x0 x1 x2 x3 x4) : Keeps s (State.refFixedWrite x0 x1 x2 x3 x4 t) := by
  unfold State.refFixedWrite
  with_reducible repeat'
    first
    | assumption | intro _ | apply State.refuseWrite_keeps | apply State.plainWrite_keeps | apply Keeps.ite
    | apply Keeps.ite_fst

theorem State.refLimitWrite_keeps (h : Keeps s t) (x0 x1 x2 x3 x4) : Keeps s (State.refLimitWrite x0 x1 x2 x3 x4 t) := by
  unfold State.refLimitWrite
  with_reducible repeat'
    first
    | assumption | intro _ | apply State.plainWrite_keeps | apply State.badRange_keeps | apply Keeps.ite

theorem State.todCfgWrite_keeps (h : Keeps s t) (x0 x1 x2) : Keeps s (State.todCfgWrite x0 x1 x2 t) := by
  unfold State.todCfgWrite
  with_reducible repeat'
    first
    | assumption | intro _ | apply State.todUnlock_keeps | apply State.plainWrite_keeps | apply State.badRange_keeps
    | apply State.when_keeps | apply Keeps.ite

theorem State.todCorrect_keeps (h : Keeps s t) (x0 x1 x2) : Keeps s (State.todCorrect x0 x1 x2 t) := by
  unfold State.todCorrect
  with_reducible repeat'
    first
    | assumption | intro _ | apply State.raise_keeps | apply State.setDom_keeps | apply State.secValid_keeps
    | apply State.when_keeps | apply Keeps.ite | refine Keeps.fields ?_ rfl (Nat.le_refl _) (Nat.le_refl _)

theorem State.todLabel_keeps (h : Keeps s t) (x0 x1) : Keeps s (State.todLabel x0 x1 t) := by
  unfold State.todLabel
  with_reducible repeat'
    first
    | assumption | intro _ | apply State.setWide_keeps | apply State.todCorrect_keeps | apply Keeps.ite
    | apply Keeps.ite_fst | refine Keeps.fields ?_ rfl (Nat.le_refl _) (Nat.le_refl _)

theorem State.todPair_keeps (h : Keeps s t) (x0 x1) : Keeps s (State.todPair x0 x1 t) := by
  unfold State.todPair
  with_reducible repeat'
    first
    | assumption | intro _ | apply State.raise_keeps | apply State.todUnlock_keeps | apply State.countMod_keeps
    | apply State.set_keeps | apply State.todLabel_keeps | apply State.when_keeps | apply Keeps.ite | split
    | refine Keeps.fields ?_ rfl (Nat.le_refl _) (Nat.le_refl _)

theorem State.todMiss_keeps (h : Keeps s t) (x0) : Keeps s (State.todMiss x0 t) := by
  unfold State.todMiss
  with_reducible repeat'
    first
    | assumption | intro _ | apply State.todUnlock_keeps | apply State.todLabel_keeps | apply Keeps.ite
    | refine Keeps.fields ?_ rfl (Nat.le_refl _) (Nat.le_refl _)

theorem State.todUnnamed_keeps (h : Keeps s t) : Keeps s (State.todUnnamed t) := by
  unfold State.todUnnamed
  with_reducible repeat'
    first
    | assumption | intro _ | apply State.todMiss_keeps | apply Keeps.ite | split

theorem State.todPulse_keeps (h : Keeps s t) (x0 x1) : Keeps s (State.todPulse x0 x1 t) := by
  unfold State.todPulse
  with_reducible repeat'
    first
    | assumption | intro _ | apply State.todUnnamed_keeps | apply State.todMiss_keeps | apply State.todPair_keeps
    | apply Keeps.ite | apply Keeps.ite_fst | split | refine Keeps.fields ?_ rfl (Nat.le_refl _) (Nat.le_refl _)

theorem State.todNamed_keeps (h : Keeps s t) (x0 x1) : Keeps s (State.todNamed x0 x1 t) := by
  unfold State.todNamed
  with_reducible repeat'
    first
    | assumption | intro _ | apply State.todPair_keeps | apply Keeps.ite | apply Keeps.ite_fst | split
    | refine Keeps.fields ?_ rfl (Nat.le_refl _) (Nat.le_refl _)

theorem State.todReceive_keeps (h : Keeps s t) (x0 x1) : Keeps s (State.todReceive x0 x1 t) := by
  unfold State.todReceive
  with_reducible repeat'
    first
    | assumption | intro _ | apply State.count_keeps | apply State.todNamed_keeps | apply State.set_keeps
    | apply State.raise_keeps | apply Keeps.ite | split

theorem State.todSend_keeps (h : Keeps s t) : Keeps s (State.todSend t) := by
  unfold State.todSend
  with_reducible repeat'
    first
    | assumption | intro _ | apply State.emit_keeps | apply Keeps.ite

theorem State.actLost_keeps (h : Keeps s t) (x0) : Keeps s (State.actLost x0 t) := by
  unfold State.actLost
  with_reducible repeat'
    first
    | assumption | apply State.refEval_keeps | apply State.setCond_keeps | apply State.setRef_keeps
    | refine Keeps.fields ?_ rfl (Nat.le_refl _) (Nat.le_refl _)

theorem State.sampleOut_keeps (h : Keeps s t) (x0 x1 x2) : Keeps s (State.sampleOut x0 x1 x2 t) := by
  unfold State.sampleOut
  with_reducible repeat'
    first
    | assumption | intro _ | apply State.setRef_keeps | apply State.edgeToLoop_keeps | apply State.when_keeps
    | apply State.each_keeps | refine Keeps.fields ?_ rfl (Nat.le_refl _) (Nat.le_refl _)

theorem State.badEdge_keeps (h : Keeps s t) (x0 x1 x2) : Keeps s (State.badEdge x0 x1 x2 t) := by
  unfold State.badEdge
  with_reducible repeat'
    first
    | assumption | intro _ | apply State.count_keeps | apply State.setRef_keeps | apply State.setCond_keeps
    | apply State.refEval_keeps | apply State.edgeActivity_keeps | apply State.jumpCheck_keeps
    | apply State.todPulse_keeps | apply State.when_keeps | refine Keeps.fields ?_ rfl (Nat.le_refl _) (Nat.le_refl _)

theorem State.goodEdge_keeps (h : Keeps s t) (x0 x1 x2) : Keeps s (State.goodEdge x0 x1 x2 t) := by
  unfold State.goodEdge
  with_reducible repeat'
    first
    | assumption | intro _ | apply State.setCond_keeps | apply State.setRef_keeps | apply State.edgeActivity_keeps
    | apply State.jumpCheck_keeps | apply State.refEval_keeps | apply State.sampleOut_keeps
    | apply State.todPulse_keeps | apply State.when_keeps | refine Keeps.fields ?_ rfl (Nat.le_refl _) (Nat.le_refl _)

theorem State.refEdge_keeps (h : Keeps s t) (x0 x1 x2) : Keeps s (State.refEdge x0 x1 x2 t) := by
  unfold State.refEdge
  with_reducible repeat'
    first
    | assumption | intro _ | apply State.sampleOut_keeps | apply State.edgesStop_keeps | apply State.actLost_keeps
    | apply State.badEdge_keeps | apply State.goodEdge_keeps | apply State.when_keeps | apply Keeps.ite | split

theorem State.tappedEdge_keeps (h : Keeps s t) (x0 x1 x2) : Keeps s (State.tappedEdge x0 x1 x2 t) := by
  unfold State.tappedEdge
  with_reducible repeat'
    first
    | assumption | intro _ | apply State.tapSignal_keeps | apply State.thenSelect_keeps | apply State.refEdge_keeps
    | apply State.when_keeps | apply Keeps.ite

theorem State.activityLost_keeps (h : Keeps s t) (x0 x1) : Keeps s (State.activityLost x0 x1 t) := by
  unfold State.activityLost
  with_reducible repeat'
    first
    | assumption | intro _ | apply State.thenSelect_keeps | apply State.edgesStop_keeps | apply State.actLost_keeps
    | apply State.when_keeps | apply Keeps.ite

theorem State.tick100_keeps (h : Keeps s t) (x0) : Keeps s (State.tick100 x0 t) := by
  unfold State.tick100
  with_reducible repeat'
    first
    | assumption | intro _ | apply State.refTick100_keeps | apply State.setSel_keeps | apply State.each_keeps
    | apply Keeps.ite | refine Keeps.fields ?_ rfl (Nat.le_refl _) (Nat.le_refl _)

theorem State.tick1_keeps (h : Keeps s t) (x0) : Keeps s (State.tick1 x0 t) := by
  unfold State.tick1
  with_reducible repeat'
    first
    | assumption | intro _ | apply State.thenSelect_keeps | apply State.refTick1_keeps | apply State.each_keeps
    | apply Keeps.ite

theorem State.waitEnd_keeps (h : Keeps s t) (x0) : Keeps s (State.waitEnd x0 t) := by
  unfold State.waitEnd
  with_reducible repeat'
    first
    | assumption | intro _ | apply State.thenSelect_keeps | apply State.setRefState_keeps | apply State.when_keeps

theorem execRefEnableWrite_keeps {x0 x1 x2} {s t : State} (e : execRefEnableWrite x0 x1 x2 s = .next t) : Keeps s t := by
  unfold execRefEnableWrite at e
  injection e with e; subst e
  have h := Keeps.refl s
  with_reducible repeat'
    first
    | assumption | intro _ | apply State.access_keeps | apply State.refCfgWrite_keeps | apply State.when_keeps

theorem execOverrideWrite_keeps {x0 x1 x2} {s t : State} (e : execOverrideWrite x0 x1 x2 s = .next t) : Keeps s t := by
  unfold execOverrideWrite at e
  injection e with e; subst e
  have h := Keeps.refl s
  with_reducible repeat'
    first
    | assumption | intro _ | apply State.access_keeps | apply State.refCfgWrite_keeps | apply State.when_keeps

theorem execTappedEdge_keeps {x0 x1 x2} {s t : State} (e : execTappedEdge x0 x1 x2 s = .next t) : Keeps s t := by
  unfold execTappedEdge at e
  injection e with e; subst e
  have h := Keeps.refl s
  with_reducible repeat'
    first
    | assumption | intro _ | apply State.tappedEdge_keeps | apply State.when_keeps

theorem execActivityLoss_keeps {x0 x1} {s t : State} (e : execActivityLoss x0 x1 s = .next t) : Keeps s t := by
  unfold execActivityLoss at e
  injection e with e; subst e
  have h := Keeps.refl s
  with_reducible repeat'
    first
    | assumption | intro _ | apply State.activityLost_keeps | apply State.when_keeps

theorem execRefTick100ms_keeps {x0} {s t : State} (e : execRefTick100ms x0 s = .next t) : Keeps s t := by
  unfold execRefTick100ms at e
  injection e with e; subst e
  have h := Keeps.refl s
  with_reducible repeat'
    first
    | assumption | apply State.tick100_keeps

theorem execRefTick1s_keeps {x0} {s t : State} (e : execRefTick1s x0 s = .next t) : Keeps s t := by
  unfold execRefTick1s at e
  injection e with e; subst e
  have h := Keeps.refl s
  with_reducible repeat'
    first
    | assumption | apply State.tick1_keeps

theorem execQualificationWaitEnd_keeps {x0} {s t : State} (e : execQualificationWaitEnd x0 s = .next t) : Keeps s t := by
  unfold execQualificationWaitEnd at e
  injection e with e; subst e
  have h := Keeps.refl s
  with_reducible repeat'
    first
    | assumption | intro _ | apply State.waitEnd_keeps | apply State.when_keeps

theorem execTodSentence_keeps {x0 x1} {s t : State} (e : execTodSentence x0 x1 s = .next t) : Keeps s t := by
  unfold execTodSentence at e
  injection e with e; subst e
  have h := Keeps.refl s
  with_reducible repeat'
    first
    | assumption | apply State.todReceive_keeps

theorem execTodLineTransmit_keeps {s t : State} (e : execTodLineTransmit s = .next t) : Keeps s t := by
  unfold execTodLineTransmit at e
  injection e with e; subst e
  have h := Keeps.refl s
  with_reducible repeat'
    first
    | assumption | apply State.todSend_keeps

/-! ### Select.lean -/

theorem State.selCtrlWrite_keeps (h : Keeps s t) (x0 x1 x2 x3) : Keeps s (State.selCtrlWrite x0 x1 x2 x3 t) := by
  unfold State.selCtrlWrite
  with_reducible repeat'
    first
    | assumption | intro _ | apply State.plainWrite_keeps | apply State.abandonChange_keeps
    | apply State.selEval_keeps | apply State.setBuild_keeps | apply State.when_keeps

theorem State.selOrderWrite_keeps (h : Keeps s t) (x0 x1 x2 x3 x4) : Keeps s (State.selOrderWrite x0 x1 x2 x3 x4 t) := by
  unfold State.selOrderWrite
  with_reducible repeat'
    first
    | assumption | apply State.selEval_keeps | apply State.plainWrite_keeps

theorem State.alignWrite_keeps (h : Keeps s t) (x0 x1 x2 x3) : Keeps s (State.alignWrite x0 x1 x2 x3 t) := by
  unfold State.alignWrite
  with_reducible repeat'
    first
    | assumption | apply State.plainWrite_keeps | apply State.setSel_keeps | apply State.setBuild_keeps
    | refine Keeps.fields ?_ rfl (Nat.le_refl _) (Nat.le_refl _)

theorem State.bleedEnd_keeps (h : Keeps s t) (x0) : Keeps s (State.bleedEnd x0 t) := by
  unfold State.bleedEnd
  with_reducible repeat'
    first
    | assumption | intro _ | apply State.setBuild_keeps | apply State.when_keeps

theorem execChangeoverComplete_keeps {x0} {s t : State} (e : execChangeoverComplete x0 s = .next t) : Keeps s t := by
  unfold execChangeoverComplete at e
  injection e with e; subst e
  have h := Keeps.refl s
  with_reducible repeat'
    first
    | assumption | intro _ | apply State.changeoverComplete_keeps | apply State.when_keeps

theorem execForcedRefNoEdge_keeps {x0} {s t : State} (e : execForcedRefNoEdge x0 s = .next t) : Keeps s t := by
  unfold execForcedRefNoEdge at e
  injection e with e; subst e
  have h := Keeps.refl s
  with_reducible repeat'
    first
    | assumption | intro _ | apply State.forcedNoEdge_keeps | apply State.when_keeps

theorem execAlignHiWrite_keeps {x0 x1 x2} {s t : State} (e : execAlignHiWrite x0 x1 x2 s = .next t) : Keeps s t := by
  unfold execAlignHiWrite at e
  injection e with e; subst e
  have h := Keeps.refl s
  with_reducible repeat'
    first
    | assumption | intro _ | apply State.access_keeps | apply State.alignWrite_keeps | apply State.when_keeps

theorem execBuildOutBleedEnd_keeps {x0} {s t : State} (e : execBuildOutBleedEnd x0 s = .next t) : Keeps s t := by
  unfold execBuildOutBleedEnd at e
  injection e with e; subst e
  have h := Keeps.refl s
  with_reducible repeat'
    first
    | assumption | intro _ | apply State.bleedEnd_keeps | apply State.when_keeps

/-! ### HoldOps.lean -/

theorem State.refit_keeps (h : Keeps s t) : Keeps s (State.refit t) := by
  unfold State.refit
  dsimp only
  split
  · with_reducible refine Keeps.fields h ?_ ?_ ?_
    · with_reducible rfl
    · exact Nat.le_add_right _ _
    · with_reducible exact Nat.le_refl _
  · with_reducible refine Keeps.fields h ?_ ?_ ?_
    · with_reducible rfl
    · with_reducible exact Nat.le_refl _
    · with_reducible exact Nat.le_refl _

theorem State.reportModel_keeps (h : Keeps s t) : Keeps s (State.reportModel t) := by
  unfold State.reportModel
  with_reducible repeat'
    first
    | assumption | intro _ | apply State.set_keeps | apply State.setI_keeps | apply State.setWide_keeps
    | apply Keeps.ite

theorem State.setStage_keeps (h : Keeps s t) (x0) : Keeps s (State.setStage x0 t) := by
  unfold State.setStage
  with_reducible repeat'
    first
    | assumption | intro _ | apply State.offerEval_keeps | apply State.raise_keeps | apply State.set_keeps
    | apply Keeps.ite

theorem State.learnUpdate_keeps (h : Keeps s t) (x0) : Keeps s (State.learnUpdate x0 t) := by
  unfold State.learnUpdate
  with_reducible repeat'
    first
    | assumption | intro _ | apply State.setHoldLoop_keeps | apply Keeps.ite | apply Keeps.ite_fst
    | refine Keeps.fields ?_ rfl (Nat.le_refl _) (Nat.le_refl _)

theorem State.takeObservation_keeps (h : Keeps s t) (x0 x1) : Keeps s (State.takeObservation x0 x1 t) := by
  unfold State.takeObservation
  with_reducible repeat'
    first
    | assumption | intro _ | apply State.refit_keeps | apply State.setStage_keeps | apply State.reportModel_keeps
    | apply Keeps.ite | split | refine Keeps.fields ?_ rfl (Nat.le_refl _) (Nat.le_refl _)

theorem State.historyEntry_keeps (h : Keeps s t) : Keeps s (State.historyEntry t) := by
  unfold State.historyEntry
  with_reducible repeat'
    first
    | assumption | intro _ | apply State.hotPut_keeps | apply Keeps.ite
    | refine Keeps.fields ?_ rfl (Nat.le_refl _) (Nat.le_refl _)

theorem State.observe_keeps (h : Keeps s t) : Keeps s (State.observe t) := by
  unfold State.observe
  with_reducible repeat'
    first
    | assumption | intro _ | apply State.count_keeps | apply State.takeObservation_keeps
    | apply State.historyEntry_keeps | apply Keeps.ite | split
    | refine Keeps.fields ?_ rfl (Nat.le_refl _) (Nat.le_refl _)

theorem State.slewEval_keeps (h : Keeps s t) : Keeps s (State.slewEval t) := by
  unfold State.slewEval
  with_reducible repeat'
    first
    | assumption | intro _ | apply State.setB_keeps | apply State.learnBreakAll_keeps | apply State.when_keeps
    | refine Keeps.fields ?_ rfl (Nat.le_refl _) (Nat.le_refl _)

theorem State.tempFail_keeps (h : Keeps s t) : Keeps s (State.tempFail t) := by
  unfold State.tempFail
  with_reducible repeat'
    first
    | assumption | intro _ | apply State.learnBreakAll_keeps | apply State.set_keeps | apply State.slewEval_keeps
    | apply State.when_keeps | apply Keeps.ite | refine Keeps.fields ?_ rfl (Nat.le_refl _) (Nat.le_refl _)

theorem State.tempRead_keeps (h : Keeps s t) (x0 x1 x2) : Keeps s (State.tempRead x0 x1 x2 t) := by
  unfold State.tempRead
  with_reducible repeat'
    first
    | assumption | intro _ | apply State.tempFail_keeps | apply State.slewEval_keeps | apply State.set_keeps
    | apply Keeps.ite | refine Keeps.fields ?_ rfl (Nat.le_refl _) (Nat.le_refl _)

theorem State.testRefused_keeps (h : Keeps s t) (x0) : Keeps s (State.testRefused x0 t) := by
  unfold State.testRefused
  with_reducible repeat'
    first
    | assumption | intro _ | apply State.bucketRefuses_keeps | apply State.when_keeps | apply Keeps.ite
    | apply Keeps.ite_fst

theorem State.recordWrite_keeps (h : Keeps s t) (x0 x1 x2) : Keeps s (State.recordWrite x0 x1 x2 t).1 := by
  unfold State.recordWrite
  with_reducible repeat'
    first
    | assumption | intro _ | apply State.commitStart_keeps | apply State.nvPut_keeps | apply State.nvLoadChecked_keeps
    | apply State.testRefused_keeps | apply Keeps.ite | apply Keeps.ite_fst

theorem State.commitModel_keeps (h : Keeps s t) : Keeps s (State.commitModel t) := by
  unfold State.commitModel
  with_reducible repeat'
    first
    | assumption | intro _ | apply State.recordWrite_keeps | apply State.hotPut_keeps | apply State.raise_keeps
    | apply Keeps.ite | split

theorem State.commitHistory_keeps (h : Keeps s t) : Keeps s (State.commitHistory t) := by
  unfold State.commitHistory
  with_reducible repeat'
    first
    | assumption | intro _ | apply State.recordWrite_keeps | apply State.raise_keeps | apply Keeps.ite | split

theorem State.historyDone_keeps (h : Keeps s t) (x0) : Keeps s (State.historyDone x0 t) := by
  unfold State.historyDone
  with_reducible repeat'
    first
    | assumption | apply State.hotPut_keeps | refine Keeps.fields ?_ rfl (Nat.le_refl _) (Nat.le_refl _)

theorem State.writeCal_keeps (h : Keeps s t) (x0 x1 x2) : Keeps s (State.writeCal x0 x1 x2 t).1 := by
  unfold State.writeCal
  with_reducible repeat'
    first
    | assumption | intro _ | apply State.recordWrite_keeps | apply Keeps.ite | apply Keeps.ite_fst | split
    | refine Keeps.fields ?_ rfl (Nat.le_refl _) (Nat.le_refl _)

theorem State.calEffect_keeps (h : Keeps s t) : Keeps s (State.calEffect t) := by
  unfold State.calEffect
  with_reducible repeat'
    first
    | assumption | apply State.raise_keeps | apply State.set_keeps | apply State.setWide_keeps | split
    | refine Keeps.fields ?_ rfl (Nat.le_refl _) (Nat.le_refl _)

theorem State.clearStart_keeps (h : Keeps s t) (x0) : Keeps s (State.clearStart x0 t) := by
  unfold State.clearStart
  with_reducible repeat'
    first
    | assumption | apply State.nvPut_keeps | apply State.hotPut_keeps | apply State.nvLoadChecked_keeps
    | apply State.commitStart_keeps | refine Keeps.fields ?_ rfl (Nat.le_refl _) (Nat.le_refl _)

theorem State.clearEnd_keeps (h : Keeps s t) : Keeps s (State.clearEnd t) := by
  unfold State.clearEnd
  with_reducible repeat'
    first
    | assumption | intro _ | apply State.reportModel_keeps | apply State.setStage_keeps | apply Keeps.ite
    | refine Keeps.fields ?_ rfl (Nat.le_refl _) (Nat.le_refl _)

theorem State.holdCfgWrite_keeps (h : Keeps s t) (x0 x1 x2) : Keeps s (State.holdCfgWrite x0 x1 x2 t) := by
  unfold State.holdCfgWrite
  with_reducible repeat'
    first
    | assumption | intro _ | apply State.offerEval_keeps | apply State.plainWrite_keeps | apply State.slewEval_keeps
    | apply State.when_keeps | refine Keeps.fields ?_ rfl (Nat.le_refl _) (Nat.le_refl _)

theorem State.holdSensWrite_keeps (h : Keeps s t) (x0 x1 x2) : Keeps s (State.holdSensWrite x0 x1 x2 t) := by
  unfold State.holdSensWrite
  with_reducible repeat'
    first
    | assumption | apply State.slewEval_keeps | apply State.plainWrite_keeps

theorem State.holdTickLoop_keeps (h : Keeps s t) (x0) : Keeps s (State.holdTickLoop x0 t) := by
  unfold State.holdTickLoop
  with_reducible repeat'
    first
    | assumption | intro _ | apply State.setHoldLoop_keeps | apply State.setBase_keeps | apply State.reportBound_keeps
    | apply Keeps.ite | refine Keeps.fields ?_ rfl (Nat.le_refl _) (Nat.le_refl _)

theorem State.holdTick_keeps (h : Keeps s t) : Keeps s (State.holdTick t) := by
  unfold State.holdTick
  with_reducible repeat'
    first
    | assumption | intro _ | apply State.slewEval_keeps | apply State.holdTickLoop_keeps | apply State.each_keeps
    | apply Keeps.ite | refine Keeps.fields ?_ rfl (Nat.le_refl _) (Nat.le_refl _)

theorem State.expire_keeps (h : Keeps s t) (x0) : Keeps s (State.expire x0 t) := by
  unfold State.expire
  with_reducible repeat'
    first
    | assumption | intro _ | apply State.setHoldLoop_keeps | apply State.raise_keeps | apply State.setLoopState_keeps
    | apply State.queueEvent_keeps | apply Keeps.ite | refine Keeps.fields ?_ rfl (Nat.le_refl _) (Nat.le_refl _)

/-! ### Loops.lean -/

theorem State.filter_keeps (h : Keeps s t) (x0 x1) : Keeps s (State.filter x0 x1 t) := by
  unfold State.filter
  with_reducible repeat'
    first
    | assumption | intro _ | apply State.setB_keeps | apply State.setY_keeps | apply State.setLoop_keeps
    | apply Keeps.ite | split | refine Keeps.fields ?_ rfl (Nat.le_refl _) (Nat.le_refl _)

theorem State.loopStep_keeps (h : Keeps s t) (x0 x1) : Keeps s (State.loopStep x0 x1 t) := by
  unfold State.loopStep
  with_reducible repeat'
    first
    | assumption | intro _ | apply State.stepC_keeps | apply State.setLoop_keeps | apply State.requestStep_keeps
    | apply State.setB_keeps | apply State.learnBreak_keeps | apply State.count_keeps | apply State.raise_keeps
    | apply State.each_keeps | apply Keeps.ite | apply Keeps.foldl | apply Keeps.foldl_fst
    | refine Keeps.fields ?_ rfl (Nat.le_refl _) (Nat.le_refl _)

theorem State.lockEval_keeps (h : Keeps s t) (x0 x1) : Keeps s (State.lockEval x0 x1 t) := by
  unfold State.lockEval
  with_reducible repeat'
    first
    | assumption | intro _ | apply State.setLoop_keeps | apply State.setLoopState_keeps | apply State.count_keeps
    | apply State.raise_keeps | apply Keeps.ite | split | refine Keeps.fields ?_ rfl (Nat.le_refl _) (Nat.le_refl _)

theorem State.loopUpdate_keeps (h : Keeps s t) (x0) : Keeps s (State.loopUpdate x0 t) := by
  unfold State.loopUpdate
  with_reducible repeat'
    first
    | assumption | intro _ | apply State.setLoop_keeps | apply State.gainEval_keeps | apply State.flywheel_keeps
    | apply State.setWide_keeps | apply State.set_keeps | apply State.loopStep_keeps | apply State.lockEval_keeps
    | apply State.learnUpdate_keeps | apply State.filter_keeps | apply Keeps.ite
    | refine Keeps.fields ?_ rfl (Nat.le_refl _) (Nat.le_refl _)

theorem State.loopStepDone_keeps (h : Keeps s t) (x0) : Keeps s (State.loopStepDone x0 t) := by
  unfold State.loopStepDone
  with_reducible repeat'
    first
    | assumption | intro _ | apply State.set_keeps | apply State.when_keeps

theorem State.sourceLost_keeps (h : Keeps s t) (x0) : Keeps s (State.sourceLost x0 t) := by
  unfold State.sourceLost
  with_reducible repeat'
    first
    | assumption | intro _ | apply State.loseSource_keeps | apply Keeps.ite

theorem State.loopStart_keeps (h : Keeps s t) (x0) : Keeps s (State.loopStart x0 t) := by
  unfold State.loopStart
  with_reducible repeat'
    first
    | assumption | intro _ | apply State.setLoop_keeps | apply State.wr_keeps | apply State.setHoldLoop_keeps
    | apply State.setSel_keeps | apply State.showActive_keeps | apply State.set_keeps | apply State.acquire_keeps
    | apply State.preset_keeps | apply State.firstSelect_keeps | apply State.selEval_keeps
    | apply State.setLoopState_keeps | apply State.offerEval_keeps | apply Keeps.ite | split
    | refine Keeps.fields ?_ rfl (Nat.le_refl _) (Nat.le_refl _)

theorem State.loopStop_keeps (h : Keeps s t) (x0) : Keeps s (State.loopStop x0 t) := by
  unfold State.loopStop
  with_reducible repeat'
    first
    | assumption | intro _ | apply State.setLoopState_keeps | apply State.rampStop_keeps | apply State.setLoop_keeps
    | apply State.set_keeps | apply State.dropSteps_keeps | apply State.outEvalAll_keeps | apply State.when_keeps
    | apply State.each_keeps | refine Keeps.fields ?_ rfl (Nat.le_refl _) (Nat.le_refl _)

theorem State.selIdle_keeps (h : Keeps s t) (x0) : Keeps s (State.selIdle x0 t) := by
  unfold State.selIdle
  with_reducible repeat'
    first
    | assumption | intro _ | apply State.setSel_keeps | apply State.showActive_keeps | apply State.set_keeps
    | apply Keeps.ite | refine Keeps.fields ?_ rfl (Nat.le_refl _) (Nat.le_refl _)

theorem State.loopCfgTaken_keeps (h : Keeps s t) (x0 x1 x2 x3) : Keeps s (State.loopCfgTaken x0 x1 x2 x3 t) := by
  unfold State.loopCfgTaken
  with_reducible repeat'
    first
    | assumption | intro _ | apply State.refuseWrite_keeps | apply State.setLoop_keeps | apply State.plainWrite_keeps
    | apply State.set_keeps | apply State.feedStart_keeps | apply State.loopStart_keeps | apply State.raise_keeps
    | apply State.loopStop_keeps | apply State.selIdle_keeps | apply State.outEvalAll_keeps | apply State.when_keeps
    | apply Keeps.ite | refine Keeps.fields ?_ rfl (Nat.le_refl _) (Nat.le_refl _)

theorem State.loopCfgWrite_keeps (h : Keeps s t) (x0 x1 x2 x3) : Keeps s (State.loopCfgWrite x0 x1 x2 x3 t) := by
  unfold State.loopCfgWrite
  with_reducible repeat'
    first
    | assumption | intro _ | apply State.refuseWrite_keeps | apply State.loopCfgTaken_keeps | apply Keeps.ite

theorem State.forceWrite_keeps (h : Keeps s t) (x0 x1 x2 x3) : Keeps s (State.forceWrite x0 x1 x2 x3 t) := by
  unfold State.forceWrite
  with_reducible repeat'
    first
    | assumption | intro _ | apply State.plainWrite_keeps | apply State.forceLoop_keeps | apply State.acquire_keeps
    | apply State.firstSelect_keeps | apply State.selEval_keeps | apply State.startChange_keeps
    | apply State.when_keeps | apply Keeps.ite | split

theorem State.gperWrite_keeps (h : Keeps s t) (x0 x1 x2 x3) : Keeps s (State.gperWrite x0 x1 x2 x3 t) := by
  unfold State.gperWrite
  with_reducible repeat'
    first
    | assumption | intro _ | apply State.refuseWrite_keeps | apply State.plainWrite_keeps | apply Keeps.ite

theorem State.lockWrite_keeps (h : Keeps s t) (x0 x1 x2 x3) : Keeps s (State.lockWrite x0 x1 x2 x3 t) := by
  unfold State.lockWrite
  with_reducible repeat'
    first
    | assumption | intro _ | apply State.plainWrite_keeps | apply State.badRange_keeps | apply Keeps.ite

theorem State.rampBegin_keeps (h : Keeps s t) (x0 x1) : Keeps s (State.rampBegin x0 x1 t) := by
  unfold State.rampBegin
  with_reducible repeat'
    first
    | assumption | intro _ | apply State.refuseWrite_keeps | apply State.raise_keeps | apply State.setLoop_keeps
    | apply State.learnBreak_keeps | apply State.set_keeps | apply Keeps.ite
    | refine Keeps.fields ?_ rfl (Nat.le_refl _) (Nat.le_refl _)

theorem State.rampWrite_keeps (h : Keeps s t) (x0 x1 x2 x3) : Keeps s (State.rampWrite x0 x1 x2 x3 t) := by
  unfold State.rampWrite
  with_reducible repeat'
    first
    | assumption | intro _ | apply State.plainWrite_keeps | apply State.set_keeps | apply State.rampStop_keeps
    | apply State.rampBegin_keeps | apply State.when_keeps

theorem State.rampReached_keeps (h : Keeps s t) (x0) : Keeps s (State.rampReached x0 t) := by
  unfold State.rampReached
  with_reducible repeat'
    first
    | assumption | intro _ | apply State.rampFinish_keeps | apply State.setBase_keeps | apply Keeps.ite

theorem State.leadWrite_keeps (h : Keeps s t) (x0 x1 x2) : Keeps s (State.leadWrite x0 x1 x2 t) := by
  unfold State.leadWrite
  with_reducible repeat'
    first
    | assumption | intro _ | apply State.refuseWrite_keeps | apply State.modeFollow_keeps | apply State.set_keeps
    | apply State.plainWrite_keeps | apply Keeps.ite

theorem execLoopUpdate_keeps {x0} {s t : State} (e : execLoopUpdate x0 s = .next t) : Keeps s t := by
  unfold execLoopUpdate at e
  injection e with e; subst e
  have h := Keeps.refl s
  with_reducible repeat'
    first
    | assumption | intro _ | apply State.loopUpdate_keeps | apply State.when_keeps

theorem execLoopStepComplete_keeps {x0} {s t : State} (e : execLoopStepComplete x0 s = .next t) : Keeps s t := by
  unfold execLoopStepComplete at e
  injection e with e; subst e
  have h := Keeps.refl s
  with_reducible repeat'
    first
    | assumption | intro _ | apply State.loopStepDone_keeps | apply State.when_keeps

theorem execSourceLost_keeps {x0} {s t : State} (e : execSourceLost x0 s = .next t) : Keeps s t := by
  unfold execSourceLost at e
  injection e with e; subst e
  have h := Keeps.refl s
  with_reducible repeat'
    first
    | assumption | intro _ | apply State.sourceLost_keeps | apply State.when_keeps

theorem execLoopEnableWrite_keeps {x0 x1 x2} {s t : State} (e : execLoopEnableWrite x0 x1 x2 s = .next t) : Keeps s t := by
  unfold execLoopEnableWrite at e
  injection e with e; subst e
  have h := Keeps.refl s
  with_reducible repeat'
    first
    | assumption | intro _ | apply State.access_keeps | apply State.loopCfgWrite_keeps | apply State.when_keeps

theorem execForceWrite_keeps {x0 x1 x2} {s t : State} (e : execForceWrite x0 x1 x2 s = .next t) : Keeps s t := by
  unfold execForceWrite at e
  injection e with e; subst e
  have h := Keeps.refl s
  with_reducible repeat'
    first
    | assumption | intro _ | apply State.access_keeps | apply State.forceWrite_keeps | apply State.when_keeps

theorem execRampStart_keeps {x0 x1 x2} {s t : State} (e : execRampStart x0 x1 x2 s = .next t) : Keeps s t := by
  unfold execRampStart at e
  injection e with e; subst e
  have h := Keeps.refl s
  with_reducible repeat'
    first
    | assumption | intro _ | apply State.access_keeps | apply State.rampWrite_keeps | apply State.when_keeps

theorem execRampAbort_keeps {x0 x1 x2} {s t : State} (e : execRampAbort x0 x1 x2 s = .next t) : Keeps s t := by
  unfold execRampAbort at e
  injection e with e; subst e
  have h := Keeps.refl s
  with_reducible repeat'
    first
    | assumption | intro _ | apply State.access_keeps | apply State.rampWrite_keeps | apply State.when_keeps

theorem execRampDone_keeps {x0} {s t : State} (e : execRampDone x0 s = .next t) : Keeps s t := by
  unfold execRampDone at e
  injection e with e; subst e
  have h := Keeps.refl s
  with_reducible repeat'
    first
    | assumption | intro _ | apply State.rampReached_keeps | apply State.when_keeps

theorem execLeadLoopWrite_keeps {x0 x1} {s t : State} (e : execLeadLoopWrite x0 x1 s = .next t) : Keeps s t := by
  unfold execLeadLoopWrite at e
  injection e with e; subst e
  have h := Keeps.refl s
  with_reducible repeat'
    first
    | assumption | intro _ | apply State.access_keeps | apply State.leadWrite_keeps | apply State.when_keeps
    | apply State.each_keeps | apply Keeps.ite | apply Keeps.foldl | apply Keeps.foldl_fst | split
    | refine Keeps.fields ?_ rfl (Nat.le_refl _) (Nat.le_refl _)

end Sys2Proof.Machine
end

