-- ==== Sys2Proof/Laws/KeepsFabric.lean ====
section
/-! SUPPORT. Every operation keeps what `Keeps` says: forwarding, PTP, coupling, gauges, mirror, buffers, schedules, ports. -/

namespace Sys2Proof.Machine

variable {s t : State}

/-! ### FwdOps.lean -/

theorem State.setVlan_keeps (h : Keeps s t) (x0 x1) : Keeps s (State.setVlan x0 x1 t) := by
  unfold State.setVlan
  with_reducible repeat'
    first
    | assumption | refine Keeps.fields ?_ rfl (Nat.le_refl _) (Nat.le_refl _)

theorem State.setRule_keeps (h : Keeps s t) (x0 x1) : Keeps s (State.setRule x0 x1 t) := by
  unfold State.setRule
  with_reducible repeat'
    first
    | assumption | refine Keeps.fields ?_ rfl (Nat.le_refl _) (Nat.le_refl _)

theorem State.setMac_keeps (h : Keeps s t) (x0 x1) : Keeps s (State.setMac x0 x1 t) := by
  unfold State.setMac
  with_reducible repeat'
    first
    | assumption | refine Keeps.fields ?_ rfl (Nat.le_refl _) (Nat.le_refl _)

theorem State.addMac_keeps (h : Keeps s t) {e u} (hu : State.addMac e t = some u) : Keeps s u := by
  unfold State.addMac at hu
  obtain ⟨ix, -, rfl⟩ := Option.map_eq_some_iff.mp hu
  exact State.useFree_keeps (State.setMac_keeps h _ _)

theorem State.flushMac_keeps (h : Keeps s t) (x0) : Keeps s (State.flushMac x0 t) := by
  unfold State.flushMac
  with_reducible repeat'
    first
    | assumption | intro _ | split | refine Keeps.fields ?_ rfl (Nat.le_refl _) (Nat.le_refl _)

theorem State.learn_keeps (h : Keeps s t) (i mac vid) : Keeps s (State.learn i mac vid t) := by
  unfold State.learn
  split
  · split
    · exact h
    · exact State.when_keeps (fun _ h => State.count_keeps h _) (State.setMac_keeps h _ _) _
  · split
    · next hu => exact State.addMac_keeps h hu
    · exact State.count_keeps h _

theorem State.pipeline_keeps (h : Keeps s t) (x0) : Keeps s (State.pipeline x0 t).1 := by
  unfold State.pipeline
  with_reducible repeat'
    first
    | assumption | intro _ | apply State.count_keeps | apply State.learn_keeps | apply State.when_keeps
    | apply Keeps.ite | apply Keeps.ite_fst | split | refine Keeps.fields ?_ rfl (Nat.le_refl _) (Nat.le_refl _)

theorem State.ageSweep_keeps (h : Keeps s t) : Keeps s (State.ageSweep t) := by
  unfold State.ageSweep
  with_reducible repeat'
    first
    | assumption | intro _ | apply Keeps.ite | apply Keeps.ite_fst | split
    | refine Keeps.fields ?_ rfl (Nat.le_refl _) (Nat.le_refl _)

theorem State.setTblData_keeps (h : Keeps s t) (x0) : Keeps s (State.setTblData x0 t) := by
  unfold State.setTblData
  with_reducible repeat'
    first
    | assumption | intro _ | apply State.wr_keeps | apply Keeps.foldl | apply Keeps.foldl_fst

theorem State.tblStatus_keeps (h : Keeps s t) (x0) : Keeps s (State.tblStatus x0 t) := by
  unfold State.tblStatus
  with_reducible repeat'
    first
    | assumption | apply State.set_keeps

theorem State.tblRead_keeps (h : Keeps s t) (x0 x1) : Keeps s (State.tblRead x0 x1 t) := by
  unfold State.tblRead
  with_reducible repeat'
    first
    | assumption | intro _ | apply State.tblStatus_keeps | apply State.setTblData_keeps | apply Keeps.ite

theorem State.tblWrite_keeps (h : Keeps s t) (x0 x1) : Keeps s (State.tblWrite x0 x1 t) := by
  unfold State.tblWrite
  with_reducible repeat'
    first
    | assumption | intro _ | apply State.tblStatus_keeps | apply State.setVlan_keeps | apply State.setRule_keeps
    | apply Keeps.ite

theorem State.placeMac_keeps (h : Keeps s t) (e v) : Keeps s (State.placeMac e v t).1 := by
  unfold State.placeMac
  split
  · exact h
  · split
    · exact State.setMac_keeps h _ _
    · exact State.setMac_keeps h _ _
    · exact h
    · split
      · next hu => exact State.addMac_keeps h hu
      · exact h

theorem State.tblInsert_keeps (h : Keeps s t) (x0) : Keeps s (State.tblInsert x0 t) := by
  unfold State.tblInsert
  with_reducible repeat'
    first
    | assumption | intro _ | apply State.tblStatus_keeps | apply State.placeMac_keeps | apply Keeps.ite
    | apply Keeps.ite_fst | split

theorem State.tblDelete_keeps (h : Keeps s t) (x0 x1) : Keeps s (State.tblDelete x0 x1 t) := by
  unfold State.tblDelete
  with_reducible repeat'
    first
    | assumption | intro _ | apply State.tblStatus_keeps | apply State.setVlan_keeps | apply State.setMac_keeps
    | apply State.setRule_keeps | apply Keeps.ite | apply Keeps.ite_fst | split

theorem State.tblLookup_keeps (h : Keeps s t) (x0) : Keeps s (State.tblLookup x0 t) := by
  unfold State.tblLookup
  with_reducible repeat'
    first
    | assumption | intro _ | apply State.tblStatus_keeps | apply State.set_keeps | apply State.setTblData_keeps
    | apply Keeps.ite | apply Keeps.ite_fst | split

theorem State.tblFlush_keeps (h : Keeps s t) (x0 x1) : Keeps s (State.tblFlush x0 x1 t) := by
  unfold State.tblFlush
  with_reducible repeat'
    first
    | assumption | intro _ | apply State.tblStatus_keeps | apply State.flushMac_keeps | apply Keeps.ite

theorem State.tblOp_keeps (h : Keeps s t) : Keeps s (State.tblOp t) := by
  unfold State.tblOp
  with_reducible repeat'
    first
    | assumption | apply State.tblRead_keeps | apply State.tblWrite_keeps | apply State.tblInsert_keeps
    | apply State.tblDelete_keeps | apply State.tblLookup_keeps | apply State.tblFlush_keeps | split

/-! ### PtpFrames.lean -/

theorem State.sessEmit_keeps (h : Keeps s t) (x0 x1 x2 x3 x4) : Keeps s (State.sessEmit x0 x1 x2 x3 x4 t) := by
  unfold State.sessEmit
  with_reducible repeat'
    first
    | assumption | intro _ | apply State.countTx_keeps | apply State.emit_keeps | apply Keeps.ite

/-! ### Ptp.lean -/

theorem State.calPath_keeps (h : Keeps s t) (x0 x1 x2) : Keeps s (State.calPath x0 x1 x2 t) := by
  unfold State.calPath
  with_reducible repeat'
    first
    | assumption | intro _ | apply State.set_keeps | apply Keeps.ite
    | refine Keeps.fields ?_ rfl (Nat.le_refl _) (Nat.le_refl _)

theorem State.calReady_keeps (h : Keeps s t) (x0) : Keeps s (State.calReady x0 t) := by
  unfold State.calReady
  with_reducible repeat'
    first
    | assumption | intro _ | apply State.sessionsEval_keeps | apply State.set_keeps | apply Keeps.ite

theorem State.sessClear_keeps (h : Keeps s t) (x0) : Keeps s (State.sessClear x0 t) := by
  unfold State.sessClear
  with_reducible repeat'
    first
    | assumption | apply State.showMpd_keeps | apply State.setSess_keeps
    | refine Keeps.fields ?_ rfl (Nat.le_refl _) (Nat.le_refl _)

theorem State.sessCfgWrite_keeps (h : Keeps s t) (x0 x1 x2 x3) : Keeps s (State.sessCfgWrite x0 x1 x2 x3 t) := by
  unfold State.sessCfgWrite
  with_reducible repeat'
    first
    | assumption | intro _ | apply State.refuseWrite_keeps | apply State.plainWrite_keeps | apply State.raise_keeps
    | apply State.sessClear_keeps | apply State.wr_keeps | apply State.set_keeps | apply State.setSessState_keeps
    | apply State.when_keeps | apply Keeps.ite

theorem State.esmcCfgWrite_keeps (h : Keeps s t) (x0 x1 x2) : Keeps s (State.esmcCfgWrite x0 x1 x2 t) := by
  unfold State.esmcCfgWrite
  with_reducible repeat'
    first
    | assumption | intro _ | apply State.plainWrite_keeps | apply State.badRange_keeps | apply State.when_keeps
    | apply Keeps.ite

theorem State.ptpSend_keeps (h : Keeps s t) (x0 x1 x2 x3 x4 x5 x6) : Keeps s (State.ptpSend x0 x1 x2 x3 x4 x5 x6 t) := by
  unfold State.ptpSend
  with_reducible repeat'
    first
    | assumption | intro _ | apply State.sessEmit_keeps | apply Keeps.ite

theorem State.sendSync_keeps (h : Keeps s t) (x0) : Keeps s (State.sendSync x0 t) := by
  unfold State.sendSync
  with_reducible repeat'
    first
    | assumption | intro _ | apply State.setSess_keeps | apply State.ptpSend_keeps | apply Keeps.ite
    | refine Keeps.fields ?_ rfl (Nat.le_refl _) (Nat.le_refl _)

theorem State.sendReq_keeps (h : Keeps s t) (x0) : Keeps s (State.sendReq x0 t) := by
  unfold State.sendReq
  with_reducible repeat'
    first
    | assumption | intro _ | apply State.setSess_keeps | apply State.ptpSend_keeps | apply Keeps.ite
    | refine Keeps.fields ?_ rfl (Nat.le_refl _) (Nat.le_refl _)

theorem State.hearSync_keeps (h : Keeps s t) (x0 x1) : Keeps s (State.hearSync x0 x1 t) := by
  unfold State.hearSync
  with_reducible repeat'
    first
    | assumption | intro _ | apply State.sessSync_keeps | apply State.sessDiscard_keeps | apply State.setSess_keeps
    | apply State.when_keeps | apply Keeps.ite | split | refine Keeps.fields ?_ rfl (Nat.le_refl _) (Nat.le_refl _)

theorem State.hearDelayReq_keeps (h : Keeps s t) (x0 x1) : Keeps s (State.hearDelayReq x0 x1 t) := by
  unfold State.hearDelayReq
  with_reducible repeat'
    first
    | assumption | intro _ | apply State.ptpSend_keeps | apply Keeps.ite | split

theorem State.hearDelayResp_keeps (h : Keeps s t) (x0 x1) : Keeps s (State.hearDelayResp x0 x1 t) := by
  unfold State.hearDelayResp
  with_reducible repeat'
    first
    | assumption | intro _ | apply State.setSess_keeps | apply State.sessDiscard_keeps
    | apply State.sessExchange_keeps | apply Keeps.ite | apply Keeps.ite_fst | split
    | refine Keeps.fields ?_ rfl (Nat.le_refl _) (Nat.le_refl _)

theorem State.hearPdelayReq_keeps (h : Keeps s t) (x0 x1) : Keeps s (State.hearPdelayReq x0 x1 t) := by
  unfold State.hearPdelayReq
  with_reducible repeat'
    first
    | assumption | intro _ | apply State.ptpSend_keeps | apply Keeps.ite | split

theorem State.hearPdelayResp_keeps (h : Keeps s t) (x0 x1) : Keeps s (State.hearPdelayResp x0 x1 t) := by
  unfold State.hearPdelayResp
  with_reducible repeat'
    first
    | assumption | intro _ | apply State.setSess_keeps | apply State.sessExchange_keeps | apply Keeps.ite
    | apply Keeps.ite_fst | split | refine Keeps.fields ?_ rfl (Nat.le_refl _) (Nat.le_refl _)

theorem State.respLate_keeps (h : Keeps s t) (x0) : Keeps s (State.respLate x0 t) := by
  unfold State.respLate
  with_reducible repeat'
    first
    | assumption | intro _ | apply State.sessDiscard_keeps | apply State.setSess_keeps | apply Keeps.ite
    | apply Keeps.ite_fst | split | refine Keeps.fields ?_ rfl (Nat.le_refl _) (Nat.le_refl _)

theorem State.sessLate_keeps (h : Keeps s t) (x0) : Keeps s (State.sessLate x0 t) := by
  unfold State.sessLate
  with_reducible repeat'
    first
    | assumption | intro _ | apply State.setSessState_keeps | apply State.count_keeps | apply State.raise_keeps
    | apply Keeps.ite

theorem State.txtsRead_keeps (h : Keeps s t) (x0) : Keeps s (State.txtsRead x0 t).1 := by
  unfold State.txtsRead
  with_reducible repeat'
    first
    | assumption | apply State.set_keeps | apply State.setShadow_keeps | split
    | refine Keeps.fields ?_ rfl (Nat.le_refl _) (Nat.le_refl _)

theorem State.esmcHear_keeps (h : Keeps s t) (x0 x1 x2) : Keeps s (State.esmcHear x0 x1 x2 t) := by
  unfold State.esmcHear
  with_reducible repeat'
    first
    | assumption | intro _ | apply State.setQl_keeps | apply State.set_keeps | apply Keeps.ite

theorem State.esmcLate_keeps (h : Keeps s t) (x0) : Keeps s (State.esmcLate x0 t) := by
  unfold State.esmcLate
  with_reducible repeat'
    first
    | assumption | intro _ | apply State.setQl_keeps | apply State.set_keeps | apply Keeps.ite

theorem State.esmcInfo_keeps (h : Keeps s t) : Keeps s (State.esmcInfo t) := by
  unfold State.esmcInfo
  with_reducible repeat'
    first
    | assumption | intro _ | apply State.esmcSend_keeps | apply State.each_keeps

theorem State.esmcEvent_keeps (h : Keeps s t) : Keeps s (State.esmcEvent t) := by
  unfold State.esmcEvent
  with_reducible repeat'
    first
    | assumption | intro _ | apply State.esmcSend_keeps | apply State.each_keeps

theorem execLaneCalibrationPath_keeps {x0 x1 x2} {s t : State} (e : execLaneCalibrationPath x0 x1 x2 s = .next t) : Keeps s t := by
  unfold execLaneCalibrationPath at e
  injection e with e; subst e
  have h := Keeps.refl s
  with_reducible repeat'
    first
    | assumption | intro _ | apply State.calPath_keeps | apply State.when_keeps

theorem execCalOkSet_keeps {x0} {s t : State} (e : execCalOkSet x0 s = .next t) : Keeps s t := by
  unfold execCalOkSet at e
  injection e with e; subst e
  have h := Keeps.refl s
  with_reducible repeat'
    first
    | assumption | intro _ | apply State.calReady_keeps | apply State.when_keeps

theorem execSessionEnableWrite_keeps {x0 x1 x2} {s t : State} (e : execSessionEnableWrite x0 x1 x2 s = .next t) : Keeps s t := by
  unfold execSessionEnableWrite at e
  injection e with e; subst e
  have h := Keeps.refl s
  with_reducible repeat'
    first
    | assumption | intro _ | apply State.access_keeps | apply State.sessCfgWrite_keeps | apply State.when_keeps

theorem execRebind_keeps {x0 x1 x2} {s t : State} (e : execRebind x0 x1 x2 s = .next t) : Keeps s t := by
  unfold execRebind at e
  injection e with e; subst e
  have h := Keeps.refl s
  with_reducible repeat'
    first
    | assumption | intro _ | apply State.access_keeps | apply State.sessCfgWrite_keeps | apply State.when_keeps

theorem execSyncTransmit_keeps {x0} {s t : State} (e : execSyncTransmit x0 s = .next t) : Keeps s t := by
  unfold execSyncTransmit at e
  injection e with e; subst e
  have h := Keeps.refl s
  with_reducible repeat'
    first
    | assumption | intro _ | apply State.sendSync_keeps | apply State.when_keeps

theorem execDelayReqTransmit_keeps {x0} {s t : State} (e : execDelayReqTransmit x0 s = .next t) : Keeps s t := by
  unfold execDelayReqTransmit at e
  injection e with e; subst e
  have h := Keeps.refl s
  with_reducible repeat'
    first
    | assumption | intro _ | apply State.sendReq_keeps | apply State.when_keeps

theorem execSyncReceive_keeps {x0 x1} {s t : State} (e : execSyncReceive x0 x1 s = .next t) : Keeps s t := by
  unfold execSyncReceive at e
  injection e with e; subst e
  have h := Keeps.refl s
  with_reducible repeat'
    first
    | assumption | intro _ | apply State.hearSync_keeps | apply State.when_keeps

theorem execDelayReqReceive_keeps {x0 x1} {s t : State} (e : execDelayReqReceive x0 x1 s = .next t) : Keeps s t := by
  unfold execDelayReqReceive at e
  injection e with e; subst e
  have h := Keeps.refl s
  with_reducible repeat'
    first
    | assumption | intro _ | apply State.hearDelayReq_keeps | apply State.when_keeps

theorem execDelayRespReceive_keeps {x0 x1} {s t : State} (e : execDelayRespReceive x0 x1 s = .next t) : Keeps s t := by
  unfold execDelayRespReceive at e
  injection e with e; subst e
  have h := Keeps.refl s
  with_reducible repeat'
    first
    | assumption | intro _ | apply State.hearDelayResp_keeps | apply State.when_keeps

theorem execPdelayReqReceive_keeps {x0 x1} {s t : State} (e : execPdelayReqReceive x0 x1 s = .next t) : Keeps s t := by
  unfold execPdelayReqReceive at e
  injection e with e; subst e
  have h := Keeps.refl s
  with_reducible repeat'
    first
    | assumption | intro _ | apply State.hearPdelayReq_keeps | apply State.when_keeps

theorem execPdelayRespReceive_keeps {x0 x1} {s t : State} (e : execPdelayRespReceive x0 x1 s = .next t) : Keeps s t := by
  unfold execPdelayRespReceive at e
  injection e with e; subst e
  have h := Keeps.refl s
  with_reducible repeat'
    first
    | assumption | intro _ | apply State.hearPdelayResp_keeps | apply State.when_keeps

theorem execDelayRespTimeout_keeps {x0} {s t : State} (e : execDelayRespTimeout x0 s = .next t) : Keeps s t := by
  unfold execDelayRespTimeout at e
  injection e with e; subst e
  have h := Keeps.refl s
  with_reducible repeat'
    first
    | assumption | intro _ | apply State.respLate_keeps | apply State.when_keeps

theorem execSyncTimeout_keeps {x0} {s t : State} (e : execSyncTimeout x0 s = .next t) : Keeps s t := by
  unfold execSyncTimeout at e
  injection e with e; subst e
  have h := Keeps.refl s
  with_reducible repeat'
    first
    | assumption | intro _ | apply State.sessLate_keeps | apply State.when_keeps

theorem execTxtsPop_keeps {x0} {s t : State} (e : execTxtsPop x0 s = .next t) : Keeps s t := by
  unfold execTxtsPop at e
  injection e with e; subst e
  have h := Keeps.refl s
  with_reducible repeat'
    first
    | assumption | intro _ | apply State.readAccess_keeps | apply State.txtsRead_keeps

theorem execEsmcPduReceive_keeps {x0 x1 x2} {s t : State} (e : execEsmcPduReceive x0 x1 x2 s = .next t) : Keeps s t := by
  unfold execEsmcPduReceive at e
  injection e with e; subst e
  have h := Keeps.refl s
  with_reducible repeat'
    first
    | assumption | intro _ | apply State.esmcHear_keeps | apply State.when_keeps

theorem execEsmcTimeout_keeps {x0} {s t : State} (e : execEsmcTimeout x0 s = .next t) : Keeps s t := by
  unfold execEsmcTimeout at e
  injection e with e; subst e
  have h := Keeps.refl s
  with_reducible repeat'
    first
    | assumption | intro _ | apply State.esmcLate_keeps | apply State.when_keeps

theorem execEsmcInfoTransmit_keeps {s t : State} (e : execEsmcInfoTransmit s = .next t) : Keeps s t := by
  unfold execEsmcInfoTransmit at e
  injection e with e; subst e
  have h := Keeps.refl s
  with_reducible repeat'
    first
    | assumption | apply State.esmcInfo_keeps

theorem execEsmcEventTransmit_keeps {s t : State} (e : execEsmcEventTransmit s = .next t) : Keeps s t := by
  unfold execEsmcEventTransmit at e
  injection e with e; subst e
  have h := Keeps.refl s
  with_reducible repeat'
    first
    | assumption | apply State.esmcEvent_keeps

/-! ### Bmca.lean -/

theorem State.announceHear_keeps (h : Keeps s t) (x0 x1 x2) : Keeps s (State.announceHear x0 x1 x2 t) := by
  unfold State.announceHear
  with_reducible repeat'
    first
    | assumption | intro _ | apply State.setSess_keeps | split
    | refine Keeps.fields ?_ rfl (Nat.le_refl _) (Nat.le_refl _)

theorem State.applyRole_keeps (h : Keeps s t) (x0 x1 x2) : Keeps s (State.applyRole x0 x1 x2 t) := by
  unfold State.applyRole
  with_reducible repeat'
    first
    | assumption | intro _ | apply State.setSess_keeps | apply State.access_keeps | apply State.sessCfgWrite_keeps
    | apply Keeps.ite | split | refine Keeps.fields ?_ rfl (Nat.le_refl _) (Nat.le_refl _)

theorem State.bmcaRun_keeps (h : Keeps s t) (x0 x1) : Keeps s (State.bmcaRun x0 x1 t) := by
  unfold State.bmcaRun
  with_reducible repeat'
    first
    | assumption | intro _ | apply State.applyRole_keeps | apply Keeps.foldl | apply Keeps.foldl_fst

theorem State.announceSend_keeps (h : Keeps s t) (x0 x1) : Keeps s (State.announceSend x0 x1 t) := by
  unfold State.announceSend
  with_reducible repeat'
    first
    | assumption | intro _ | apply State.setSess_keeps | apply State.sessEmit_keeps | apply Keeps.ite
    | refine Keeps.fields ?_ rfl (Nat.le_refl _) (Nat.le_refl _)

theorem State.signalSend_keeps (h : Keeps s t) (x0 x1 x2 x3) : Keeps s (State.signalSend x0 x1 x2 x3 t) := by
  unfold State.signalSend
  with_reducible repeat'
    first
    | assumption | apply State.setSess_keeps | apply State.sessEmit_keeps
    | refine Keeps.fields ?_ rfl (Nat.le_refl _) (Nat.le_refl _)

theorem State.signalHear_keeps (h : Keeps s t) (x0 x1 x2) : Keeps s (State.signalHear x0 x1 x2 t) := by
  unfold State.signalHear
  with_reducible repeat'
    first
    | assumption | intro _ | apply State.signalSend_keeps | apply State.setSess_keeps | split
    | refine Keeps.fields ?_ rfl (Nat.le_refl _) (Nat.le_refl _)

theorem State.signalAsk_keeps (h : Keeps s t) (x0) : Keeps s (State.signalAsk x0 t) := by
  unfold State.signalAsk
  with_reducible repeat'
    first
    | assumption | intro _ | apply State.signalSend_keeps | apply State.each_keeps | apply Keeps.ite
    | apply Keeps.ite_fst

theorem State.ptpToA_keeps (h : Keeps s t) (x0 x1) : Keeps s (State.ptpToA x0 x1 t) := by
  unfold State.ptpToA
  with_reducible repeat'
    first
    | assumption | intro _ | apply State.announceHear_keeps | apply State.signalHear_keeps | apply State.each_keeps
    | apply Keeps.ite | split

theorem State.announce_keeps (h : Keeps s t) (x0) : Keeps s (State.announce x0 t) := by
  unfold State.announce
  with_reducible repeat'
    first
    | assumption | intro _ | apply State.bmcaRun_keeps | apply State.announceSend_keeps | apply State.signalAsk_keeps
    | apply State.each_keeps | apply Keeps.ite | split

theorem execAnnounceTransmit_keeps {x0} {s t : State} (e : execAnnounceTransmit x0 s = .next t) : Keeps s t := by
  unfold execAnnounceTransmit at e
  injection e with e; subst e
  have h := Keeps.refl s
  with_reducible repeat'
    first
    | assumption | apply State.announce_keeps

/-! ### Coupling.lean -/

theorem State.cplCfgWrite_keeps (h : Keeps s t) (x0 x1 x2 x3) : Keeps s (State.cplCfgWrite x0 x1 x2 x3 t) := by
  unfold State.cplCfgWrite
  with_reducible repeat'
    first
    | assumption | intro _ | apply State.refuseWrite_keeps | apply State.plainWrite_keeps | apply State.raise_keeps
    | apply State.cplForget_keeps | apply State.wr_keeps | apply State.set_keeps | apply State.setCplState_keeps
    | apply State.when_keeps | apply Keeps.ite

theorem State.cplNodeWrite_keeps (h : Keeps s t) (x0 x1 x2) : Keeps s (State.cplNodeWrite x0 x1 x2 t) := by
  unfold State.cplNodeWrite
  with_reducible repeat'
    first
    | assumption | intro _ | apply State.refuseWrite_keeps | apply State.nodeEval_keeps | apply State.plainWrite_keeps
    | apply State.when_keeps | apply Keeps.ite

theorem State.cplErrWrite_keeps (h : Keeps s t) (x0 x1 x2 x3) : Keeps s (State.cplErrWrite x0 x1 x2 x3 t) := by
  unfold State.cplErrWrite
  with_reducible repeat'
    first
    | assumption | apply State.nodeEval_keeps | apply State.plainWrite_keeps

theorem State.feedWrite_keeps (h : Keeps s t) (x0 x1 x2 x3) : Keeps s (State.feedWrite x0 x1 x2 x3 t) := by
  unfold State.feedWrite
  with_reducible repeat'
    first
    | assumption | intro _ | apply State.plainWrite_keeps | apply State.nodeEval_keeps | apply State.setFeed_keeps
    | apply State.when_keeps | apply Keeps.ite | refine Keeps.fields ?_ rfl (Nat.le_refl _) (Nat.le_refl _)

theorem State.helloHear_keeps (h : Keeps s t) (x0 x1) : Keeps s (State.helloHear x0 x1 t) := by
  unfold State.helloHear
  with_reducible repeat'
    first
    | assumption | intro _ | apply State.count_keeps | apply State.raise_keeps | apply State.set_keeps
    | apply State.setB_keeps | apply State.helloSend_keeps | apply State.nodeEval_keeps
    | apply State.setCplState_keeps | apply State.when_keeps | apply Keeps.ite

theorem State.helloDue_keeps (h : Keeps s t) (x0) : Keeps s (State.helloDue x0 t) := by
  unfold State.helloDue
  with_reducible repeat'
    first
    | assumption | intro _ | apply State.helloSend_keeps | apply State.when_keeps

theorem State.placeWords_keeps (h : Keeps s t) (x0 x1) : Keeps s (State.placeWords x0 x1 t) := by
  unfold State.placeWords
  with_reducible repeat'
    first
    | assumption | intro _ | apply State.setCplPort_keeps | apply State.emit_keeps | apply Keeps.foldl
    | apply Keeps.foldl_fst | refine Keeps.fields ?_ rfl (Nat.le_refl _) (Nat.le_refl _)

theorem State.markerPlace_keeps (h : Keeps s t) (x0) : Keeps s (State.markerPlace x0 t) := by
  unfold State.markerPlace
  with_reducible repeat'
    first
    | assumption | intro _ | apply State.nodeEval_keeps | apply State.setCplPort_keeps | apply State.useFree_keeps
    | apply State.placeWords_keeps | apply Keeps.ite | refine Keeps.fields ?_ rfl (Nat.le_refl _) (Nat.le_refl _)

theorem State.markerFall_keeps (h : Keeps s t) (x0 x1) : Keeps s (State.markerFall x0 x1 t) := by
  unfold State.markerFall
  with_reducible repeat'
    first
    | assumption | intro _ | apply State.setCplPort_keeps | apply State.placeWords_keeps
    | apply State.markerPlace_keeps | apply Keeps.ite | refine Keeps.fields ?_ rfl (Nat.le_refl _) (Nat.le_refl _)

theorem State.markerFree_keeps (h : Keeps s t) (x0 x1) : Keeps s (State.markerFree x0 x1 t) := by
  unfold State.markerFree
  with_reducible repeat'
    first
    | assumption | intro _ | apply State.placeWords_keeps | apply State.markerPlace_keeps | apply State.count_keeps
    | apply State.raise_keeps | apply Keeps.ite | split

theorem State.markerLost_keeps (h : Keeps s t) (x0) : Keeps s (State.markerLost x0 t) := by
  unfold State.markerLost
  with_reducible repeat'
    first
    | assumption | intro _ | apply State.raise_keeps | apply State.setCplPort_keeps | apply Keeps.ite
    | refine Keeps.fields ?_ rfl (Nat.le_refl _) (Nat.le_refl _)

theorem State.deliverOffset_keeps (h : Keeps s t) (x0 x1) : Keeps s (State.deliverOffset x0 x1 t) := by
  unfold State.deliverOffset
  with_reducible repeat'
    first
    | assumption | intro _ | apply State.setFeedBo_keeps | apply State.setFeed_keeps | apply State.takeSample_keeps
    | apply State.each_keeps | apply Keeps.ite | split | refine Keeps.fields ?_ rfl (Nat.le_refl _) (Nat.le_refl _)

theorem State.cplCompute_keeps (h : Keeps s t) (x0 x1 x2 x3 x4) : Keeps s (State.cplCompute x0 x1 x2 x3 x4 t) := by
  unfold State.cplCompute
  with_reducible repeat'
    first
    | assumption | apply State.setCplPort_keeps | apply State.setWide_keeps | apply State.setI_keeps
    | apply State.count_keeps | split | refine Keeps.fields ?_ rfl (Nat.le_refl _) (Nat.le_refl _)

theorem State.cplValid_keeps (h : Keeps s t) (x0 x1 x2) : Keeps s (State.cplValid x0 x1 x2 t) := by
  unfold State.cplValid
  with_reducible repeat'
    first
    | assumption | intro _ | apply State.countBy_keeps | apply State.setCplPort_keeps | apply State.set_keeps
    | apply State.setB_keeps | apply State.nodeEval_keeps | apply State.cplCompute_keeps
    | apply State.setCplState_keeps | apply State.countMod_keeps | apply State.deliverOffset_keeps | apply Keeps.ite
    | split | refine Keeps.fields ?_ rfl (Nat.le_refl _) (Nat.le_refl _)

theorem State.cplHear_keeps (h : Keeps s t) (x0 x1 x2) : Keeps s (State.cplHear x0 x1 x2 t) := by
  unfold State.cplHear
  with_reducible repeat'
    first
    | assumption | intro _ | apply State.setCplPort_keeps | apply State.raise_keeps | apply State.count_keeps
    | apply State.cplValid_keeps | apply Keeps.ite | split
    | refine Keeps.fields ?_ rfl (Nat.le_refl _) (Nat.le_refl _)

theorem State.cplMissed_keeps (h : Keeps s t) (x0) : Keeps s (State.cplMissed x0 t) := by
  unfold State.cplMissed
  with_reducible repeat'
    first
    | assumption | intro _ | apply State.setCplState_keeps | apply State.raise_keeps | apply State.countBy_keeps
    | apply Keeps.ite

theorem State.feedBleedEnd_keeps (h : Keeps s t) (x0) : Keeps s (State.feedBleedEnd x0 t) := by
  unfold State.feedBleedEnd
  with_reducible repeat'
    first
    | assumption | intro _ | apply State.setFeedBo_keeps | apply State.when_keeps

theorem execCplPortEnableWrite_keeps {x0 x1 x2} {s t : State} (e : execCplPortEnableWrite x0 x1 x2 s = .next t) : Keeps s t := by
  unfold execCplPortEnableWrite at e
  injection e with e; subst e
  have h := Keeps.refl s
  with_reducible repeat'
    first
    | assumption | intro _ | apply State.access_keeps | apply State.cplCfgWrite_keeps | apply State.when_keeps

theorem execHelloReceive_keeps {x0 x1} {s t : State} (e : execHelloReceive x0 x1 s = .next t) : Keeps s t := by
  unfold execHelloReceive at e
  injection e with e; subst e
  have h := Keeps.refl s
  with_reducible repeat'
    first
    | assumption | intro _ | apply State.helloHear_keeps | apply State.when_keeps

theorem execHelloTransmit_keeps {x0} {s t : State} (e : execHelloTransmit x0 s = .next t) : Keeps s t := by
  unfold execHelloTransmit at e
  injection e with e; subst e
  have h := Keeps.refl s
  with_reducible repeat'
    first
    | assumption | intro _ | apply State.helloDue_keeps | apply State.when_keeps

theorem execMarkerNotSent_keeps {x0} {s t : State} (e : execMarkerNotSent x0 s = .next t) : Keeps s t := by
  unfold execMarkerNotSent at e
  injection e with e; subst e
  have h := Keeps.refl s
  with_reducible repeat'
    first
    | assumption | intro _ | apply State.markerLost_keeps | apply State.when_keeps

theorem execCouplingMessageReceive_keeps {x0 x1 x2} {s t : State} (e : execCouplingMessageReceive x0 x1 x2 s = .next t) : Keeps s t := by
  unfold execCouplingMessageReceive at e
  injection e with e; subst e
  have h := Keeps.refl s
  with_reducible repeat'
    first
    | assumption | intro _ | apply State.cplHear_keeps | apply State.when_keeps

theorem execMissLimit_keeps {x0} {s t : State} (e : execMissLimit x0 s = .next t) : Keeps s t := by
  unfold execMissLimit at e
  injection e with e; subst e
  have h := Keeps.refl s
  with_reducible repeat'
    first
    | assumption | intro _ | apply State.cplMissed_keeps | apply State.when_keeps

theorem execTransfer_keeps {x0 x1 x2} {s t : State} (e : execTransfer x0 x1 x2 s = .next t) : Keeps s t := by
  unfold execTransfer at e
  injection e with e; subst e
  have h := Keeps.refl s
  with_reducible repeat'
    first
    | assumption | intro _ | apply State.access_keeps | apply State.feedWrite_keeps | apply State.when_keeps

theorem execCplNodeWrite_keeps {x0 x1} {s t : State} (e : execCplNodeWrite x0 x1 s = .next t) : Keeps s t := by
  unfold execCplNodeWrite at e
  injection e with e; subst e
  have h := Keeps.refl s
  with_reducible repeat'
    first
    | assumption | intro _ | apply State.access_keeps | apply State.cplNodeWrite_keeps | apply State.when_keeps
    | apply State.each_keeps | apply Keeps.ite | apply Keeps.foldl | apply Keeps.foldl_fst | split
    | refine Keeps.fields ?_ rfl (Nat.le_refl _) (Nat.le_refl _)

theorem execFeedBleedEnd_keeps {x0} {s t : State} (e : execFeedBleedEnd x0 s = .next t) : Keeps s t := by
  unfold execFeedBleedEnd at e
  injection e with e; subst e
  have h := Keeps.refl s
  with_reducible repeat'
    first
    | assumption | intro _ | apply State.feedBleedEnd_keeps | apply State.when_keeps

/-! ### Gauges.lean -/

theorem State.gaugeLines_keeps (h : Keeps s t) (x0) : Keeps s (State.gaugeLines x0 t) := by
  unfold State.gaugeLines
  with_reducible repeat'
    first
    | assumption | intro _ | apply State.setB_keeps | apply State.refLinesEval_keeps | apply State.phaseEval_keeps
    | apply State.when_keeps

theorem State.statStart_keeps (h : Keeps s t) (x0 x1) : Keeps s (State.statStart x0 x1 t) := by
  unfold State.statStart
  with_reducible repeat'
    first
    | assumption | intro _ | apply State.refuseWrite_keeps | apply State.raise_keeps | apply State.setGauge_keeps
    | apply State.set_keeps | apply State.setWide_keeps | apply Keeps.ite
    | refine Keeps.fields ?_ rfl (Nat.le_refl _) (Nat.le_refl _)

theorem State.statCtrlWrite_keeps (h : Keeps s t) (x0 x1 x2) : Keeps s (State.statCtrlWrite x0 x1 x2 t) := by
  unfold State.statCtrlWrite
  with_reducible repeat'
    first
    | assumption | intro _ | apply State.statEnd_keeps | apply State.statStart_keeps | apply State.when_keeps

theorem State.gaugeCfgWrite_keeps (h : Keeps s t) (x0 x1 x2 x3) : Keeps s (State.gaugeCfgWrite x0 x1 x2 x3 t) := by
  unfold State.gaugeCfgWrite
  with_reducible repeat'
    first
    | assumption | intro _ | apply State.refuseWrite_keeps | apply State.badRange_keeps | apply State.plainWrite_keeps
    | apply State.raise_keeps | apply State.wr_keeps | apply State.gaugeLines_keeps | apply State.gaugeFresh_keeps
    | apply State.set_keeps | apply State.statEnd_keeps | apply State.when_keeps | apply Keeps.ite

theorem execGaugeEnableWrite_keeps {x0 x1 x2} {s t : State} (e : execGaugeEnableWrite x0 x1 x2 s = .next t) : Keeps s t := by
  unfold execGaugeEnableWrite at e
  injection e with e; subst e
  have h := Keeps.refl s
  with_reducible repeat'
    first
    | assumption | intro _ | apply State.access_keeps | apply State.gaugeCfgWrite_keeps | apply State.when_keeps

theorem execStartEdge_keeps {x0 x1 x2} {s t : State} (e : execStartEdge x0 x1 x2 s = .next t) : Keeps s t := by
  unfold execStartEdge at e
  injection e with e; subst e
  have h := Keeps.refl s
  with_reducible repeat'
    first
    | assumption | intro _ | apply State.startEdge_keeps | apply State.when_keeps

theorem execStopEdge_keeps {x0 x1 x2} {s t : State} (e : execStopEdge x0 x1 x2 s = .next t) : Keeps s t := by
  unfold execStopEdge at e
  injection e with e; subst e
  have h := Keeps.refl s
  with_reducible repeat'
    first
    | assumption | intro _ | apply State.stopEdge_keeps | apply State.when_keeps

theorem execConversionComplete_keeps {x0} {s t : State} (e : execConversionComplete x0 s = .next t) : Keeps s t := by
  unfold execConversionComplete at e
  injection e with e; subst e
  have h := Keeps.refl s
  with_reducible repeat'
    first
    | assumption | intro _ | apply State.convDone_keeps | apply State.when_keeps

theorem execTollgateClose_keeps {x0} {s t : State} (e : execTollgateClose x0 s = .next t) : Keeps s t := by
  unfold execTollgateClose at e
  injection e with e; subst e
  have h := Keeps.refl s
  with_reducible repeat'
    first
    | assumption | intro _ | apply State.gateClose_keeps | apply State.when_keeps

theorem execStatStart_keeps {x0 x1 x2} {s t : State} (e : execStatStart x0 x1 x2 s = .next t) : Keeps s t := by
  unfold execStatStart at e
  injection e with e; subst e
  have h := Keeps.refl s
  with_reducible repeat'
    first
    | assumption | intro _ | apply State.access_keeps | apply State.statCtrlWrite_keeps | apply State.when_keeps

theorem execStatAbort_keeps {x0 x1 x2} {s t : State} (e : execStatAbort x0 x1 x2 s = .next t) : Keeps s t := by
  unfold execStatAbort at e
  injection e with e; subst e
  have h := Keeps.refl s
  with_reducible repeat'
    first
    | assumption | intro _ | apply State.access_keeps | apply State.statCtrlWrite_keeps | apply State.when_keeps

/-! ### MirOps.lean -/

theorem State.pktDeliver_keeps (h : Keeps s t) (x0 x1 x2 x3 x4) : Keeps s (State.pktDeliver x0 x1 x2 x3 x4 t) := by
  unfold State.pktDeliver
  with_reducible repeat'
    first
    | assumption | intro _ | apply State.emit_keeps | apply State.raise_keeps | apply State.set_keeps
    | apply Keeps.ite

theorem State.setFifo_keeps (h : Keeps s t) (x0) : Keeps s (State.setFifo x0 t) := by
  unfold State.setFifo
  with_reducible repeat'
    first
    | assumption | apply State.set_keeps | refine Keeps.fields ?_ rfl (Nat.le_refl _) (Nat.le_refl _)

theorem State.mirSampling_keeps (h : Keeps s t) : Keeps s (State.mirSampling t) := by
  unfold State.mirSampling
  with_reducible repeat'
    first
    | assumption | intro _ | apply State.raise_keeps | apply State.set_keeps | apply Keeps.ite
    | refine Keeps.fields ?_ rfl (Nat.le_refl _) (Nat.le_refl _)

theorem State.mirResume_keeps (h : Keeps s t) : Keeps s (State.mirResume t) := by
  unfold State.mirResume
  with_reducible repeat'
    first
    | assumption | intro _ | apply State.raise_keeps | apply State.set_keeps | apply Keeps.ite

theorem State.mirLose_keeps (h : Keeps s t) : Keeps s (State.mirLose t) := by
  unfold State.mirLose
  with_reducible repeat'
    first
    | assumption | apply State.count_keeps | refine Keeps.fields ?_ rfl (Nat.le_refl _) (Nat.le_refl _)

theorem State.mirSend_keeps (h : Keeps s t) (x0) : Keeps s (State.mirSend x0 t) := by
  unfold State.mirSend
  with_reducible repeat'
    first
    | assumption | intro _ | apply State.count_keeps | apply State.pktDeliver_keeps | apply State.emit_keeps
    | apply Keeps.ite | refine Keeps.fields ?_ rfl (Nat.le_refl _) (Nat.le_refl _)

theorem State.mirSample_keeps (h : Keeps s t) (x0) : Keeps s (State.mirSample x0 t) := by
  unfold State.mirSample
  with_reducible repeat'
    first
    | assumption | intro _ | apply State.mirSend_keeps | apply State.mirLose_keeps | apply Keeps.ite
    | refine Keeps.fields ?_ rfl (Nat.le_refl _) (Nat.le_refl _)

theorem State.mirCandidate_keeps (h : Keeps s t) (x0) : Keeps s (State.mirCandidate x0 t) := by
  unfold State.mirCandidate
  with_reducible repeat'
    first
    | assumption | intro _ | apply State.setFifo_keeps | apply State.mirSample_keeps | apply State.mirSampling_keeps
    | apply Keeps.ite | refine Keeps.fields ?_ rfl (Nat.le_refl _) (Nat.le_refl _)

theorem State.mirIngress_keeps (h : Keeps s t) (x0) : Keeps s (State.mirIngress x0 t) := by
  unfold State.mirIngress
  with_reducible repeat'
    first
    | assumption | intro _ | apply State.mirCandidate_keeps | apply Keeps.ite

theorem State.mirEgress_keeps (h : Keeps s t) (x0 x1 x2 x3 x4 x5 x6) : Keeps s (State.mirEgress x0 x1 x2 x3 x4 x5 x6 t) := by
  unfold State.mirEgress
  with_reducible repeat'
    first
    | assumption | intro _ | apply State.mirCandidate_keeps | apply Keeps.ite

theorem State.mirDrain_keeps (h : Keeps s t) : Keeps s (State.mirDrain t) := by
  unfold State.mirDrain
  with_reducible repeat'
    first
    | assumption | intro _ | apply State.mirResume_keeps | apply State.mirSampling_keeps | apply State.emit_keeps
    | apply State.count_keeps | apply State.set_keeps | apply State.setFifo_keeps | apply State.raise_keeps
    | apply State.when_keeps | apply Keeps.ite | split

theorem State.mirHold_keeps (h : Keeps s t) : Keeps s (State.mirHold t) := by
  unfold State.mirHold
  with_reducible repeat'
    first
    | assumption | intro _ | apply State.raise_keeps | apply State.when_keeps

theorem State.mirError_keeps (h : Keeps s t) : Keeps s (State.mirError t) := by
  unfold State.mirError
  with_reducible repeat'
    first
    | assumption | intro _ | apply State.logFault_keeps | apply State.raise_keeps | apply State.set_keeps
    | apply State.setFifo_keeps | apply Keeps.ite

theorem State.mirOff_keeps (h : Keeps s t) : Keeps s (State.mirOff t) := by
  unfold State.mirOff
  with_reducible repeat'
    first
    | assumption | apply State.setFifo_keeps | apply State.countBy_keeps | apply State.set_keeps
    | refine Keeps.fields ?_ rfl (Nat.le_refl _) (Nat.le_refl _)

theorem State.mirStart_keeps (h : Keeps s t) : Keeps s (State.mirStart t) := by
  unfold State.mirStart
  with_reducible repeat'
    first
    | assumption | intro _ | apply State.set_keeps | apply Keeps.ite
    | refine Keeps.fields ?_ rfl (Nat.le_refl _) (Nat.le_refl _)

theorem State.mirThermal_keeps (h : Keeps s t) (x0) : Keeps s (State.mirThermal x0 t) := by
  unfold State.mirThermal
  with_reducible repeat'
    first
    | assumption | intro _ | apply State.setB_keeps | apply State.mirSampling_keeps | apply State.mirResume_keeps
    | apply Keeps.ite

/-! ### BufOps.lean -/

theorem State.setSout_keeps (h : Keeps s t) (x0 x1) : Keeps s (State.setSout x0 x1 t) := by
  unfold State.setSout
  with_reducible repeat'
    first
    | assumption | refine Keeps.fields ?_ rfl (Nat.le_refl _) (Nat.le_refl _)

theorem State.setFrame_keeps (h : Keeps s t) (x0) : Keeps s (State.setFrame x0 t) := by
  unfold State.setFrame
  with_reducible repeat'
    first
    | assumption | intro _ | apply Keeps.ite | refine Keeps.fields ?_ rfl (Nat.le_refl _) (Nat.le_refl _)

theorem State.setCopy_keeps (h : Keeps s t) (x0) : Keeps s (State.setCopy x0 t) := by
  unfold State.setCopy
  with_reducible repeat'
    first
    | assumption | intro _ | apply Keeps.ite | refine Keeps.fields ?_ rfl (Nat.le_refl _) (Nat.le_refl _)

theorem State.showQueue_keeps (h : Keeps s t) (x0 x1 x2) : Keeps s (State.showQueue x0 x1 x2 t) := by
  unfold State.showQueue
  with_reducible repeat'
    first
    | assumption | apply State.set_keeps

theorem State.showVoq_keeps (h : Keeps s t) (x0 x1) : Keeps s (State.showVoq x0 x1 t) := by
  unfold State.showVoq
  with_reducible repeat'
    first
    | assumption | intro _ | apply State.set_keeps

theorem State.showCopy_keeps (h : Keeps s t) (x0) : Keeps s (State.showCopy x0 t) := by
  unfold State.showCopy
  with_reducible repeat'
    first
    | assumption | intro _ | apply State.showVoq_keeps | apply State.showQueue_keeps | apply Keeps.ite

theorem State.pauseSend_keeps (h : Keeps s t) (x0 x1) : Keeps s (State.pauseSend x0 x1 t) := by
  unfold State.pauseSend
  with_reducible repeat'
    first
    | assumption | intro _ | apply State.countPort_keeps | apply State.countTx_keeps | apply State.emit_keeps
    | apply Keeps.ite

theorem State.pauseWant_keeps (h : Keeps s t) (x0 x1) : Keeps s (State.pauseWant x0 x1 t) := by
  unfold State.pauseWant
  with_reducible repeat'
    first
    | assumption | intro _ | apply State.setSout_keeps | apply State.pauseSend_keeps | apply Keeps.ite
    | refine Keeps.fields ?_ rfl (Nat.le_refl _) (Nat.le_refl _)

theorem State.xoffEval_keeps (h : Keeps s t) (x0) : Keeps s (State.xoffEval x0 t) := by
  unfold State.xoffEval
  with_reducible repeat'
    first
    | assumption | intro _ | apply State.pauseWant_keeps | apply State.count_keeps | apply State.set_keeps
    | apply Keeps.ite

theorem State.heldMove_keeps (h : Keeps s t) (x0 x1) : Keeps s (State.heldMove x0 x1 t) := by
  unfold State.heldMove
  with_reducible repeat'
    first
    | assumption | intro _ | apply State.xoffEval_keeps | apply State.setI_keeps | apply Keeps.ite

theorem State.depotMove_keeps (h : Keeps s t) (x0 x1 x2 x3 x4) : Keeps s (State.depotMove x0 x1 x2 x3 x4 t) := by
  unfold State.depotMove
  with_reducible repeat'
    first
    | assumption | apply State.setI_keeps

theorem State.frameGone_keeps (h : Keeps s t) (x0) : Keeps s (State.frameGone x0 t) := by
  unfold State.frameGone
  with_reducible repeat'
    first
    | assumption | intro _ | apply Keeps.ite | split | refine Keeps.fields ?_ rfl (Nat.le_refl _) (Nat.le_refl _)

theorem State.releaseSeq_keeps (h : Keeps s t) (x0) : Keeps s (State.releaseSeq x0 t) := by
  unfold State.releaseSeq
  with_reducible repeat'
    first
    | assumption | intro _ | apply Keeps.ite | split | refine Keeps.fields ?_ rfl (Nat.le_refl _) (Nat.le_refl _)

theorem State.freeCopy_keeps (h : Keeps s t) (x0) : Keeps s (State.freeCopy x0 t) := by
  unfold State.freeCopy
  with_reducible repeat'
    first
    | assumption | intro _ | apply State.releaseSeq_keeps | apply State.set_keeps | apply State.showCopy_keeps
    | apply State.setFrame_keeps | apply State.heldMove_keeps | apply State.depotMove_keeps
    | apply State.frameGone_keeps | apply State.when_keeps | apply Keeps.ite | split
    | refine Keeps.fields ?_ rfl (Nat.le_refl _) (Nat.le_refl _)

theorem State.recharge_keeps (h : Keeps s t) (x0) : Keeps s (State.recharge x0 t) := by
  unfold State.recharge
  with_reducible repeat'
    first
    | assumption | intro _ | apply State.setFrame_keeps | apply State.heldMove_keeps | apply State.depotMove_keeps
    | apply State.showCopy_keeps | apply State.setCopy_keeps | apply Keeps.ite | apply Keeps.foldl
    | apply Keeps.foldl_fst | refine Keeps.fields ?_ rfl (Nat.le_refl _) (Nat.le_refl _)

theorem State.enqueue_keeps (h : Keeps s t) (x0 x1 x2 x3 x4 x5 x6 x7) : Keeps s (State.enqueue x0 x1 x2 x3 x4 x5 x6 x7 t) := by
  unfold State.enqueue
  with_reducible repeat'
    first
    | assumption | intro _ | apply State.showCopy_keeps | apply State.when_keeps | apply Keeps.ite
    | refine Keeps.fields ?_ rfl (Nat.le_refl _) (Nat.le_refl _)

theorem State.refuseCopy_keeps (h : Keeps s t) (x0 x1 x2 x3) : Keeps s (State.refuseCopy x0 x1 x2 x3 t) := by
  unfold State.refuseCopy
  with_reducible repeat'
    first
    | assumption | intro _ | apply State.count_keeps | apply State.when_keeps

theorem State.admitDepot_keeps (h : Keeps s t) (x0 x1 x2 x3 x4) : Keeps s (State.admitDepot x0 x1 x2 x3 x4 t) := by
  unfold State.admitDepot
  with_reducible repeat'
    first
    | assumption | intro _ | apply State.refuseCopy_keeps | apply State.depotMove_keeps | apply State.setFrame_keeps
    | apply State.count_keeps | apply State.set_keeps | apply State.enqueue_keeps | apply State.heldMove_keeps
    | apply State.when_keeps | apply Keeps.ite | split | refine Keeps.fields ?_ rfl (Nat.le_refl _) (Nat.le_refl _)

theorem State.admitOne_keeps (fid n o) {acc : State × List (Nat × Nat × Bool)} (h : Keeps s acc.1) : Keeps s (State.admitOne fid n o acc).1 := by
  obtain ⟨t, l⟩ := acc
  unfold State.admitOne
  dsimp only
  split
  · exact h
  · refine Keeps.ite_fst (fun _ => State.count_keeps h _) (fun _ => ?_)
    refine Keeps.ite_fst (fun _ => h) (fun _ => ?_)
    refine Keeps.ite_fst (fun _ => by with_reducible apply State.enqueue_keeps; exact h) (fun _ => ?_)
    exact Keeps.ite_fst (fun _ => h) (fun _ => State.count_keeps h _)

theorem State.admission_keeps (h : Keeps s t) (x0 x1) : Keeps s (State.admission x0 x1 t) := by
  unfold State.admission
  with_reducible repeat'
    first
    | assumption | intro _ | apply State.setFrame_keeps | apply State.admitOne_keeps | apply State.admitDepot_keeps
    | apply Keeps.ite | apply Keeps.foldl | apply Keeps.foldl_fst | split
    | refine Keeps.fields ?_ rfl (Nat.le_refl _) (Nat.le_refl _)

theorem State.lowerRsv_keeps (h : Keeps s t) (x0 x1) : Keeps s (State.lowerRsv x0 x1 t) := by
  unfold State.lowerRsv
  with_reducible repeat'
    first
    | assumption | intro _ | apply State.setCopy_keeps | apply State.setFrame_keeps | apply State.depotMove_keeps
    | apply Keeps.foldl | apply Keeps.foldl_fst | split | refine Keeps.fields ?_ rfl (Nat.le_refl _) (Nat.le_refl _)

theorem State.setTimer_keeps (h : Keeps s t) (x0 x1) : Keeps s (State.setTimer x0 x1 t) := by
  unfold State.setTimer
  with_reducible repeat'
    first
    | assumption | refine Keeps.fields ?_ rfl (Nat.le_refl _) (Nat.le_refl _)

theorem State.timersGate_keeps (h : Keeps s t) (x0) : Keeps s (State.timersGate x0 t) := by
  unfold State.timersGate
  with_reducible repeat'
    first
    | assumption | intro _ | apply State.setTimer_keeps | apply State.each_keeps | apply Keeps.ite | split

theorem State.flushStart_keeps (h : Keeps s t) (x0) : Keeps s (State.flushStart x0 t) := by
  unfold State.flushStart
  with_reducible repeat'
    first
    | assumption | apply State.setTimer_keeps | apply State.set_keeps

theorem State.sidingDown_keeps (h : Keeps s t) (o low) : Keeps s (State.sidingDown o low t) := by
  have h' := State.set_keeps h (BUF_OUT_STATUS_WD_ACTIVE o) 0
  have h1 := State.flushStart_keeps h' o
  have h2 := State.flushStart_keeps (State.raise_keeps h' (BUF_OUT_EVT_SIDING_START o)) o
  have h3 := State.setTimer_keeps (State.set_keeps (State.raise_keeps h' (BUF_OUT_EVT_SIDING_START o)) (BUF_OUT_STATUS_SIDING o) 1) o
    (some (0, ((t.set (BUF_OUT_STATUS_WD_ACTIVE o) 0).raise (BUF_OUT_EVT_SIDING_START o)).cyc))
  rcases hn : (t.set (BUF_OUT_STATUS_WD_ACTIVE o) 0).siding o with _ | _ | n
  · simp only [State.sidingDown, hn]
    split
    · exact h2
    · exact h3
  · simp only [State.sidingDown, hn]
    split
    · exact h1
    · exact h'
  · simp only [State.sidingDown, hn]
    exact h'

theorem State.sidingUp_keeps (h : Keeps s t) (x0) : Keeps s (State.sidingUp x0 t) := by
  unfold State.sidingUp
  with_reducible repeat'
    first
    | assumption | apply State.raise_keeps | apply State.setTimer_keeps | apply State.set_keeps | split

theorem State.graceEnd_keeps (h : Keeps s t) (x0) : Keeps s (State.graceEnd x0 t) := by
  unfold State.graceEnd
  with_reducible repeat'
    first
    | assumption | intro _ | apply State.flushStart_keeps | apply Keeps.ite

theorem State.graceCheck_keeps (h : Keeps s t) (x0) : Keeps s (State.graceCheck x0 t) := by
  unfold State.graceCheck
  with_reducible repeat'
    first
    | assumption | intro _ | apply State.flushStart_keeps | apply Keeps.ite

theorem State.flushEnd_keeps (h : Keeps s t) (x0) : Keeps s (State.flushEnd x0 t) := by
  unfold State.flushEnd
  with_reducible repeat'
    first
    | assumption | intro _ | apply State.count_keeps | apply State.freeCopy_keeps | apply State.raise_keeps
    | apply State.set_keeps | apply State.flushMac_keeps | apply Keeps.ite | apply Keeps.ite_fst | apply Keeps.foldl
    | apply Keeps.foldl_fst | refine Keeps.fields ?_ rfl (Nat.le_refl _) (Nat.le_refl _)

theorem State.setPaused_keeps (h : Keeps s t) (x0 x1 x2) : Keeps s (State.setPaused x0 x1 x2 t) := by
  unfold State.setPaused
  with_reducible repeat'
    first
    | assumption | apply State.set_keeps

theorem State.watchdog_keeps (h : Keeps s t) (x0 x1) : Keeps s (State.watchdog x0 x1 t) := by
  unfold State.watchdog
  with_reducible repeat'
    first
    | assumption | intro _ | apply State.setPaused_keeps | apply State.set_keeps | apply State.logFault_keeps
    | apply State.count_keeps | apply State.raise_keeps | apply Keeps.ite

/-! ### SchOps.lean -/

theorem State.gateShow_keeps (h : Keeps s t) (x0) : Keeps s (State.gateShow x0 t) := by
  unfold State.gateShow
  with_reducible repeat'
    first
    | assumption | intro _ | apply State.set_keeps | apply Keeps.ite | split

theorem State.placeHead_keeps (h : Keeps s t) (x0 x1) : Keeps s (State.placeHead x0 x1 t) := by
  unfold State.placeHead
  with_reducible repeat'
    first
    | assumption | intro _ | apply State.count_keeps | apply State.setCopy_keeps | apply State.setSout_keeps
    | apply State.when_keeps | refine Keeps.fields ?_ rfl (Nat.le_refl _) (Nat.le_refl _)

theorem State.accepts_keeps (h : Keeps s t) (x0 x1) : Keeps s (State.accepts x0 x1 t) := by
  unfold State.accepts
  with_reducible repeat'
    first
    | assumption | intro _ | apply State.placeHead_keeps | apply Keeps.foldl | apply Keeps.foldl_fst | split
    | refine Keeps.fields ?_ rfl (Nat.le_refl _) (Nat.le_refl _)

theorem State.internalStarts_keeps (h : Keeps s t) : Keeps s (State.internalStarts t) := by
  unfold State.internalStarts
  with_reducible repeat'
    first
    | assumption | intro _ | apply State.placeHead_keeps | apply State.when_keeps | apply Keeps.ite | split
    | refine Keeps.fields ?_ rfl (Nat.le_refl _) (Nat.le_refl _)

theorem State.iterate_keeps (h : Keeps s t) : Keeps s (State.iterate t) := by
  unfold State.iterate
  with_reducible repeat'
    first
    | assumption | intro _ | apply State.accepts_keeps | apply State.internalStarts_keeps | apply State.each_keeps
    | apply Keeps.ite

theorem State.promote_keeps (h : Keeps s t) (x0 x1 x2) : Keeps s (State.promote x0 x1 x2 t) := by
  unfold State.promote
  with_reducible repeat'
    first
    | assumption | intro _ | apply State.setCopy_keeps | apply Keeps.ite | split
    | refine Keeps.fields ?_ rfl (Nat.le_refl _) (Nat.le_refl _)

theorem State.slotCheck_keeps (h : Keeps s t) (x0) : Keeps s (State.slotCheck x0 t) := by
  unfold State.slotCheck
  with_reducible repeat'
    first
    | assumption | intro _ | apply State.setCopy_keeps | apply Keeps.ite | split
    | refine Keeps.fields ?_ rfl (Nat.le_refl _) (Nat.le_refl _)

theorem State.tcEdit_keeps (h : Keeps s t) (x0 x1 x2 x3 x4 x5) : Keeps s (State.tcEdit x0 x1 x2 x3 x4 x5 t).1 := by
  unfold State.tcEdit
  with_reducible repeat'
    first
    | assumption | intro _ | apply State.count_keeps | apply State.raise_keeps | apply Keeps.ite | apply Keeps.ite_fst
    | split | refine Keeps.fields ?_ rfl (Nat.le_refl _) (Nat.le_refl _)

theorem State.hostEvent_keeps (h : Keeps s t) (x0 x1 x2 x3 x4) : Keeps s (State.hostEvent x0 x1 x2 x3 x4 t).1 := by
  unfold State.hostEvent
  with_reducible repeat'
    first
    | assumption | intro _ | apply State.raise_keeps | apply State.pushStamp_keeps | apply Keeps.ite
    | apply Keeps.ite_fst

theorem State.ptpEdit_keeps (h : Keeps s t) (x0 x1 x2 x3) : Keeps s (State.ptpEdit x0 x1 x2 x3 t).1 := by
  unfold State.ptpEdit
  with_reducible repeat'
    first
    | assumption | intro _ | apply State.hostEvent_keeps | apply State.tcEdit_keeps | apply Keeps.ite
    | apply Keeps.ite_fst | split

theorem State.wholeOut_keeps (h : Keeps s t) (x0 x1 x2) : Keeps s (State.wholeOut x0 x1 x2 t).1 := by
  unfold State.wholeOut
  with_reducible repeat'
    first
    | assumption | apply State.ptpEdit_keeps | split

theorem State.startTx_keeps (h : Keeps s t) (x0) : Keeps s (State.startTx x0 t) := by
  unfold State.startTx
  with_reducible repeat'
    first
    | assumption | apply State.setCopy_keeps | apply State.showCopy_keeps | apply State.setSout_keeps
    | refine Keeps.fields ?_ rfl (Nat.le_refl _) (Nat.le_refl _)

theorem State.rsqSkip_keeps (h : Keeps s t) (x0) : Keeps s (State.rsqSkip x0 t) := by
  unfold State.rsqSkip
  with_reducible repeat'
    first
    | assumption | intro _ | apply State.raise_keeps | apply State.count_keeps | split
    | refine Keeps.fields ?_ rfl (Nat.le_refl _) (Nat.le_refl _)

theorem State.slotStart_keeps (h : Keeps s t) (x0) : Keeps s (State.slotStart x0 t) := by
  unfold State.slotStart
  with_reducible repeat'
    first
    | assumption | intro _ | apply State.slotCheck_keeps | apply State.startTx_keeps | apply State.when_keeps
    | apply State.each_keeps | apply Keeps.ite | apply Keeps.foldl | apply Keeps.foldl_fst | split
    | refine Keeps.fields ?_ rfl (Nat.le_refl _) (Nat.le_refl _)

theorem State.pausesOut_keeps (h : Keeps s t) (x0) : Keeps s (State.pausesOut x0 t) := by
  unfold State.pausesOut
  with_reducible repeat'
    first
    | assumption | intro _ | apply State.pauseSend_keeps | apply State.setSout_keeps | apply Keeps.foldl
    | apply Keeps.foldl_fst | refine Keeps.fields ?_ rfl (Nat.le_refl _) (Nat.le_refl _)

theorem State.preempt_keeps (h : Keeps s t) (x0) : Keeps s (State.preempt x0 t) := by
  unfold State.preempt
  with_reducible repeat'
    first
    | assumption | intro _ | apply State.countPort_keeps | apply State.setCopy_keeps | apply State.pausesOut_keeps
    | apply State.setSout_keeps | apply Keeps.ite | split | refine Keeps.fields ?_ rfl (Nat.le_refl _) (Nat.le_refl _)

theorem State.resume_keeps (h : Keeps s t) (x0) : Keeps s (State.resume x0 t) := by
  unfold State.resume
  with_reducible repeat'
    first
    | assumption | intro _ | apply State.setSout_keeps | apply State.setCopy_keeps | apply Keeps.ite | split
    | refine Keeps.fields ?_ rfl (Nat.le_refl _) (Nat.le_refl _)

theorem State.holdAssert_keeps (h : Keeps s t) (x0) : Keeps s (State.holdAssert x0 t) := by
  unfold State.holdAssert
  with_reducible repeat'
    first
    | assumption | intro _ | apply State.preempt_keeps | apply State.set_keeps | apply Keeps.ite

theorem State.holdEval_keeps (h : Keeps s t) (x0) : Keeps s (State.holdEval x0 t) := by
  unfold State.holdEval
  with_reducible repeat'
    first
    | assumption | intro _ | apply State.resume_keeps | apply State.set_keeps | apply Keeps.ite | split

theorem State.gatesMove_keeps (h : Keeps s t) (x0) : Keeps s (State.gatesMove x0 t) := by
  unfold State.gatesMove
  with_reducible repeat'
    first
    | assumption | intro _ | apply State.slotCheck_keeps | apply State.gateShow_keeps | apply State.preempt_keeps
    | apply State.resume_keeps | apply State.when_keeps | apply Keeps.ite | split

theorem State.makeLate_keeps (h : Keeps s t) (x0) : Keeps s (State.makeLate x0 t) := by
  unfold State.makeLate
  with_reducible repeat'
    first
    | assumption | intro _ | apply State.raise_keeps | apply State.count_keeps | apply State.freeCopy_keeps
    | apply State.setCopy_keeps | apply Keeps.ite | refine Keeps.fields ?_ rfl (Nat.le_refl _) (Nat.le_refl _)

theorem State.mailStart_keeps (h : Keeps s t) (x0 x1) : Keeps s (State.mailStart x0 x1 t) := by
  unfold State.mailStart
  with_reducible repeat'
    first
    | assumption | intro _ | apply State.count_keeps | apply State.startTx_keeps | apply State.releaseSeq_keeps
    | apply State.when_keeps | apply Keeps.ite

theorem State.mailTurn_keeps (h : Keeps s t) (x0 x1) : Keeps s (State.mailTurn x0 x1 t) := by
  unfold State.mailTurn
  with_reducible repeat'
    first
    | assumption | intro _ | apply State.count_keeps | apply State.freeCopy_keeps | apply State.makeLate_keeps
    | apply State.setCopy_keeps | apply State.mailStart_keeps | apply State.rsqSkip_keeps | apply State.when_keeps
    | apply Keeps.ite | split | refine Keeps.fields ?_ rfl (Nat.le_refl _) (Nat.le_refl _)

theorem State.mailDue_keeps (h : Keeps s t) (x0 x1) : Keeps s (State.mailDue x0 x1 t) := by
  unfold State.mailDue
  with_reducible repeat'
    first
    | assumption | intro _ | apply State.mailTurn_keeps | apply State.count_keeps | apply State.freeCopy_keeps
    | apply State.holdEval_keeps | apply Keeps.ite | apply Keeps.foldl | apply Keeps.foldl_fst | split

theorem State.mailFetch_keeps (h : Keeps s t) (x0) : Keeps s (State.mailFetch x0 t) := by
  unfold State.mailFetch
  with_reducible repeat'
    first
    | assumption | intro _ | apply State.setCopy_keeps | apply Keeps.ite | split
    | refine Keeps.fields ?_ rfl (Nat.le_refl _) (Nat.le_refl _)

theorem State.rsqTimeout_keeps (h : Keeps s t) (x0) : Keeps s (State.rsqTimeout x0 t) := by
  unfold State.rsqTimeout
  with_reducible repeat'
    first
    | assumption | intro _ | apply State.rsqSkip_keeps | apply Keeps.ite | split

theorem State.streamIdle_keeps (h : Keeps s t) (x0 x1 x2) : Keeps s (State.streamIdle x0 x1 x2 t) := by
  unfold State.streamIdle
  with_reducible repeat'
    first
    | assumption | intro _ | apply Keeps.ite | refine Keeps.fields ?_ rfl (Nat.le_refl _) (Nat.le_refl _)

theorem State.lineFree_keeps (h : Keeps s t) (x0) : Keeps s (State.lineFree x0 t) := by
  unfold State.lineFree
  with_reducible repeat'
    first
    | assumption | intro _ | apply State.pausesOut_keeps | apply State.markerFree_keeps | apply State.resume_keeps
    | apply State.holdEval_keeps | apply State.when_keeps

theorem State.lastOut_keeps (h : Keeps s t) (x0 x1 x2) : Keeps s (State.lastOut x0 x1 x2 t).1 := by
  unfold State.lastOut
  with_reducible repeat'
    first
    | assumption | intro _ | apply State.wholeOut_keeps | apply Keeps.ite | apply Keeps.ite_fst

theorem State.txEnd_keeps (h : Keeps s t) (x0) : Keeps s (State.txEnd x0 t) := by
  unfold State.txEnd
  with_reducible repeat'
    first
    | assumption | intro _ | apply State.lastOut_keeps | apply State.setSout_keeps | apply State.countTx_keeps
    | apply State.emit_keeps | apply State.countPort_keeps | apply State.pktDeliver_keeps | apply State.ptpToA_keeps
    | apply State.raise_keeps | apply State.count_keeps | apply State.mirEgress_keeps | apply State.freeCopy_keeps
    | apply State.lineFree_keeps | apply State.when_keeps | apply Keeps.ite | apply Keeps.ite_fst | split
    | refine Keeps.fields ?_ rfl (Nat.le_refl _) (Nat.le_refl _)

theorem State.cutOne_keeps (h : Keeps s t) (x0 x1) : Keeps s (State.cutOne x0 x1 t) := by
  unfold State.cutOne
  with_reducible repeat'
    first
    | assumption | intro _ | apply State.emit_keeps | apply State.raise_keeps | apply State.count_keeps
    | apply State.mirEgress_keeps | apply State.freeCopy_keeps | apply State.when_keeps | apply Keeps.ite | split

theorem State.cutShort_keeps (h : Keeps s t) (x0) : Keeps s (State.cutShort x0 t) := by
  unfold State.cutShort
  with_reducible repeat'
    first
    | assumption | apply State.setSout_keeps | apply State.cutOne_keeps | apply State.set_keeps | split
    | refine Keeps.fields ?_ rfl (Nat.le_refl _) (Nat.le_refl _)

theorem State.frameBad_keeps (h : Keeps s t) (x0) : Keeps s (State.frameBad x0 t) := by
  unfold State.frameBad
  with_reducible repeat'
    first
    | assumption | intro _ | apply State.freeCopy_keeps | apply State.setSout_keeps | apply Keeps.ite
    | apply Keeps.foldl | apply Keeps.foldl_fst | split | refine Keeps.fields ?_ rfl (Nat.le_refl _) (Nat.le_refl _)

theorem State.bufReopen_keeps (h : Keeps s t) : Keeps s (State.bufReopen t) := by
  unfold State.bufReopen
  with_reducible repeat'
    first
    | assumption | intro _ | apply State.freeCopy_keeps | apply State.frameGone_keeps | apply State.frameBad_keeps
    | apply Keeps.foldl | apply Keeps.foldl_fst

theorem State.gclSchedule_keeps (h : Keeps s t) (x0) : Keeps s (State.gclSchedule x0 t) := by
  unfold State.gclSchedule
  with_reducible repeat'
    first
    | assumption | apply State.setSout_keeps | apply State.set_keeps
    | refine Keeps.fields ?_ rfl (Nat.le_refl _) (Nat.le_refl _)

theorem State.gclSwap_keeps (h : Keeps s t) (x0) : Keeps s (State.gclSwap x0 t) := by
  unfold State.gclSwap
  with_reducible repeat'
    first
    | assumption | intro _ | apply State.wr_keeps | apply State.setSout_keeps | apply State.set_keeps
    | apply State.gatesMove_keeps | apply State.raise_keeps | apply State.each_keeps | apply Keeps.ite | split
    | refine Keeps.fields ?_ rfl (Nat.le_refl _) (Nat.le_refl _)

/-! ### Forward.lean -/

theorem State.addFrame_keeps (h : Keeps s t) (x0) : Keeps s (State.addFrame x0 t) := by
  unfold State.addFrame
  with_reducible repeat'
    first
    | assumption | refine Keeps.fields ?_ rfl (Nat.le_refl _) (Nat.le_refl _)

theorem State.frameHead_keeps (h : Keeps s t) (x0 x1 x2) : Keeps s (State.frameHead x0 x1 x2 t) := by
  unfold State.frameHead
  with_reducible repeat'
    first
    | assumption | intro _ | apply State.setPort_keeps | apply State.addFrame_keeps | apply State.pipeline_keeps
    | apply State.admission_keeps | apply Keeps.ite | split
    | refine Keeps.fields ?_ rfl (Nat.le_refl _) (Nat.le_refl _)

theorem State.countRx_keeps (h : Keeps s t) (x0 x1 x2 x3) : Keeps s (State.countRx x0 x1 x2 x3 t).1 := by
  unfold State.countRx
  with_reducible repeat'
    first
    | assumption | intro _ | apply State.countPort_keeps | apply State.when_keeps | apply Keeps.ite
    | apply Keeps.ite_fst

theorem State.countLine_keeps (h : Keeps s t) (x0 x1) : Keeps s (State.countLine x0 x1 t) := by
  unfold State.countLine
  with_reducible repeat'
    first
    | assumption | apply State.countPort_keeps

theorem State.frameTail_keeps (h : Keeps s t) (x0 x1 x2 x3) : Keeps s (State.frameTail x0 x1 x2 x3 t) := by
  unfold State.frameTail
  with_reducible repeat'
    first
    | assumption | intro _ | apply State.setPort_keeps | apply State.countRx_keeps | apply State.setFrame_keeps
    | apply State.frameGone_keeps | apply State.mirIngress_keeps | apply State.recharge_keeps
    | apply State.frameBad_keeps | apply State.when_keeps | apply Keeps.ite | split
    | refine Keeps.fields ?_ rfl (Nat.le_refl _) (Nat.le_refl _)

theorem State.frameCut_keeps (h : Keeps s t) (x0) : Keeps s (State.frameCut x0 t) := by
  unfold State.frameCut
  with_reducible repeat'
    first
    | assumption | intro _ | apply State.frameTail_keeps | apply Keeps.ite

theorem State.internalFrame_keeps (h : Keeps s t) (x0 x1 x2) : Keeps s (State.internalFrame x0 x1 x2 t) := by
  unfold State.internalFrame
  with_reducible repeat'
    first
    | assumption | apply State.admission_keeps | apply State.addFrame_keeps | apply State.frameGone_keeps
    | apply State.mirIngress_keeps | apply State.recharge_keeps | apply State.pipeline_keeps | split
    | refine Keeps.fields ?_ rfl (Nat.le_refl _) (Nat.le_refl _)

theorem State.tblCmdWrite_keeps (h : Keeps s t) (x0 x1 x2) : Keeps s (State.tblCmdWrite x0 x1 x2 t) := by
  unfold State.tblCmdWrite
  with_reducible repeat'
    first
    | assumption | intro _ | apply State.refuseWrite_keeps | apply State.plainWrite_keeps | apply State.set_keeps
    | apply State.tblOp_keeps | apply State.when_keeps | apply Keeps.ite

theorem State.mailMapWrite_keeps (h : Keeps s t) (x0 x1 x2 x3) : Keeps s (State.mailMapWrite x0 x1 x2 x3 t) := by
  unfold State.mailMapWrite
  with_reducible repeat'
    first
    | assumption | intro _ | apply State.plainWrite_keeps | apply State.badRange_keeps | apply Keeps.ite

theorem execFrameReceive_keeps {x0 x1 x2} {s t : State} (e : execFrameReceive x0 x1 x2 s = .next t) : Keeps s t := by
  unfold execFrameReceive at e
  injection e with e; subst e
  have h := Keeps.refl s
  with_reducible repeat'
    first
    | assumption | intro _ | apply State.frameHead_keeps | apply State.when_keeps

theorem execFrameTailArrival_keeps {x0 x1 x2 x3 x4} {s t : State} (e : execFrameTailArrival x0 x1 x2 x3 x4 s = .next t) : Keeps s t := by
  unfold execFrameTailArrival at e
  injection e with e; subst e
  have h := Keeps.refl s
  with_reducible repeat'
    first
    | assumption | intro _ | apply State.frameTail_keeps | apply State.countLine_keeps | apply State.when_keeps

theorem execTableRead_keeps {x0 x1} {s t : State} (e : execTableRead x0 x1 s = .next t) : Keeps s t := by
  unfold execTableRead at e
  injection e with e; subst e
  have h := Keeps.refl s
  with_reducible repeat'
    first
    | assumption | intro _ | apply State.access_keeps | apply State.tblCmdWrite_keeps | apply State.when_keeps
    | apply State.each_keeps | apply Keeps.ite | apply Keeps.foldl | apply Keeps.foldl_fst | split
    | refine Keeps.fields ?_ rfl (Nat.le_refl _) (Nat.le_refl _)

theorem execTableWriteOp_keeps {x0 x1} {s t : State} (e : execTableWriteOp x0 x1 s = .next t) : Keeps s t := by
  unfold execTableWriteOp at e
  injection e with e; subst e
  have h := Keeps.refl s
  with_reducible repeat'
    first
    | assumption | intro _ | apply State.access_keeps | apply State.tblCmdWrite_keeps | apply State.when_keeps
    | apply State.each_keeps | apply Keeps.ite | apply Keeps.foldl | apply Keeps.foldl_fst | split
    | refine Keeps.fields ?_ rfl (Nat.le_refl _) (Nat.le_refl _)

theorem execTableInsert_keeps {x0 x1} {s t : State} (e : execTableInsert x0 x1 s = .next t) : Keeps s t := by
  unfold execTableInsert at e
  injection e with e; subst e
  have h := Keeps.refl s
  with_reducible repeat'
    first
    | assumption | intro _ | apply State.access_keeps | apply State.tblCmdWrite_keeps | apply State.when_keeps
    | apply State.each_keeps | apply Keeps.ite | apply Keeps.foldl | apply Keeps.foldl_fst | split
    | refine Keeps.fields ?_ rfl (Nat.le_refl _) (Nat.le_refl _)

theorem execTableDelete_keeps {x0 x1} {s t : State} (e : execTableDelete x0 x1 s = .next t) : Keeps s t := by
  unfold execTableDelete at e
  injection e with e; subst e
  have h := Keeps.refl s
  with_reducible repeat'
    first
    | assumption | intro _ | apply State.access_keeps | apply State.tblCmdWrite_keeps | apply State.when_keeps
    | apply State.each_keeps | apply Keeps.ite | apply Keeps.foldl | apply Keeps.foldl_fst | split
    | refine Keeps.fields ?_ rfl (Nat.le_refl _) (Nat.le_refl _)

theorem execTableLookup_keeps {x0 x1} {s t : State} (e : execTableLookup x0 x1 s = .next t) : Keeps s t := by
  unfold execTableLookup at e
  injection e with e; subst e
  have h := Keeps.refl s
  with_reducible repeat'
    first
    | assumption | intro _ | apply State.access_keeps | apply State.tblCmdWrite_keeps | apply State.when_keeps
    | apply State.each_keeps | apply Keeps.ite | apply Keeps.foldl | apply Keeps.foldl_fst | split
    | refine Keeps.fields ?_ rfl (Nat.le_refl _) (Nat.le_refl _)

theorem execTableFlush_keeps {x0 x1} {s t : State} (e : execTableFlush x0 x1 s = .next t) : Keeps s t := by
  unfold execTableFlush at e
  injection e with e; subst e
  have h := Keeps.refl s
  with_reducible repeat'
    first
    | assumption | intro _ | apply State.access_keeps | apply State.tblCmdWrite_keeps | apply State.when_keeps
    | apply State.each_keeps | apply Keeps.ite | apply Keeps.foldl | apply Keeps.foldl_fst | split
    | refine Keeps.fields ?_ rfl (Nat.le_refl _) (Nat.le_refl _)

theorem execAgeingSweep_keeps {s t : State} (e : execAgeingSweep s = .next t) : Keeps s t := by
  unfold execAgeingSweep at e
  injection e with e; subst e
  have h := Keeps.refl s
  with_reducible repeat'
    first
    | assumption | apply State.ageSweep_keeps

/-! ### Schedule.lean -/

theorem State.clearRegs_keeps (h : Keeps s t) (p) : Keeps s (State.clearRegs p t) :=
  h.trans ⟨fun r => smFilter_wf _ _ r, id, rfl, List.suffix_refl _, Nat.le_refl _, Nat.le_refl _⟩

theorem State.clearPeaks_keeps (h : Keeps s t) : Keeps s (State.clearPeaks t) := by
  refine h.trans ⟨fun r => smRemap_wfFrom _ (fun x => ?_) r, id, rfl, List.suffix_refl _, Nat.le_refl _, Nat.le_refl _⟩
  split
  · rfl
  · split <;> rfl

theorem State.bufCtrlWrite_keeps (h : Keeps s t) (x0 x1) : Keeps s (State.bufCtrlWrite x0 x1 t) := by
  unfold State.bufCtrlWrite
  with_reducible repeat'
    first
    | assumption | intro _ | apply State.clearRegs_keeps | apply State.clearPeaks_keeps | apply State.when_keeps

theorem State.bufQCfgWrite_keeps (h : Keeps s t) (x0 x1 x2 x3 x4) : Keeps s (State.bufQCfgWrite x0 x1 x2 x3 x4 t) := by
  unfold State.bufQCfgWrite
  with_reducible repeat'
    first
    | assumption | intro _ | apply State.plainWrite_keeps | apply State.badRange_keeps | apply State.lowerRsv_keeps
    | apply State.set_keeps | apply State.when_keeps | apply Keeps.ite

theorem State.bufDepWrite_keeps (h : Keeps s t) (x0 x1 x2 x3) : Keeps s (State.bufDepWrite x0 x1 x2 x3 t) := by
  unfold State.bufDepWrite
  with_reducible repeat'
    first
    | assumption | intro _ | apply State.badRange_keeps | apply State.plainWrite_keeps | apply Keeps.ite

theorem State.bufInWrite_keeps (h : Keeps s t) (x0 x1 x2 x3) : Keeps s (State.bufInWrite x0 x1 x2 x3 t) := by
  unfold State.bufInWrite
  with_reducible repeat'
    first
    | assumption | intro _ | apply State.xoffEval_keeps | apply State.plainWrite_keeps | apply State.badRange_keeps
    | apply State.when_keeps | apply Keeps.ite | apply Keeps.ite_fst

theorem State.bufPrioWrite_keeps (h : Keeps s t) (x0 x1 x2 x3) : Keeps s (State.bufPrioWrite x0 x1 x2 x3 t) := by
  unfold State.bufPrioWrite
  with_reducible repeat'
    first
    | assumption | apply State.xoffEval_keeps | apply State.plainWrite_keeps

theorem State.graceWrite_keeps (h : Keeps s t) (x0 x1 x2 x3) : Keeps s (State.graceWrite x0 x1 x2 x3 t) := by
  unfold State.graceWrite
  with_reducible repeat'
    first
    | assumption | apply State.graceCheck_keeps | apply State.plainWrite_keeps

theorem State.schCtrlWrite_keeps (h : Keeps s t) (x0 x1) : Keeps s (State.schCtrlWrite x0 x1 t) := by
  unfold State.schCtrlWrite
  with_reducible repeat'
    first
    | assumption | intro _ | apply State.clearRegs_keeps | apply State.when_keeps

theorem State.adminWrite_keeps (h : Keeps s t) (x0 x1 x2 x3 x4) : Keeps s (State.adminWrite x0 x1 x2 x3 x4 t) := by
  unfold State.adminWrite
  with_reducible repeat'
    first
    | assumption | intro _ | apply State.refuseWrite_keeps | apply State.plainWrite_keeps | apply Keeps.ite

theorem State.gclCfgWrite_keeps (h : Keeps s t) (x0 x1 x2 x3) : Keeps s (State.gclCfgWrite x0 x1 x2 x3 t) := by
  unfold State.gclCfgWrite
  with_reducible repeat'
    first
    | assumption | intro _ | apply State.refuseWrite_keeps | apply State.gatesMove_keeps
    | apply State.plainWrite_keeps | apply State.when_keeps | apply Keeps.ite

theorem State.gclCtrlWrite_keeps (h : Keeps s t) (x0 x1 x2 x3) : Keeps s (State.gclCtrlWrite x0 x1 x2 x3 t) := by
  unfold State.gclCtrlWrite
  with_reducible repeat'
    first
    | assumption | intro _ | apply State.refuseWrite_keeps | apply State.gclSchedule_keeps | apply Keeps.ite

theorem State.mirCfgWrite_keeps (h : Keeps s t) (x0 x1 x2) : Keeps s (State.mirCfgWrite x0 x1 x2 t) := by
  unfold State.mirCfgWrite
  with_reducible repeat'
    first
    | assumption | intro _ | apply State.refuseWrite_keeps | apply State.plainWrite_keeps | apply State.mirStart_keeps
    | apply State.mirOff_keeps | apply State.when_keeps | apply Keeps.ite

theorem State.mirRingWrite_keeps (h : Keeps s t) (x0 x1 x2 x3) : Keeps s (State.mirRingWrite x0 x1 x2 x3 t) := by
  unfold State.mirRingWrite
  with_reducible repeat'
    first
    | assumption | intro _ | apply State.refuseWrite_keeps | apply State.plainWrite_keeps | apply Keeps.ite

theorem State.ringRdEffect_keeps (h : Keeps s t) (x0 x1 x2) : Keeps s (State.ringRdEffect x0 x1 x2 t) := by
  unfold State.ringRdEffect
  with_reducible repeat'
    first
    | assumption | intro _ | apply State.badRange_keeps | apply State.plainWrite_keeps | apply State.mirResume_keeps
    | apply State.when_keeps | apply Keeps.ite

theorem State.mirCtrlWrite_keeps (h : Keeps s t) (x0 x1) : Keeps s (State.mirCtrlWrite x0 x1 t) := by
  unfold State.mirCtrlWrite
  with_reducible repeat'
    first
    | assumption | intro _ | apply State.clearRegs_keeps | apply State.when_keeps

theorem State.pauseAgain_keeps (h : Keeps s t) (x0) : Keeps s (State.pauseAgain x0 t) := by
  unfold State.pauseAgain
  with_reducible repeat'
    first
    | assumption | intro _ | apply State.pauseWant_keeps | apply State.when_keeps

theorem State.watchdogEnd_keeps (h : Keeps s t) (x0 x1) : Keeps s (State.watchdogEnd x0 x1 t) := by
  unfold State.watchdogEnd
  with_reducible repeat'
    first
    | assumption | intro _ | apply State.set_keeps | apply Keeps.ite

theorem State.sendEnd_keeps (h : Keeps s t) (x0) : Keeps s (State.sendEnd x0 t) := by
  unfold State.sendEnd
  with_reducible repeat'
    first
    | assumption | apply State.txEnd_keeps | apply State.frameTail_keeps | apply State.frameHead_keeps | split

theorem execPauseResend_keeps {x0} {s t : State} (e : execPauseResend x0 s = .next t) : Keeps s t := by
  unfold execPauseResend at e
  injection e with e; subst e
  have h := Keeps.refl s
  with_reducible repeat'
    first
    | assumption | intro _ | apply State.pauseAgain_keeps | apply State.when_keeps

theorem execPauseWatchdogEnd_keeps {x0 x1} {s t : State} (e : execPauseWatchdogEnd x0 x1 s = .next t) : Keeps s t := by
  unfold execPauseWatchdogEnd at e
  injection e with e; subst e
  have h := Keeps.refl s
  with_reducible repeat'
    first
    | assumption | intro _ | apply State.watchdogEnd_keeps | apply State.when_keeps

theorem execGraceExpiry_keeps {x0} {s t : State} (e : execGraceExpiry x0 s = .next t) : Keeps s t := by
  unfold execGraceExpiry at e
  injection e with e; subst e
  have h := Keeps.refl s
  with_reducible repeat'
    first
    | assumption | intro _ | apply State.graceEnd_keeps | apply State.when_keeps

theorem execFlushComplete_keeps {x0} {s t : State} (e : execFlushComplete x0 s = .next t) : Keeps s t := by
  unfold execFlushComplete at e
  injection e with e; subst e
  have h := Keeps.refl s
  with_reducible repeat'
    first
    | assumption | intro _ | apply State.flushEnd_keeps | apply State.when_keeps

theorem execBufClearCounts_keeps {x0 x1} {s t : State} (e : execBufClearCounts x0 x1 s = .next t) : Keeps s t := by
  unfold execBufClearCounts at e
  injection e with e; subst e
  have h := Keeps.refl s
  with_reducible repeat'
    first
    | assumption | intro _ | apply State.access_keeps | apply State.bufCtrlWrite_keeps | apply State.when_keeps
    | apply State.each_keeps | apply Keeps.ite | apply Keeps.foldl | apply Keeps.foldl_fst | split
    | refine Keeps.fields ?_ rfl (Nat.le_refl _) (Nat.le_refl _)

theorem execTurntableIteration_keeps {s t : State} (e : execTurntableIteration s = .next t) : Keeps s t := by
  unfold execTurntableIteration at e
  injection e with e; subst e
  have h := Keeps.refl s
  with_reducible repeat'
    first
    | assumption | apply State.iterate_keeps

theorem execPromotion_keeps {x0 x1 x2} {s t : State} (e : execPromotion x0 x1 x2 s = .next t) : Keeps s t := by
  unfold execPromotion at e
  injection e with e; subst e
  have h := Keeps.refl s
  with_reducible repeat'
    first
    | assumption | intro _ | apply State.promote_keeps | apply State.when_keeps

theorem execSlotStart_keeps {x0} {s t : State} (e : execSlotStart x0 s = .next t) : Keeps s t := by
  unfold execSlotStart at e
  injection e with e; subst e
  have h := Keeps.refl s
  with_reducible repeat'
    first
    | assumption | intro _ | apply State.slotStart_keeps | apply State.when_keeps

theorem execMailFetch_keeps {x0} {s t : State} (e : execMailFetch x0 s = .next t) : Keeps s t := by
  unfold execMailFetch at e
  injection e with e; subst e
  have h := Keeps.refl s
  with_reducible repeat'
    first
    | assumption | intro _ | apply State.mailFetch_keeps | apply State.when_keeps

theorem execHoldAssert_keeps {x0} {s t : State} (e : execHoldAssert x0 s = .next t) : Keeps s t := by
  unfold execHoldAssert at e
  injection e with e; subst e
  have h := Keeps.refl s
  with_reducible repeat'
    first
    | assumption | intro _ | apply State.holdAssert_keeps | apply State.when_keeps

theorem execMailDeparture_keeps {x0 x1} {s t : State} (e : execMailDeparture x0 x1 s = .next t) : Keeps s t := by
  unfold execMailDeparture at e
  injection e with e; subst e
  have h := Keeps.refl s
  with_reducible repeat'
    first
    | assumption | intro _ | apply State.mailDue_keeps | apply State.when_keeps

theorem execResequencerGapTimeout_keeps {x0} {s t : State} (e : execResequencerGapTimeout x0 s = .next t) : Keeps s t := by
  unfold execResequencerGapTimeout at e
  injection e with e; subst e
  have h := Keeps.refl s
  with_reducible repeat'
    first
    | assumption | intro _ | apply State.rsqTimeout_keeps | apply State.when_keeps

theorem execStreamIdle_keeps {x0 x1 x2} {s t : State} (e : execStreamIdle x0 x1 x2 s = .next t) : Keeps s t := by
  unfold execStreamIdle at e
  injection e with e; subst e
  have h := Keeps.refl s
  with_reducible repeat'
    first
    | assumption | intro _ | apply State.streamIdle_keeps | apply State.when_keeps

theorem execGclChange_keeps {x0 x1 x2} {s t : State} (e : execGclChange x0 x1 x2 s = .next t) : Keeps s t := by
  unfold execGclChange at e
  injection e with e; subst e
  have h := Keeps.refl s
  with_reducible repeat'
    first
    | assumption | intro _ | apply State.access_keeps | apply State.gclCtrlWrite_keeps | apply State.when_keeps

theorem execGclSwap_keeps {x0} {s t : State} (e : execGclSwap x0 s = .next t) : Keeps s t := by
  unfold execGclSwap at e
  injection e with e; subst e
  have h := Keeps.refl s
  with_reducible repeat'
    first
    | assumption | intro _ | apply State.gclSwap_keeps | apply State.when_keeps

theorem execSchClearCounts_keeps {x0 x1} {s t : State} (e : execSchClearCounts x0 x1 s = .next t) : Keeps s t := by
  unfold execSchClearCounts at e
  injection e with e; subst e
  have h := Keeps.refl s
  with_reducible repeat'
    first
    | assumption | intro _ | apply State.access_keeps | apply State.schCtrlWrite_keeps | apply State.when_keeps
    | apply State.each_keeps | apply Keeps.ite | apply Keeps.foldl | apply Keeps.foldl_fst | split
    | refine Keeps.fields ?_ rfl (Nat.le_refl _) (Nat.le_refl _)

theorem execFrameTransmitEnd_keeps {x0} {s t : State} (e : execFrameTransmitEnd x0 s = .next t) : Keeps s t := by
  unfold execFrameTransmitEnd at e
  injection e with e; subst e
  have h := Keeps.refl s
  with_reducible repeat'
    first
    | assumption | intro _ | apply State.sendEnd_keeps | apply State.when_keeps

theorem execGateBoundary_keeps {x0} {s t : State} (e : execGateBoundary x0 s = .next t) : Keeps s t := by
  unfold execGateBoundary at e
  injection e with e; subst e
  have h := Keeps.refl s
  with_reducible repeat'
    first
    | assumption | intro _ | apply State.gatesMove_keeps | apply State.when_keeps

theorem execMirrorEnableWrite_keeps {x0 x1} {s t : State} (e : execMirrorEnableWrite x0 x1 s = .next t) : Keeps s t := by
  unfold execMirrorEnableWrite at e
  injection e with e; subst e
  have h := Keeps.refl s
  with_reducible repeat'
    first
    | assumption | intro _ | apply State.access_keeps | apply State.mirCfgWrite_keeps | apply State.when_keeps
    | apply State.each_keeps | apply Keeps.ite | apply Keeps.foldl | apply Keeps.foldl_fst | split
    | refine Keeps.fields ?_ rfl (Nat.le_refl _) (Nat.le_refl _)

theorem execMirrorRecordWrite_keeps {s t : State} (e : execMirrorRecordWrite s = .next t) : Keeps s t := by
  unfold execMirrorRecordWrite at e
  injection e with e; subst e
  have h := Keeps.refl s
  with_reducible repeat'
    first
    | assumption | apply State.mirDrain_keeps

theorem execRingRdWrite_keeps {x0 x1} {s t : State} (e : execRingRdWrite x0 x1 s = .next t) : Keeps s t := by
  unfold execRingRdWrite at e
  injection e with e; subst e
  have h := Keeps.refl s
  with_reducible repeat'
    first
    | assumption | intro _ | apply State.access_keeps | apply State.ringRdEffect_keeps | apply State.when_keeps
    | apply State.each_keeps | apply Keeps.ite | apply Keeps.foldl | apply Keeps.foldl_fst | split
    | refine Keeps.fields ?_ rfl (Nat.le_refl _) (Nat.le_refl _)

theorem execMirrorHoldTimer_keeps {s t : State} (e : execMirrorHoldTimer s = .next t) : Keeps s t := by
  unfold execMirrorHoldTimer at e
  injection e with e; subst e
  have h := Keeps.refl s
  with_reducible repeat'
    first
    | assumption | apply State.mirHold_keeps

theorem execMirrorDmaError_keeps {s t : State} (e : execMirrorDmaError s = .next t) : Keeps s t := by
  unfold execMirrorDmaError at e
  injection e with e; subst e
  have h := Keeps.refl s
  with_reducible repeat'
    first
    | assumption | apply State.mirError_keeps

theorem execMirClearCounts_keeps {x0 x1} {s t : State} (e : execMirClearCounts x0 x1 s = .next t) : Keeps s t := by
  unfold execMirClearCounts at e
  injection e with e; subst e
  have h := Keeps.refl s
  with_reducible repeat'
    first
    | assumption | intro _ | apply State.access_keeps | apply State.mirCtrlWrite_keeps | apply State.when_keeps
    | apply State.each_keeps | apply Keeps.ite | apply Keeps.foldl | apply Keeps.foldl_fst | split
    | refine Keeps.fields ?_ rfl (Nat.le_refl _) (Nat.le_refl _)

theorem execMarkerDue_keeps {x0} {s t : State} (e : execMarkerDue x0 s = .next t) : Keeps s t := by
  unfold execMarkerDue at e
  injection e with e; subst e
  have h := Keeps.refl s
  with_reducible repeat'
    first
    | assumption | intro _ | apply State.markerFall_keeps | apply State.when_keeps

/-! ### PortOps.lean -/

theorem State.linkEval_keeps (h : Keeps s t) (x0) : Keeps s (State.linkEval x0 t) := by
  unfold State.linkEval
  with_reducible repeat'
    first
    | assumption | apply State.sessionsEval_keeps | apply State.refLinesEval_keeps

theorem State.lineDown_keeps (h : Keeps s t) (x0) : Keeps s (State.lineDown x0 t) := by
  unfold State.lineDown
  with_reducible repeat'
    first
    | assumption | apply State.set_keeps | apply State.setPort_keeps | apply State.linkEval_keeps
    | refine Keeps.fields ?_ rfl (Nat.le_refl _) (Nat.le_refl _)

theorem State.rateEval_keeps (h : Keeps s t) (x0) : Keeps s (State.rateEval x0 t) := by
  unfold State.rateEval
  with_reducible repeat'
    first
    | assumption | intro _ | apply State.setPort_keeps | apply State.set_keeps | apply State.thenSelect_keeps
    | apply State.edgesStop_keeps | apply State.clearWindows_keeps | apply State.setRefState_keeps
    | apply State.cplRateChange_keeps | apply State.calAgain_keeps | apply State.when_keeps | apply Keeps.ite
    | refine Keeps.fields ?_ rfl (Nat.le_refl _) (Nat.le_refl _)

theorem State.quadRates_keeps (h : Keeps s t) (x0) : Keeps s (State.quadRates x0 t) := by
  unfold State.quadRates
  with_reducible repeat'
    first
    | assumption | intro _ | apply State.rateEval_keeps | apply State.each_keeps

theorem State.setPortState_keeps (h : Keeps s t) (x0 x1) : Keeps s (State.setPortState x0 x1 t) := by
  unfold State.setPortState
  with_reducible repeat'
    first
    | assumption | intro _ | apply State.quadRates_keeps | apply State.queueEvent_keeps | apply State.raise_keeps
    | apply State.set_keeps | apply Keeps.ite

theorem State.verifyRestart_keeps (h : Keeps s t) (x0) : Keeps s (State.verifyRestart x0 t) := by
  unfold State.verifyRestart
  with_reducible repeat'
    first
    | assumption | intro _ | apply State.setPort_keeps | apply State.set_keeps | apply State.resume_keeps
    | apply State.setB_keeps | apply Keeps.ite | refine Keeps.fields ?_ rfl (Nat.le_refl _) (Nat.le_refl _)

theorem State.pauseResolve_keeps (h : Keeps s t) (x0) : Keeps s (State.pauseResolve x0 t) := by
  unfold State.pauseResolve
  with_reducible repeat'
    first
    | assumption | apply State.setB_keeps

theorem State.portComesUp_keeps (h : Keeps s t) (x0) : Keeps s (State.portComesUp x0 t) := by
  unfold State.portComesUp
  with_reducible repeat'
    first
    | assumption | apply State.raise_keeps | apply State.setPortState_keeps | apply State.verifyRestart_keeps
    | apply State.sidingUp_keeps | apply State.pauseResolve_keeps

theorem State.portLeavesUp_keeps (h : Keeps s t) (x0 x1) : Keeps s (State.portLeavesUp x0 x1 t) := by
  unfold State.portLeavesUp
  with_reducible repeat'
    first
    | assumption | intro _ | apply State.countPort_keeps | apply State.raise_keeps | apply State.frameCut_keeps
    | apply State.cutShort_keeps | apply State.setPort_keeps | apply State.set_keeps | apply State.sidingDown_keeps
    | apply Keeps.ite | refine Keeps.fields ?_ rfl (Nat.le_refl _) (Nat.le_refl _)

theorem State.exchange_keeps (h : Keeps s t) (x0) : Keeps s (State.exchange x0 t) := by
  unfold State.exchange
  with_reducible repeat'
    first
    | assumption | apply State.set_keeps | apply State.emit_keeps | apply State.setPort_keeps
    | refine Keeps.fields ?_ rfl (Nat.le_refl _) (Nat.le_refl _)

theorem State.portOff_keeps (h : Keeps s t) (x0) : Keeps s (State.portOff x0 t) := by
  unfold State.portOff
  with_reducible repeat'
    first
    | assumption | intro _ | apply State.set_keeps | apply State.lineDown_keeps | apply State.setPortState_keeps
    | apply State.portLeavesUp_keeps | apply Keeps.ite

theorem State.portRestart_keeps (h : Keeps s t) (x0) : Keeps s (State.portRestart x0 t) := by
  unfold State.portRestart
  with_reducible repeat'
    first
    | assumption | apply State.lineDown_keeps | apply State.setPortState_keeps | apply State.portLeavesUp_keeps

theorem State.portPark_keeps (h : Keeps s t) (x0 x1) : Keeps s (State.portPark x0 x1 t) := by
  unfold State.portPark
  with_reducible repeat'
    first
    | assumption | intro _ | apply State.lineDown_keeps | apply State.setPortState_keeps
    | apply State.portLeavesUp_keeps | apply Keeps.ite

theorem State.portsPark_keeps (h : Keeps s t) : Keeps s (State.portsPark t) := by
  unfold State.portsPark
  with_reducible repeat'
    first
    | assumption | intro _ | apply State.portPark_keeps | apply State.flushStart_keeps | apply State.when_keeps
    | apply State.each_keeps

theorem State.portUnpark_keeps (h : Keeps s t) (x0) : Keeps s (State.portUnpark x0 t) := by
  unfold State.portUnpark
  with_reducible repeat'
    first
    | assumption | intro _ | apply State.setPortState_keeps | apply Keeps.ite

theorem State.portRefuse_keeps (h : Keeps s t) (x0) : Keeps s (State.portRefuse x0 t) := by
  unfold State.portRefuse
  with_reducible repeat'
    first
    | assumption | apply State.warn_keeps | apply State.raise_keeps

theorem State.portsStart_keeps (h : Keeps s t) : Keeps s (State.portsStart t) := by
  unfold State.portsStart
  with_reducible repeat'
    first
    | assumption | intro _ | apply State.setPortState_keeps | apply State.portRefuse_keeps | apply State.set_keeps
    | apply State.each_keeps | apply Keeps.ite

theorem State.i2cBegin_keeps (h : Keeps s t) (x0 x1) : Keeps s (State.i2cBegin x0 x1 t) := by
  unfold State.i2cBegin
  with_reducible repeat'
    first
    | assumption | intro _ | apply State.setBus_keeps | apply State.emit_keeps | apply Keeps.ite | split
    | refine Keeps.fields ?_ rfl (Nat.le_refl _) (Nat.le_refl _)

theorem State.i2cNextJob_keeps (h : Keeps s t) (x0) : Keeps s (State.i2cNextJob x0 t) := by
  unfold State.i2cNextJob
  with_reducible repeat'
    first
    | assumption | intro _ | apply State.i2cBegin_keeps | apply State.setBus_keeps | apply Keeps.ite
    | apply Keeps.foldl | apply Keeps.foldl_fst | split | refine Keeps.fields ?_ rfl (Nat.le_refl _) (Nat.le_refl _)

theorem State.i2cWant_keeps (h : Keeps s t) (x0 x1) : Keeps s (State.i2cWant x0 x1 t) := by
  unfold State.i2cWant
  with_reducible repeat'
    first
    | assumption | apply State.set_keeps | apply State.i2cNextJob_keeps | apply State.setBus_keeps
    | refine Keeps.fields ?_ rfl (Nat.le_refl _) (Nat.le_refl _)

theorem State.i2cStore_keeps (h : Keeps s t) (x0 x1) : Keeps s (State.i2cStore x0 x1 t) := by
  unfold State.i2cStore
  with_reducible repeat'
    first
    | assumption | intro _ | apply State.wr_keeps | apply Keeps.foldl | apply Keeps.foldl_fst

theorem State.i2cHostEnd_keeps (h : Keeps s t) (x0 x1 x2 x3) : Keeps s (State.i2cHostEnd x0 x1 x2 x3 t) := by
  unfold State.i2cHostEnd
  with_reducible repeat'
    first
    | assumption | intro _ | apply State.i2cStore_keeps | apply State.raise_keeps | apply State.set_keeps
    | apply Keeps.ite | split

theorem State.pollEnd_keeps (h : Keeps s t) (x0 x1 x2) : Keeps s (State.pollEnd x0 x1 x2 t) := by
  unfold State.pollEnd
  with_reducible repeat'
    first
    | assumption | intro _ | apply State.raise_keeps | apply State.set_keeps | apply State.setPort_keeps
    | apply State.when_keeps | apply Keeps.ite | split | refine Keeps.fields ?_ rfl (Nat.le_refl _) (Nat.le_refl _)

theorem State.sensorDue_keeps (h : Keeps s t) : Keeps s (State.sensorDue t) := by
  unfold State.sensorDue
  with_reducible repeat'
    first
    | assumption | intro _ | apply State.i2cNextJob_keeps | apply State.setBus_keeps | apply Keeps.ite
    | refine Keeps.fields ?_ rfl (Nat.le_refl _) (Nat.le_refl _)

theorem State.sensorLate_keeps (h : Keeps s t) : Keeps s (State.sensorLate t) := by
  unfold State.sensorLate
  with_reducible repeat'
    first
    | assumption | intro _ | apply State.tempFail_keeps | apply State.setBus_keeps | apply State.each_keeps
    | apply Keeps.ite | refine Keeps.fields ?_ rfl (Nat.le_refl _) (Nat.le_refl _)

theorem State.sensorEnd_keeps (h : Keeps s t) (x0 x1 x2) : Keeps s (State.sensorEnd x0 x1 x2 t) := by
  unfold State.sensorEnd
  with_reducible repeat'
    first
    | assumption | intro _ | apply State.tempRead_keeps | apply Keeps.ite | split

theorem State.pollDue_keeps (h : Keeps s t) (x0) : Keeps s (State.pollDue x0 t) := by
  unfold State.pollDue
  with_reducible repeat'
    first
    | assumption | intro _ | apply State.i2cNextJob_keeps | apply State.setBus_keeps | apply Keeps.ite | split
    | refine Keeps.fields ?_ rfl (Nat.le_refl _) (Nat.le_refl _)

/-! ### Ports.lean -/

theorem State.prtCfgWrite_keeps (h : Keeps s t) (x0 x1 x2 x3) : Keeps s (State.prtCfgWrite x0 x1 x2 x3 t) := by
  unfold State.prtCfgWrite
  with_reducible repeat'
    first
    | assumption | intro _ | apply State.refuseWrite_keeps | apply State.badRange_keeps | apply State.quadRates_keeps
    | apply State.wr_keeps | apply State.raise_keeps | apply State.setPortState_keeps | apply State.portOff_keeps
    | apply State.portRestart_keeps | apply State.setPort_keeps | apply State.when_keeps | apply Keeps.ite | split
    | refine Keeps.fields ?_ rfl (Nat.le_refl _) (Nat.le_refl _)

theorem State.prtMacWrite_keeps (h : Keeps s t) (x0 x1 x2 x3) : Keeps s (State.prtMacWrite x0 x1 x2 x3 t) := by
  unfold State.prtMacWrite
  with_reducible repeat'
    first
    | assumption | intro _ | apply State.plainWrite_keeps | apply State.pauseResolve_keeps
    | apply State.verifyRestart_keeps | apply State.when_keeps

theorem State.anAgain_keeps (h : Keeps s t) (x0) : Keeps s (State.anAgain x0 t) := by
  unfold State.anAgain
  with_reducible repeat'
    first
    | assumption | intro _ | apply State.exchange_keeps | apply State.setPortState_keeps
    | apply State.portLeavesUp_keeps | apply Keeps.ite | split

theorem State.clearPort_keeps (h : Keeps s t) (x0) : Keeps s (State.clearPort x0 t) := by
  unfold State.clearPort
  with_reducible repeat'
    first
    | assumption | intro _ | apply State.clearRegs_keeps

theorem State.prtCtrlWrite_keeps (h : Keeps s t) (x0 x1 x2) : Keeps s (State.prtCtrlWrite x0 x1 x2 t) := by
  unfold State.prtCtrlWrite
  with_reducible repeat'
    first
    | assumption | intro _ | apply State.clearPort_keeps | apply State.anAgain_keeps | apply State.when_keeps

theorem State.modPollWrite_keeps (h : Keeps s t) (x0 x1 x2 x3) : Keeps s (State.modPollWrite x0 x1 x2 x3 t) := by
  unfold State.modPollWrite
  with_reducible repeat'
    first
    | assumption | intro _ | apply State.plainWrite_keeps | apply State.setBus_keeps | apply State.setPort_keeps
    | apply State.set_keeps | apply State.each_keeps | apply Keeps.ite
    | refine Keeps.fields ?_ rfl (Nat.le_refl _) (Nat.le_refl _)

theorem State.i2cXferWrite_keeps (h : Keeps s t) (x0 x1 x2 x3) : Keeps s (State.i2cXferWrite x0 x1 x2 x3 t) := by
  unfold State.i2cXferWrite
  with_reducible repeat'
    first
    | assumption | intro _ | apply State.refuseWrite_keeps | apply State.plainWrite_keeps | apply State.raise_keeps
    | apply State.set_keeps | apply State.i2cWant_keeps | apply Keeps.ite

theorem State.i2cDataWrite_keeps (h : Keeps s t) (x0 x1 x2 x3 x4) : Keeps s (State.i2cDataWrite x0 x1 x2 x3 x4 t) := by
  unfold State.i2cDataWrite
  with_reducible repeat'
    first
    | assumption | intro _ | apply State.refuseWrite_keeps | apply State.plainWrite_keeps | apply Keeps.ite

theorem State.holdExpires_keeps (h : Keeps s t) (x0) : Keeps s (State.holdExpires x0 t) := by
  unfold State.holdExpires
  with_reducible repeat'
    first
    | assumption | intro _ | apply State.setPortState_keeps | apply State.portLeavesUp_keeps | apply Keeps.ite

theorem State.portLost_keeps (h : Keeps s t) (x0) : Keeps s (State.portLost x0 t) := by
  unfold State.portLost
  with_reducible repeat'
    first
    | assumption | intro _ | apply State.frameCut_keeps | apply State.cutShort_keeps | apply State.setPort_keeps
    | apply State.holdExpires_keeps | apply Keeps.ite | refine Keeps.fields ?_ rfl (Nat.le_refl _) (Nat.le_refl _)

theorem State.faultBit_keeps (h : Keeps s t) (x0 x1 x2) : Keeps s (State.faultBit x0 x1 x2 t) := by
  unfold State.faultBit
  with_reducible repeat'
    first
    | assumption | intro _ | apply State.setB_keeps | apply State.raise_keeps | apply State.when_keeps

theorem State.lockGained_keeps (h : Keeps s t) (x0 x1 x2) : Keeps s (State.lockGained x0 x1 x2 t) := by
  unfold State.lockGained
  with_reducible repeat'
    first
    | assumption | intro _ | apply State.set_keeps | apply State.faultBit_keeps | apply State.cplLock_keeps
    | apply State.linkEval_keeps | apply State.calRestart_keeps | apply State.portLost_keeps
    | apply State.exchange_keeps | apply State.setPortState_keeps | apply State.portComesUp_keeps
    | apply State.resume_keeps | apply State.countPort_keeps | apply State.raise_keeps | apply State.setPort_keeps
    | apply Keeps.ite | refine Keeps.fields ?_ rfl (Nat.le_refl _) (Nat.le_refl _)

theorem State.lockLost_keeps (h : Keeps s t) (x0 x1) : Keeps s (State.lockLost x0 x1 t) := by
  unfold State.lockLost
  with_reducible repeat'
    first
    | assumption | intro _ | apply State.setB_keeps | apply State.linkEval_keeps | apply State.set_keeps
    | apply State.faultBit_keeps | apply State.setPortState_keeps | apply State.portLost_keeps | apply Keeps.ite
    | split

theorem State.exchangeDone_keeps (h : Keeps s t) (x0 x1) : Keeps s (State.exchangeDone x0 x1 t) := by
  unfold State.exchangeDone
  with_reducible repeat'
    first
    | assumption | intro _ | apply State.set_keeps | apply State.portComesUp_keeps | apply State.raise_keeps
    | apply State.setPort_keeps | apply Keeps.ite | refine Keeps.fields ?_ rfl (Nat.le_refl _) (Nat.le_refl _)

theorem State.fallBack_keeps (h : Keeps s t) (x0) : Keeps s (State.fallBack x0 t) := by
  unfold State.fallBack
  with_reducible repeat'
    first
    | assumption | intro _ | apply State.portComesUp_keeps | apply State.set_keeps | apply Keeps.ite

theorem State.anRetries_keeps (h : Keeps s t) (x0) : Keeps s (State.anRetries x0 t) := by
  unfold State.anRetries
  with_reducible repeat'
    first
    | assumption | intro _ | apply State.exchange_keeps | apply State.when_keeps

theorem State.verifyTick_keeps (h : Keeps s t) (x0 x1) : Keeps s (State.verifyTick x0 x1 t) := by
  unfold State.verifyTick
  with_reducible repeat'
    first
    | assumption | intro _ | apply State.set_keeps | apply State.setPort_keeps | apply State.emit_keeps
    | apply State.raise_keeps | apply State.when_keeps | apply Keeps.ite
    | refine Keeps.fields ?_ rfl (Nat.le_refl _) (Nat.le_refl _)

theorem State.holdClass_keeps (h : Keeps s t) (x0 x1 x2) : Keeps s (State.holdClass x0 x1 x2 t) := by
  unfold State.holdClass
  with_reducible repeat'
    first
    | assumption | intro _ | apply State.setPaused_keeps | apply Keeps.ite

theorem State.pauseHear_keeps (h : Keeps s t) (x0 x1) : Keeps s (State.pauseHear x0 x1 t) := by
  unfold State.pauseHear
  with_reducible repeat'
    first
    | assumption | intro _ | apply State.countPort_keeps | apply State.holdClass_keeps | apply State.slotCheck_keeps
    | apply State.when_keeps | apply State.each_keeps | apply Keeps.ite

theorem State.i2cEnd_keeps (h : Keeps s t) (x0 x1 x2) : Keeps s (State.i2cEnd x0 x1 x2 t) := by
  unfold State.i2cEnd
  with_reducible repeat'
    first
    | assumption | intro _ | apply State.setBus_keeps | apply State.emit_keeps | apply State.i2cHostEnd_keeps
    | apply State.pollEnd_keeps | apply State.sensorEnd_keeps | apply State.i2cNextJob_keeps | apply State.when_keeps
    | split | refine Keeps.fields ?_ rfl (Nat.le_refl _) (Nat.le_refl _)

theorem execPortCfgWrite_keeps {x0 x1 x2} {s t : State} (e : execPortCfgWrite x0 x1 x2 s = .next t) : Keeps s t := by
  unfold execPortCfgWrite at e
  injection e with e; subst e
  have h := Keeps.refl s
  with_reducible repeat'
    first
    | assumption | intro _ | apply State.access_keeps | apply State.prtCfgWrite_keeps | apply State.when_keeps

theorem State.linkEvent_keeps {g : State → State} (hg : ∀ t, Keeps s t → Keeps s (g t)) (h : Keeps s t) (p) : Keeps s (State.linkEvent p g t) := by
  unfold State.linkEvent
  exact State.when_keeps hg h _

theorem execPcsLockGained_keeps {x0 x1 x2} {s t : State} (e : execPcsLockGained x0 x1 x2 s = .next t) : Keeps s t := by
  unfold execPcsLockGained at e
  injection e with e; subst e
  have h := Keeps.refl s
  with_reducible repeat'
    first
    | assumption | intro _ | apply State.linkEvent_keeps | apply State.lockGained_keeps | apply State.when_keeps
    | apply State.each_keeps | apply Keeps.ite | apply Keeps.foldl | apply Keeps.foldl_fst | split
    | refine Keeps.fields ?_ rfl (Nat.le_refl _) (Nat.le_refl _)

theorem execPcsLockLost_keeps {x0 x1} {s t : State} (e : execPcsLockLost x0 x1 s = .next t) : Keeps s t := by
  unfold execPcsLockLost at e
  injection e with e; subst e
  have h := Keeps.refl s
  with_reducible repeat'
    first
    | assumption | intro _ | apply State.linkEvent_keeps | apply State.lockLost_keeps | apply State.when_keeps
    | apply State.each_keeps | apply Keeps.ite | apply Keeps.foldl | apply Keeps.foldl_fst | split
    | refine Keeps.fields ?_ rfl (Nat.le_refl _) (Nat.le_refl _)

theorem execDownHoldExpiry_keeps {x0} {s t : State} (e : execDownHoldExpiry x0 s = .next t) : Keeps s t := by
  unfold execDownHoldExpiry at e
  injection e with e; subst e
  have h := Keeps.refl s
  with_reducible repeat'
    first
    | assumption | intro _ | apply State.linkEvent_keeps | apply State.holdExpires_keeps | apply State.when_keeps
    | apply State.each_keeps | apply Keeps.ite | apply Keeps.foldl | apply Keeps.foldl_fst | split
    | refine Keeps.fields ?_ rfl (Nat.le_refl _) (Nat.le_refl _)

theorem execAnComplete_keeps {x0 x1} {s t : State} (e : execAnComplete x0 x1 s = .next t) : Keeps s t := by
  unfold execAnComplete at e
  injection e with e; subst e
  have h := Keeps.refl s
  with_reducible repeat'
    first
    | assumption | intro _ | apply State.linkEvent_keeps | apply State.exchangeDone_keeps | apply State.when_keeps
    | apply State.each_keeps | apply Keeps.ite | apply Keeps.foldl | apply Keeps.foldl_fst | split
    | refine Keeps.fields ?_ rfl (Nat.le_refl _) (Nat.le_refl _)

theorem execAnRestart_keeps {x0 x1 x2} {s t : State} (e : execAnRestart x0 x1 x2 s = .next t) : Keeps s t := by
  unfold execAnRestart at e
  injection e with e; subst e
  have h := Keeps.refl s
  with_reducible repeat'
    first
    | assumption | intro _ | apply State.access_keeps | apply State.prtCtrlWrite_keeps | apply State.anAgain_keeps
    | apply State.when_keeps | split

theorem execAnFallback_keeps {x0} {s t : State} (e : execAnFallback x0 s = .next t) : Keeps s t := by
  unfold execAnFallback at e
  injection e with e; subst e
  have h := Keeps.refl s
  with_reducible repeat'
    first
    | assumption | intro _ | apply State.linkEvent_keeps | apply State.fallBack_keeps | apply State.when_keeps
    | apply State.each_keeps | apply Keeps.ite | apply Keeps.foldl | apply Keeps.foldl_fst | split
    | refine Keeps.fields ?_ rfl (Nat.le_refl _) (Nat.le_refl _)

theorem execAnRetry_keeps {x0} {s t : State} (e : execAnRetry x0 s = .next t) : Keeps s t := by
  unfold execAnRetry at e
  injection e with e; subst e
  have h := Keeps.refl s
  with_reducible repeat'
    first
    | assumption | intro _ | apply State.linkEvent_keeps | apply State.anRetries_keeps | apply State.when_keeps
    | apply State.each_keeps | apply Keeps.ite | apply Keeps.foldl | apply Keeps.foldl_fst | split
    | refine Keeps.fields ?_ rfl (Nat.le_refl _) (Nat.le_refl _)

theorem execPauseReceive_keeps {x0 x1} {s t : State} (e : execPauseReceive x0 x1 s = .next t) : Keeps s t := by
  unfold execPauseReceive at e
  injection e with e; subst e
  have h := Keeps.refl s
  with_reducible repeat'
    first
    | assumption | intro _ | apply State.pauseHear_keeps | apply State.when_keeps

theorem execPauseQuantaExpiry_keeps {x0 x1} {s t : State} (e : execPauseQuantaExpiry x0 x1 s = .next t) : Keeps s t := by
  unfold execPauseQuantaExpiry at e
  injection e with e; subst e
  have h := Keeps.refl s
  with_reducible repeat'
    first
    | assumption | intro _ | apply State.setPaused_keeps | apply State.when_keeps

theorem execPauseWatchdog_keeps {x0 x1} {s t : State} (e : execPauseWatchdog x0 x1 s = .next t) : Keeps s t := by
  unfold execPauseWatchdog at e
  injection e with e; subst e
  have h := Keeps.refl s
  with_reducible repeat'
    first
    | assumption | intro _ | apply State.watchdog_keeps | apply State.when_keeps

theorem execVerifyTimer_keeps {x0 x1} {s t : State} (e : execVerifyTimer x0 x1 s = .next t) : Keeps s t := by
  unfold execVerifyTimer at e
  injection e with e; subst e
  have h := Keeps.refl s
  with_reducible repeat'
    first
    | assumption | intro _ | apply State.verifyTick_keeps | apply State.when_keeps

theorem execClearPortCounters_keeps {x0 x1 x2} {s t : State} (e : execClearPortCounters x0 x1 x2 s = .next t) : Keeps s t := by
  unfold execClearPortCounters at e
  injection e with e; subst e
  have h := Keeps.refl s
  with_reducible repeat'
    first
    | assumption | intro _ | apply State.access_keeps | apply State.prtCtrlWrite_keeps | apply State.when_keeps

theorem execI2cTransferStart_keeps {x0 x1 x2} {s t : State} (e : execI2cTransferStart x0 x1 x2 s = .next t) : Keeps s t := by
  unfold execI2cTransferStart at e
  injection e with e; subst e
  have h := Keeps.refl s
  with_reducible repeat'
    first
    | assumption | intro _ | apply State.access_keeps | apply State.i2cXferWrite_keeps | apply State.when_keeps

theorem execModulePoll_keeps {x0} {s t : State} (e : execModulePoll x0 s = .next t) : Keeps s t := by
  unfold execModulePoll at e
  injection e with e; subst e
  have h := Keeps.refl s
  with_reducible repeat'
    first
    | assumption | intro _ | apply State.pollDue_keeps | apply State.when_keeps

end Sys2Proof.Machine
end

