-- ==== Sys2Proof/Laws/KeepsDevice.lean ====
section
/-! SUPPORT. Every operation keeps what `Keeps` says: NV commands, resets, power, clocks, the register bus and the mailboxes. -/

namespace Sys2Proof.Machine

variable {s t : State}

/-! ### NvStore.lean -/

theorem State.pfwSave_keeps (h : Keeps s t) : Keeps s (State.pfwSave t) := by
  unfold State.pfwSave
  with_reducible repeat'
    first
    | assumption | intro _ | apply State.raise_keeps | apply State.hotSaveStart_keeps | apply Keeps.ite
    | refine Keeps.fields ?_ rfl (Nat.le_refl _) (Nat.le_refl _)

theorem State.tellWaiter_keeps (h : Keeps s t) (x0 x1) : Keeps s (State.tellWaiter x0 x1 t) := by
  unfold State.tellWaiter
  with_reducible repeat'
    first
    | assumption | intro _ | apply State.raise_keeps | apply State.historyDone_keeps | apply State.fwNv_keeps
    | apply State.warn_keeps | apply State.clearEnd_keeps | apply State.when_keeps | apply Keeps.ite
    | apply Keeps.ite_fst | split | refine Keeps.fields ?_ rfl (Nat.le_refl _) (Nat.le_refl _)

theorem State.jobEnd_keeps (h : Keeps s t) : Keeps s (State.jobEnd t) := by
  unfold State.jobEnd
  with_reducible repeat'
    first
    | assumption | intro _ | apply State.commitFinish_keeps | apply State.pfwSave_keeps | apply State.tellWaiter_keeps
    | apply Keeps.foldl | apply Keeps.foldl_fst | split

theorem State.saveEnd_keeps (h : Keeps s t) : Keeps s (State.saveEnd t) := by
  unfold State.saveEnd
  with_reducible repeat'
    first
    | assumption | intro _ | apply State.hotSaveEnd_keeps | apply State.fwNv_keeps | apply State.pfwSave_keeps
    | apply Keeps.ite | split | refine Keeps.fields ?_ rfl (Nat.le_refl _) (Nat.le_refl _)

theorem State.pfwTaken_keeps (h : Keeps s t) : Keeps s (State.pfwTaken t) := by
  unfold State.pfwTaken
  with_reducible repeat'
    first
    | assumption | intro _ | apply State.logFault_keeps | apply State.set_keeps | apply State.pfwSave_keeps
    | apply Keeps.ite | refine Keeps.fields ?_ rfl (Nat.le_refl _) (Nat.le_refl _)

theorem execNvReadOp_keeps {x0 x1} {s t : State} (e : execNvReadOp x0 x1 s = .next t) : Keeps s t := by
  unfold execNvReadOp at e
  injection e with e; subst e
  have h := Keeps.refl s
  with_reducible repeat'
    first
    | assumption | intro _ | apply State.access_keeps | apply State.nvCmdWrite_keeps | apply State.when_keeps
    | apply State.each_keeps | apply Keeps.ite | apply Keeps.foldl | apply Keeps.foldl_fst | split
    | refine Keeps.fields ?_ rfl (Nat.le_refl _) (Nat.le_refl _)

theorem execNvWriteOp_keeps {x0 x1} {s t : State} (e : execNvWriteOp x0 x1 s = .next t) : Keeps s t := by
  unfold execNvWriteOp at e
  injection e with e; subst e
  have h := Keeps.refl s
  with_reducible repeat'
    first
    | assumption | intro _ | apply State.access_keeps | apply State.nvCmdWrite_keeps | apply State.when_keeps
    | apply State.each_keeps | apply Keeps.ite | apply Keeps.foldl | apply Keeps.foldl_fst | split
    | refine Keeps.fields ?_ rfl (Nat.le_refl _) (Nat.le_refl _)

theorem execNvCommitOp_keeps {x0 x1} {s t : State} (e : execNvCommitOp x0 x1 s = .next t) : Keeps s t := by
  unfold execNvCommitOp at e
  injection e with e; subst e
  have h := Keeps.refl s
  with_reducible repeat'
    first
    | assumption | intro _ | apply State.access_keeps | apply State.nvCmdWrite_keeps | apply State.when_keeps
    | apply State.each_keeps | apply Keeps.ite | apply Keeps.foldl | apply Keeps.foldl_fst | split
    | refine Keeps.fields ?_ rfl (Nat.le_refl _) (Nat.le_refl _)

theorem execNvDiscardOp_keeps {x0 x1} {s t : State} (e : execNvDiscardOp x0 x1 s = .next t) : Keeps s t := by
  unfold execNvDiscardOp at e
  injection e with e; subst e
  have h := Keeps.refl s
  with_reducible repeat'
    first
    | assumption | intro _ | apply State.access_keeps | apply State.nvCmdWrite_keeps | apply State.when_keeps
    | apply State.each_keeps | apply Keeps.ite | apply Keeps.foldl | apply Keeps.foldl_fst | split
    | refine Keeps.fields ?_ rfl (Nat.le_refl _) (Nat.le_refl _)

theorem execNvHotSaveOp_keeps {x0 x1} {s t : State} (e : execNvHotSaveOp x0 x1 s = .next t) : Keeps s t := by
  unfold execNvHotSaveOp at e
  injection e with e; subst e
  have h := Keeps.refl s
  with_reducible repeat'
    first
    | assumption | intro _ | apply State.access_keeps | apply State.nvCmdWrite_keeps | apply State.when_keeps
    | apply State.each_keeps | apply Keeps.ite | apply Keeps.foldl | apply Keeps.foldl_fst | split
    | refine Keeps.fields ?_ rfl (Nat.le_refl _) (Nat.le_refl _)

theorem execPfwNClear_keeps {s t : State} (e : execPfwNClear s = .next t) : Keeps s t := by
  unfold execPfwNClear at e
  injection e with e; subst e
  have h := Keeps.refl s
  with_reducible repeat'
    first
    | assumption | apply State.set_keeps

theorem execProtectWrite_keeps {x0 x1} {s t : State} (e : execProtectWrite x0 x1 s = .next t) : Keeps s t := by
  unfold execProtectWrite at e
  injection e with e; subst e
  have h := Keeps.refl s
  with_reducible repeat'
    first
    | assumption | intro _ | apply State.access_keeps | apply State.protectEffect_keeps | apply State.when_keeps
    | apply State.each_keeps | apply Keeps.ite | apply Keeps.foldl | apply Keeps.foldl_fst | split
    | refine Keeps.fields ?_ rfl (Nat.le_refl _) (Nat.le_refl _)

/-! ### Holdover.lean -/

theorem State.holdCtrlWrite_keeps (h : Keeps s t) (x0 x1 x2) : Keeps s (State.holdCtrlWrite x0 x1 x2 t) := by
  unfold State.holdCtrlWrite
  with_reducible repeat'
    first
    | assumption | intro _ | apply State.refuseWrite_keeps | apply State.raise_keeps | apply State.testRefused_keeps
    | apply State.clearStart_keeps | apply State.commitModel_keeps | apply State.when_keeps | apply Keeps.ite

theorem State.autoCal_keeps (h : Keeps s t) : Keeps s (State.autoCal t) := by
  unfold State.autoCal
  with_reducible repeat'
    first
    | assumption | intro _ | apply State.writeCal_keeps | apply State.raise_keeps | apply Keeps.ite | split
    | refine Keeps.fields ?_ rfl (Nat.le_refl _) (Nat.le_refl _)

theorem execObservation_keeps {s t : State} (e : execObservation s = .next t) : Keeps s t := by
  unfold execObservation at e
  injection e with e; subst e
  have h := Keeps.refl s
  with_reducible repeat'
    first
    | assumption | apply State.observe_keeps

theorem execTempSensorRead_keeps {s t : State} (e : execTempSensorRead s = .next t) : Keeps s t := by
  unfold execTempSensorRead at e
  injection e with e; subst e
  have h := Keeps.refl s
  with_reducible repeat'
    first
    | assumption | apply State.sensorDue_keeps

theorem execTempReadTimeout_keeps {s t : State} (e : execTempReadTimeout s = .next t) : Keeps s t := by
  unfold execTempReadTimeout at e
  injection e with e; subst e
  have h := Keeps.refl s
  with_reducible repeat'
    first
    | assumption | apply State.sensorLate_keeps

theorem execClear_keeps {x0 x1} {s t : State} (e : execClear x0 x1 s = .next t) : Keeps s t := by
  unfold execClear at e
  injection e with e; subst e
  have h := Keeps.refl s
  with_reducible repeat'
    first
    | assumption | intro _ | apply State.access_keeps | apply State.holdCtrlWrite_keeps | apply State.when_keeps
    | apply State.each_keeps | apply Keeps.ite | apply Keeps.foldl | apply Keeps.foldl_fst | split
    | refine Keeps.fields ?_ rfl (Nat.le_refl _) (Nat.le_refl _)

theorem execHoldoverTick_keeps {s t : State} (e : execHoldoverTick s = .next t) : Keeps s t := by
  unfold execHoldoverTick at e
  injection e with e; subst e
  have h := Keeps.refl s
  with_reducible repeat'
    first
    | assumption | apply State.holdTick_keeps

theorem execSpragExpiry_keeps {x0} {s t : State} (e : execSpragExpiry x0 s = .next t) : Keeps s t := by
  unfold execSpragExpiry at e
  injection e with e; subst e
  have h := Keeps.refl s
  with_reducible repeat'
    first
    | assumption | intro _ | apply State.expire_keeps | apply State.when_keeps

theorem execModelCommit_keeps {s t : State} (e : execModelCommit s = .next t) : Keeps s t := by
  unfold execModelCommit at e
  injection e with e; subst e
  have h := Keeps.refl s
  with_reducible repeat'
    first
    | assumption | intro _ | apply State.commitModel_keeps | apply State.when_keeps

theorem execHistoryCommit_keeps {s t : State} (e : execHistoryCommit s = .next t) : Keeps s t := by
  unfold execHistoryCommit at e
  injection e with e; subst e
  have h := Keeps.refl s
  with_reducible repeat'
    first
    | assumption | apply State.commitHistory_keeps

theorem execAutoCalibration_keeps {s t : State} (e : execAutoCalibration s = .next t) : Keeps s t := by
  unfold execAutoCalibration at e
  injection e with e; subst e
  have h := Keeps.refl s
  with_reducible repeat'
    first
    | assumption | apply State.autoCal_keeps

/-! ### ResetOps.lean -/

theorem State.latchStraps_keeps (h : Keeps s t) (x0) : Keeps s (State.latchStraps x0 t) := by
  unfold State.latchStraps
  with_reducible repeat'
    first
    | assumption | apply State.set_keeps | refine Keeps.fields ?_ rfl (Nat.le_refl _) (Nat.le_refl _)

theorem State.nodeFromLivery_keeps (h : Keeps s t) : Keeps s (State.nodeFromLivery t) := by
  unfold State.nodeFromLivery
  with_reducible repeat'
    first
    | assumption | intro _ | apply State.set_keeps | apply Keeps.ite

theorem State.loadLivery_keeps (h : Keeps s t) : Keeps s (State.loadLivery t) := by
  unfold State.loadLivery
  with_reducible repeat'
    first
    | assumption | intro _ | apply State.wr_keeps | apply State.set_keeps | apply State.setB_keeps
    | apply State.nodeFromLivery_keeps | apply State.logFault_keeps | apply State.when_keeps | apply Keeps.ite

theorem reset_regs_wf : smWf resetWord State.reset.regs = true := by decide +kernel
theorem State.blank_keeps (h : Keeps s t) : Keeps s (State.blank t) :=
  h.trans ⟨fun _ => reset_regs_wf, id, rfl, List.suffix_refl _, Nat.le_refl _, Nat.le_refl _⟩

theorem State.hardReset_keeps (h : Keeps s t) (x0) : Keeps s (State.hardReset x0 t) := by
  unfold State.hardReset
  with_reducible repeat'
    first
    | assumption | apply State.loadLivery_keeps | apply State.latchStraps_keeps | apply State.blank_keeps
    | apply State.nvCutNow_keeps

theorem State.internalReset_keeps (h : Keeps s t) (x0) : Keeps s (State.internalReset x0 t) := by
  unfold State.internalReset
  with_reducible repeat'
    first
    | assumption | intro _ | apply State.nvCutNow_keeps | apply State.blank_keeps | apply State.set_keeps
    | apply State.wr_keeps | apply State.setB_keeps | apply State.loadLivery_keeps | apply State.latchStraps_keeps
    | apply State.when_keeps | apply Keeps.foldl | apply Keeps.foldl_fst

theorem State.resetLow_keeps (h : Keeps s t) (x0) : Keeps s (State.resetLow x0 t) := by
  unfold State.resetLow
  with_reducible repeat'
    first
    | assumption | intro _ | apply State.useFree_keeps | apply State.blank_keeps | apply State.nvCutNow_keeps
    | apply State.when_keeps | apply Keeps.ite | refine Keeps.fields ?_ rfl (Nat.le_refl _) (Nat.le_refl _)

theorem execResetNAssert_keeps {x0} {s t : State} (e : execResetNAssert x0 s = .next t) : Keeps s t := by
  unfold execResetNAssert at e
  injection e with e; subst e
  have h := Keeps.refl s
  with_reducible repeat'
    first
    | assumption | apply State.resetLow_keeps

theorem execResetNRelease_keeps {x0} {s t : State} (e : execResetNRelease x0 s = .next t) : Keeps s t := by
  unfold execResetNRelease at e
  injection e with e; subst e
  have h := Keeps.refl s
  with_reducible repeat'
    first
    | assumption | apply State.hardReset_keeps

theorem execSupplyLoss_keeps {x0} {s t : State} (e : execSupplyLoss x0 s = .next t) : Keeps s t := by
  unfold execSupplyLoss at e
  injection e with e; subst e
  have h := Keeps.refl s
  with_reducible repeat'
    first
    | assumption | apply State.blank_keeps | apply State.nvCut_keeps
    | refine Keeps.fields ?_ rfl (Nat.le_refl _) (Nat.le_refl _)

/-! ### RestoreOps.lean -/

theorem State.hotRestore_keeps (h : Keeps s t) : Keeps s (State.hotRestore t) := by
  unfold State.hotRestore
  with_reducible repeat'
    first
    | assumption | intro _ | apply State.set_keeps | apply State.raise_keeps | apply State.when_keeps
    | apply Keeps.ite | split | refine Keeps.fields ?_ rfl (Nat.le_refl _) (Nat.le_refl _)
    | refine Keeps.array_fields ?_ rfl (Nat.le_refl _) (Nat.le_refl _)

theorem State.modelRestore_keeps (h : Keeps s t) : Keeps s (State.modelRestore t) := by
  unfold State.modelRestore
  with_reducible repeat'
    first
    | assumption | intro _ | apply State.raise_keeps | apply State.reportModel_keeps | apply State.set_keeps
    | apply State.setStage_keeps | apply State.when_keeps | split
    | refine Keeps.fields ?_ rfl (Nat.le_refl _) (Nat.le_refl _)

theorem State.modelReturn_keeps (h : Keeps s t) : Keeps s (State.modelReturn t) := by
  unfold State.modelReturn
  with_reducible repeat'
    first
    | assumption | intro _ | apply State.reportModel_keeps | apply State.setStage_keeps | apply Keeps.ite | split
    | refine Keeps.fields ?_ rfl (Nat.le_refl _) (Nat.le_refl _)

theorem State.calRestore_keeps (h : Keeps s t) : Keeps s (State.calRestore t) := by
  unfold State.calRestore
  with_reducible repeat'
    first
    | assumption | apply State.set_keeps | apply State.setWide_keeps | split

theorem State.logRecover_keeps (h : Keeps s t) (x0) : Keeps s (State.logRecover x0 t) := by
  unfold State.logRecover
  with_reducible repeat'
    first
    | assumption | intro _ | apply State.set_keeps | apply State.pageAppend_keeps | apply Keeps.ite
    | apply Keeps.foldl | apply Keeps.foldl_fst | split | refine Keeps.fields ?_ rfl (Nat.le_refl _) (Nat.le_refl _)

/-! ### PowerOps.lean -/

theorem State.gateShut_keeps (h : Keeps s t) (x0) : Keeps s (State.gateShut x0 t) := by
  unfold State.gateShut
  with_reducible repeat'
    first
    | assumption | intro _ | apply State.set_keeps | apply State.portPark_keeps | apply State.timersGate_keeps
    | apply State.phaseEvalAll_keeps | apply State.refLinesAll_keeps | apply State.each_keeps | apply Keeps.ite

theorem State.gateReopen_keeps (h : Keeps s t) (x0) : Keeps s (State.gateReopen x0 t) := by
  unfold State.gateReopen
  with_reducible repeat'
    first
    | assumption | intro _ | apply State.set_keeps | apply State.portUnpark_keeps | apply State.bufReopen_keeps
    | apply State.timersGate_keeps | apply State.gatesMove_keeps | apply State.phaseEvalAll_keeps
    | apply State.refLinesAll_keeps | apply State.gaugeFresh_keeps | apply State.each_keeps | apply Keeps.ite

theorem State.gateForce_keeps (h : Keeps s t) (x0 x1) : Keeps s (State.gateForce x0 x1 t) := by
  unfold State.gateForce
  with_reducible repeat'
    first
    | assumption | intro _ | apply State.logFault_keeps | apply State.errorReply_keeps | apply State.gateShut_keeps
    | apply State.countMod_keeps | apply Keeps.ite | apply Keeps.foldl | apply Keeps.foldl_fst

theorem State.govGates_keeps (h : Keeps s t) : Keeps s (State.govGates t) := by
  unfold State.govGates
  with_reducible repeat'
    first
    | assumption | intro _ | apply Keeps.foldl | apply Keeps.foldl_fst
    | refine Keeps.fields ?_ rfl (Nat.le_refl _) (Nat.le_refl _)

theorem State.showPower_keeps (h : Keeps s t) : Keeps s (State.showPower t) := by
  unfold State.showPower
  with_reducible repeat'
    first
    | assumption | intro _ | apply State.set_keeps | apply Keeps.ite

theorem State.lowerTo_keeps (h : Keeps s t) (x0) : Keeps s (State.lowerTo x0 t) := by
  unfold State.lowerTo
  with_reducible repeat'
    first
    | assumption | intro _ | apply State.portsPark_keeps | apply State.govGates_keeps | apply State.axleOff_keeps
    | apply State.refLinesAll_keeps | apply State.outEvalAll_keeps | apply State.each_keeps | apply Keeps.ite
    | refine Keeps.fields ?_ rfl (Nat.le_refl _) (Nat.le_refl _)

theorem State.gatesSettle_keeps (h : Keeps s t) : Keeps s (State.gatesSettle t) := by
  unfold State.gatesSettle
  with_reducible repeat'
    first
    | assumption | intro _ | apply State.gateShut_keeps | apply State.gateReopen_keeps | apply State.each_keeps

theorem State.setTarget_keeps (h : Keeps s t) (x0) : Keeps s (State.setTarget x0 t) := by
  unfold State.setTarget
  with_reducible repeat'
    first
    | assumption | apply State.setB_keeps | refine Keeps.fields ?_ rfl (Nat.le_refl _) (Nat.le_refl _)

theorem State.deepStops_keeps (h : Keeps s t) (x0) : Keeps s (State.deepStops x0 t) := by
  unfold State.deepStops
  with_reducible repeat'
    first
    | assumption | intro _ | apply State.statEnd_keeps | apply State.axleOff_keeps | apply State.setAxle_keeps
    | apply State.setB_keeps | apply State.set_keeps | apply State.clearRegs_keeps | apply State.outEvalAll_keeps
    | apply State.gatesSettle_keeps | apply State.govGates_keeps | apply State.each_keeps | apply Keeps.ite
    | refine Keeps.fields ?_ rfl (Nat.le_refl _) (Nat.le_refl _)

theorem State.vigilFix_keeps (h : Keeps s t) : Keeps s (State.vigilFix t) := by
  unfold State.vigilFix
  with_reducible repeat'
    first
    | assumption | intro _ | apply State.fixHold_keeps | apply State.when_keeps | apply State.each_keeps
    | refine Keeps.fields ?_ rfl (Nat.le_refl _) (Nat.le_refl _)

theorem State.powerNv_keeps (h : Keeps s t) : Keeps s (State.powerNv t) := by
  unfold State.powerNv
  with_reducible repeat'
    first
    | assumption | intro _ | apply State.raise_keeps | apply State.nvDirty_keeps | apply State.hotSaveStart_keeps
    | apply State.mbxResetAll_keeps | apply State.requestSwitch_keeps | apply State.deepStops_keeps
    | apply State.when_keeps | apply Keeps.ite | split | refine Keeps.fields ?_ rfl (Nat.le_refl _) (Nat.le_refl _)

theorem State.powerEnter_keeps (h : Keeps s t) (x0 x1) : Keeps s (State.powerEnter x0 x1 t) := by
  unfold State.powerEnter
  with_reducible repeat'
    first
    | assumption | intro _ | apply State.setTarget_keeps | apply State.showPower_keeps | apply State.lowerTo_keeps
    | apply State.commitModel_keeps | apply State.powerNv_keeps | apply Keeps.ite | split
    | refine Keeps.fields ?_ rfl (Nat.le_refl _) (Nat.le_refl _)

theorem State.rise_keeps (h : Keeps s t) (x0) : Keeps s (State.rise x0 t) := by
  unfold State.rise
  with_reducible repeat'
    first
    | assumption | intro _ | apply State.gatesSettle_keeps | apply State.govGates_keeps
    | apply State.calRestartAll_keeps | apply State.axleStart_keeps | apply State.refLinesAll_keeps
    | apply State.outEvalAll_keeps | apply State.portUnpark_keeps | apply State.when_keeps | apply State.each_keeps
    | apply Keeps.ite | refine Keeps.fields ?_ rfl (Nat.le_refl _) (Nat.le_refl _)

theorem State.vigilRefused_keeps (h : Keeps s t) : Keeps s (State.vigilRefused t) := by
  unfold State.vigilRefused
  with_reducible repeat'
    first
    | assumption | intro _ | apply State.setTarget_keeps | apply State.rise_keeps | apply State.raise_keeps
    | apply State.set_keeps | apply Keeps.ite | refine Keeps.fields ?_ rfl (Nat.le_refl _) (Nat.le_refl _)

theorem State.shedNext_keeps (h : Keeps s t) : Keeps s (State.shedNext t) := by
  unfold State.shedNext
  with_reducible repeat'
    first
    | assumption | intro _ | apply State.govGates_keeps | apply Keeps.ite
    | refine Keeps.fields ?_ rfl (Nat.le_refl _) (Nat.le_refl _)

theorem State.shedBack_keeps (h : Keeps s t) : Keeps s (State.shedBack t) := by
  unfold State.shedBack
  with_reducible repeat'
    first
    | assumption | apply State.govGates_keeps | refine Keeps.fields ?_ rfl (Nat.le_refl _) (Nat.le_refl _)

theorem State.govStep_keeps (h : Keeps s t) (x0) : Keeps s (State.govStep x0 t) := by
  unfold State.govStep
  with_reducible repeat'
    first
    | assumption | intro _ | apply State.logFault_keeps | apply State.raise_keeps | apply State.set_keeps
    | apply State.queueEvent_keeps | apply State.mirThermal_keeps | apply State.shedNext_keeps
    | apply State.shedBack_keeps | apply State.powerEnter_keeps | apply State.when_keeps | apply Keeps.ite
    | refine Keeps.fields ?_ rfl (Nat.le_refl _) (Nat.le_refl _)

theorem State.powerExit_keeps (h : Keeps s t) (x0) : Keeps s (State.powerExit x0 t) := by
  unfold State.powerExit
  with_reducible repeat'
    first
    | assumption | intro _ | apply State.set_keeps | apply State.setTarget_keeps | apply State.requestSwitch_keeps
    | apply Keeps.ite

theorem State.powerAsk_keeps (h : Keeps s t) (x0 x1 x2) : Keeps s (State.powerAsk x0 x1 x2 t) := by
  unfold State.powerAsk
  with_reducible repeat'
    first
    | assumption | intro _ | apply State.raise_keeps | apply State.set_keeps | apply State.govStep_keeps
    | apply State.powerExit_keeps | apply State.powerEnter_keeps | apply State.when_keeps | apply Keeps.ite
    | refine Keeps.fields ?_ rfl (Nat.le_refl _) (Nat.le_refl _)

theorem State.pwrReqWrite_keeps (h : Keeps s t) (x0 x1 x2) : Keeps s (State.pwrReqWrite x0 x1 x2 t) := by
  unfold State.pwrReqWrite
  with_reducible repeat'
    first
    | assumption | intro _ | apply State.plainWrite_keeps | apply State.refuseWrite_keeps | apply State.set_keeps
    | apply State.powerAsk_keeps | apply Keeps.ite

theorem State.wakeNow_keeps (h : Keeps s t) (x0) : Keeps s (State.wakeNow x0 t) := by
  unfold State.wakeNow
  with_reducible repeat'
    first
    | assumption | apply State.powerAsk_keeps | apply State.powerExit_keeps | split

theorem State.wake_keeps (h : Keeps s t) (x0) : Keeps s (State.wake x0 t) := by
  unfold State.wake
  with_reducible repeat'
    first
    | assumption | intro _ | apply State.wakeNow_keeps | apply State.when_keeps | apply Keeps.ite | split
    | refine Keeps.fields ?_ rfl (Nat.le_refl _) (Nat.le_refl _)

theorem State.tbaseSettle_keeps (h : Keeps s t) : Keeps s (State.tbaseSettle t) := by
  unfold State.tbaseSettle
  with_reducible repeat'
    first
    | assumption | intro _ | apply State.switchDone_keeps | apply State.each_keeps | split

theorem State.entryDone_keeps (h : Keeps s t) : Keeps s (State.entryDone t) := by
  unfold State.entryDone
  with_reducible repeat'
    first
    | assumption | intro _ | apply State.powerNv_keeps | apply State.saveEnd_keeps | apply State.jobEnd_keeps
    | apply State.deepStops_keeps | apply State.vigilFix_keeps | apply State.tbaseSettle_keeps
    | apply State.gatesSettle_keeps | apply State.setTarget_keeps | apply State.wakeNow_keeps | apply Keeps.ite
    | split | refine Keeps.fields ?_ rfl (Nat.le_refl _) (Nat.le_refl _)

theorem State.vigilTemps_keeps (h : Keeps s t) (x0) : Keeps s (State.vigilTemps x0 t) := by
  unfold State.vigilTemps
  with_reducible repeat'
    first
    | assumption | intro _ | apply State.slewEval_keeps | refine Keeps.fields ?_ rfl (Nat.le_refl _) (Nat.le_refl _)

theorem State.vigilLoops_keeps (h : Keeps s t) : Keeps s (State.vigilLoops t) := by
  unfold State.vigilLoops
  with_reducible repeat'
    first
    | assumption | intro _ | apply State.vigilTemps_keeps | apply State.reportBound_keeps
    | apply State.setLoopState_keeps | apply State.setHoldLoop_keeps | apply State.each_keeps | apply Keeps.ite
    | refine Keeps.fields ?_ rfl (Nat.le_refl _) (Nat.le_refl _)

theorem State.vigilRef_keeps (h : Keeps s t) (x0) : Keeps s (State.vigilRef x0 t) := by
  unfold State.vigilRef
  with_reducible repeat'
    first
    | assumption | intro _ | apply State.refLines_keeps | apply State.setRef_keeps | apply State.edgesStop_keeps
    | apply State.clearWindows_keeps | apply State.setRefState_keeps | apply State.set_keeps | apply Keeps.ite
    | refine Keeps.fields ?_ rfl (Nat.le_refl _) (Nat.le_refl _)

theorem State.vigilSel_keeps (h : Keeps s t) (x0) : Keeps s (State.vigilSel x0 t) := by
  unfold State.vigilSel
  with_reducible repeat'
    first
    | assumption | apply State.set_keeps | apply State.setSel_keeps
    | refine Keeps.fields ?_ rfl (Nat.le_refl _) (Nat.le_refl _)

theorem State.vigilRefs_keeps (h : Keeps s t) : Keeps s (State.vigilRefs t) := by
  unfold State.vigilRefs
  with_reducible repeat'
    first
    | assumption | intro _ | apply State.thenSelect_keeps | apply State.vigilRef_keeps | apply State.vigilSel_keeps
    | apply State.each_keeps

theorem State.vigilExit_keeps (h : Keeps s t) : Keeps s (State.vigilExit t) := by
  unfold State.vigilExit
  with_reducible repeat'
    first
    | assumption | intro _ | apply State.gatesSettle_keeps | apply State.govGates_keeps | apply State.axleTo_keeps
    | apply State.modelReturn_keeps | apply State.logRecover_keeps | apply State.hotRestore_keeps
    | apply State.failover_keeps | apply State.raise_keeps | apply State.set_keeps | apply State.retime_keeps
    | apply State.vigilRefs_keeps | apply State.vigilLoops_keeps | apply State.offerEval_keeps
    | apply State.axleStart_keeps | apply State.setSessState_keeps | apply State.dropExchanges_keeps
    | apply State.outEvalAll_keeps | apply State.calRestartAll_keeps | apply State.portUnpark_keeps
    | apply State.when_keeps | apply State.each_keeps | apply Keeps.ite
    | refine Keeps.fields ?_ rfl (Nat.le_refl _) (Nat.le_refl _)

theorem State.exitDone_keeps (h : Keeps s t) : Keeps s (State.exitDone t) := by
  unfold State.exitDone
  with_reducible repeat'
    first
    | assumption | intro _ | apply State.internalReset_keeps | apply State.raise_keeps | apply State.setTarget_keeps
    | apply State.showPower_keeps | apply State.powerEnter_keeps | apply State.switchDone_keeps
    | apply State.switchByForce_keeps | apply State.vigilExit_keeps | apply State.rise_keeps | apply Keeps.ite | split

/-! ### Power.lean -/

theorem State.wakePin_keeps (h : Keeps s t) (x0) : Keeps s (State.wakePin x0 t) := by
  unfold State.wakePin
  with_reducible repeat'
    first
    | assumption | intro _ | apply State.useFree_keeps | apply State.wake_keeps | apply State.when_keeps

theorem State.vigilLoss_keeps (h : Keeps s t) (x0) : Keeps s (State.vigilLoss x0 t) := by
  unfold State.vigilLoss
  with_reducible repeat'
    first
    | assumption | intro _ | apply State.raise_keeps | apply State.wake_keeps | apply Keeps.ite
    | refine Keeps.fields ?_ rfl (Nat.le_refl _) (Nat.le_refl _)

theorem State.governor_keeps (h : Keeps s t) : Keeps s (State.governor t) := by
  unfold State.governor
  with_reducible repeat'
    first
    | assumption | intro _ | apply State.govStep_keeps | apply Keeps.ite
    | refine Keeps.fields ?_ rfl (Nat.le_refl _) (Nat.le_refl _)

theorem State.shedTick_keeps (h : Keeps s t) : Keeps s (State.shedTick t) := by
  unfold State.shedTick
  with_reducible repeat'
    first
    | assumption | intro _ | apply State.shedBack_keeps | apply State.shedNext_keeps | apply State.when_keeps
    | apply Keeps.ite

theorem State.shedWrite_keeps (h : Keeps s t) (x0 x1 x2 x3) : Keeps s (State.shedWrite x0 x1 x2 x3 t) := by
  unfold State.shedWrite
  with_reducible repeat'
    first
    | assumption | intro _ | apply State.badRange_keeps | apply State.plainWrite_keeps | apply Keeps.ite

theorem State.pfwLine_keeps (h : Keeps s t) (x0) : Keeps s (State.pfwLine x0 t) := by
  unfold State.pfwLine
  with_reducible repeat'
    first
    | assumption | intro _ | apply State.useFree_keeps | apply State.pfwTaken_keeps | apply State.powerEnter_keeps
    | apply State.when_keeps | apply Keeps.ite | refine Keeps.fields ?_ rfl (Nat.le_refl _) (Nat.le_refl _)

theorem execCommitDone_keeps {s t : State} (e : execCommitDone s = .next t) : Keeps s t := by
  unfold execCommitDone at e
  injection e with e; subst e
  have h := Keeps.refl s
  with_reducible repeat'
    first
    | assumption | apply State.powerNv_keeps | apply State.jobEnd_keeps

theorem execHotSaveDone_keeps {s t : State} (e : execHotSaveDone s = .next t) : Keeps s t := by
  unfold execHotSaveDone at e
  injection e with e; subst e
  have h := Keeps.refl s
  with_reducible repeat'
    first
    | assumption | apply State.powerNv_keeps | apply State.saveEnd_keeps

theorem execClearCommitDone_keeps {s t : State} (e : execClearCommitDone s = .next t) : Keeps s t := by
  unfold execClearCommitDone at e
  injection e with e; subst e
  have h := Keeps.refl s
  with_reducible repeat'
    first
    | assumption | intro _ | apply State.powerNv_keeps | apply State.jobEnd_keeps | apply State.when_keeps

theorem execCalibrationTakesEffect_keeps {s t : State} (e : execCalibrationTakesEffect s = .next t) : Keeps s t := by
  unfold execCalibrationTakesEffect at e
  injection e with e; subst e
  have h := Keeps.refl s
  with_reducible repeat'
    first
    | assumption | intro _ | apply State.calEffect_keeps | apply State.powerNv_keeps | apply State.jobEnd_keeps
    | apply State.when_keeps

theorem execPfwNFall_keeps {x0} {s t : State} (e : execPfwNFall x0 s = .next t) : Keeps s t := by
  unfold execPfwNFall at e
  injection e with e; subst e
  have h := Keeps.refl s
  with_reducible repeat'
    first
    | assumption | apply State.pfwLine_keeps

theorem execPowerRequest_keeps {x0 x1} {s t : State} (e : execPowerRequest x0 x1 s = .next t) : Keeps s t := by
  unfold execPowerRequest at e
  injection e with e; subst e
  have h := Keeps.refl s
  with_reducible repeat'
    first
    | assumption | intro _ | apply State.access_keeps | apply State.pwrReqWrite_keeps | apply State.when_keeps
    | apply State.each_keeps | apply Keeps.ite | apply Keeps.foldl | apply Keeps.foldl_fst | split
    | refine Keeps.fields ?_ rfl (Nat.le_refl _) (Nat.le_refl _)

theorem execPowerEntryComplete_keeps {s t : State} (e : execPowerEntryComplete s = .next t) : Keeps s t := by
  unfold execPowerEntryComplete at e
  injection e with e; subst e
  have h := Keeps.refl s
  with_reducible repeat'
    first
    | assumption | apply State.entryDone_keeps

theorem execWakeN_keeps {x0} {s t : State} (e : execWakeN x0 s = .next t) : Keeps s t := by
  unfold execWakeN at e
  injection e with e; subst e
  have h := Keeps.refl s
  with_reducible repeat'
    first
    | assumption | apply State.wakePin_keeps

theorem execWakeTimer_keeps {s t : State} (e : execWakeTimer s = .next t) : Keeps s t := by
  unfold execWakeTimer at e
  injection e with e; subst e
  have h := Keeps.refl s
  with_reducible repeat'
    first
    | assumption | apply State.wake_keeps

theorem execSpiCsNWake_keeps {s t : State} (e : execSpiCsNWake s = .next t) : Keeps s t := by
  unfold execSpiCsNWake at e
  injection e with e; subst e
  have h := Keeps.refl s
  with_reducible repeat'
    first
    | assumption | apply State.wake_keeps

theorem execVigilXoLoss_keeps {x0} {s t : State} (e : execVigilXoLoss x0 s = .next t) : Keeps s t := by
  unfold execVigilXoLoss at e
  injection e with e; subst e
  have h := Keeps.refl s
  with_reducible repeat'
    first
    | assumption | apply State.vigilLoss_keeps

theorem execPowerExitComplete_keeps {s t : State} (e : execPowerExitComplete s = .next t) : Keeps s t := by
  unfold execPowerExitComplete at e
  injection e with e; subst e
  have h := Keeps.refl s
  with_reducible repeat'
    first
    | assumption | apply State.exitDone_keeps

theorem execGovernorReading_keeps {s t : State} (e : execGovernorReading s = .next t) : Keeps s t := by
  unfold execGovernorReading at e
  injection e with e; subst e
  have h := Keeps.refl s
  with_reducible repeat'
    first
    | assumption | apply State.governor_keeps

theorem execShedTimer_keeps {s t : State} (e : execShedTimer s = .next t) : Keeps s t := by
  unfold execShedTimer at e
  injection e with e; subst e
  have h := Keeps.refl s
  with_reducible repeat'
    first
    | assumption | apply State.shedTick_keeps

theorem execTokenGain_keeps {s t : State} (e : execTokenGain s = .next t) : Keeps s t := by
  unfold execTokenGain at e
  injection e with e; subst e
  have h := Keeps.refl s
  with_reducible repeat'
    first
    | assumption | intro _ | apply State.set_keeps | apply State.when_keeps

theorem execWearPeriodEnd_keeps {s t : State} (e : execWearPeriodEnd s = .next t) : Keeps s t := by
  unfold execWearPeriodEnd at e
  injection e with e; subst e
  have h := Keeps.refl s
  with_reducible repeat'
    first
    | assumption | refine Keeps.fields ?_ rfl (Nat.le_refl _) (Nat.le_refl _)

/-! ### Clocks.lean -/

theorem State.gateWrite_keeps (h : Keeps s t) (x0 x1 x2) : Keeps s (State.gateWrite x0 x1 x2 t) := by
  unfold State.gateWrite
  with_reducible repeat'
    first
    | assumption | apply State.plainWrite_keeps

theorem State.afterSwitch_keeps (h : Keeps s t) (x0) : Keeps s (State.afterSwitch x0 t) := by
  unfold State.afterSwitch
  with_reducible repeat'
    first
    | assumption | intro _ | apply State.deepStops_keeps | apply State.vigilFix_keeps | apply State.when_keeps

theorem State.switchEnd_keeps (h : Keeps s t) (x0) : Keeps s (State.switchEnd x0 t) := by
  unfold State.switchEnd
  with_reducible repeat'
    first
    | assumption | apply State.afterSwitch_keeps | apply State.switchDone_keeps | split

theorem State.switchForce_keeps (h : Keeps s t) (x0) : Keeps s (State.switchForce x0 t) := by
  unfold State.switchForce
  with_reducible repeat'
    first
    | assumption | apply State.afterSwitch_keeps | apply State.switchByForce_keeps | split

theorem State.switchAbandon_keeps (h : Keeps s t) (x0) : Keeps s (State.switchAbandon x0 t) := by
  unfold State.switchAbandon
  with_reducible repeat'
    first
    | assumption | intro _ | apply State.switchDropped_keeps | apply State.vigilRefused_keeps | apply Keeps.ite
    | split | refine Keeps.fields ?_ rfl (Nat.le_refl _) (Nat.le_refl _)

theorem State.switchAgain_keeps (h : Keeps s t) (x0) : Keeps s (State.switchAgain x0 t) := by
  unfold State.switchAgain
  with_reducible repeat'
    first
    | assumption | intro _ | apply State.laneFollow_keeps | apply State.requestSwitch_keeps | apply Keeps.ite | split
    | refine Keeps.fields ?_ rfl (Nat.le_refl _) (Nat.le_refl _)

theorem State.freqLoss_keeps (h : Keeps s t) (x0 x1) : Keeps s (State.freqLoss x0 x1 t) := by
  unfold State.freqLoss
  with_reducible repeat'
    first
    | assumption | intro _ | apply State.xoLoss_keeps | apply Keeps.ite
    | refine Keeps.fields ?_ rfl (Nat.le_refl _) (Nat.le_refl _)

theorem execXoJudgementDone_keeps {x0 x1 x2} {s t : State} (e : execXoJudgementDone x0 x1 x2 s = .next t) : Keeps s t := by
  unfold execXoJudgementDone at e
  injection e with e; subst e
  have h := Keeps.refl s
  with_reducible repeat'
    first
    | assumption | apply State.xoJudge_keeps

theorem execXoActivityLoss_keeps {s t : State} (e : execXoActivityLoss s = .next t) : Keeps s t := by
  unfold execXoActivityLoss at e
  injection e with e; subst e
  have h := Keeps.refl s
  with_reducible repeat'
    first
    | assumption | intro _ | apply State.xoLoss_keeps | apply State.when_keeps

theorem execXoFrequencyLoss_keeps {x0 x1} {s t : State} (e : execXoFrequencyLoss x0 x1 s = .next t) : Keeps s t := by
  unfold execXoFrequencyLoss at e
  injection e with e; subst e
  have h := Keeps.refl s
  with_reducible repeat'
    first
    | assumption | intro _ | apply State.freqLoss_keeps | apply State.when_keeps

theorem execFailoverLock_keeps {s t : State} (e : execFailoverLock s = .next t) : Keeps s t := by
  unfold execFailoverLock at e
  injection e with e; subst e
  have h := Keeps.refl s
  with_reducible repeat'
    first
    | assumption | refine Keeps.fields ?_ rfl (Nat.le_refl _) (Nat.le_refl _)

theorem execXoReturnRequest_keeps {x0 x1} {s t : State} (e : execXoReturnRequest x0 x1 s = .next t) : Keeps s t := by
  unfold execXoReturnRequest at e
  injection e with e; subst e
  have h := Keeps.refl s
  with_reducible repeat'
    first
    | assumption | intro _ | apply State.access_keeps | apply State.xoCtrlWrite_keeps | apply State.when_keeps
    | apply State.each_keeps | apply Keeps.ite | apply Keeps.foldl | apply Keeps.foldl_fst | split
    | refine Keeps.fields ?_ rfl (Nat.le_refl _) (Nat.le_refl _)

theorem execXoReturnLock_keeps {x0} {s t : State} (e : execXoReturnLock x0 s = .next t) : Keeps s t := by
  unfold execXoReturnLock at e
  injection e with e; subst e
  have h := Keeps.refl s
  with_reducible repeat'
    first
    | assumption | apply State.xoReturned_keeps

theorem execXoMonitorWindow_keeps {x0 x1 x2} {s t : State} (e : execXoMonitorWindow x0 x1 x2 s = .next t) : Keeps s t := by
  unfold execXoMonitorWindow at e
  injection e with e; subst e
  have h := Keeps.refl s
  with_reducible repeat'
    first
    | assumption | apply State.monitorWindow_keeps

theorem execGateRequest_keeps {x0 x1} {s t : State} (e : execGateRequest x0 x1 s = .next t) : Keeps s t := by
  unfold execGateRequest at e
  injection e with e; subst e
  have h := Keeps.refl s
  with_reducible repeat'
    first
    | assumption | intro _ | apply State.access_keeps | apply State.gateWrite_keeps | apply State.when_keeps
    | apply State.each_keeps | apply Keeps.ite | apply Keeps.foldl | apply Keeps.foldl_fst | split
    | refine Keeps.fields ?_ rfl (Nat.le_refl _) (Nat.le_refl _)

theorem execGateTakesEffect_keeps {x0} {s t : State} (e : execGateTakesEffect x0 s = .next t) : Keeps s t := by
  unfold execGateTakesEffect at e
  injection e with e; subst e
  have h := Keeps.refl s
  with_reducible repeat'
    first
    | assumption | apply State.gateShut_keeps

theorem execForcedGate_keeps {x0 x1} {s t : State} (e : execForcedGate x0 x1 s = .next t) : Keeps s t := by
  unfold execForcedGate at e
  injection e with e; subst e
  have h := Keeps.refl s
  with_reducible repeat'
    first
    | assumption | apply State.gateForce_keeps

theorem execGateOpen_keeps {x0} {s t : State} (e : execGateOpen x0 s = .next t) : Keeps s t := by
  unfold execGateOpen at e
  injection e with e; subst e
  have h := Keeps.refl s
  with_reducible repeat'
    first
    | assumption | apply State.gateReopen_keeps

theorem execDomainSourceWrite_keeps {x0 x1} {s t : State} (e : execDomainSourceWrite x0 x1 s = .next t) : Keeps s t := by
  unfold execDomainSourceWrite at e
  injection e with e; subst e
  have h := Keeps.refl s
  with_reducible repeat'
    first
    | assumption | intro _ | apply State.access_keeps | apply State.domSrcWrite_keeps | apply State.when_keeps
    | apply State.each_keeps | apply Keeps.ite | apply Keeps.foldl | apply Keeps.foldl_fst | split
    | refine Keeps.fields ?_ rfl (Nat.le_refl _) (Nat.le_refl _)

theorem execSwitchComplete_keeps {x0} {s t : State} (e : execSwitchComplete x0 s = .next t) : Keeps s t := by
  unfold execSwitchComplete at e
  injection e with e; subst e
  have h := Keeps.refl s
  with_reducible repeat'
    first
    | assumption | apply State.switchEnd_keeps

theorem execSwitchForced_keeps {x0} {s t : State} (e : execSwitchForced x0 s = .next t) : Keeps s t := by
  unfold execSwitchForced at e
  injection e with e; subst e
  have h := Keeps.refl s
  with_reducible repeat'
    first
    | assumption | apply State.switchForce_keeps

theorem execSwitchAbandoned_keeps {x0} {s t : State} (e : execSwitchAbandoned x0 s = .next t) : Keeps s t := by
  unfold execSwitchAbandoned at e
  injection e with e; subst e
  have h := Keeps.refl s
  with_reducible repeat'
    first
    | assumption | apply State.switchAbandon_keeps

theorem execSwitchRetry_keeps {x0} {s t : State} (e : execSwitchRetry x0 s = .next t) : Keeps s t := by
  unfold execSwitchRetry at e
  injection e with e; subst e
  have h := Keeps.refl s
  with_reducible repeat'
    first
    | assumption | apply State.switchAgain_keeps

theorem execClkoutWrite_keeps {x0 x1} {s t : State} (e : execClkoutWrite x0 x1 s = .next t) : Keeps s t := by
  unfold execClkoutWrite at e
  injection e with e; subst e
  have h := Keeps.refl s
  with_reducible repeat'
    first
    | assumption | intro _ | apply State.access_keeps | apply State.clkoutWrite_keeps | apply State.when_keeps
    | apply State.each_keeps | apply Keeps.ite | apply Keeps.foldl | apply Keeps.foldl_fst | split
    | refine Keeps.fields ?_ rfl (Nat.le_refl _) (Nat.le_refl _)

/-! ### StagingOps.lean -/

theorem State.setBoot_keeps (h : Keeps s t) (x0) : Keeps s (State.setBoot x0 t) := by
  unfold State.setBoot
  with_reducible repeat'
    first
    | assumption | apply State.faultNEval_keeps | apply State.set_keeps

theorem State.showFifo_keeps (h : Keeps s t) : Keeps s (State.showFifo t) := by
  unfold State.showFifo
  with_reducible repeat'
    first
    | assumption | apply State.set_keeps

theorem State.flashRead_keeps (h : Keeps s t) : Keeps s (State.flashRead t) := by
  unfold State.flashRead
  with_reducible repeat'
    first
    | assumption | intro _ | apply State.emit_keeps | apply Keeps.ite

theorem State.discoverStart_keeps (h : Keeps s t) : Keeps s (State.discoverStart t) := by
  unfold State.discoverStart
  with_reducible repeat'
    first
    | assumption | apply State.emit_keeps | apply State.setBoot_keeps

theorem State.fetchStart_keeps (h : Keeps s t) : Keeps s (State.fetchStart t) := by
  unfold State.fetchStart
  with_reducible repeat'
    first
    | assumption | intro _ | apply State.flashRead_keeps | apply State.setBoot_keeps | apply State.set_keeps
    | apply State.showFifo_keeps | apply State.when_keeps | refine Keeps.fields ?_ rfl (Nat.le_refl _) (Nat.le_refl _)

theorem State.fifoTake_keeps (h : Keeps s t) : Keeps s (State.fifoTake t) := by
  unfold State.fifoTake
  with_reducible repeat'
    first
    | assumption | apply State.showFifo_keeps | split | refine Keeps.fields ?_ rfl (Nat.le_refl _) (Nat.le_refl _)

theorem State.fifoDrain_keeps (h : Keeps s t) : Keeps s (State.fifoDrain t) := by
  unfold State.fifoDrain
  with_reducible repeat'
    first
    | assumption | intro _ | apply State.showFifo_keeps | refine Keeps.fields ?_ rfl (Nat.le_refl _) (Nat.le_refl _)

theorem State.fifoTick_keeps (h : Keeps s t) : Keeps s (State.fifoTick t) := by
  unfold State.fifoTick
  with_reducible repeat'
    first
    | assumption | intro _ | apply State.fifoTake_keeps | apply Keeps.ite

theorem State.reject_keeps (h : Keeps s t) (x0) : Keeps s (State.reject x0 t) := by
  unfold State.reject
  with_reducible repeat'
    first
    | assumption | intro _ | apply State.set_keeps | apply State.count_keeps | apply State.logFault_keeps
    | apply State.fetchStart_keeps | apply State.setBoot_keeps | apply Keeps.ite
    | refine Keeps.fields ?_ rfl (Nat.le_refl _) (Nat.le_refl _)

theorem State.nvRestore_keeps (h : Keeps s t) : Keeps s (State.nvRestore t) := by
  unfold State.nvRestore
  with_reducible repeat'
    first
    | assumption | apply State.calRestore_keeps | apply State.modelRestore_keeps | apply State.logRecover_keeps
    | apply State.hotRestore_keeps

theorem State.stagingEnd_keeps (h : Keeps s t) (x0 x1) : Keeps s (State.stagingEnd x0 x1 t) := by
  unfold State.stagingEnd
  with_reducible repeat'
    first
    | assumption | intro _ | apply State.useFree_keeps | apply State.set_keeps | apply State.setBoot_keeps
    | apply State.nvRestore_keeps | apply State.loopStart_keeps | apply State.setMode_keeps
    | apply State.axleStart_keeps | apply State.portsStart_keeps | apply State.when_keeps | apply State.each_keeps
    | apply Keeps.ite | refine Keeps.fields ?_ rfl (Nat.le_refl _) (Nat.le_refl _)

theorem State.rootStart_keeps (h : Keeps s t) : Keeps s (State.rootStart t) := by
  unfold State.rootStart
  with_reducible repeat'
    first
    | assumption | intro _ | apply State.axleTo_keeps | apply State.discoverStart_keeps | apply State.reject_keeps
    | apply State.stagingEnd_keeps | apply State.fetchStart_keeps | apply Keeps.ite
    | refine Keeps.fields ?_ rfl (Nat.le_refl _) (Nat.le_refl _)

theorem State.discovered_keeps (h : Keeps s t) (x0 x1) : Keeps s (State.discovered x0 x1 t) := by
  unfold State.discovered
  with_reducible repeat'
    first
    | assumption | intro _ | apply State.fetchStart_keeps | apply Keeps.ite
    | refine Keeps.fields ?_ rfl (Nat.le_refl _) (Nat.le_refl _)

theorem State.bootData_keeps (h : Keeps s t) (x0 x1) : Keeps s (State.bootData x0 x1 t) := by
  unfold State.bootData
  with_reducible repeat'
    first
    | assumption | intro _ | apply State.showFifo_keeps | apply State.refuseWrite_keeps | apply State.fetchStart_keeps
    | apply State.reject_keeps | apply Keeps.ite | refine Keeps.fields ?_ rfl (Nat.le_refl _) (Nat.le_refl _)

theorem State.firstSlot_keeps (h : Keeps s t) : Keeps s (State.firstSlot t) := by
  unfold State.firstSlot
  with_reducible repeat'
    first
    | assumption | apply State.set_keeps | refine Keeps.fields ?_ rfl (Nat.le_refl _) (Nat.le_refl _)

theorem State.bootCtrl_keeps (h : Keeps s t) (x0 x1) : Keeps s (State.bootCtrl x0 x1 t) := by
  unfold State.bootCtrl
  with_reducible repeat'
    first
    | assumption | intro _ | apply State.refuseWrite_keeps | apply State.fetchStart_keeps
    | apply State.firstSlot_keeps | apply State.discoverStart_keeps | apply State.when_keeps | apply Keeps.ite

/-! ### TableOps.lean -/

theorem State.putGate_keeps (h : Keeps s t) (x0) : Keeps s (State.putGate x0 t) := by
  unfold State.putGate
  with_reducible repeat'
    first
    | assumption | apply State.set_keeps | split

theorem State.putDelay_keeps (h : Keeps s t) (x0) : Keeps s (State.putDelay x0 t) := by
  unfold State.putDelay
  with_reducible repeat'
    first
    | assumption | apply State.set_keeps | split

theorem State.loadEntry_keeps (h : Keeps s t) (x0 x1) : Keeps s (State.loadEntry x0 x1 t).1 := by
  unfold State.loadEntry
  with_reducible repeat'
    first
    | assumption | intro _ | apply State.placeMac_keeps | apply State.setVlan_keeps | apply State.setRule_keeps
    | apply State.refuseWrite_keeps | apply State.putGate_keeps | apply State.putDelay_keeps | apply Keeps.ite
    | apply Keeps.ite_fst | split

theorem State.bankOp_keeps (h : Keeps s t) (x0 x1 x2 x3) : Keeps s (State.bankOp x0 x1 x2 x3 t).1 := by
  unfold State.bankOp
  with_reducible repeat'
    first
    | assumption | apply State.setTblData_keeps | apply State.set_keeps | apply State.tblOp_keeps

/-! ### HostOps.lean -/

theorem State.clearCapture_keeps (h : Keeps s t) : Keeps s (State.clearCapture t) := by
  unfold State.clearCapture
  with_reducible repeat'
    first
    | assumption | intro _ | apply State.wr_keeps | apply State.set_keeps | apply State.each_keeps

theorem State.fltCtrlWrite_keeps (h : Keeps s t) (x0) : Keeps s (State.fltCtrlWrite x0 t) := by
  unfold State.fltCtrlWrite
  with_reducible repeat'
    first
    | assumption | intro _ | apply State.setB_keeps | apply State.clearCapture_keeps | apply State.outEvalAll_keeps
    | apply State.set_keeps | apply State.faultNEval_keeps | apply State.when_keeps

theorem State.fltSqWrite_keeps (h : Keeps s t) (x0 x1 x2) : Keeps s (State.fltSqWrite x0 x1 x2 t) := by
  unfold State.fltSqWrite
  with_reducible repeat'
    first
    | assumption | apply State.outEvalAll_keeps | apply State.plainWrite_keeps

theorem State.tempLimWrite_keeps (h : Keeps s t) (x0 x1 x2) : Keeps s (State.tempLimWrite x0 x1 x2 t) := by
  unfold State.tempLimWrite
  with_reducible repeat'
    first
    | assumption | intro _ | apply State.plainWrite_keeps | apply State.badRange_keeps | apply Keeps.ite

theorem State.ringStop_keeps (h : Keeps s t) (x0) : Keeps s (State.ringStop x0 t) := by
  unfold State.ringStop
  with_reducible repeat'
    first
    | assumption | apply State.set_keeps

theorem State.ringLenEffect_keeps (h : Keeps s t) (x0 x1 x2 x3) : Keeps s (State.ringLenEffect x0 x1 x2 x3 t) := by
  unfold State.ringLenEffect
  with_reducible repeat'
    first
    | assumption | intro _ | apply State.ringStop_keeps | apply State.refuseWrite_keeps | apply State.plainWrite_keeps
    | apply Keeps.ite

theorem State.ringBaseWrite_keeps (h : Keeps s t) (x0 x1 x2 x3 x4) : Keeps s (State.ringBaseWrite x0 x1 x2 x3 x4 t) := by
  unfold State.ringBaseWrite
  with_reducible repeat'
    first
    | assumption | intro _ | apply State.refuseWrite_keeps | apply State.plainWrite_keeps | apply Keeps.ite

theorem State.ringTailWrite_keeps (h : Keeps s t) (x0 x1 x2 x3) : Keeps s (State.ringTailWrite x0 x1 x2 x3 t) := by
  unfold State.ringTailWrite
  with_reducible repeat'
    first
    | assumption | intro _ | apply State.badRange_keeps | apply State.plainWrite_keeps | apply Keeps.ite

/-! ### Bus.lean -/

theorem State.writeGlb_keeps (h : Keeps s t) (x0 x1 x2 x3) : Keeps s (State.writeGlb x0 x1 x2 x3 t) := by
  unfold State.writeGlb
  with_reducible repeat'
    first
    | assumption | intro _ | apply State.bootCtrl_keeps | apply State.bootData_keeps | apply State.plainWrite_keeps
    | apply Keeps.ite

theorem State.writeCgu_keeps (h : Keeps s t) (x0 x1 x2 x3) : Keeps s (State.writeCgu x0 x1 x2 x3 t) := by
  unfold State.writeCgu
  with_reducible repeat'
    first
    | assumption | intro _ | apply State.xoCtrlWrite_keeps | apply State.gateWrite_keeps
    | apply State.domSrcWrite_keeps | apply State.clkoutWrite_keeps | apply State.plainWrite_keeps | apply Keeps.ite

theorem State.writeRefm_keeps (h : Keeps s t) (x0 x1 x2 x3) : Keeps s (State.writeRefm x0 x1 x2 x3 t) := by
  unfold State.writeRefm
  with_reducible repeat'
    first
    | assumption | intro _ | apply State.todCfgWrite_keeps | apply State.plainWrite_keeps
    | apply State.refCfgWrite_keeps | apply State.refFixedWrite_keeps | apply State.refLimitWrite_keeps
    | apply Keeps.ite

theorem State.writeSel_keeps (h : Keeps s t) (x0 x1 x2 x3) : Keeps s (State.writeSel x0 x1 x2 x3 t) := by
  unfold State.writeSel
  with_reducible repeat'
    first
    | assumption | intro _ | apply State.selCtrlWrite_keeps | apply State.selOrderWrite_keeps
    | apply State.alignWrite_keeps | apply State.plainWrite_keeps | apply State.setBuild_keeps | apply Keeps.ite

theorem State.writeDpl_keeps (h : Keeps s t) (x0 x1 x2 x3) : Keeps s (State.writeDpl x0 x1 x2 x3 t) := by
  unfold State.writeDpl
  with_reducible repeat'
    first
    | assumption | intro _ | apply State.leadWrite_keeps | apply State.loopCfgWrite_keeps
    | apply State.forceWrite_keeps | apply State.gperWrite_keeps | apply State.lockWrite_keeps
    | apply State.rampWrite_keeps | apply State.plainWrite_keeps | apply Keeps.ite

theorem State.writeHold_keeps (h : Keeps s t) (x0 x1 x2 x3) : Keeps s (State.writeHold x0 x1 x2 x3 t) := by
  unfold State.writeHold
  with_reducible repeat'
    first
    | assumption | intro _ | apply State.holdCtrlWrite_keeps | apply State.holdCfgWrite_keeps
    | apply State.holdSensWrite_keeps | apply State.offerEval_keeps | apply State.plainWrite_keeps | apply Keeps.ite

theorem State.writeAxl_keeps (h : Keeps s t) (x0 x1 x2 x3) : Keeps s (State.writeAxl x0 x1 x2 x3 t) := by
  unfold State.writeAxl
  with_reducible repeat'
    first
    | assumption | intro _ | apply State.axleCfgWrite_keeps | apply State.axleCtrlWrite_keeps
    | apply State.fwordWrite_keeps | apply State.stepLoWrite_keeps | apply State.stepWrite_keeps
    | apply State.axlePlain_keeps | apply State.bandWrite_keeps | apply State.plainWrite_keeps | apply Keeps.ite

theorem State.writeOut_keeps (h : Keeps s t) (x0 x1 x2 x3) : Keeps s (State.writeOut x0 x1 x2 x3 t) := by
  unfold State.writeOut
  with_reducible repeat'
    first
    | assumption | intro _ | apply State.outKeepWrite_keeps | apply State.outCfgWrite_keeps
    | apply State.outDivWrite_keeps | apply State.outDelayWrite_keeps | apply State.outPulseWrite_keeps
    | apply State.outPhaseWrite_keeps | apply State.plainWrite_keeps | apply Keeps.ite

theorem State.writeTim_keeps (h : Keeps s t) (x0 x1 x2 x3) : Keeps s (State.writeTim x0 x1 x2 x3 t) := by
  unfold State.writeTim
  with_reducible repeat'
    first
    | assumption | intro _ | apply State.snapWrite_keeps | apply State.srvCfgWrite_keeps | apply State.targetHi_keeps
    | apply State.plainWrite_keeps | apply State.timCtrlWrite_keeps | apply State.incWrite_keeps | apply Keeps.ite

theorem State.writeGau_keeps (h : Keeps s t) (x0 x1 x2 x3) : Keeps s (State.writeGau x0 x1 x2 x3 t) := by
  unfold State.writeGau
  with_reducible repeat'
    first
    | assumption | intro _ | apply State.plainWrite_keeps | apply State.gaugeCfgWrite_keeps
    | apply State.statCtrlWrite_keeps | apply Keeps.ite

theorem State.writeTse_keeps (h : Keeps s t) (x0 x1 x2 x3) : Keeps s (State.writeTse x0 x1 x2 x3 t) := by
  unfold State.writeTse
  with_reducible repeat'
    first
    | assumption | intro _ | apply State.esmcCfgWrite_keeps | apply State.sessCfgWrite_keeps
    | apply State.plainWrite_keeps | apply State.sessionsEval_keeps | apply Keeps.ite

theorem State.writeCpl_keeps (h : Keeps s t) (x0 x1 x2 x3) : Keeps s (State.writeCpl x0 x1 x2 x3 t) := by
  unfold State.writeCpl
  with_reducible repeat'
    first
    | assumption | intro _ | apply State.cplNodeWrite_keeps | apply State.cplErrWrite_keeps
    | apply State.cplCfgWrite_keeps | apply State.plainWrite_keeps | apply State.feedWrite_keeps | apply Keeps.ite

theorem State.writePrt_keeps (h : Keeps s t) (x0 x1 x2 x3) : Keeps s (State.writePrt x0 x1 x2 x3 t) := by
  unfold State.writePrt
  with_reducible repeat'
    first
    | assumption | intro _ | apply State.prtCfgWrite_keeps | apply State.prtMacWrite_keeps
    | apply State.prtCtrlWrite_keeps | apply State.modPollWrite_keeps | apply State.i2cXferWrite_keeps
    | apply State.i2cDataWrite_keeps | apply State.plainWrite_keeps | apply Keeps.ite

theorem State.writeFwd_keeps (h : Keeps s t) (x0 x1 x2 x3) : Keeps s (State.writeFwd x0 x1 x2 x3 t) := by
  unfold State.writeFwd
  with_reducible repeat'
    first
    | assumption | intro _ | apply State.tblCmdWrite_keeps | apply State.mailMapWrite_keeps
    | apply State.plainWrite_keeps | apply Keeps.ite

theorem State.writeBuf_keeps (h : Keeps s t) (x0 x1 x2 x3) : Keeps s (State.writeBuf x0 x1 x2 x3 t) := by
  unfold State.writeBuf
  with_reducible repeat'
    first
    | assumption | intro _ | apply State.bufCtrlWrite_keeps | apply State.bufQCfgWrite_keeps
    | apply State.plainWrite_keeps | apply State.bufInWrite_keeps | apply State.bufPrioWrite_keeps
    | apply State.graceWrite_keeps | apply State.bufDepWrite_keeps | apply Keeps.ite

theorem State.writeSch_keeps (h : Keeps s t) (x0 x1 x2 x3) : Keeps s (State.writeSch x0 x1 x2 x3 t) := by
  unfold State.writeSch
  with_reducible repeat'
    first
    | assumption | intro _ | apply State.schCtrlWrite_keeps | apply State.plainWrite_keeps
    | apply State.gatesMove_keeps | apply State.adminWrite_keeps | apply State.gclCfgWrite_keeps
    | apply State.gclCtrlWrite_keeps | apply State.each_keeps | apply Keeps.ite

theorem State.writeMir_keeps (h : Keeps s t) (x0 x1 x2 x3) : Keeps s (State.writeMir x0 x1 x2 x3 t) := by
  unfold State.writeMir
  with_reducible repeat'
    first
    | assumption | intro _ | apply State.mirCfgWrite_keeps | apply State.mirCtrlWrite_keeps
    | apply State.mirRingWrite_keeps | apply State.ringRdEffect_keeps | apply State.plainWrite_keeps
    | apply State.mirResume_keeps | apply State.when_keeps | apply Keeps.ite

theorem State.writeNvs_keeps (h : Keeps s t) (x0 x1 x2 x3) : Keeps s (State.writeNvs x0 x1 x2 x3 t) := by
  unfold State.writeNvs
  with_reducible repeat'
    first
    | assumption | intro _ | apply State.nvCmdWrite_keeps | apply State.protectEffect_keeps
    | apply State.nvRegWrite_keeps | apply State.plainWrite_keeps | apply Keeps.ite

theorem State.writeHif_keeps (h : Keeps s t) (x0 x1 x2 x3) : Keeps s (State.writeHif x0 x1 x2 x3 t) := by
  unfold State.writeHif
  with_reducible repeat'
    first
    | assumption | intro _ | apply State.plainWrite_keeps | apply State.ringLenEffect_keeps
    | apply State.ringTailWrite_keeps | apply State.ringBaseWrite_keeps | apply Keeps.ite

theorem State.writeFlt_keeps (h : Keeps s t) (x0 x1 x2 x3) : Keeps s (State.writeFlt x0 x1 x2 x3 t) := by
  unfold State.writeFlt
  with_reducible repeat'
    first
    | assumption | intro _ | apply State.fltCtrlWrite_keeps | apply State.fltSqWrite_keeps
    | apply State.tempLimWrite_keeps | apply State.plainWrite_keeps | apply Keeps.ite

theorem State.writePwr_keeps (h : Keeps s t) (x0 x1 x2 x3) : Keeps s (State.writePwr x0 x1 x2 x3 t) := by
  unfold State.writePwr
  with_reducible repeat'
    first
    | assumption | intro _ | apply State.pwrReqWrite_keeps | apply State.shedWrite_keeps
    | apply State.plainWrite_keeps | apply Keeps.ite

theorem State.regWrite_keeps (h : Keeps s t) (x0 x1 x2 x3) : Keeps s (State.regWrite x0 x1 x2 x3 t) := by
  unfold State.regWrite
  with_reducible repeat'
    first
    | assumption | intro _ | apply State.writeGlb_keeps | apply State.writeCgu_keeps | apply State.writeRefm_keeps
    | apply State.writeSel_keeps | apply State.writeDpl_keeps | apply State.writeHold_keeps
    | apply State.writeAxl_keeps | apply State.writeOut_keeps | apply State.writeTim_keeps
    | apply State.writeGau_keeps | apply State.writeTse_keeps | apply State.writeCpl_keeps
    | apply State.writePrt_keeps | apply State.writeFwd_keeps | apply State.writeBuf_keeps
    | apply State.writeSch_keeps | apply State.writeMir_keeps | apply State.writeNvs_keeps
    | apply State.mbxWrite_keeps | apply State.writeHif_keeps | apply State.writeFlt_keeps
    | apply State.writePwr_keeps | apply Keeps.ite | split

theorem State.busWrite_keeps (h : Keeps s t) (x0 x1 x2) : Keeps s (State.busWrite x0 x1 x2 t) := by
  unfold State.busWrite
  with_reducible repeat'
    first
    | assumption | intro _ | apply State.access_keeps | apply State.regWrite_keeps | apply State.when_keeps
    | apply State.each_keeps | apply Keeps.ite | apply Keeps.foldl | apply Keeps.foldl_fst | split
    | refine Keeps.fields ?_ rfl (Nat.le_refl _) (Nat.le_refl _)

theorem State.popStamp_keeps (h : Keeps s t) : Keeps s (State.popStamp t) := by
  unfold State.popStamp
  with_reducible repeat'
    first
    | assumption | apply State.set_keeps | refine Keeps.fields ?_ rfl (Nat.le_refl _) (Nat.le_refl _)

theorem State.lowRead_keeps (h : Keeps s t) (x0 x1 x2) : Keeps s (State.lowRead x0 x1 x2 t).1 := by
  unfold State.lowRead
  with_reducible repeat'
    first
    | assumption | intro _ | apply State.setShadow_keeps | apply State.wr_keeps | apply State.popStamp_keeps
    | apply Keeps.ite | apply Keeps.ite_fst | split

theorem State.regRead_keeps (h : Keeps s t) (x0 x1 x2) : Keeps s (State.regRead x0 x1 x2 t).1 := by
  unfold State.regRead
  with_reducible repeat'
    first
    | assumption | apply State.lowRead_keeps | split

theorem State.busRead_keeps (h : Keeps s t) (x0 x1) : Keeps s (State.busRead x0 x1 t) := by
  unfold State.busRead
  with_reducible repeat'
    first
    | assumption | intro _ | apply State.mbxError_keeps | apply State.readAccess_keeps | apply State.regRead_keeps
    | apply State.setShadow_keeps | apply Keeps.ite | split

theorem execRegisterWrite_keeps {x0 x1 x2} {s t : State} (e : execRegisterWrite x0 x1 x2 s = .next t) : Keeps s t := by
  unfold execRegisterWrite at e
  injection e with e; subst e
  have h := Keeps.refl s
  with_reducible repeat'
    first
    | assumption | apply State.busWrite_keeps

theorem execRcRead_keeps {x0 x1} {s t : State} (e : execRcRead x0 x1 s = .next t) : Keeps s t := by
  unfold execRcRead at e
  injection e with e; subst e
  have h := Keeps.refl s
  with_reducible repeat'
    first
    | assumption | apply State.busRead_keeps

theorem execMultiWordLowRead_keeps {x0 x1} {s t : State} (e : execMultiWordLowRead x0 x1 s = .next t) : Keeps s t := by
  unfold execMultiWordLowRead at e
  injection e with e; subst e
  have h := Keeps.refl s
  with_reducible repeat'
    first
    | assumption | apply State.busRead_keeps

/-! ### Mailbox.lean -/

theorem State.nvAbandon_keeps (h : Keeps s t) : Keeps s (State.nvAbandon t) := by
  unfold State.nvAbandon
  with_reducible repeat'
    first
    | assumption | intro _ | apply State.nvCutNow_keeps | apply State.set_keeps | apply State.raise_keeps
    | apply State.when_keeps | apply Keeps.ite | apply Keeps.ite_fst | split
    | refine Keeps.fields ?_ rfl (Nat.le_refl _) (Nat.le_refl _)

theorem State.coreRestart_keeps (h : Keeps s t) (x0 x1) : Keeps s (State.coreRestart x0 x1 t) := by
  unfold State.coreRestart
  with_reducible repeat'
    first
    | assumption | intro _ | apply State.nvAbandon_keeps | apply State.fwAnswer_keeps | apply State.coreDown_keeps
    | apply State.logFault_keeps | apply State.each_keeps | apply Keeps.ite
    | refine Keeps.fields ?_ rfl (Nat.le_refl _) (Nat.le_refl _)

theorem execSendW0Write_keeps {x0 x1 x2 x3} {s t : State} (e : execSendW0Write x0 x1 x2 x3 s = .next t) : Keeps s t := by
  unfold execSendW0Write at e
  injection e with e; subst e
  have h := Keeps.refl s
  with_reducible repeat'
    first
    | assumption | intro _ | apply State.access_keeps | apply State.mbxWrite_keeps | apply State.when_keeps

theorem execRelease_keeps {x0 x1 x2 x3} {s t : State} (e : execRelease x0 x1 x2 x3 s = .next t) : Keeps s t := by
  unfold execRelease at e
  injection e with e; subst e
  have h := Keeps.refl s
  with_reducible repeat'
    first
    | assumption | intro _ | apply State.access_keeps | apply State.mbxWrite_keeps | apply State.when_keeps

theorem execEndReset_keeps {x0 x1 x2 x3} {s t : State} (e : execEndReset x0 x1 x2 x3 s = .next t) : Keeps s t := by
  unfold execEndReset at e
  injection e with e; subst e
  have h := Keeps.refl s
  with_reducible repeat'
    first
    | assumption | intro _ | apply State.access_keeps | apply State.mbxWrite_keeps | apply State.when_keeps

theorem execPcieFunctionReset_keeps {s t : State} (e : execPcieFunctionReset s = .next t) : Keeps s t := by
  unfold execPcieFunctionReset at e
  injection e with e; subst e
  have h := Keeps.refl s
  with_reducible repeat'
    first
    | assumption | intro _ | apply State.set_keeps | apply State.ringStop_keeps | apply State.mbxEndReset_keeps
    | apply State.when_keeps

theorem execCoreWatchdogExpiry_keeps {x0} {s t : State} (e : execCoreWatchdogExpiry x0 s = .next t) : Keeps s t := by
  unfold execCoreWatchdogExpiry at e
  injection e with e; subst e
  have h := Keeps.refl s
  with_reducible repeat'
    first
    | assumption | intro _ | apply State.coreRestart_keeps | apply State.when_keeps

theorem execCoreReady_keeps {x0} {s t : State} (e : execCoreReady x0 s = .next t) : Keeps s t := by
  unfold execCoreReady at e
  injection e with e; subst e
  have h := Keeps.refl s
  with_reducible repeat'
    first
    | assumption | intro _ | apply State.when_keeps | refine Keeps.fields ?_ rfl (Nat.le_refl _) (Nat.le_refl _)

end Sys2Proof.Machine
end

