-- ==== Sys2Proof/Laws/KeepsCommands.lean ====
section
/-! SUPPORT. Every operation keeps what `Keeps` says: the stage loader, the firmware commands, the host interfaces, faults and the tick. -/

namespace Sys2Proof.Machine

variable {s t : State}

/-! ### Staging.lean -/

theorem State.headerIn_keeps (h : Keeps s t) (x0) : Keeps s (State.headerIn x0 t) := by
  unfold State.headerIn
  with_reducible repeat'
    first
    | assumption | intro _ | apply State.fifoDrain_keeps | apply State.reject_keeps | apply Keeps.ite
    | refine Keeps.fields ?_ rfl (Nat.le_refl _) (Nat.le_refl _)

theorem State.imageIn_keeps (h : Keeps s t) (x0) : Keeps s (State.imageIn x0 t) := by
  unfold State.imageIn
  with_reducible repeat'
    first
    | assumption | intro _ | apply State.fifoDrain_keeps | apply State.setBoot_keeps | apply Keeps.ite
    | refine Keeps.fields ?_ rfl (Nat.le_refl _) (Nat.le_refl _)

theorem State.verified_keeps (h : Keeps s t) : Keeps s (State.verified t) := by
  unfold State.verified
  with_reducible repeat'
    first
    | assumption | intro _ | apply State.setBoot_keeps | apply State.setB_keeps | apply State.reject_keeps
    | apply Keeps.ite

theorem State.stopUnits_keeps (h : Keeps s t) : Keeps s (State.stopUnits t) := by
  unfold State.stopUnits
  with_reducible repeat'
    first
    | assumption | intro _ | apply State.regWrite_keeps | apply Keeps.ite | apply Keeps.ite_fst | apply Keeps.foldl
    | apply Keeps.foldl_fst | split | refine Keeps.fields ?_ rfl (Nat.le_refl _) (Nat.le_refl _)

theorem State.resetRw_keeps (h : Keeps s t) : Keeps s (State.resetRw t) := by
  unfold State.resetRw
  with_reducible repeat'
    first
    | assumption | intro _ | apply State.wr_keeps | apply Keeps.ite | apply Keeps.ite_fst | apply Keeps.foldl
    | apply Keeps.foldl_fst | split

theorem State.gclForget_keeps (h : Keeps s t) : Keeps s (State.gclForget t) := by
  unfold State.gclForget
  with_reducible repeat'
    first
    | assumption | intro _ | apply State.wr_keeps | apply State.setSout_keeps | apply State.each_keeps
    | apply Keeps.ite | apply Keeps.ite_fst | apply Keeps.foldl | apply Keeps.foldl_fst
    | refine Keeps.fields ?_ rfl (Nat.le_refl _) (Nat.le_refl _)

theorem State.unapply_keeps (h : Keeps s t) : Keeps s (State.unapply t) := by
  unfold State.unapply
  with_reducible repeat'
    first
    | assumption | intro _ | apply State.resetRw_keeps | apply State.stopUnits_keeps | apply State.setAxle_keeps
    | apply State.gclForget_keeps | apply State.set_keeps | apply State.setAcc_keeps
    | apply State.nodeFromLivery_keeps | apply State.setB_keeps | apply State.faultNEval_keeps
    | apply State.outEvalAll_keeps | apply State.offerEval_keeps | apply State.nodeEval_keeps
    | apply State.gatesSettle_keeps | apply State.each_keeps
    | refine Keeps.fields ?_ rfl (Nat.le_refl _) (Nat.le_refl _)

theorem State.applyReject_keeps (h : Keeps s t) (x0) : Keeps s (State.applyReject x0 t) := by
  unfold State.applyReject
  with_reducible repeat'
    first
    | assumption | apply State.unapply_keeps | apply State.reject_keeps

theorem State.loaderWrite_keeps (h : Keeps s t) (x0 x1) : Keeps s (State.loaderWrite x0 x1 t).1 := by
  unfold State.loaderWrite
  with_reducible repeat'
    first
    | assumption | intro _ | apply State.busWrite_keeps | apply Keeps.ite | apply Keeps.ite_fst

theorem State.applyEntry_keeps (h : Keeps s t) (x0 x1 x2) : Keeps s (State.applyEntry x0 x1 x2 t).1 := by
  unfold State.applyEntry
  with_reducible repeat'
    first
    | assumption | intro _ | apply State.loaderWrite_keeps | apply State.busRead_keeps | apply State.loadEntry_keeps
    | apply Keeps.ite | apply Keeps.ite_fst | split | refine Keeps.fields ?_ rfl (Nat.le_refl _) (Nat.le_refl _)
    | refine Keeps.array_fields ?_ rfl (Nat.le_refl _) (Nat.le_refl _)

theorem State.applyEntries_keeps (type target : Nat) : ∀ (l : List (List Word)) {t : State}, Keeps s t →
    Keeps s (State.applyEntries type target l t).1
  | [], _, h => h
  | ws :: l, t, h => by
    have h' := State.applyEntry_keeps h type target ws
    unfold State.applyEntries
    split
    · next e =>
      rw [e] at h'
      exact State.applyEntries_keeps type target l (h'.fields rfl (Nat.le_refl _) (Nat.le_refl _))
    · exact h'

theorem State.nextSegment_keeps (h : Keeps s t) (x0) : Keeps s (State.nextSegment x0 t) := by
  unfold State.nextSegment
  with_reducible repeat'
    first
    | assumption | refine Keeps.fields ?_ rfl (Nat.le_refl _) (Nat.le_refl _)

theorem State.applyPayload_keeps (h : Keeps s t) (type target len) : Keeps s (State.applyPayload type target len t) := by
  unfold State.applyPayload
  split
  · exact State.applyReject_keeps h _
  · extract_lets n k'
    split
    · exact State.applyReject_keeps h _
    · have h' := fun l => State.applyEntries_keeps type target l h
      split
      all_goals next e =>
        have h' := e ▸ h' _
        first
        | exact State.nextSegment_keeps h' _
        | exact State.applyReject_keeps h' _
        | exact h'.fields rfl (Nat.le_refl _) (Nat.le_refl _)

theorem State.segment_keeps (h : Keeps s t) : Keeps s (State.segment t) := by
  unfold State.segment
  with_reducible repeat'
    first
    | assumption | intro _ | apply State.applyReject_keeps | apply State.nextSegment_keeps
    | apply State.applyPayload_keeps | apply Keeps.ite

theorem State.applied_keeps (h : Keeps s t) : Keeps s (State.applied t) := by
  unfold State.applied
  with_reducible repeat'
    first
    | assumption | intro _ | apply State.wr_keeps | apply State.stagingEnd_keeps | apply State.applyReject_keeps
    | apply Keeps.ite

theorem execRootRuns_keeps {s t : State} (e : execRootRuns s = .next t) : Keeps s t := by
  unfold execRootRuns at e
  injection e with e; subst e
  have h := Keeps.refl s
  with_reducible repeat'
    first
    | assumption | apply State.rootStart_keeps

theorem execDiscoverDone_keeps {x0 x1} {s t : State} (e : execDiscoverDone x0 x1 s = .next t) : Keeps s t := by
  unfold execDiscoverDone at e
  injection e with e; subst e
  have h := Keeps.refl s
  with_reducible repeat'
    first
    | assumption | apply State.discovered_keeps

theorem execBootDataWrite_keeps {x0 x1} {s t : State} (e : execBootDataWrite x0 x1 s = .next t) : Keeps s t := by
  unfold execBootDataWrite at e
  injection e with e; subst e
  have h := Keeps.refl s
  with_reducible repeat'
    first
    | assumption | intro _ | apply State.access_keeps | apply State.bootData_keeps

theorem execHeaderReceived_keeps {x0} {s t : State} (e : execHeaderReceived x0 s = .next t) : Keeps s t := by
  unfold execHeaderReceived at e
  injection e with e; subst e
  have h := Keeps.refl s
  with_reducible repeat'
    first
    | assumption | apply State.headerIn_keeps

theorem execImageFetched_keeps {x0} {s t : State} (e : execImageFetched x0 s = .next t) : Keeps s t := by
  unfold execImageFetched at e
  injection e with e; subst e
  have h := Keeps.refl s
  with_reducible repeat'
    first
    | assumption | apply State.imageIn_keeps

theorem execVerifyDone_keeps {s t : State} (e : execVerifyDone s = .next t) : Keeps s t := by
  unfold execVerifyDone at e
  injection e with e; subst e
  have h := Keeps.refl s
  with_reducible repeat'
    first
    | assumption | apply State.verified_keeps

theorem execSegmentApply_keeps {s t : State} (e : execSegmentApply s = .next t) : Keeps s t := by
  unfold execSegmentApply at e
  injection e with e; subst e
  have h := Keeps.refl s
  with_reducible repeat'
    first
    | assumption | apply State.segment_keeps

theorem execWaitSegmentTimeout_keeps {s t : State} (e : execWaitSegmentTimeout s = .next t) : Keeps s t := by
  unfold execWaitSegmentTimeout at e
  injection e with e; subst e
  have h := Keeps.refl s
  with_reducible repeat'
    first
    | assumption | intro _ | apply State.applyReject_keeps | apply Keeps.ite

theorem execApplyDone_keeps {s t : State} (e : execApplyDone s = .next t) : Keeps s t := by
  unfold execApplyDone at e
  injection e with e; subst e
  have h := Keeps.refl s
  with_reducible repeat'
    first
    | assumption | apply State.applied_keeps

theorem execRestart_keeps {x0 x1} {s t : State} (e : execRestart x0 x1 s = .next t) : Keeps s t := by
  unfold execRestart at e
  injection e with e; subst e
  have h := Keeps.refl s
  with_reducible repeat'
    first
    | assumption | intro _ | apply State.access_keeps | apply State.bootCtrl_keeps

/-! ### FwOps.lean -/

theorem State.fwCheck_keeps (h : Keeps s t) (x0 x1 x2) : Keeps s (State.fwCheck x0 x1 x2 t) := by
  unfold State.fwCheck
  with_reducible repeat'
    first
    | assumption | intro _ | apply State.fwAnswer_keeps | apply State.fwInvalid_keeps | apply Keeps.ite | split

theorem State.commandTake_keeps (h : Keeps s t) : Keeps s (State.commandTake t) := by
  unfold State.commandTake
  with_reducible repeat'
    first
    | assumption | intro _ | apply State.mbxRelease_keeps | apply State.fwCheck_keeps | apply Keeps.ite | split
    | refine Keeps.fields ?_ rfl (Nat.le_refl _) (Nat.le_refl _)

theorem State.responsePost_keeps (h : Keeps s t) (x0) : Keeps s (State.responsePost x0 t) := by
  unfold State.responsePost
  with_reducible repeat'
    first
    | assumption | intro _ | apply State.mbxPost_keeps | apply Keeps.ite | split
    | refine Keeps.fields ?_ rfl (Nat.le_refl _) (Nat.le_refl _)

theorem State.command_keeps {f : List Word → State → State} (hf : ∀ ws t, Keeps s t → Keeps s (f ws t)) (h : Keeps s t) (mb op) :
    Keeps s (State.command mb op f t) := by
  unfold State.command
  split
  · exact h
  · split
    · split
      · exact hf _ _ h
      · exact h
    · exact h

theorem State.fwRead_keeps (h : Keeps s t) (x0) : Keeps s (State.fwRead x0 t).1 := by
  unfold State.fwRead
  with_reducible repeat'
    first
    | assumption | intro _ | apply State.busRead_keeps | apply Keeps.foldl | apply Keeps.foldl_fst

theorem State.fwWrite_keeps (h : Keeps s t) (x0 x1) : Keeps s (State.fwWrite x0 x1 t) := by
  unfold State.fwWrite
  with_reducible repeat'
    first
    | assumption | apply State.busWrite_keeps

theorem State.fwStatus_keeps (h : Keeps s t) (x0 x1) : Keeps s (State.fwStatus x0 x1 t) := by
  unfold State.fwStatus
  with_reducible repeat'
    first
    | assumption | intro _ | apply State.fwAnswer_keeps | apply State.fwRead_keeps | apply State.fwOk_keeps
    | apply Keeps.ite | split

theorem State.nvCommand_keeps (h : Keeps s t) (x0 x1 x2 x3 x4) : Keeps s (State.nvCommand x0 x1 x2 x3 x4 t).1 := by
  unfold State.nvCommand
  with_reducible repeat'
    first
    | assumption | apply State.set_keeps | apply State.nvOp_keeps | apply State.setB_keeps
    | apply State.nvReport_keeps

/-! ### Firmware.lean -/

theorem State.cmdSysInfo_keeps (h : Keeps s t) (x0) : Keeps s (State.cmdSysInfo x0 t) := by
  unfold State.cmdSysInfo
  with_reducible repeat'
    first
    | assumption | apply State.fwRead_keeps | apply State.fwOk_keeps | split

theorem State.deferAction_keeps (h : Keeps s t) (x0 x1) : Keeps s (State.deferAction x0 x1 t) := by
  unfold State.deferAction
  with_reducible repeat'
    first
    | assumption | apply State.fwOk_keeps | split | refine Keeps.fields ?_ rfl (Nat.le_refl _) (Nat.le_refl _)

theorem State.powerRequest_keeps (h : Keeps s t) (x0 x1) : Keeps s (State.powerRequest x0 x1 t) := by
  unfold State.powerRequest
  with_reducible repeat'
    first
    | assumption | apply State.fwWrite_keeps

theorem State.deferredBegin_keeps (h : Keeps s t) : Keeps s (State.deferredBegin t) := by
  unfold State.deferredBegin
  with_reducible repeat'
    first
    | assumption | intro _ | apply State.internalReset_keeps | apply State.powerRequest_keeps | apply Keeps.ite
    | split | refine Keeps.fields ?_ rfl (Nat.le_refl _) (Nat.le_refl _)

theorem State.cmdSetEvents_keeps (h : Keeps s t) (x0 x1) : Keeps s (State.cmdSetEvents x0 x1 t) := by
  unfold State.cmdSetEvents
  with_reducible repeat'
    first
    | assumption | intro _ | apply State.fwInvalid_keeps | apply State.fwOk_keeps | apply Keeps.ite
    | refine Keeps.fields ?_ rfl (Nat.le_refl _) (Nat.le_refl _)

theorem State.cmdWorkshop_keeps (h : Keeps s t) (x0) : Keeps s (State.cmdWorkshop x0 t) := by
  unfold State.cmdWorkshop
  with_reducible repeat'
    first
    | assumption | intro _ | apply State.fwOk_keeps | apply State.setMode_keeps | apply State.fwInvalid_keeps
    | apply Keeps.ite

theorem State.fwRaw_keeps (h : Keeps s t) (x0 x1) : Keeps s (State.fwRaw x0 x1 t) := by
  unfold State.fwRaw
  with_reducible repeat'
    first
    | assumption | apply State.fwAnswer_keeps

theorem State.cmdExtension_keeps (h : Keeps s t) (x0 x1 x2) : Keeps s (State.cmdExtension x0 x1 x2 t) := by
  unfold State.cmdExtension
  with_reducible repeat'
    first
    | assumption | intro _ | apply State.fwAnswer_keeps | apply State.emit_keeps | apply State.fwRaw_keeps
    | apply Keeps.ite

theorem State.fuseBurn_keeps (h : Keeps s t) (x0 x1 x2 x3) : Keeps s (State.fuseBurn x0 x1 x2 x3 t) := by
  unfold State.fuseBurn
  with_reducible repeat'
    first
    | assumption | intro _ | apply State.fwOk_keeps | apply State.fwAnswer_keeps | apply State.useFree_keeps
    | apply Keeps.ite | split | refine Keeps.fields ?_ rfl (Nat.le_refl _) (Nat.le_refl _)

theorem State.cmdFuse_keeps (h : Keeps s t) (x0 x1 x2) : Keeps s (State.cmdFuse x0 x1 x2 t) := by
  unfold State.cmdFuse
  with_reducible repeat'
    first
    | assumption | intro _ | apply State.fwInvalid_keeps | apply State.fuseBurn_keeps | apply Keeps.ite | split
    | refine Keeps.fields ?_ rfl (Nat.le_refl _) (Nat.le_refl _)

theorem State.cmdRefStatus_keeps (h : Keeps s t) (x0 x1) : Keeps s (State.cmdRefStatus x0 x1 t) := by
  unfold State.cmdRefStatus
  with_reducible repeat'
    first
    | assumption | apply State.fwStatus_keeps

theorem State.cmdSelStatus_keeps (h : Keeps s t) (x0 x1) : Keeps s (State.cmdSelStatus x0 x1 t) := by
  unfold State.cmdSelStatus
  with_reducible repeat'
    first
    | assumption | apply State.fwStatus_keeps

theorem State.cmdSelManual_keeps (h : Keeps s t) (x0 x1) : Keeps s (State.cmdSelManual x0 x1 t) := by
  unfold State.cmdSelManual
  with_reducible repeat'
    first
    | assumption | intro _ | apply State.fwOk_keeps | apply State.fwWrite_keeps | apply State.fwInvalid_keeps
    | apply Keeps.ite

theorem State.cmdLoopStatus_keeps (h : Keeps s t) (x0 x1) : Keeps s (State.cmdLoopStatus x0 x1 t) := by
  unfold State.cmdLoopStatus
  with_reducible repeat'
    first
    | assumption | apply State.fwStatus_keeps

theorem State.cmdLoopSample_keeps (h : Keeps s t) (x0 x1) : Keeps s (State.cmdLoopSample x0 x1 t) := by
  unfold State.cmdLoopSample
  with_reducible repeat'
    first
    | assumption | intro _ | apply State.fwInvalid_keeps | apply State.fwOk_keeps | apply State.takeSample_keeps
    | apply Keeps.ite

theorem State.cmdSetCal_keeps (h : Keeps s t) (x0 x1) : Keeps s (State.cmdSetCal x0 x1 t) := by
  unfold State.cmdSetCal
  with_reducible repeat'
    first
    | assumption | intro _ | apply State.fwInvalid_keeps | apply State.fwNv_keeps | apply State.testRefused_keeps
    | apply State.writeCal_keeps | apply Keeps.ite | apply Keeps.ite_fst | split

theorem State.cmdClearModel_keeps (h : Keeps s t) (x0) : Keeps s (State.cmdClearModel x0 t) := by
  unfold State.cmdClearModel
  with_reducible repeat'
    first
    | assumption | intro _ | apply State.fwBusy_keeps | apply State.fwNv_keeps | apply State.testRefused_keeps
    | apply State.clearStart_keeps | apply Keeps.ite

theorem State.cmdHoldStatus_keeps (h : Keeps s t) (x0) : Keeps s (State.cmdHoldStatus x0 t) := by
  unfold State.cmdHoldStatus
  with_reducible repeat'
    first
    | assumption | apply State.fwStatus_keeps

theorem State.cmdOutStatus_keeps (h : Keeps s t) (x0 x1) : Keeps s (State.cmdOutStatus x0 x1 t) := by
  unfold State.cmdOutStatus
  with_reducible repeat'
    first
    | assumption | intro _ | apply State.fwInvalid_keeps | apply State.fwStatus_keeps | apply Keeps.ite

theorem State.cmdOutEnable_keeps (h : Keeps s t) (x0 x1) : Keeps s (State.cmdOutEnable x0 x1 t) := by
  unfold State.cmdOutEnable
  with_reducible repeat'
    first
    | assumption | intro _ | apply State.fwWrite_keeps | apply State.fwOk_keeps | apply State.fwAnswer_keeps
    | apply State.each_keeps | apply Keeps.ite | apply Keeps.foldl | apply Keeps.foldl_fst

theorem State.cmdTimeRead_keeps (h : Keeps s t) (x0) : Keeps s (State.cmdTimeRead x0 t) := by
  unfold State.cmdTimeRead
  with_reducible repeat'
    first
    | assumption | intro _ | apply State.fwWrite_keeps | apply State.fwStatus_keeps

theorem State.cmdTimeSetSec_keeps (h : Keeps s t) (x0 x1) : Keeps s (State.cmdTimeSetSec x0 x1 t) := by
  unfold State.cmdTimeSetSec
  with_reducible repeat'
    first
    | assumption | apply State.fwWrite_keeps | apply State.fwOk_keeps

theorem State.cmdGaugeRun_keeps (h : Keeps s t) (x0 x1) : Keeps s (State.cmdGaugeRun x0 x1 t) := by
  unfold State.cmdGaugeRun
  with_reducible repeat'
    first
    | assumption | intro _ | apply State.fwWrite_keeps | apply State.fwAnswer_keeps | apply State.fwInvalid_keeps
    | apply State.fwBusy_keeps | apply State.wr_keeps | apply Keeps.ite | split
    | refine Keeps.fields ?_ rfl (Nat.le_refl _) (Nat.le_refl _)

theorem State.cmdSessL2_keeps (h : Keeps s t) (x0 x1) : Keeps s (State.cmdSessL2 x0 x1 t) := by
  unfold State.cmdSessL2
  with_reducible repeat'
    first
    | assumption | intro _ | apply State.fwInvalid_keeps | apply State.fwAnswer_keeps | apply State.fwOk_keeps
    | apply State.setSess_keeps | apply Keeps.ite | refine Keeps.fields ?_ rfl (Nat.le_refl _) (Nat.le_refl _)

theorem State.cmdSessIp_keeps (h : Keeps s t) (x0 x1) : Keeps s (State.cmdSessIp x0 x1 t) := by
  unfold State.cmdSessIp
  with_reducible repeat'
    first
    | assumption | intro _ | apply State.fwInvalid_keeps | apply State.fwAnswer_keeps | apply State.fwOk_keeps
    | apply State.setSess_keeps | apply Keeps.ite | split | refine Keeps.fields ?_ rfl (Nat.le_refl _) (Nat.le_refl _)

theorem State.cmdPtpProfile_keeps (h : Keeps s t) (x0 x1) : Keeps s (State.cmdPtpProfile x0 x1 t) := by
  unfold State.cmdPtpProfile
  with_reducible repeat'
    first
    | assumption | intro _ | apply State.setSess_keeps | apply State.fwInvalid_keeps | apply State.fwOk_keeps
    | apply State.fwAnswer_keeps | apply Keeps.ite | apply Keeps.foldl | apply Keeps.foldl_fst
    | refine Keeps.fields ?_ rfl (Nat.le_refl _) (Nat.le_refl _)

theorem State.cmdPtpPortDs_keeps (h : Keeps s t) (mb ws) : Keeps s (State.cmdPtpPortDs mb ws t) := by
  unfold State.cmdPtpPortDs
  extract_lets k dn words
  refine Keeps.ite (fun _ => State.fwInvalid_keeps h _ _) (fun _ => ?_)
  refine Keeps.ite (fun _ => State.fwAnswer_keeps h _ _ _ _) (fun _ => ?_)
  split
  · exact State.fwOk_keeps h _ _
  · exact State.fwOk_keeps (State.useFree_keeps h) _ _

theorem State.cmdCplStatus_keeps (h : Keeps s t) (x0 x1) : Keeps s (State.cmdCplStatus x0 x1 t) := by
  unfold State.cmdCplStatus
  with_reducible repeat'
    first
    | assumption | intro _ | apply State.fwInvalid_keeps | apply State.fwStatus_keeps | apply Keeps.ite

theorem State.cmdPortStatus_keeps (h : Keeps s t) (x0 x1) : Keeps s (State.cmdPortStatus x0 x1 t) := by
  unfold State.cmdPortStatus
  with_reducible repeat'
    first
    | assumption | intro _ | apply State.fwInvalid_keeps | apply State.fwStatus_keeps | apply Keeps.ite

theorem State.cmdModuleRead_keeps (h : Keeps s t) (x0 x1) : Keeps s (State.cmdModuleRead x0 x1 t) := by
  unfold State.cmdModuleRead
  with_reducible repeat'
    first
    | assumption | intro _ | apply State.fwInvalid_keeps | apply State.fwOk_keeps | apply State.fwBusy_keeps
    | apply State.i2cWant_keeps | apply Keeps.ite | split

theorem State.i2cDone_keeps (h : Keeps s t) (x0 x1 x2) : Keeps s (State.i2cDone x0 x1 x2 t) := by
  unfold State.i2cDone
  with_reducible repeat'
    first
    | assumption | intro _ | apply State.i2cEnd_keeps | apply State.fwOk_keeps | apply State.fwAnswer_keeps
    | apply State.when_keeps | apply State.each_keeps | apply Keeps.ite | apply Keeps.foldl | apply Keeps.foldl_fst
    | split | refine Keeps.fields ?_ rfl (Nat.le_refl _) (Nat.le_refl _)

theorem State.cmdMacFlush_keeps (h : Keeps s t) (x0 x1) : Keeps s (State.cmdMacFlush x0 x1 t) := by
  unfold State.cmdMacFlush
  with_reducible repeat'
    first
    | assumption | intro _ | apply State.fwInvalid_keeps | apply State.fwAnswer_keeps | apply State.fwOk_keeps
    | apply State.bankOp_keeps | apply Keeps.ite | apply Keeps.ite_fst

theorem State.cmdMacLookup_keeps (h : Keeps s t) (x0 x1) : Keeps s (State.cmdMacLookup x0 x1 t) := by
  unfold State.cmdMacLookup
  with_reducible repeat'
    first
    | assumption | intro _ | apply State.fwInvalid_keeps | apply State.fwAnswer_keeps | apply State.bankOp_keeps
    | apply State.fwOk_keeps | apply Keeps.ite | split

theorem State.bankAnswer_keeps (mb) {r : State × Nat} (h : Keeps s r.1) : Keeps s (State.bankAnswer mb r) := by
  unfold State.bankAnswer
  split
  · exact State.fwOk_keeps h _ _
  · exact State.fwAnswer_keeps h _ _ _ _
  · exact State.fwAnswer_keeps h _ _ _ _
  · exact State.fwInvalid_keeps h _ _

theorem State.cmdTableWrite_keeps (h : Keeps s t) (x0 x1) : Keeps s (State.cmdTableWrite x0 x1 t) := by
  unfold State.cmdTableWrite
  with_reducible repeat'
    first
    | assumption | intro _ | apply State.fwInvalid_keeps | apply State.fwAnswer_keeps | apply State.bankAnswer_keeps
    | apply State.bankOp_keeps | apply State.fwOk_keeps | apply State.putGate_keeps | apply State.putDelay_keeps
    | apply State.when_keeps | apply State.each_keeps | apply Keeps.ite | apply Keeps.ite_fst | apply Keeps.foldl
    | apply Keeps.foldl_fst | split | refine Keeps.fields ?_ rfl (Nat.le_refl _) (Nat.le_refl _)

theorem State.cmdNvRead_keeps (h : Keeps s t) (mb ws) : Keeps s (State.cmdNvRead mb ws t) := by
  unfold State.cmdNvRead
  extract_lets n
  refine Keeps.ite (fun _ => State.fwInvalid_keeps h _ _) (fun _ => ?_)
  refine Keeps.ite (fun _ => h) (fun _ => ?_)
  have h' := State.nvCommand_keeps h 0 (payloadBits ws 1 0 17) n false []
  generalize State.nvCommand 0 (payloadBits ws 1 0 17) n false [] t = p at h' ⊢
  obtain ⟨t', st⟩ := p
  dsimp only at h' ⊢
  split
  · exact State.fwOk_keeps h' _ _
  · exact State.fwNv_keeps h' _ _ _
  · exact State.fwNv_keeps h' _ _ _
  · exact h'

theorem State.cmdNvWrite_keeps (h : Keeps s t) (mb ws) : Keeps s (State.cmdNvWrite mb ws t) := by
  unfold State.cmdNvWrite
  extract_lets a n
  split
  · exact Keeps.ite (fun _ => State.fwInvalid_keeps h _ _) (fun _ => State.fwInvalid_keeps h _ _)
  · next bs _ =>
    refine Keeps.ite (fun _ => State.fwInvalid_keeps h _ _) (fun _ => ?_)
    refine Keeps.ite (fun _ => State.fwOk_keeps h _ _) (fun _ => ?_)
    refine Keeps.ite (fun _ => State.fwInvalid_keeps h _ _) (fun _ => ?_)
    refine Keeps.ite (fun _ => h) (fun _ => ?_)
    have h' := State.nvCommand_keeps (State.nvToWindow_keeps h bs) 1 a n (payloadBits ws 1 24 1 == 1) [(6, mb)]
    generalize State.nvCommand 1 a n (payloadBits ws 1 24 1 == 1) [(6, mb)] (t.nvToWindow bs) = p at h' ⊢
    obtain ⟨t', st⟩ := p
    dsimp only at h' ⊢
    split
    · exact State.fwNv_keeps h' _ _ _
    · exact h'

theorem State.cmdNvCommit_keeps (h : Keeps s t) (mb) : Keeps s (State.cmdNvCommit mb t) := by
  unfold State.cmdNvCommit
  refine Keeps.ite (fun _ => h) (fun _ => ?_)
  have h' := State.nvCommand_keeps h 2 (t.get NVS_ADDR_ADDR) (t.get NVS_LEN_LEN) false [(6, mb)]
  generalize State.nvCommand 2 (t.get NVS_ADDR_ADDR) (t.get NVS_LEN_LEN) false [(6, mb)] t = p at h' ⊢
  obtain ⟨t', st⟩ := p
  dsimp only at h' ⊢
  split
  · exact State.fwNv_keeps h' _ _ _
  · exact h'

theorem State.cmdHotUserWrite_keeps (h : Keeps s t) (x0 x1) : Keeps s (State.cmdHotUserWrite x0 x1 t) := by
  unfold State.cmdHotUserWrite
  with_reducible repeat'
    first
    | assumption | intro _ | apply State.fwInvalid_keeps | apply State.fwOk_keeps | apply State.hotPut_keeps
    | apply State.when_keeps | apply State.each_keeps | apply Keeps.ite | apply Keeps.foldl | apply Keeps.foldl_fst
    | split | refine Keeps.fields ?_ rfl (Nat.le_refl _) (Nat.le_refl _)

theorem State.cmdHotSave_keeps (h : Keeps s t) (mb) : Keeps s (State.cmdHotSave mb t) := by
  unfold State.cmdHotSave
  refine Keeps.ite (fun _ => h) (fun _ => ?_)
  have h' := State.nvCommand_keeps h 4 (t.get NVS_ADDR_ADDR) (t.get NVS_LEN_LEN) false []
  generalize State.nvCommand 4 (t.get NVS_ADDR_ADDR) (t.get NVS_LEN_LEN) false [] t = p at h' ⊢
  obtain ⟨t', st⟩ := p
  dsimp only at h' ⊢
  split
  · exact State.fwNv_keeps h' _ _ _
  · exact h'.fields rfl (Nat.le_refl _) (Nat.le_refl _)

theorem State.cmdFaultLogRead_keeps (h : Keeps s t) (x0 x1) : Keeps s (State.cmdFaultLogRead x0 x1 t) := by
  unfold State.cmdFaultLogRead
  with_reducible repeat'
    first
    | assumption | intro _ | apply State.fwOk_keeps | apply State.fwAnswer_keeps | apply Keeps.ite | split

theorem State.cmdPowerState_keeps (h : Keeps s t) (x0 x1) : Keeps s (State.cmdPowerState x0 x1 t) := by
  unfold State.cmdPowerState
  with_reducible repeat'
    first
    | assumption | intro _ | apply State.fwInvalid_keeps | apply State.fwBusy_keeps | apply State.fwAnswer_keeps
    | apply State.powerRequest_keeps | apply State.fwOk_keeps | apply State.deferAction_keeps | apply Keeps.ite

theorem State.cmdThermal_keeps (h : Keeps s t) (x0) : Keeps s (State.cmdThermal x0 t) := by
  unfold State.cmdThermal
  with_reducible repeat'
    first
    | assumption | intro _ | apply State.fwOk_keeps | apply Keeps.ite

theorem execCommandTake_keeps {s t : State} (e : execCommandTake s = .next t) : Keeps s t := by
  unfold execCommandTake at e
  injection e with e; subst e
  have h := Keeps.refl s
  with_reducible repeat'
    first
    | assumption | apply State.commandTake_keeps

theorem execResponsePost_keeps {x0} {s t : State} (e : execResponsePost x0 s = .next t) : Keeps s t := by
  unfold execResponsePost at e
  injection e with e; subst e
  have h := Keeps.refl s
  with_reducible repeat'
    first
    | assumption | intro _ | apply State.responsePost_keeps | apply State.when_keeps

theorem execSysInfo_keeps {x0} {s t : State} (e : execSysInfo x0 s = .next t) : Keeps s t := by
  unfold execSysInfo at e
  injection e with e; subst e
  have h := Keeps.refl s
  with_reducible repeat'
    first
    | assumption | intro _ | apply State.command_keeps | apply State.cmdSysInfo_keeps

theorem execReset_keeps {x0} {s t : State} (e : execReset x0 s = .next t) : Keeps s t := by
  unfold execReset at e
  injection e with e; subst e
  have h := Keeps.refl s
  with_reducible repeat'
    first
    | assumption | intro _ | apply State.command_keeps | apply State.deferAction_keeps

theorem execDeferredAction_keeps {s t : State} (e : execDeferredAction s = .next t) : Keeps s t := by
  unfold execDeferredAction at e
  injection e with e; subst e
  have h := Keeps.refl s
  with_reducible repeat'
    first
    | assumption | apply State.deferredBegin_keeps

theorem execSetEvents_keeps {x0} {s t : State} (e : execSetEvents x0 s = .next t) : Keeps s t := by
  unfold execSetEvents at e
  injection e with e; subst e
  have h := Keeps.refl s
  with_reducible repeat'
    first
    | assumption | intro _ | apply State.command_keeps | apply State.cmdSetEvents_keeps | apply State.when_keeps
    | apply State.each_keeps | apply Keeps.ite | apply Keeps.foldl | apply Keeps.foldl_fst | split
    | refine Keeps.fields ?_ rfl (Nat.le_refl _) (Nat.le_refl _)

theorem execEnterWorkshop_keeps {x0} {s t : State} (e : execEnterWorkshop x0 s = .next t) : Keeps s t := by
  unfold execEnterWorkshop at e
  injection e with e; subst e
  have h := Keeps.refl s
  with_reducible repeat'
    first
    | assumption | intro _ | apply State.command_keeps | apply State.cmdWorkshop_keeps

theorem execCallExtension_keeps {x0 x1} {s t : State} (e : execCallExtension x0 x1 s = .next t) : Keeps s t := by
  unfold execCallExtension at e
  injection e with e; subst e
  have h := Keeps.refl s
  with_reducible repeat'
    first
    | assumption | intro _ | apply State.command_keeps | apply State.cmdExtension_keeps | apply State.when_keeps
    | apply State.each_keeps | apply Keeps.ite | apply Keeps.foldl | apply Keeps.foldl_fst | split
    | refine Keeps.fields ?_ rfl (Nat.le_refl _) (Nat.le_refl _)

theorem execExtensionTimeout_keeps {x0} {s t : State} (e : execExtensionTimeout x0 s = .next t) : Keeps s t := by
  unfold execExtensionTimeout at e
  injection e with e; subst e
  have h := Keeps.refl s
  with_reducible repeat'
    first
    | assumption | intro _ | apply State.command_keeps | apply State.coreRestart_keeps | apply State.when_keeps

theorem execFuseProgram_keeps {x0 x1} {s t : State} (e : execFuseProgram x0 x1 s = .next t) : Keeps s t := by
  unfold execFuseProgram at e
  injection e with e; subst e
  have h := Keeps.refl s
  with_reducible repeat'
    first
    | assumption | intro _ | apply State.command_keeps | apply State.cmdFuse_keeps | apply State.when_keeps
    | apply State.each_keeps | apply Keeps.ite | apply Keeps.foldl | apply Keeps.foldl_fst | split
    | refine Keeps.fields ?_ rfl (Nat.le_refl _) (Nat.le_refl _)

theorem execRefStatus_keeps {x0} {s t : State} (e : execRefStatus x0 s = .next t) : Keeps s t := by
  unfold execRefStatus at e
  injection e with e; subst e
  have h := Keeps.refl s
  with_reducible repeat'
    first
    | assumption | intro _ | apply State.command_keeps | apply State.cmdRefStatus_keeps | apply State.when_keeps
    | apply State.each_keeps | apply Keeps.ite | apply Keeps.foldl | apply Keeps.foldl_fst | split
    | refine Keeps.fields ?_ rfl (Nat.le_refl _) (Nat.le_refl _)

theorem execSelStatus_keeps {x0} {s t : State} (e : execSelStatus x0 s = .next t) : Keeps s t := by
  unfold execSelStatus at e
  injection e with e; subst e
  have h := Keeps.refl s
  with_reducible repeat'
    first
    | assumption | intro _ | apply State.command_keeps | apply State.cmdSelStatus_keeps | apply State.when_keeps
    | apply State.each_keeps | apply Keeps.ite | apply Keeps.foldl | apply Keeps.foldl_fst | split
    | refine Keeps.fields ?_ rfl (Nat.le_refl _) (Nat.le_refl _)

theorem execSelManual_keeps {x0} {s t : State} (e : execSelManual x0 s = .next t) : Keeps s t := by
  unfold execSelManual at e
  injection e with e; subst e
  have h := Keeps.refl s
  with_reducible repeat'
    first
    | assumption | intro _ | apply State.command_keeps | apply State.cmdSelManual_keeps | apply State.when_keeps
    | apply State.each_keeps | apply Keeps.ite | apply Keeps.foldl | apply Keeps.foldl_fst | split
    | refine Keeps.fields ?_ rfl (Nat.le_refl _) (Nat.le_refl _)

theorem execLoopStatus_keeps {x0} {s t : State} (e : execLoopStatus x0 s = .next t) : Keeps s t := by
  unfold execLoopStatus at e
  injection e with e; subst e
  have h := Keeps.refl s
  with_reducible repeat'
    first
    | assumption | intro _ | apply State.command_keeps | apply State.cmdLoopStatus_keeps | apply State.when_keeps
    | apply State.each_keeps | apply Keeps.ite | apply Keeps.foldl | apply Keeps.foldl_fst | split
    | refine Keeps.fields ?_ rfl (Nat.le_refl _) (Nat.le_refl _)

theorem execLoopSample_keeps {x0} {s t : State} (e : execLoopSample x0 s = .next t) : Keeps s t := by
  unfold execLoopSample at e
  injection e with e; subst e
  have h := Keeps.refl s
  with_reducible repeat'
    first
    | assumption | intro _ | apply State.command_keeps | apply State.cmdLoopSample_keeps | apply State.when_keeps
    | apply State.each_keeps | apply Keeps.ite | apply Keeps.foldl | apply Keeps.foldl_fst | split
    | refine Keeps.fields ?_ rfl (Nat.le_refl _) (Nat.le_refl _)

theorem execSetCal_keeps {x0} {s t : State} (e : execSetCal x0 s = .next t) : Keeps s t := by
  unfold execSetCal at e
  injection e with e; subst e
  have h := Keeps.refl s
  with_reducible repeat'
    first
    | assumption | intro _ | apply State.command_keeps | apply State.cmdSetCal_keeps | apply State.when_keeps
    | apply State.each_keeps | apply Keeps.ite | apply Keeps.foldl | apply Keeps.foldl_fst | split
    | refine Keeps.fields ?_ rfl (Nat.le_refl _) (Nat.le_refl _)

theorem execClearModel_keeps {x0} {s t : State} (e : execClearModel x0 s = .next t) : Keeps s t := by
  unfold execClearModel at e
  injection e with e; subst e
  have h := Keeps.refl s
  with_reducible repeat'
    first
    | assumption | intro _ | apply State.command_keeps | apply State.cmdClearModel_keeps

theorem execHoldStatus_keeps {x0} {s t : State} (e : execHoldStatus x0 s = .next t) : Keeps s t := by
  unfold execHoldStatus at e
  injection e with e; subst e
  have h := Keeps.refl s
  with_reducible repeat'
    first
    | assumption | intro _ | apply State.command_keeps | apply State.cmdHoldStatus_keeps

theorem execOutStatus_keeps {x0} {s t : State} (e : execOutStatus x0 s = .next t) : Keeps s t := by
  unfold execOutStatus at e
  injection e with e; subst e
  have h := Keeps.refl s
  with_reducible repeat'
    first
    | assumption | intro _ | apply State.command_keeps | apply State.cmdOutStatus_keeps | apply State.when_keeps
    | apply State.each_keeps | apply Keeps.ite | apply Keeps.foldl | apply Keeps.foldl_fst | split
    | refine Keeps.fields ?_ rfl (Nat.le_refl _) (Nat.le_refl _)

theorem execOutEnable_keeps {x0} {s t : State} (e : execOutEnable x0 s = .next t) : Keeps s t := by
  unfold execOutEnable at e
  injection e with e; subst e
  have h := Keeps.refl s
  with_reducible repeat'
    first
    | assumption | intro _ | apply State.command_keeps | apply State.cmdOutEnable_keeps | apply State.when_keeps
    | apply State.each_keeps | apply Keeps.ite | apply Keeps.foldl | apply Keeps.foldl_fst | split
    | refine Keeps.fields ?_ rfl (Nat.le_refl _) (Nat.le_refl _)

theorem execTimeRead_keeps {x0} {s t : State} (e : execTimeRead x0 s = .next t) : Keeps s t := by
  unfold execTimeRead at e
  injection e with e; subst e
  have h := Keeps.refl s
  with_reducible repeat'
    first
    | assumption | intro _ | apply State.command_keeps | apply State.cmdTimeRead_keeps

theorem execTimeSetSec_keeps {x0} {s t : State} (e : execTimeSetSec x0 s = .next t) : Keeps s t := by
  unfold execTimeSetSec at e
  injection e with e; subst e
  have h := Keeps.refl s
  with_reducible repeat'
    first
    | assumption | intro _ | apply State.command_keeps | apply State.cmdTimeSetSec_keeps | apply State.when_keeps
    | apply State.each_keeps | apply Keeps.ite | apply Keeps.foldl | apply Keeps.foldl_fst | split
    | refine Keeps.fields ?_ rfl (Nat.le_refl _) (Nat.le_refl _)

theorem execGaugeRun_keeps {x0} {s t : State} (e : execGaugeRun x0 s = .next t) : Keeps s t := by
  unfold execGaugeRun at e
  injection e with e; subst e
  have h := Keeps.refl s
  with_reducible repeat'
    first
    | assumption | intro _ | apply State.command_keeps | apply State.cmdGaugeRun_keeps | apply State.when_keeps
    | apply State.each_keeps | apply Keeps.ite | apply Keeps.foldl | apply Keeps.foldl_fst | split
    | refine Keeps.fields ?_ rfl (Nat.le_refl _) (Nat.le_refl _)

theorem execSessL2_keeps {x0} {s t : State} (e : execSessL2 x0 s = .next t) : Keeps s t := by
  unfold execSessL2 at e
  injection e with e; subst e
  have h := Keeps.refl s
  with_reducible repeat'
    first
    | assumption | intro _ | apply State.command_keeps | apply State.cmdSessL2_keeps | apply State.when_keeps
    | apply State.each_keeps | apply Keeps.ite | apply Keeps.foldl | apply Keeps.foldl_fst | split
    | refine Keeps.fields ?_ rfl (Nat.le_refl _) (Nat.le_refl _)

theorem execSessIp_keeps {x0} {s t : State} (e : execSessIp x0 s = .next t) : Keeps s t := by
  unfold execSessIp at e
  injection e with e; subst e
  have h := Keeps.refl s
  with_reducible repeat'
    first
    | assumption | intro _ | apply State.command_keeps | apply State.cmdSessIp_keeps | apply State.when_keeps
    | apply State.each_keeps | apply Keeps.ite | apply Keeps.foldl | apply Keeps.foldl_fst | split
    | refine Keeps.fields ?_ rfl (Nat.le_refl _) (Nat.le_refl _)

theorem execPtpProfile_keeps {x0} {s t : State} (e : execPtpProfile x0 s = .next t) : Keeps s t := by
  unfold execPtpProfile at e
  injection e with e; subst e
  have h := Keeps.refl s
  with_reducible repeat'
    first
    | assumption | intro _ | apply State.command_keeps | apply State.cmdPtpProfile_keeps | apply State.when_keeps
    | apply State.each_keeps | apply Keeps.ite | apply Keeps.foldl | apply Keeps.foldl_fst | split
    | refine Keeps.fields ?_ rfl (Nat.le_refl _) (Nat.le_refl _)

theorem execPtpPortDs_keeps {x0} {s t : State} (e : execPtpPortDs x0 s = .next t) : Keeps s t := by
  unfold execPtpPortDs at e
  injection e with e; subst e
  have h := Keeps.refl s
  with_reducible repeat'
    first
    | assumption | intro _ | apply State.command_keeps | apply State.cmdPtpPortDs_keeps | apply State.when_keeps
    | apply State.each_keeps | apply Keeps.ite | apply Keeps.foldl | apply Keeps.foldl_fst | split
    | refine Keeps.fields ?_ rfl (Nat.le_refl _) (Nat.le_refl _)

theorem execCplStatus_keeps {x0} {s t : State} (e : execCplStatus x0 s = .next t) : Keeps s t := by
  unfold execCplStatus at e
  injection e with e; subst e
  have h := Keeps.refl s
  with_reducible repeat'
    first
    | assumption | intro _ | apply State.command_keeps | apply State.cmdCplStatus_keeps | apply State.when_keeps
    | apply State.each_keeps | apply Keeps.ite | apply Keeps.foldl | apply Keeps.foldl_fst | split
    | refine Keeps.fields ?_ rfl (Nat.le_refl _) (Nat.le_refl _)

theorem execPortStatus_keeps {x0} {s t : State} (e : execPortStatus x0 s = .next t) : Keeps s t := by
  unfold execPortStatus at e
  injection e with e; subst e
  have h := Keeps.refl s
  with_reducible repeat'
    first
    | assumption | intro _ | apply State.command_keeps | apply State.cmdPortStatus_keeps | apply State.when_keeps
    | apply State.each_keeps | apply Keeps.ite | apply Keeps.foldl | apply Keeps.foldl_fst | split
    | refine Keeps.fields ?_ rfl (Nat.le_refl _) (Nat.le_refl _)

theorem execModuleRead_keeps {x0} {s t : State} (e : execModuleRead x0 s = .next t) : Keeps s t := by
  unfold execModuleRead at e
  injection e with e; subst e
  have h := Keeps.refl s
  with_reducible repeat'
    first
    | assumption | intro _ | apply State.command_keeps | apply State.cmdModuleRead_keeps | apply State.when_keeps
    | apply State.each_keeps | apply Keeps.ite | apply Keeps.foldl | apply Keeps.foldl_fst | split
    | refine Keeps.fields ?_ rfl (Nat.le_refl _) (Nat.le_refl _)

theorem execI2cTransferDone_keeps {x0 x1 x2} {s t : State} (e : execI2cTransferDone x0 x1 x2 s = .next t) : Keeps s t := by
  unfold execI2cTransferDone at e
  injection e with e; subst e
  have h := Keeps.refl s
  with_reducible repeat'
    first
    | assumption | intro _ | apply State.i2cDone_keeps | apply State.when_keeps

theorem execMacFlush_keeps {x0} {s t : State} (e : execMacFlush x0 s = .next t) : Keeps s t := by
  unfold execMacFlush at e
  injection e with e; subst e
  have h := Keeps.refl s
  with_reducible repeat'
    first
    | assumption | intro _ | apply State.command_keeps | apply State.cmdMacFlush_keeps | apply State.when_keeps
    | apply State.each_keeps | apply Keeps.ite | apply Keeps.foldl | apply Keeps.foldl_fst | split
    | refine Keeps.fields ?_ rfl (Nat.le_refl _) (Nat.le_refl _)

theorem execMacLookup_keeps {x0} {s t : State} (e : execMacLookup x0 s = .next t) : Keeps s t := by
  unfold execMacLookup at e
  injection e with e; subst e
  have h := Keeps.refl s
  with_reducible repeat'
    first
    | assumption | intro _ | apply State.command_keeps | apply State.cmdMacLookup_keeps | apply State.when_keeps
    | apply State.each_keeps | apply Keeps.ite | apply Keeps.foldl | apply Keeps.foldl_fst | split
    | refine Keeps.fields ?_ rfl (Nat.le_refl _) (Nat.le_refl _)

theorem execTableWrite_keeps {x0} {s t : State} (e : execTableWrite x0 s = .next t) : Keeps s t := by
  unfold execTableWrite at e
  injection e with e; subst e
  have h := Keeps.refl s
  with_reducible repeat'
    first
    | assumption | intro _ | apply State.command_keeps | apply State.cmdTableWrite_keeps | apply State.when_keeps
    | apply State.each_keeps | apply Keeps.ite | apply Keeps.foldl | apply Keeps.foldl_fst | split
    | refine Keeps.fields ?_ rfl (Nat.le_refl _) (Nat.le_refl _)

theorem execNvRead_keeps {x0} {s t : State} (e : execNvRead x0 s = .next t) : Keeps s t := by
  unfold execNvRead at e
  injection e with e; subst e
  have h := Keeps.refl s
  with_reducible repeat'
    first
    | assumption | intro _ | apply State.command_keeps | apply State.cmdNvRead_keeps | apply State.when_keeps
    | apply State.each_keeps | apply Keeps.ite | apply Keeps.foldl | apply Keeps.foldl_fst | split
    | refine Keeps.fields ?_ rfl (Nat.le_refl _) (Nat.le_refl _)

theorem execNvWrite_keeps {x0} {s t : State} (e : execNvWrite x0 s = .next t) : Keeps s t := by
  unfold execNvWrite at e
  injection e with e; subst e
  have h := Keeps.refl s
  with_reducible repeat'
    first
    | assumption | intro _ | apply State.command_keeps | apply State.cmdNvWrite_keeps | apply State.when_keeps
    | apply State.each_keeps | apply Keeps.ite | apply Keeps.foldl | apply Keeps.foldl_fst | split
    | refine Keeps.fields ?_ rfl (Nat.le_refl _) (Nat.le_refl _)

theorem execNvCommit_keeps {x0} {s t : State} (e : execNvCommit x0 s = .next t) : Keeps s t := by
  unfold execNvCommit at e
  injection e with e; subst e
  have h := Keeps.refl s
  with_reducible repeat'
    first
    | assumption | intro _ | apply State.command_keeps | apply State.cmdNvCommit_keeps

theorem execHotUserWrite_keeps {x0} {s t : State} (e : execHotUserWrite x0 s = .next t) : Keeps s t := by
  unfold execHotUserWrite at e
  injection e with e; subst e
  have h := Keeps.refl s
  with_reducible repeat'
    first
    | assumption | intro _ | apply State.command_keeps | apply State.cmdHotUserWrite_keeps | apply State.when_keeps
    | apply State.each_keeps | apply Keeps.ite | apply Keeps.foldl | apply Keeps.foldl_fst | split
    | refine Keeps.fields ?_ rfl (Nat.le_refl _) (Nat.le_refl _)

theorem execHotSave_keeps {x0} {s t : State} (e : execHotSave x0 s = .next t) : Keeps s t := by
  unfold execHotSave at e
  injection e with e; subst e
  have h := Keeps.refl s
  with_reducible repeat'
    first
    | assumption | intro _ | apply State.command_keeps | apply State.cmdHotSave_keeps

theorem execFaultLogRead_keeps {x0} {s t : State} (e : execFaultLogRead x0 s = .next t) : Keeps s t := by
  unfold execFaultLogRead at e
  injection e with e; subst e
  have h := Keeps.refl s
  with_reducible repeat'
    first
    | assumption | intro _ | apply State.command_keeps | apply State.cmdFaultLogRead_keeps | apply State.when_keeps
    | apply State.each_keeps | apply Keeps.ite | apply Keeps.foldl | apply Keeps.foldl_fst | split
    | refine Keeps.fields ?_ rfl (Nat.le_refl _) (Nat.le_refl _)

theorem execPowerState_keeps {x0} {s t : State} (e : execPowerState x0 s = .next t) : Keeps s t := by
  unfold execPowerState at e
  injection e with e; subst e
  have h := Keeps.refl s
  with_reducible repeat'
    first
    | assumption | intro _ | apply State.command_keeps | apply State.cmdPowerState_keeps | apply State.when_keeps
    | apply State.each_keeps | apply Keeps.ite | apply Keeps.foldl | apply Keeps.foldl_fst | split
    | refine Keeps.fields ?_ rfl (Nat.le_refl _) (Nat.le_refl _)

theorem execThermalStatus_keeps {x0} {s t : State} (e : execThermalStatus x0 s = .next t) : Keeps s t := by
  unfold execThermalStatus at e
  injection e with e; subst e
  have h := Keeps.refl s
  with_reducible repeat'
    first
    | assumption | intro _ | apply State.command_keeps | apply State.cmdThermal_keeps

/-! ### Host.lean -/

theorem State.lateRead_keeps (h : Keeps s t) (x0 x1 x2) : Keeps s (State.lateRead x0 x1 x2 t) := by
  unfold State.lateRead
  with_reducible repeat'
    first
    | assumption | apply State.answer_keeps | apply State.raise_keeps | apply State.busRead_keeps
    | apply State.logFault_keeps

theorem State.cutWord_keeps (h : Keeps s t) (x0 x1) : Keeps s (State.cutWord x0 x1 t) := by
  unfold State.cutWord
  with_reducible repeat'
    first
    | assumption | apply State.logFault_keeps | apply State.raise_keeps

theorem State.spiRead_keeps (h : Keeps s t) (x0 x1) : Keeps s (State.spiRead x0 x1 t) := by
  unfold State.spiRead
  with_reducible repeat'
    first
    | assumption | intro _ | apply State.answer_keeps | apply State.lateRead_keeps | apply State.busRead_keeps
    | apply Keeps.ite

theorem State.i2cSlaveWrite_keeps (h : Keeps s t) (x0 x1 x2) : Keeps s (State.i2cSlaveWrite x0 x1 x2 t) := by
  unfold State.i2cSlaveWrite
  with_reducible repeat'
    first
    | assumption | intro _ | apply State.busWrite_keeps | apply Keeps.ite
    | refine Keeps.fields ?_ rfl (Nat.le_refl _) (Nat.le_refl _)

theorem State.i2cSlaveRead_keeps (h : Keeps s t) (x0 x1 x2) : Keeps s (State.i2cSlaveRead x0 x1 x2 t) := by
  unfold State.i2cSlaveRead
  with_reducible repeat'
    first
    | assumption | intro _ | apply State.lateRead_keeps | apply State.busRead_keeps | apply Keeps.ite
    | refine Keeps.fields ?_ rfl (Nat.le_refl _) (Nat.le_refl _)

theorem State.pcieWord_keeps (h : Keeps s t) (x0 x1 x2 x3) : Keeps s (State.pcieWord x0 x1 x2 x3 t) := by
  unfold State.pcieWord
  with_reducible repeat'
    first
    | assumption | intro _ | apply State.busWrite_keeps | apply State.logFault_keeps | apply State.raise_keeps
    | apply State.answer_keeps | apply State.busRead_keeps | apply Keeps.ite

theorem State.pcieAccess_keeps (h : Keeps s t) (x0 x1 x2 x3) : Keeps s (State.pcieAccess x0 x1 x2 x3 t) := by
  unfold State.pcieAccess
  with_reducible repeat'
    first
    | assumption | intro _ | apply State.pcieWord_keeps | apply Keeps.ite | apply Keeps.foldl | apply Keeps.foldl_fst
    | refine Keeps.fields ?_ rfl (Nat.le_refl _) (Nat.le_refl _)

theorem State.msixSend_keeps (h : Keeps s t) (x0 x1) : Keeps s (State.msixSend x0 x1 t) := by
  unfold State.msixSend
  with_reducible repeat'
    first
    | assumption | intro _ | apply State.emit_keeps | apply Keeps.ite
    | refine Keeps.fields ?_ rfl (Nat.le_refl _) (Nat.le_refl _)

theorem State.linkUp_keeps (h : Keeps s t) (x0) : Keeps s (State.linkUp x0 t) := by
  unfold State.linkUp
  with_reducible repeat'
    first
    | assumption | intro _ | apply State.emit_keeps | apply State.each_keeps | apply Keeps.ite | apply Keeps.foldl
    | apply Keeps.foldl_fst | refine Keeps.fields ?_ rfl (Nat.le_refl _) (Nat.le_refl _)

theorem State.jtagUpdate_keeps (h : Keeps s t) (x0) : Keeps s (State.jtagUpdate x0 t) := by
  unfold State.jtagUpdate
  with_reducible repeat'
    first
    | assumption | intro _ | apply State.useFree_keeps | apply State.raise_keeps | apply State.busWrite_keeps
    | apply State.busRead_keeps | apply Keeps.ite | split | refine Keeps.fields ?_ rfl (Nat.le_refl _) (Nat.le_refl _)

theorem State.jtagCapture_keeps (h : Keeps s t) : Keeps s (State.jtagCapture t) := by
  unfold State.jtagCapture
  with_reducible repeat'
    first
    | assumption | intro _ | apply Keeps.ite | refine Keeps.fields ?_ rfl (Nat.le_refl _) (Nat.le_refl _)

theorem State.packetRx_keeps (h : Keeps s t) : Keeps s (State.packetRx t) := by
  unfold State.packetRx
  with_reducible repeat'
    first
    | assumption | intro _ | apply State.slotStart_keeps | apply State.txEnd_keeps | apply Keeps.ite

theorem State.packetTx_keeps (h : Keeps s t) (x0 x1) : Keeps s (State.packetTx x0 x1 t) := by
  unfold State.packetTx
  with_reducible repeat'
    first
    | assumption | intro _ | apply State.internalFrame_keeps | apply State.emit_keeps | apply State.raise_keeps
    | apply State.set_keeps | apply Keeps.ite

theorem State.ringError_keeps (h : Keeps s t) (x0) : Keeps s (State.ringError x0 t) := by
  unfold State.ringError
  with_reducible repeat'
    first
    | assumption | intro _ | apply State.logFault_keeps | apply State.raise_keeps | apply State.ringStop_keeps
    | apply State.useFree_keeps | apply Keeps.ite

theorem execSpiWriteWord_keeps {x0 x1 x2} {s t : State} (e : execSpiWriteWord x0 x1 x2 s = .next t) : Keeps s t := by
  unfold execSpiWriteWord at e
  injection e with e; subst e
  have h := Keeps.refl s
  with_reducible repeat'
    first
    | assumption | intro _ | apply State.busWrite_keeps | apply State.when_keeps

theorem execSpiReadWord_keeps {x0 x1 x2} {s t : State} (e : execSpiReadWord x0 x1 x2 s = .next t) : Keeps s t := by
  unfold execSpiReadWord at e
  injection e with e; subst e
  have h := Keeps.refl s
  with_reducible repeat'
    first
    | assumption | intro _ | apply State.spiRead_keeps | apply State.when_keeps

theorem execSpiFrameEnd_keeps {x0 x1} {s t : State} (e : execSpiFrameEnd x0 x1 s = .next t) : Keeps s t := by
  unfold execSpiFrameEnd at e
  injection e with e; subst e
  have h := Keeps.refl s
  with_reducible repeat'
    first
    | assumption | intro _ | apply State.cutWord_keeps | apply State.when_keeps

theorem execI2cWriteWord_keeps {x0 x1 x2} {s t : State} (e : execI2cWriteWord x0 x1 x2 s = .next t) : Keeps s t := by
  unfold execI2cWriteWord at e
  injection e with e; subst e
  have h := Keeps.refl s
  with_reducible repeat'
    first
    | assumption | apply State.i2cSlaveWrite_keeps

theorem execI2cReadWord_keeps {x0 x1 x2} {s t : State} (e : execI2cReadWord x0 x1 x2 s = .next t) : Keeps s t := by
  unfold execI2cReadWord at e
  injection e with e; subst e
  have h := Keeps.refl s
  with_reducible repeat'
    first
    | assumption | apply State.i2cSlaveRead_keeps

theorem execI2cTransactionEnd_keeps {x0 x1} {s t : State} (e : execI2cTransactionEnd x0 x1 s = .next t) : Keeps s t := by
  unfold execI2cTransactionEnd at e
  injection e with e; subst e
  have h := Keeps.refl s
  with_reducible repeat'
    first
    | assumption | intro _ | apply State.cutWord_keeps | apply State.when_keeps

theorem execPcieRequest_keeps {x0 x1 x2 x3} {s t : State} (e : execPcieRequest x0 x1 x2 x3 s = .next t) : Keeps s t := by
  unfold execPcieRequest at e
  injection e with e; subst e
  have h := Keeps.refl s
  with_reducible repeat'
    first
    | assumption | apply State.pcieAccess_keeps

theorem execJtagUpdateDr_keeps {x0} {s t : State} (e : execJtagUpdateDr x0 s = .next t) : Keeps s t := by
  unfold execJtagUpdateDr at e
  injection e with e; subst e
  have h := Keeps.refl s
  with_reducible repeat'
    first
    | assumption | apply State.jtagUpdate_keeps

theorem execJtagCaptureDr_keeps {s t : State} (e : execJtagCaptureDr s = .next t) : Keeps s t := by
  unfold execJtagCaptureDr at e
  injection e with e; subst e
  have h := Keeps.refl s
  with_reducible repeat'
    first
    | assumption | apply State.jtagCapture_keeps

theorem execPacketRx_keeps {s t : State} (e : execPacketRx s = .next t) : Keeps s t := by
  unfold execPacketRx at e
  injection e with e; subst e
  have h := Keeps.refl s
  with_reducible repeat'
    first
    | assumption | apply State.packetRx_keeps

theorem execPacketTx_keeps {x0 x1} {s t : State} (e : execPacketTx x0 x1 s = .next t) : Keeps s t := by
  unfold execPacketTx at e
  injection e with e; subst e
  have h := Keeps.refl s
  with_reducible repeat'
    first
    | assumption | apply State.packetTx_keeps

theorem execRingDmaError_keeps {x0} {s t : State} (e : execRingDmaError x0 s = .next t) : Keeps s t := by
  unfold execRingDmaError at e
  injection e with e; subst e
  have h := Keeps.refl s
  with_reducible repeat'
    first
    | assumption | intro _ | apply State.ringError_keeps | apply State.when_keeps

theorem execRingLenWrite_keeps {x0 x1 x2} {s t : State} (e : execRingLenWrite x0 x1 x2 s = .next t) : Keeps s t := by
  unfold execRingLenWrite at e
  injection e with e; subst e
  have h := Keeps.refl s
  with_reducible repeat'
    first
    | assumption | intro _ | apply State.access_keeps | apply State.ringLenEffect_keeps | apply State.when_keeps

theorem execMsixSend_keeps {x0 x1} {s t : State} (e : execMsixSend x0 x1 s = .next t) : Keeps s t := by
  unfold execMsixSend at e
  injection e with e; subst e
  have h := Keeps.refl s
  with_reducible repeat'
    first
    | assumption | intro _ | apply State.msixSend_keeps | apply State.when_keeps

theorem execPcieLinkUp_keeps {x0} {s t : State} (e : execPcieLinkUp x0 s = .next t) : Keeps s t := by
  unfold execPcieLinkUp at e
  injection e with e; subst e
  have h := Keeps.refl s
  with_reducible repeat'
    first
    | assumption | apply State.linkUp_keeps

/-! ### FaultCmds.lean -/

theorem State.reactionReset_keeps (h : Keeps s t) : Keeps s (State.reactionReset t) := by
  unfold State.reactionReset
  with_reducible repeat'
    first
    | assumption | intro _ | apply State.internalReset_keeps | apply State.faultNEval_keeps | apply Keeps.ite | split
    | refine Keeps.fields ?_ rfl (Nat.le_refl _) (Nat.le_refl _)

theorem State.pulseEnd_keeps (h : Keeps s t) : Keeps s (State.pulseEnd t) := by
  unfold State.pulseEnd
  with_reducible repeat'
    first
    | assumption | apply State.faultNEval_keeps | refine Keeps.fields ?_ rfl (Nat.le_refl _) (Nat.le_refl _)

theorem State.logCommit_keeps (h : Keeps s t) : Keeps s (State.logCommit t) := by
  unfold State.logCommit
  with_reducible repeat'
    first
    | assumption | intro _ | apply State.commitStart_keeps | apply Keeps.ite | apply Keeps.ite_fst

theorem State.sensorJudge_keeps (h : Keeps s t) (x0 x1 x2) : Keeps s (State.sensorJudge x0 x1 x2 t) := by
  unfold State.sensorJudge
  with_reducible repeat'
    first
    | assumption | intro _ | apply State.logFault_keeps | apply Keeps.ite
    | refine Keeps.fields ?_ rfl (Nat.le_refl _) (Nat.le_refl _)

theorem State.tempLimit_keeps (h : Keeps s t) (x0 x1 x2) : Keeps s (State.tempLimit x0 x1 x2 t) := by
  unfold State.tempLimit
  with_reducible repeat'
    first
    | assumption | intro _ | apply State.logFault_keeps | apply Keeps.ite
    | refine Keeps.fields ?_ rfl (Nat.le_refl _) (Nat.le_refl _)

theorem State.temperature_keeps (h : Keeps s t) (x0) : Keeps s (State.temperature x0 t) := by
  unfold State.temperature
  with_reducible repeat'
    first
    | assumption | intro _ | apply State.sensorJudge_keeps | apply State.setI_keeps | apply State.tempLimit_keeps
    | apply Keeps.ite | apply Keeps.ite_fst | apply Keeps.foldl | apply Keeps.foldl_fst | split
    | refine Keeps.fields ?_ rfl (Nat.le_refl _) (Nat.le_refl _)

theorem State.showRails_keeps (h : Keeps s t) : Keeps s (State.showRails t) := by
  unfold State.showRails
  with_reducible repeat'
    first
    | assumption | apply State.wr_keeps

theorem State.railOut_keeps (h : Keeps s t) (x0 x1) : Keeps s (State.railOut x0 x1 t) := by
  unfold State.railOut
  with_reducible repeat'
    first
    | assumption | intro _ | apply State.logFault_keeps | apply State.showRails_keeps | apply Keeps.ite
    | refine Keeps.fields ?_ rfl (Nat.le_refl _) (Nat.le_refl _)

theorem State.railBack_keeps (h : Keeps s t) (x0 x1) : Keeps s (State.railBack x0 x1 t) := by
  unfold State.railBack
  with_reducible repeat'
    first
    | assumption | intro _ | apply State.showRails_keeps | apply Keeps.ite
    | refine Keeps.fields ?_ rfl (Nat.le_refl _) (Nat.le_refl _)

theorem execFaultReset_keeps {s t : State} (e : execFaultReset s = .next t) : Keeps s t := by
  unfold execFaultReset at e
  injection e with e; subst e
  have h := Keeps.refl s
  with_reducible repeat'
    first
    | assumption | apply State.reactionReset_keeps

theorem execFaultNPulseEnd_keeps {s t : State} (e : execFaultNPulseEnd s = .next t) : Keeps s t := by
  unfold execFaultNPulseEnd at e
  injection e with e; subst e
  have h := Keeps.refl s
  with_reducible repeat'
    first
    | assumption | apply State.pulseEnd_keeps

theorem execClearFirst_keeps {x0 x1} {s t : State} (e : execClearFirst x0 x1 s = .next t) : Keeps s t := by
  unfold execClearFirst at e
  injection e with e; subst e
  have h := Keeps.refl s
  with_reducible repeat'
    first
    | assumption | intro _ | apply State.access_keeps | apply State.fltCtrlWrite_keeps

theorem execSqRelease_keeps {x0 x1} {s t : State} (e : execSqRelease x0 x1 s = .next t) : Keeps s t := by
  unfold execSqRelease at e
  injection e with e; subst e
  have h := Keeps.refl s
  with_reducible repeat'
    first
    | assumption | intro _ | apply State.access_keeps | apply State.fltCtrlWrite_keeps

theorem execNvlogPageCommit_keeps {s t : State} (e : execNvlogPageCommit s = .next t) : Keeps s t := by
  unfold execNvlogPageCommit at e
  injection e with e; subst e
  have h := Keeps.refl s
  with_reducible repeat'
    first
    | assumption | apply State.logCommit_keeps

theorem execTemperatureReading_keeps {x0} {s t : State} (e : execTemperatureReading x0 s = .next t) : Keeps s t := by
  unfold execTemperatureReading at e
  injection e with e; subst e
  have h := Keeps.refl s
  with_reducible repeat'
    first
    | assumption | apply State.temperature_keeps

theorem execRailExcursion_keeps {x0 x1} {s t : State} (e : execRailExcursion x0 x1 s = .next t) : Keeps s t := by
  unfold execRailExcursion at e
  injection e with e; subst e
  have h := Keeps.refl s
  with_reducible repeat'
    first
    | assumption | intro _ | apply State.railOut_keeps | apply State.when_keeps

theorem execRailExcursionEnd_keeps {x0 x1} {s t : State} (e : execRailExcursionEnd x0 x1 s = .next t) : Keeps s t := by
  unfold execRailExcursionEnd at e
  injection e with e; subst e
  have h := Keeps.refl s
  with_reducible repeat'
    first
    | assumption | intro _ | apply State.railBack_keeps | apply State.when_keeps

/-! ### Tick.lean -/

theorem State.vigilTick_keeps (h : Keeps s t) : Keeps s (State.vigilTick t) := by
  unfold State.vigilTick
  with_reducible repeat'
    first
    | assumption | intro _ | apply State.snapEnd_keeps | apply State.countTime_keeps | apply Keeps.ite

theorem State.countCycle_keeps (h : Keeps s t) : Keeps s (State.countCycle t) := by
  unfold State.countCycle
  with_reducible repeat'
    first
    | assumption | intro _ | apply State.outTick_keeps | apply State.advance_keeps | apply State.clkTick_keeps
    | apply State.axleTick_keeps | apply State.loopTick_keeps | apply State.bleedTick_keeps
    | apply State.feedTick_keeps | apply State.gaugePass_keeps | apply State.set_keeps | apply State.nvTick_keeps
    | apply State.fifoTick_keeps | apply State.snapEnd_keeps | apply State.offerEval_keeps
    | apply State.servedEval_keeps | apply State.servedTick_keeps | apply State.each_keeps

theorem State.rootTick_keeps (h : Keeps s t) : Keeps s (State.rootTick t) := by
  unfold State.rootTick
  refine Keeps.ite (fun _ => h) (fun _ => ?_)
  extract_lets u v
  have h0 : Keeps s (t.each [0, 1, 2, 3] State.selCompare) := State.each_keeps (fun l _ h => State.selCompare_keeps h l) h _
  have h1 : Keeps s u := State.countCycle_keeps h0
  have h2 : Keeps s v := h1.same rfl rfl rfl rfl (Nat.le_refl _) (Nat.le_succ _)
  exact State.showLoops_keeps (State.each_keeps (fun n _ h => State.squelchDue_keeps h n) h2 _)

theorem State.portShut_keeps (h : Keeps s t) (x0) : Keeps s (State.portShut x0 t) := by
  unfold State.portShut
  with_reducible repeat'
    first
    | assumption | intro _ | apply State.portOff_keeps | apply State.when_keeps

theorem State.tick_keeps (h : Keeps s t) : Keeps s (State.tick t) := by
  unfold State.tick
  with_reducible repeat'
    first
    | assumption | intro _ | apply State.vigilTick_keeps | apply State.rootTick_keeps | apply State.faultsLogged_keeps
    | apply State.portShut_keeps | apply Keeps.ite | split

end Sys2Proof.Machine
end

