-- ==== Sys2Proof/Laws/State.lean ====
section
/-! SUPPORT. What each of the plain updates of the state leaves as it was, field by field. -/

namespace Sys2Proof.Machine

variable (s : State)

/-! ### State.wr -/

@[simp] theorem State.wr_cyc (a : Nat) (w : Word) : (s.wr a w).cyc = s.cyc := (rfl)
@[simp] theorem State.wr_livery (a : Nat) (w : Word) : (s.wr a w).livery = s.livery := (rfl)
@[simp] theorem State.wr_boot (a : Nat) (w : Word) : (s.wr a w).boot = s.boot := (rfl)
@[simp] theorem State.wr_cgu (a : Nat) (w : Word) : (s.wr a w).cgu = s.cgu := (rfl)
@[simp] theorem State.wr_pwr (a : Nat) (w : Word) : (s.wr a w).pwr = s.pwr := (rfl)
@[simp] theorem State.wr_refs (a : Nat) (w : Word) : (s.wr a w).refs = s.refs := (rfl)
@[simp] theorem State.wr_tod (a : Nat) (w : Word) : (s.wr a w).tod = s.tod := (rfl)
@[simp] theorem State.wr_sels (a : Nat) (w : Word) : (s.wr a w).sels = s.sels := (rfl)
@[simp] theorem State.wr_loops (a : Nat) (w : Word) : (s.wr a w).loops = s.loops := (rfl)
@[simp] theorem State.wr_hold (a : Nat) (w : Word) : (s.wr a w).hold = s.hold := (rfl)
@[simp] theorem State.wr_axles (a : Nat) (w : Word) : (s.wr a w).axles = s.axles := (rfl)
@[simp] theorem State.wr_tim (a : Nat) (w : Word) : (s.wr a w).tim = s.tim := (rfl)
@[simp] theorem State.wr_outs (a : Nat) (w : Word) : (s.wr a w).outs = s.outs := (rfl)
@[simp] theorem State.wr_gauges (a : Nat) (w : Word) : (s.wr a w).gauges = s.gauges := (rfl)
@[simp] theorem State.wr_tse (a : Nat) (w : Word) : (s.wr a w).tse = s.tse := (rfl)
@[simp] theorem State.wr_cpl (a : Nat) (w : Word) : (s.wr a w).cpl = s.cpl := (rfl)
@[simp] theorem State.wr_ports (a : Nat) (w : Word) : (s.wr a w).ports = s.ports := (rfl)
@[simp] theorem State.wr_i2c (a : Nat) (w : Word) : (s.wr a w).i2c = s.i2c := (rfl)
@[simp] theorem State.wr_fwd (a : Nat) (w : Word) : (s.wr a w).fwd = s.fwd := (rfl)
@[simp] theorem State.wr_buf (a : Nat) (w : Word) : (s.wr a w).buf = s.buf := (rfl)
@[simp] theorem State.wr_sch (a : Nat) (w : Word) : (s.wr a w).sch = s.sch := (rfl)
@[simp] theorem State.wr_mir (a : Nat) (w : Word) : (s.wr a w).mir = s.mir := (rfl)
@[simp] theorem State.wr_nvs (a : Nat) (w : Word) : (s.wr a w).nvs = s.nvs := (rfl)
@[simp] theorem State.wr_mbx (a : Nat) (w : Word) : (s.wr a w).mbx = s.mbx := (rfl)
@[simp] theorem State.wr_fw (a : Nat) (w : Word) : (s.wr a w).fw = s.fw := (rfl)
@[simp] theorem State.wr_hif (a : Nat) (w : Word) : (s.wr a w).hif = s.hif := (rfl)
@[simp] theorem State.wr_flt (a : Nat) (w : Word) : (s.wr a w).flt = s.flt := (rfl)
@[simp] theorem State.wr_out (a : Nat) (w : Word) : (s.wr a w).out = s.out := (rfl)
@[simp] theorem State.wr_free (a : Nat) (w : Word) : (s.wr a w).free = s.free := (rfl)
@[simp] theorem State.wr_pending (a : Nat) (w : Word) : (s.wr a w).pending = s.pending := (rfl)

/-! ### State.set -/

@[simp] theorem State.set_cyc (f : FieldRef) (v : Nat) : (s.set f v).cyc = s.cyc := (rfl)
@[simp] theorem State.set_livery (f : FieldRef) (v : Nat) : (s.set f v).livery = s.livery := (rfl)
@[simp] theorem State.set_boot (f : FieldRef) (v : Nat) : (s.set f v).boot = s.boot := (rfl)
@[simp] theorem State.set_cgu (f : FieldRef) (v : Nat) : (s.set f v).cgu = s.cgu := (rfl)
@[simp] theorem State.set_pwr (f : FieldRef) (v : Nat) : (s.set f v).pwr = s.pwr := (rfl)
@[simp] theorem State.set_refs (f : FieldRef) (v : Nat) : (s.set f v).refs = s.refs := (rfl)
@[simp] theorem State.set_tod (f : FieldRef) (v : Nat) : (s.set f v).tod = s.tod := (rfl)
@[simp] theorem State.set_sels (f : FieldRef) (v : Nat) : (s.set f v).sels = s.sels := (rfl)
@[simp] theorem State.set_loops (f : FieldRef) (v : Nat) : (s.set f v).loops = s.loops := (rfl)
@[simp] theorem State.set_hold (f : FieldRef) (v : Nat) : (s.set f v).hold = s.hold := (rfl)
@[simp] theorem State.set_axles (f : FieldRef) (v : Nat) : (s.set f v).axles = s.axles := (rfl)
@[simp] theorem State.set_tim (f : FieldRef) (v : Nat) : (s.set f v).tim = s.tim := (rfl)
@[simp] theorem State.set_outs (f : FieldRef) (v : Nat) : (s.set f v).outs = s.outs := (rfl)
@[simp] theorem State.set_gauges (f : FieldRef) (v : Nat) : (s.set f v).gauges = s.gauges := (rfl)
@[simp] theorem State.set_tse (f : FieldRef) (v : Nat) : (s.set f v).tse = s.tse := (rfl)
@[simp] theorem State.set_cpl (f : FieldRef) (v : Nat) : (s.set f v).cpl = s.cpl := (rfl)
@[simp] theorem State.set_ports (f : FieldRef) (v : Nat) : (s.set f v).ports = s.ports := (rfl)
@[simp] theorem State.set_i2c (f : FieldRef) (v : Nat) : (s.set f v).i2c = s.i2c := (rfl)
@[simp] theorem State.set_fwd (f : FieldRef) (v : Nat) : (s.set f v).fwd = s.fwd := (rfl)
@[simp] theorem State.set_buf (f : FieldRef) (v : Nat) : (s.set f v).buf = s.buf := (rfl)
@[simp] theorem State.set_sch (f : FieldRef) (v : Nat) : (s.set f v).sch = s.sch := (rfl)
@[simp] theorem State.set_mir (f : FieldRef) (v : Nat) : (s.set f v).mir = s.mir := (rfl)
@[simp] theorem State.set_nvs (f : FieldRef) (v : Nat) : (s.set f v).nvs = s.nvs := (rfl)
@[simp] theorem State.set_mbx (f : FieldRef) (v : Nat) : (s.set f v).mbx = s.mbx := (rfl)
@[simp] theorem State.set_fw (f : FieldRef) (v : Nat) : (s.set f v).fw = s.fw := (rfl)
@[simp] theorem State.set_hif (f : FieldRef) (v : Nat) : (s.set f v).hif = s.hif := (rfl)
@[simp] theorem State.set_flt (f : FieldRef) (v : Nat) : (s.set f v).flt = s.flt := (rfl)
@[simp] theorem State.set_out (f : FieldRef) (v : Nat) : (s.set f v).out = s.out := (rfl)
@[simp] theorem State.set_free (f : FieldRef) (v : Nat) : (s.set f v).free = s.free := (rfl)
@[simp] theorem State.set_pending (f : FieldRef) (v : Nat) : (s.set f v).pending = s.pending := (rfl)

/-! ### State.setRef -/

@[simp] theorem State.setRef_regs (n : Nat) (r : RefSt) : (s.setRef n r).regs = s.regs := (rfl)
@[simp] theorem State.setRef_cyc (n : Nat) (r : RefSt) : (s.setRef n r).cyc = s.cyc := (rfl)
@[simp] theorem State.setRef_livery (n : Nat) (r : RefSt) : (s.setRef n r).livery = s.livery := (rfl)
@[simp] theorem State.setRef_boot (n : Nat) (r : RefSt) : (s.setRef n r).boot = s.boot := (rfl)
@[simp] theorem State.setRef_cgu (n : Nat) (r : RefSt) : (s.setRef n r).cgu = s.cgu := (rfl)
@[simp] theorem State.setRef_pwr (n : Nat) (r : RefSt) : (s.setRef n r).pwr = s.pwr := (rfl)
@[simp] theorem State.setRef_tod (n : Nat) (r : RefSt) : (s.setRef n r).tod = s.tod := (rfl)
@[simp] theorem State.setRef_sels (n : Nat) (r : RefSt) : (s.setRef n r).sels = s.sels := (rfl)
@[simp] theorem State.setRef_loops (n : Nat) (r : RefSt) : (s.setRef n r).loops = s.loops := (rfl)
@[simp] theorem State.setRef_hold (n : Nat) (r : RefSt) : (s.setRef n r).hold = s.hold := (rfl)
@[simp] theorem State.setRef_axles (n : Nat) (r : RefSt) : (s.setRef n r).axles = s.axles := (rfl)
@[simp] theorem State.setRef_tim (n : Nat) (r : RefSt) : (s.setRef n r).tim = s.tim := (rfl)
@[simp] theorem State.setRef_outs (n : Nat) (r : RefSt) : (s.setRef n r).outs = s.outs := (rfl)
@[simp] theorem State.setRef_gauges (n : Nat) (r : RefSt) : (s.setRef n r).gauges = s.gauges := (rfl)
@[simp] theorem State.setRef_tse (n : Nat) (r : RefSt) : (s.setRef n r).tse = s.tse := (rfl)
@[simp] theorem State.setRef_cpl (n : Nat) (r : RefSt) : (s.setRef n r).cpl = s.cpl := (rfl)
@[simp] theorem State.setRef_ports (n : Nat) (r : RefSt) : (s.setRef n r).ports = s.ports := (rfl)
@[simp] theorem State.setRef_i2c (n : Nat) (r : RefSt) : (s.setRef n r).i2c = s.i2c := (rfl)
@[simp] theorem State.setRef_fwd (n : Nat) (r : RefSt) : (s.setRef n r).fwd = s.fwd := (rfl)
@[simp] theorem State.setRef_buf (n : Nat) (r : RefSt) : (s.setRef n r).buf = s.buf := (rfl)
@[simp] theorem State.setRef_sch (n : Nat) (r : RefSt) : (s.setRef n r).sch = s.sch := (rfl)
@[simp] theorem State.setRef_mir (n : Nat) (r : RefSt) : (s.setRef n r).mir = s.mir := (rfl)
@[simp] theorem State.setRef_nvs (n : Nat) (r : RefSt) : (s.setRef n r).nvs = s.nvs := (rfl)
@[simp] theorem State.setRef_mbx (n : Nat) (r : RefSt) : (s.setRef n r).mbx = s.mbx := (rfl)
@[simp] theorem State.setRef_fw (n : Nat) (r : RefSt) : (s.setRef n r).fw = s.fw := (rfl)
@[simp] theorem State.setRef_hif (n : Nat) (r : RefSt) : (s.setRef n r).hif = s.hif := (rfl)
@[simp] theorem State.setRef_flt (n : Nat) (r : RefSt) : (s.setRef n r).flt = s.flt := (rfl)
@[simp] theorem State.setRef_out (n : Nat) (r : RefSt) : (s.setRef n r).out = s.out := (rfl)
@[simp] theorem State.setRef_free (n : Nat) (r : RefSt) : (s.setRef n r).free = s.free := (rfl)
@[simp] theorem State.setRef_pending (n : Nat) (r : RefSt) : (s.setRef n r).pending = s.pending := (rfl)
@[simp] theorem State.setRef_rd (n : Nat) (r : RefSt) (a' : Nat) : (s.setRef n r).rd a' = s.rd a' := (rfl)
@[simp] theorem State.setRef_get (n : Nat) (r : RefSt) (f' : FieldRef) : (s.setRef n r).get f' = s.get f' := (rfl)
@[simp] theorem State.setRef_regsWf (n : Nat) (r : RefSt) : (s.setRef n r).regsWf = s.regsWf := (rfl)

/-! ### State.setSel -/

@[simp] theorem State.setSel_regs (n : Nat) (r : SelSt) : (s.setSel n r).regs = s.regs := (rfl)
@[simp] theorem State.setSel_cyc (n : Nat) (r : SelSt) : (s.setSel n r).cyc = s.cyc := (rfl)
@[simp] theorem State.setSel_livery (n : Nat) (r : SelSt) : (s.setSel n r).livery = s.livery := (rfl)
@[simp] theorem State.setSel_boot (n : Nat) (r : SelSt) : (s.setSel n r).boot = s.boot := (rfl)
@[simp] theorem State.setSel_cgu (n : Nat) (r : SelSt) : (s.setSel n r).cgu = s.cgu := (rfl)
@[simp] theorem State.setSel_pwr (n : Nat) (r : SelSt) : (s.setSel n r).pwr = s.pwr := (rfl)
@[simp] theorem State.setSel_refs (n : Nat) (r : SelSt) : (s.setSel n r).refs = s.refs := (rfl)
@[simp] theorem State.setSel_tod (n : Nat) (r : SelSt) : (s.setSel n r).tod = s.tod := (rfl)
@[simp] theorem State.setSel_loops (n : Nat) (r : SelSt) : (s.setSel n r).loops = s.loops := (rfl)
@[simp] theorem State.setSel_hold (n : Nat) (r : SelSt) : (s.setSel n r).hold = s.hold := (rfl)
@[simp] theorem State.setSel_axles (n : Nat) (r : SelSt) : (s.setSel n r).axles = s.axles := (rfl)
@[simp] theorem State.setSel_tim (n : Nat) (r : SelSt) : (s.setSel n r).tim = s.tim := (rfl)
@[simp] theorem State.setSel_outs (n : Nat) (r : SelSt) : (s.setSel n r).outs = s.outs := (rfl)
@[simp] theorem State.setSel_gauges (n : Nat) (r : SelSt) : (s.setSel n r).gauges = s.gauges := (rfl)
@[simp] theorem State.setSel_tse (n : Nat) (r : SelSt) : (s.setSel n r).tse = s.tse := (rfl)
@[simp] theorem State.setSel_cpl (n : Nat) (r : SelSt) : (s.setSel n r).cpl = s.cpl := (rfl)
@[simp] theorem State.setSel_ports (n : Nat) (r : SelSt) : (s.setSel n r).ports = s.ports := (rfl)
@[simp] theorem State.setSel_i2c (n : Nat) (r : SelSt) : (s.setSel n r).i2c = s.i2c := (rfl)
@[simp] theorem State.setSel_fwd (n : Nat) (r : SelSt) : (s.setSel n r).fwd = s.fwd := (rfl)
@[simp] theorem State.setSel_buf (n : Nat) (r : SelSt) : (s.setSel n r).buf = s.buf := (rfl)
@[simp] theorem State.setSel_sch (n : Nat) (r : SelSt) : (s.setSel n r).sch = s.sch := (rfl)
@[simp] theorem State.setSel_mir (n : Nat) (r : SelSt) : (s.setSel n r).mir = s.mir := (rfl)
@[simp] theorem State.setSel_nvs (n : Nat) (r : SelSt) : (s.setSel n r).nvs = s.nvs := (rfl)
@[simp] theorem State.setSel_mbx (n : Nat) (r : SelSt) : (s.setSel n r).mbx = s.mbx := (rfl)
@[simp] theorem State.setSel_fw (n : Nat) (r : SelSt) : (s.setSel n r).fw = s.fw := (rfl)
@[simp] theorem State.setSel_hif (n : Nat) (r : SelSt) : (s.setSel n r).hif = s.hif := (rfl)
@[simp] theorem State.setSel_flt (n : Nat) (r : SelSt) : (s.setSel n r).flt = s.flt := (rfl)
@[simp] theorem State.setSel_out (n : Nat) (r : SelSt) : (s.setSel n r).out = s.out := (rfl)
@[simp] theorem State.setSel_free (n : Nat) (r : SelSt) : (s.setSel n r).free = s.free := (rfl)
@[simp] theorem State.setSel_pending (n : Nat) (r : SelSt) : (s.setSel n r).pending = s.pending := (rfl)
@[simp] theorem State.setSel_rd (n : Nat) (r : SelSt) (a' : Nat) : (s.setSel n r).rd a' = s.rd a' := (rfl)
@[simp] theorem State.setSel_get (n : Nat) (r : SelSt) (f' : FieldRef) : (s.setSel n r).get f' = s.get f' := (rfl)
@[simp] theorem State.setSel_regsWf (n : Nat) (r : SelSt) : (s.setSel n r).regsWf = s.regsWf := (rfl)

/-! ### State.setLoop -/

@[simp] theorem State.setLoop_regs (n : Nat) (r : LoopSt) : (s.setLoop n r).regs = s.regs := (rfl)
@[simp] theorem State.setLoop_cyc (n : Nat) (r : LoopSt) : (s.setLoop n r).cyc = s.cyc := (rfl)
@[simp] theorem State.setLoop_livery (n : Nat) (r : LoopSt) : (s.setLoop n r).livery = s.livery := (rfl)
@[simp] theorem State.setLoop_boot (n : Nat) (r : LoopSt) : (s.setLoop n r).boot = s.boot := (rfl)
@[simp] theorem State.setLoop_cgu (n : Nat) (r : LoopSt) : (s.setLoop n r).cgu = s.cgu := (rfl)
@[simp] theorem State.setLoop_pwr (n : Nat) (r : LoopSt) : (s.setLoop n r).pwr = s.pwr := (rfl)
@[simp] theorem State.setLoop_refs (n : Nat) (r : LoopSt) : (s.setLoop n r).refs = s.refs := (rfl)
@[simp] theorem State.setLoop_tod (n : Nat) (r : LoopSt) : (s.setLoop n r).tod = s.tod := (rfl)
@[simp] theorem State.setLoop_sels (n : Nat) (r : LoopSt) : (s.setLoop n r).sels = s.sels := (rfl)
@[simp] theorem State.setLoop_hold (n : Nat) (r : LoopSt) : (s.setLoop n r).hold = s.hold := (rfl)
@[simp] theorem State.setLoop_axles (n : Nat) (r : LoopSt) : (s.setLoop n r).axles = s.axles := (rfl)
@[simp] theorem State.setLoop_tim (n : Nat) (r : LoopSt) : (s.setLoop n r).tim = s.tim := (rfl)
@[simp] theorem State.setLoop_outs (n : Nat) (r : LoopSt) : (s.setLoop n r).outs = s.outs := (rfl)
@[simp] theorem State.setLoop_gauges (n : Nat) (r : LoopSt) : (s.setLoop n r).gauges = s.gauges := (rfl)
@[simp] theorem State.setLoop_tse (n : Nat) (r : LoopSt) : (s.setLoop n r).tse = s.tse := (rfl)
@[simp] theorem State.setLoop_cpl (n : Nat) (r : LoopSt) : (s.setLoop n r).cpl = s.cpl := (rfl)
@[simp] theorem State.setLoop_ports (n : Nat) (r : LoopSt) : (s.setLoop n r).ports = s.ports := (rfl)
@[simp] theorem State.setLoop_i2c (n : Nat) (r : LoopSt) : (s.setLoop n r).i2c = s.i2c := (rfl)
@[simp] theorem State.setLoop_fwd (n : Nat) (r : LoopSt) : (s.setLoop n r).fwd = s.fwd := (rfl)
@[simp] theorem State.setLoop_buf (n : Nat) (r : LoopSt) : (s.setLoop n r).buf = s.buf := (rfl)
@[simp] theorem State.setLoop_sch (n : Nat) (r : LoopSt) : (s.setLoop n r).sch = s.sch := (rfl)
@[simp] theorem State.setLoop_mir (n : Nat) (r : LoopSt) : (s.setLoop n r).mir = s.mir := (rfl)
@[simp] theorem State.setLoop_nvs (n : Nat) (r : LoopSt) : (s.setLoop n r).nvs = s.nvs := (rfl)
@[simp] theorem State.setLoop_mbx (n : Nat) (r : LoopSt) : (s.setLoop n r).mbx = s.mbx := (rfl)
@[simp] theorem State.setLoop_fw (n : Nat) (r : LoopSt) : (s.setLoop n r).fw = s.fw := (rfl)
@[simp] theorem State.setLoop_hif (n : Nat) (r : LoopSt) : (s.setLoop n r).hif = s.hif := (rfl)
@[simp] theorem State.setLoop_flt (n : Nat) (r : LoopSt) : (s.setLoop n r).flt = s.flt := (rfl)
@[simp] theorem State.setLoop_out (n : Nat) (r : LoopSt) : (s.setLoop n r).out = s.out := (rfl)
@[simp] theorem State.setLoop_free (n : Nat) (r : LoopSt) : (s.setLoop n r).free = s.free := (rfl)
@[simp] theorem State.setLoop_pending (n : Nat) (r : LoopSt) : (s.setLoop n r).pending = s.pending := (rfl)
@[simp] theorem State.setLoop_rd (n : Nat) (r : LoopSt) (a' : Nat) : (s.setLoop n r).rd a' = s.rd a' := (rfl)
@[simp] theorem State.setLoop_get (n : Nat) (r : LoopSt) (f' : FieldRef) : (s.setLoop n r).get f' = s.get f' := (rfl)
@[simp] theorem State.setLoop_regsWf (n : Nat) (r : LoopSt) : (s.setLoop n r).regsWf = s.regsWf := (rfl)

/-! ### State.setHoldLoop -/

@[simp] theorem State.setHoldLoop_regs (n : Nat) (r : HoldLoop) : (s.setHoldLoop n r).regs = s.regs := (rfl)
@[simp] theorem State.setHoldLoop_cyc (n : Nat) (r : HoldLoop) : (s.setHoldLoop n r).cyc = s.cyc := (rfl)
@[simp] theorem State.setHoldLoop_livery (n : Nat) (r : HoldLoop) : (s.setHoldLoop n r).livery = s.livery := (rfl)
@[simp] theorem State.setHoldLoop_boot (n : Nat) (r : HoldLoop) : (s.setHoldLoop n r).boot = s.boot := (rfl)
@[simp] theorem State.setHoldLoop_cgu (n : Nat) (r : HoldLoop) : (s.setHoldLoop n r).cgu = s.cgu := (rfl)
@[simp] theorem State.setHoldLoop_pwr (n : Nat) (r : HoldLoop) : (s.setHoldLoop n r).pwr = s.pwr := (rfl)
@[simp] theorem State.setHoldLoop_refs (n : Nat) (r : HoldLoop) : (s.setHoldLoop n r).refs = s.refs := (rfl)
@[simp] theorem State.setHoldLoop_tod (n : Nat) (r : HoldLoop) : (s.setHoldLoop n r).tod = s.tod := (rfl)
@[simp] theorem State.setHoldLoop_sels (n : Nat) (r : HoldLoop) : (s.setHoldLoop n r).sels = s.sels := (rfl)
@[simp] theorem State.setHoldLoop_loops (n : Nat) (r : HoldLoop) : (s.setHoldLoop n r).loops = s.loops := (rfl)
@[simp] theorem State.setHoldLoop_axles (n : Nat) (r : HoldLoop) : (s.setHoldLoop n r).axles = s.axles := (rfl)
@[simp] theorem State.setHoldLoop_tim (n : Nat) (r : HoldLoop) : (s.setHoldLoop n r).tim = s.tim := (rfl)
@[simp] theorem State.setHoldLoop_outs (n : Nat) (r : HoldLoop) : (s.setHoldLoop n r).outs = s.outs := (rfl)
@[simp] theorem State.setHoldLoop_gauges (n : Nat) (r : HoldLoop) : (s.setHoldLoop n r).gauges = s.gauges := (rfl)
@[simp] theorem State.setHoldLoop_tse (n : Nat) (r : HoldLoop) : (s.setHoldLoop n r).tse = s.tse := (rfl)
@[simp] theorem State.setHoldLoop_cpl (n : Nat) (r : HoldLoop) : (s.setHoldLoop n r).cpl = s.cpl := (rfl)
@[simp] theorem State.setHoldLoop_ports (n : Nat) (r : HoldLoop) : (s.setHoldLoop n r).ports = s.ports := (rfl)
@[simp] theorem State.setHoldLoop_i2c (n : Nat) (r : HoldLoop) : (s.setHoldLoop n r).i2c = s.i2c := (rfl)
@[simp] theorem State.setHoldLoop_fwd (n : Nat) (r : HoldLoop) : (s.setHoldLoop n r).fwd = s.fwd := (rfl)
@[simp] theorem State.setHoldLoop_buf (n : Nat) (r : HoldLoop) : (s.setHoldLoop n r).buf = s.buf := (rfl)
@[simp] theorem State.setHoldLoop_sch (n : Nat) (r : HoldLoop) : (s.setHoldLoop n r).sch = s.sch := (rfl)
@[simp] theorem State.setHoldLoop_mir (n : Nat) (r : HoldLoop) : (s.setHoldLoop n r).mir = s.mir := (rfl)
@[simp] theorem State.setHoldLoop_nvs (n : Nat) (r : HoldLoop) : (s.setHoldLoop n r).nvs = s.nvs := (rfl)
@[simp] theorem State.setHoldLoop_mbx (n : Nat) (r : HoldLoop) : (s.setHoldLoop n r).mbx = s.mbx := (rfl)
@[simp] theorem State.setHoldLoop_fw (n : Nat) (r : HoldLoop) : (s.setHoldLoop n r).fw = s.fw := (rfl)
@[simp] theorem State.setHoldLoop_hif (n : Nat) (r : HoldLoop) : (s.setHoldLoop n r).hif = s.hif := (rfl)
@[simp] theorem State.setHoldLoop_flt (n : Nat) (r : HoldLoop) : (s.setHoldLoop n r).flt = s.flt := (rfl)
@[simp] theorem State.setHoldLoop_out (n : Nat) (r : HoldLoop) : (s.setHoldLoop n r).out = s.out := (rfl)
@[simp] theorem State.setHoldLoop_free (n : Nat) (r : HoldLoop) : (s.setHoldLoop n r).free = s.free := (rfl)
@[simp] theorem State.setHoldLoop_pending (n : Nat) (r : HoldLoop) : (s.setHoldLoop n r).pending = s.pending := (rfl)
@[simp] theorem State.setHoldLoop_rd (n : Nat) (r : HoldLoop) (a' : Nat) : (s.setHoldLoop n r).rd a' = s.rd a' := (rfl)
@[simp] theorem State.setHoldLoop_get (n : Nat) (r : HoldLoop) (f' : FieldRef) : (s.setHoldLoop n r).get f' = s.get f' := (rfl)
@[simp] theorem State.setHoldLoop_regsWf (n : Nat) (r : HoldLoop) : (s.setHoldLoop n r).regsWf = s.regsWf := (rfl)

/-! ### State.setAxle -/

@[simp] theorem State.setAxle_regs (n : Nat) (r : AxlSt) : (s.setAxle n r).regs = s.regs := (rfl)
@[simp] theorem State.setAxle_cyc (n : Nat) (r : AxlSt) : (s.setAxle n r).cyc = s.cyc := (rfl)
@[simp] theorem State.setAxle_livery (n : Nat) (r : AxlSt) : (s.setAxle n r).livery = s.livery := (rfl)
@[simp] theorem State.setAxle_boot (n : Nat) (r : AxlSt) : (s.setAxle n r).boot = s.boot := (rfl)
@[simp] theorem State.setAxle_cgu (n : Nat) (r : AxlSt) : (s.setAxle n r).cgu = s.cgu := (rfl)
@[simp] theorem State.setAxle_pwr (n : Nat) (r : AxlSt) : (s.setAxle n r).pwr = s.pwr := (rfl)
@[simp] theorem State.setAxle_refs (n : Nat) (r : AxlSt) : (s.setAxle n r).refs = s.refs := (rfl)
@[simp] theorem State.setAxle_tod (n : Nat) (r : AxlSt) : (s.setAxle n r).tod = s.tod := (rfl)
@[simp] theorem State.setAxle_sels (n : Nat) (r : AxlSt) : (s.setAxle n r).sels = s.sels := (rfl)
@[simp] theorem State.setAxle_loops (n : Nat) (r : AxlSt) : (s.setAxle n r).loops = s.loops := (rfl)
@[simp] theorem State.setAxle_hold (n : Nat) (r : AxlSt) : (s.setAxle n r).hold = s.hold := (rfl)
@[simp] theorem State.setAxle_tim (n : Nat) (r : AxlSt) : (s.setAxle n r).tim = s.tim := (rfl)
@[simp] theorem State.setAxle_outs (n : Nat) (r : AxlSt) : (s.setAxle n r).outs = s.outs := (rfl)
@[simp] theorem State.setAxle_gauges (n : Nat) (r : AxlSt) : (s.setAxle n r).gauges = s.gauges := (rfl)
@[simp] theorem State.setAxle_tse (n : Nat) (r : AxlSt) : (s.setAxle n r).tse = s.tse := (rfl)
@[simp] theorem State.setAxle_cpl (n : Nat) (r : AxlSt) : (s.setAxle n r).cpl = s.cpl := (rfl)
@[simp] theorem State.setAxle_ports (n : Nat) (r : AxlSt) : (s.setAxle n r).ports = s.ports := (rfl)
@[simp] theorem State.setAxle_i2c (n : Nat) (r : AxlSt) : (s.setAxle n r).i2c = s.i2c := (rfl)
@[simp] theorem State.setAxle_fwd (n : Nat) (r : AxlSt) : (s.setAxle n r).fwd = s.fwd := (rfl)
@[simp] theorem State.setAxle_buf (n : Nat) (r : AxlSt) : (s.setAxle n r).buf = s.buf := (rfl)
@[simp] theorem State.setAxle_sch (n : Nat) (r : AxlSt) : (s.setAxle n r).sch = s.sch := (rfl)
@[simp] theorem State.setAxle_mir (n : Nat) (r : AxlSt) : (s.setAxle n r).mir = s.mir := (rfl)
@[simp] theorem State.setAxle_nvs (n : Nat) (r : AxlSt) : (s.setAxle n r).nvs = s.nvs := (rfl)
@[simp] theorem State.setAxle_mbx (n : Nat) (r : AxlSt) : (s.setAxle n r).mbx = s.mbx := (rfl)
@[simp] theorem State.setAxle_fw (n : Nat) (r : AxlSt) : (s.setAxle n r).fw = s.fw := (rfl)
@[simp] theorem State.setAxle_hif (n : Nat) (r : AxlSt) : (s.setAxle n r).hif = s.hif := (rfl)
@[simp] theorem State.setAxle_flt (n : Nat) (r : AxlSt) : (s.setAxle n r).flt = s.flt := (rfl)
@[simp] theorem State.setAxle_out (n : Nat) (r : AxlSt) : (s.setAxle n r).out = s.out := (rfl)
@[simp] theorem State.setAxle_free (n : Nat) (r : AxlSt) : (s.setAxle n r).free = s.free := (rfl)
@[simp] theorem State.setAxle_pending (n : Nat) (r : AxlSt) : (s.setAxle n r).pending = s.pending := (rfl)
@[simp] theorem State.setAxle_rd (n : Nat) (r : AxlSt) (a' : Nat) : (s.setAxle n r).rd a' = s.rd a' := (rfl)
@[simp] theorem State.setAxle_get (n : Nat) (r : AxlSt) (f' : FieldRef) : (s.setAxle n r).get f' = s.get f' := (rfl)
@[simp] theorem State.setAxle_regsWf (n : Nat) (r : AxlSt) : (s.setAxle n r).regsWf = s.regsWf := (rfl)

/-! ### State.setOutp -/

@[simp] theorem State.setOutp_regs (n : Nat) (r : OutSt) : (s.setOutp n r).regs = s.regs := (rfl)
@[simp] theorem State.setOutp_cyc (n : Nat) (r : OutSt) : (s.setOutp n r).cyc = s.cyc := (rfl)
@[simp] theorem State.setOutp_livery (n : Nat) (r : OutSt) : (s.setOutp n r).livery = s.livery := (rfl)
@[simp] theorem State.setOutp_boot (n : Nat) (r : OutSt) : (s.setOutp n r).boot = s.boot := (rfl)
@[simp] theorem State.setOutp_cgu (n : Nat) (r : OutSt) : (s.setOutp n r).cgu = s.cgu := (rfl)
@[simp] theorem State.setOutp_pwr (n : Nat) (r : OutSt) : (s.setOutp n r).pwr = s.pwr := (rfl)
@[simp] theorem State.setOutp_refs (n : Nat) (r : OutSt) : (s.setOutp n r).refs = s.refs := (rfl)
@[simp] theorem State.setOutp_tod (n : Nat) (r : OutSt) : (s.setOutp n r).tod = s.tod := (rfl)
@[simp] theorem State.setOutp_sels (n : Nat) (r : OutSt) : (s.setOutp n r).sels = s.sels := (rfl)
@[simp] theorem State.setOutp_loops (n : Nat) (r : OutSt) : (s.setOutp n r).loops = s.loops := (rfl)
@[simp] theorem State.setOutp_hold (n : Nat) (r : OutSt) : (s.setOutp n r).hold = s.hold := (rfl)
@[simp] theorem State.setOutp_axles (n : Nat) (r : OutSt) : (s.setOutp n r).axles = s.axles := (rfl)
@[simp] theorem State.setOutp_tim (n : Nat) (r : OutSt) : (s.setOutp n r).tim = s.tim := (rfl)
@[simp] theorem State.setOutp_gauges (n : Nat) (r : OutSt) : (s.setOutp n r).gauges = s.gauges := (rfl)
@[simp] theorem State.setOutp_tse (n : Nat) (r : OutSt) : (s.setOutp n r).tse = s.tse := (rfl)
@[simp] theorem State.setOutp_cpl (n : Nat) (r : OutSt) : (s.setOutp n r).cpl = s.cpl := (rfl)
@[simp] theorem State.setOutp_ports (n : Nat) (r : OutSt) : (s.setOutp n r).ports = s.ports := (rfl)
@[simp] theorem State.setOutp_i2c (n : Nat) (r : OutSt) : (s.setOutp n r).i2c = s.i2c := (rfl)
@[simp] theorem State.setOutp_fwd (n : Nat) (r : OutSt) : (s.setOutp n r).fwd = s.fwd := (rfl)
@[simp] theorem State.setOutp_buf (n : Nat) (r : OutSt) : (s.setOutp n r).buf = s.buf := (rfl)
@[simp] theorem State.setOutp_sch (n : Nat) (r : OutSt) : (s.setOutp n r).sch = s.sch := (rfl)
@[simp] theorem State.setOutp_mir (n : Nat) (r : OutSt) : (s.setOutp n r).mir = s.mir := (rfl)
@[simp] theorem State.setOutp_nvs (n : Nat) (r : OutSt) : (s.setOutp n r).nvs = s.nvs := (rfl)
@[simp] theorem State.setOutp_mbx (n : Nat) (r : OutSt) : (s.setOutp n r).mbx = s.mbx := (rfl)
@[simp] theorem State.setOutp_fw (n : Nat) (r : OutSt) : (s.setOutp n r).fw = s.fw := (rfl)
@[simp] theorem State.setOutp_hif (n : Nat) (r : OutSt) : (s.setOutp n r).hif = s.hif := (rfl)
@[simp] theorem State.setOutp_flt (n : Nat) (r : OutSt) : (s.setOutp n r).flt = s.flt := (rfl)
@[simp] theorem State.setOutp_out (n : Nat) (r : OutSt) : (s.setOutp n r).out = s.out := (rfl)
@[simp] theorem State.setOutp_free (n : Nat) (r : OutSt) : (s.setOutp n r).free = s.free := (rfl)
@[simp] theorem State.setOutp_pending (n : Nat) (r : OutSt) : (s.setOutp n r).pending = s.pending := (rfl)
@[simp] theorem State.setOutp_rd (n : Nat) (r : OutSt) (a' : Nat) : (s.setOutp n r).rd a' = s.rd a' := (rfl)
@[simp] theorem State.setOutp_get (n : Nat) (r : OutSt) (f' : FieldRef) : (s.setOutp n r).get f' = s.get f' := (rfl)
@[simp] theorem State.setOutp_regsWf (n : Nat) (r : OutSt) : (s.setOutp n r).regsWf = s.regsWf := (rfl)

/-! ### State.setGauge -/

@[simp] theorem State.setGauge_regs (n : Nat) (r : GauSt) : (s.setGauge n r).regs = s.regs := (rfl)
@[simp] theorem State.setGauge_cyc (n : Nat) (r : GauSt) : (s.setGauge n r).cyc = s.cyc := (rfl)
@[simp] theorem State.setGauge_livery (n : Nat) (r : GauSt) : (s.setGauge n r).livery = s.livery := (rfl)
@[simp] theorem State.setGauge_boot (n : Nat) (r : GauSt) : (s.setGauge n r).boot = s.boot := (rfl)
@[simp] theorem State.setGauge_cgu (n : Nat) (r : GauSt) : (s.setGauge n r).cgu = s.cgu := (rfl)
@[simp] theorem State.setGauge_pwr (n : Nat) (r : GauSt) : (s.setGauge n r).pwr = s.pwr := (rfl)
@[simp] theorem State.setGauge_refs (n : Nat) (r : GauSt) : (s.setGauge n r).refs = s.refs := (rfl)
@[simp] theorem State.setGauge_tod (n : Nat) (r : GauSt) : (s.setGauge n r).tod = s.tod := (rfl)
@[simp] theorem State.setGauge_sels (n : Nat) (r : GauSt) : (s.setGauge n r).sels = s.sels := (rfl)
@[simp] theorem State.setGauge_loops (n : Nat) (r : GauSt) : (s.setGauge n r).loops = s.loops := (rfl)
@[simp] theorem State.setGauge_hold (n : Nat) (r : GauSt) : (s.setGauge n r).hold = s.hold := (rfl)
@[simp] theorem State.setGauge_axles (n : Nat) (r : GauSt) : (s.setGauge n r).axles = s.axles := (rfl)
@[simp] theorem State.setGauge_tim (n : Nat) (r : GauSt) : (s.setGauge n r).tim = s.tim := (rfl)
@[simp] theorem State.setGauge_outs (n : Nat) (r : GauSt) : (s.setGauge n r).outs = s.outs := (rfl)
@[simp] theorem State.setGauge_tse (n : Nat) (r : GauSt) : (s.setGauge n r).tse = s.tse := (rfl)
@[simp] theorem State.setGauge_cpl (n : Nat) (r : GauSt) : (s.setGauge n r).cpl = s.cpl := (rfl)
@[simp] theorem State.setGauge_ports (n : Nat) (r : GauSt) : (s.setGauge n r).ports = s.ports := (rfl)
@[simp] theorem State.setGauge_i2c (n : Nat) (r : GauSt) : (s.setGauge n r).i2c = s.i2c := (rfl)
@[simp] theorem State.setGauge_fwd (n : Nat) (r : GauSt) : (s.setGauge n r).fwd = s.fwd := (rfl)
@[simp] theorem State.setGauge_buf (n : Nat) (r : GauSt) : (s.setGauge n r).buf = s.buf := (rfl)
@[simp] theorem State.setGauge_sch (n : Nat) (r : GauSt) : (s.setGauge n r).sch = s.sch := (rfl)
@[simp] theorem State.setGauge_mir (n : Nat) (r : GauSt) : (s.setGauge n r).mir = s.mir := (rfl)
@[simp] theorem State.setGauge_nvs (n : Nat) (r : GauSt) : (s.setGauge n r).nvs = s.nvs := (rfl)
@[simp] theorem State.setGauge_mbx (n : Nat) (r : GauSt) : (s.setGauge n r).mbx = s.mbx := (rfl)
@[simp] theorem State.setGauge_fw (n : Nat) (r : GauSt) : (s.setGauge n r).fw = s.fw := (rfl)
@[simp] theorem State.setGauge_hif (n : Nat) (r : GauSt) : (s.setGauge n r).hif = s.hif := (rfl)
@[simp] theorem State.setGauge_flt (n : Nat) (r : GauSt) : (s.setGauge n r).flt = s.flt := (rfl)
@[simp] theorem State.setGauge_out (n : Nat) (r : GauSt) : (s.setGauge n r).out = s.out := (rfl)
@[simp] theorem State.setGauge_free (n : Nat) (r : GauSt) : (s.setGauge n r).free = s.free := (rfl)
@[simp] theorem State.setGauge_pending (n : Nat) (r : GauSt) : (s.setGauge n r).pending = s.pending := (rfl)
@[simp] theorem State.setGauge_rd (n : Nat) (r : GauSt) (a' : Nat) : (s.setGauge n r).rd a' = s.rd a' := (rfl)
@[simp] theorem State.setGauge_get (n : Nat) (r : GauSt) (f' : FieldRef) : (s.setGauge n r).get f' = s.get f' := (rfl)
@[simp] theorem State.setGauge_regsWf (n : Nat) (r : GauSt) : (s.setGauge n r).regsWf = s.regsWf := (rfl)

/-! ### State.setSess -/

@[simp] theorem State.setSess_regs (n : Nat) (r : SessSt) : (s.setSess n r).regs = s.regs := (rfl)
@[simp] theorem State.setSess_cyc (n : Nat) (r : SessSt) : (s.setSess n r).cyc = s.cyc := (rfl)
@[simp] theorem State.setSess_livery (n : Nat) (r : SessSt) : (s.setSess n r).livery = s.livery := (rfl)
@[simp] theorem State.setSess_boot (n : Nat) (r : SessSt) : (s.setSess n r).boot = s.boot := (rfl)
@[simp] theorem State.setSess_cgu (n : Nat) (r : SessSt) : (s.setSess n r).cgu = s.cgu := (rfl)
@[simp] theorem State.setSess_pwr (n : Nat) (r : SessSt) : (s.setSess n r).pwr = s.pwr := (rfl)
@[simp] theorem State.setSess_refs (n : Nat) (r : SessSt) : (s.setSess n r).refs = s.refs := (rfl)
@[simp] theorem State.setSess_tod (n : Nat) (r : SessSt) : (s.setSess n r).tod = s.tod := (rfl)
@[simp] theorem State.setSess_sels (n : Nat) (r : SessSt) : (s.setSess n r).sels = s.sels := (rfl)
@[simp] theorem State.setSess_loops (n : Nat) (r : SessSt) : (s.setSess n r).loops = s.loops := (rfl)
@[simp] theorem State.setSess_hold (n : Nat) (r : SessSt) : (s.setSess n r).hold = s.hold := (rfl)
@[simp] theorem State.setSess_axles (n : Nat) (r : SessSt) : (s.setSess n r).axles = s.axles := (rfl)
@[simp] theorem State.setSess_tim (n : Nat) (r : SessSt) : (s.setSess n r).tim = s.tim := (rfl)
@[simp] theorem State.setSess_outs (n : Nat) (r : SessSt) : (s.setSess n r).outs = s.outs := (rfl)
@[simp] theorem State.setSess_gauges (n : Nat) (r : SessSt) : (s.setSess n r).gauges = s.gauges := (rfl)
@[simp] theorem State.setSess_cpl (n : Nat) (r : SessSt) : (s.setSess n r).cpl = s.cpl := (rfl)
@[simp] theorem State.setSess_ports (n : Nat) (r : SessSt) : (s.setSess n r).ports = s.ports := (rfl)
@[simp] theorem State.setSess_i2c (n : Nat) (r : SessSt) : (s.setSess n r).i2c = s.i2c := (rfl)
@[simp] theorem State.setSess_fwd (n : Nat) (r : SessSt) : (s.setSess n r).fwd = s.fwd := (rfl)
@[simp] theorem State.setSess_buf (n : Nat) (r : SessSt) : (s.setSess n r).buf = s.buf := (rfl)
@[simp] theorem State.setSess_sch (n : Nat) (r : SessSt) : (s.setSess n r).sch = s.sch := (rfl)
@[simp] theorem State.setSess_mir (n : Nat) (r : SessSt) : (s.setSess n r).mir = s.mir := (rfl)
@[simp] theorem State.setSess_nvs (n : Nat) (r : SessSt) : (s.setSess n r).nvs = s.nvs := (rfl)
@[simp] theorem State.setSess_mbx (n : Nat) (r : SessSt) : (s.setSess n r).mbx = s.mbx := (rfl)
@[simp] theorem State.setSess_fw (n : Nat) (r : SessSt) : (s.setSess n r).fw = s.fw := (rfl)
@[simp] theorem State.setSess_hif (n : Nat) (r : SessSt) : (s.setSess n r).hif = s.hif := (rfl)
@[simp] theorem State.setSess_flt (n : Nat) (r : SessSt) : (s.setSess n r).flt = s.flt := (rfl)
@[simp] theorem State.setSess_out (n : Nat) (r : SessSt) : (s.setSess n r).out = s.out := (rfl)
@[simp] theorem State.setSess_free (n : Nat) (r : SessSt) : (s.setSess n r).free = s.free := (rfl)
@[simp] theorem State.setSess_pending (n : Nat) (r : SessSt) : (s.setSess n r).pending = s.pending := (rfl)
@[simp] theorem State.setSess_rd (n : Nat) (r : SessSt) (a' : Nat) : (s.setSess n r).rd a' = s.rd a' := (rfl)
@[simp] theorem State.setSess_get (n : Nat) (r : SessSt) (f' : FieldRef) : (s.setSess n r).get f' = s.get f' := (rfl)
@[simp] theorem State.setSess_regsWf (n : Nat) (r : SessSt) : (s.setSess n r).regsWf = s.regsWf := (rfl)

/-! ### State.setCplPort -/

@[simp] theorem State.setCplPort_regs (n : Nat) (r : CplPort) : (s.setCplPort n r).regs = s.regs := (rfl)
@[simp] theorem State.setCplPort_cyc (n : Nat) (r : CplPort) : (s.setCplPort n r).cyc = s.cyc := (rfl)
@[simp] theorem State.setCplPort_livery (n : Nat) (r : CplPort) : (s.setCplPort n r).livery = s.livery := (rfl)
@[simp] theorem State.setCplPort_boot (n : Nat) (r : CplPort) : (s.setCplPort n r).boot = s.boot := (rfl)
@[simp] theorem State.setCplPort_cgu (n : Nat) (r : CplPort) : (s.setCplPort n r).cgu = s.cgu := (rfl)
@[simp] theorem State.setCplPort_pwr (n : Nat) (r : CplPort) : (s.setCplPort n r).pwr = s.pwr := (rfl)
@[simp] theorem State.setCplPort_refs (n : Nat) (r : CplPort) : (s.setCplPort n r).refs = s.refs := (rfl)
@[simp] theorem State.setCplPort_tod (n : Nat) (r : CplPort) : (s.setCplPort n r).tod = s.tod := (rfl)
@[simp] theorem State.setCplPort_sels (n : Nat) (r : CplPort) : (s.setCplPort n r).sels = s.sels := (rfl)
@[simp] theorem State.setCplPort_loops (n : Nat) (r : CplPort) : (s.setCplPort n r).loops = s.loops := (rfl)
@[simp] theorem State.setCplPort_hold (n : Nat) (r : CplPort) : (s.setCplPort n r).hold = s.hold := (rfl)
@[simp] theorem State.setCplPort_axles (n : Nat) (r : CplPort) : (s.setCplPort n r).axles = s.axles := (rfl)
@[simp] theorem State.setCplPort_tim (n : Nat) (r : CplPort) : (s.setCplPort n r).tim = s.tim := (rfl)
@[simp] theorem State.setCplPort_outs (n : Nat) (r : CplPort) : (s.setCplPort n r).outs = s.outs := (rfl)
@[simp] theorem State.setCplPort_gauges (n : Nat) (r : CplPort) : (s.setCplPort n r).gauges = s.gauges := (rfl)
@[simp] theorem State.setCplPort_tse (n : Nat) (r : CplPort) : (s.setCplPort n r).tse = s.tse := (rfl)
@[simp] theorem State.setCplPort_ports (n : Nat) (r : CplPort) : (s.setCplPort n r).ports = s.ports := (rfl)
@[simp] theorem State.setCplPort_i2c (n : Nat) (r : CplPort) : (s.setCplPort n r).i2c = s.i2c := (rfl)
@[simp] theorem State.setCplPort_fwd (n : Nat) (r : CplPort) : (s.setCplPort n r).fwd = s.fwd := (rfl)
@[simp] theorem State.setCplPort_buf (n : Nat) (r : CplPort) : (s.setCplPort n r).buf = s.buf := (rfl)
@[simp] theorem State.setCplPort_sch (n : Nat) (r : CplPort) : (s.setCplPort n r).sch = s.sch := (rfl)
@[simp] theorem State.setCplPort_mir (n : Nat) (r : CplPort) : (s.setCplPort n r).mir = s.mir := (rfl)
@[simp] theorem State.setCplPort_nvs (n : Nat) (r : CplPort) : (s.setCplPort n r).nvs = s.nvs := (rfl)
@[simp] theorem State.setCplPort_mbx (n : Nat) (r : CplPort) : (s.setCplPort n r).mbx = s.mbx := (rfl)
@[simp] theorem State.setCplPort_fw (n : Nat) (r : CplPort) : (s.setCplPort n r).fw = s.fw := (rfl)
@[simp] theorem State.setCplPort_hif (n : Nat) (r : CplPort) : (s.setCplPort n r).hif = s.hif := (rfl)
@[simp] theorem State.setCplPort_flt (n : Nat) (r : CplPort) : (s.setCplPort n r).flt = s.flt := (rfl)
@[simp] theorem State.setCplPort_out (n : Nat) (r : CplPort) : (s.setCplPort n r).out = s.out := (rfl)
@[simp] theorem State.setCplPort_free (n : Nat) (r : CplPort) : (s.setCplPort n r).free = s.free := (rfl)
@[simp] theorem State.setCplPort_pending (n : Nat) (r : CplPort) : (s.setCplPort n r).pending = s.pending := (rfl)
@[simp] theorem State.setCplPort_rd (n : Nat) (r : CplPort) (a' : Nat) : (s.setCplPort n r).rd a' = s.rd a' := (rfl)
@[simp] theorem State.setCplPort_get (n : Nat) (r : CplPort) (f' : FieldRef) : (s.setCplPort n r).get f' = s.get f' := (rfl)
@[simp] theorem State.setCplPort_regsWf (n : Nat) (r : CplPort) : (s.setCplPort n r).regsWf = s.regsWf := (rfl)

/-! ### State.setFeed -/

@[simp] theorem State.setFeed_regs (n : Nat) (r : FeedSt) : (s.setFeed n r).regs = s.regs := (rfl)
@[simp] theorem State.setFeed_cyc (n : Nat) (r : FeedSt) : (s.setFeed n r).cyc = s.cyc := (rfl)
@[simp] theorem State.setFeed_livery (n : Nat) (r : FeedSt) : (s.setFeed n r).livery = s.livery := (rfl)
@[simp] theorem State.setFeed_boot (n : Nat) (r : FeedSt) : (s.setFeed n r).boot = s.boot := (rfl)
@[simp] theorem State.setFeed_cgu (n : Nat) (r : FeedSt) : (s.setFeed n r).cgu = s.cgu := (rfl)
@[simp] theorem State.setFeed_pwr (n : Nat) (r : FeedSt) : (s.setFeed n r).pwr = s.pwr := (rfl)
@[simp] theorem State.setFeed_refs (n : Nat) (r : FeedSt) : (s.setFeed n r).refs = s.refs := (rfl)
@[simp] theorem State.setFeed_tod (n : Nat) (r : FeedSt) : (s.setFeed n r).tod = s.tod := (rfl)
@[simp] theorem State.setFeed_sels (n : Nat) (r : FeedSt) : (s.setFeed n r).sels = s.sels := (rfl)
@[simp] theorem State.setFeed_loops (n : Nat) (r : FeedSt) : (s.setFeed n r).loops = s.loops := (rfl)
@[simp] theorem State.setFeed_hold (n : Nat) (r : FeedSt) : (s.setFeed n r).hold = s.hold := (rfl)
@[simp] theorem State.setFeed_axles (n : Nat) (r : FeedSt) : (s.setFeed n r).axles = s.axles := (rfl)
@[simp] theorem State.setFeed_tim (n : Nat) (r : FeedSt) : (s.setFeed n r).tim = s.tim := (rfl)
@[simp] theorem State.setFeed_outs (n : Nat) (r : FeedSt) : (s.setFeed n r).outs = s.outs := (rfl)
@[simp] theorem State.setFeed_gauges (n : Nat) (r : FeedSt) : (s.setFeed n r).gauges = s.gauges := (rfl)
@[simp] theorem State.setFeed_tse (n : Nat) (r : FeedSt) : (s.setFeed n r).tse = s.tse := (rfl)
@[simp] theorem State.setFeed_ports (n : Nat) (r : FeedSt) : (s.setFeed n r).ports = s.ports := (rfl)
@[simp] theorem State.setFeed_i2c (n : Nat) (r : FeedSt) : (s.setFeed n r).i2c = s.i2c := (rfl)
@[simp] theorem State.setFeed_fwd (n : Nat) (r : FeedSt) : (s.setFeed n r).fwd = s.fwd := (rfl)
@[simp] theorem State.setFeed_buf (n : Nat) (r : FeedSt) : (s.setFeed n r).buf = s.buf := (rfl)
@[simp] theorem State.setFeed_sch (n : Nat) (r : FeedSt) : (s.setFeed n r).sch = s.sch := (rfl)
@[simp] theorem State.setFeed_mir (n : Nat) (r : FeedSt) : (s.setFeed n r).mir = s.mir := (rfl)
@[simp] theorem State.setFeed_nvs (n : Nat) (r : FeedSt) : (s.setFeed n r).nvs = s.nvs := (rfl)
@[simp] theorem State.setFeed_mbx (n : Nat) (r : FeedSt) : (s.setFeed n r).mbx = s.mbx := (rfl)
@[simp] theorem State.setFeed_fw (n : Nat) (r : FeedSt) : (s.setFeed n r).fw = s.fw := (rfl)
@[simp] theorem State.setFeed_hif (n : Nat) (r : FeedSt) : (s.setFeed n r).hif = s.hif := (rfl)
@[simp] theorem State.setFeed_flt (n : Nat) (r : FeedSt) : (s.setFeed n r).flt = s.flt := (rfl)
@[simp] theorem State.setFeed_out (n : Nat) (r : FeedSt) : (s.setFeed n r).out = s.out := (rfl)
@[simp] theorem State.setFeed_free (n : Nat) (r : FeedSt) : (s.setFeed n r).free = s.free := (rfl)
@[simp] theorem State.setFeed_pending (n : Nat) (r : FeedSt) : (s.setFeed n r).pending = s.pending := (rfl)
@[simp] theorem State.setFeed_rd (n : Nat) (r : FeedSt) (a' : Nat) : (s.setFeed n r).rd a' = s.rd a' := (rfl)
@[simp] theorem State.setFeed_get (n : Nat) (r : FeedSt) (f' : FieldRef) : (s.setFeed n r).get f' = s.get f' := (rfl)
@[simp] theorem State.setFeed_regsWf (n : Nat) (r : FeedSt) : (s.setFeed n r).regsWf = s.regsWf := (rfl)

/-! ### State.setPort -/

@[simp] theorem State.setPort_regs (n : Nat) (r : PortSt) : (s.setPort n r).regs = s.regs := (rfl)
@[simp] theorem State.setPort_cyc (n : Nat) (r : PortSt) : (s.setPort n r).cyc = s.cyc := (rfl)
@[simp] theorem State.setPort_livery (n : Nat) (r : PortSt) : (s.setPort n r).livery = s.livery := (rfl)
@[simp] theorem State.setPort_boot (n : Nat) (r : PortSt) : (s.setPort n r).boot = s.boot := (rfl)
@[simp] theorem State.setPort_cgu (n : Nat) (r : PortSt) : (s.setPort n r).cgu = s.cgu := (rfl)
@[simp] theorem State.setPort_pwr (n : Nat) (r : PortSt) : (s.setPort n r).pwr = s.pwr := (rfl)
@[simp] theorem State.setPort_refs (n : Nat) (r : PortSt) : (s.setPort n r).refs = s.refs := (rfl)
@[simp] theorem State.setPort_tod (n : Nat) (r : PortSt) : (s.setPort n r).tod = s.tod := (rfl)
@[simp] theorem State.setPort_sels (n : Nat) (r : PortSt) : (s.setPort n r).sels = s.sels := (rfl)
@[simp] theorem State.setPort_loops (n : Nat) (r : PortSt) : (s.setPort n r).loops = s.loops := (rfl)
@[simp] theorem State.setPort_hold (n : Nat) (r : PortSt) : (s.setPort n r).hold = s.hold := (rfl)
@[simp] theorem State.setPort_axles (n : Nat) (r : PortSt) : (s.setPort n r).axles = s.axles := (rfl)
@[simp] theorem State.setPort_tim (n : Nat) (r : PortSt) : (s.setPort n r).tim = s.tim := (rfl)
@[simp] theorem State.setPort_outs (n : Nat) (r : PortSt) : (s.setPort n r).outs = s.outs := (rfl)
@[simp] theorem State.setPort_gauges (n : Nat) (r : PortSt) : (s.setPort n r).gauges = s.gauges := (rfl)
@[simp] theorem State.setPort_tse (n : Nat) (r : PortSt) : (s.setPort n r).tse = s.tse := (rfl)
@[simp] theorem State.setPort_cpl (n : Nat) (r : PortSt) : (s.setPort n r).cpl = s.cpl := (rfl)
@[simp] theorem State.setPort_i2c (n : Nat) (r : PortSt) : (s.setPort n r).i2c = s.i2c := (rfl)
@[simp] theorem State.setPort_fwd (n : Nat) (r : PortSt) : (s.setPort n r).fwd = s.fwd := (rfl)
@[simp] theorem State.setPort_buf (n : Nat) (r : PortSt) : (s.setPort n r).buf = s.buf := (rfl)
@[simp] theorem State.setPort_sch (n : Nat) (r : PortSt) : (s.setPort n r).sch = s.sch := (rfl)
@[simp] theorem State.setPort_mir (n : Nat) (r : PortSt) : (s.setPort n r).mir = s.mir := (rfl)
@[simp] theorem State.setPort_nvs (n : Nat) (r : PortSt) : (s.setPort n r).nvs = s.nvs := (rfl)
@[simp] theorem State.setPort_mbx (n : Nat) (r : PortSt) : (s.setPort n r).mbx = s.mbx := (rfl)
@[simp] theorem State.setPort_fw (n : Nat) (r : PortSt) : (s.setPort n r).fw = s.fw := (rfl)
@[simp] theorem State.setPort_hif (n : Nat) (r : PortSt) : (s.setPort n r).hif = s.hif := (rfl)
@[simp] theorem State.setPort_flt (n : Nat) (r : PortSt) : (s.setPort n r).flt = s.flt := (rfl)
@[simp] theorem State.setPort_out (n : Nat) (r : PortSt) : (s.setPort n r).out = s.out := (rfl)
@[simp] theorem State.setPort_free (n : Nat) (r : PortSt) : (s.setPort n r).free = s.free := (rfl)
@[simp] theorem State.setPort_pending (n : Nat) (r : PortSt) : (s.setPort n r).pending = s.pending := (rfl)
@[simp] theorem State.setPort_rd (n : Nat) (r : PortSt) (a' : Nat) : (s.setPort n r).rd a' = s.rd a' := (rfl)
@[simp] theorem State.setPort_get (n : Nat) (r : PortSt) (f' : FieldRef) : (s.setPort n r).get f' = s.get f' := (rfl)
@[simp] theorem State.setPort_regsWf (n : Nat) (r : PortSt) : (s.setPort n r).regsWf = s.regsWf := (rfl)

/-! ### State.setBus -/

@[simp] theorem State.setBus_regs (n : Nat) (r : I2cSt) : (s.setBus n r).regs = s.regs := (rfl)
@[simp] theorem State.setBus_cyc (n : Nat) (r : I2cSt) : (s.setBus n r).cyc = s.cyc := (rfl)
@[simp] theorem State.setBus_livery (n : Nat) (r : I2cSt) : (s.setBus n r).livery = s.livery := (rfl)
@[simp] theorem State.setBus_boot (n : Nat) (r : I2cSt) : (s.setBus n r).boot = s.boot := (rfl)
@[simp] theorem State.setBus_cgu (n : Nat) (r : I2cSt) : (s.setBus n r).cgu = s.cgu := (rfl)
@[simp] theorem State.setBus_pwr (n : Nat) (r : I2cSt) : (s.setBus n r).pwr = s.pwr := (rfl)
@[simp] theorem State.setBus_refs (n : Nat) (r : I2cSt) : (s.setBus n r).refs = s.refs := (rfl)
@[simp] theorem State.setBus_tod (n : Nat) (r : I2cSt) : (s.setBus n r).tod = s.tod := (rfl)
@[simp] theorem State.setBus_sels (n : Nat) (r : I2cSt) : (s.setBus n r).sels = s.sels := (rfl)
@[simp] theorem State.setBus_loops (n : Nat) (r : I2cSt) : (s.setBus n r).loops = s.loops := (rfl)
@[simp] theorem State.setBus_hold (n : Nat) (r : I2cSt) : (s.setBus n r).hold = s.hold := (rfl)
@[simp] theorem State.setBus_axles (n : Nat) (r : I2cSt) : (s.setBus n r).axles = s.axles := (rfl)
@[simp] theorem State.setBus_tim (n : Nat) (r : I2cSt) : (s.setBus n r).tim = s.tim := (rfl)
@[simp] theorem State.setBus_outs (n : Nat) (r : I2cSt) : (s.setBus n r).outs = s.outs := (rfl)
@[simp] theorem State.setBus_gauges (n : Nat) (r : I2cSt) : (s.setBus n r).gauges = s.gauges := (rfl)
@[simp] theorem State.setBus_tse (n : Nat) (r : I2cSt) : (s.setBus n r).tse = s.tse := (rfl)
@[simp] theorem State.setBus_cpl (n : Nat) (r : I2cSt) : (s.setBus n r).cpl = s.cpl := (rfl)
@[simp] theorem State.setBus_ports (n : Nat) (r : I2cSt) : (s.setBus n r).ports = s.ports := (rfl)
@[simp] theorem State.setBus_fwd (n : Nat) (r : I2cSt) : (s.setBus n r).fwd = s.fwd := (rfl)
@[simp] theorem State.setBus_buf (n : Nat) (r : I2cSt) : (s.setBus n r).buf = s.buf := (rfl)
@[simp] theorem State.setBus_sch (n : Nat) (r : I2cSt) : (s.setBus n r).sch = s.sch := (rfl)
@[simp] theorem State.setBus_mir (n : Nat) (r : I2cSt) : (s.setBus n r).mir = s.mir := (rfl)
@[simp] theorem State.setBus_nvs (n : Nat) (r : I2cSt) : (s.setBus n r).nvs = s.nvs := (rfl)
@[simp] theorem State.setBus_mbx (n : Nat) (r : I2cSt) : (s.setBus n r).mbx = s.mbx := (rfl)
@[simp] theorem State.setBus_fw (n : Nat) (r : I2cSt) : (s.setBus n r).fw = s.fw := (rfl)
@[simp] theorem State.setBus_hif (n : Nat) (r : I2cSt) : (s.setBus n r).hif = s.hif := (rfl)
@[simp] theorem State.setBus_flt (n : Nat) (r : I2cSt) : (s.setBus n r).flt = s.flt := (rfl)
@[simp] theorem State.setBus_out (n : Nat) (r : I2cSt) : (s.setBus n r).out = s.out := (rfl)
@[simp] theorem State.setBus_free (n : Nat) (r : I2cSt) : (s.setBus n r).free = s.free := (rfl)
@[simp] theorem State.setBus_pending (n : Nat) (r : I2cSt) : (s.setBus n r).pending = s.pending := (rfl)
@[simp] theorem State.setBus_rd (n : Nat) (r : I2cSt) (a' : Nat) : (s.setBus n r).rd a' = s.rd a' := (rfl)
@[simp] theorem State.setBus_get (n : Nat) (r : I2cSt) (f' : FieldRef) : (s.setBus n r).get f' = s.get f' := (rfl)
@[simp] theorem State.setBus_regsWf (n : Nat) (r : I2cSt) : (s.setBus n r).regsWf = s.regsWf := (rfl)

/-! ### State.setMb -/

@[simp] theorem State.setMb_regs (n : Nat) (r : MbxSt) : (s.setMb n r).regs = s.regs := (rfl)
@[simp] theorem State.setMb_cyc (n : Nat) (r : MbxSt) : (s.setMb n r).cyc = s.cyc := (rfl)
@[simp] theorem State.setMb_livery (n : Nat) (r : MbxSt) : (s.setMb n r).livery = s.livery := (rfl)
@[simp] theorem State.setMb_boot (n : Nat) (r : MbxSt) : (s.setMb n r).boot = s.boot := (rfl)
@[simp] theorem State.setMb_cgu (n : Nat) (r : MbxSt) : (s.setMb n r).cgu = s.cgu := (rfl)
@[simp] theorem State.setMb_pwr (n : Nat) (r : MbxSt) : (s.setMb n r).pwr = s.pwr := (rfl)
@[simp] theorem State.setMb_refs (n : Nat) (r : MbxSt) : (s.setMb n r).refs = s.refs := (rfl)
@[simp] theorem State.setMb_tod (n : Nat) (r : MbxSt) : (s.setMb n r).tod = s.tod := (rfl)
@[simp] theorem State.setMb_sels (n : Nat) (r : MbxSt) : (s.setMb n r).sels = s.sels := (rfl)
@[simp] theorem State.setMb_loops (n : Nat) (r : MbxSt) : (s.setMb n r).loops = s.loops := (rfl)
@[simp] theorem State.setMb_hold (n : Nat) (r : MbxSt) : (s.setMb n r).hold = s.hold := (rfl)
@[simp] theorem State.setMb_axles (n : Nat) (r : MbxSt) : (s.setMb n r).axles = s.axles := (rfl)
@[simp] theorem State.setMb_tim (n : Nat) (r : MbxSt) : (s.setMb n r).tim = s.tim := (rfl)
@[simp] theorem State.setMb_outs (n : Nat) (r : MbxSt) : (s.setMb n r).outs = s.outs := (rfl)
@[simp] theorem State.setMb_gauges (n : Nat) (r : MbxSt) : (s.setMb n r).gauges = s.gauges := (rfl)
@[simp] theorem State.setMb_tse (n : Nat) (r : MbxSt) : (s.setMb n r).tse = s.tse := (rfl)
@[simp] theorem State.setMb_cpl (n : Nat) (r : MbxSt) : (s.setMb n r).cpl = s.cpl := (rfl)
@[simp] theorem State.setMb_ports (n : Nat) (r : MbxSt) : (s.setMb n r).ports = s.ports := (rfl)
@[simp] theorem State.setMb_i2c (n : Nat) (r : MbxSt) : (s.setMb n r).i2c = s.i2c := (rfl)
@[simp] theorem State.setMb_fwd (n : Nat) (r : MbxSt) : (s.setMb n r).fwd = s.fwd := (rfl)
@[simp] theorem State.setMb_buf (n : Nat) (r : MbxSt) : (s.setMb n r).buf = s.buf := (rfl)
@[simp] theorem State.setMb_sch (n : Nat) (r : MbxSt) : (s.setMb n r).sch = s.sch := (rfl)
@[simp] theorem State.setMb_mir (n : Nat) (r : MbxSt) : (s.setMb n r).mir = s.mir := (rfl)
@[simp] theorem State.setMb_nvs (n : Nat) (r : MbxSt) : (s.setMb n r).nvs = s.nvs := (rfl)
@[simp] theorem State.setMb_fw (n : Nat) (r : MbxSt) : (s.setMb n r).fw = s.fw := (rfl)
@[simp] theorem State.setMb_hif (n : Nat) (r : MbxSt) : (s.setMb n r).hif = s.hif := (rfl)
@[simp] theorem State.setMb_flt (n : Nat) (r : MbxSt) : (s.setMb n r).flt = s.flt := (rfl)
@[simp] theorem State.setMb_out (n : Nat) (r : MbxSt) : (s.setMb n r).out = s.out := (rfl)
@[simp] theorem State.setMb_free (n : Nat) (r : MbxSt) : (s.setMb n r).free = s.free := (rfl)
@[simp] theorem State.setMb_pending (n : Nat) (r : MbxSt) : (s.setMb n r).pending = s.pending := (rfl)
@[simp] theorem State.setMb_rd (n : Nat) (r : MbxSt) (a' : Nat) : (s.setMb n r).rd a' = s.rd a' := (rfl)
@[simp] theorem State.setMb_get (n : Nat) (r : MbxSt) (f' : FieldRef) : (s.setMb n r).get f' = s.get f' := (rfl)
@[simp] theorem State.setMb_regsWf (n : Nat) (r : MbxSt) : (s.setMb n r).regsWf = s.regsWf := (rfl)

/-! ### State.answer -/

@[simp] theorem State.answer_regs (m : Master) (r : Reply) : (s.answer m r).regs = s.regs := (rfl)
@[simp] theorem State.answer_cyc (m : Master) (r : Reply) : (s.answer m r).cyc = s.cyc := (rfl)
@[simp] theorem State.answer_livery (m : Master) (r : Reply) : (s.answer m r).livery = s.livery := (rfl)
@[simp] theorem State.answer_boot (m : Master) (r : Reply) : (s.answer m r).boot = s.boot := (rfl)
@[simp] theorem State.answer_cgu (m : Master) (r : Reply) : (s.answer m r).cgu = s.cgu := (rfl)
@[simp] theorem State.answer_pwr (m : Master) (r : Reply) : (s.answer m r).pwr = s.pwr := (rfl)
@[simp] theorem State.answer_refs (m : Master) (r : Reply) : (s.answer m r).refs = s.refs := (rfl)
@[simp] theorem State.answer_tod (m : Master) (r : Reply) : (s.answer m r).tod = s.tod := (rfl)
@[simp] theorem State.answer_sels (m : Master) (r : Reply) : (s.answer m r).sels = s.sels := (rfl)
@[simp] theorem State.answer_loops (m : Master) (r : Reply) : (s.answer m r).loops = s.loops := (rfl)
@[simp] theorem State.answer_hold (m : Master) (r : Reply) : (s.answer m r).hold = s.hold := (rfl)
@[simp] theorem State.answer_axles (m : Master) (r : Reply) : (s.answer m r).axles = s.axles := (rfl)
@[simp] theorem State.answer_tim (m : Master) (r : Reply) : (s.answer m r).tim = s.tim := (rfl)
@[simp] theorem State.answer_outs (m : Master) (r : Reply) : (s.answer m r).outs = s.outs := (rfl)
@[simp] theorem State.answer_gauges (m : Master) (r : Reply) : (s.answer m r).gauges = s.gauges := (rfl)
@[simp] theorem State.answer_tse (m : Master) (r : Reply) : (s.answer m r).tse = s.tse := (rfl)
@[simp] theorem State.answer_cpl (m : Master) (r : Reply) : (s.answer m r).cpl = s.cpl := (rfl)
@[simp] theorem State.answer_ports (m : Master) (r : Reply) : (s.answer m r).ports = s.ports := (rfl)
@[simp] theorem State.answer_i2c (m : Master) (r : Reply) : (s.answer m r).i2c = s.i2c := (rfl)
@[simp] theorem State.answer_fwd (m : Master) (r : Reply) : (s.answer m r).fwd = s.fwd := (rfl)
@[simp] theorem State.answer_buf (m : Master) (r : Reply) : (s.answer m r).buf = s.buf := (rfl)
@[simp] theorem State.answer_sch (m : Master) (r : Reply) : (s.answer m r).sch = s.sch := (rfl)
@[simp] theorem State.answer_mir (m : Master) (r : Reply) : (s.answer m r).mir = s.mir := (rfl)
@[simp] theorem State.answer_nvs (m : Master) (r : Reply) : (s.answer m r).nvs = s.nvs := (rfl)
@[simp] theorem State.answer_mbx (m : Master) (r : Reply) : (s.answer m r).mbx = s.mbx := (rfl)
@[simp] theorem State.answer_fw (m : Master) (r : Reply) : (s.answer m r).fw = s.fw := (rfl)
@[simp] theorem State.answer_flt (m : Master) (r : Reply) : (s.answer m r).flt = s.flt := (rfl)
@[simp] theorem State.answer_out (m : Master) (r : Reply) : (s.answer m r).out = s.out := (rfl)
@[simp] theorem State.answer_free (m : Master) (r : Reply) : (s.answer m r).free = s.free := (rfl)
@[simp] theorem State.answer_pending (m : Master) (r : Reply) : (s.answer m r).pending = s.pending := (rfl)
@[simp] theorem State.answer_rd (m : Master) (r : Reply) (a' : Nat) : (s.answer m r).rd a' = s.rd a' := (rfl)
@[simp] theorem State.answer_get (m : Master) (r : Reply) (f' : FieldRef) : (s.answer m r).get f' = s.get f' := (rfl)
@[simp] theorem State.answer_regsWf (m : Master) (r : Reply) : (s.answer m r).regsWf = s.regsWf := (rfl)

/-! ### State.emit -/

@[simp] theorem State.emit_regs (k : OutKind) (n : Nat) (xs : List Int) (bs : List Octet) : (s.emit k n xs bs).regs = s.regs := (rfl)
@[simp] theorem State.emit_cyc (k : OutKind) (n : Nat) (xs : List Int) (bs : List Octet) : (s.emit k n xs bs).cyc = s.cyc := (rfl)
@[simp] theorem State.emit_livery (k : OutKind) (n : Nat) (xs : List Int) (bs : List Octet) : (s.emit k n xs bs).livery = s.livery := (rfl)
@[simp] theorem State.emit_boot (k : OutKind) (n : Nat) (xs : List Int) (bs : List Octet) : (s.emit k n xs bs).boot = s.boot := (rfl)
@[simp] theorem State.emit_cgu (k : OutKind) (n : Nat) (xs : List Int) (bs : List Octet) : (s.emit k n xs bs).cgu = s.cgu := (rfl)
@[simp] theorem State.emit_pwr (k : OutKind) (n : Nat) (xs : List Int) (bs : List Octet) : (s.emit k n xs bs).pwr = s.pwr := (rfl)
@[simp] theorem State.emit_refs (k : OutKind) (n : Nat) (xs : List Int) (bs : List Octet) : (s.emit k n xs bs).refs = s.refs := (rfl)
@[simp] theorem State.emit_tod (k : OutKind) (n : Nat) (xs : List Int) (bs : List Octet) : (s.emit k n xs bs).tod = s.tod := (rfl)
@[simp] theorem State.emit_sels (k : OutKind) (n : Nat) (xs : List Int) (bs : List Octet) : (s.emit k n xs bs).sels = s.sels := (rfl)
@[simp] theorem State.emit_loops (k : OutKind) (n : Nat) (xs : List Int) (bs : List Octet) : (s.emit k n xs bs).loops = s.loops := (rfl)
@[simp] theorem State.emit_hold (k : OutKind) (n : Nat) (xs : List Int) (bs : List Octet) : (s.emit k n xs bs).hold = s.hold := (rfl)
@[simp] theorem State.emit_axles (k : OutKind) (n : Nat) (xs : List Int) (bs : List Octet) : (s.emit k n xs bs).axles = s.axles := (rfl)
@[simp] theorem State.emit_tim (k : OutKind) (n : Nat) (xs : List Int) (bs : List Octet) : (s.emit k n xs bs).tim = s.tim := (rfl)
@[simp] theorem State.emit_outs (k : OutKind) (n : Nat) (xs : List Int) (bs : List Octet) : (s.emit k n xs bs).outs = s.outs := (rfl)
@[simp] theorem State.emit_gauges (k : OutKind) (n : Nat) (xs : List Int) (bs : List Octet) : (s.emit k n xs bs).gauges = s.gauges := (rfl)
@[simp] theorem State.emit_tse (k : OutKind) (n : Nat) (xs : List Int) (bs : List Octet) : (s.emit k n xs bs).tse = s.tse := (rfl)
@[simp] theorem State.emit_cpl (k : OutKind) (n : Nat) (xs : List Int) (bs : List Octet) : (s.emit k n xs bs).cpl = s.cpl := (rfl)
@[simp] theorem State.emit_ports (k : OutKind) (n : Nat) (xs : List Int) (bs : List Octet) : (s.emit k n xs bs).ports = s.ports := (rfl)
@[simp] theorem State.emit_i2c (k : OutKind) (n : Nat) (xs : List Int) (bs : List Octet) : (s.emit k n xs bs).i2c = s.i2c := (rfl)
@[simp] theorem State.emit_fwd (k : OutKind) (n : Nat) (xs : List Int) (bs : List Octet) : (s.emit k n xs bs).fwd = s.fwd := (rfl)
@[simp] theorem State.emit_buf (k : OutKind) (n : Nat) (xs : List Int) (bs : List Octet) : (s.emit k n xs bs).buf = s.buf := (rfl)
@[simp] theorem State.emit_sch (k : OutKind) (n : Nat) (xs : List Int) (bs : List Octet) : (s.emit k n xs bs).sch = s.sch := (rfl)
@[simp] theorem State.emit_mir (k : OutKind) (n : Nat) (xs : List Int) (bs : List Octet) : (s.emit k n xs bs).mir = s.mir := (rfl)
@[simp] theorem State.emit_nvs (k : OutKind) (n : Nat) (xs : List Int) (bs : List Octet) : (s.emit k n xs bs).nvs = s.nvs := (rfl)
@[simp] theorem State.emit_mbx (k : OutKind) (n : Nat) (xs : List Int) (bs : List Octet) : (s.emit k n xs bs).mbx = s.mbx := (rfl)
@[simp] theorem State.emit_fw (k : OutKind) (n : Nat) (xs : List Int) (bs : List Octet) : (s.emit k n xs bs).fw = s.fw := (rfl)
@[simp] theorem State.emit_hif (k : OutKind) (n : Nat) (xs : List Int) (bs : List Octet) : (s.emit k n xs bs).hif = s.hif := (rfl)
@[simp] theorem State.emit_flt (k : OutKind) (n : Nat) (xs : List Int) (bs : List Octet) : (s.emit k n xs bs).flt = s.flt := (rfl)
@[simp] theorem State.emit_free (k : OutKind) (n : Nat) (xs : List Int) (bs : List Octet) : (s.emit k n xs bs).free = s.free := (rfl)
@[simp] theorem State.emit_pending (k : OutKind) (n : Nat) (xs : List Int) (bs : List Octet) : (s.emit k n xs bs).pending = s.pending := (rfl)
@[simp] theorem State.emit_rd (k : OutKind) (n : Nat) (xs : List Int) (bs : List Octet) (a' : Nat) : (s.emit k n xs bs).rd a' = s.rd a' := (rfl)
@[simp] theorem State.emit_get (k : OutKind) (n : Nat) (xs : List Int) (bs : List Octet) (f' : FieldRef) : (s.emit k n xs bs).get f' = s.get f' := (rfl)
@[simp] theorem State.emit_regsWf (k : OutKind) (n : Nat) (xs : List Int) (bs : List Octet) : (s.emit k n xs bs).regsWf = s.regsWf := (rfl)

/-! ### State.useFree -/

@[simp] theorem State.useFree_regs : (s.useFree).regs = s.regs := (rfl)
@[simp] theorem State.useFree_cyc : (s.useFree).cyc = s.cyc := (rfl)
@[simp] theorem State.useFree_livery : (s.useFree).livery = s.livery := (rfl)
@[simp] theorem State.useFree_boot : (s.useFree).boot = s.boot := (rfl)
@[simp] theorem State.useFree_cgu : (s.useFree).cgu = s.cgu := (rfl)
@[simp] theorem State.useFree_pwr : (s.useFree).pwr = s.pwr := (rfl)
@[simp] theorem State.useFree_refs : (s.useFree).refs = s.refs := (rfl)
@[simp] theorem State.useFree_tod : (s.useFree).tod = s.tod := (rfl)
@[simp] theorem State.useFree_sels : (s.useFree).sels = s.sels := (rfl)
@[simp] theorem State.useFree_loops : (s.useFree).loops = s.loops := (rfl)
@[simp] theorem State.useFree_hold : (s.useFree).hold = s.hold := (rfl)
@[simp] theorem State.useFree_axles : (s.useFree).axles = s.axles := (rfl)
@[simp] theorem State.useFree_tim : (s.useFree).tim = s.tim := (rfl)
@[simp] theorem State.useFree_outs : (s.useFree).outs = s.outs := (rfl)
@[simp] theorem State.useFree_gauges : (s.useFree).gauges = s.gauges := (rfl)
@[simp] theorem State.useFree_tse : (s.useFree).tse = s.tse := (rfl)
@[simp] theorem State.useFree_cpl : (s.useFree).cpl = s.cpl := (rfl)
@[simp] theorem State.useFree_ports : (s.useFree).ports = s.ports := (rfl)
@[simp] theorem State.useFree_i2c : (s.useFree).i2c = s.i2c := (rfl)
@[simp] theorem State.useFree_fwd : (s.useFree).fwd = s.fwd := (rfl)
@[simp] theorem State.useFree_buf : (s.useFree).buf = s.buf := (rfl)
@[simp] theorem State.useFree_sch : (s.useFree).sch = s.sch := (rfl)
@[simp] theorem State.useFree_mir : (s.useFree).mir = s.mir := (rfl)
@[simp] theorem State.useFree_nvs : (s.useFree).nvs = s.nvs := (rfl)
@[simp] theorem State.useFree_mbx : (s.useFree).mbx = s.mbx := (rfl)
@[simp] theorem State.useFree_fw : (s.useFree).fw = s.fw := (rfl)
@[simp] theorem State.useFree_hif : (s.useFree).hif = s.hif := (rfl)
@[simp] theorem State.useFree_flt : (s.useFree).flt = s.flt := (rfl)
@[simp] theorem State.useFree_out : (s.useFree).out = s.out := (rfl)
@[simp] theorem State.useFree_pending : (s.useFree).pending = s.pending := (rfl)
@[simp] theorem State.useFree_rd (a' : Nat) : (s.useFree).rd a' = s.rd a' := (rfl)
@[simp] theorem State.useFree_get (f' : FieldRef) : (s.useFree).get f' = s.get f' := (rfl)
@[simp] theorem State.useFree_regsWf : (s.useFree).regsWf = s.regsWf := (rfl)

/-! ### A record written field by field over one register file -/

@[simp] theorem State.fields_rd {cyc' livery' boot' cgu' pwr' refs' tod' sels' loops' hold' axles' tim' outs' gauges' tse' cpl' ports' i2c' fwd' buf' sch' mir' nvs' mbx' fw' hif' flt' out' free' pending'} (a : Nat) :
    (⟨s.regs, cyc', livery', boot', cgu', pwr', refs', tod', sels', loops', hold', axles', tim', outs', gauges', tse', cpl', ports', i2c', fwd', buf', sch', mir', nvs', mbx', fw', hif', flt', out', free', pending'⟩ : State).rd a = s.rd a := (rfl)
@[simp] theorem State.fields_get {cyc' livery' boot' cgu' pwr' refs' tod' sels' loops' hold' axles' tim' outs' gauges' tse' cpl' ports' i2c' fwd' buf' sch' mir' nvs' mbx' fw' hif' flt' out' free' pending'} (f : FieldRef) :
    (⟨s.regs, cyc', livery', boot', cgu', pwr', refs', tod', sels', loops', hold', axles', tim', outs', gauges', tse', cpl', ports', i2c', fwd', buf', sch', mir', nvs', mbx', fw', hif', flt', out', free', pending'⟩ : State).get f = s.get f := (rfl)
@[simp] theorem State.fields_regsWf {cyc' livery' boot' cgu' pwr' refs' tod' sels' loops' hold' axles' tim' outs' gauges' tse' cpl' ports' i2c' fwd' buf' sch' mir' nvs' mbx' fw' hif' flt' out' free' pending'} :
    (⟨s.regs, cyc', livery', boot', cgu', pwr', refs', tod', sels', loops', hold', axles', tim', outs', gauges', tse', cpl', ports', i2c', fwd', buf', sch', mir', nvs', mbx', fw', hif', flt', out', free', pending'⟩ : State).regsWf = s.regsWf := (rfl)

end Sys2Proof.Machine
end

