-- ==== Sys2Proof/Laws/Ops.lean ====
section
/-! SUPPORT. What the answer to a master leaves, and what an access comes to by what it meets. -/

namespace Sys2Proof.Machine

variable (s : State) (m : Master) (x : Reply)

/-! ### The answer -/

@[simp] theorem State.answer_on (f) : (s.answer m x).on f = s.on f := (rfl)
@[simp] theorem State.answer_getI (f) : (s.answer m x).getI f = s.getI f := (rfl)
@[simp] theorem State.answer_getWide (lo hi w) : (s.answer m x).getWide lo hi w = s.getWide lo hi w := (rfl)
@[simp] theorem State.answer_getWideI (lo hi w) : (s.answer m x).getWideI lo hi w = s.getWideI lo hi w := (rfl)
@[simp] theorem State.answer_changes (f v) : changes (s.answer m x) f v = changes s f v := (rfl)
@[simp] theorem State.answer_keepField (f v) : keepField (s.answer m x) f v = keepField s f v := (rfl)
@[simp] theorem State.answer_keepFields (fs v) : keepFields (s.answer m x) fs v = keepFields s fs v := (rfl)
@[simp] theorem State.answer_asleep : (s.answer m x).asleep = s.asleep := (rfl)
@[simp] theorem State.answer_loop (l) : (s.answer m x).loop l = s.loop l := (rfl)
@[simp] theorem State.answer_axle (n) : (s.answer m x).axle n = s.axle n := (rfl)
@[simp] theorem State.answer_outp (n) : (s.answer m x).outp n = s.outp n := (rfl)
@[simp] theorem State.answer_dom (d) : (s.answer m x).dom d = s.dom d := (rfl)
@[simp] theorem State.answer_port (p) : (s.answer m x).port p = s.port p := (rfl)
@[simp] theorem State.answer_ref (n) : (s.answer m x).ref n = s.ref n := (rfl)
@[simp] theorem State.answer_gauge (n) : (s.answer m x).gauge n = s.gauge n := (rfl)
@[simp] theorem State.answer_mb (k) : (s.answer m x).mb k = s.mb k := (rfl)
@[simp] theorem State.answer_sess (k) : (s.answer m x).sess k = s.sess k := (rfl)

/-! ### What an access meets -/

variable {s m} {a : Nat} {eff : RegRow → State → State} {val : RegRow → State → State × Word} {r : RegRow}

theorem State.access_row (h : s.verdict m a = .row r) : s.access m a eff = eff r (s.answer m .ok) := by unfold State.access; rw [h]
theorem State.access_never (h : s.verdict m a = .never) : s.access m a eff = s.answer m .none := by unfold State.access; rw [h]
theorem State.access_gated (h : s.verdict m a = .gated) : s.access m a eff = s.answer m .ok := by unfold State.access; rw [h]
theorem State.access_hole (h : s.verdict m a = .hole) :
    s.access m a eff = (s.answer m .ok).logFault 0x01 0 (some (m, true, a)) := by unfold State.access; rw [h]
theorem State.access_denied (h : s.verdict m a = .denied) :
    s.access m a eff = (s.answer m .ok).logFault 0x02 0 (some (m, true, a)) := by unfold State.access; rw [h]
theorem State.access_outside (h : s.verdict m a = .outside) :
    s.access m a eff = (s.errorReply m).logFault 0x01 0 (some (m, true, a)) := by unfold State.access; rw [h]

theorem State.readAccess_row (h : s.verdict m a = .row r) :
    s.readAccess m a val = (val r s).1.answer m (.data (val r s).2) := by unfold State.readAccess; rw [h]
theorem State.readAccess_never (h : s.verdict m a = .never) : s.readAccess m a val = s.answer m .none := by
  unfold State.readAccess; rw [h]
theorem State.readAccess_gated (h : s.verdict m a = .gated) : s.readAccess m a val = s.answer m (.data 0) := by
  unfold State.readAccess; rw [h]
theorem State.readAccess_denied (h : s.verdict m a = .denied) : s.readAccess m a val = s.answer m (.data 0) := by
  unfold State.readAccess; rw [h]

/-- A write whose fields are all in range stores the word they make. -/
theorem State.plainWrite_ok {v w : Word} (h : writeFields r.fields (s.rd a) v = (w, false)) : s.plainWrite m a v r = s.wr a w := by
  unfold State.plainWrite; rw [h]; rfl

@[simp] theorem State.when_true (g : State → State) : s.when true g = g s := (rfl)
@[simp] theorem State.when_false (g : State → State) : s.when false g = s := (rfl)

end Sys2Proof.Machine
end

