-- ==== Sys2Proof/Laws/Mgmt.lean ====
section
/-! SUPPORT. What an NV operation and a write of a mailbox register come to. -/

namespace Sys2Proof.Machine

/-! ### The NV store's command register -/

/-- A GO of coachman B that finds the store free runs its operation (R396). -/
theorem State.nvCmdWrite_go {s : State} {v w : Word} {r : RegRow} (h2 : fieldOf NVS_CMD_GO v = 1) (h3 : s.on NVS_CMD_BUSY = false)
    (h4 : writeFields r.fields (s.rd NVS_CMD) v = (w, false)) (h5 : fieldOf NVS_CMD_OP v < 5) :
    s.nvCmdWrite .coachB v r =
      State.nvReport (((s.wr NVS_CMD w).set NVS_CMD_GO 0).nvOp (fieldOf NVS_CMD_OP v) (fieldOf NVS_CMD_COMMIT v == 1) []) := by
  unfold State.nvCmdWrite
  rw [if_neg (by simp), if_neg (by omega), if_neg (by simp [h3]), State.plainWrite_ok h4]
  simp only [if_pos h5]

theorem State.nvReport_some (t : State) (st : Nat) : State.nvReport (t, some st) = (t.set NVS_CMD_STATUS st).set NVS_CMD_BUSY 1 := rfl
theorem State.nvReport_none (t : State) : State.nvReport (t, none) = t.set NVS_CMD_BUSY 1 := rfl

/-- A READ, by what it reads (R397). -/
theorem State.nvOp_read {s u : State} {c why bs st} (h : s.nvRead (s.get NVS_ADDR_ADDR) (s.get NVS_LEN_LEN) = (u, bs, st)) :
    s.nvOp 0 c why = (u.nvToWindow bs, some st) := by unfold State.nvOp; simp only; rw [h]

/-- A WRITE without a commit (R398). -/
theorem State.nvOp_write {s u : State} {why st} (h : s.nvWrite (s.get NVS_ADDR_ADDR) (s.nvWindow (s.get NVS_LEN_LEN)) = (u, st)) :
    s.nvOp 1 false why = (u, some st) := by
  unfold State.nvOp; simp only; rw [h]; simp

/-- A COMMIT that is taken (R400). -/
theorem State.nvOp_commit {s u : State} {c why} (e : s.nvs.buffer.isEmpty = false) (h : s.commitStart true why = (u, 0)) :
    s.nvOp 2 c why = (u, none) := by unfold State.nvOp; simp only; rw [h, e]; simp

/-- A DISCARD (R396). -/
theorem State.nvOp_discard {s : State} {c why} (h : s.on NVS_STATUS_PFW_ACTIVE = false) :
    s.nvOp 3 c why = (State.nvDirty { s with nvs := { s.nvs with buffer := [] } }, some 0) := by
  unfold State.nvOp State.nvDiscard; rw [h]; rfl

/-- A HOT_SAVE that is taken (R406). -/
theorem State.nvOp_hotSave {s u : State} {c why} (h : s.hotSaveOp true = (u, 0)) : s.nvOp 4 c why = (u, none) := by
  unfold State.nvOp; simp only; rw [h]; simp

/-! ### Mailbox registers -/

theorem mbxPlace_sendW0 {n e : Nat} (_ : n < 8) (h' : e < 2) : mbxPlace (MBX_SEND_W0 n e) = (n, e, 0) := by
  unfold mbxPlace MBX_SEND_W0
  simp only [Prod.mk.injEq]; omega
theorem mbxPlace_ctrl {n e : Nat} (_ : n < 8) (h' : e < 2) : mbxPlace (MBX_CTRL n e) = (n, e, 0x88) := by
  unfold mbxPlace MBX_CTRL
  simp only [Prod.mk.injEq]; omega

/-- A powered-down core is the same for an answered access. -/
@[simp] theorem State.answer_mbxDown (s : State) (m : Master) (x : Reply) (a : Nat) : (s.answer m x).mbxDown a = s.mbxDown a := by
  have h : ∀ n e, (s.answer m x).endDown n e = s.endDown n e := fun n e => by unfold State.endDown; simp only [State.answer_fw]
  rw [State.mbxDown.eq_1, State.mbxDown.eq_1, funext fun n => funext (h n)]

/-- A write of SEND_W0 by the end's owner (R420). -/
theorem State.mbxWrite_send {s : State} {m : Master} {n e : Nat} {v : Word} {r : RegRow} (h : n < 8) (h' : e < 2)
    (d : s.mbxDown (MBX_SEND_W0 n e) = false) (o : mbxOwner n e = some m) : s.mbxWrite m (MBX_SEND_W0 n e) v r = s.mbxSend m n e v := by
  unfold State.mbxWrite
  rw [mbxPlace_sendW0 h h']
  simp only [d, o, ne_eq, not_true_eq_false, if_false, if_true, Bool.false_eq_true]

/-- A write of CTRL by the end's owner (R424, R425). -/
theorem State.mbxWrite_ctrl {s : State} {m : Master} {n e : Nat} {v : Word} {r : RegRow} (h : n < 8) (h' : e < 2)
    (d : s.mbxDown (MBX_CTRL n e) = false) (o : mbxOwner n e = some m) : s.mbxWrite m (MBX_CTRL n e) v r = s.mbxCtrl n e v := by
  unfold State.mbxWrite
  rw [mbxPlace_ctrl h h']
  simp only [d, o, ne_eq, not_true_eq_false, if_false, if_true, Bool.false_eq_true]
  rfl

/-- A write of SEND_W0 by another master (R417). -/
theorem State.mbxWrite_stranger {s : State} {m : Master} {n e : Nat} {v : Word} {r : RegRow} (h : n < 8) (h' : e < 2)
    (d : s.mbxDown (MBX_SEND_W0 n e) = false) (o : mbxOwner n e ≠ some m) :
    s.mbxWrite m (MBX_SEND_W0 n e) v r = s.refuseWrite m (MBX_SEND_W0 n e) := by
  unfold State.mbxWrite
  rw [mbxPlace_sendW0 h h']
  simp only [d, o, ne_eq, not_false_eq_true, if_false, if_true, Bool.false_eq_true]

/-- A write of SEND_W0 that meets a powered-down core (R427). -/
theorem State.mbxWrite_down {s : State} {m : Master} {n e : Nat} {v : Word} {r : RegRow} (h : n < 8) (h' : e < 2)
    (d : s.mbxDown (MBX_SEND_W0 n e) = true) :
    s.mbxWrite m (MBX_SEND_W0 n e) v r = (s.errorReply m).logFault 0x06 n (some (m, true, MBX_SEND_W0 n e)) := by
  unfold State.mbxWrite State.mbxError
  rw [mbxPlace_sendW0 h h']
  simp only [d, if_true]

end Sys2Proof.Machine
end

