-- ==== Sys2Proof/Laws/Regs.lean ====
section
/-! SUPPORT. Reading registers and fields back: a read gives what was written last there, and a write leaves every other
register and every other field alone, in every state whose register file is canonical. -/

namespace Sys2Proof.Machine

variable {s : State}

/-! ### Words and fields -/

theorem getBits_lt (w : Word) (lo width : Nat) : getBits w lo width < 2 ^ width := Nat.mod_lt _ (Nat.two_pow_pos _)

/-- What replacing a field does to the number of a word. -/
theorem putBits_toNat {w : Word} {lo width : Nat} (h : lo + width ≤ 32) (v : Nat) :
    (putBits w lo width v).toNat = w.toNat % 2 ^ lo + (v % 2 ^ width) * 2 ^ lo + w.toNat / 2 ^ (lo + width) * 2 ^ (lo + width) := by
  have e1 : w.toNat = w.toNat % 2 ^ lo + getBits w lo width * 2 ^ lo + w.toNat / 2 ^ (lo + width) * 2 ^ (lo + width) := by
    have a := Nat.div_add_mod w.toNat (2 ^ lo)
    have b := Nat.div_add_mod (w.toNat / 2 ^ lo) (2 ^ width)
    rw [Nat.div_div_eq_div_mul, ← Nat.pow_add] at b
    unfold getBits
    calc w.toNat = 2 ^ lo * (w.toNat / 2 ^ lo) + w.toNat % 2 ^ lo := a.symm
      _ = 2 ^ lo * (2 ^ width * (w.toNat / 2 ^ (lo + width)) + w.toNat / 2 ^ lo % 2 ^ width) + w.toNat % 2 ^ lo := by rw [b]
      _ = _ := by rw [Nat.mul_add, Nat.pow_add]; ring
  have hw := w.isLt
  have hm : w.toNat % 2 ^ lo < 2 ^ lo := Nat.mod_lt _ (Nat.two_pow_pos _)
  have hv : v % 2 ^ width < 2 ^ width := Nat.mod_lt _ (Nat.two_pow_pos _)
  have hlow : w.toNat % 2 ^ lo + (v % 2 ^ width) * 2 ^ lo < 2 ^ (lo + width) := by
    calc w.toNat % 2 ^ lo + (v % 2 ^ width) * 2 ^ lo < 2 ^ lo + (v % 2 ^ width) * 2 ^ lo := by omega
      _ = (v % 2 ^ width + 1) * 2 ^ lo := by ring
      _ ≤ 2 ^ width * 2 ^ lo := Nat.mul_le_mul_right _ hv
      _ = 2 ^ (lo + width) := by rw [Nat.pow_add, Nat.mul_comm]
  have hhi : w.toNat / 2 ^ (lo + width) < 2 ^ (32 - (lo + width)) := by
    rw [Nat.div_lt_iff_lt_mul (Nat.two_pow_pos _), ← Nat.pow_add, Nat.sub_add_cancel h]; exact hw
  have hlt : w.toNat % 2 ^ lo + (v % 2 ^ width) * 2 ^ lo + w.toNat / 2 ^ (lo + width) * 2 ^ (lo + width) < 2 ^ 32 := by
    calc _ < 2 ^ (lo + width) + w.toNat / 2 ^ (lo + width) * 2 ^ (lo + width) := by omega
      _ = (w.toNat / 2 ^ (lo + width) + 1) * 2 ^ (lo + width) := by ring
      _ ≤ 2 ^ (32 - (lo + width)) * 2 ^ (lo + width) := Nat.mul_le_mul_right _ hhi
      _ = 2 ^ 32 := by rw [← Nat.pow_add, Nat.sub_add_cancel h]
  unfold putBits
  rw [BitVec.toNat_ofNat]
  have e2 : w.toNat - getBits w lo width * 2 ^ lo + v % 2 ^ width * 2 ^ lo
      = w.toNat % 2 ^ lo + (v % 2 ^ width) * 2 ^ lo + w.toNat / 2 ^ (lo + width) * 2 ^ (lo + width) := by omega
  rw [e2, Nat.mod_eq_of_lt hlt]

/-- The field replaced reads as what was put there. -/
theorem getBits_putBits_same {w : Word} {lo width : Nat} (h : lo + width ≤ 32) (v : Nat) :
    getBits (putBits w lo width v) lo width = v % 2 ^ width := by
  have hm : w.toNat % 2 ^ lo < 2 ^ lo := Nat.mod_lt _ (Nat.two_pow_pos _)
  unfold getBits
  rw [putBits_toNat h, Nat.pow_add]
  have e : w.toNat % 2 ^ lo + v % 2 ^ width * 2 ^ lo + w.toNat / (2 ^ lo * 2 ^ width) * (2 ^ lo * 2 ^ width)
      = w.toNat % 2 ^ lo + 2 ^ lo * (v % 2 ^ width + 2 ^ width * (w.toNat / (2 ^ lo * 2 ^ width))) := by ring
  rw [e, Nat.add_mul_div_left _ _ (Nat.two_pow_pos _), Nat.div_eq_of_lt hm, Nat.zero_add, Nat.add_mul_mod_self_left, Nat.mod_mod]

/-- A field that lies above or below the one replaced reads as before. -/
theorem getBits_putBits_ne {w : Word} {lo width lo' width' : Nat} (h : lo + width ≤ 32) (v : Nat)
    (hd : lo' + width' ≤ lo ∨ lo + width ≤ lo') : getBits (putBits w lo width v) lo' width' = getBits w lo' width' := by
  have hm : w.toNat % 2 ^ lo < 2 ^ lo := Nat.mod_lt _ (Nat.two_pow_pos _)
  have hv : v % 2 ^ width < 2 ^ width := Nat.mod_lt _ (Nat.two_pow_pos _)
  have hlow : w.toNat % 2 ^ lo + (v % 2 ^ width) * 2 ^ lo < 2 ^ (lo + width) := by
    calc w.toNat % 2 ^ lo + (v % 2 ^ width) * 2 ^ lo < 2 ^ lo + (v % 2 ^ width) * 2 ^ lo := by omega
      _ = (v % 2 ^ width + 1) * 2 ^ lo := by ring
      _ ≤ 2 ^ width * 2 ^ lo := Nat.mul_le_mul_right _ hv
      _ = 2 ^ (lo + width) := by rw [Nat.pow_add, Nat.mul_comm]
  unfold getBits
  rw [putBits_toNat h]
  rcases hd with hd | hd
  · obtain ⟨k, rfl⟩ := Nat.exists_eq_add_of_le hd
    have key : ∀ x y : Nat, (x % 2 ^ (lo' + width' + k) + y * 2 ^ (lo' + width' + k)) / 2 ^ lo' % 2 ^ width' = x / 2 ^ lo' % 2 ^ width' := by
      intro x y
      have hx := Nat.div_add_mod x (2 ^ (lo' + width' + k))
      have e1 : ∀ z r : Nat, (r + 2 ^ lo' * (2 ^ width' * z)) / 2 ^ lo' % 2 ^ width' = r / 2 ^ lo' % 2 ^ width' := by
        intro z r
        rw [Nat.add_mul_div_left _ _ (Nat.two_pow_pos _), Nat.add_mul_mod_self_left]
      have e2 : x % 2 ^ (lo' + width' + k) + y * 2 ^ (lo' + width' + k)
          = x % 2 ^ (lo' + width' + k) + 2 ^ lo' * (2 ^ width' * (2 ^ k * y)) := by rw [Nat.pow_add, Nat.pow_add]; ring
      have e3 : x = x % 2 ^ (lo' + width' + k) + 2 ^ lo' * (2 ^ width' * (2 ^ k * (x / 2 ^ (lo' + width' + k)))) := by
        conv_lhs => rw [← hx]
        rw [Nat.pow_add, Nat.pow_add]; ring
      rw [e2, e1]
      conv_rhs => rw [e3, e1]
    have e : w.toNat % 2 ^ (lo' + width' + k) + v % 2 ^ width * 2 ^ (lo' + width' + k)
        + w.toNat / 2 ^ (lo' + width' + k + width) * 2 ^ (lo' + width' + k + width)
        = w.toNat % 2 ^ (lo' + width' + k) + (v % 2 ^ width + w.toNat / 2 ^ (lo' + width' + k + width) * 2 ^ width)
          * 2 ^ (lo' + width' + k) := by
      rw [Nat.pow_add 2 (lo' + width' + k) width]; ring
    rw [e, key]
  · obtain ⟨k, rfl⟩ := Nat.exists_eq_add_of_le hd
    congr 1
    rw [Nat.pow_add 2 (lo + width) k, ← Nat.div_div_eq_div_mul, ← Nat.div_div_eq_div_mul, Nat.add_mul_div_right _ _ (Nat.two_pow_pos _),
      Nat.div_eq_of_lt hlow, Nat.zero_add]

/-! ### The register file -/

@[simp] theorem State.wr_regsWf (h : s.regsWf = true) (a : Nat) (w : Word) : (s.wr a w).regsWf = true := smSet_wf _ _ _ h

@[simp] theorem State.set_regsWf (h : s.regsWf = true) (f : FieldRef) (v : Nat) : (s.set f v).regsWf = true := smSet_wf _ _ _ h

/-- A register reads as the word written to it last, and no other register is touched. -/
theorem State.rd_wr (h : s.regsWf = true) (a b : Nat) (w : Word) : (s.wr a w).rd b = if b = a then w else s.rd b := by
  unfold State.rd State.wr
  split
  · next e => subst e; exact smGet_smSet_same _ _ _ h
  · next e => exact smGet_smSet_ne e _ _ h

theorem State.rd_wr_same (h : s.regsWf = true) (a : Nat) (w : Word) : (s.wr a w).rd a = w := by rw [State.rd_wr h, if_pos rfl]

theorem State.rd_wr_ne (h : s.regsWf = true) {a b : Nat} (w : Word) (e : b ≠ a) : (s.wr a w).rd b = s.rd b := by
  rw [State.rd_wr h, if_neg e]

theorem State.rd_set_ne (h : s.regsWf = true) (f : FieldRef) (v : Nat) {b : Nat} (e : b ≠ f.addr) : (s.set f v).rd b = s.rd b :=
  State.rd_wr_ne h _ e

/-- A field reads as what was stored in it last. -/
theorem State.get_set_same (h : s.regsWf = true) (f : FieldRef) (hf : f.lo + f.width ≤ 32) (v : Nat) :
    (s.set f v).get f = v % 2 ^ f.width := by
  unfold State.get State.set
  rw [State.rd_wr_same h, getBits_putBits_same hf]

/-- A field of another register reads as before. -/
theorem State.get_set_addr (h : s.regsWf = true) (f g : FieldRef) (v : Nat) (e : g.addr ≠ f.addr) : (s.set f v).get g = s.get g := by
  unfold State.get
  rw [State.rd_set_ne h f v e]

/-- A field above or below, in the same register or in another, reads as before. -/
theorem State.get_set_apart (h : s.regsWf = true) (f g : FieldRef) (hf : f.lo + f.width ≤ 32) (v : Nat)
    (e : g.addr ≠ f.addr ∨ g.lo + g.width ≤ f.lo ∨ f.lo + f.width ≤ g.lo) : (s.set f v).get g = s.get g := by
  by_cases ha : g.addr = f.addr
  · unfold State.get State.set
    rw [ha, State.rd_wr_same h, getBits_putBits_ne hf v (by simpa [ha] using e)]
  · exact State.get_set_addr h f g v ha

theorem State.get_wr_ne (h : s.regsWf = true) (a : Nat) (w : Word) (g : FieldRef) (e : g.addr ≠ a) : (s.wr a w).get g = s.get g := by
  unfold State.get
  rw [State.rd_wr_ne h w e]

/-- States with one register file read alike. -/
theorem State.rd_congr {t : State} (h : t.regs = s.regs) (a : Nat) : t.rd a = s.rd a := by unfold State.rd; rw [h]

theorem State.get_congr {t : State} (h : t.regs = s.regs) (f : FieldRef) : t.get f = s.get f := by
  unfold State.get; rw [State.rd_congr h]

end Sys2Proof.Machine
end

