-- ==== Sys2Proof/Tests/Slice0.lean ====
section
/-! SUPPORT. Tests. First an ill-formed command for each check of `Instr.wf`, then a few single steps whose outcome the spec
states, then, for every obligation with hypotheses, a witness: for each of its clauses a state and operands that meet all the
hypotheses of the clause together. Where a clause names what an operation comes to, `f x = (u, k)`, its witness shows
`(f x).2 = k`, `u` being `(f x).1`. -/

namespace Sys2Proof.Tests
open Sys2Proof Sys2Proof.Machine

/-! ### States and data for the tests -/

/-- A device in RUN: the root runs, the loader is done, MODE is FREERUN, every interface is privileged, the XO is judged. -/
def ready : State :=
  ({ State.reset with
      boot := { State.reset.boot with root := true }, fw := { State.reset.fw with down := 0 } } : State)
    |>.set GLB_STATUS_MODE 4 |>.set GLB_BOOT_STATUS_STATE 5 |>.set HIF_PRIV_PRIV 15 |>.set CGU_XO_STATUS_JUDGED 1
    |>.set PWR_TOKENS_TOKENS 32 |>.set NVS_PROTECT_LEVEL 0

/-- The 64 octets of an image header (R55): `len` octets in `segs` segments, its body's CRC and its own. -/
def header (len segs : Nat) (body : List Octet) : List Octet :=
  let h := octetsLE 4 0x54535A51 ++ octetsLE 2 2 ++ octetsLE 2 64 ++ octetsLE 4 len ++ octetsLE 2 segs ++
    octetsLE 2 0x4816 ++ List.replicate 40 0 ++ octetsLE 4 (crc32 body)
  h ++ octetsLE 4 (crc32 h)

/-- The octets of a line of text. -/
def text (t : String) : List Octet := t.toList.map fun c => BitVec.ofNat 8 c.toNat

/-- A frame that has arrived whole at port 47, and a copy of it. -/
def aFrame : Frame := { (default : Frame) with id := 9, inp := 47, bytes := List.replicate 64 0#8, ended := true, head := 64 }
def aCopy (out : Nat) (mail : Bool) (place : Place) : Copy :=
  { (default : Copy) with id := 3, frame := 9, inp := 47, out := out, cls := 2, mail := mail, place := place, adm := 7 }
def holding (c : Copy) (s : State) : State := { s with buf := { s.buf with frames := [aFrame], copies := [c] } }

/-- The state after one command; the state before where it answers none. -/
def after (c : Instr) (s : State) : State :=
  match exec c s with | .next t => t | _ => s

/-! ### Ill-formed and well-formed commands -/

theorem test_ill_formed_1 : ([
    .registerWrite .spi (2 ^ 24) 0, .registerWrite .spi 2 0, .rcRead .spi (2 ^ 24), .rcRead .spi 2,
    .multiWordLowRead .spi (2 ^ 24), .multiWordLowRead .spi 2, .resetNRelease 1024, .enterWorkshop 4, .gateTakesEffect 23,
    .forcedGate 23 [], .gateOpen 23, .switchComplete 7, .switchForced 7, .switchAbandoned 7, .switchRetry 7,
    .refEnableWrite .spi 64 0, .overrideWrite .spi 64 0, .activityLoss 64 true, .qualificationWaitEnd 64,
    .changeoverComplete 4, .forcedRefNoEdge 4, .alignHiWrite .spi 4 0, .loopUpdate 4, .loopStepComplete 4, .sourceLost 4,
    .loopEnableWrite .spi 4 0, .forceWrite .spi 4 0, .rampStart .spi 4 0, .rampAbort .spi 4 0, .rampDone 4, .spragExpiry 4,
    .axleEnableWrite .spi 4 0, .bandSearchDone 4 true 0 0, .bandSearchDone 0 true 16 0, .bandSearchDone 0 true 0 256,
    .injectionLockHeld 4, .pullinTimeout 4, .dllLocked 4, .dllHoldWrite .spi 4 0, .lossOfLock 4, .hop .spi 4 0,
    .search .spi 4 0, .fwordHiWrite .spi 4 0, .stepHiWrite .spi 4 0, .stepDone 4] : List Instr).all (fun i => !i.wf) = true := by decide

theorem test_ill_formed_2 : ([
    .stepAbort .spi 4 0, .bandHiWrite .spi 0 0 0, .bandHiWrite .spi 4 0 0, .bandHiWrite .spi 1 16 0, .fineCopy 4 0,
    .outputEnableWrite .spi 24 0, .outputStart 24, .phaseHiWrite .spi 24 0, .outputDivChange 24, .incHiWrite .spi 2 0,
    .set .spi 2 0, .step .spi 2 0, .setSec .spi 2 0, .secondBoundary 2, .targetHiWrite .spi 2 0, .gaugeEnableWrite .spi 64 0,
    .conversionComplete 64, .tollgateClose 64, .statStart .spi 64 0, .statAbort .spi 64 0, .laneCalibrationPath 48 true [],
    .calOkSet 48, .sessionEnableWrite .spi 192 0, .rebind .spi 192 0, .syncTransmit 192, .delayReqTransmit 192,
    .syncReceive 192 default, .delayReqReceive 192 default, .delayRespReceive 192 default, .pdelayReqReceive 192 default,
    .pdelayRespReceive 192 default, .delayRespTimeout 192, .syncTimeout 192, .esmcPduReceive 48 0 none, .esmcTimeout 48,
    .cplPortEnableWrite .spi 48 0, .helloReceive 48 [], .helloTransmit 48, .markerDue 48, .markerNotSent 48, .missLimit 48,
    .transfer .spi 4 0, .portCfgWrite .spi 48 0, .pcsLockLost 48 default, .downHoldExpiry 48] : List Instr).all (fun i => !i.wf) = true := by decide

theorem test_ill_formed_3 : ([
    .anComplete 48 0, .anRestart none 48 0, .anFallback 48, .anRetry 48, .pauseReceive 48 [], .pauseQuantaExpiry 48 0,
    .pauseQuantaExpiry 0 8, .verifyTimer 48 true, .clearPortCounters .spi 48 0, .i2cTransferStart .spi 4 0,
    .i2cTransferDone 4 .done [], .modulePoll 48, .pauseResend 48, .pauseWatchdog 48 0, .pauseWatchdog 0 8,
    .pauseWatchdogEnd 48 0, .pauseWatchdogEnd 0 8, .graceExpiry 48, .flushComplete 48, .promotion 4 0 0, .promotion 0 50 0,
    .promotion 0 0 8, .slotStart 50, .mailFetch 48, .holdAssert 48, .mailDeparture 48 true, .resequencerGapTimeout 48,
    .streamIdle 50 0 0, .streamIdle 0 48 0, .streamIdle 0 0 8, .gclChange .spi 48 0, .gclSwap 48, .sendW0Write .spi 8 0 0,
    .sendW0Write .spi 0 2 0, .release .spi 8 0 0, .release .spi 0 2 0, .endReset .spi 8 0 0, .endReset .spi 0 2 0,
    .coreWatchdogExpiry 2, .coreReady 2, .responsePost 4, .sysInfo 4, .reset 4, .setEvents 4, .callExtension 4 []] : List Instr).all (fun i => !i.wf) = true := by decide

theorem test_ill_formed_4 : ([
    .callExtension 0 (List.replicate 16 0), .extensionTimeout 4, .refStatus 4, .selStatus 4, .selManual 4, .loopStatus 4,
    .loopSample 4, .setCal 4, .clearModel 4, .holdStatus 4, .outStatus 4, .outEnable 4, .timeRead 4, .timeSetSec 4,
    .gaugeRun 4, .sessL2 4, .sessIp 4, .ptpProfile 4, .ptpPortDs 4, .cplStatus 4, .portStatus 4, .moduleRead 4, .macFlush 4,
    .macLookup 4, .tableWrite 4, .nvRead 4, .nvWrite 4, .nvCommit 4, .hotUserWrite 4, .hotSave 4, .faultLogRead 4,
    .powerState 4, .thermalStatus 4, .pcieRequest true (2 ^ 24) [] [], .pcieRequest true 2 [] [], .pcieRequest true 0 [0] [],
    .jtagUpdateDr (2 ^ 58), .packetTx [0, 0, 0] [], .ringDmaError 2, .ringLenWrite .spi 2 0, .msixSend 10 true,
    .temperatureReading (List.replicate 7 0), .railExcursion 7 true, .railExcursionEnd 7 true, .frameTransmitEnd 50] : List Instr).all (fun i => !i.wf) = true := by decide

theorem test_ill_formed_5 : ([
    .frameTransmitEnd 48, .gateBoundary 48, .buildOutBleedEnd 4, .feedBleedEnd 4, .announceTransmit 256,
    .tappedEdge 64 ⟨false, 1000, 5, 1, 9⟩ 0, .tappedEdge 0 ⟨false, 1, 5, 1, 9⟩ 0, .tappedEdge 0 ⟨false, 1000, 1, 1, 9⟩ 0,
    .tappedEdge 0 ⟨false, 1000, 10, 1, 9⟩ 0, .startEdge 64 0 ⟨false, 1000, 5, 1, 9⟩, .startEdge 0 0x63 ⟨false, 1000, 5, 1, 9⟩,
    .startEdge 0 0 ⟨false, 1, 5, 1, 9⟩, .startEdge 0 0 ⟨false, 1000, 1, 1, 9⟩, .startEdge 0 0 ⟨false, 1000, 10, 1, 9⟩,
    .stopEdge 64 0 ⟨false, 1000, 5, 1, 9⟩, .stopEdge 0 0x63 ⟨false, 1000, 5, 1, 9⟩, .stopEdge 0 0 ⟨false, 1, 5, 1, 9⟩,
    .stopEdge 0 0 ⟨false, 1000, 1, 1, 9⟩, .stopEdge 0 0 ⟨false, 1000, 10, 1, 9⟩, .couplingMessageReceive 48 [] default,
    .pcsLockGained 48 true true, .frameReceive 48 [] default, .frameTailArrival 48 [] default 0 default, .fuseProgram 4 true,
    .spiWriteWord 64 0 0, .spiWriteWord 0 (2 ^ 24) 0, .spiWriteWord 0 2 0, .spiReadWord 64 0 true,
    .spiReadWord 0 (2 ^ 24) true, .spiReadWord 0 2 true, .spiFrameEnd 64 true, .i2cWriteWord 128 0 0,
    .i2cWriteWord 0 (2 ^ 24) 0, .i2cWriteWord 0 2 0, .i2cReadWord 128 none true, .i2cReadWord 0 (some (2 ^ 24)) true,
    .i2cReadWord 0 (some 2) true, .i2cTransactionEnd 128 true] : List Instr).all (fun i => !i.wf) = true := by decide

theorem test_well_formed_1 : ([
    .registerWrite .spi 0 0, .rcRead .spi 0, .multiWordLowRead .spi 0, .resetNRelease 0, .enterWorkshop 0, .gateTakesEffect 0,
    .forcedGate 0 [], .gateOpen 0, .switchComplete 0, .switchForced 0, .switchAbandoned 0, .switchRetry 0,
    .refEnableWrite .spi 0 0, .overrideWrite .spi 0 0, .activityLoss 0 true, .qualificationWaitEnd 0, .changeoverComplete 0,
    .forcedRefNoEdge 0, .alignHiWrite .spi 0 0, .loopUpdate 0, .loopStepComplete 0, .sourceLost 0, .loopEnableWrite .spi 0 0,
    .forceWrite .spi 0 0, .rampStart .spi 0 0, .rampAbort .spi 0 0, .rampDone 0, .spragExpiry 0, .axleEnableWrite .spi 0 0,
    .bandSearchDone 0 true 0 0, .injectionLockHeld 0, .pullinTimeout 0, .dllLocked 0, .dllHoldWrite .spi 0 0, .lossOfLock 0,
    .hop .spi 0 0, .search .spi 0 0, .fwordHiWrite .spi 0 0, .stepHiWrite .spi 0 0, .stepDone 0, .stepAbort .spi 0 0,
    .bandHiWrite .spi 1 0 0, .fineCopy 0 0, .outputEnableWrite .spi 0 0, .outputStart 0] : List Instr).all (fun i => i.wf) = true := by decide

theorem test_well_formed_2 : ([
    .phaseHiWrite .spi 0 0, .outputDivChange 0, .incHiWrite .spi 0 0, .set .spi 0 0, .step .spi 0 0, .setSec .spi 0 0,
    .secondBoundary 0, .targetHiWrite .spi 0 0, .gaugeEnableWrite .spi 0 0, .conversionComplete 0, .tollgateClose 0,
    .statStart .spi 0 0, .statAbort .spi 0 0, .laneCalibrationPath 0 true [], .calOkSet 0, .sessionEnableWrite .spi 0 0,
    .rebind .spi 0 0, .syncTransmit 0, .delayReqTransmit 0, .syncReceive 0 default, .delayReqReceive 0 default,
    .delayRespReceive 0 default, .pdelayReqReceive 0 default, .pdelayRespReceive 0 default, .delayRespTimeout 0,
    .syncTimeout 0, .esmcPduReceive 0 0 none, .esmcTimeout 0, .cplPortEnableWrite .spi 0 0, .helloReceive 0 [],
    .helloTransmit 0, .markerDue 0, .markerNotSent 0, .missLimit 0, .transfer .spi 0 0, .portCfgWrite .spi 0 0,
    .pcsLockLost 0 default, .downHoldExpiry 0, .anComplete 0 0, .anRestart none 0 0, .anFallback 0, .anRetry 0,
    .pauseReceive 0 [], .pauseQuantaExpiry 0 0, .verifyTimer 0 true] : List Instr).all (fun i => i.wf) = true := by decide

theorem test_well_formed_3 : ([
    .clearPortCounters .spi 0 0, .i2cTransferStart .spi 0 0, .i2cTransferDone 0 .done [], .modulePoll 0, .pauseResend 0,
    .pauseWatchdog 0 0, .pauseWatchdogEnd 0 0, .graceExpiry 0, .flushComplete 0, .promotion 0 0 0, .slotStart 0, .mailFetch 0,
    .holdAssert 0, .mailDeparture 0 true, .resequencerGapTimeout 0, .streamIdle 0 0 0, .gclChange .spi 0 0, .gclSwap 0,
    .sendW0Write .spi 0 0 0, .release .spi 0 0 0, .endReset .spi 0 0 0, .coreWatchdogExpiry 0, .coreReady 0, .responsePost 0,
    .sysInfo 0, .reset 0, .setEvents 0, .callExtension 0 [], .extensionTimeout 0, .refStatus 0, .selStatus 0, .selManual 0,
    .loopStatus 0, .loopSample 0, .setCal 0, .clearModel 0, .holdStatus 0, .outStatus 0, .outEnable 0, .timeRead 0,
    .timeSetSec 0, .gaugeRun 0, .sessL2 0, .sessIp 0, .ptpProfile 0] : List Instr).all (fun i => i.wf) = true := by decide

theorem test_well_formed_4 : ([
    .ptpPortDs 0, .cplStatus 0, .portStatus 0, .moduleRead 0, .macFlush 0, .macLookup 0, .tableWrite 0, .nvRead 0, .nvWrite 0,
    .nvCommit 0, .hotUserWrite 0, .hotSave 0, .faultLogRead 0, .powerState 0, .thermalStatus 0, .pcieRequest true 0 [] [],
    .jtagUpdateDr 0, .packetTx [0, 0, 0, 0] [], .ringDmaError 0, .ringLenWrite .spi 0 0, .msixSend 0 true,
    .temperatureReading (List.replicate 8 0), .railExcursion 0 true, .railExcursionEnd 0 true, .frameTransmitEnd 0,
    .gateBoundary 0, .buildOutBleedEnd 0, .feedBleedEnd 0, .announceTransmit 0, .tappedEdge 0 ⟨false, 1000, 5, 1, 9⟩ 0,
    .startEdge 0 0 ⟨false, 1000, 5, 1, 9⟩, .stopEdge 0 0 ⟨false, 1000, 5, 1, 9⟩, .couplingMessageReceive 0 [] default,
    .pcsLockGained 0 true true, .frameReceive 0 [] default, .frameTailArrival 0 [] default 0 default, .fuseProgram 0 true,
    .spiWriteWord 0 0 0, .spiReadWord 0 0 true, .spiFrameEnd 0 true, .i2cWriteWord 0 0 0, .i2cReadWord 0 none true,
    .i2cTransactionEnd 0 true] : List Instr).all (fun i => i.wf) = true := by decide

/-! ### Single steps -/

theorem test_no_word_spells_a_command : decodeTableWord 16 5 = none ∧ State.reset.withFetchWord 16 5 = State.reset := by decide

/-- The line the spec gives as an example behind R116. -/
theorem test_timing_line_example : readSentence (text "$QZTL,1700000000,A,37*7C") = .qztl 1700000000 37 := by decide +kernel

/-- The CRC-32 of IEEE 802.3 over the nine digits. -/
theorem test_crc32 : crc32 (text "123456789") = 0xCBF43926 := by decide +kernel

theorem test_step_takes_the_oldest : step { ready with pending := [.xoActivityLoss, .xoReturnLock 0] } =
    exec .xoActivityLoss { ready with pending := [.xoReturnLock 0] } := rfl

/-- R9: a hole reads zero and logs; outside every block the master has an error response. -/
theorem test_read_of_hole : (after (.rcRead .spi 0x0000F4) ready).replyOf .spi = .data 0 ∧
    (after (.rcRead .spi 0x0000F4) ready).flt.heard.length = 1 ∧ (after (.rcRead .spi 0x350000) ready).replyOf .spi = .error := by
  decide +kernel

/-- R45: 0.4 µs is no reset, 2 µs is one. -/
theorem test_reset_pulse : (after (.resetNAssert 400) ready).boot.root = true ∧ (after (.resetNAssert 2000) ready).boot.root = false ∧
    (after (.resetNAssert 2000) ready).boot.held = true := by decide +kernel

/-- R62, R63: HALTED takes RESTART: DISCOVER with the QSPI source, FETCH with a host source. DONE discards it with a WARN fault. -/
theorem test_restart :
    (let s : State := { ready with boot := { ready.boot with loading := some .spi } }
     let go (src st : Nat) : State := after (.restart .spi 1#32) ((s.set GLB_STRAPS_BOOT_SRC src).set GLB_BOOT_STATUS_STATE st)
     (go 0 6).get GLB_BOOT_STATUS_STATE = 1 ∧ (go 1 6).get GLB_BOOT_STATUS_STATE = 2 ∧ (go 1 5).get GLB_BOOT_STATUS_STATE = 5 ∧
       (go 1 5).flt.heard.length = 1) := by
  decide +kernel

/-- R14: without privilege a P register reads zero. -/
theorem test_unprivileged : (after (.rcRead .i2c CGU_GATE) (ready.set HIF_PRIV_PRIV 1)).replyOf .i2c = .data 0 := by decide +kernel

/-- R421: LEN 16 posts nothing and sets SEND_ERR; LEN 0 posts. -/
theorem test_message_too_long : ((after (.sendW0Write .spi 0 0 16) ready).mb 0).inbound = [] ∧
    ((after (.sendW0Write .spi 0 0 0x01010000) ready).mb 0).inbound.length = 1 := by decide +kernel

/-- R474, R487: a fault is logged as its cycle ends. -/
theorem test_fault_is_logged_by_the_tick : ((after (.rcRead .spi 0x0000F4) ready).faultsLogged State.portShut).flt.log.length = 1 := by
  decide +kernel

/-- R253: a span half way between those of one and of two cycles is one and a half cycles. -/
theorem test_edge_span : (⟨false, 1000, 5, 1, 9⟩ : Edge).span = 3072 := by decide

/-- R292: a coupling word: sync header 10, block type 0x4B, O code 5, its index in the low four bits. -/
theorem test_coupling_word : couplingBlock 3 [0#8, 0#8, 0#8, 0#8, 0#8, 0#8] = 2 * 2 ^ 64 + 5 * 2 ^ 32 + 3 * 2 ^ 8 + 0x4B := by decide

/-- R29, R130: of one cycle, an access of SPI acts before one of PCIe, and both before the tick that follows. -/
theorem test_order_within_a_cycle : cycleOrder [.refTick100ms 0, .rcRead .pcie 0, .rcRead .spi 0] =
    [.rcRead .spi 0, .rcRead .pcie 0, .refTick100ms 0] := by decide

/-! ### Witnesses -/

set_option Elab.async false

theorem witness_StepRunsTheOldestCommand :
    ({ ready with pending := [.xoActivityLoss] } : State).pending = Instr.xoActivityLoss :: [] := rfl

theorem witness_NothingIsTakenBack : ∃ t, step { ready with pending := [.xoActivityLoss] } = .next t := ⟨_, rfl⟩

theorem witness_CanonicalFormKept : ∃ t, (({ ready with pending := [.xoActivityLoss] } : State).wf = true) ∧
    step { ready with pending := [.xoActivityLoss] } = .next t := ⟨_, by decide +kernel, rfl⟩

/-- A static entry of a key in the first way of its bucket, which is a free value of the configuration. -/
def macHeld (mac vid : Nat) : State :=
  { ready with fwd := { ready.fwd with mac := [(Config.macBucket mac vid % 16384 * 8, some ⟨mac, vid, 1, true, 2⟩)] } }

/-- MAC_LOOKUP meets an entry (the clause of NetworkRequestsComplete that the witnesses below leave out). -/
theorem witness_of_found_entry :
    (macHeld 5 1).findMac 5 1 = some (Config.macBucket 5 1 % 16384 * 8, ⟨5, 1, 1, true, 2⟩) := by
  simp [State.findMac, waysOf, macHeld, State.macAt, smAt, smGet, List.range, List.range.loop]

theorem witness_XoCommandsComplete_1 :
    (let s := ready |>.set (GLB_BOOT_STATUS_STATE) 0 |>.set (CGU_XO_STATUS_JUDGED) 0 |>.set (CGU_XO_STATUS_JUDGED) 0
     let s : State := { s with boot := { s.boot with held := false } }
     let active : Bool := true
     let hz : Nat := 10000000
     let c : Nat := (xoCode hz).getD 0
     let counts : List Nat := [40000]
     s.regsWf = true ∧ s.boot.held = false ∧ s.get GLB_BOOT_STATUS_STATE = 0 ∧ s.get CGU_XO_STATUS_JUDGED = 0 ∧ judgeCause
       active hz counts = 0 ∧ xoCode hz = some c) ∧
    (let s := ready
     s.regsWf = true ∧ s.watching = true ∧ s.on CGU_XO_STATUS_XO_SRC = false) ∧
    (let s := ready |>.set (CGU_XO_STATUS_XO_SRC) 1
     s.regsWf = true ∧ s.watching = true ∧ s.on CGU_XO_STATUS_XO_SRC = true) ∧
    (let s := ready |>.set (CGU_XO_STATUS_XO_SRC) 1
     let s : State := { s with cgu := { s.cgu with refCount := 1000 } }
     let c1 : Nat := 1001
     let c2 : Nat := 1001
     s.regsWf = true ∧ s.watching = true ∧ s.cgu.refCount ≠ 0 ∧ windowOff s.cgu.refCount c1 = true ∧ windowOff s.cgu.refCount c2
       = true ∧ s.on CGU_XO_STATUS_XO_SRC = true) ∧
    (let s := ready
     let c1 : Nat := 0
     windowOff s.cgu.refCount c1 = false) ∧
    (let s := ready |>.set (CGU_XO_STATUS_XO_SRC) 0 |>.set (CGU_XO_STATUS_XO_GOOD) 1
     let s : State := { s with cgu := { s.cgu with goodRun := 10000000 } }
     let m : Master := .spi
     let v : Word := 0x101#32
     let r : RegRow := (regRow CGU_XO_CTRL).getD default
     let w : Word := (writeFields r.fields (s.rd CGU_XO_CTRL) v).1
     s.regsWf = true ∧ s.verdict m CGU_XO_CTRL = .row r ∧ writeFields r.fields (s.rd CGU_XO_CTRL) v = (w, false) ∧ getBits w 0 1
       = 1 ∧ s.get CGU_XO_STATUS_XO_SRC = 0 ∧ s.get CGU_XO_STATUS_XO_GOOD = 1 ∧ 10000 * fieldOf CGU_XO_CTRL_GOOD_WAIT w ≤
       s.cgu.goodRun) := by
  decide +kernel

theorem witness_XoCommandsComplete_2 :
    (let s := ready |>.set (CGU_XO_STATUS_XO_GOOD) 0
     let m : Master := .spi
     let v : Word := 0x101#32
     let r : RegRow := (regRow CGU_XO_CTRL).getD default
     let w : Word := (writeFields r.fields (s.rd CGU_XO_CTRL) v).1
     s.regsWf = true ∧ s.verdict m CGU_XO_CTRL = .row r ∧ writeFields r.fields (s.rd CGU_XO_CTRL) v = (w, false) ∧ getBits w 0 1
       = 1 ∧ s.get CGU_XO_STATUS_XO_GOOD = 0) ∧
    (let s := ready
     let s : State := { s with cgu := { s.cgu with returning := false } }
     s.cgu.returning = false) ∧
    (let s := ready
     let s : State := { s with cgu := { s.cgu with returning := true } }
     let o : Option Nat := none
     s.cgu.returning = true ∧ s.cgu.windows.head?.bind (fun w => xoCode w.hz) = o) ∧
    (let s := ready |>.set (CGU_XO_STATUS_JUDGED) 1
     s.regsWf = true ∧ s.on CGU_XO_STATUS_JUDGED = true ∧ s.pwr.state ≠ .dormant) := by
  decide +kernel

theorem witness_ClockCommandsComplete_1 :
    (let s := ready
     let m : Master := .spi
     let v : Word := 0#32
     let r : RegRow := (regRow CGU_GATE).getD default
     let w : Word := (writeFields r.fields (s.rd CGU_GATE) v).1
     s.verdict m CGU_GATE = .row r ∧ writeFields r.fields (s.rd CGU_GATE) v = (w, false)) ∧
    (let s := ready
     let s : State := { s with pwr := { s.pwr with gates := 2 ^ 22 } }
     let b : Nat := 22
     b < 23 ∧ s.gatesWanted.testBit b = true ∧ s.gateIn b = false) ∧
    (let s := ready
     let b : Nat := 0
     s.gatesWanted.testBit b = false) ∧
    (let s := ready
     let s : State := { s with pwr := { s.pwr with gates := 2 ^ 22 } }
     let b : Nat := 22
     b < 23 ∧ s.gatesWanted.testBit b = true ∧ s.gateIn b = false) ∧
    (let s := ready
     let s : State := s.set CGU_GATE_STATUS_GATED (2 ^ 22)
     let b : Nat := 22
     s.gatesWanted.testBit b = false ∧ s.gateIn b = true) ∧
    (let s := ready |>.set (GLB_STATUS_MODE) 5
     let s : State := { s with cgu := { s.cgu with busy := [] } }
     let m : Master := .spi
     let v : Word := 1#32
     let r : RegRow := (regRow CGU_DOM_SRC).getD default
     let w : Word := (writeFields r.fields (s.rd CGU_DOM_SRC) v).1
     s.regsWf = true ∧ s.verdict m CGU_DOM_SRC = .row r ∧ s.get GLB_STATUS_MODE = 5 ∧ s.cgu.busy = [] ∧ writeFields r.fields
       (s.rd CGU_DOM_SRC) v = (w, false) ∧ ([1, 2, 3, 4].all fun d => fieldOf (domField d) w == s.domSrc d) = true ∧ fieldOf
       CGU_DOM_SRC_CORE w ≠ s.get CGU_DOM_SRC_CORE) := by
  decide +kernel

theorem witness_ClockCommandsComplete_2 :
    (let s := ready
     let s : State := { s with cgu := { s.cgu with busy := [⟨1, 0, 1, false⟩] } }
     let d : Nat := 1
     let w : Switch := ⟨d, 0, 1, false⟩
     s.switchBusy d = some w ∧ d ≠ 2 ∧ w.dom = d) ∧
    (let s := ready
     let s : State := { s with cgu := { s.cgu with busy := [⟨1, 0, 1, false⟩] } }
     let d : Nat := 1
     let w : Switch := ⟨d, 0, 1, false⟩
     s.switchBusy d = some w ∧ d ≠ 2 ∧ w.dom = d) ∧
    (let s := ready
     let s : State := { s with cgu := { s.cgu with busy := [⟨2, 0, 1, false⟩] } }
     let w : Switch := ⟨2, 0, 1, false⟩
     s.switchBusy 2 = some w ∧ w.dom = 2 ∧ s.pwr.phase ≠ 3) ∧
    (let s := ready
     let s : State := { s with cgu := { s.cgu with busy := [⟨5, 0, 1, false⟩] } }
     let d : Nat := 5
     let w : Switch := ⟨d, 0, 1, false⟩
     s.switchBusy d = some w ∧ d < 6 ∧ d ≠ 2 ∧ w.dom = d) ∧
    (let s := ready
     let s : State := { s with cgu := { s.cgu with waiting := [] } }
     let s : State := { s with cgu := { s.cgu with retry := [⟨6, 0, 1, false⟩] } }
     s.switchBusy 6 = none ∧ s.cgu.waiting = [] ∧ s.cgu.retry ≠ [] ∧ (∀ w ∈ s.cgu.retry, w.dom = 6)) ∧
    (let s := ready
     let m : Master := .spi
     let v : Word := 0#32
     let r : RegRow := (regRow CGU_CLKOUT).getD default
     let w : Word := (writeFields r.fields (s.rd CGU_CLKOUT) v).1
     s.regsWf = true ∧ s.verdict m CGU_CLKOUT = .row r ∧ writeFields r.fields (s.rd CGU_CLKOUT) v = (w, false) ∧ fieldOf
       CGU_CLKOUT_DIV v ≤ 65536 ∧ (fieldOf CGU_CLKOUT_DIV v = 0 ∨ s.clkHz (fieldOf CGU_CLKOUT_SRC v) ≤ 250000000 * fieldOf
       CGU_CLKOUT_DIV v) ∧ s.srcDue 5 = fieldOf CGU_CLKOUT_SRC v) := by
  decide +kernel

theorem witness_ClockCommandsComplete_3 :
    (let s := ready
     let s : State := { s with cgu := { s.cgu with busy := [⟨5, 0, 1, false⟩] } }
     (s.switchBusy 5).isSome = true) ∧
    (let s := ready
     let s : State := { s with cgu := { s.cgu with clkDiv := 0 } }
     s.switchBusy 5 = none ∧ s.cgu.clkDiv = 0) ∧
    (let s := ready
     let s : State := { s with cgu := { s.cgu with clkDiv := 1 } }
     s.switchBusy 5 = none ∧ s.cgu.clkDiv = 1) ∧
    (let s := ready |>.set (CGU_CLKOUT_DIV) 10
     let s : State := { s with cgu := { s.cgu with clkDiv := 10 } }
     s.switchBusy 5 = none ∧ 2 ≤ s.cgu.clkDiv) ∧
    (let s := ready |>.set (CGU_CLKOUT_DIV) 10
     let s : State := { s with cgu := { s.cgu with clkDiv := s.get CGU_CLKOUT_DIV } }
     let s : State := { s with cgu := { s.cgu with clkPos := 0 } }
     let s : State := { s with cgu := { s.cgu with clkDiv := 10 } }
     s.switchBusy 5 = none ∧ 2 ≤ s.cgu.clkDiv ∧ s.cgu.clkDiv = s.get CGU_CLKOUT_DIV ∧ s.cgu.clkPos = 0) := by
  decide +kernel

theorem witness_RegisterAccessesComplete_1 :
    (let s := ready
     let s : State := { s with boot := { s.boot with root := false } }
     let m : Master := .spi
     let a : Nat := CGU_XO_CTRL
     s.verdict m a = .never) ∧
    (let s := ready
     let s : State := { s with pwr := { s.pwr with gates := 2 ^ 23 - 1 } }
     let m : Master := .spi
     let a : Nat := FWD_CFG
     s.verdict m a = .gated) ∧
    (let s := ready
     let m : Master := .spi
     let a : Nat := CGU_XO_CTRL
     let r : RegRow := (regRow a).getD default
     s.verdict m a = .row r) ∧
    (let s := ready
     let m : Master := .spi
     let a : Nat := FLT_RAIL
     let v : Word := 0#32
     let r : RegRow := (regRow a).getD default
     let w : Word := (writeFields r.fields (s.rd a) v).1
     s.verdict m a = .row r ∧ blockOf a = some .flt ∧ a ≠ FLT_CTRL ∧ a ≠ FLT_SQ ∧ a ≠ FLT_TEMP_LIM ∧ writeFields r.fields (s.rd
       a) v = (w, false)) ∧
    (let s := ready
     let m : Master := .spi
     let a : Nat := GLB_LIV_REV
     let r : RegRow := (regRow a).getD default
     s.regsWf = true ∧ s.verdict m a = .row r ∧ blockOf a ≠ some .mbx ∧ a ≠ TSE_TXTS_0 ∧ multiHigh a = none ∧ multiLow a = none) ∧
    (let s := ready
     let m : Master := .spi
     let a : Nat := HOLD_LP_BIAS_LO 0
     let n : Nat := (multiLow a).getD default
     let r : RegRow := (regRow a).getD default
     s.verdict m a = .row r ∧ blockOf a ≠ some .mbx ∧ a ≠ TSE_TXTS_0 ∧ multiHigh a = none ∧ multiLow a = some n ∧ r.fields.any
       (fun f => f.access == .rc) = false) := by
  decide +kernel

theorem witness_RegisterAccessesComplete_2 :
    (let s := ready
     let m : Master := .spi
     let a : Nat := HOLD_LP_BIAS_LO 0 + 4
     let k : Nat := 1
     let low : Nat := HOLD_LP_BIAS_LO 0
     let r : RegRow := (regRow a).getD default
     s.verdict m a = .row r ∧ blockOf a ≠ some .mbx ∧ multiHigh a = some (low, k)) ∧
    (let s := ready
     let s : State := { s with pwr := { s.pwr with gates := 2 ^ 23 - 1 } }
     let m : Master := .spi
     let a : Nat := FWD_CFG
     s.verdict m a = .gated ∧ multiLow a = none) := by
  decide +kernel

theorem witness_ResetCommandsComplete :
    (let width : Nat := 2000
     2000 ≤ width) ∧
    (let width : Nat := 499
     width < 500) ∧
    (let width : Nat := 1999
     500 ≤ width ∧ width < 2000) ∧
    (let s := ready
     s.livery.intact = true) := by
  decide +kernel

theorem witness_LoaderCommandsComplete_1 :
    (let s := ready |>.set (CGU_XO_STATUS_JUDGED) 1 |>.set (GLB_STRAPS_BOOT_SRC) 0
     let s : State := { s with boot := { s.boot with root := false } }
     let s : State := { s with boot := { s.boot with root := false } }
     let s : State := { s with boot := { s.boot with held := false } }
     s.boot.root = false ∧ s.boot.held = false ∧ s.on CGU_XO_STATUS_JUDGED = true ∧ s.get GLB_STRAPS_BOOT_SRC = 0) ∧
    (let s := ready |>.set (CGU_XO_STATUS_JUDGED) 1 |>.set (GLB_STRAPS_BOOT_SRC) 1
     let s : State := { s with boot := { s.boot with root := false } }
     let s : State := { s with boot := { s.boot with root := false } }
     let s : State := { s with boot := { s.boot with held := false } }
     s.boot.root = false ∧ s.boot.held = false ∧ s.on CGU_XO_STATUS_JUDGED = true ∧ s.get GLB_STRAPS_BOOT_SRC = 1) ∧
    (let s := ready |>.set (CGU_XO_STATUS_JUDGED) 1 |>.set (GLB_STRAPS_BOOT_SRC) 3
     let s : State := { s with boot := { s.boot with root := false } }
     let s : State := { s with boot := { s.boot with root := false } }
     let s : State := { s with boot := { s.boot with held := false } }
     s.boot.root = false ∧ s.boot.held = false ∧ s.on CGU_XO_STATUS_JUDGED = true ∧ s.get GLB_STRAPS_BOOT_SRC = 3 ∧ s.on
       GLB_FUSE_SECURE = false) ∧
    (let s := ready
     let s : State := { s with boot := { s.boot with root := true } }
     s.boot.root = true) ∧
    (let s := ready |>.set GLB_BOOT_STATUS_STATE 1
     s.regsWf = true ∧ s.bootState = 1) ∧
    (let m : Master := .spi
     let r : RegRow := (regRow GLB_BOOT_DATA).getD default
     let s := ready |>.set GLB_BOOT_STATUS_STATE 2
     let s : State := { s with boot := { s.boot with loading := some m } }
     let s : State := { s with boot := { s.boot with qspi := false } }
     s.regsWf = true ∧ s.verdict m GLB_BOOT_DATA = .row r ∧ s.boot.loading = some m ∧ s.bootState = 2 ∧ s.boot.qspi = false ∧
       s.streamFull = false ∧ s.boot.fifo.length < 256) := by
  decide +kernel

theorem witness_LoaderCommandsComplete_2 :
    (let s := ready
     let m : Master := .spi
     let r : RegRow := (regRow GLB_BOOT_DATA).getD default
     s.verdict m GLB_BOOT_DATA = .row r ∧ s.boot.loading ≠ some m) ∧
    (let s := ready |>.set GLB_BOOT_STATUS_STATE 2
     let s : State := { s with boot := { s.boot with header := false } }
     let s : State := { s with boot := { s.boot with qspi := true } }
     let bytes : List Octet := header 64 0 []
     s.bootState = 2 ∧ s.boot.header = false ∧ s.boot.qspi = true ∧ bytes.length = 64 ∧ State.headerCode { s with boot := {
       s.boot with image := bytes } } = 0) ∧
    (let s := ready |>.set GLB_BOOT_STATUS_STATE 2
     let s : State := { s with boot := { s.boot with header := false } }
     let s : State := { s with boot := { s.boot with qspi := true } }
     let bytes : List Octet := List.replicate 64 0#8
     let c : Nat := 1
     s.bootState = 2 ∧ s.boot.header = false ∧ s.boot.qspi = true ∧ bytes.length = 64 ∧ State.headerCode { s with boot := {
       s.boot with image := bytes } } = c ∧ c ≠ 0) ∧
    (let s := ready |>.set GLB_BOOT_STATUS_STATE 2
     let s : State := { s with boot := { s.boot with header := true } }
     let s : State := { s with boot := { s.boot with qspi := true } }
     let s : State := { s with boot := { s.boot with image := header 64 0 [] } }
     let bytes : List Octet := []
     s.regsWf = true ∧ s.bootState = 2 ∧ s.boot.header = true ∧ s.boot.qspi = true ∧ 64 ≤ s.boot.image.length ∧ State.expected {
       s with boot := { s.boot with image := s.boot.image ++ bytes } } ≤ (s.boot.image ++ bytes).length) ∧
    (let m : Master := .spi
     let v : Word := (1#32 : Word)
     let r : RegRow := (regRow GLB_BOOT_CTRL).getD default
     let s := ready |>.set GLB_BOOT_STATUS_STATE 6 |>.set (GLB_STRAPS_BOOT_SRC) 1
     let s : State := { s with boot := { s.boot with loading := some m } }
     s.regsWf = true ∧ s.verdict m GLB_BOOT_CTRL = .row r ∧ s.boot.loading = some m ∧ v.getLsbD 0 = true ∧ s.bootState = 6 ∧
       s.get GLB_STRAPS_BOOT_SRC ≠ 0) ∧
    (let m : Master := .spi
     let v : Word := (1#32 : Word)
     let r : RegRow := (regRow GLB_BOOT_CTRL).getD default
     let s := ready |>.set GLB_BOOT_STATUS_STATE 6 |>.set (GLB_STRAPS_BOOT_SRC) 0
     let s : State := { s with boot := { s.boot with loading := some m } }
     s.regsWf = true ∧ s.verdict m GLB_BOOT_CTRL = .row r ∧ s.boot.loading = some m ∧ v.getLsbD 0 = true ∧ s.bootState = 6 ∧
       s.get GLB_STRAPS_BOOT_SRC = 0) := by
  decide +kernel

theorem witness_LoaderCommandsComplete_3 :
    (let s := ready |>.set GLB_BOOT_STATUS_STATE 3
     s.regsWf = true ∧ s.bootState = 3 ∧ s.imageCode = 0) ∧
    (let s := ready |>.set GLB_BOOT_STATUS_STATE 3
     let s : State := { s with boot := { s.boot with image := header 64 1 [1#8] } }
     let c : Nat := 7
     s.bootState = 3 ∧ s.imageCode = c ∧ c ≠ 0) ∧
    (let s := ready |>.set GLB_BOOT_STATUS_STATE 4
     let s : State := { s with boot := { s.boot with pos := 64, segs := 0, image := (let body := octetsLE 4 0x80 ++ octetsLE 4 8 ++ List.replicate 8 0#8; header (72 + 8) 1 body ++ body) } }
     let type : Nat := 0x80
     let len : Nat := 8
     s.bootState = 4 ∧ s.boot.segs < s.segCount ∧ s.boot.pos + 8 + len ≤ s.imgLen ∧ len % 4 = 0 ∧ fromLE (slice s.boot.image
       s.boot.pos 4) = type ∧ fromLE (slice s.boot.image (s.boot.pos + 4) 4) = len ∧ 0x80 ≤ type ∧ type < 256) ∧
    (let s := ready |>.set GLB_BOOT_STATUS_STATE 4
     let s : State := { s with boot := { s.boot with pos := 64, segs := 0, image := (let body := octetsLE 4 4 ++ octetsLE 4 8 ++ List.replicate 8 0#8; header (72 + 8) 1 body ++ body) } }
     let len : Nat := 8
     s.bootState = 4 ∧ s.boot.segs < s.segCount ∧ s.boot.pos + 8 + len ≤ s.imgLen ∧ len % 4 = 0 ∧ len ≠ 0 ∧ fromLE (slice
       s.boot.image s.boot.pos 4) = 4 ∧ fromLE (slice s.boot.image (s.boot.pos + 4) 4) = len) ∧
    (let s := ready |>.set GLB_BOOT_STATUS_STATE 4
     let s : State := { s with boot := { s.boot with pos := 64, segs := 0, image := (let body := octetsLE 4 7 ++ octetsLE 4 8 ++ List.replicate 8 0#8; header (72 + 8) 1 body ++ body) } }
     let len : Nat := 8
     s.bootState = 4 ∧ s.boot.segs < s.segCount ∧ s.boot.pos + 8 + len ≤ s.imgLen ∧ len % 4 = 0 ∧ fromLE (slice s.boot.image
       s.boot.pos 4) = 7 ∧ fromLE (slice s.boot.image (s.boot.pos + 4) 4) = len) ∧
    (let s := ready |>.set GLB_BOOT_STATUS_STATE 4
     let s : State := { s with boot := { s.boot with waiting := true } }
     s.bootState = 4 ∧ s.boot.waiting = true) := by
  decide +kernel

theorem witness_LoaderCommandsComplete_4 :
    (let s := ready
     let s : State := { s with boot := { s.boot with waiting := false } }
     s.boot.waiting = false) ∧
    (let s := ready |>.set GLB_BOOT_STATUS_STATE 4
     let s : State := { s with boot := { s.boot with waiting := false } }
     let s : State := { s with boot := { s.boot with pos := s.imgLen } }
     let s : State := { s with boot := { s.boot with segs := s.segCount } }
     s.bootState = 4 ∧ s.boot.waiting = false ∧ s.boot.pos = s.imgLen ∧ s.boot.segs = s.segCount) ∧
    (let s := ready |>.set GLB_BOOT_STATUS_STATE 4
     let s : State := { s with boot := { s.boot with waiting := false } }
     let s : State := { s with boot := { s.boot with pos := s.imgLen } }
     let s : State := { s with boot := { s.boot with pos := 64, segs := 0, waiting := false, image := header 64 1 [] } }
     s.bootState = 4 ∧ s.boot.waiting = false ∧ s.boot.pos = s.imgLen ∧ s.boot.segs ≠ s.segCount) := by
  decide +kernel

theorem witness_ReferenceCommandsComplete_1 :
    (let s := ready
     let m : Master := .spi
     let n : Nat := 63
     let v : Word := (1#32 : Word)
     let r : RegRow := (regRow (REFM_CFG n)).getD default
     let w : Word := (let x := if 16 ≤ n then keepFields s (refGuarded n) v else v; (writeFields r.fields (s.rd (REFM_CFG n))
       (keepField s (REFM_CFG_ENABLE n) x)).1)
     n < 64 ∧ s.verdict m (REFM_CFG n) = .row r ∧ s.refUnavailable n = false ∧ s.on (REFM_CFG_ENABLE n) = false ∧ v.getLsbD 0 =
       true ∧ (
     let x := if 16 ≤ n then keepFields s (refGuarded n) v else v
     writeFields r.fields (s.rd (REFM_CFG n)) (keepField s (REFM_CFG_ENABLE n) x) = (w, false) ∧ State.refCfgOk ((s.answer m
       .ok).wr (REFM_CFG n) w) n = true)) ∧
    (let s := ready |>.set (PRT_CFG_RATE 44) 3 |>.set (PRT_CFG_RATE 44) 4 |>.set (PRT_STATUS_STATE 44) 2
     let m : Master := .spi
     let n : Nat := 63
     let v : Word := (1#32 : Word)
     let r : RegRow := (regRow (REFM_CFG n)).getD default
     n < 64 ∧ s.verdict m (REFM_CFG n) = .row r ∧ s.refUnavailable n = true ∧ v.getLsbD 0 = true) ∧
    (let m : Master := .spi
     let n : Nat := 63
     let v : Word := 0#32
     let r : RegRow := (regRow (REFM_CFG n)).getD default
     let s := ready |>.set (REFM_CFG_ENABLE n) 1
     let w : Word := (let x := if 16 ≤ n then keepFields s (refGuarded n) v else v; (writeFields r.fields (s.rd (REFM_CFG n))
       (keepField s (REFM_CFG_ENABLE n) x)).1)
     n < 64 ∧ s.verdict m (REFM_CFG n) = .row r ∧ s.on (REFM_CFG_ENABLE n) = true ∧ v.getLsbD 0 = false ∧ (
     let x := if 16 ≤ n then keepFields s (refGuarded n) v else v
     writeFields r.fields (s.rd (REFM_CFG n)) (keepField s (REFM_CFG_ENABLE n) x) = (w, false))) ∧
    (let m : Master := .spi
     let n : Nat := 63
     let v : Word := (1#32 : Word)
     let r : RegRow := (regRow (REFM_CFG n)).getD default
     let s := ready |>.set (REFM_CFG_ENABLE n) 1
     let w : Word := (let x := if 16 ≤ n then keepFields s (refGuarded n) v else v; (writeFields r.fields (s.rd (REFM_CFG n))
       (keepField s (REFM_CFG_ENABLE n) x)).1)
     n < 64 ∧ s.verdict m (REFM_CFG n) = .row r ∧ s.refUnavailable n = false ∧ s.on (REFM_CFG_ENABLE n) = true ∧ v.getLsbD 0 =
       true ∧ (
     let x := if 16 ≤ n then keepFields s (refGuarded n) v else v
     (refGuarded n).any (fun f => changes s f x) = false ∧ writeFields r.fields (s.rd (REFM_CFG n)) (keepField s
       (REFM_CFG_ENABLE n) x) = (w, false))) ∧
    (let s := ready
     let n : Nat := 63
     n < 64 ∧ s.asleep = true ∨ s.signal n = false) ∧
    (let s := ready |>.set (GAU_CFG_SRC (homeGauge 5)) 0xFF |>.set (GAU_CFG_ENABLE (homeGauge 5)) 1
     let n : Nat := 5
     let e : Edge := { (default : Edge) with m := 1000, r := 5, c1 := 1, c2 := 9, falling := true }
     n < 64 ∧ s.asleep = false ∧ s.signal n = true ∧ e.falling ≠ (s.tapSignal n e).on (REFM_CFG_EDGE n) ∨ (s.tapSignal n
       e).homeReady n = false) := by
  decide +kernel

theorem witness_ReferenceCommandsComplete_2 :
    (let s := ready |>.set (GAU_CFG_SRC (homeGauge 5)) 0xFF |>.set (GAU_CFG_ENABLE (homeGauge 5)) 1
     let n : Nat := 5
     let e : Edge := { (default : Edge) with m := 1000, r := 5, c1 := 1, c2 := 9 }
     n < 64 ∧ s.asleep = false ∧ s.signal n = true ∧ e.falling = (s.tapSignal n e).on (REFM_CFG_EDGE n) ∧ (
     let u := s.tapSignal n e
     u.homeReady n = true ∧ u.get (REFM_STATE_STATE n) = 0)) ∧
    (let s := ready |>.set (GAU_CFG_SRC (homeGauge 5)) 0xFF |>.set (GAU_CFG_ENABLE (homeGauge 5)) 1 |>.set (REFM_STATE_STATE 5)
       2
     let n : Nat := 5
     let e : Edge := { (default : Edge) with m := 1000, r := 5, c1 := 1, c2 := 9 }
     n < 64 ∧ s.asleep = false ∧ s.signal n = true ∧ e.falling = (s.tapSignal n e).on (REFM_CFG_EDGE n) ∧ (
     let u := s.tapSignal n e
     u.homeReady n = true ∧ u.get (REFM_STATE_STATE n) ≠ 0)) ∧
    (let s := ready
     let n : Nat := 63
     let fast : Bool := false
     n < 64 ∧ s.asleep = false ∧ (fast = true → s.on (REFM_CFG_FAST n) = true)) ∧
    (let s := ready
     s.asleep = false) ∧
    (let s := ready
     s.asleep = false) ∧
    (let s := ready
     let s : State := { s with pwr := { s.pwr with state := .vigil } }
     s.asleep = true) := by
  decide +kernel

theorem witness_ReferenceCommandsComplete_3 :
    (let n : Nat := 63
     let s := ready |>.set (REFM_STATE_STATE n) 2 |>.set (REFM_CFG_OVERRIDE n) 0 |>.set (REFM_STATE_SHORT_VALID n) 1
     let s : State := s.setRef n { s.ref n with waited := s.waitTicks 63 + 1 }
     n < 64 ∧ s.asleep = false ∧ s.get (REFM_STATE_STATE n) = 2 ∧ s.get (REFM_CFG_OVERRIDE n) = 0 ∧ s.on (REFM_STATE_SHORT_VALID
       n) = true ∧ s.on GLB_STATUS_XO_INT = false ∧ s.waitTicks n < (s.ref n).waited) := by
  decide +kernel

theorem witness_TimeOfDayCommandsComplete_1 :
    (let p : Nat := 0
     let s := ready |>.set (REFM_TOD_STATUS_LOCK) 1 |>.set (REFM_TOD_CFG_ALIGN) 1
     let s : State := { s with tod := { s.tod with prev := some p } }
     let s : State := { s with tod := { s.tod with miss := 0 } }
     s.regsWf = true ∧ s.on REFM_TOD_STATUS_LOCK = true ∧ s.on REFM_TOD_CFG_ALIGN = true ∧ s.tod.prev = some p ∧ s.on
       (TIM_CFG_TOD_EN 0) = false ∧ s.on (TIM_CFG_TOD_EN 1) = false ∧ s.tod.miss = 0) ∧
    (let p : Nat := 0
     let s := ready |>.set (REFM_TOD_STATUS_LOCK) 1 |>.set (REFM_TOD_CFG_ALIGN) 1
     let s : State := { s with tod := { s.tod with prev := some p } }
     let s : State := { s with tod := { s.tod with miss := 1 } }
     s.regsWf = true ∧ s.on REFM_TOD_STATUS_LOCK = true ∧ s.on REFM_TOD_CFG_ALIGN = true ∧ s.tod.prev = some p ∧ s.on
       (TIM_CFG_TOD_EN 0) = false ∧ s.on (TIM_CFG_TOD_EN 1) = false ∧ 1 ≤ s.tod.miss) ∧
    (let s := ready |>.set (REFM_TOD_CFG_RX_EN) 1
     let bytes : List Octet := text "$GPRMC,1"
     s.on REFM_TOD_CFG_RX_EN = true ∧ s.pwr.state ≠ .vigil ∧ s.pwr.state ≠ .dormant ∧ readSentence bytes = .bad ∧ s.regsWf =
       true) ∧
    (let bytes : List Octet := []
     readSentence bytes = .other) ∧
    (let s := ready |>.set (REFM_TOD_CFG_RX_EN) 1 |>.set (REFM_TOD_CFG_ALIGN) 1
     let bytes : List Octet := text "$QZTL,1,A,2*7D"
     let x : Nat := 1
     let o : Nat := 2
     s.regsWf = true ∧ s.on REFM_TOD_CFG_RX_EN = true ∧ s.pwr.state ≠ .vigil ∧ s.pwr.state ≠ .dormant ∧ readSentence bytes =
       .qztl x o ∧ s.on REFM_TOD_CFG_ALIGN = true) ∧
    (let s := ready |>.set (REFM_TOD_CFG_RX_EN) 1 |>.set (REFM_TOD_CFG_ALIGN) 1
     let bytes : List Octet := text "$GPZDA,000001,01,01,2026*4F"
     let k : Nat := match readSentence bytes with | .utc k _ _ => k | _ => 0
     let day : Nat := match readSentence bytes with | .utc _ d _ => d | _ => 0
     let sec : Nat := 1
     s.regsWf = true ∧ s.on REFM_TOD_CFG_RX_EN = true ∧ s.pwr.state ≠ .vigil ∧ s.pwr.state ≠ .dormant ∧ readSentence bytes =
       .utc k day sec ∧ sec ≠ 0 ∧ s.on REFM_TOD_CFG_ALIGN = true) := by
  decide +kernel

theorem witness_TimeOfDayCommandsComplete_2 :
    (let s := ready |>.set (REFM_TOD_CFG_TX_EN) 1
     s.on REFM_TOD_CFG_TX_EN = true ∧ s.pwr.state ≠ .vigil ∧ s.pwr.state ≠ .dormant) ∧
    (let s := ready
     s.on REFM_TOD_CFG_TX_EN = false) := by
  decide +kernel

theorem witness_SelectorCommandsComplete_1 :
    (let l : Nat := 3
     let b : Nat := 7
     let s := ready
     let s : State := s.setSel l { s.sel l with target := some b }
     let s : State := s.setSel l { s.sel l with aLost := false }
     let s : State := s.setSel 3 { s.sel 3 with bEdges := List.replicate 70 (1000, 0), target := some 7 }
     let s : State := s.setSel 3 { s.sel 3 with aEdges := List.replicate 70 (1000, 0) }
     let s : State := s.setSel 3 { s.sel 3 with bEdges := List.replicate 70 (1000, 0), aEdges := [(2000, 0), (1000, 0), (500, 0)] }
     let x : Rat := (s.measured l b).getD 0
     l < 4 ∧ s.asleep = false ∧ (s.sel l).target = some b ∧ s.measured l b = some x ∧ (s.holdLoop l).expired ≠ some s.cyc ∧
       (s.sel l).aLost = false) ∧
    (let l : Nat := 3
     let b : Nat := 7
     let s := ready
     let s : State := s.setSel l { s.sel l with target := some b }
     let s : State := s.setSel l { s.sel l with aLost := true }
     let s : State := s.setSel 3 { s.sel 3 with bEdges := List.replicate 70 (1000, 0), target := some 7 }
     let x : Rat := (s.measured l b).getD 0
     l < 4 ∧ s.asleep = false ∧ (s.sel l).target = some b ∧ s.measured l b = some x ∧ (s.holdLoop l).expired ≠ some s.cyc ∧
       (s.sel l).aLost = true) ∧
    (let l : Nat := 3
     let b : Nat := 0
     let s := ready
     let s : State := s.setSel l { s.sel l with target := some b }
     let s : State := s.setHoldLoop l { s.holdLoop l with expired := some s.cyc }
     l < 4 ∧ s.asleep = false ∧ (s.sel l).target = some b ∧ (s.holdLoop l).expired = some s.cyc) ∧
    (let l : Nat := 0
     let s := ready
     let s : State := s.setSel l { s.sel l with target := none }
     (s.sel l).target = none) ∧
    (let l : Nat := 3
     let b : Nat := 0
     let s := ready |>.set (SEL_CTRL_MODE l) 2
     let s : State := s.setSel l { s.sel l with target := some b }
     l < 4 ∧ s.asleep = false ∧ (s.sel l).target = some b ∧ s.get (SEL_CTRL_MODE l) = 2) ∧
    (let s := ready
     let m : Master := .spi
     let l : Nat := 3
     let v : Word := 0#32
     let r : RegRow := (regRow (SEL_ALIGN_HI l)).getD default
     let w : Word := (writeFields r.fields (s.rd (SEL_ALIGN_HI l)) v).1
     l < 4 ∧ s.verdict m (SEL_ALIGN_HI l) = .row r ∧ writeFields r.fields (s.rd (SEL_ALIGN_HI l)) v = (w, false)) := by
  decide +kernel

theorem witness_SelectorCommandsComplete_2 :
    (let l : Nat := 3
     let s := ready |>.set (SEL_CTRL_CHG l) 1 |>.set (SEL_BLEED_RATE l) 1
     l < 4 ∧ s.asleep = false ∧ s.get (SEL_CTRL_CHG l) = 1 ∧ s.get (SEL_BLEED_RATE l) ≠ 0) ∧
    (let s := ready
     let l : Nat := 0
     s.asleep = true ∨ s.get (SEL_CTRL_CHG l) ≠ 1) := by
  decide +kernel

theorem witness_WinnerIsBest :
    (let l : Nat := 0
     let n : Nat := 5
     let s := ready |>.set (SEL_CTRL_MODE l) 0 |>.set (SEL_CTRL_REVERT l) 1 |>.set (REFM_STATE_STATE 5) 3
     let s : State := s.wr (SEL_RANK 0 0) 0x100000
     let basis : Nat := ((s.choice l).map (·.2)).getD 0
     s.get (SEL_CTRL_MODE l) = 0 ∧ s.on (SEL_CTRL_REVERT l) = true ∧ s.choice l = some (n, basis)) := by
  decide +kernel

theorem witness_LoopCommandsComplete_1 :
    (let l : Nat := 3
     let s := ready |>.set (DPL_STATUS_STATE l) 0
     l < 4 ∧ s.loopState l = 0) ∧
    (let l : Nat := 3
     let s := ready |>.set (DPL_STATUS_STEPPING l) 1 |>.set (DPL_STATUS_STATE 3) 2
     l < 4 ∧ s.loopState l ≠ 0 ∧ s.asleep = false ∧ s.on (DPL_STATUS_STEPPING l) = true) ∧
    (let l : Nat := 3
     let s := ready |>.set (DPL_STATUS_STATE 3) 2
     let s : State := s.setLoop l { s.loop l with samples := [] }
     l < 4 ∧ s.loopState l ≠ 0 ∧ s.asleep = false ∧ s.on (DPL_STATUS_STEPPING l) = false ∧ (s.loop l).samples = []) ∧
    (let l : Nat := 3
     let x : Rat := 1
     let xs : List Rat := []
     let s := ready |>.set (DPL_STATUS_STATE 3) 2
     let s : State := s.setLoop l { s.loop l with samples := x :: xs }
     let s : State := s.setLoop l { s.loop l with fresh := false }
     l < 4 ∧ (s.loopState l = 1 ∨ s.loopState l = 2) ∧ s.asleep = false ∧ s.on (DPL_STATUS_STEPPING l) = false ∧ (s.loop
       l).samples = x :: xs ∧ (s.gainEval l).inputHeld l = false ∧ (s.loop l).fresh = false) ∧
    (let l : Nat := 3
     let x : Rat := 1
     let xs : List Rat := []
     let s := ready |>.set (DPL_STATUS_STATE 3) 4
     let s : State := s.setLoop l { s.loop l with samples := x :: xs }
     l < 4 ∧ (s.loopState l = 3 ∨ s.loopState l = 4) ∧ s.asleep = false ∧ s.on (DPL_STATUS_STEPPING l) = false ∧ (s.loop
       l).samples = x :: xs ∧ (s.gainEval l).inputHeld l = false) ∧
    (let l : Nat := 3
     let s := ready
     let s : State := s.setLoop l { s.loop l with stepping := 0 }
     l < 4 ∧ (s.loop l).stepping = 0) := by
  decide +kernel

theorem witness_LoopCommandsComplete_2 :
    (let s := ready
     let s : State := s.setLoop 3 { s.loop 3 with stepping := 1 }
     let l : Nat := 3
     l < 4 ∧ (s.loop l).stepping ≠ 0) ∧
    (let l : Nat := 3
     let s := ready |>.set (DPL_STATUS_STATE 3) 2
     let s : State := s.setLoop l { s.loop l with samples := [] }
     l < 4 ∧ s.asleep = false ∧ s.inputHeld l = false ∧ (s.loop l).samples = [] ∧ (s.loopState l = 1 ∨ s.loopState l = 2)) ∧
    (let l : Nat := 3
     let s := ready
     let s : State := s.setLoop l { s.loop l with samples := [] }
     l < 4 ∧ s.asleep = false ∧ s.inputHeld l = false ∧ (s.loop l).samples = [] ∧ s.loopState l ≠ 1 ∧ s.loopState l ≠ 2) ∧
    (let s := ready
     let m : Master := .spi
     let l : Nat := 3
     let v : Word := (1#32 : Word)
     let r : RegRow := (regRow (DPL_CFG l)).getD default
     let w : Word := (writeFields r.fields (s.rd (DPL_CFG l)) (keepField s (DPL_CFG_ENABLE l) (putBits v 16 3 (axleBits l
       (fieldOf (DPL_CFG_AXLE l) v))))).1
     l < 4 ∧ s.verdict m (DPL_CFG l) = .row r ∧ s.on (DPL_CFG_ENABLE l) = false ∧ v.getLsbD 0 = true ∧ writeFields r.fields
       (s.rd (DPL_CFG l)) (keepField s (DPL_CFG_ENABLE l) (putBits v 16 3 (axleBits l (fieldOf (DPL_CFG_AXLE l) v)))) = (w, false)
       ∧ (
     let x := putBits v 16 3 (axleBits l (fieldOf (DPL_CFG_AXLE l) v))
     let moved := changes s (DPL_CFG_SRC l) x || changes s (DPL_CFG_SRC_ID l) x
     let u := (if moved = true then (s.answer m .ok).setLoop l { s.loop l with heard := none } else s.answer m .ok).wr (DPL_CFG l) w
     fieldOf (DPL_CFG_SRC l) x ≤ 4 ∧ srcOk (u.get (DPL_CFG_SRC l)) (u.get (DPL_CFG_SRC_ID l)) = true ∧ u.axleTaken l (u.get
       (DPL_CFG_AXLE l)) = false)) ∧
    (let m : Master := .spi
     let l : Nat := 3
     let v : Word := 0#32
     let r : RegRow := (regRow (DPL_CFG l)).getD default
     let s := ready |>.set (DPL_CFG_ENABLE l) 1 |>.set (GLB_STATUS_LEAD) 3
     l < 4 ∧ s.verdict m (DPL_CFG l) = .row r ∧ s.on (DPL_CFG_ENABLE l) = true ∧ v.getLsbD 0 = false ∧ s.get GLB_STATUS_LEAD = l) ∧
    (let m : Master := .spi
     let v : Word := 0#32
     let r : RegRow := (regRow DPL_LEAD).getD default
     let s := ready |>.set (DPL_CFG_ENABLE (fieldOf DPL_LEAD_LEAD v)) 1
     let w : Word := (writeFields r.fields (s.rd DPL_LEAD) v).1
     s.verdict m DPL_LEAD = .row r ∧ s.on (DPL_CFG_ENABLE (fieldOf DPL_LEAD_LEAD v)) = true ∧ writeFields r.fields (s.rd
       DPL_LEAD) v = (w, false)) := by
  decide +kernel

theorem witness_LoopCommandsComplete_3 :
    (let s := ready
     let m : Master := .spi
     let v : Word := 3#32
     let r : RegRow := (regRow DPL_LEAD).getD default
     s.verdict m DPL_LEAD = .row r ∧ s.on (DPL_CFG_ENABLE (fieldOf DPL_LEAD_LEAD v)) = false) := by
  decide +kernel

theorem witness_ForceAndRampCommandsComplete_1 :
    (let s := ready |>.set (DPL_STATUS_STATE 3) 2
     let m : Master := .spi
     let l : Nat := 3
     let v : Word := withField 0#32 (DPL_CTRL_FORCE 3) 2
     let r : RegRow := (regRow (DPL_CTRL l)).getD default
     let w : Word := (writeFields r.fields (s.rd (DPL_CTRL l)) v).1
     l < 4 ∧ s.verdict m (DPL_CTRL l) = .row r ∧ writeFields r.fields (s.rd (DPL_CTRL l)) v = (w, false) ∧ s.asleep = false ∧ (
     let u := (s.answer m .ok).wr (DPL_CTRL l) w
     fieldOf (DPL_CTRL_FORCE l) v = 2 ∧ u.loopState l ≠ 0)) ∧
    (let s := ready |>.set (DPL_CFG_SRC 3) 1 |>.set (DPL_STATUS_STATE 3) 2
     let m : Master := .spi
     let l : Nat := 3
     let v : Word := withField 0#32 (DPL_CTRL_FORCE 3) 1
     let r : RegRow := (regRow (DPL_CTRL l)).getD default
     let w : Word := (writeFields r.fields (s.rd (DPL_CTRL l)) v).1
     l < 4 ∧ s.verdict m (DPL_CTRL l) = .row r ∧ writeFields r.fields (s.rd (DPL_CTRL l)) v = (w, false) ∧ s.asleep = false ∧ (
     let u := (s.answer m .ok).wr (DPL_CTRL l) w
     fieldOf (DPL_CTRL_FORCE l) v = 1 ∧ u.loopState l ≠ 0)) ∧
    (let s := ready |>.set (DPL_CFG_SRC 3) 1
     let m : Master := .spi
     let l : Nat := 3
     let v : Word := 0#32
     let r : RegRow := (regRow (DPL_CTRL l)).getD default
     let w : Word := (writeFields r.fields (s.rd (DPL_CTRL l)) v).1
     l < 4 ∧ s.verdict m (DPL_CTRL l) = .row r ∧ writeFields r.fields (s.rd (DPL_CTRL l)) v = (w, false) ∧ s.asleep = false ∧ (
     let u := (s.answer m .ok).wr (DPL_CTRL l) w
     fieldOf (DPL_CTRL_FORCE l) v = 0 ∧ u.loopSrc l ≠ 0)) ∧
    (let m : Master := .spi
     let l : Nat := 3
     let v : Word := 1#32
     let r : RegRow := (regRow (DPL_RAMP_CTRL l)).getD default
     let s := ready
     let s : State := s.setLoop l { s.loop l with ramp := { (s.loop l).ramp with busy := false } }
     let s : State := s.wr (DPL_RAMP_VAL_LO l) 65536
     let s : State := s.wr (DPL_RAMP_RATE l) 5
     let w : Word := (writeFields r.fields (s.rd (DPL_RAMP_CTRL l)) v).1
     l < 4 ∧ s.verdict m (DPL_RAMP_CTRL l) = .row r ∧ writeFields r.fields (s.rd (DPL_RAMP_CTRL l)) v = (w, false) ∧ v.getLsbD 0
       = true ∧ v.getLsbD 1 = false ∧ (
     let u := (((s.answer m .ok).wr (DPL_RAMP_CTRL l) w).set (DPL_RAMP_CTRL_START l) 0).set (DPL_RAMP_CTRL_ABORT l) 0
     (s.loop l).ramp.busy = false ∧ u.on (DPL_RAMP_CTRL_KIND l) = false ∧ u.rd (DPL_RAMP_RATE l) ≠ 0 ∧ u.getWideI
       (DPL_RAMP_VAL_LO l) (DPL_RAMP_VAL_HI l) 16 ≠ 0)) ∧
    (let s := ready
     let m : Master := .spi
     let l : Nat := 3
     let v : Word := (2#32 : Word)
     let r : RegRow := (regRow (DPL_RAMP_CTRL l)).getD default
     let w : Word := (writeFields r.fields (s.rd (DPL_RAMP_CTRL l)) v).1
     l < 4 ∧ s.verdict m (DPL_RAMP_CTRL l) = .row r ∧ writeFields r.fields (s.rd (DPL_RAMP_CTRL l)) v = (w, false) ∧ v.getLsbD 0
       = false ∧ v.getLsbD 1 = true) ∧
    (let l : Nat := 3
     let s := ready
     let s : State := s.setLoop l { s.loop l with ramp := { (s.loop l).ramp with busy := true } }
     let s : State := s.setLoop l { s.loop l with ramp := { (s.loop l).ramp with freq := false } }
     l < 4 ∧ (s.loop l).ramp.busy = true ∧ (s.loop l).ramp.freq = false) := by
  decide +kernel

theorem witness_ForceAndRampCommandsComplete_2 :
    (let l : Nat := 3
     let s := ready
     let s : State := s.setLoop l { s.loop l with ramp := { (s.loop l).ramp with busy := true } }
     let s : State := s.setLoop l { s.loop l with ramp := { (s.loop l).ramp with freq := true } }
     l < 4 ∧ (s.loop l).ramp.busy = true ∧ (s.loop l).ramp.freq = true) ∧
    (let l : Nat := 0
     let s := ready
     let s : State := s.setLoop l { s.loop l with ramp := { (s.loop l).ramp with busy := false } }
     (s.loop l).ramp.busy = false) := by
  decide +kernel

theorem witness_LearningCommandsComplete_1 :
    (let s := ready
     s.asleep = false) ∧
    (let s := ready
     let s : State := { s with pwr := { s.pwr with state := .vigil } }
     s.asleep = true) ∧
    (let s := ready |>.set (HOLD_CFG_TS_EN) 1
     s.on HOLD_CFG_TS_EN = true ∧ s.asleep = false ∧ ([0, 1, 2, 3].any fun k => (s.bus k).reads) = false) ∧
    (let s := ready
     s.on HOLD_CFG_TS_EN = false ∨ s.asleep = true ∨ ([0, 1, 2, 3].any fun k => (s.bus k).reads) = true) ∧
    (let b : Nat := 3
     let j : I2cJob := { (default : I2cJob) with who := .sensor false }
     let s := ready |>.set (HOLD_CFG_TS_EN) 1
     let s : State := s.setBus b { s.bus b with now := some j }
     let s : State := s.setBus 3 { s.bus 3 with now := some { (default : I2cJob) with who := .sensor false } }
     b < 4 ∧ (s.bus b).now = some j ∧ j.who = .sensor false ∧ s.on HOLD_CFG_TS_EN = true ∧ s.asleep = false) ∧
    (let s := ready |>.set (HOLD_CFG_TS_EN) 1
     let s : State := s.setBus 3 { s.bus 3 with sensor := true }
     s.regsWf = true ∧ s.on HOLD_CFG_TS_EN = true ∧ s.asleep = false ∧ ([0, 1, 2, 3].any fun k => (s.bus k).reads) = true) := by
  decide +kernel

theorem witness_LearningCommandsComplete_2 :
    (let s := ready
     ([0, 1, 2, 3].any fun k => (s.bus k).reads) = false) := by
  decide +kernel

theorem witness_HoldoverCommandsComplete_1 :
    (let s := ready
     let s : State := { s with hold := { s.hold with clearing := false } }
     let s : State := { s with nvs := { s.nvs with buffer := [] } }
     let m : Master := .spi
     let v : Word := withField (withField ((0#32 : Word)) (HOLD_CTRL_CLEAR) 1) (HOLD_CTRL_COMMIT_NOW) 0
     let r : RegRow := (regRow HOLD_CTRL).getD default
     s.verdict m HOLD_CTRL = .row r ∧ fieldOf HOLD_CTRL_CLEAR v = 1 ∧ fieldOf HOLD_CTRL_COMMIT_NOW v = 0 ∧ s.hold.clearing =
       false ∧ State.clearTest (s.answer m .ok) = 0) ∧
    (let s := ready
     let s : State := { s with hold := { s.hold with clearing := true } }
     let m : Master := .spi
     let v : Word := withField (withField ((0#32 : Word)) (HOLD_CTRL_CLEAR) 1) (HOLD_CTRL_COMMIT_NOW) 0
     let r : RegRow := (regRow HOLD_CTRL).getD default
     s.verdict m HOLD_CTRL = .row r ∧ fieldOf HOLD_CTRL_CLEAR v = 1 ∧ fieldOf HOLD_CTRL_COMMIT_NOW v = 0 ∧ s.hold.clearing =
       true) ∧
    (let s := ready
     s.asleep = false) ∧
    (let s := ready
     let s : State := { s with pwr := { s.pwr with state := .vigil } }
     s.asleep = true) ∧
    (let l : Nat := 3
     let s := ready |>.set (DPL_STATUS_STATE l) 3 |>.set (HOLD_EXPIRY_HOLD_LIMIT) 1
     let s : State := s.setHoldLoop l { s.holdLoop l with tau := 60 }
     l < 4 ∧ s.loopState l = 3 ∧ s.asleep = false ∧ 60 * s.get HOLD_EXPIRY_HOLD_LIMIT ≤ (s.holdLoop l).tau ∨ s.get
       (HOLD_LP_STATUS_CONF l) ≤ s.get HOLD_EXPIRY_CONF_MIN ∨ s.offered l = false) ∧
    (let s := ready
     let l : Nat := 0
     s.loopState l ≠ 3) := by
  decide +kernel

theorem witness_HoldoverCommandsComplete_2 :
    (let s := ready
     s.asleep = false ∧ s.get HOLD_STATUS_STAGE = 0 ∨ s.hold.clearing = true) ∧
    (let s := ready |>.set (HOLD_STATUS_STAGE) 1
     let s : State := { s with hold := { s.hold with clearing := false } }
     let k : Nat := (nextRecord modelMagic (s.nvOctets 0x10000 256) (s.nvOctets 0x10100 256)).1
     let seq : Nat := (nextRecord modelMagic (s.nvOctets 0x10000 256) (s.nvOctets 0x10100 256)).2
     s.asleep = false ∧ s.get HOLD_STATUS_STAGE ≠ 0 ∧ s.hold.clearing = false ∧ nextRecord modelMagic (s.nvOctets 0x10000 256)
       (s.nvOctets 0x10100 256) = (k, seq) ∧ (s.recordWrite (0x10000 + 256 * k) (s.modelRecord seq) (1, 0)).2 = true) ∧
    (let s := ready |>.set (HOLD_STATUS_STAGE) 1 |>.set (NVS_PROTECT_LEVEL) 3
     let s : State := { s with hold := { s.hold with clearing := false } }
     let k : Nat := (nextRecord modelMagic (s.nvOctets 0x10000 256) (s.nvOctets 0x10100 256)).1
     let seq : Nat := (nextRecord modelMagic (s.nvOctets 0x10000 256) (s.nvOctets 0x10100 256)).2
     s.asleep = false ∧ s.get HOLD_STATUS_STAGE ≠ 0 ∧ s.hold.clearing = false ∧ nextRecord modelMagic (s.nvOctets 0x10000 256)
       (s.nvOctets 0x10100 256) = (k, seq) ∧ (s.recordWrite (0x10000 + 256 * k) (s.modelRecord seq) (1, 0)).2 = false) ∧
    (let s := ready
     let s : State := { s with hold := { s.hold with history := [] } }
     s.hold.history = []) ∧
    (let s := ready
     let s : State := { s with hold := { s.hold with history := [[1#8]] } }
     s.asleep = false ∧ s.hold.history ≠ [] ∧ (s.recordWrite (0x10200 + 256 * s.hold.histPage) (s.hold.history.flatten ++
       List.replicate (256 - s.hold.history.flatten.length) 0) (2, s.hold.history.length)).2 = true) ∧
    (let s := ready |>.set (HOLD_CFG_CAL_AUTO) 1 |>.set (HOLD_STATUS_STAGE) 3
     let s : State := { s with hold := { s.hold with calMin := 1440 } }
     s.on HOLD_CFG_CAL_AUTO = true ∧ s.get HOLD_STATUS_STAGE = 3 ∧ 1440 ≤ s.hold.calMin ∧ s.asleep = false ∧ (
     let x : _ := { s with hold := { s.hold with calMin := 0 } }
     (x.writeCal (unit48 x.yXO) 1 0).2 = true)) := by
  decide +kernel

theorem witness_HoldoverCommandsComplete_3 :
    (let s := ready
     s.hold.calMin < 1440) := by
  decide +kernel

theorem witness_AxleWritesComplete_1 :
    (let s := ready
     let m : Master := .spi
     let n : Nat := 3
     let v : Word := withField 0#32 (AXL_CFG_ENABLE 3) 1
     let r : RegRow := (regRow (AXL_CFG n)).getD default
     let w : Word := (let x := if n = 1 then putBits v 4 1 0 else v; (writeFields r.fields (s.rd (AXL_CFG n)) x).1)
     1 ≤ n ∧ n < 4 ∧ s.verdict m (AXL_CFG n) = .row r ∧ v.getLsbD 8 = false ∧ (
     let x := if n = 1 then putBits v 4 1 0 else v
     writeFields r.fields (s.rd (AXL_CFG n)) x = (w, false) ∧ (
     let u := (s.answer m .ok).wr (AXL_CFG n) w
     u.stepLeft n = 0 ∧ u.on (AXL_CFG_ENABLE n) = true ∧ u.get (AXL_STATUS_STATE n) = 0 ∧ u.get GLB_STATUS_MODE ≠ 0 ∧
       s.pwr.state = .run ∨ s.pwr.state = .lean))) ∧
    (let m : Master := .spi
     let n : Nat := 3
     let v : Word := 0#32
     let r : RegRow := (regRow (AXL_CFG n)).getD default
     let s := ready |>.set (AXL_CFG_ENABLE n) 1
     let w : Word := (let x := if n = 1 then putBits v 4 1 0 else v; (writeFields r.fields (s.rd (AXL_CFG n)) x).1)
     1 ≤ n ∧ n < 4 ∧ s.verdict m (AXL_CFG n) = .row r ∧ v.getLsbD 8 = false ∧ (
     let x := if n = 1 then putBits v 4 1 0 else v
     writeFields r.fields (s.rd (AXL_CFG n)) x = (w, false) ∧ (
     let u := (s.answer m .ok).wr (AXL_CFG n) w
     u.stepLeft n = 0 ∧ s.on (AXL_CFG_ENABLE n) = true ∧ u.on (AXL_CFG_ENABLE n) = false))) ∧
    (let s := ready |>.set (AXL_CFG_ENABLE 3) 1 |>.set (AXL_STATUS_STATE 3) 1
     let m : Master := .spi
     let n : Nat := 3
     let v : Word := withField (withField 0#32 (AXL_CFG_ENABLE 3) 1) (AXL_CFG_ENTRY 3) 5
     let r : RegRow := (regRow (AXL_CFG n)).getD default
     let w : Word := (let x := if n = 1 then putBits v 4 1 0 else v; (writeFields r.fields (s.rd (AXL_CFG n)) x).1)
     1 ≤ n ∧ n < 4 ∧ s.verdict m (AXL_CFG n) = .row r ∧ v.getLsbD 8 = false ∧ (
     let x := if n = 1 then putBits v 4 1 0 else v
     writeFields r.fields (s.rd (AXL_CFG n)) x = (w, false) ∧ (
     let u := (s.answer m .ok).wr (AXL_CFG n) w
     u.stepLeft n = 0 ∧ u.on (AXL_CFG_ENABLE n) = true ∧ u.get (AXL_STATUS_STATE n) ≠ 0 ∧ changes s (AXL_CFG_ENTRY n) x = true))) ∧
    (let s := ready |>.set (GLB_STATUS_MODE) 5 |>.set (AXL_CFG_ENABLE 3) 1 |>.set (AXL_STATUS_STATE 3) 4
     let m : Master := .spi
     let n : Nat := 3
     let v : Word := withField 0x100#32 (AXL_CFG_ENABLE 3) 1
     let r : RegRow := (regRow (AXL_CFG n)).getD default
     let w : Word := (let x := if n = 1 then putBits v 4 1 0 else v; (writeFields r.fields (s.rd (AXL_CFG n)) x).1)
     1 ≤ n ∧ n < 4 ∧ s.verdict m (AXL_CFG n) = .row r ∧ v.getLsbD 8 = true ∧ s.get GLB_STATUS_MODE = 5 ∧ (
     let x := if n = 1 then putBits v 4 1 0 else v
     writeFields r.fields (s.rd (AXL_CFG n)) x = (w, false) ∧ (
     let u := (s.answer m .ok).wr (AXL_CFG n) w
     u.stepLeft n = 0 ∧ s.on (AXL_CFG_ENABLE n) = u.on (AXL_CFG_ENABLE n) ∧ s.on (AXL_CFG_DLL_HOLD n) = false ∧ changes s
       (AXL_CFG_ENTRY n) x = false ∧ u.get (AXL_STATUS_STATE n) ≠ 0))) ∧
    (let m : Master := .spi
     let n : Nat := 3
     let v : Word := withField 0#32 (AXL_CFG_ENABLE 3) 1
     let r : RegRow := (regRow (AXL_CFG n)).getD default
     let s := ready |>.set (AXL_CFG_DLL_HOLD n) 1 |>.set (AXL_CFG_ENABLE 3) 1 |>.set (AXL_STATUS_STATE 3) 4
     let w : Word := (let x := if n = 1 then putBits v 4 1 0 else v; (writeFields r.fields (s.rd (AXL_CFG n)) x).1)
     1 ≤ n ∧ n < 4 ∧ s.verdict m (AXL_CFG n) = .row r ∧ v.getLsbD 8 = false ∧ (
     let x := if n = 1 then putBits v 4 1 0 else v
     writeFields r.fields (s.rd (AXL_CFG n)) x = (w, false) ∧ (
     let u := (s.answer m .ok).wr (AXL_CFG n) w
     u.stepLeft n = 0 ∧ u.on (AXL_CFG_ENABLE n) = true ∧ s.on (AXL_CFG_DLL_HOLD n) = true ∧ u.on (AXL_CFG_DLL_HOLD n) = false ∧
       changes s (AXL_CFG_ENTRY n) x = false ∧ u.get (AXL_STATUS_STATE n) = 4))) ∧
    (let s := ready
     let m : Master := .spi
     let r : RegRow := (regRow (AXL_CFG 0)).getD default
     s.verdict m (AXL_CFG 0) = .row r) := by
  decide +kernel

theorem witness_AxleWritesComplete_2 :
    (let m : Master := .spi
     let n : Nat := 3
     let v : Word := (1#32 : Word)
     let r : RegRow := (regRow (AXL_CTRL n)).getD default
     let s := ready |>.set (AXL_STATUS_STATE n) 1
     1 ≤ n ∧ n < 4 ∧ s.verdict m (AXL_CTRL n) = .row r ∧ v.getLsbD 0 = true ∧ v.getLsbD 1 = false ∧ s.get (AXL_STATUS_STATE n) ≠
       0) ∧
    (let m : Master := .spi
     let n : Nat := 3
     let v : Word := (2#32 : Word)
     let r : RegRow := (regRow (AXL_CTRL n)).getD default
     let s := ready |>.set (AXL_STATUS_STEP_BUSY n) 1
     1 ≤ n ∧ n < 4 ∧ s.verdict m (AXL_CTRL n) = .row r ∧ v.getLsbD 0 = false ∧ v.getLsbD 1 = true ∧ s.on (AXL_STATUS_STEP_BUSY
       n) = true) := by
  decide +kernel

theorem witness_AxleEventsAndStepsComplete_1 :
    (let n : Nat := 3
     let s := ready |>.set (AXL_STATUS_STATE n) 1
     n < 4 ∧ s.get (AXL_STATUS_STATE n) = 1) ∧
    (let n : Nat := 3
     let s := ready |>.set (AXL_STATUS_STATE n) 1
     n < 4 ∧ s.get (AXL_STATUS_STATE n) = 1) ∧
    (let s := ready
     let n : Nat := 0
     s.get (AXL_STATUS_STATE n) ≠ 1) ∧
    (let n : Nat := 3
     let s := ready |>.set (AXL_STATUS_STATE n) 2
     1 ≤ n ∧ n < 4 ∧ s.get (AXL_STATUS_STATE n) = 2 ∧ s.on (AXL_CFG_DLL_HOLD n) = false) ∧
    (let s := ready |>.set (AXL_STATUS_STATE 0) 2
     s.get (AXL_STATUS_STATE 0) = 2) ∧
    (let n : Nat := 3
     let s := ready |>.set (AXL_STATUS_STATE n) 2
     1 ≤ n ∧ n < 4 ∧ s.get (AXL_STATUS_STATE n) = 2) := by
  decide +kernel

theorem witness_AxleEventsAndStepsComplete_2 :
    (let n : Nat := 3
     let s := ready |>.set (AXL_STATUS_STATE n) 2 |>.set (AXL_CFG_DLL_HOLD n) 1
     1 ≤ n ∧ n < 4 ∧ s.get (AXL_STATUS_STATE n) = 2 ∧ s.on (AXL_CFG_DLL_HOLD n) = true) ∧
    (let n : Nat := 3
     let s := ready |>.set (AXL_STATUS_STATE n) 2
     1 ≤ n ∧ n < 4 ∧ s.get (AXL_STATUS_STATE n) = 2 ∧ s.on (AXL_CFG_DLL_HOLD n) = false) ∧
    (let n : Nat := 3
     let s := ready |>.set (AXL_STATUS_STATE n) 3
     1 ≤ n ∧ n < 4 ∧ s.get (AXL_STATUS_STATE n) = 3) ∧
    (let s := ready |>.set (AXL_STATUS_STATE 0) 3
     s.get (AXL_STATUS_STATE 0) = 3) ∧
    (let n : Nat := 3
     let s := ready |>.set (AXL_STATUS_STATE n) 3
     1 ≤ n ∧ n < 4 ∧ s.get (AXL_STATUS_STATE n) = 3) ∧
    (let s := ready
     let m : Master := .spi
     let n : Nat := 3
     let v : Word := 0#32
     let r : RegRow := (regRow (AXL_FWORD_HI n)).getD default
     1 ≤ n ∧ n < 4 ∧ s.verdict m (AXL_FWORD_HI n) = .row r ∧ s.steerer n = none ∧ (
     let w := signedOf 48 ((s.axle n).wordLo.toNat + v.toNat % 2 ^ 16 * 2 ^ 32)
     w.natAbs ≤ 34339947158)) := by
  decide +kernel

theorem witness_AxleEventsAndStepsComplete_3 :
    (let s := ready
     let m : Master := .spi
     let n : Nat := 3
     let v : Word := 0x7FFF#32
     let r : RegRow := (regRow (AXL_FWORD_HI n)).getD default
     1 ≤ n ∧ n < 4 ∧ s.verdict m (AXL_FWORD_HI n) = .row r ∧ s.steerer n = none ∧ 34339947158 < (signedOf 48 ((s.axle
       n).wordLo.toNat + v.toNat % 2 ^ 16 * 2 ^ 32)).natAbs) ∧
    (let s := ready |>.set (DPL_CFG_ENABLE 2) 1 |>.set (DPL_CFG_AXLE 2) 4
     let m : Master := .spi
     let n : Nat := 3
     let l : Nat := 2
     let r : RegRow := (regRow (AXL_FWORD_HI n)).getD default
     1 ≤ n ∧ n < 4 ∧ s.verdict m (AXL_FWORD_HI n) = .row r ∧ s.steerer n = some l) ∧
    (let s := ready
     let m : Master := .spi
     let n : Nat := 3
     let r : RegRow := (regRow (AXL_STEP_HI n)).getD default
     1 ≤ n ∧ n < 4 ∧ s.verdict m (AXL_STEP_HI n) = .row r ∧ s.steerer n = none) ∧
    (let n : Nat := 3
     let s := ready |>.set (AXL_STATUS_STATE n) 1 |>.set (AXL_STATUS_STATE 3) 1 |>.set (AXL_STATUS_STEP_BUSY 3) 1
     let s : State := s.wr (AXL_STEP_LEFT_LO n) 5
     1 ≤ n ∧ n < 4 ∧ s.stepLeft n ≠ 0 ∧ s.get (AXL_STATUS_STATE n) ≠ 0 ∧ s.on (AXL_CFG_STEP_MODE n) = false) ∧
    (let s := ready
     let n : Nat := 0
     s.stepLeft n = 0) ∧
    (let s := ready
     let m : Master := .spi
     let n : Nat := 3
     let k : Nat := 15
     let v : Word := 0x8000#32
     let r : RegRow := (regRow (AXL_BAND_HI n k)).getD default
     let w : Word := (writeFields r.fields (s.rd (AXL_BAND_HI n k)) v).1
     1 ≤ n ∧ n < 4 ∧ k < 16 ∧ s.verdict m (AXL_BAND_HI n k) = .row r ∧ writeFields r.fields (s.rd (AXL_BAND_HI n k)) v = (w,
       false) ∧ (s.axEntry n ≠ k ∨ s.get (AXL_STATUS_STATE n) = 0) ∧ (
     let x := (s.rd (AXL_BAND_LO n k)).toNat + v.toNat % 2 ^ 16 * 2 ^ 32
     (n = 1 → x = 2 ^ 47) ∧ (n ≠ 1 → 1961 * 2 ^ 46 ≤ 1000 * x ∧ 1000 * x ≤ 2518 * 2 ^ 46))) := by
  decide +kernel

theorem witness_AxleEventsAndStepsComplete_4 :
    (let m : Master := .spi
     let n : Nat := 3
     let k : Nat := 15
     let r : RegRow := (regRow (AXL_BAND_HI n k)).getD default
     let s := ready |>.set (AXL_STATUS_STATE n) 1 |>.set (AXL_CFG_ENTRY 3) 15 |>.set (AXL_STATUS_STATE 3) 1
     1 ≤ n ∧ n < 4 ∧ k < 16 ∧ s.verdict m (AXL_BAND_HI n k) = .row r ∧ s.axEntry n = k ∧ s.get (AXL_STATUS_STATE n) ≠ 0) := by
  decide +kernel

theorem witness_SlewIsEven :
    (let rate : Nat := 0
     rate ≤ 256) := by
  decide +kernel

theorem witness_OutputCommandsComplete_1 :
    (let s := ready
     let m : Master := .spi
     let n : Nat := 23
     let v : Word := (1#32 : Word)
     let r : RegRow := (regRow (OUT_CFG n)).getD default
     let w : Word := (writeFields r.fields (s.rd (OUT_CFG n)) (keepField s (OUT_CFG_ENABLE n) v)).1
     n < 24 ∧ s.verdict m (OUT_CFG n) = .row r ∧ s.on (OUT_CFG_ENABLE n) = false ∧ v.getLsbD 0 = true ∧ writeFields r.fields
       (s.rd (OUT_CFG n)) (keepField s (OUT_CFG_ENABLE n) v) = (w, false) ∧ (
     let u := (s.answer m .ok).wr (OUT_CFG n) w
     u.outCfgOk n = true)) ∧
    (let s := ready
     let m : Master := .spi
     let n : Nat := 23
     let v : Word := withField (withField 1#32 (OUT_CFG_MODE 23) 1) (OUT_CFG_FORMAT 23) 2
     let r : RegRow := (regRow (OUT_CFG n)).getD default
     let w : Word := (writeFields r.fields (s.rd (OUT_CFG n)) (keepField s (OUT_CFG_ENABLE n) v)).1
     n < 24 ∧ s.verdict m (OUT_CFG n) = .row r ∧ s.on (OUT_CFG_ENABLE n) = false ∧ v.getLsbD 0 = true ∧ writeFields r.fields
       (s.rd (OUT_CFG n)) (keepField s (OUT_CFG_ENABLE n) v) = (w, false) ∧ (
     let u := (s.answer m .ok).wr (OUT_CFG n) w
     u.outCfgOk n = false)) ∧
    (let m : Master := .spi
     let n : Nat := 23
     let v : Word := 0#32
     let r : RegRow := (regRow (OUT_CFG n)).getD default
     let s := ready |>.set (OUT_CFG_ENABLE n) 1
     let w : Word := (writeFields r.fields (s.rd (OUT_CFG n)) (keepField s (OUT_CFG_ENABLE n) v)).1
     n < 24 ∧ s.verdict m (OUT_CFG n) = .row r ∧ s.on (OUT_CFG_ENABLE n) = true ∧ v.getLsbD 0 = false ∧ writeFields r.fields
       (s.rd (OUT_CFG n)) (keepField s (OUT_CFG_ENABLE n) v) = (w, false)) ∧
    (let s := ready
     let m : Master := .spi
     let n : Nat := 23
     let v : Word := 0#32
     let r : RegRow := (regRow (OUT_CFG n)).getD default
     let w : Word := (writeFields r.fields (s.rd (OUT_CFG n)) (keepField s (OUT_CFG_ENABLE n) v)).1
     n < 24 ∧ s.verdict m (OUT_CFG n) = .row r ∧ s.on (OUT_CFG_ENABLE n) = v.getLsbD 0 ∧ (s.on (OUT_CFG_ENABLE n) = true →
       (outGuarded n).any (fun f => changes s f v) = false) ∧ writeFields r.fields (s.rd (OUT_CFG n)) (keepField s (OUT_CFG_ENABLE
       n) v) = (w, false)) ∧
    (let s := ready |>.set (OUT_CFG_ENABLE 23) 1 |>.set (OUT_CFG_SRC 23) 0 |>.set (OUT_CFG_QUAL 23) 0 |>.set (OUT_STATUS_STATE
       23) 1 |>.set (AXL_STATUS_STATE 1) 3 |>.set (AXL_STATUS_SQUELCH 1) 0 |>.set (OUT_DIV_DIV 23) 8
     let s : State := s.setOutp 23 { s.outp 23 with ready := some 0 }
     let s : State := { s with cyc := 20 }
     let n : Nat := 23
     let c : Nat := 0
     n < 24 ∧ (
     let u := s.outEval n
     u.get (OUT_STATUS_STATE n) = 1 ∧ u.outHold n = false ∧ (∀ a, u.outAxle n = some a → u.get (AXL_STATUS_STATE a) = 3) ∧
       (u.outp n).ready = some c ∧ c + 20 ≤ u.cyc)) ∧
    (let s := ready
     let n : Nat := 23
     n < 24 ∧ (s.outEval n).outWaited n = false) := by
  decide +kernel

theorem witness_OutputCommandsComplete_2 :
    (let s := ready
     let m : Master := .spi
     let n : Nat := 23
     let v : Word := 0#32
     let r : RegRow := (regRow (OUT_PHASE_HI n)).getD default
     let w : Word := (writeFields r.fields (s.rd (OUT_PHASE_HI n)) v).1
     n < 24 ∧ s.verdict m (OUT_PHASE_HI n) = .row r ∧ writeFields r.fields (s.rd (OUT_PHASE_HI n)) v = (w, false) ∧ (
     let u := (s.answer m .ok).wr (OUT_PHASE_HI n) w
     (u.outPhase n).natAbs < s.get (OUT_PERIOD_PERIOD n) * 65536)) ∧
    (let s := ready
     let n : Nat := 23
     n < 24 ∧ s.get (OUT_STATUS_STATE n) ≠ 2) ∧
    (let n : Nat := 23
     let s := ready |>.set (OUT_STATUS_STATE n) 2 |>.set (OUT_DIV_DIV n) 2
     let s : State := s.setOutp n { s.outp n with pulse := false }
     let s : State := s.setOutp n { s.outp n with fall := none }
     n < 24 ∧ s.regsWf = true ∧ s.get (OUT_STATUS_STATE n) = 2 ∧ (s.outp n).pulse = false ∧ (s.outp n).fall = none ∧ 2 ≤ s.get
       (OUT_DIV_DIV n)) ∧
    (let n : Nat := 23
     let s := ready |>.set (OUT_STATUS_STATE n) 2 |>.set (OUT_PERIOD_PERIOD n) 1
     let s : State := s.setOutp n { s.outp n with pulse := true }
     let s : State := s.setOutp n { s.outp n with stopping := false }
     n < 24 ∧ s.get (OUT_STATUS_STATE n) = 2 ∧ (s.outp n).pulse = true ∧ (s.outp n).stopping = false ∧ s.get (OUT_PERIOD_PERIOD
       n) ≠ 0) := by
  decide +kernel

theorem witness_TimeCommandsComplete_1 :
    (let s := ready
     let m : Master := .spi
     let d : Nat := 1
     let v : Word := withField 0#32 (TIM_INC_HI_INC_HI d) 819
     let r : RegRow := (regRow (TIM_INC_HI d)).getD default
     let w : Word := (writeFields r.fields (s.rd (TIM_INC_HI d)) v).1
     d < 2 ∧ s.verdict m (TIM_INC_HI d) = .row r ∧ s.loopState d = 0 ∧ writeFields r.fields (s.rd (TIM_INC_HI d)) v = (w, false)
       ∧ (
     let inc := (s.rd (TIM_INC_LO d)).toNat + fieldOf (TIM_INC_HI_INC_HI d) v * 2 ^ 32
     3516677990279 ≤ inc ∧ inc ≤ 3520196427487)) ∧
    (let s := ready |>.set (DPL_STATUS_STATE 1) 1
     let m : Master := .spi
     let d : Nat := 1
     let r : RegRow := (regRow (TIM_INC_HI d)).getD default
     d < 2 ∧ s.verdict m (TIM_INC_HI d) = .row r ∧ s.loopState d ≠ 0) ∧
    (let s := ready
     let m : Master := .spi
     let d : Nat := 1
     let v : Word := (1#32 : Word)
     let r : RegRow := (regRow (TIM_CTRL d)).getD default
     d < 2 ∧ s.verdict m (TIM_CTRL d) = .row r ∧ s.loopState d = 0 ∧ v.getLsbD 0 = true ∧ v.getLsbD 1 = false ∧ v.getLsbD 2 =
       false) ∧
    (let s := ready |>.set (DPL_STATUS_STATE 1) 1
     let m : Master := .spi
     let d : Nat := 1
     let v : Word := (1#32 : Word)
     let r : RegRow := (regRow (TIM_CTRL d)).getD default
     d < 2 ∧ s.verdict m (TIM_CTRL d) = .row r ∧ s.loopState d ≠ 0 ∧ v.getLsbD 0 = true ∧ v.getLsbD 1 = false ∧ v.getLsbD 2 =
       false) ∧
    (let s := ready |>.set (TIM_STEP_NS_STEP_NS 1) 5
     let m : Master := .spi
     let d : Nat := 1
     let v : Word := (4#32 : Word)
     let r : RegRow := (regRow (TIM_CTRL d)).getD default
     d < 2 ∧ s.verdict m (TIM_CTRL d) = .row r ∧ v.getLsbD 0 = false ∧ v.getLsbD 1 = false ∧ v.getLsbD 2 = true ∧ s.getI
       (TIM_STEP_SEC_STEP_SEC d) = 0 ∧ s.loopState d = 0 ∧ s.getI (TIM_STEP_NS_STEP_NS d) ≠ 0) ∧
    (let s := ready |>.set (TIM_STEP_SEC_STEP_SEC 1) 5
     let m : Master := .spi
     let d : Nat := 1
     let v : Word := (4#32 : Word)
     let r : RegRow := (regRow (TIM_CTRL d)).getD default
     d < 2 ∧ s.verdict m (TIM_CTRL d) = .row r ∧ v.getLsbD 0 = false ∧ v.getLsbD 1 = false ∧ v.getLsbD 2 = true ∧ s.getI
       (TIM_STEP_SEC_STEP_SEC d) ≠ 0 ∧ s.getI (TIM_STEP_NS_STEP_NS d) = 0) := by
  decide +kernel

theorem witness_TimeCommandsComplete_2 :
    (let s := ready
     let m : Master := .spi
     let d : Nat := 1
     let v : Word := (2#32 : Word)
     let r : RegRow := (regRow (TIM_CTRL d)).getD default
     d < 2 ∧ s.verdict m (TIM_CTRL d) = .row r ∧ v.getLsbD 0 = false ∧ v.getLsbD 1 = true ∧ v.getLsbD 2 = false) ∧
    (let d : Nat := 1
     let s := ready
     let s : State := s.setDom d { s.dom d with shift := none }
     d < 2 ∧ s.on (TIM_STATUS_SEC_PENDING d) = false ∧ (s.dom d).shift = none ∧ s.on TIM_SNAP_CTRL_TRIG = false) ∧
    (let d : Nat := 1
     let x : Int := 0
     let s := ready
     let s : State := s.setDom d { s.dom d with shift := some x }
     d < 2 ∧ s.regsWf = true ∧ s.on (TIM_STATUS_SEC_PENDING d) = false ∧ (s.dom d).shift = some x ∧ s.on TIM_SNAP_CTRL_TRIG =
       false) ∧
    (let d : Nat := 1
     let s := ready |>.set (TIM_STATUS_SEC_PENDING d) 1
     d < 2 ∧ s.regsWf = true ∧ s.on (TIM_STATUS_SEC_PENDING d) = true ∧ s.on TIM_SNAP_CTRL_TRIG = false) ∧
    (let s := ready |>.set (TIM_SNAP_CTRL_TRIG) 1
     let s : State := s.setDom 0 { s.dom 0 with shift := none }
     s.on (TIM_STATUS_SEC_PENDING 0) = false ∧ (s.dom 0).shift = none ∧ s.on TIM_SNAP_CTRL_TRIG = true) ∧
    (let s := ready
     let m : Master := .spi
     let v : Word := withField 0#32 TIM_SNAP_CTRL_TAKE 1
     let r : RegRow := (regRow TIM_SNAP_CTRL).getD default
     let w : Word := (writeFields r.fields (s.rd TIM_SNAP_CTRL) v).1
     s.verdict m TIM_SNAP_CTRL = .row r ∧ writeFields r.fields (s.rd TIM_SNAP_CTRL) v = (w, false) ∧ (
     let u := (s.answer m .ok).wr TIM_SNAP_CTRL w
     u.on TIM_SNAP_CTRL_TAKE = true)) := by
  decide +kernel

theorem witness_TimeCommandsComplete_3 :
    (let s := ready
     let m : Master := .spi
     let v : Word := 0#32
     let r : RegRow := (regRow (TIM_SRV_TGT_HI 0)).getD default
     let w : Word := (writeFields r.fields (s.rd (TIM_SRV_TGT_HI 0)) v).1
     s.verdict m (TIM_SRV_TGT_HI 0) = .row r ∧ writeFields r.fields (s.rd (TIM_SRV_TGT_HI 0)) v = (w, false)) ∧
    (let s := ready
     let m : Master := .spi
     let v : Word := 0#32
     let r : RegRow := (regRow (TIM_SRV_TGT_HI 1)).getD default
     let w : Word := (writeFields r.fields (s.rd (TIM_SRV_TGT_HI 1)) v).1
     s.verdict m (TIM_SRV_TGT_HI 1) = .row r ∧ writeFields r.fields (s.rd (TIM_SRV_TGT_HI 1)) v = (w, false)) ∧
    (let s := ready |>.set (TIM_SRV_STATUS_VALID) 1 |>.set (TIM_SRV_RATE_RATE) 1
     s.on TIM_SRV_STATUS_VALID = true ∧ s.get TIM_SRV_RATE_RATE ≠ 0) ∧
    (let s := ready
     s.on TIM_SRV_STATUS_VALID = false) ∧
    (let s := ready |>.set (TIM_SRV_CFG_AUTO) 1 |>.set (TIM_SRV_CFG_REVERT) 1 |>.set (DPL_STATUS_STATE 0) 2 |>.set
       (TIM_STATUS_SEC_VALID 0) 1 |>.set (TIM_SRV_CFG_SRC) 0 |>.set (TIM_SRV_CFG_AUTO) 1 |>.set (TIM_SRV_CFG_REVERT) 1 |>.set
       (TIM_SRV_STATUS_SRC_IN_FORCE) 1
     let s : State := { s with tim := { s.tim with src := 1 } }
     s.on TIM_SRV_CFG_AUTO = true ∧ s.srvSrc ≠ s.get TIM_SRV_CFG_SRC ∧ s.on TIM_SRV_CFG_REVERT = true ∧ s.loopState (s.get
       TIM_SRV_CFG_SRC) = 2 ∧ s.on (TIM_STATUS_SEC_VALID (s.get TIM_SRV_CFG_SRC)) = true) ∧
    (let s := ready |>.set (TIM_SRV_CFG_REVERT) 0
     s.on TIM_SRV_CFG_REVERT = false) := by
  decide +kernel

theorem witness_CalibrationAndSessionsComplete_1 :
    (let s := ready
     let p : Nat := 47
     let samples : List Nat := List.replicate 256 5
     p < 48 ∧ s.tseOn = true ∧ samples.length = 256) ∧
    (let s := ready
     let p : Nat := 47
     let samples : List Nat := List.replicate 256 5
     p < 48 ∧ s.tseOn = true ∧ samples.length = 256) ∧
    (let s := ready |>.set (PRT_STATUS_PCS_LOCK 47) 1 |>.set (PRT_CFG_LOOP 47) 0
     let p : Nat := 47
     p < 48 ∧ s.tseOn = true ∧ s.on (TSE_PORT_STATUS_CAL_OK p) = false ∧ s.lockSeen p = true) ∧
    (let p : Nat := 0
     let s := ready |>.set (TSE_PORT_STATUS_CAL_OK p) 1
     s.on (TSE_PORT_STATUS_CAL_OK p) = true) ∧
    (let s := ready
     let m : Master := .spi
     let k : Nat := 191
     let v : Word := (1#32 : Word)
     let r : RegRow := (regRow (SESS_CFG k)).getD default
     let w : Word := (writeFields r.fields (s.rd (SESS_CFG k)) (keepField s (SESS_CFG_ENABLE k) v)).1
     k < 192 ∧ s.verdict m (SESS_CFG k) = .row r ∧ s.on (SESS_CFG_ENABLE k) = false ∧ v.getLsbD 0 = true ∧ (writeFields r.fields
       (s.rd (SESS_CFG k)) v).2 = false ∧ writeFields r.fields (s.rd (SESS_CFG k)) (keepField s (SESS_CFG_ENABLE k) v) = (w,
       false) ∧ (
     let u := (s.answer m .ok).wr (SESS_CFG k) w
     u.laneOfFat (u.get (SESS_CFG_PORT k)) = false ∧ u.sessTwin k = false)) ∧
    (let m : Master := .spi
     let k : Nat := 191
     let v : Word := 0#32
     let r : RegRow := (regRow (SESS_CFG k)).getD default
     let s := ready |>.set (SESS_CFG_ENABLE k) 1
     let w : Word := (writeFields r.fields (s.rd (SESS_CFG k)) (keepField s (SESS_CFG_ENABLE k) v)).1
     k < 192 ∧ s.verdict m (SESS_CFG k) = .row r ∧ s.on (SESS_CFG_ENABLE k) = true ∧ v.getLsbD 0 = false ∧ writeFields r.fields
       (s.rd (SESS_CFG k)) (keepField s (SESS_CFG_ENABLE k) v) = (w, false)) := by
  decide +kernel

theorem witness_CalibrationAndSessionsComplete_2 :
    (let m : Master := .spi
     let k : Nat := 191
     let r : RegRow := (regRow (SESS_CFG k)).getD default
     let s := ready |>.set (SESS_CFG_ENABLE k) 1
     let v : Word := withField (s.rd (SESS_CFG 191)) (SESS_CFG_ENABLE 191) 1
     let w : Word := (writeFields r.fields (s.rd (SESS_CFG k)) (keepField s (SESS_CFG_ENABLE k) v)).1
     k < 192 ∧ s.verdict m (SESS_CFG k) = .row r ∧ s.on (SESS_CFG_ENABLE k) = true ∧ v.getLsbD 0 = true ∧ (sessGuarded k).any
       (fun f => changes s f v) = false ∧ writeFields r.fields (s.rd (SESS_CFG k)) (keepField s (SESS_CFG_ENABLE k) v) = (w,
       false)) := by
  decide +kernel

theorem witness_PtpMessagesComplete_1 :
    (let k : Nat := 191
     let s := ready |>.set (SESS_STATUS_STATE k) 2 |>.set (SESS_CFG_ROLE k) 0 |>.set (SESS_STATUS_STATE 191) 2 |>.set
       (SESS_CFG_PORT 191) 47 |>.set (PRT_STATUS_PCS_LOCK 47) 1 |>.set (TSE_PORT_STATUS_RX_NOPHASE 47) 0 |>.set
       (TSE_PORT_CFG_CAL_REQ 47) 0 |>.set (TSE_PORT_CFG_TS_EN 47) 1
     k < 192 ∧ s.sessSends k = true ∧ s.get (SESS_STATUS_STATE k) = 2 ∧ s.get (SESS_CFG_ROLE k) = 0 ∧ s.on (SESS_CFG_TWO_STEP k)
       = false) ∧
    (let k : Nat := 191
     let s := ready |>.set (SESS_STATUS_STATE k) 2 |>.set (SESS_CFG_ROLE k) 0 |>.set (SESS_CFG_TWO_STEP k) 1 |>.set
       (SESS_STATUS_STATE 191) 2 |>.set (SESS_CFG_PORT 191) 47 |>.set (PRT_STATUS_PCS_LOCK 47) 1 |>.set
       (TSE_PORT_STATUS_RX_NOPHASE 47) 0 |>.set (TSE_PORT_CFG_CAL_REQ 47) 0 |>.set (TSE_PORT_CFG_TS_EN 47) 1
     k < 192 ∧ s.sessSends k = true ∧ s.get (SESS_STATUS_STATE k) = 2 ∧ s.get (SESS_CFG_ROLE k) = 0 ∧ s.on (SESS_CFG_TWO_STEP k)
       = true) ∧
    (let k : Nat := 0
     let s := ready |>.set (SESS_CFG_ROLE k) 1
     s.get (SESS_CFG_ROLE k) ≠ 0) ∧
    (let k : Nat := 191
     let s := ready |>.set (SESS_CFG_DELAY k) 0 |>.set (SESS_CFG_ROLE k) 1 |>.set (SESS_STATUS_STATE 191) 2 |>.set
       (SESS_CFG_PORT 191) 47 |>.set (PRT_STATUS_PCS_LOCK 47) 1 |>.set (TSE_PORT_STATUS_RX_NOPHASE 47) 0 |>.set
       (TSE_PORT_CFG_CAL_REQ 47) 0 |>.set (TSE_PORT_CFG_TS_EN 47) 1
     k < 192 ∧ s.sessSends k = true ∧ s.get (SESS_CFG_DELAY k) = 0 ∧ s.get (SESS_CFG_ROLE k) = 1) ∧
    (let k : Nat := 191
     let s := ready |>.set (SESS_CFG_DELAY k) 1 |>.set (SESS_STATUS_STATE 191) 2 |>.set (SESS_CFG_PORT 191) 47 |>.set
       (PRT_STATUS_PCS_LOCK 47) 1 |>.set (TSE_PORT_STATUS_RX_NOPHASE 47) 0 |>.set (TSE_PORT_CFG_CAL_REQ 47) 0 |>.set
       (TSE_PORT_CFG_TS_EN 47) 1
     k < 192 ∧ s.sessSends k = true ∧ s.get (SESS_CFG_DELAY k) = 1) ∧
    (let k : Nat := 191
     let msg : PtpMsg := { (default : PtpMsg) with seq := 9, twoStep := false, followUp := false, rx := ⟨0, 0, 0⟩ }
     let s := ready |>.set (SESS_STATUS_STATE k) 1 |>.set (SESS_CFG_ROLE k) 1 |>.set (SESS_STATUS_STATE 191) 2 |>.set
       (SESS_CFG_PORT 191) 47 |>.set (PRT_STATUS_PCS_LOCK 47) 1 |>.set (TSE_PORT_STATUS_RX_NOPHASE 47) 0 |>.set
       (TSE_PORT_CFG_CAL_REQ 47) 0 |>.set (TSE_PORT_CFG_TS_EN 47) 1
     let s : State := s.setSess k { s.sess k with pend := none }
     let s : State := { s with tse := { s.tse with lat := smPut (smPut s.tse.lat 94 (some 0)) 95 (some 0) } }
     let s : State := { s with tse := { s.tse with held := smPut (smPut s.tse.held 94 (some 0)) 95 (some 0), lat := smPut (smPut s.tse.lat 94 (some 0)) 95 (some 0) } }
     let s : State := s.setGauge 47 { s.gauge 47 with marks := [(2, 2048), (1, 1024)] }
     let t2 : Int := (s.heardAt k msg).getD 0
     k < 192 ∧ s.get (SESS_STATUS_STATE k) ≠ 0 ∧ s.get (SESS_CFG_ROLE k) = 1 ∧ s.tseOn = true ∧ s.fromPeer k msg = true ∧
       msg.followUp = false ∧ msg.twoStep = false ∧ (s.sess k).pend = none ∧ s.heardAt k msg = some t2) := by
  decide +kernel

theorem witness_PtpMessagesComplete_2 :
    (let k : Nat := 191
     let msg : PtpMsg := { (default : PtpMsg) with seq := 9, twoStep := true, followUp := false, rx := ⟨0, 0, 0⟩ }
     let s := ready |>.set (SESS_STATUS_STATE k) 1 |>.set (SESS_CFG_ROLE k) 1 |>.set (SESS_STATUS_STATE 191) 2 |>.set
       (SESS_CFG_PORT 191) 47 |>.set (PRT_STATUS_PCS_LOCK 47) 1 |>.set (TSE_PORT_STATUS_RX_NOPHASE 47) 0 |>.set
       (TSE_PORT_CFG_CAL_REQ 47) 0 |>.set (TSE_PORT_CFG_TS_EN 47) 1
     let s : State := s.setSess k { s.sess k with pend := none }
     let s : State := { s with tse := { s.tse with lat := smPut (smPut s.tse.lat 94 (some 0)) 95 (some 0) } }
     let s : State := { s with tse := { s.tse with held := smPut (smPut s.tse.held 94 (some 0)) 95 (some 0), lat := smPut (smPut s.tse.lat 94 (some 0)) 95 (some 0) } }
     let s : State := s.setGauge 47 { s.gauge 47 with marks := [(2, 2048), (1, 1024)] }
     let t2 : Int := (s.heardAt k msg).getD 0
     k < 192 ∧ s.get (SESS_STATUS_STATE k) ≠ 0 ∧ s.get (SESS_CFG_ROLE k) = 1 ∧ s.tseOn = true ∧ s.fromPeer k msg = true ∧
       msg.followUp = false ∧ msg.twoStep = true ∧ (s.sess k).pend = none ∧ s.heardAt k msg = some t2) ∧
    (let k : Nat := 191
     let msg : PtpMsg := { (default : PtpMsg) with seq := 9, twoStep := false, followUp := true, rx := ⟨0, 0, 0⟩ }
     let corr : Int := 0
     let t2 : Int := 5
     let s := ready |>.set (SESS_STATUS_STATE k) 1 |>.set (SESS_CFG_ROLE k) 1 |>.set (SESS_STATUS_STATE 191) 2 |>.set
       (SESS_CFG_PORT 191) 47 |>.set (PRT_STATUS_PCS_LOCK 47) 1 |>.set (TSE_PORT_STATUS_RX_NOPHASE 47) 0 |>.set
       (TSE_PORT_CFG_CAL_REQ 47) 0 |>.set (TSE_PORT_CFG_TS_EN 47) 1
     let s : State := s.setSess k { s.sess k with pend := some (msg.seq, corr, t2) }
     let s : State := s.setSess 191 { s.sess 191 with pend := some (9, 0, 5) }
     k < 192 ∧ s.get (SESS_STATUS_STATE k) ≠ 0 ∧ s.get (SESS_CFG_ROLE k) = 1 ∧ s.tseOn = true ∧ s.fromPeer k msg = true ∧
       msg.followUp = true ∧ (s.sess k).pend = some (msg.seq, corr, t2)) ∧
    (let k : Nat := 191
     let msg : PtpMsg := { (default : PtpMsg) with seq := 9, twoStep := false, followUp := false, rx := ⟨0, 0, 0⟩ }
     let s := ready |>.set (SESS_STATUS_STATE k) 2 |>.set (SESS_CFG_ROLE k) 0 |>.set (SESS_STATUS_STATE 191) 2 |>.set
       (SESS_CFG_PORT 191) 47 |>.set (PRT_STATUS_PCS_LOCK 47) 1 |>.set (TSE_PORT_STATUS_RX_NOPHASE 47) 0 |>.set
       (TSE_PORT_CFG_CAL_REQ 47) 0 |>.set (TSE_PORT_CFG_TS_EN 47) 1
     let s : State := { s with tse := { s.tse with lat := smPut (smPut s.tse.lat 94 (some 0)) 95 (some 0) } }
     let s : State := { s with tse := { s.tse with held := smPut (smPut s.tse.held 94 (some 0)) 95 (some 0), lat := smPut (smPut s.tse.lat 94 (some 0)) 95 (some 0) } }
     let s : State := s.setGauge 47 { s.gauge 47 with marks := [(2, 2048), (1, 1024)] }
     let t : Int := (s.heardAt k msg).getD 0
     k < 192 ∧ s.get (SESS_STATUS_STATE k) = 2 ∧ s.get (SESS_CFG_ROLE k) = 0 ∧ s.sessSends k = true ∧ s.heardAt k msg = some t) ∧
    (let k : Nat := 191
     let seq : Nat := 9
     let t3 : Int := 5
     let t1 : Int := 0
     let t2 : Int := 0
     let s := ready |>.set (SESS_STATUS_STATE k) 1 |>.set (SESS_CFG_ROLE k) 1 |>.set (SESS_CFG_DELAY k) 0 |>.set
       (SESS_STATUS_STATE 191) 2 |>.set (SESS_CFG_PORT 191) 47 |>.set (PRT_STATUS_PCS_LOCK 47) 1 |>.set
       (TSE_PORT_STATUS_RX_NOPHASE 47) 0 |>.set (TSE_PORT_CFG_CAL_REQ 47) 0 |>.set (TSE_PORT_CFG_TS_EN 47) 1
     let s : State := s.setSess k { s.sess k with sync := some (t1, t2) }
     let s : State := s.setSess 191 { s.sess 191 with reqs := [(9, 5)] }
     let msg : PtpMsg := { (default : PtpMsg) with seq := 9, twoStep := false, followUp := false, rx := ⟨0, 0, 0⟩ }
     k < 192 ∧ s.get (SESS_STATUS_STATE k) ≠ 0 ∧ s.get (SESS_CFG_ROLE k) = 1 ∧ s.get (SESS_CFG_DELAY k) = 0 ∧ s.tseOn = true ∧
       (s.sess k).reqs.find? (fun q => q.1 == msg.seq) = some (seq, t3) ∧ (s.sess k).sync = some (t1, t2)) ∧
    (let k : Nat := 191
     let msg : PtpMsg := { (default : PtpMsg) with seq := 9, twoStep := false, followUp := false, rx := ⟨0, 0, 0⟩ }
     let s := ready |>.set (SESS_CFG_DELAY k) 1 |>.set (SESS_STATUS_STATE 191) 2 |>.set (SESS_CFG_PORT 191) 47 |>.set
       (PRT_STATUS_PCS_LOCK 47) 1 |>.set (TSE_PORT_STATUS_RX_NOPHASE 47) 0 |>.set (TSE_PORT_CFG_CAL_REQ 47) 0 |>.set
       (TSE_PORT_CFG_TS_EN 47) 1
     let s : State := { s with tse := { s.tse with lat := smPut (smPut s.tse.lat 94 (some 0)) 95 (some 0) } }
     let s : State := { s with tse := { s.tse with held := smPut (smPut s.tse.held 94 (some 0)) 95 (some 0), lat := smPut (smPut s.tse.lat 94 (some 0)) 95 (some 0) } }
     let s : State := s.setGauge 47 { s.gauge 47 with marks := [(2, 2048), (1, 1024)] }
     let t2 : Int := (s.heardAt k msg).getD 0
     k < 192 ∧ s.get (SESS_CFG_DELAY k) = 1 ∧ s.sessSends k = true ∧ s.heardAt k msg = some t2) ∧
    (let k : Nat := 191
     let seq : Nat := 9
     let t1 : Int := 5
     let s := ready |>.set (SESS_STATUS_STATE k) 1 |>.set (SESS_CFG_DELAY k) 1 |>.set (SESS_STATUS_STATE 191) 2 |>.set
       (SESS_CFG_PORT 191) 47 |>.set (PRT_STATUS_PCS_LOCK 47) 1 |>.set (TSE_PORT_STATUS_RX_NOPHASE 47) 0 |>.set
       (TSE_PORT_CFG_CAL_REQ 47) 0 |>.set (TSE_PORT_CFG_TS_EN 47) 1
     let s : State := s.setSess 191 { s.sess 191 with reqs := [(9, 5)] }
     let s : State := { s with tse := { s.tse with lat := smPut (smPut s.tse.lat 94 (some 0)) 95 (some 0) } }
     let s : State := { s with tse := { s.tse with held := smPut (smPut s.tse.held 94 (some 0)) 95 (some 0), lat := smPut (smPut s.tse.lat 94 (some 0)) 95 (some 0) } }
     let s : State := s.setGauge 47 { s.gauge 47 with marks := [(2, 2048), (1, 1024)] }
     let msg : PtpMsg := { (default : PtpMsg) with seq := 9, twoStep := false, followUp := false, rx := ⟨0, 0, 0⟩ }
     let t4 : Int := (s.heardAt k msg).getD 0
     k < 192 ∧ s.get (SESS_STATUS_STATE k) ≠ 0 ∧ s.get (SESS_CFG_DELAY k) = 1 ∧ s.tseOn = true ∧ (s.sess k).reqs.find? (fun q =>
       q.1 == msg.seq) = some (seq, t1) ∧ msg.followUp = false ∧ msg.twoStep = false ∧ s.heardAt k msg = some t4) := by
  decide +kernel

theorem witness_PtpMessagesComplete_3 :
    (let k : Nat := 191
     let q : Nat × Int := default
     let qs : List (Nat × Int) := default
     let s := ready
     let s : State := s.setSess k { s.sess k with reqs := q :: qs }
     let s : State := s.setSess k { s.sess k with presp := none }
     k < 192 ∧ (s.sess k).reqs = q :: qs ∧ (s.sess k).presp = none) ∧
    (let k : Nat := 0
     let s := ready
     let s : State := s.setSess k { s.sess k with reqs := [] }
     (s.sess k).reqs = []) ∧
    (let k : Nat := 191
     let s := ready |>.set (SESS_STATUS_STATE k) 2 |>.set (SESS_CFG_ROLE k) 1
     k < 192 ∧ s.get (SESS_STATUS_STATE k) = 2 ∧ s.get (SESS_CFG_ROLE k) ≠ 0) ∧
    (let k : Nat := 0
     let s := ready |>.set (SESS_CFG_ROLE k) 0
     s.get (SESS_CFG_ROLE k) = 0) := by
  decide +kernel

theorem witness_StampsEsmcAndAnnounceComplete_1 :
    (let s := ready
     let s : State := { s with tse := { s.tse with queue := [] } }
     let m : Master := .spi
     let r : RegRow := (regRow TSE_TXTS_0).getD default
     s.verdict m TSE_TXTS_0 = .row r ∧ s.tse.queue = []) ∧
    (let m : Master := .spi
     let r : RegRow := (regRow TSE_TXTS_0).getD default
     let e : TxStamp := default
     let q : List TxStamp := default
     let s := ready
     let s : State := { s with tse := { s.tse with queue := e :: q } }
     s.regsWf = true ∧ s.verdict m TSE_TXTS_0 = .row r ∧ s.tse.queue = e :: q ∧ q.length < 512) ∧
    (let p : Nat := 47
     let s := ready |>.set (PRT_STATUS_STATE p) 3
     let s : State := s.setWide TSE_ESMC_RX_LO TSE_ESMC_RX_HI 16 (2 ^ 47)
     p < 48 ∧ (s.getWide TSE_ESMC_RX_LO TSE_ESMC_RX_HI 16).testBit p = true ∧ s.get (PRT_STATUS_STATE p) = 3 ∧ s.fwRuns = true) ∧
    (let s := ready
     let p : Nat := 0
     (s.getWide TSE_ESMC_RX_LO TSE_ESMC_RX_HI 16).testBit p = false) ∧
    (let s := ready
     let s : State := s.setWide TSE_ESMC_RX_LO TSE_ESMC_RX_HI 16 (2 ^ 47)
     let p : Nat := 47
     p < 48 ∧ (s.getWide TSE_ESMC_RX_LO TSE_ESMC_RX_HI 16).testBit p = true ∧ s.fwRuns = true) ∧
    (let s := ready
     let s : State := { s with fw := { s.fw with down := 3 } }
     s.fwRuns = false) := by
  decide +kernel

theorem witness_StampsEsmcAndAnnounceComplete_2 :
    (let s := ready
     let domain : Nat := 0
     smAt s.tse.insts domain = none) ∧
    (let s := ready
     let s : State := { s with fw := { s.fw with down := 3 } }
     s.fwRuns = false) ∧
    (let s := ready
     let s : State := s.set CGU_GATE_STATUS_GATED (2 ^ 20)
     s.tseOn = false) ∧
    (let s := ready
     let s : State := { s with tse := { s.tse with insts := smPut s.tse.insts 24 (some ⟨[0x200#32, 0x1000000#32]⟩) } }
     let domain : Nat := 24
     let x : PtpInst := ⟨[0x200#32, 0x1000000#32]⟩
     smAt s.tse.insts domain = some x ∧ s.fwRuns = true ∧ s.tseOn = true) ∧
    (let s := ready |>.set (SESS_STATUS_STATE 191) 2 |>.set (SESS_CFG_DOMAIN_NUM 191) 24
     let domain : Nat := 24
     let k : Nat := 191
     let x : PtpInst := ⟨[0x200#32, 0x1000000#32]⟩
     k ∈ s.instSessions domain ∧ x.slaveOnly = true ∧ (s.instSessions domain).filterMap (fun j => s.portBest x j) = []) := by
  decide +kernel

theorem witness_BestMasterIsBest :
    (let x : PtpInst := ⟨[]⟩
     let f : Foreign := { (default : Foreign) with prio1 := 1 }
     let g : Foreign := { (default : Foreign) with prio1 := 2 }
     x.better f g = true) := by
  decide +kernel

theorem witness_CouplingCommandsComplete_1 :
    (let s := ready |>.set (PRT_CFG_RATE 47) 3 |>.set (PRT_CFG_RATE 44) 3
     let m : Master := .spi
     let p : Nat := 47
     let v : Word := withField (s.rd (CPL_PORT_CFG p)) (CPL_PORT_CFG_ENABLE p) 1
     let r : RegRow := (regRow (CPL_PORT_CFG p)).getD default
     let w : Word := (writeFields r.fields (s.rd (CPL_PORT_CFG p)) (keepField s (CPL_PORT_CFG_ENABLE p) v)).1
     p < 48 ∧ s.verdict m (CPL_PORT_CFG p) = .row r ∧ s.on (CPL_PORT_CFG_ENABLE p) = false ∧ v.getLsbD 0 = true ∧ (writeFields
       r.fields (s.rd (CPL_PORT_CFG p)) v).2 = false ∧ writeFields r.fields (s.rd (CPL_PORT_CFG p)) (keepField s
       (CPL_PORT_CFG_ENABLE p) v) = (w, false) ∧ (
     let u := (s.answer m .ok).wr (CPL_PORT_CFG p) w
     u.cplRate p = true)) ∧
    (let m : Master := .spi
     let p : Nat := 47
     let r : RegRow := (regRow (CPL_PORT_CFG p)).getD default
     let s := ready |>.set (CPL_PORT_CFG_ENABLE p) 1
     let v : Word := withField (s.rd (CPL_PORT_CFG p)) (CPL_PORT_CFG_ENABLE p) 0
     let w : Word := (writeFields r.fields (s.rd (CPL_PORT_CFG p)) (keepField s (CPL_PORT_CFG_ENABLE p) v)).1
     p < 48 ∧ s.verdict m (CPL_PORT_CFG p) = .row r ∧ s.on (CPL_PORT_CFG_ENABLE p) = true ∧ v.getLsbD 0 = false ∧ writeFields
       r.fields (s.rd (CPL_PORT_CFG p)) (keepField s (CPL_PORT_CFG_ENABLE p) v) = (w, false)) ∧
    (let p : Nat := 47
     let bytes : List Octet := List.replicate 12 0#8 ++ [0x88#8, 0xB5#8, 0x51#8, 0x5A#8, 0x43#8, 0x50#8, 1#8, 1#8, 3#8, 2#8,
       0x12#8, 0x34#8, 0x12#8, 0x34#8, 7#8]
     let s := ready |>.set (CPL_PORT_STATUS_STATE p) 1
     p < 48 ∧ s.get (CPL_PORT_STATUS_STATE p) ≠ 0 ∧ s.cplOn = true ∧ fromBE (slice bytes 12 2) = 0x88B5 ∧ bytes.length ≠ 60) ∧
    (let p : Nat := 47
     let bytes : List Octet := List.replicate 12 0#8 ++ [0x88#8, 0xB5#8, 0x51#8, 0x5A#8, 0x43#8, 0x50#8, 1#8, 1#8, 3#8, 2#8,
       0x12#8, 0x34#8, 0x12#8, 0x34#8, 7#8] ++ List.replicate 33 0#8
     let s := ready |>.set (CPL_PORT_STATUS_STATE p) 1 |>.set (CPL_PORT_STATUS_SEEN p) 1 |>.set (CPL_PORT_STATUS_SEEN 47) 1
     p < 48 ∧ s.get (CPL_PORT_STATUS_STATE p) = 1 ∧ s.cplOn = true ∧ s.on (CPL_PORT_STATUS_SEEN p) = true ∧ bytes.length = 60 ∧
       fromBE (slice bytes 12 2) = 0x88B5 ∧ fromBE (slice bytes 14 4) = 0x515A4350 ∧ fromBE (slice bytes 18 1) = 1 ∧ fromBE (slice
       bytes 19 1) = 1 ∧ fromBE (slice bytes 22 2) ≠ s.get CPL_NODE_ID ∧ (fromBE (slice bytes 20 1)).testBit 0 = true ∧ (
     let u := (s.set (CPL_PORT_FAR_ID_FAR_NODE p) (fromBE (slice bytes 22 2))).set (CPL_PORT_FAR_ID_FAR_GM p) (fromBE (slice
       bytes 24 2))
     let u := (u.set (CPL_PORT_FAR_INFO_FAR_HOP p) (fromBE (slice bytes 21 1))).set (CPL_PORT_FAR_INFO_FAR_PORT p) (fromBE
       (slice bytes 26 1))
     let u := (u.setB (CPL_PORT_STATUS_FAR_GM p) ((fromBE (slice bytes 20 1)).testBit 1)).setB (CPL_PORT_STATUS_FAR_TRACE p)
       ((fromBE (slice bytes 20 1)).testBit 2)
     u.on (CPL_PORT_STATUS_SEEN p) = true)) ∧
    (let s := ready |>.set (CPL_PORT_STATUS_STATE 47) 2 |>.set (PRT_STATUS_PCS_LOCK 47) 1 |>.set (PRT_CFG_LOOP 47) 0
     let p : Nat := 47
     p < 48 ∧ (s.get (CPL_PORT_STATUS_STATE p) = 1 ∨ s.get (CPL_PORT_STATUS_STATE p) = 2) ∧ s.cplOn = true ∧ s.lockSeen p = true) ∧
    (let s := ready
     let p : Nat := 0
     s.lockSeen p = false) := by
  decide +kernel

theorem witness_CouplingCommandsComplete_2 :
    (let p : Nat := 47
     let s := ready |>.set (CPL_PORT_STATUS_STATE p) 2
     let s : State := s.setSout p { s.sout p with tx := none }
     p < 48 ∧ 2 ≤ s.get (CPL_PORT_STATUS_STATE p) ∧ s.cplOn = true ∧ (s.sout p).tx = none) ∧
    (let p : Nat := 47
     let s := ready |>.set (CPL_PORT_STATUS_STATE p) 2
     let s : State := s.setSout 47 { s.sout 47 with tx := some default }
     p < 48 ∧ 2 ≤ s.get (CPL_PORT_STATUS_STATE p) ∧ s.cplOn = true ∧ (s.sout p).tx ≠ none) ∧
    (let p : Nat := 0
     let s := ready
     let s : State := s.setCplPort p { s.cplPort p with due := none }
     (s.cplPort p).due = none) ∧
    (let s := ready
     let s : State := s.setCplPort 47 { s.cplPort 47 with due := some s.cyc }
     let p : Nat := 47
     p < 48 ∧ (s.cplPort p).due ≠ none) ∧
    (let p : Nat := 47
     let bytes : List Octet := let b := [0#8, 9#8, 0#8, 0#8, 0x12#8, 0x34#8] ++ List.replicate 38 0#8; b ++ (octetsLE 4 (crc32
       b)).reverse
     let s := ready |>.set (CPL_PORT_STATUS_STATE p) 2
     let blocks : List Nat := (messageWords bytes).map fun w => couplingBlock w.1 w.2
     p < 48 ∧ 2 ≤ s.get (CPL_PORT_STATUS_STATE p) ∧ s.cplOn = true ∧ messageOf blocks = some bytes ∧ fromBE (slice bytes 44 4) =
       crc32 (bytes.take 44) ∧ (s.cplPort p).rxSeq ≠ some (fromBE (slice bytes 0 2)) ∧ fromBE (slice bytes 4 2) ≠ s.get
       CPL_NODE_ID) ∧
    (let p : Nat := 47
     let bytes : List Octet := let b := [0#8, 9#8, 0#8, 0#8, 0x12#8, 0x34#8] ++ List.replicate 38 0#8; b ++ (octetsLE 4 (crc32 b
       + 1)).reverse
     let s := ready |>.set (CPL_PORT_STATUS_STATE p) 2
     let blocks : List Nat := (messageWords bytes).map fun w => couplingBlock w.1 w.2
     p < 48 ∧ 2 ≤ s.get (CPL_PORT_STATUS_STATE p) ∧ s.cplOn = true ∧ messageOf blocks = some bytes ∧ fromBE (slice bytes 44 4) ≠
       crc32 (bytes.take 44)) := by
  decide +kernel

theorem witness_CouplingCommandsComplete_3 :
    (let p : Nat := 47
     let blocks : List Nat := []
     let s := ready |>.set (CPL_PORT_STATUS_STATE p) 2
     p < 48 ∧ 2 ≤ s.get (CPL_PORT_STATUS_STATE p) ∧ s.cplOn = true ∧ messageOf blocks = none) ∧
    (let p : Nat := 47
     let s := ready |>.set (CPL_PORT_STATUS_STATE p) 2
     p < 48 ∧ 2 ≤ s.get (CPL_PORT_STATUS_STATE p)) ∧
    (let s := ready
     let p : Nat := 0
     s.get (CPL_PORT_STATUS_STATE p) < 2) ∧
    (let s := ready |>.set (CPL_FEED_CFG_PORT 3) 6 |>.set (DPL_CFG_ENABLE 3) 1 |>.set (DPL_CFG_SRC 3) 3
     let m : Master := .spi
     let l : Nat := 3
     let v : Word := withField (s.rd (CPL_FEED_CFG l)) (CPL_FEED_CFG_PORT l) 5
     let r : RegRow := (regRow (CPL_FEED_CFG l)).getD default
     let w : Word := (writeFields r.fields (s.rd (CPL_FEED_CFG l)) v).1
     l < 4 ∧ s.verdict m (CPL_FEED_CFG l) = .row r ∧ writeFields r.fields (s.rd (CPL_FEED_CFG l)) v = (w, false) ∧ (
     let u := (s.answer m .ok).wr (CPL_FEED_CFG l) w
     u.get (CPL_FEED_CFG_PORT l) ≠ s.get (CPL_FEED_CFG_PORT l) ∧ u.fed l = true)) ∧
    (let s := ready
     let m : Master := .spi
     let v : Word := 0#32
     let r : RegRow := (regRow CPL_NODE).getD default
     let w : Word := (writeFields r.fields (s.rd CPL_NODE) v).1
     s.verdict m CPL_NODE = .row r ∧ ((List.range 48).all fun p => !s.on (CPL_PORT_CFG_ENABLE p)) = true ∧ writeFields r.fields
       (s.rd CPL_NODE) v = (w, false)) ∧
    (let s := ready
     let l : Nat := 3
     l < 4 ∧ (s.feed l).bf.natAbs ≤ (s.rd CPL_BLEED).toNat) := by
  decide +kernel

theorem witness_CouplingCommandsComplete_4 :
    (let s := ready
     let s : State := s.wr CPL_BLEED 0
     let s : State := s.setFeed 3 { s.feed 3 with bf := 5 }
     let l : Nat := 3
     (s.rd CPL_BLEED).toNat < (s.feed l).bf.natAbs) := by
  decide +kernel

theorem witness_GaugeCommandsComplete_1 :
    (let s := ready |>.set (GAU_CFG_ENABLE 63) 0
     let m : Master := .spi
     let n : Nat := 63
     let v : Word := withField (withField 1#32 (GAU_CFG_SRC 63) 0x11) (GAU_CFG_STOP_SRC 63) 0x12
     let r : RegRow := (regRow (GAU_CFG n)).getD default
     let w : Word := (writeFields r.fields (s.rd (GAU_CFG n)) (keepField s (GAU_CFG_ENABLE n) v)).1
     n < 64 ∧ s.verdict m (GAU_CFG n) = .row r ∧ s.on (GAU_CFG_ENABLE n) = false ∧ v.getLsbD 0 = true ∧ fieldOf (GAU_CFG_SRC n)
       v ≠ defaultSource n ∧ sourceCode (fieldOf (GAU_CFG_SRC n) v) = true ∧ sourceCode (fieldOf (GAU_CFG_STOP_SRC n) v) = true ∧
       writeFields r.fields (s.rd (GAU_CFG n)) (keepField s (GAU_CFG_ENABLE n) v) = (w, false) ∧ (
     let u := (s.answer m .ok).wr (GAU_CFG n) w
     u.on (GAU_CFG_MODE n) = false)) ∧
    (let m : Master := .spi
     let n : Nat := 63
     let v : Word := 0#32
     let r : RegRow := (regRow (GAU_CFG n)).getD default
     let s := ready |>.set (GAU_CFG_ENABLE n) 1
     let w : Word := (writeFields r.fields (s.rd (GAU_CFG n)) (keepField s (GAU_CFG_ENABLE n) v)).1
     n < 64 ∧ s.verdict m (GAU_CFG n) = .row r ∧ s.on (GAU_CFG_ENABLE n) = true ∧ v.getLsbD 0 = false ∧ fieldOf (GAU_CFG_SRC n)
       v ≠ defaultSource n ∧ sourceCode (fieldOf (GAU_CFG_SRC n) v) = true ∧ sourceCode (fieldOf (GAU_CFG_STOP_SRC n) v) = true ∧
       writeFields r.fields (s.rd (GAU_CFG n)) (keepField s (GAU_CFG_ENABLE n) v) = (w, false)) ∧
    (let s := ready |>.set (GAU_CFG_ENABLE 63) 0
     let n : Nat := 63
     let src : Nat := 0
     let e : Edge := default
     (s.gaugeStopped n = true ∨ s.gaugeSource n ≠ src ∨ s.signal src = false ∨ e.falling ≠ s.startFalling n)) ∧
    (let n : Nat := 63
     let src : Nat := 1
     let e : Edge := { (default : Edge) with m := 1000, r := 5, c1 := 1, c2 := 9 }
     let x : Nat := 2040000
     let s := ready |>.set (GAU_CFG_ENABLE 63) 1 |>.set (GAU_CFG_SRC 63) 1 |>.set (GAU_CFG_STOP_SRC 63) 2
     let s : State := s.setGauge n { s.gauge n with gate := none }
     let s : State := s.setGauge n { s.gauge n with held := [] }
     let s : State := s.setGauge n { s.gauge n with lastStart := some x }
     n < 64 ∧ s.sees n src (s.gaugeSource n) e.falling (s.startFalling n) (s.gauge n).seenStart e.time = true ∧ (s.gauge n).gate
       = none ∧ (s.gauge n).held = [] ∧ s.on GAU_GLB_STATUS_THROTTLED = false ∧ (s.gauge n).lastStart = some x ∧ e.time < x +
       1024000) ∧
    (let n : Nat := 63
     let src : Nat := 1
     let e : Edge := { (default : Edge) with m := 1000, r := 5, c1 := 1, c2 := 9 }
     let x : Nat := 1000000
     let s := ready |>.set (GAU_CFG_ENABLE 63) 1 |>.set (GAU_CFG_SRC 63) 1 |>.set (GAU_CFG_STOP_SRC 63) 2 |>.set
       (GAU_HOLDOFF_HOLDOFF 63) 1000
     let s : State := s.setGauge n { s.gauge n with gate := none }
     let s : State := s.setGauge n { s.gauge n with held := [] }
     let s : State := s.setGauge n { s.gauge n with lastStart := some x }
     n < 64 ∧ s.sees n src (s.gaugeSource n) e.falling (s.startFalling n) (s.gauge n).seenStart e.time = true ∧ (s.gauge n).gate
       = none ∧ (s.gauge n).held = [] ∧ s.on GAU_GLB_STATUS_THROTTLED = false ∧ (s.gauge n).lastStart = some x ∧ x + 1024000 ≤
       e.time ∧ e.time < x + 2048 * s.get (GAU_HOLDOFF_HOLDOFF n)) ∧
    (let n : Nat := 63
     let src : Nat := 1
     let e : Edge := { (default : Edge) with m := 1000, r := 5, c1 := 1, c2 := 9 }
     let x : Nat := 2040000
     let s := ready |>.set (GAU_GLB_STATUS_THROTTLED) 1 |>.set (GAU_CFG_ENABLE 63) 1 |>.set (GAU_CFG_SRC 63) 1 |>.set
       (GAU_CFG_STOP_SRC 63) 2 |>.set (GAU_GLB_STATUS_THROTTLED) 1
     let s : State := s.setGauge n { s.gauge n with gate := none }
     let s : State := s.setGauge n { s.gauge n with held := [] }
     let s : State := s.setGauge n { s.gauge n with lastStart := some x }
     n < 64 ∧ s.sees n src (s.gaugeSource n) e.falling (s.startFalling n) (s.gauge n).seenStart e.time = true ∧ (s.gauge n).gate
       = none ∧ (s.gauge n).held = [] ∧ s.on GAU_GLB_STATUS_THROTTLED = true ∧ (s.gauge n).lastStart = some x ∧ e.time < x +
       10240000) := by
  decide +kernel

theorem witness_GaugeCommandsComplete_2 :
    (let n : Nat := 63
     let src : Nat := 1
     let e : Edge := { (default : Edge) with m := 1000, r := 5, c1 := 1, c2 := 9 }
     let s := ready |>.set (GAU_CFG_ENABLE 63) 1 |>.set (GAU_CFG_SRC 63) 1 |>.set (GAU_CFG_STOP_SRC 63) 2
     let s : State := s.setGauge n { s.gauge n with gate := none }
     let s : State := s.setGauge n { s.gauge n with held := [] }
     let s : State := s.setGauge n { s.gauge n with lastStart := none }
     let s : State := s.setGauge n { s.gauge n with conv := none }
     n < 64 ∧ s.sees n src (s.gaugeSource n) e.falling (s.startFalling n) (s.gauge n).seenStart e.time = true ∧ (s.gauge n).gate
       = none ∧ (s.gauge n).held = [] ∧ (s.gauge n).lastStart = none ∧ (s.gauge n).conv = none ∧ s.on (GAU_CFG_MODE n) = false) ∧
    (let n : Nat := 63
     let src : Nat := 1
     let e : Edge := { (default : Edge) with m := 1000, r := 5, c1 := 1, c2 := 9 }
     let s := ready |>.set (GAU_CFG_MODE n) 1 |>.set (GAU_CFG_ENABLE 63) 1 |>.set (GAU_CFG_SRC 63) 1 |>.set (GAU_CFG_STOP_SRC
       63) 2
     let s : State := s.setGauge n { s.gauge n with gate := none }
     let s : State := s.setGauge n { s.gauge n with held := [] }
     let s : State := s.setGauge n { s.gauge n with lastStart := none }
     let s : State := s.setGauge n { s.gauge n with conv := none }
     let s : State := s.setGauge n { s.gauge n with stop := none }
     n < 64 ∧ s.sees n src (s.gaugeSource n) e.falling (s.startFalling n) (s.gauge n).seenStart e.time = true ∧ (s.gauge n).gate
       = none ∧ (s.gauge n).held = [] ∧ (s.gauge n).lastStart = none ∧ (s.gauge n).conv = none ∧ s.on (GAU_CFG_MODE n) = true ∧
       (s.gauge n).stop = none) ∧
    (let n : Nat := 63
     let src : Nat := 2
     let e : Edge := { (default : Edge) with m := 1000, r := 5, c1 := 1, c2 := 9 }
     let b : Taken1 := ⟨2040000, 0, true⟩
     let w : Nat := 10000
     let s := ready |>.set (GAU_CFG_MODE n) 1 |>.set (GAU_CFG_ENABLE 63) 1 |>.set (GAU_CFG_SRC 63) 1 |>.set (GAU_CFG_STOP_SRC
       63) 2
     let s : State := s.setGauge n { s.gauge n with gate := some (b, w) }
     let s : State := s.setGauge n { s.gauge n with lastStop := none }
     let s : State := s.setGauge n { s.gauge n with held := [] }
     let s : State := s.setGauge n { s.gauge n with sconv := none }
     n < 64 ∧ s.on (GAU_CFG_MODE n) = true ∧ s.sees n src (s.get (GAU_CFG_STOP_SRC n)) e.falling (s.on (GAU_CFG_STOP_EDGE n))
       (s.gauge n).seenStop e.time = true ∧ (s.gauge n).gate = some (b, w) ∧ b.t < e.time ∧ e.time ≤ b.t + w ∧ (s.gauge
       n).lastStop = none ∧ (s.gauge n).held = [] ∧ (s.gauge n).sconv = none) ∧
    (let s := ready
     let n : Nat := 0
     let src : Nat := 0
     let e : Edge := default
     (s.on (GAU_CFG_MODE n) = false ∨ s.gaugeStopped n = true ∨ s.get (GAU_CFG_STOP_SRC n) ≠ src ∨ s.signal src = false ∨
       e.falling ≠ s.on (GAU_CFG_STOP_EDGE n))) ∧
    (let n : Nat := 63
     let e : Taken1 := ⟨2000, 0, true⟩
     let s := ready |>.set (GAU_CFG_ENABLE 63) 1 |>.set (GAU_CFG_SRC 63) 1 |>.set (GAU_CFG_STOP_SRC 63) 2
     let s : State := s.setGauge n { s.gauge n with conv := some e }
     let s : State := s.setGauge n { s.gauge n with sconv := none }
     n < 64 ∧ s.gaugeStopped n = false ∧ (s.gauge n).conv = some e ∧ (s.gauge n).sconv = none ∧ s.on (GAU_CFG_MODE n) = false) ∧
    (let n : Nat := 0
     let s := ready
     let s : State := s.setGauge n { s.gauge n with conv := none }
     let s : State := s.setGauge n { s.gauge n with sconv := none }
     (s.gauge n).conv = none ∧ (s.gauge n).sconv = none) := by
  decide +kernel

theorem witness_GaugeCommandsComplete_3 :
    (let n : Nat := 63
     let w : Nat := 5000
     let b : Taken1 := ⟨2000, 0, true⟩
     let p : Taken1 := ⟨1000, 0, true⟩
     let s := ready |>.set (GAU_CFG_ENABLE 63) 1 |>.set (GAU_CFG_SRC 63) 1 |>.set (GAU_CFG_STOP_SRC 63) 2
     let s : State := s.setGauge n { s.gauge n with gate := some (b, w) }
     let s : State := s.setGauge n { s.gauge n with stop := some p }
     let s : State := s.setGauge n { s.gauge n with paired := false }
     let s : State := s.setGauge 63 { s.gauge 63 with conv := some ⟨1, 0, true⟩ }
     n < 64 ∧ s.gaugeStopped n = false ∧ (s.gauge n).gate = some (b, w) ∧ (s.gauge n).stop = some p ∧ (s.gauge n).paired = false
       ∧ p.t + 1 < b.t ∧ b.t ≤ p.t + w ∧ (s.gauge n).conv ≠ none) ∧
    (let n : Nat := 63
     let w : Nat := 5000
     let b : Taken1 := ⟨2000, 0, true⟩
     let p : Taken1 := ⟨3000, 0, true⟩
     let s := ready |>.set (GAU_CFG_ENABLE 63) 1 |>.set (GAU_CFG_SRC 63) 1 |>.set (GAU_CFG_STOP_SRC 63) 2
     let s : State := s.setGauge n { s.gauge n with gate := some (b, w) }
     let s : State := s.setGauge n { s.gauge n with stop := some p }
     n < 64 ∧ s.gaugeStopped n = false ∧ (s.gauge n).gate = some (b, w) ∧ (s.gauge n).stop = some p ∧ ((s.gauge n).paired = true
       ∨ b.t < p.t ∨ p.t + w < b.t)) ∧
    (let n : Nat := 63
     let w : Nat := 5000
     let e : Taken1 := ⟨2000, 0, true⟩
     let s := ready |>.set (GAU_CFG_ENABLE 63) 1 |>.set (GAU_CFG_SRC 63) 1 |>.set (GAU_CFG_STOP_SRC 63) 2
     let s : State := s.setGauge n { s.gauge n with gate := some (e, w) }
     let s : State := s.setGauge n { s.gauge n with stop := none }
     n < 64 ∧ s.gaugeStopped n = false ∧ (s.gauge n).gate = some (e, w) ∧ (s.gauge n).stop = none) ∧
    (let n : Nat := 0
     let s := ready
     let s : State := s.setGauge n { s.gauge n with gate := none }
     (s.gauge n).gate = none) ∧
    (let m : Master := .spi
     let n : Nat := 63
     let v : Word := (1#32 : Word)
     let r : RegRow := (regRow (GAU_STAT_CTRL n)).getD default
     let s := ready |>.set (GAU_STAT_CFG_N 63) 5 |>.set (GAU_CFG_ENABLE 63) 1 |>.set (GAU_CFG_MODE 63) 1 |>.set
       (GAU_STAT_CFG_QTY 63) 0
     let s : State := s.setGauge n { s.gauge n with run := none }
     n < 64 ∧ s.verdict m (GAU_STAT_CTRL n) = .row r ∧ v.getLsbD 0 = true ∧ v.getLsbD 1 = false ∧ (s.gauge n).run = none ∧
       s.statTaken n = true) ∧
    (let m : Master := .spi
     let n : Nat := 63
     let v : Word := (2#32 : Word)
     let r : RegRow := (regRow (GAU_STAT_CTRL n)).getD default
     let x : Nat × Nat := default
     let s := ready
     let s : State := s.setGauge n { s.gauge n with run := some x }
     n < 64 ∧ s.verdict m (GAU_STAT_CTRL n) = .row r ∧ v.getLsbD 0 = false ∧ v.getLsbD 1 = true ∧ (s.gauge n).run = some x ∧
       s.gaugeMailbox n = none) := by
  decide +kernel

theorem witness_EdgeSpanIsLinear :
    (let e : Edge := { (default : Edge) with r := 5, c1 := 1, c2 := 9 }
     e.c1 ≤ e.r ∧ e.r ≤ e.c2 ∧ e.c1 < e.c2) ∧
    (let e : Edge := { (default : Edge) with r := 1, c1 := 1, c2 := 9 }
     e.r = e.c1 ∧ e.c1 < e.c2) ∧
    (let e : Edge := { (default : Edge) with r := 9, c1 := 1, c2 := 9 }
     e.r = e.c2 ∧ e.c1 < e.c2) := by
  decide +kernel

theorem witness_ForwardingCommandsComplete_1 :
    (let p : Nat := 47
     let head : List Octet := []
     let s := ready |>.set (PRT_STATUS_STATE p) 3
     let s : State := s.setPort p { s.port p with lost := false }
     let s : State := s.setPort p { s.port p with rx := none }
     p < 48 ∧ s.portUp p = true ∧ (s.port p).lost = false ∧ (s.port p).rx = none ∧ s.nearLoop p = false ∧ s.framesStopped =
       false ∧ s.stageOne p head = false) ∧
    (let p : Nat := 47
     let s := ready |>.set (PRT_STATUS_STATE p) 3
     let s : State := s.setPort p { s.port p with lost := false }
     let s : State := s.setPort p { s.port p with rx := none }
     let s : State := s.set CGU_GATE_STATUS_GATED (2 ^ 18)
     p < 48 ∧ s.portUp p = true ∧ (s.port p).lost = false ∧ (s.port p).rx = none ∧ s.nearLoop p = false ∧ s.framesStopped = true) ∧
    (let s := ready
     let p : Nat := 0
     (s.portUp p = false ∨ s.nearLoop p = true)) ∧
    (let p : Nat := 47
     let id : Nat := 9
     let f : Frame := aFrame
     let s := ready
     let s : State := s.setPort p { s.port p with rx := some id }
     let s : State := { s with buf := { s.buf with frames := [aFrame] } }
     let s : State := s.setPort 47 { s.port 47 with rx := some 9 }
     p < 48 ∧ s.nearLoop p = false ∧ (s.port p).rx = some id ∧ s.frame? id = some f ∧ s.gateIn 17 = false) ∧
    (let p : Nat := 47
     let id : Nat := 9
     let f : Frame := aFrame
     let s := ready
     let s : State := s.setPort p { s.port p with rx := some id }
     let s : State := { s with buf := { s.buf with frames := [aFrame] } }
     let s : State := s.setPort 47 { s.port 47 with rx := some 9 }
     let s : State := s.set CGU_GATE_STATUS_GATED (2 ^ 17)
     p < 48 ∧ s.nearLoop p = false ∧ (s.port p).rx = some id ∧ s.frame? id = some f ∧ s.gateIn 17 = true) ∧
    (let p : Nat := 47
     let s := ready
     let s : State := s.setPort p { s.port p with rx := none }
     p < 48 ∧ s.nearLoop p = false ∧ (s.port p).rx = none) := by
  decide +kernel

theorem witness_ForwardingCommandsComplete_2 :
    (let s := ready |>.set (PRT_CFG_LOOP 47) 1
     let p : Nat := 47
     s.nearLoop p = true) ∧
    (let s := ready
     let m : Master := .spi
     let v : Word := (2147483648#32 : Word)
     let r : RegRow := (regRow FWD_TBL_CMD).getD default
     let w : Word := (writeFields r.fields (s.rd FWD_TBL_CMD) (v &&& 0x7FFFFFFF#32)).1
     s.verdict m FWD_TBL_CMD = .row r ∧ s.on FWD_TBL_CMD_BUSY = false ∧ v.getLsbD 31 = true ∧ (writeFields r.fields (s.rd
       FWD_TBL_CMD) v).2 = false ∧ writeFields r.fields (s.rd FWD_TBL_CMD) (v &&& 0x7FFFFFFF#32) = (w, false) ∧ (
     let u := (s.answer m .ok).wr FWD_TBL_CMD w
     u.get FWD_TBL_CMD_OP = 0)) ∧
    (let s := ready
     let m : Master := .spi
     let v : Word := withField 0x80000000#32 FWD_TBL_CMD_OP 1
     let r : RegRow := (regRow FWD_TBL_CMD).getD default
     let w : Word := (writeFields r.fields (s.rd FWD_TBL_CMD) (v &&& 0x7FFFFFFF#32)).1
     s.verdict m FWD_TBL_CMD = .row r ∧ s.on FWD_TBL_CMD_BUSY = false ∧ v.getLsbD 31 = true ∧ (writeFields r.fields (s.rd
       FWD_TBL_CMD) v).2 = false ∧ writeFields r.fields (s.rd FWD_TBL_CMD) (v &&& 0x7FFFFFFF#32) = (w, false) ∧ (
     let u := (s.answer m .ok).wr FWD_TBL_CMD w
     u.get FWD_TBL_CMD_OP = 1)) ∧
    (let s := ready
     let m : Master := .spi
     let v : Word := withField 0x80000000#32 FWD_TBL_CMD_OP 2
     let r : RegRow := (regRow FWD_TBL_CMD).getD default
     let w : Word := (writeFields r.fields (s.rd FWD_TBL_CMD) (v &&& 0x7FFFFFFF#32)).1
     s.verdict m FWD_TBL_CMD = .row r ∧ s.on FWD_TBL_CMD_BUSY = false ∧ v.getLsbD 31 = true ∧ (writeFields r.fields (s.rd
       FWD_TBL_CMD) v).2 = false ∧ writeFields r.fields (s.rd FWD_TBL_CMD) (v &&& 0x7FFFFFFF#32) = (w, false) ∧ (
     let u := (s.answer m .ok).wr FWD_TBL_CMD w
     u.get FWD_TBL_CMD_OP = 2)) ∧
    (let s := ready
     let m : Master := .spi
     let v : Word := withField 0x80000000#32 FWD_TBL_CMD_OP 3
     let r : RegRow := (regRow FWD_TBL_CMD).getD default
     let w : Word := (writeFields r.fields (s.rd FWD_TBL_CMD) (v &&& 0x7FFFFFFF#32)).1
     s.verdict m FWD_TBL_CMD = .row r ∧ s.on FWD_TBL_CMD_BUSY = false ∧ v.getLsbD 31 = true ∧ (writeFields r.fields (s.rd
       FWD_TBL_CMD) v).2 = false ∧ writeFields r.fields (s.rd FWD_TBL_CMD) (v &&& 0x7FFFFFFF#32) = (w, false) ∧ (
     let u := (s.answer m .ok).wr FWD_TBL_CMD w
     u.get FWD_TBL_CMD_OP = 3)) ∧
    (let s := ready
     let m : Master := .spi
     let v : Word := withField 0x80000000#32 FWD_TBL_CMD_OP 4
     let r : RegRow := (regRow FWD_TBL_CMD).getD default
     let w : Word := (writeFields r.fields (s.rd FWD_TBL_CMD) (v &&& 0x7FFFFFFF#32)).1
     s.verdict m FWD_TBL_CMD = .row r ∧ s.on FWD_TBL_CMD_BUSY = false ∧ v.getLsbD 31 = true ∧ (writeFields r.fields (s.rd
       FWD_TBL_CMD) v).2 = false ∧ writeFields r.fields (s.rd FWD_TBL_CMD) (v &&& 0x7FFFFFFF#32) = (w, false) ∧ (
     let u := (s.answer m .ok).wr FWD_TBL_CMD w
     u.get FWD_TBL_CMD_OP = 4)) := by
  decide +kernel

theorem witness_ForwardingCommandsComplete_3 :
    (let s := ready
     let m : Master := .spi
     let v : Word := withField 0x80000000#32 FWD_TBL_CMD_OP 5
     let r : RegRow := (regRow FWD_TBL_CMD).getD default
     let w : Word := (writeFields r.fields (s.rd FWD_TBL_CMD) (v &&& 0x7FFFFFFF#32)).1
     s.verdict m FWD_TBL_CMD = .row r ∧ s.on FWD_TBL_CMD_BUSY = false ∧ v.getLsbD 31 = true ∧ (writeFields r.fields (s.rd
       FWD_TBL_CMD) v).2 = false ∧ writeFields r.fields (s.rd FWD_TBL_CMD) (v &&& 0x7FFFFFFF#32) = (w, false) ∧ (
     let u := (s.answer m .ok).wr FWD_TBL_CMD w
     u.get FWD_TBL_CMD_OP = 5)) ∧
    (let s := ready |>.set (FWD_CFG_AGE_TIME) 1
     s.get FWD_CFG_AGE_TIME ≠ 0 ∧ s.gateIn 16 = false) ∧
    (let s := ready |>.set (FWD_CFG_AGE_TIME) 0
     s.get FWD_CFG_AGE_TIME = 0) := by
  decide +kernel

theorem witness_BufferCommandsComplete_1 :
    (let p : Nat := 47
     let s := ready |>.set (BUF_IN_STATUS_XOFF_STATE p) 1 |>.set (PRT_STATUS_STATE p) 3 |>.set (PRT_MAC_PFC_EN 47) 1
     let s : State := s.setSout p { s.sout p with tx := none }
     p < 48 ∧ s.on (BUF_IN_STATUS_XOFF_STATE p) = true ∧ s.gateIn 17 = false ∧ (s.on (PRT_MAC_PFC_EN p) = true ∨ s.on
       (PRT_STATUS_PAUSE_TX p) = true) ∧ s.portUp p = true ∧ (s.sout p).tx = none ∧ s.macOpen p = true) ∧
    (let s := ready
     let p : Nat := 0
     s.on (BUF_IN_STATUS_XOFF_STATE p) = false) ∧
    (let s := ready
     let o : Nat := 47
     let c : Nat := 7
     o < 48 ∧ c < 8 ∧ s.gateIn 17 = false) ∧
    (let o : Nat := 47
     let c : Nat := 7
     let s := ready |>.set (BUF_OUT_CFG_PAUSE_WD o) 1 |>.set (PRT_STATUS_PAUSED 47) 0x80
     o < 48 ∧ c < 8 ∧ (s.get (PRT_STATUS_PAUSED o)).testBit c = true ∧ s.get (BUF_OUT_CFG_PAUSE_WD o) ≠ 0 ∧ s.gateIn 17 = false) ∧
    (let p : Nat := 47
     let c : Nat := 7
     p < 48 ∧ c < 8) ∧
    (let o : Nat := 47
     let s := ready |>.set (BUF_OUT_STATUS_SIDING o) 1
     o < 48 ∧ s.get (BUF_OUT_STATUS_SIDING o) = 1 ∧ s.gateIn 17 = false) := by
  decide +kernel

theorem witness_BufferCommandsComplete_2 :
    (let s := ready
     let o : Nat := 0
     s.get (BUF_OUT_STATUS_SIDING o) ≠ 1) ∧
    (let o : Nat := 47
     let s := ready |>.set (BUF_OUT_STATUS_SIDING o) 2 |>.set (PRT_STATUS_STATE 47) 3
     o < 48 ∧ s.get (BUF_OUT_STATUS_SIDING o) = 2 ∧ s.gateIn 17 = false ∧ (∀ c ∈ s.buf.copies, c.out = o → c.place ≠ .queued ∧
       c.place ≠ .slot) ∧ s.regsWf = true ∧ s.portUp o = true) ∧
    (let o : Nat := 47
     let s := ready |>.set (BUF_OUT_STATUS_SIDING o) 2
     o < 48 ∧ s.get (BUF_OUT_STATUS_SIDING o) = 2 ∧ s.gateIn 17 = false ∧ (∀ c ∈ s.buf.copies, c.out = o → c.place ≠ .queued ∧
       c.place ≠ .slot) ∧ s.regsWf = true ∧ s.portUp o = false) ∧
    (let s := ready
     let o : Nat := 0
     (s.get (BUF_OUT_STATUS_SIDING o) ≠ 2 ∨ s.gateIn 17 = true)) ∧
    (let s := ready
     let m : Master := .spi
     let v : Word := (1#32 : Word)
     let r : RegRow := (regRow BUF_CTRL).getD default
     s.verdict m BUF_CTRL = .row r ∧ v.getLsbD 0 = true ∧ v.getLsbD 1 = false) ∧
    (let s := ready
     let m : Master := .spi
     let v : Word := (2#32 : Word)
     let r : RegRow := (regRow BUF_CTRL).getD default
     s.verdict m BUF_CTRL = .row r ∧ v.getLsbD 0 = false ∧ v.getLsbD 1 = true) := by
  decide +kernel

theorem witness_SchedulerCommandsComplete_1 :
    (let s := ready
     s.queuesStill = false) ∧
    (let s := ready
     let s : State := s.set CGU_GATE_STATUS_GATED (2 ^ 18)
     s.queuesStill = true) ∧
    (let d : Nat := 3
     let o : Nat := 47
     let c : Nat := 2
     let x : Copy := aCopy 47 false .queued
     let s := ready |>.set (SCH_OUT_CFG_AGE_THR o) 1 |>.set (PRT_STATUS_STATE 47) 3 |>.set (BUF_OUT_STATUS_SIDING 47) 0
     let s : State := holding (aCopy 47 false .queued) s
     d < 4 ∧ o < 48 ∧ c < 8 ∧ s.get (SCH_OUT_CFG_AGE_THR o) ≠ 0 ∧ s.topCoach o ≠ c ∧ s.queuesStill = false ∧ ((s.depotCopies d o
       c).find? fun x => !x.mail && x.place == .queued) = some x ∧ x.promoted = 0 ∧ s.paused o c = false ∧ s.gateOpenFor o c =
       true ∧ s.portUp o = true ∧ s.siding o = 0) ∧
    (let o : Nat := 0
     let s := ready |>.set (SCH_OUT_CFG_AGE_THR o) 0
     s.get (SCH_OUT_CFG_AGE_THR o) = 0) ∧
    (let o : Nat := 49
     let c : Copy := aCopy 49 false .slot
     let f : Frame := aFrame
     let s := ready
     let s : State := s.setSout o { s.sout o with tx := none }
     let s : State := holding (aCopy 49 false .slot) s
     48 ≤ o ∧ o < 50 ∧ s.queuesStill = false ∧ s.slotCopy o = some c ∧ s.frame? c.frame = some f ∧ f.ended = true ∧ (s.sout
       o).tx = none) ∧
    (let s := ready |>.set (PRT_STATUS_STATE 47) 3 |>.set (BUF_OUT_STATUS_SIDING 47) 0
     let s : State := holding (aCopy 47 false .slot) s
     let o : Nat := 47
     let c : Copy := aCopy 47 false .slot
     let f : Frame := aFrame
     o < 48 ∧ s.queuesStill = false ∧ (s.slotCheck o).slotCopy o = some c ∧ (s.slotCheck o).frame? c.frame = some f ∧ f.ended =
       true ∧ (
     let u := s.slotCheck o
     u.macFree o = true ∧ (u.sout o).cut = none ∧ u.on (SCH_OUT_STATUS_HOLD o) = false ∧ u.siding o = 0 ∧ u.gateAllows c = true
       ∧ u.mailFits o (u.copyLen c) = true)) := by
  decide +kernel

theorem witness_SchedulerCommandsComplete_2 :
    (let s := ready
     let o : Nat := 48
     48 ≤ o ∧ s.slotCopy o = none) ∧
    (let s := ready
     let m : Master := .spi
     let v : Word := (1#32 : Word)
     let r : RegRow := (regRow SCH_CTRL).getD default
     s.verdict m SCH_CTRL = .row r ∧ v.getLsbD 0 = true) ∧
    (let x : Tx := { (default : Tx) with copy := 3 }
     let c : Copy := aCopy 49 false .line
     let f : Frame := aFrame
     let s := ready
     let s : State := s.setSout 49 { s.sout 49 with tx := some x }
     let s : State := holding (aCopy 49 false .line) s
     let s : State := s.setSout 49 { s.sout 49 with tx := some { (default : Tx) with copy := 3 } }
     (s.sout 49).tx = some x ∧ s.copy? x.copy = some c ∧ s.frame? c.frame = some f ∧ f.ended = true ∧ x.stomp = false ∧ s.gateIn
       17 = false) ∧
    (let o : Nat := 47
     let x : Tx := { (default : Tx) with copy := 3 }
     let c : Copy := aCopy 47 false .line
     let f : Frame := aFrame
     let s := ready
     let s : State := s.setSout o { s.sout o with tx := some x }
     let s : State := holding (aCopy 47 false .line) s
     let s : State := s.setSout 47 { s.sout 47 with tx := some { (default : Tx) with copy := 3 } }
     o < 48 ∧ (s.sout o).tx = some x ∧ s.copy? x.copy = some c ∧ s.frame? c.frame = some f ∧ f.ended = true ∧ x.stomp = false ∧
       x.preempts = 0 ∧ s.gateIn 17 = false ∧ s.nearLoop o = false ∧ (
     let u := s.wholeOut f x o
     let t := u.1.setSout o { u.1.sout o with tx := none }
     t.macOpen o = true)) ∧
    (let s := ready |>.set (PRT_CFG_LOOP 47) 1
     let s : State := holding (aCopy 47 false .line) s
     let s : State := s.setSout 47 { s.sout 47 with tx := some { (default : Tx) with copy := 3 } }
     let o : Nat := 47
     let bs : List Octet := ((s.loopOut 47).map (·.1)).getD []
     let k : FrameEnd := ((s.loopOut 47).map (·.2)).getD .good
     o < 48 ∧ s.loopOut o = some (bs, k)) ∧
    (let o : Nat := 0
     let s := ready
     let s : State := s.setSout o { s.sout o with tx := none }
     (s.sout o).tx = none) := by
  decide +kernel

theorem witness_MailAndGateCommandsComplete_1 :
    (let s := ready
     let s : State := holding (aCopy 47 true .queued) s
     let o : Nat := 47
     let c : Copy := aCopy 47 true .queued
     o < 48 ∧ s.queuesStill = false ∧ ((s.mailPending o).find? fun c => !c.fetched) = some c) ∧
    (let s := ready
     let o : Nat := 0
     (∀ c ∈ s.mailPending o, c.fetched = true)) ∧
    (let s := ready |>.set (PRT_STATUS_PREEMPT_ACTIVE 47) 1
     let s : State := holding (aCopy 47 true .queued) s
     let o : Nat := 47
     o < 48 ∧ s.preempting o = true ∧ s.queuesStill = false ∧ s.mailPending o ≠ []) ∧
    (let s := ready
     let o : Nat := 0
     s.preempting o = false) ∧
    (let s := ready |>.set (PRT_STATUS_STATE 47) 3
     let s : State := holding (aCopy 47 true .queued) s
     let o : Nat := 47
     let c : Copy := aCopy 47 true .queued
     o < 48 ∧ s.queuesStill = false ∧ s.siding o ≠ 2 ∧ s.mailPending o = [c] ∧ s.portUp o = true) ∧
    (let s := ready
     let s : State := holding (aCopy 47 true .queued) s
     let o : Nat := 47
     let c : Copy := aCopy 47 true .queued
     o < 48 ∧ s.queuesStill = false ∧ s.siding o ≠ 2 ∧ s.mailPending o = [c] ∧ s.portUp o = false) := by
  decide +kernel

theorem witness_MailAndGateCommandsComplete_2 :
    (let s := ready
     let o : Nat := 0
     s.mailPending o = []) ∧
    (let s := ready
     let s : State := holding ({ aCopy 47 true .queued with waited := true, seq := 5 }) s
     let s : State := { s with sch := { s.sch with streams := smPut s.sch.streams (streamKey 47 47 2) (some { (default : Stream) with next := 3 }) } }
     let o : Nat := 47
     let c : Copy := { aCopy 47 true .queued with waited := true, seq := 5 }
     o < 48 ∧ s.queuesStill = false ∧ ((s.mailPending o).find? fun c => c.waited && s.rsqWord c != .leave) = some c ∧ (∀ d ∈
       s.mailPending o, d.adm ≠ s.cyc)) ∧
    (let s := ready
     let o : Nat := 0
     (∀ c ∈ s.mailPending o, c.waited = false)) ∧
    (let s := ready
     let i : Nat := 49
     let o : Nat := 47
     let c : Nat := 7
     i < 50 ∧ o < 48 ∧ c < 8 ∧ (∀ x ∈ s.buf.copies, ¬(x.mail = true ∧ x.inp = i ∧ x.out = o ∧ x.cls = c ∧ x.place = .queued))) ∧
    (let s := ready
     let m : Master := .spi
     let o : Nat := 47
     let v : Word := (1#32 : Word)
     let r : RegRow := (regRow (SCH_GCL_CTRL o)).getD default
     o < 48 ∧ s.verdict m (SCH_GCL_CTRL o) = .row r ∧ v.getLsbD 0 = true ∧ s.on (SCH_GCL_STATUS_PENDING o) = false) ∧
    (let m : Master := .spi
     let o : Nat := 47
     let v : Word := (1#32 : Word)
     let r : RegRow := (regRow (SCH_GCL_CTRL o)).getD default
     let s := ready |>.set (SCH_GCL_STATUS_PENDING o) 1
     o < 48 ∧ s.verdict m (SCH_GCL_CTRL o) = .row r ∧ v.getLsbD 0 = true ∧ s.on (SCH_GCL_STATUS_PENDING o) = true) := by
  decide +kernel

theorem witness_MailAndGateCommandsComplete_3 :
    (let o : Nat := 47
     let at_ : Nat := 0
     let len : Nat := 0
     let base : Nat := 0
     let cycle : Nat := 0
     let s := ready
     let s : State := s.setSout o { s.sout o with change := some (at_, len, base, cycle) }
     o < 48 ∧ (s.sout o).change = some (at_, len, base, cycle) ∧ s.gateIn 18 = false ∧ at_ * nsUnit < s.domTime (s.get
       SCH_CFG_DOM) + (s.dom (s.get SCH_CFG_DOM)).inc) ∧
    (let o : Nat := 0
     let s := ready
     let s : State := s.setSout o { s.sout o with change := none }
     (s.sout o).change = none) ∧
    (let o : Nat := 0
     let at_ : Nat := 10 ^ 12
     let len : Nat := 0
     let base : Nat := 0
     let cycle : Nat := 0
     let s := ready
     let s : State := s.setSout o { s.sout o with change := some (at_, len, base, cycle) }
     (s.sout o).change = some (at_, len, base, cycle) ∧ s.domTime (s.get SCH_CFG_DOM) + (s.dom (s.get SCH_CFG_DOM)).inc ≤ at_ *
       nsUnit) ∧
    (let s := ready
     let o : Nat := 47
     o < 48 ∧ s.gateIn 18 = false ∧ ((s.gateShow o).slotCheck o |>.sout o).tx = none) := by
  decide +kernel

theorem witness_MirrorCommandsComplete_1 :
    (let s := ready |>.set (MIR_RING_LEN_LEN) 8
     let m : Master := .spi
     let v : Word := 1#32
     let r : RegRow := (regRow MIR_CFG).getD default
     let w : Word := (writeFields r.fields (s.rd MIR_CFG) v).1
     s.verdict m MIR_CFG = .row r ∧ s.on MIR_CFG_EN = false ∧ v.getLsbD 0 = true ∧ writeFields r.fields (s.rd MIR_CFG) v = (w,
       false) ∧ (
     let u := (s.answer m .ok).wr MIR_CFG w
     u.get MIR_STATUS_STATE = 0 ∧ 2 ≤ u.get MIR_RING_LEN_LEN ∧ u.on MIR_STATUS_THERMAL = false)) ∧
    (let s := ready |>.set (MIR_CFG_EN) 1
     let m : Master := .spi
     let v : Word := 0#32
     let r : RegRow := (regRow MIR_CFG).getD default
     let w : Word := (writeFields r.fields (s.rd MIR_CFG) v).1
     s.verdict m MIR_CFG = .row r ∧ s.on MIR_CFG_EN = true ∧ v.getLsbD 0 = false ∧ writeFields r.fields (s.rd MIR_CFG) v = (w,
       false)) ∧
    (let x : List Octet := []
     let xs : List (List Octet) := []
     let s := ready |>.set (MIR_RING_LEN_LEN) 2 |>.set (MIR_IRQ_WATERMARK) 0 |>.set (MIR_RING_LEN_LEN) 8 |>.set
       (MIR_STATUS_STATE) 1
     let s : State := { s with mir := { s.mir with fifo := x :: xs } }
     let s : State := { s with mir := { s.mir with fifo := [[]] } }
     s.regsWf = true ∧ s.mirOn = true ∧ s.mir.fifo = x :: xs ∧ 2 ≤ s.get MIR_RING_LEN_LEN ∧ s.ringFree ≠ 0 ∧ s.get
       MIR_IRQ_WATERMARK = 0) ∧
    (let s := ready |>.set (MIR_RING_LEN_LEN) 2 |>.set (MIR_RING_LEN_LEN) 8 |>.set (MIR_STATUS_STATE) 1 |>.set (MIR_RING_WR_WR)
       7
     let s : State := { s with mir := { s.mir with fifo := [[]] } }
     s.mirOn = true ∧ s.mir.fifo ≠ [] ∧ 2 ≤ s.get MIR_RING_LEN_LEN ∧ s.ringFree = 0) ∧
    (let s := ready
     s.mirOn = false) ∧
    (let s := ready |>.set (MIR_RING_LEN_LEN) 8 |>.set (MIR_STATUS_STATE) 1
     let m : Master := .spi
     let v : Word := 7#32
     let r : RegRow := (regRow MIR_RING_RD).getD default
     let w : Word := (writeFields r.fields (s.rd MIR_RING_RD) v).1
     s.verdict m MIR_RING_RD = .row r ∧ fieldOf MIR_RING_RD_RD v < s.get MIR_RING_LEN_LEN ∧ writeFields r.fields (s.rd
       MIR_RING_RD) v = (w, false) ∧ s.mirOn = true) := by
  decide +kernel

theorem witness_MirrorCommandsComplete_2 :
    (let s := ready |>.set (MIR_IRQ_HOLD) 1 |>.set (MIR_RING_LEN_LEN) 8 |>.set (MIR_STATUS_STATE) 1 |>.set (MIR_RING_WR_WR) 7
     s.get MIR_IRQ_HOLD ≠ 0 ∧ s.ringUsed ≠ 0 ∧ s.mirOn = true) ∧
    (let s := ready
     s.ringUsed = 0) ∧
    (let s := ready |>.set (MIR_STATUS_STATE) 1
     s.get MIR_STATUS_STATE ≠ 0) ∧
    (let s := ready |>.set (MIR_STATUS_STATE) 0
     s.get MIR_STATUS_STATE = 0) ∧
    (let s := ready
     let m : Master := .spi
     let v : Word := (1#32 : Word)
     let r : RegRow := (regRow MIR_CTRL).getD default
     s.verdict m MIR_CTRL = .row r ∧ v.getLsbD 0 = true) := by
  decide +kernel

theorem witness_PortCommandsComplete_1 :
    (let m : Master := .spi
     let p : Nat := 47
     let r : RegRow := (regRow (PRT_CFG p)).getD default
     let s := ready |>.set (PRT_STATUS_STATE p) 0 |>.set (GLB_STATUS_MODE) 1 |>.set (PRT_CFG_RATE 47) 3
     let v : Word := withField (withField (withField (s.rd (PRT_CFG 47)) (PRT_CFG_ENABLE 47) 1) (PRT_CFG_RATE 47) 3)
       (PRT_CFG_FEC 47) 1
     let w : Word := (writeFields r.fields (s.rd (PRT_CFG p)) v).1
     p < 48 ∧ s.verdict m (PRT_CFG p) = .row r ∧ s.laneOfFat p = false ∧ writeFields r.fields (s.rd (PRT_CFG p)) v = (w, false)
       ∧ s.get (PRT_STATUS_STATE p) = 0 ∧ s.get GLB_STATUS_MODE ≠ 0 ∧ fieldOf (PRT_CFG_ENABLE p) w = 1 ∧ s.portFits p (fieldOf
       (PRT_CFG_RATE p) w) (fieldOf (PRT_CFG_FEC p) w) = true) ∧
    (let m : Master := .spi
     let p : Nat := 47
     let r : RegRow := (regRow (PRT_CFG p)).getD default
     let s := ready |>.set (PRT_STATUS_STATE p) 0 |>.set (GLB_STATUS_MODE) 1
     let v : Word := withField (withField (withField (s.rd (PRT_CFG 47)) (PRT_CFG_ENABLE 47) 1) (PRT_CFG_RATE 47) 4)
       (PRT_CFG_FEC 47) 0
     let w : Word := (writeFields r.fields (s.rd (PRT_CFG p)) v).1
     p < 48 ∧ s.verdict m (PRT_CFG p) = .row r ∧ s.laneOfFat p = false ∧ writeFields r.fields (s.rd (PRT_CFG p)) v = (w, false)
       ∧ s.get (PRT_STATUS_STATE p) = 0 ∧ s.get GLB_STATUS_MODE ≠ 0 ∧ fieldOf (PRT_CFG_ENABLE p) w = 1 ∧ s.portFits p (fieldOf
       (PRT_CFG_RATE p) w) (fieldOf (PRT_CFG_FEC p) w) = false) ∧
    (let m : Master := .spi
     let p : Nat := 47
     let v : Word := 0#32
     let r : RegRow := (regRow (PRT_CFG p)).getD default
     let s := ready |>.set (PRT_STATUS_STATE p) 0 |>.set (GLB_STATUS_MODE) 0
     let w : Word := (writeFields r.fields (s.rd (PRT_CFG p)) v).1
     p < 48 ∧ s.verdict m (PRT_CFG p) = .row r ∧ s.laneOfFat p = false ∧ writeFields r.fields (s.rd (PRT_CFG p)) v = (w, false)
       ∧ s.get (PRT_STATUS_STATE p) = 0 ∧ s.get GLB_STATUS_MODE = 0) ∧
    (let m : Master := .spi
     let p : Nat := 47
     let v : Word := 0#32
     let r : RegRow := (regRow (PRT_CFG p)).getD default
     let s := ready |>.set (PRT_STATUS_STATE p) 1
     let w : Word := (writeFields r.fields (s.rd (PRT_CFG p)) v).1
     p < 48 ∧ s.verdict m (PRT_CFG p) = .row r ∧ s.laneOfFat p = false ∧ writeFields r.fields (s.rd (PRT_CFG p)) v = (w, false)
       ∧ s.get (PRT_STATUS_STATE p) ≠ 0 ∧ fieldOf (PRT_CFG_ENABLE p) w = 0) ∧
    (let s := ready |>.set (PRT_CFG_RATE 44) 4 |>.set (PRT_STATUS_STATE 44) 2
     let m : Master := .spi
     let p : Nat := 47
     let r : RegRow := (regRow (PRT_CFG p)).getD default
     p < 48 ∧ s.verdict m (PRT_CFG p) = .row r ∧ s.laneOfFat p = true) ∧
    (let p : Nat := 47
     let s := ready |>.set (PRT_STATUS_STATE p) 1 |>.set (PRT_STATUS_PCS_LOCK p) 1
     p < 48 ∧ (s.port p).restarted ≠ some s.cyc ∧ s.get (PRT_STATUS_STATE p) = 1 ∧ s.laneOfFat p = false ∧ s.regsWf = true ∧
       s.on (PRT_STATUS_PCS_LOCK p) = true ∧ s.get (PRT_CFG_RATE p) ≠ 1) := by
  decide +kernel

theorem witness_PortCommandsComplete_2 :
    (let p : Nat := 47
     let s := ready |>.set (PRT_STATUS_STATE p) 1 |>.set (PRT_STATUS_PCS_LOCK p) 1 |>.set (PRT_STATUS_RF p) 1
     p < 48 ∧ (s.port p).restarted ≠ some s.cyc ∧ s.get (PRT_STATUS_STATE p) = 1 ∧ s.laneOfFat p = false ∧ s.regsWf = true ∧
       s.on (PRT_STATUS_PCS_LOCK p) = true ∧ s.get (PRT_CFG_RATE p) ≠ 1 ∧ s.on (PRT_STATUS_RF p) = true) ∧
    (let s := ready
     let p : Nat := 0
     (s.get (PRT_STATUS_STATE p) = 0 ∨ s.get (PRT_STATUS_STATE p) = 4)) ∧
    (let p : Nat := 47
     let s := ready |>.set (PRT_STATUS_STATE p) 1
     p < 48 ∧ (s.port p).restarted ≠ some s.cyc ∧ s.get (PRT_STATUS_STATE p) = 1 ∧ s.laneOfFat p = false ∧ s.regsWf = true) ∧
    (let p : Nat := 47
     let s := ready |>.set (PRT_STATUS_STATE p) 1
     p < 48 ∧ (s.port p).restarted ≠ some s.cyc ∧ s.get (PRT_STATUS_STATE p) = 1 ∧ s.laneOfFat p = false ∧ s.get (PRT_CFG_RATE
       p) ≠ 1 ∧ s.on (PRT_STATUS_LF p) = false ∧ s.regsWf = true) ∧
    (let p : Nat := 47
     let s := ready |>.set (PRT_STATUS_STATE p) 1
     p < 48 ∧ (s.port p).restarted ≠ some s.cyc ∧ s.get (PRT_STATUS_STATE p) = 1 ∧ s.laneOfFat p = false ∧ s.get (PRT_CFG_RATE
       p) ≠ 1 ∧ s.on (PRT_STATUS_RF p) = false ∧ s.regsWf = true) ∧
    (let p : Nat := 0
     let s := ready |>.set (PRT_CFG_RATE p) 1
     s.get (PRT_CFG_RATE p) = 1) := by
  decide +kernel

theorem witness_PortCommandsComplete_3 :
    (let p : Nat := 47
     let s := ready |>.set (PRT_STATUS_STATE p) 3
     let s : State := s.setPort p { s.port p with lost := true }
     p < 48 ∧ (s.port p).restarted ≠ some s.cyc ∧ s.portUp p = true ∧ (s.port p).lost = true) ∧
    (let p : Nat := 0
     let s := ready
     let s : State := s.setPort p { s.port p with lost := false }
     (s.port p).lost = false) ∧
    (let p : Nat := 47
     let lp : Word := 0x20#32
     let s := ready |>.set (PRT_STATUS_STATE p) 2 |>.set (PRT_STATUS_PCS_LOCK p) 1
     p < 48 ∧ (s.port p).restarted ≠ some s.cyc ∧ s.get (PRT_STATUS_STATE p) = 2 ∧ s.on (PRT_STATUS_PCS_LOCK p) = true ∧
       lp.getLsbD 5 = true) ∧
    (let p : Nat := 47
     let lp : Word := 0#32
     let s := ready |>.set (PRT_STATUS_STATE p) 2 |>.set (PRT_STATUS_PCS_LOCK p) 1
     p < 48 ∧ (s.port p).restarted ≠ some s.cyc ∧ s.get (PRT_STATUS_STATE p) = 2 ∧ s.on (PRT_STATUS_PCS_LOCK p) = true ∧
       lp.getLsbD 5 = false) ∧
    (let p : Nat := 47
     let s := ready |>.set (PRT_STATUS_STATE p) 2 |>.set (PRT_STATUS_PCS_LOCK p) 1
     p < 48 ∧ (s.port p).restarted ≠ some s.cyc ∧ s.get (PRT_STATUS_STATE p) = 2 ∧ s.on (PRT_STATUS_PCS_LOCK p) = true) ∧
    (let p : Nat := 47
     let s := ready |>.set (PRT_STATUS_STATE p) 2
     let s : State := s.setPort p { s.port p with half := true }
     p < 48 ∧ (s.port p).restarted ≠ some s.cyc ∧ s.get (PRT_STATUS_STATE p) = 2 ∧ (s.port p).half = true) := by
  decide +kernel

theorem witness_PortCommandsComplete_4 :
    (let s := ready
     let p : Nat := 0
     (s.get (PRT_STATUS_STATE p) ≠ 2 ∨ (s.port p).half = false)) ∧
    (let p : Nat := 0
     let s := ready
     let s : State := s.setPort p { s.port p with restarted := some s.cyc }
     (s.port p).restarted = some s.cyc) ∧
    (let p : Nat := 47
     let s := ready |>.set (PRT_CFG_RATE p) 1 |>.set (PRT_CFG_AN_EN p) 1 |>.set (PRT_STATUS_STATE p) 3
     p < 48 ∧ s.get (PRT_CFG_RATE p) = 1 ∧ s.on (PRT_CFG_AN_EN p) = true ∧ s.get (PRT_STATUS_STATE p) = 3) ∧
    (let m : Master := .spi
     let p : Nat := 47
     let v : Word := (2#32 : Word)
     let r : RegRow := (regRow (PRT_CTRL p)).getD default
     let s := ready |>.set (PRT_CFG_RATE p) 1 |>.set (PRT_CFG_AN_EN p) 1 |>.set (PRT_STATUS_STATE p) 2
     p < 48 ∧ s.verdict m (PRT_CTRL p) = .row r ∧ v.getLsbD 0 = false ∧ v.getLsbD 1 = true ∧ s.get (PRT_CFG_RATE p) = 1 ∧ s.on
       (PRT_CFG_AN_EN p) = true ∧ s.get (PRT_STATUS_STATE p) = 2) ∧
    (let s := ready
     let m : Master := .spi
     let p : Nat := 47
     let v : Word := (1#32 : Word)
     let r : RegRow := (regRow (PRT_CTRL p)).getD default
     p < 48 ∧ s.verdict m (PRT_CTRL p) = .row r ∧ v.getLsbD 0 = true ∧ v.getLsbD 1 = false) := by
  decide +kernel

theorem witness_PortTrafficComplete_1 :
    (let p : Nat := 47
     let bytes : List Octet := List.replicate 12 0#8 ++ [0x88#8, 0x08#8, 0#8, 1#8, 0#8, 9#8] ++ List.replicate 46 0#8
     let s := ready |>.set (PRT_STATUS_STATE p) 3
     p < 48 ∧ s.portUp p = true ∧ (headerOf bytes).etype = 0x8808 ∧ numAt bytes (headerOf bytes).off 2 = 1 ∧ s.regsWf = true ∧
       s.on (PRT_STATUS_PAUSE_RX p) = false) ∧
    (let p : Nat := 47
     let bytes : List Octet := List.replicate 12 0#8 ++ [0x88#8, 0x08#8, 0#8, 1#8, 0#8, 9#8] ++ List.replicate 46 0#8
     let s := ready |>.set (PRT_STATUS_STATE p) 3 |>.set (PRT_STATUS_PAUSE_RX p) 1
     p < 48 ∧ s.portUp p = true ∧ (headerOf bytes).etype = 0x8808 ∧ numAt bytes (headerOf bytes).off 2 = 1 ∧ s.regsWf = true ∧
       s.on (PRT_STATUS_PAUSE_RX p) = true) ∧
    (let s := ready
     let p : Nat := 0
     s.portUp p = false) ∧
    (let p : Nat := 47
     let s := ready |>.set (PRT_STATUS_STATE p) 3 |>.set (PRT_STATUS_VERIFY p) 2
     p < 48 ∧ s.portUp p = true ∧ s.get (PRT_STATUS_VERIFY p) = 2) ∧
    (let p : Nat := 47
     let s := ready |>.set (PRT_STATUS_STATE p) 3 |>.set (PRT_STATUS_VERIFY p) 1
     p < 48 ∧ s.portUp p = true ∧ s.get (PRT_STATUS_VERIFY p) = 1 ∧ (s.port p).verifySent < 3 ∧ s.regsWf = true ∧ s.macOpen p =
       true) ∧
    (let p : Nat := 47
     let s := ready |>.set (PRT_STATUS_STATE p) 3 |>.set (PRT_STATUS_VERIFY p) 2
     let s : State := s.setPort 47 { s.port 47 with verifySent := 3 }
     p < 48 ∧ s.portUp p = true ∧ s.get (PRT_STATUS_VERIFY p) = 2 ∧ 3 ≤ (s.port p).verifySent) := by
  decide +kernel

theorem witness_PortTrafficComplete_2 :
    (let s := ready
     let p : Nat := 0
     s.portUp p = false) ∧
    (let s := ready
     let m : Master := .spi
     let b : Nat := 3
     let v : Word := withField 0x80000050#32 (PRT_I2C_XFER_LEN 3) 0
     let r : RegRow := (regRow (PRT_I2C_XFER b)).getD default
     let w : Word := (writeFields r.fields (s.rd (PRT_I2C_XFER b)) (v &&& 0x7FFFFFFF#32)).1
     b < 4 ∧ s.verdict m (PRT_I2C_XFER b) = .row r ∧ v.getLsbD 31 = true ∧ s.on (PRT_I2C_STATUS_BUSY b) = false ∧ (writeFields
       r.fields (s.rd (PRT_I2C_XFER b)) v).2 = false ∧ writeFields r.fields (s.rd (PRT_I2C_XFER b)) (v &&& 0x7FFFFFFF#32) = (w,
       false) ∧ (
     let u := (s.answer m .ok).wr (PRT_I2C_XFER b) w
     u.get (PRT_I2C_XFER_LEN b) = 0)) ∧
    (let s := ready
     let m : Master := .spi
     let b : Nat := 3
     let v : Word := withField (withField 0x80000050#32 (PRT_I2C_XFER_LEN 3) 2) (PRT_I2C_XFER_NO_PTR 3) 1
     let r : RegRow := (regRow (PRT_I2C_XFER b)).getD default
     let w : Word := (writeFields r.fields (s.rd (PRT_I2C_XFER b)) (v &&& 0x7FFFFFFF#32)).1
     b < 4 ∧ s.verdict m (PRT_I2C_XFER b) = .row r ∧ v.getLsbD 31 = true ∧ s.on (PRT_I2C_STATUS_BUSY b) = false ∧ (writeFields
       r.fields (s.rd (PRT_I2C_XFER b)) v).2 = false ∧ writeFields r.fields (s.rd (PRT_I2C_XFER b)) (v &&& 0x7FFFFFFF#32) = (w,
       false) ∧ (
     let u := (s.answer m .ok).wr (PRT_I2C_XFER b) w
     u.get (PRT_I2C_XFER_LEN b) ≠ 0 ∧ u.on (PRT_I2C_ROUTE_MUX_EN b) = false ∧ u.on (PRT_I2C_XFER_NO_PTR b) = true)) ∧
    (let p : Nat := 47
     let s := ready |>.set (PRT_MOD_POLL_PERIOD p) 1
     p < 48 ∧ s.get (PRT_MOD_POLL_PERIOD p) ≠ 0 ∧ s.asleep = false ∧ (s.bus (s.get (PRT_MOD_ROUTE_MASTER p))).now = none ∧
       (s.bus (s.get (PRT_MOD_ROUTE_MASTER p))).waits = none ∧ (s.bus (s.get (PRT_MOD_ROUTE_MASTER p))).polls = []) ∧
    (let p : Nat := 0
     let s := ready |>.set (PRT_MOD_POLL_PERIOD p) 0
     s.get (PRT_MOD_POLL_PERIOD p) = 0) := by
  decide +kernel

theorem witness_NvCommandsComplete_1 :
    (let s := ready
     let v : Word := withField (withField ((0#32 : Word)) (NVS_CMD_GO) 1) (NVS_CMD_OP) 0
     let r : RegRow := (regRow NVS_CMD).getD default
     let st : Nat := 0
     let w : Word := (writeFields r.fields (s.rd NVS_CMD) v).1
     let bs : List Octet := ((((s.answer .coachB .ok).wr NVS_CMD w).set NVS_CMD_GO 0).nvRead ((((s.answer .coachB .ok).wr
       NVS_CMD w).set NVS_CMD_GO 0).get NVS_ADDR_ADDR) ((((s.answer .coachB .ok).wr NVS_CMD w).set NVS_CMD_GO 0).get
       NVS_LEN_LEN)).2.1
     s.verdict .coachB NVS_CMD = .row r ∧ fieldOf NVS_CMD_GO v = 1 ∧ s.on NVS_CMD_BUSY = false ∧ writeFields r.fields (s.rd
       NVS_CMD) v = (w, false) ∧ fieldOf NVS_CMD_OP v = 0 ∧ (
     let t := ((s.answer .coachB .ok).wr NVS_CMD w).set NVS_CMD_GO 0
     (t.nvRead (t.get NVS_ADDR_ADDR) (t.get NVS_LEN_LEN)).2 = (bs, st))) ∧
    (let s := ready
     let v : Word := withField (withField ((0#32 : Word)) (NVS_CMD_GO) 1) (NVS_CMD_OP) 1
     let r : RegRow := (regRow NVS_CMD).getD default
     let w : Word := (writeFields r.fields (s.rd NVS_CMD) v).1
     let st : Nat := (let t := ((s.answer .coachB .ok).wr NVS_CMD w).set NVS_CMD_GO 0; (t.nvWrite (t.get NVS_ADDR_ADDR)
       (t.nvWindow (t.get NVS_LEN_LEN))).2)
     s.verdict .coachB NVS_CMD = .row r ∧ fieldOf NVS_CMD_GO v = 1 ∧ s.on NVS_CMD_BUSY = false ∧ writeFields r.fields (s.rd
       NVS_CMD) v = (w, false) ∧ fieldOf NVS_CMD_OP v = 1 ∧ (fieldOf NVS_CMD_COMMIT v = 0 ∨ st ≠ 0) ∧ (
     let t := ((s.answer .coachB .ok).wr NVS_CMD w).set NVS_CMD_GO 0
     (t.nvWrite (t.get NVS_ADDR_ADDR) (t.nvWindow (t.get NVS_LEN_LEN))).2 = st)) ∧
    (let s := ready |>.set (NVS_LEN_LEN) 4 |>.set (NVS_ADDR_ADDR) 0x8000
     let v : Word := withField (withField (withField 0#32 NVS_CMD_GO 1) NVS_CMD_OP 1) NVS_CMD_COMMIT 1
     let r : RegRow := (regRow NVS_CMD).getD default
     let w : Word := (writeFields r.fields (s.rd NVS_CMD) v).1
     let u := ((((s.answer .coachB .ok).wr NVS_CMD w).set NVS_CMD_GO 0).nvWrite ((((s.answer .coachB .ok).wr NVS_CMD w).set
       NVS_CMD_GO 0).get NVS_ADDR_ADDR) ((((s.answer .coachB .ok).wr NVS_CMD w).set NVS_CMD_GO 0).nvWindow ((((s.answer .coachB
       .ok).wr NVS_CMD w).set NVS_CMD_GO 0).get NVS_LEN_LEN))).1
     let x := (u.commitStart true []).1
     s.verdict .coachB NVS_CMD = .row r ∧ fieldOf NVS_CMD_GO v = 1 ∧ s.on NVS_CMD_BUSY = false ∧ writeFields r.fields (s.rd
       NVS_CMD) v = (w, false) ∧ fieldOf NVS_CMD_OP v = 1 ∧ fieldOf NVS_CMD_COMMIT v = 1 ∧ (
     let t := ((s.answer .coachB .ok).wr NVS_CMD w).set NVS_CMD_GO 0
     t.get NVS_LEN_LEN ≠ 0 ∧ (t.nvWrite (t.get NVS_ADDR_ADDR) (t.nvWindow (t.get NVS_LEN_LEN))).2 = 0 ∧ u.nvs.buffer ≠ [] ∧
       u.commitStart true [] = (x, 0))) ∧
    (let s := ready
     let s : State := { s with nvs := { s.nvs with buffer := [(3, [])] } }
     let v : Word := withField (withField ((0#32 : Word)) (NVS_CMD_GO) 1) (NVS_CMD_OP) 2
     let r : RegRow := (regRow NVS_CMD).getD default
     let w : Word := (writeFields r.fields (s.rd NVS_CMD) v).1
     s.verdict .coachB NVS_CMD = .row r ∧ fieldOf NVS_CMD_GO v = 1 ∧ s.on NVS_CMD_BUSY = false ∧ writeFields r.fields (s.rd
       NVS_CMD) v = (w, false) ∧ fieldOf NVS_CMD_OP v = 2 ∧ s.nvs.buffer ≠ [] ∧ ((((s.answer .coachB .ok).wr NVS_CMD w).set
       NVS_CMD_GO 0).commitStart true []).2 = 0) ∧
    (let s := ready
     let v : Word := withField (withField ((0#32 : Word)) (NVS_CMD_GO) 1) (NVS_CMD_OP) 3
     let r : RegRow := (regRow NVS_CMD).getD default
     let w : Word := (writeFields r.fields (s.rd NVS_CMD) v).1
     s.verdict .coachB NVS_CMD = .row r ∧ fieldOf NVS_CMD_GO v = 1 ∧ s.on NVS_CMD_BUSY = false ∧ writeFields r.fields (s.rd
       NVS_CMD) v = (w, false) ∧ fieldOf NVS_CMD_OP v = 3 ∧ (
     let t := ((s.answer .coachB .ok).wr NVS_CMD w).set NVS_CMD_GO 0
     t.on NVS_STATUS_PFW_ACTIVE = false)) ∧
    (let s := ready
     let v : Word := withField (withField ((0#32 : Word)) (NVS_CMD_GO) 1) (NVS_CMD_OP) 4
     let r : RegRow := (regRow NVS_CMD).getD default
     let w : Word := (writeFields r.fields (s.rd NVS_CMD) v).1
     s.verdict .coachB NVS_CMD = .row r ∧ fieldOf NVS_CMD_GO v = 1 ∧ s.on NVS_CMD_BUSY = false ∧ writeFields r.fields (s.rd
       NVS_CMD) v = (w, false) ∧ fieldOf NVS_CMD_OP v = 4 ∧ ((((s.answer .coachB .ok).wr NVS_CMD w).set NVS_CMD_GO 0).hotSaveOp
       true).2 = 0) := by
  decide +kernel

theorem witness_NvCommandsComplete_2 :
    (let s := ready
     let m : Master := .spi
     let r : RegRow := (regRow NVS_CMD).getD default
     s.verdict m NVS_CMD = .row r ∧ m ≠ .coachB) ∧
    (let s := ready
     let m : Master := .spi
     let v : Word := 0#32
     let r : RegRow := (regRow NVS_PROTECT).getD default
     let w : Word := (writeFields r.fields (s.rd NVS_PROTECT) v).1
     s.verdict m NVS_PROTECT = .row r ∧ s.on NVS_PROTECT_LOCK = false ∧ writeFields r.fields (s.rd NVS_PROTECT) v = (w, false)) ∧
    (let s := ready |>.set (NVS_PROTECT_LOCK) 1
     let m : Master := .spi
     let v : Word := 2#32
     let r : RegRow := (regRow NVS_PROTECT).getD default
     s.verdict m NVS_PROTECT = .row r ∧ s.on NVS_PROTECT_LOCK = true ∧ changes s NVS_PROTECT_LEVEL v = true) ∧
    (let j : NvJob := default
     let s := ready
     let s : State := { s with nvs := { s.nvs with job := some j } }
     let status : Nat := (s.commitFinish j).2
     s.nvs.job = some j ∧ (s.commitFinish j).2 = status) ∧
    (let s := ready
     let s : State := { s with nvs := { s.nvs with job := none } }
     s.nvs.job = none ∧ s.pwr.phase = 0) ∧
    (let cause : Nat := 0
     let cmd : Bool := true
     let s := ready
     let s : State := { s with nvs := { s.nvs with save := some (cause, cmd) } }
     let s : State := { s with fw := { s.fw with passed := none } }
     s.nvs.save = some (cause, cmd) ∧ s.fw.passed = none ∧ s.hotSaveEnd.fw.passed = none) := by
  decide +kernel

theorem witness_NvCommandsComplete_3 :
    (let s := ready
     let s : State := { s with nvs := { s.nvs with save := none } }
     s.nvs.save = none ∧ s.pwr.phase = 0) ∧
    (let s := ready
     let s : State := { s with nvs := { s.nvs with job := some ⟨[], false, false, [(4, 0)], 0⟩ } }
     s.jobWaits 4 = true) ∧
    (let s := ready
     s.jobWaits 4 = false) ∧
    (let s := ready
     s.jobWaits 3 = false) ∧
    (let s := ready
     let s : State := { s with nvs := { s.nvs with job := some ⟨[], false, false, [(3, 0)], 0⟩ } }
     s.jobWaits 3 = true) ∧
    (let s := ready
     let s : State := { s with boot := { s.boot with root := true } }
     let width : Nat := 2000
     s.boot.root = true ∧ s.asleep = false ∧ 2000 ≤ width ∧ s.on NVS_STATUS_PFW_ACTIVE = false ∧ s.pfwTaken.on PWR_CFG_PFW_LEAN
       = false) := by
  decide +kernel

theorem witness_NvCommandsComplete_4 :
    (let width : Nat := 499
     width < 500) := by
  decide +kernel

theorem witness_PowerCommandsComplete_1 :
    (let s := ready
     let m : Master := .spi
     let v : Word := withField (withField 0#32 PWR_REQ_GO 1) PWR_REQ_TARGET 1
     let r : RegRow := (regRow PWR_REQ).getD default
     let w : Word := (writeFields r.fields (s.rd PWR_REQ) v).1
     s.verdict m PWR_REQ = .row r ∧ fieldOf PWR_REQ_GO v = 1 ∧ (s.pwr.target = none ∨ s.pwr.trip = some s.cyc) ∧ writeFields
       r.fields (s.rd PWR_REQ) v = (w, false) ∧ (
     let u := ((s.answer m .ok).wr PWR_REQ w).set PWR_REQ_GO 0
     let p := powerOf (u.get PWR_REQ_TARGET)
     let mask := u.get PWR_REQ_WAKE
     u.powerRefusal p mask = 0 ∧ p ≠ .run)) ∧
    (let s := ready
     let s : State := { s with pwr := { s.pwr with state := .lean } }
     let m : Master := .spi
     let v : Word := withField (withField 0#32 PWR_REQ_GO 1) PWR_REQ_TARGET 0
     let r : RegRow := (regRow PWR_REQ).getD default
     let w : Word := (writeFields r.fields (s.rd PWR_REQ) v).1
     s.verdict m PWR_REQ = .row r ∧ fieldOf PWR_REQ_GO v = 1 ∧ (s.pwr.target = none ∨ s.pwr.trip = some s.cyc) ∧ writeFields
       r.fields (s.rd PWR_REQ) v = (w, false) ∧ (
     let u := ((s.answer m .ok).wr PWR_REQ w).set PWR_REQ_GO 0
     let p := powerOf (u.get PWR_REQ_TARGET)
     let mask := u.get PWR_REQ_WAKE
     u.powerRefusal p mask = 0 ∧ p = .run ∧ u.get PWR_STATUS_STEP ≠ 3)) ∧
    (let s := ready |>.set (PWR_STATUS_STEP) 3
     let s : State := { s with pwr := { s.pwr with state := .lean } }
     let m : Master := .spi
     let v : Word := withField (withField 0#32 PWR_REQ_GO 1) PWR_REQ_TARGET 0
     let r : RegRow := (regRow PWR_REQ).getD default
     let w : Word := (writeFields r.fields (s.rd PWR_REQ) v).1
     s.verdict m PWR_REQ = .row r ∧ fieldOf PWR_REQ_GO v = 1 ∧ (s.pwr.target = none ∨ s.pwr.trip = some s.cyc) ∧ writeFields
       r.fields (s.rd PWR_REQ) v = (w, false) ∧ (
     let u := ((s.answer m .ok).wr PWR_REQ w).set PWR_REQ_GO 0
     let p := powerOf (u.get PWR_REQ_TARGET)
     let mask := u.get PWR_REQ_WAKE
     u.powerRefusal p mask = 0 ∧ p = .run ∧ u.get PWR_STATUS_STEP = 3)) ∧
    (let s := ready
     let m : Master := .spi
     let v : Word := withField ((0#32 : Word)) (PWR_REQ_GO) 1
     let r : RegRow := (regRow PWR_REQ).getD default
     let w : Word := (writeFields r.fields (s.rd PWR_REQ) v).1
     s.verdict m PWR_REQ = .row r ∧ fieldOf PWR_REQ_GO v = 1 ∧ (s.pwr.target = none ∨ s.pwr.trip = some s.cyc) ∧ writeFields
       r.fields (s.rd PWR_REQ) v = (w, false) ∧ (
     let u := ((s.answer m .ok).wr PWR_REQ w).set PWR_REQ_GO 0
     let p := powerOf (u.get PWR_REQ_TARGET)
     let mask := u.get PWR_REQ_WAKE
     u.powerRefusal p mask ≠ 0)) ∧
    (let s := ready
     let s : State := { s with pwr := { s.pwr with target := some .lean } }
     let m : Master := .spi
     let v : Word := withField ((0#32 : Word)) (PWR_REQ_GO) 1
     let r : RegRow := (regRow PWR_REQ).getD default
     s.verdict m PWR_REQ = .row r ∧ fieldOf PWR_REQ_GO v = 1 ∧ s.pwr.target ≠ none ∧ s.pwr.trip ≠ some s.cyc) ∧
    (let s := ready
     let s : State := { s with pwr := { s.pwr with target := some .lean } }
     (s.pwr.target = some .lean ∨ s.pwr.target = some .keep) ∧ s.gatesSettle.pwr.heldWake = none) := by
  decide +kernel

theorem witness_PowerCommandsComplete_2 :
    (let s := ready
     let s : State := { s with pwr := { s.pwr with target := none } }
     s.pwr.target = none) ∧
    (let width : Nat := 2000
     2000 ≤ width) ∧
    (let width : Nat := 499
     width < 500) ∧
    (let s := ready
     let s : State := { s with pwr := { s.pwr with target := none } }
     let s : State := { s with pwr := { s.pwr with state := .vigil } }
     let s : State := { s with pwr := { s.pwr with mask := 2 } }
     s.pwr.target = none ∧ s.pwr.state = .vigil ∧ s.pwr.mask.testBit 1 = true) ∧
    (let s := ready
     let s : State := { s with pwr := { s.pwr with target := none } }
     let s : State := { s with pwr := { s.pwr with state := .dormant, mask := 4 } }
     s.pwr.target = none ∧ (s.pwr.state = .vigil ∨ s.pwr.state = .dormant) ∧ s.pwr.mask.testBit 2 = true) ∧
    (let s := ready
     let s : State := { s with pwr := { s.pwr with target := none } }
     let s : State := { s with pwr := { s.pwr with state := .run } }
     s.pwr.target = none ∧ s.pwr.state = .run) := by
  decide +kernel

theorem witness_PowerCommandsComplete_3 :
    (let s := ready
     let s : State := { s with pwr := { s.pwr with target := some .lean, mask := 1, heldWake := some 1 } }
     let c : Nat := 1
     let p : PowerState := .lean
     p ≠ .run ∧ s.pwr.target = some p ∧ s.armed p 1 = true ∧ s.pwr.heldWake = some c) ∧
    (let s := ready
     let s : State := { s with pwr := { s.pwr with target := none } }
     let s : State := { s with pwr := { s.pwr with state := .vigil } }
     s.pwr.target = none ∧ s.pwr.state = .vigil ∧ s.pwr.xoWake = 0) ∧
    (let s := ready
     s.pwr.state ≠ .vigil) ∧
    (let s := ready
     let s : State := { s with pwr := { s.pwr with target := some .run } }
     let s : State := { s with pwr := { s.pwr with state := .lean } }
     s.pwr.target = some .run ∧ (s.pwr.state = .lean ∨ s.pwr.state = .keep) ∧ (
     let u := ((s.rise .run).showPower.setTarget none).set PWR_EVT_WAKE 1
     u.pwr.lowHold = false)) ∧
    (let s := ready
     let s : State := { s with pwr := { s.pwr with target := some .run } }
     let s : State := { s with pwr := { s.pwr with state := .dormant } }
     s.pwr.target = some .run ∧ s.pwr.state = .dormant) ∧
    (let s := ready
     let s : State := { s with pwr := { s.pwr with target := none } }
     s.pwr.target = none) := by
  decide +kernel

theorem witness_PowerCommandsComplete_4 :
    (let s := ready |>.set (PWR_STATUS_STEP) 0
     let s : State := { s with boot := { s.boot with root := true } }
     s.boot.root = true ∧ s.asleep = false ∧ s.getI FLT_TEMP_TJ < 105 * 256 ∧ s.get PWR_STATUS_STEP = 0) ∧
    (let s := ready |>.set (FLT_TEMP_TJ) 30720 |>.set (PWR_STATUS_STEP) 2
     let s : State := { s with boot := { s.boot with root := true } }
     let s : State := { s with pwr := { s.pwr with upRun := [0, 0, 1] } }
     s.boot.root = true ∧ s.asleep = false ∧ 120 * 256 ≤ s.getI FLT_TEMP_TJ ∧ s.pwr.upRun.getD 2 0 = 1 ∧ s.get PWR_STATUS_STEP ≠
       3 ∧ s.get PWR_STATUS_STEP < 3) ∧
    (let s := ready
     let s : State := { s with pwr := { s.pwr with state := .vigil } }
     s.asleep = true) ∧
    (let s := ready
     s.asleep = false ∧ s.get PWR_STATUS_STEP < 2) ∧
    (let s := ready |>.set (PWR_STATUS_STEP) 2 |>.set (FLT_TEMP_TJ) 29440 |>.set (PWR_STATUS_STEP) 2
     s.asleep = false ∧ 2 ≤ s.get PWR_STATUS_STEP ∧ 115 * 256 ≤ s.getI FLT_TEMP_TJ) ∧
    (let s := ready |>.set (PWR_STATUS_STEP) 2
     s.asleep = false ∧ 2 ≤ s.get PWR_STATUS_STEP ∧ s.getI FLT_TEMP_TJ < 115 * 256) := by
  decide +kernel

theorem witness_PowerCommandsComplete_5 :
    (let s := ready
     let s : State := { s with pwr := { s.pwr with bucketOn := true } }
     s.pwr.bucketOn = true ∧ s.get PWR_TOKENS_TOKENS < 60) ∧
    (let s := ready |>.set (PWR_TOKENS_TOKENS) 60
     60 ≤ s.get PWR_TOKENS_TOKENS) := by
  decide +kernel

theorem witness_MailboxCommandsComplete_1 :
    (let s := ready
     let m : Master := .coachA
     let n : Nat := 3
     let e : Nat := 1
     let v : Word := 15#32
     let r : RegRow := (regRow (MBX_SEND_W0 n e)).getD default
     n < 8 ∧ e < 2 ∧ s.verdict m (MBX_SEND_W0 n e) = .row r ∧ s.mbxDown (MBX_SEND_W0 n e) = false ∧ mbxOwner n e = some m ∧
       v.toNat % 256 ≤ 15) ∧
    (let s := ready
     let m : Master := .coachA
     let n : Nat := 3
     let e : Nat := 1
     let v : Word := 16#32
     let r : RegRow := (regRow (MBX_SEND_W0 n e)).getD default
     n < 8 ∧ e < 2 ∧ s.verdict m (MBX_SEND_W0 n e) = .row r ∧ s.mbxDown (MBX_SEND_W0 n e) = false ∧ mbxOwner n e = some m ∧ 15 <
       v.toNat % 256) ∧
    (let s := ready
     let m : Master := .spi
     let n : Nat := 7
     let e : Nat := 1
     let r : RegRow := (regRow (MBX_SEND_W0 n e)).getD default
     n < 8 ∧ e < 2 ∧ s.verdict m (MBX_SEND_W0 n e) = .row r ∧ s.mbxDown (MBX_SEND_W0 n e) = false ∧ mbxOwner n e ≠ some m) ∧
    (let s := ready
     let s : State := { s with fw := { s.fw with down := 3 } }
     let m : Master := .coachB
     let n : Nat := 7
     let e : Nat := 1
     let r : RegRow := (regRow (MBX_SEND_W0 n e)).getD default
     n < 8 ∧ e < 2 ∧ s.verdict m (MBX_SEND_W0 n e) = .row r ∧ s.mbxDown (MBX_SEND_W0 n e) = true) ∧
    (let s := ready
     let m : Master := .coachA
     let n : Nat := 3
     let e : Nat := 1
     let v : Word := (1#32 : Word)
     let r : RegRow := (regRow (MBX_CTRL n e)).getD default
     n < 8 ∧ e < 2 ∧ s.verdict m (MBX_CTRL n e) = .row r ∧ s.mbxDown (MBX_CTRL n e) = false ∧ mbxOwner n e = some m ∧ v.getLsbD
       0 = true ∧ v.getLsbD 1 = false) ∧
    (let s := ready
     let m : Master := .coachA
     let n : Nat := 3
     let e : Nat := 1
     let v : Word := (2#32 : Word)
     let r : RegRow := (regRow (MBX_CTRL n e)).getD default
     n < 8 ∧ e < 2 ∧ s.verdict m (MBX_CTRL n e) = .row r ∧ s.mbxDown (MBX_CTRL n e) = false ∧ mbxOwner n e = some m ∧ v.getLsbD
       1 = true) := by
  decide +kernel

theorem witness_MailboxCommandsComplete_2 :
    (let s := ready
     let s : State := { s with boot := { s.boot with root := true } }
     s.boot.root = true ∧ s.asleep = false) ∧
    (let s := ready
     let s : State := { s with boot := { s.boot with root := true } }
     s.boot.root = true ∧ s.asleep = false) ∧
    (let s := ready
     let s : State := { s with boot := { s.boot with root := true } }
     let s : State := { s with nvs := { s.nvs with job := none } }
     let s : State := { s with nvs := { s.nvs with save := none } }
     let s : State := { s with fw := { s.fw with passed := none } }
     s.boot.root = true ∧ s.asleep = false ∧ s.nvs.job = none ∧ s.nvs.save = none ∧ s.fw.passed = none) ∧
    (let s := ready
     let s : State := { s with boot := { s.boot with root := true } }
     let core : Nat := 1
     core < 2 ∧ s.boot.root = true ∧ s.asleep = false) ∧
    (let s := ready
     let s : State := { s with pwr := { s.pwr with state := .vigil } }
     s.asleep = true) := by
  decide +kernel

theorem witness_InterpreterCommandsComplete_1 :
    (let s := ready
     let s : State := s.setMb 3 { s.mb 3 with inbound := [⟨0x0101, 7, [], 0, 0⟩] }
     let mb : Nat := 3
     let x : Msg := ⟨0x0101, 7, [], 0, 0⟩
     let xs : List Msg := []
     let r : CmdRow := (cmdRows.find? (fun c => c.opcode == x.opcode)).getD default
     s.fwRuns = true ∧ ([0, 1, 2, 3].map fun k => (s.fw.turn + k) % 4).find? s.takable = some mb ∧ (s.mb mb).inbound = x :: xs ∧
       cmdRows.find? (fun c => c.opcode == x.opcode) = some r ∧ (r.priv = true → s.mbxPrivileged mb = true) ∧ r.lo ≤ x.data.length
       ∧ x.data.length ≤ r.hi ∧ (s.mbxRelease mb 1).mbxPrivileged mb = s.mbxPrivileged mb) ∧
    (let s := ready
     let s : State := s.setMb 3 { s.mb 3 with inbound := [⟨0x7777, 7, [], 0, 0⟩] }
     let mb : Nat := 3
     let x : Msg := ⟨0x7777, 7, [], 0, 0⟩
     let xs : List Msg := []
     s.fwRuns = true ∧ ([0, 1, 2, 3].map fun k => (s.fw.turn + k) % 4).find? s.takable = some mb ∧ (s.mb mb).inbound = x :: xs ∧
       cmdRows.find? (fun c => c.opcode == x.opcode) = none) ∧
    (let s := ready
     ([0, 1, 2, 3].map fun k => (s.fw.turn + k) % 4).find? s.takable = none) ∧
    (let s := ready
     let s : State := { s with fw := { s.fw with replies := smPut s.fw.replies 3 [⟨0x8101, 7, [0#32], false⟩] } }
     let mb : Nat := 3
     let t : Taken := ⟨0x8101, 7, [0#32], false⟩
     let ts : List Taken := []
     mb < 4 ∧ s.fwRuns = true ∧ smAt s.fw.replies mb = t :: ts ∧ 1 + t.data.length ≤ s.sendFree mb 1) ∧
    (let s := ready
     let s : State := { s with fw := { s.fw with replies := smPut s.fw.replies 3 [⟨0x8101, 7, [0#32], false⟩] } }
     let s : State := s.setMb 3 { s.mb 3 with outbound := [⟨1, 7, List.replicate 14 0, 0, 0⟩] }
     let mb : Nat := 3
     let t : Taken := ⟨0x8101, 7, [0#32], false⟩
     let ts : List Taken := []
     mb < 4 ∧ s.fwRuns = true ∧ smAt s.fw.replies mb = t :: ts ∧ s.sendFree mb 1 < 1 + t.data.length) ∧
    (let mb : Nat := 3
     let t : Taken := ⟨0x0101, 7, [], false⟩
     let s := ready
     let s : State := { s with fw := { s.fw with taken := smPut s.fw.taken mb (some t) } }
     s.fwRuns = true ∧ s.request mb = some t ∧ t.opcode = 0x0101) := by
  decide +kernel

theorem witness_InterpreterCommandsComplete_2 :
    (let mb : Nat := 3
     let t : Taken := ⟨0x0201, 7, [], false⟩
     let s := ready
     let s : State := { s with fw := { s.fw with taken := smPut s.fw.taken mb (some t) } }
     s.fwRuns = true ∧ s.request mb = some t ∧ t.opcode ≠ 0x0101) ∧
    (let mb : Nat := 3
     let t : Taken := ⟨0x0102, 7, [], false⟩
     let s := ready
     let s : State := { s with fw := { s.fw with taken := smPut s.fw.taken mb (some t) } }
     s.fwRuns = true ∧ s.request mb = some t ∧ t.opcode = 0x0102) ∧
    (let d : Nat × Nat × Nat := default
     let ds : List (Nat × Nat × Nat) := default
     let s := ready
     let s : State := { s with fw := { s.fw with deferred := d :: ds } }
     s.fwRuns = true ∧ s.fw.deferred = d :: ds ∧ s.deferredPosted d = true ∧ d.2.2 = 0) ∧
    (let d : Nat × Nat × Nat := (3, 7, 0)
     let ds : List (Nat × Nat × Nat) := []
     let s := ready
     let s : State := { s with fw := { s.fw with deferred := d :: ds } }
     let s : State := { s with fw := { s.fw with deferred := [(3, 7, 0)] } }
     let s : State := { s with fw := { s.fw with replies := smPut s.fw.replies 3 [⟨0x8102, 7, [], false⟩] } }
     s.fwRuns = true ∧ s.fw.deferred = d :: ds ∧ s.deferredPosted d = false) ∧
    (let d : Nat × Nat × Nat := (3, 7, 17)
     let ds : List (Nat × Nat × Nat) := []
     let s := ready
     let s : State := { s with pwr := { s.pwr with target := none } }
     let s : State := { s with fw := { s.fw with deferred := d :: ds } }
     let s : State := { s with fw := { s.fw with deferred := [(3, 7, 17)] } }
     s.fwRuns = true ∧ s.fw.deferred = d :: ds ∧ s.deferredPosted d = true ∧ d.2.2 ≠ 0 ∧ s.pwr.target = none) ∧
    (let d : Nat × Nat × Nat := (3, 7, 17)
     let ds : List (Nat × Nat × Nat) := []
     let s := ready
     let s : State := { s with fw := { s.fw with deferred := d :: ds } }
     let s : State := { s with fw := { s.fw with deferred := [(3, 7, 17)] } }
     let s : State := { s with pwr := { s.pwr with target := some .lean } }
     s.fwRuns = true ∧ s.fw.deferred = d :: ds ∧ s.deferredPosted d = true ∧ d.2.2 ≠ 0 ∧ s.pwr.target ≠ none) := by
  decide +kernel

theorem witness_InterpreterCommandsComplete_3 :
    (let mb : Nat := 3
     let t : Taken := ⟨0x0103, 7, [], false⟩
     let s := ready
     let s : State := { s with fw := { s.fw with taken := smPut s.fw.taken mb (some t) } }
     s.fwRuns = true ∧ s.request mb = some t ∧ t.opcode = 0x0103 ∧ (payload t.data 1).toNat < 2 ^ 13) ∧
    (let mb : Nat := 3
     let t : Taken := ⟨0x0103, 7, [0x2000#32], false⟩
     let s := ready
     let s : State := { s with fw := { s.fw with taken := smPut s.fw.taken mb (some t) } }
     s.fwRuns = true ∧ s.request mb = some t ∧ t.opcode = 0x0103 ∧ 2 ^ 13 ≤ (payload t.data 1).toNat) ∧
    (let mb : Nat := 3
     let t : Taken := ⟨0x0104, 7, [], false⟩
     let s := ready |>.set (GLB_STATUS_MODE) 1
     let s : State := { s with fw := { s.fw with taken := smPut s.fw.taken mb (some t) } }
     s.fwRuns = true ∧ s.request mb = some t ∧ t.opcode = 0x0104 ∧ 1 ≤ s.get GLB_STATUS_MODE ∧ s.get GLB_STATUS_MODE ≤ 4) ∧
    (let mb : Nat := 3
     let t : Taken := ⟨0x0104, 7, [], false⟩
     let s := ready |>.set (GLB_STATUS_MODE) 5
     let s : State := { s with fw := { s.fw with taken := smPut s.fw.taken mb (some t) } }
     s.fwRuns = true ∧ s.request mb = some t ∧ t.opcode = 0x0104 ∧ 5 ≤ s.get GLB_STATUS_MODE) ∧
    (let mb : Nat := 3
     let t : Taken := ⟨0x0105, 7, [0x40#32], false⟩
     let s := ready
     let s : State := { s with fw := { s.fw with taken := smPut s.fw.taken mb (some t) } }
     let s : State := { s with boot := { s.boot with filled := [(0x40, 8)] } }
     s.fwRuns = true ∧ s.request mb = some t ∧ t.opcode = 0x0105 ∧ s.callable (payload t.data 1).toNat = true) ∧
    (let mb : Nat := 3
     let t : Taken := ⟨0x0105, 7, [], false⟩
     let s := ready
     let s : State := { s with fw := { s.fw with taken := smPut s.fw.taken mb (some t) } }
     s.fwRuns = true ∧ s.request mb = some t ∧ t.opcode = 0x0105 ∧ s.callable (payload t.data 1).toNat = false) := by
  decide +kernel

theorem witness_InterpreterCommandsComplete_4 :
    (let mb : Nat := 3
     let t : Taken := ⟨0x0105, 7, [0x40#32], false⟩
     let s := ready
     let s : State := { s with fw := { s.fw with taken := smPut s.fw.taken mb (some t) } }
     let s : State := { s with boot := { s.boot with filled := [(0x40, 8)] } }
     s.fwRuns = true ∧ s.request mb = some t ∧ t.opcode = 0x0105 ∧ s.callable (payload t.data 1).toNat = true) ∧
    (let mb : Nat := 3
     let t : Taken := ⟨0x0106, 7, List.replicate 10 0#32, false⟩
     let s := ready |>.set (GLB_STATUS_MODE) 5
     let s : State := { s with fw := { s.fw with taken := smPut s.fw.taken mb (some t) } }
     s.fwRuns = true ∧ s.request mb = some t ∧ t.opcode = 0x0106 ∧ s.get GLB_STATUS_MODE = 5 ∧ payloadBits t.data 1 0 2 = 0 ∧
       t.data.length = 10 ∧ s.livery.keySet.getLsbD (payloadBits t.data 2 0 2) = false) ∧
    (let mb : Nat := 3
     let t : Taken := ⟨0x0106, 7, List.replicate 10 0#32, false⟩
     let s := ready |>.set (GLB_STATUS_MODE) 5
     let s : State := { s with fw := { s.fw with taken := smPut s.fw.taken mb (some t) } }
     s.fwRuns = true ∧ s.request mb = some t ∧ t.opcode = 0x0106 ∧ s.get GLB_STATUS_MODE = 5 ∧ payloadBits t.data 1 0 2 = 0 ∧
       t.data.length = 10 ∧ s.livery.keySet.getLsbD (payloadBits t.data 2 0 2) = false) ∧
    (let mb : Nat := 3
     let t : Taken := ⟨0x0106, 7, [1#32, 1#32], false⟩
     let s := ready |>.set (GLB_STATUS_MODE) 5
     let s : State := { s with fw := { s.fw with taken := smPut s.fw.taken mb (some t) } }
     let s : State := { s with livery := { s.livery with keySet := 2#4 } }
     s.fwRuns = true ∧ s.request mb = some t ∧ t.opcode = 0x0106 ∧ s.get GLB_STATUS_MODE = 5 ∧ payloadBits t.data 1 0 2 = 1 ∧
       t.data.length = 2 ∧ s.livery.keySet.getLsbD (payloadBits t.data 2 0 2) = true) ∧
    (let mb : Nat := 3
     let t : Taken := ⟨0x0106, 7, [2#32], false⟩
     let s := ready |>.set (GLB_STATUS_MODE) 5
     let s : State := { s with fw := { s.fw with taken := smPut s.fw.taken mb (some t) } }
     s.fwRuns = true ∧ s.request mb = some t ∧ t.opcode = 0x0106 ∧ s.get GLB_STATUS_MODE = 5 ∧ payloadBits t.data 1 0 2 = 2 ∧
       t.data.length = 1) ∧
    (let mb : Nat := 3
     let t : Taken := ⟨0x0106, 7, [], false⟩
     let s := ready
     let s : State := { s with fw := { s.fw with taken := smPut s.fw.taken mb (some t) } }
     s.fwRuns = true ∧ s.request mb = some t ∧ t.opcode = 0x0106 ∧ s.get GLB_STATUS_MODE ≠ 5) := by
  decide +kernel

theorem witness_TimingRequestsComplete_1 :
    (let mb : Nat := 3
     let t : Taken := ⟨0x0201, 7, [], false⟩
     let s := ready
     let s : State := { s with fw := { s.fw with taken := smPut s.fw.taken mb (some t) } }
     s.fwRuns = true ∧ s.request mb = some t ∧ t.opcode = 0x0201) ∧
    (let mb : Nat := 3
     let t : Taken := ⟨0x0202, 7, [], false⟩
     let s := ready
     let s : State := { s with fw := { s.fw with taken := smPut s.fw.taken mb (some t) } }
     s.fwRuns = true ∧ s.request mb = some t ∧ t.opcode = 0x0202) ∧
    (let mb : Nat := 3
     let t : Taken := ⟨0x0301, 7, [], false⟩
     let s := ready
     let s : State := { s with fw := { s.fw with taken := smPut s.fw.taken mb (some t) } }
     s.fwRuns = true ∧ s.request mb = some t ∧ t.opcode = 0x0301) ∧
    (let mb : Nat := 3
     let t : Taken := ⟨0x0305, 7, [], false⟩
     let s := ready
     let s : State := { s with fw := { s.fw with taken := smPut s.fw.taken mb (some t) } }
     s.fwRuns = true ∧ s.request mb = some t ∧ t.opcode = 0x0305) ∧
    (let mb : Nat := 3
     let t : Taken := ⟨0x0401, 7, [], false⟩
     let s := ready
     let s : State := { s with fw := { s.fw with taken := smPut s.fw.taken mb (some t) } }
     s.fwRuns = true ∧ s.request mb = some t ∧ (
     let k := payloadBits t.data 1 0 5
     t.opcode = 0x0401 ∧ k < 24)) ∧
    (let mb : Nat := 3
     let t : Taken := ⟨0x0401, 7, [24#32], false⟩
     let s := ready
     let s : State := { s with fw := { s.fw with taken := smPut s.fw.taken mb (some t) } }
     s.fwRuns = true ∧ s.request mb = some t ∧ (
     let k := payloadBits t.data 1 0 5
     t.opcode = 0x0401 ∧ 24 ≤ k)) := by
  decide +kernel

theorem witness_TimingRequestsComplete_2 :
    (let s := ready
     let as : List Nat := []
     as.any s.gatedAt = false) ∧
    (let s := ready
     let s : State := { s with pwr := { s.pwr with gates := 2 ^ 22 } }
     let as : List Nat := [GAU_CFG 3]
     as.any s.gatedAt = true) ∧
    (let mb : Nat := 3
     let t : Taken := ⟨0x0203, 7, [], false⟩
     let s := ready
     let s : State := { s with fw := { s.fw with taken := smPut s.fw.taken mb (some t) } }
     s.fwRuns = true ∧ s.request mb = some t ∧ t.opcode = 0x0203 ∧ (
     let a := SEL_CTRL (payloadBits t.data 1 0 2)
     let v := withField (withField (s.rd a) (SEL_CTRL_MODE (payloadBits t.data 1 0 2)) (payloadBits t.data 1 8 2))
       (SEL_CTRL_MANUAL_REF (payloadBits t.data 1 0 2)) (payloadBits t.data 1 16 6)
     fieldsFit a (s.rd a) v = true)) ∧
    (let mb : Nat := 3
     let t : Taken := ⟨0x0203, 7, [0x300#32], false⟩
     let s := ready
     let s : State := { s with fw := { s.fw with taken := smPut s.fw.taken mb (some t) } }
     s.fwRuns = true ∧ s.request mb = some t ∧ t.opcode = 0x0203 ∧ (
     let a := SEL_CTRL (payloadBits t.data 1 0 2)
     let v := withField (withField (s.rd a) (SEL_CTRL_MODE (payloadBits t.data 1 0 2)) (payloadBits t.data 1 8 2))
       (SEL_CTRL_MANUAL_REF (payloadBits t.data 1 0 2)) (payloadBits t.data 1 16 6)
     fieldsFit a (s.rd a) v = false)) ∧
    (let mb : Nat := 3
     let t : Taken := ⟨0x0302, 7, [3#32], false⟩
     let s := ready |>.set (DPL_CFG_SRC 3) 4 |>.set (DPL_CFG_ENABLE 3) 1
     let s : State := { s with fw := { s.fw with taken := smPut s.fw.taken mb (some t) } }
     s.fwRuns = true ∧ s.request mb = some t ∧ t.opcode = 0x0302 ∧ (
     let l := payloadBits t.data 1 0 2
     s.on (DPL_CFG_ENABLE l) = true ∧ s.loopSrc l = 4)) ∧
    (let mb : Nat := 3
     let t : Taken := ⟨0x0302, 7, [3#32], false⟩
     let s := ready |>.set (DPL_CFG_ENABLE 3) 0
     let s : State := { s with fw := { s.fw with taken := smPut s.fw.taken mb (some t) } }
     s.fwRuns = true ∧ s.request mb = some t ∧ t.opcode = 0x0302 ∧ (
     let l := payloadBits t.data 1 0 2
     s.on (DPL_CFG_ENABLE l) = false)) := by
  decide +kernel

theorem witness_TimingRequestsComplete_3 :
    (let mb : Nat := 3
     let t : Taken := ⟨0x0302, 7, [], false⟩
     let s := ready
     let s : State := { s with fw := { s.fw with taken := smPut s.fw.taken mb (some t) } }
     s.fwRuns = true ∧ s.request mb = some t ∧ t.opcode = 0x0302 ∧ (
     let l := payloadBits t.data 1 0 2
     s.loopSrc l ≠ 4)) ∧
    (let mb : Nat := 3
     let t : Taken := ⟨0x0303, 7, [5#32, 0#32], false⟩
     let s := ready |>.set (NVS_PROTECT_LEVEL) 0
     let s : State := { s with fw := { s.fw with taken := smPut s.fw.taken mb (some t) } }
     let k : Nat := (nextRecord calMagic (s.nvOctets 0x18000 256) (s.nvOctets 0x18100 256)).1
     let bits : Nat := (nextRecord calMagic (s.nvOctets 0x18000 256) (s.nvOctets 0x18100 256)).2
     s.fwRuns = true ∧ s.request mb = some t ∧ t.opcode = 0x0303 ∧ s.nvFree = true ∧ nextRecord calMagic (s.nvOctets 0x18000
       256) (s.nvOctets 0x18100 256) = (k, bits) ∧ (
     let y := wideOf (payload t.data 1) (payload t.data 2)
     let st := s.recordStatus [384 + k] (decide (1 ≤ s.get NVS_PROTECT_LEVEL))
     y.natAbs ≤ calLimit ∧ st = 0)) ∧
    (let mb : Nat := 3
     let t : Taken := ⟨0x0303, 7, [5#32, 0#32], false⟩
     let s := ready |>.set (NVS_PROTECT_LEVEL) 1
     let s : State := { s with fw := { s.fw with taken := smPut s.fw.taken mb (some t) } }
     let k : Nat := (nextRecord calMagic (s.nvOctets 0x18000 256) (s.nvOctets 0x18100 256)).1
     let bits : Nat := (nextRecord calMagic (s.nvOctets 0x18000 256) (s.nvOctets 0x18100 256)).2
     s.fwRuns = true ∧ s.request mb = some t ∧ t.opcode = 0x0303 ∧ s.nvFree = true ∧ nextRecord calMagic (s.nvOctets 0x18000
       256) (s.nvOctets 0x18100 256) = (k, bits) ∧ (
     let y := wideOf (payload t.data 1) (payload t.data 2)
     let st := s.recordStatus [384 + k] (decide (1 ≤ s.get NVS_PROTECT_LEVEL))
     y.natAbs ≤ calLimit ∧ st ≠ 0)) ∧
    (let mb : Nat := 3
     let t : Taken := ⟨0x0303, 7, [0#32, 0x7FFF#32], false⟩
     let s := ready
     let s : State := { s with fw := { s.fw with taken := smPut s.fw.taken mb (some t) } }
     s.fwRuns = true ∧ s.request mb = some t ∧ t.opcode = 0x0303 ∧ calLimit < (wideOf (payload t.data 1) (payload t.data
       2)).natAbs) ∧
    (let mb : Nat := 3
     let t : Taken := ⟨0x0304, 7, [], false⟩
     let s := ready |>.set (NVS_PROTECT_LEVEL) 0
     let s : State := { s with fw := { s.fw with taken := smPut s.fw.taken mb (some t) } }
     s.fwRuns = true ∧ s.request mb = some t ∧ t.opcode = 0x0304 ∧ s.clearByHost = false ∧ s.nvFree = true ∧ (
     let st := s.recordStatus [256, 257] (decide (2 ≤ s.get NVS_PROTECT_LEVEL))
     st = 0)) ∧
    (let mb : Nat := 3
     let t : Taken := ⟨0x0304, 7, [], false⟩
     let s := ready |>.set (NVS_PROTECT_LEVEL) 3
     let s : State := { s with fw := { s.fw with taken := smPut s.fw.taken mb (some t) } }
     s.fwRuns = true ∧ s.request mb = some t ∧ t.opcode = 0x0304 ∧ s.clearByHost = false ∧ s.nvFree = true ∧ (
     let st := s.recordStatus [256, 257] (decide (2 ≤ s.get NVS_PROTECT_LEVEL))
     st ≠ 0)) := by
  decide +kernel

theorem witness_TimingRequestsComplete_4 :
    (let mb : Nat := 3
     let t : Taken := ⟨0x0304, 7, [], false⟩
     let s := ready
     let s : State := { s with fw := { s.fw with taken := smPut s.fw.taken mb (some t) } }
     let s : State := { s with hold := { s.hold with clearing := true } }
     let s : State := { s with nvs := { s.nvs with job := some ⟨[], false, false, [(4, 0)], 0⟩ } }
     s.fwRuns = true ∧ s.request mb = some t ∧ t.opcode = 0x0304 ∧ s.clearByHost = true) ∧
    (let mb : Nat := 3
     let t : Taken := ⟨0x0402, 7, [], false⟩
     let s := ready
     let s : State := { s with fw := { s.fw with taken := smPut s.fw.taken mb (some t) } }
     s.fwRuns = true ∧ s.request mb = some t ∧ t.opcode = 0x0402 ∧ (
     let named := bitsOf (payload t.data 1).toNat 24
     let u := s.each named fun n x => x.busWrite .coachA (OUT_CFG n) (withField (x.rd (OUT_CFG n)) (OUT_CFG_ENABLE n) (if
       (payload t.data 2).getLsbD n then 1 else 0))
     (∀ n ∈ named, (payload t.data 2).getLsbD n = true → u.on (OUT_CFG_ENABLE n) = true))) ∧
    (let mb : Nat := 3
     let t : Taken := ⟨0x0501, 7, [], false⟩
     let s := ready
     let s : State := { s with fw := { s.fw with taken := smPut s.fw.taken mb (some t) } }
     s.fwRuns = true ∧ s.request mb = some t ∧ t.opcode = 0x0501) ∧
    (let mb : Nat := 3
     let t : Taken := ⟨0x0502, 7, [], false⟩
     let s := ready
     let s : State := { s with fw := { s.fw with taken := smPut s.fw.taken mb (some t) } }
     s.fwRuns = true ∧ s.request mb = some t ∧ t.opcode = 0x0502) := by
  decide +kernel

theorem witness_NetworkRequestsComplete_1 :
    (let mb : Nat := 3
     let t : Taken := ⟨0x0601, 7, [5#32, 4#32, 9#32], false⟩
     let s := ready |>.set (GAU_STATUS_STAT_BUSY 5) 1
     let s : State := { s with fw := { s.fw with taken := smPut s.fw.taken mb (some t) } }
     s.fwRuns = true ∧ s.request mb = some t ∧ t.opcode = 0x0601 ∧ smAt s.fw.gauge mb = none ∧ (
     let n := payloadBits t.data 1 0 6
     let cfg := withField (withField (s.rd (GAU_STAT_CFG n)) (GAU_STAT_CFG_QTY n) (payloadBits t.data 1 8 2)) (GAU_STAT_CFG_N n)
       (payloadBits t.data 2 0 16)
     fieldsFit (GAU_STAT_CFG n) (s.rd (GAU_STAT_CFG n)) cfg = true ∧ payloadBits t.data 2 0 16 ≠ 0 ∧ payloadBits t.data 3 0 16 ≠
       0 ∧ s.gatedAt (GAU_STAT_CFG n) = false ∧ s.on (GAU_STATUS_STAT_BUSY n) = true)) ∧
    (let mb : Nat := 3
     let t : Taken := ⟨0x0601, 7, [5#32, 4#32, 9#32], false⟩
     let s := ready |>.set (GAU_STATUS_STAT_BUSY 5) 0 |>.set (GAU_CFG_ENABLE 5) 1 |>.set (GAU_CFG_MODE 5) 1
     let s : State := { s with fw := { s.fw with taken := smPut s.fw.taken mb (some t) } }
     s.fwRuns = true ∧ s.request mb = some t ∧ t.opcode = 0x0601 ∧ smAt s.fw.gauge mb = none ∧ (
     let n := payloadBits t.data 1 0 6
     let cfg := withField (withField (s.rd (GAU_STAT_CFG n)) (GAU_STAT_CFG_QTY n) (payloadBits t.data 1 8 2)) (GAU_STAT_CFG_N n)
       (payloadBits t.data 2 0 16)
     fieldsFit (GAU_STAT_CFG n) (s.rd (GAU_STAT_CFG n)) cfg = true ∧ payloadBits t.data 2 0 16 ≠ 0 ∧ payloadBits t.data 3 0 16 ≠
       0 ∧ s.gatedAt (GAU_STAT_CFG n) = false ∧ s.on (GAU_STATUS_STAT_BUSY n) = false ∧ (s.wr (GAU_STAT_CFG n) cfg).statTaken n =
       true)) ∧
    (let mb : Nat := 3
     let n : Nat := 5
     let t : Taken := ⟨0x0601, 7, [5#32], false⟩
     let s := ready
     let s : State := { s with fw := { s.fw with taken := smPut s.fw.taken mb (some t) } }
     let s : State := { s with fw := { s.fw with gauge := smPut s.fw.gauge 3 (some 5) } }
     s.fwRuns = true ∧ s.request mb = some t ∧ t.opcode = 0x0601 ∧ smAt s.fw.gauge mb = some n) ∧
    (let mb : Nat := 3
     let t : Taken := ⟨0x0701, 7, [192#32], false⟩
     let s := ready
     let s : State := { s with fw := { s.fw with taken := smPut s.fw.taken mb (some t) } }
     s.fwRuns = true ∧ s.request mb = some t ∧ t.opcode = 0x0701 ∧ (
     let k := payloadBits t.data 1 0 8
     192 ≤ k)) ∧
    (let mb : Nat := 3
     let t : Taken := ⟨0x0701, 7, [5#32], false⟩
     let s := ready |>.set (SESS_CFG_ENABLE 5) 1
     let s : State := { s with fw := { s.fw with taken := smPut s.fw.taken mb (some t) } }
     s.fwRuns = true ∧ s.request mb = some t ∧ t.opcode = 0x0701 ∧ (
     let k := payloadBits t.data 1 0 8
     k < 192 ∧ s.on (SESS_CFG_ENABLE k) = true)) ∧
    (let mb : Nat := 3
     let t : Taken := ⟨0x0701, 7, [5#32, 1#32, 0#32], false⟩
     let s := ready
     let s : State := { s with fw := { s.fw with taken := smPut s.fw.taken mb (some t) } }
     let s : State := { s with tse := { s.tse with insts := smPut s.tse.insts (s.get (SESS_CFG_DOMAIN_NUM 5)) (some ⟨[0x200#32]⟩) } }
     s.fwRuns = true ∧ s.request mb = some t ∧ t.opcode = 0x0701 ∧ (
     let k := payloadBits t.data 1 0 8
     k < 192 ∧ s.on (SESS_CFG_ENABLE k) = false ∧ s.sessProfile k = some 2 ∧ profileAddress (payload t.data 2) (payload t.data
       3) = false)) := by
  decide +kernel

theorem witness_NetworkRequestsComplete_2 :
    (let mb : Nat := 3
     let t : Taken := ⟨0x0701, 7, [], false⟩
     let s := ready
     let s : State := { s with fw := { s.fw with taken := smPut s.fw.taken mb (some t) } }
     s.fwRuns = true ∧ s.request mb = some t ∧ t.opcode = 0x0701 ∧ (
     let k := payloadBits t.data 1 0 8
     k < 192 ∧ s.on (SESS_CFG_ENABLE k) = false ∧ s.sessProfile k ≠ some 2 ∧ s.gatedAt (SESS_CFG k) = false)) ∧
    (let mb : Nat := 3
     let t : Taken := ⟨0x0702, 7, [0x105#32], false⟩
     let s := ready
     let s : State := { s with fw := { s.fw with taken := smPut s.fw.taken mb (some t) } }
     s.fwRuns = true ∧ s.request mb = some t ∧ t.opcode = 0x0702 ∧ (
     let k := payloadBits t.data 1 0 8
     k < 192 ∧ s.on (SESS_CFG_ENABLE k) = false ∧ payloadBits t.data 1 8 1 = 1 ∧ s.gatedAt (SESS_CFG k) = false)) ∧
    (let mb : Nat := 3
     let t : Taken := ⟨0x0703, 7, [0x217#32], false⟩
     let s := ready
     let s : State := { s with fw := { s.fw with taken := smPut s.fw.taken mb (some t) } }
     s.fwRuns = true ∧ s.request mb = some t ∧ t.opcode = 0x0703 ∧ (
     let dn := payloadBits t.data 1 0 8
     let profile := payloadBits t.data 1 8 3
     profileAllows profile dn = false)) ∧
    (let mb : Nat := 3
     let t : Taken := ⟨0x0703, 7, [0x218#32], false⟩
     let s := ready
     let s : State := { s with fw := { s.fw with taken := smPut s.fw.taken mb (some t) } }
     let s : State := { s with tse := { s.tse with insts := smPut s.tse.insts 24 (some ⟨[]⟩) } }
     s.fwRuns = true ∧ s.request mb = some t ∧ t.opcode = 0x0703 ∧ (
     let dn := payloadBits t.data 1 0 8
     let profile := payloadBits t.data 1 8 3
     profileAllows profile dn = true ∧ profile ≠ 4 ∧ (smAt s.tse.insts dn).isSome = true ∧ s.gatedAt (SESS_CFG 0) = false)) ∧
    (let mb : Nat := 3
     let t : Taken := ⟨0x0703, 7, [0x418#32], false⟩
     let s := ready
     let s : State := { s with fw := { s.fw with taken := smPut s.fw.taken mb (some t) } }
     let s : State := { s with tse := { s.tse with insts := smPut s.tse.insts 24 (some ⟨[]⟩) } }
     s.fwRuns = true ∧ s.request mb = some t ∧ t.opcode = 0x0703 ∧ (
     let dn := payloadBits t.data 1 0 8
     let profile := payloadBits t.data 1 8 3
     profileAllows profile dn = true ∧ profile = 4 ∧ (smAt s.tse.insts dn).isSome = true)) ∧
    (let mb : Nat := 3
     let t : Taken := ⟨0x0703, 7, [0x218#32], false⟩
     let s := ready
     let s : State := { s with fw := { s.fw with taken := smPut s.fw.taken mb (some t) } }
     let s : State := { s with tse := { s.tse with insts := (List.range 8).foldl (fun m k => smPut m k (some ⟨[]⟩)) s.tse.insts } }
     s.fwRuns = true ∧ s.request mb = some t ∧ t.opcode = 0x0703 ∧ (
     let dn := payloadBits t.data 1 0 8
     let profile := payloadBits t.data 1 8 3
     profileAllows profile dn = true ∧ profile ≠ 4 ∧ smAt s.tse.insts dn = none ∧ 8 ≤ s.tse.insts.length)) := by
  decide +kernel

theorem witness_NetworkRequestsComplete_3 :
    (let mb : Nat := 3
     let t : Taken := ⟨0x0703, 7, [0x418#32], false⟩
     let s := ready
     let s : State := { s with fw := { s.fw with taken := smPut s.fw.taken mb (some t) } }
     s.fwRuns = true ∧ s.request mb = some t ∧ t.opcode = 0x0703 ∧ (
     let dn := payloadBits t.data 1 0 8
     let profile := payloadBits t.data 1 8 3
     profileAllows profile dn = true ∧ profile = 4 ∧ smAt s.tse.insts dn = none)) ∧
    (let mb : Nat := 3
     let t : Taken := ⟨0x0704, 7, [5#32], false⟩
     let x : PtpInst := ⟨[1#32]⟩
     let s := ready
     let s : State := { s with fw := { s.fw with taken := smPut s.fw.taken mb (some t) } }
     let s : State := { s with tse := { s.tse with insts := smPut s.tse.insts (s.get (SESS_CFG_DOMAIN_NUM 5)) (some ⟨[1#32]⟩) } }
     s.fwRuns = true ∧ s.request mb = some t ∧ t.opcode = 0x0704 ∧ (
     let k := payloadBits t.data 1 0 8
     let dn := s.get (SESS_CFG_DOMAIN_NUM k)
     k < 192 ∧ s.gatedAt (SESS_CFG k) = false ∧ smAt s.tse.insts dn = some x)) ∧
    (let mb : Nat := 3
     let t : Taken := ⟨0x0704, 7, [], false⟩
     let s := ready
     let s : State := { s with fw := { s.fw with taken := smPut s.fw.taken mb (some t) } }
     s.fwRuns = true ∧ s.request mb = some t ∧ t.opcode = 0x0704 ∧ (
     let k := payloadBits t.data 1 0 8
     let dn := s.get (SESS_CFG_DOMAIN_NUM k)
     k < 192 ∧ s.gatedAt (SESS_CFG k) = false ∧ smAt s.tse.insts dn = none)) ∧
    (let mb : Nat := 3
     let t : Taken := ⟨0x0705, 7, [], false⟩
     let s := ready
     let s : State := { s with fw := { s.fw with taken := smPut s.fw.taken mb (some t) } }
     s.fwRuns = true ∧ s.request mb = some t ∧ (
     let p := payloadBits t.data 1 0 6
     t.opcode = 0x0705 ∧ p < 48)) ∧
    (let mb : Nat := 3
     let t : Taken := ⟨0x0705, 7, [48#32], false⟩
     let s := ready
     let s : State := { s with fw := { s.fw with taken := smPut s.fw.taken mb (some t) } }
     s.fwRuns = true ∧ s.request mb = some t ∧ (
     let p := payloadBits t.data 1 0 6
     t.opcode = 0x0705 ∧ 48 ≤ p)) ∧
    (let mb : Nat := 3
     let t : Taken := ⟨0x0801, 7, [], false⟩
     let s := ready
     let s : State := { s with fw := { s.fw with taken := smPut s.fw.taken mb (some t) } }
     s.fwRuns = true ∧ s.request mb = some t ∧ (
     let p := payloadBits t.data 1 0 6
     t.opcode = 0x0801 ∧ p < 48)) := by
  decide +kernel

theorem witness_NetworkRequestsComplete_4 :
    (let mb : Nat := 3
     let t : Taken := ⟨0x0801, 7, [48#32], false⟩
     let s := ready
     let s : State := { s with fw := { s.fw with taken := smPut s.fw.taken mb (some t) } }
     s.fwRuns = true ∧ s.request mb = some t ∧ (
     let p := payloadBits t.data 1 0 6
     t.opcode = 0x0801 ∧ 48 ≤ p)) ∧
    (let mb : Nat := 3
     let t : Taken := ⟨0x0802, 7, [48#32], false⟩
     let s := ready
     let s : State := { s with fw := { s.fw with taken := smPut s.fw.taken mb (some t) } }
     s.fwRuns = true ∧ s.request mb = some t ∧ t.opcode = 0x0802 ∧ ([0, 1, 2, 3].all fun k => ((s.bus k).now.toList ++ (s.bus
       k).waits.toList).all fun j => j.who != .command mb) = true ∧ (
     let p := payloadBits t.data 1 0 6
     48 ≤ p)) ∧
    (let mb : Nat := 3
     let t : Taken := ⟨0x0802, 7, [0x390005#32], false⟩
     let s := ready
     let s : State := { s with fw := { s.fw with taken := smPut s.fw.taken mb (some t) } }
     s.fwRuns = true ∧ s.request mb = some t ∧ t.opcode = 0x0802 ∧ ([0, 1, 2, 3].all fun k => ((s.bus k).now.toList ++ (s.bus
       k).waits.toList).all fun j => j.who != .command mb) = true ∧ (
     let p := payloadBits t.data 1 0 6
     let n := payloadBits t.data 1 16 8
     p < 48 ∧ 56 < n)) ∧
    (let mb : Nat := 3
     let t : Taken := ⟨0x0802, 7, [], false⟩
     let s := ready
     let s : State := { s with fw := { s.fw with taken := smPut s.fw.taken mb (some t) } }
     s.fwRuns = true ∧ s.request mb = some t ∧ t.opcode = 0x0802 ∧ ([0, 1, 2, 3].all fun k => ((s.bus k).now.toList ++ (s.bus
       k).waits.toList).all fun j => j.who != .command mb) = true ∧ (
     let p := payloadBits t.data 1 0 6
     let n := payloadBits t.data 1 16 8
     p < 48 ∧ n = 0)) ∧
    (let mb : Nat := 3
     let t : Taken := ⟨0x0802, 7, [0x380005#32], false⟩
     let s := ready |>.set (PRT_I2C_STATUS_BUSY 0) 1
     let s : State := { s with fw := { s.fw with taken := smPut s.fw.taken mb (some t) } }
     s.fwRuns = true ∧ s.request mb = some t ∧ t.opcode = 0x0802 ∧ ([0, 1, 2, 3].all fun k => ((s.bus k).now.toList ++ (s.bus
       k).waits.toList).all fun j => j.who != .command mb) = true ∧ (
     let p := payloadBits t.data 1 0 6
     let n := payloadBits t.data 1 16 8
     let b := s.get (PRT_MOD_ROUTE_MASTER p)
     p < 48 ∧ 0 < n ∧ n ≤ 56 ∧ s.on (PRT_I2C_STATUS_BUSY b) = true)) ∧
    (let mb : Nat := 3
     let t : Taken := ⟨0x0802, 7, [0x380005#32], false⟩
     let s := ready
     let s : State := { s with fw := { s.fw with taken := smPut s.fw.taken mb (some t) } }
     s.fwRuns = true ∧ s.request mb = some t ∧ t.opcode = 0x0802 ∧ ([0, 1, 2, 3].all fun k => ((s.bus k).now.toList ++ (s.bus
       k).waits.toList).all fun j => j.who != .command mb) = true ∧ (
     let p := payloadBits t.data 1 0 6
     let n := payloadBits t.data 1 16 8
     let b := s.get (PRT_MOD_ROUTE_MASTER p)
     p < 48 ∧ 0 < n ∧ n ≤ 56 ∧ s.on (PRT_I2C_STATUS_BUSY b) = false ∧ s.on (PRT_MOD_ROUTE_MUX_EN p) = false)) := by
  decide +kernel

theorem witness_NetworkRequestsComplete_5 :
    (let b : Nat := 3
     let mb : Nat := 3
     let j : I2cJob := { (default : I2cJob) with who := .command 3 }
     let s := ready
     let s : State := s.setBus b { s.bus b with now := some j }
     let s : State := s.setBus 3 { s.bus 3 with now := some { (default : I2cJob) with who := .command 3 } }
     b < 4 ∧ s.i2cOn = true ∧ (s.bus b).now = some j ∧ j.who = .command mb) ∧
    (let b : Nat := 3
     let p : Nat := 0
     let j : I2cJob := default
     let s := ready
     let s : State := s.setBus b { s.bus b with now := some j }
     b < 4 ∧ s.i2cOn = true ∧ (s.bus b).now = some j ∧ (j.who = .host ∨ j.who = .poll p ∨ j.who = .sensor true ∨ j.who = .sensor
       false)) ∧
    (let mb : Nat := 3
     let t : Taken := ⟨0x0901, 7, [50#32], false⟩
     let s := ready
     let s : State := { s with fw := { s.fw with taken := smPut s.fw.taken mb (some t) } }
     s.fwRuns = true ∧ s.request mb = some t ∧ t.opcode = 0x0901 ∧ (
     let p := payloadBits t.data 1 0 6
     let all := payloadBits t.data 1 16 1
     all = 0 ∧ 50 ≤ p)) ∧
    (let mb : Nat := 3
     let t : Taken := ⟨0x0901, 7, [], false⟩
     let s := ready |>.set (FWD_TBL_CMD_BUSY) 1
     let s : State := { s with fw := { s.fw with taken := smPut s.fw.taken mb (some t) } }
     s.fwRuns = true ∧ s.request mb = some t ∧ t.opcode = 0x0901 ∧ (
     let p := payloadBits t.data 1 0 6
     let all := payloadBits t.data 1 16 1
     (all = 1 ∨ p < 50) ∧ s.gatedAt FWD_TBL_CMD = false ∧ s.on FWD_TBL_CMD_BUSY = true)) ∧
    (let mb : Nat := 3
     let t : Taken := ⟨0x0901, 7, [], false⟩
     let s := ready
     let s : State := { s with fw := { s.fw with taken := smPut s.fw.taken mb (some t) } }
     s.fwRuns = true ∧ s.request mb = some t ∧ t.opcode = 0x0901 ∧ (
     let p := payloadBits t.data 1 0 6
     let all := payloadBits t.data 1 16 1
     (all = 1 ∨ p < 50) ∧ s.gatedAt FWD_TBL_CMD = false ∧ s.on FWD_TBL_CMD_BUSY = false)) ∧
    (let mb : Nat := 3
     let t : Taken := ⟨0x0902, 7, [5#32, 0x10000#32], false⟩
     let s := ready
     let s : State := { s with fw := { s.fw with taken := smPut s.fw.taken mb (some t) } }
     let st : Nat := (s.bankOp 4 1 0 t.data).2
     s.fwRuns = true ∧ s.request mb = some t ∧ t.opcode = 0x0902 ∧ entryOk 1 (t.data ++ [0, 0]) = true ∧ s.gatedAt FWD_TBL_CMD =
       false ∧ s.on FWD_TBL_CMD_BUSY = false ∧ (s.bankOp 4 1 0 t.data).2 = st ∧ st ≠ 0) := by
  decide +kernel

theorem witness_NetworkRequestsComplete_6 :
    (let mb : Nat := 3
     let t : Taken := ⟨0x0903, 7, [], false⟩
     let s := ready
     let s : State := { s with fw := { s.fw with taken := smPut s.fw.taken mb (some t) } }
     s.fwRuns = true ∧ s.request mb = some t ∧ t.opcode = 0x0903 ∧ (
     let table := payloadBits t.data 1 0 16
     entryWords table = none)) ∧
    (let mb : Nat := 3
     let t : Taken := ⟨0x0903, 7, [1#32, 5#32, 0x10000#32, 0#32, 0#32], false⟩
     let s := ready
     let s : State := { s with fw := { s.fw with taken := smPut s.fw.taken mb (some t) } }
     s.fwRuns = true ∧ s.request mb = some t ∧ t.opcode = 0x0903 ∧ (
     let table := payloadBits t.data 1 0 16
     let es := t.data.drop 1
     table = 1 ∧ entryWords 1 = some es.length ∧ payloadBits t.data 1 16 1 = 0 ∧ entryOk 1 es = true ∧ s.gatedAt FWD_TBL_CMD =
       false ∧ s.on FWD_TBL_CMD_BUSY = false)) ∧
    (let mb : Nat := 3
     let t : Taken := ⟨0x0903, 7, [4#32, 47#32, 0#32, 100#32], false⟩
     let s := ready
     let s : State := { s with fw := { s.fw with taken := smPut s.fw.taken mb (some t) } }
     s.fwRuns = true ∧ s.request mb = some t ∧ t.opcode = 0x0903 ∧ (
     let table := payloadBits t.data 1 0 16
     let es := t.data.drop 1
     table = 4 ∧ entryWords 4 = some es.length ∧ payloadBits t.data 1 16 1 = 0 ∧ entryOk 4 es = true ∧ s.on
       (SCH_GCL_STATUS_PENDING (gatePlaceOf es).1) = false ∧ s.gatedAt SCH_CTRL = false)) := by
  decide +kernel

theorem witness_StoreRequestsComplete_1 :
    (let mb : Nat := 3
     let t : Taken := ⟨0x0A01, 7, [], false⟩
     let s := ready
     let s : State := { s with fw := { s.fw with taken := smPut s.fw.taken mb (some t) } }
     let st : Nat := (s.nvCommand 0 (payloadBits t.data 1 0 17) (payload t.data 2).toNat false []).2.getD 0
     s.fwRuns = true ∧ s.request mb = some t ∧ t.opcode = 0x0A01 ∧ s.nvFree = true ∧ (payload t.data 2).toNat ≤ 56 ∧
       (s.nvCommand 0 (payloadBits t.data 1 0 17) (payload t.data 2).toNat false []).2 = some st ∧ st = 0) ∧
    (let mb : Nat := 3
     let t : Taken := ⟨0x0A01, 7, [0x8000#32, 56#32], false⟩
     let s := ready
     let s : State := { s with fw := { s.fw with taken := smPut s.fw.taken mb (some t) } }
     let s : State := { s with nvs := { s.nvs with uncorr := [0x1000] } }
     let st : Nat := (s.nvCommand 0 (payloadBits t.data 1 0 17) (payload t.data 2).toNat false []).2.getD 0
     s.fwRuns = true ∧ s.request mb = some t ∧ t.opcode = 0x0A01 ∧ s.nvFree = true ∧ (payload t.data 2).toNat ≤ 56 ∧
       (s.nvCommand 0 (payloadBits t.data 1 0 17) (payload t.data 2).toNat false []).2 = some st ∧ st = 6) ∧
    (let mb : Nat := 3
     let t : Taken := ⟨0x0A01, 7, [0x1FFFF#32, 2#32], false⟩
     let s := ready
     let s : State := { s with fw := { s.fw with taken := smPut s.fw.taken mb (some t) } }
     let st : Nat := (s.nvCommand 0 (payloadBits t.data 1 0 17) (payload t.data 2).toNat false []).2.getD 0
     s.fwRuns = true ∧ s.request mb = some t ∧ t.opcode = 0x0A01 ∧ s.nvFree = true ∧ (payload t.data 2).toNat ≤ 56 ∧
       (s.nvCommand 0 (payloadBits t.data 1 0 17) (payload t.data 2).toNat false []).2 = some st ∧ st ≠ 0 ∧ st ≠ 6) ∧
    (let mb : Nat := 3
     let t : Taken := ⟨0x0A01, 7, [0#32, 57#32], false⟩
     let s := ready
     let s : State := { s with fw := { s.fw with taken := smPut s.fw.taken mb (some t) } }
     s.fwRuns = true ∧ s.request mb = some t ∧ t.opcode = 0x0A01 ∧ 56 < (payload t.data 2).toNat) ∧
    (let mb : Nat := 3
     let t : Taken := ⟨0x0A01, 7, [0#32, 56#32], false⟩
     let s := ready
     let s : State := { s with fw := { s.fw with taken := smPut s.fw.taken mb (some t) } }
     let s : State := { s with nvs := { s.nvs with job := some ⟨[], false, false, [], 0⟩ } }
     s.fwRuns = true ∧ s.request mb = some t ∧ t.opcode = 0x0A01 ∧ (payload t.data 2).toNat ≤ 56 ∧ s.nvFree = false) ∧
    (let mb : Nat := 3
     let t : Taken := ⟨0x0A02, 7, [0x8000#32, 4#32, 9#32], false⟩
     let bs : List Octet := (requestOctets t.data (payload t.data 2).toNat).getD []
     let st : Nat := 0
     let s := ready
     let s : State := { s with fw := { s.fw with taken := smPut s.fw.taken mb (some t) } }
     let o : Option Nat := ((s.nvToWindow bs).nvCommand 1 (payloadBits t.data 1 0 17) (payload t.data 2).toNat (payloadBits
       t.data 1 24 1 == 1) [(6, mb)]).2
     s.fwRuns = true ∧ s.request mb = some t ∧ t.opcode = 0x0A02 ∧ s.nvFree = true ∧ requestOctets t.data (payload t.data
       2).toNat = some bs ∧ 0 < (payload t.data 2).toNat ∧ (payload t.data 2).toNat ≤ 52 ∧ 0x8000 ≤ payloadBits t.data 1 0 17 ∧
       payloadBits t.data 1 0 17 + (payload t.data 2).toNat ≤ 0x10000 ∧ ((s.nvToWindow bs).nvCommand 1 (payloadBits t.data 1 0 17)
       (payload t.data 2).toNat (payloadBits t.data 1 24 1 == 1) [(6, mb)]).2 = o ∧ o = some st) := by
  decide +kernel

theorem witness_StoreRequestsComplete_2 :
    (let mb : Nat := 3
     let t : Taken := ⟨0x0A02, 7, [0x1008000#32, 4#32, 9#32], false⟩
     let bs : List Octet := (requestOctets t.data (payload t.data 2).toNat).getD []
     let s := ready
     let s : State := { s with fw := { s.fw with taken := smPut s.fw.taken mb (some t) } }
     let o : Option Nat := ((s.nvToWindow bs).nvCommand 1 (payloadBits t.data 1 0 17) (payload t.data 2).toNat (payloadBits
       t.data 1 24 1 == 1) [(6, mb)]).2
     s.fwRuns = true ∧ s.request mb = some t ∧ t.opcode = 0x0A02 ∧ s.nvFree = true ∧ requestOctets t.data (payload t.data
       2).toNat = some bs ∧ 0 < (payload t.data 2).toNat ∧ (payload t.data 2).toNat ≤ 52 ∧ 0x8000 ≤ payloadBits t.data 1 0 17 ∧
       payloadBits t.data 1 0 17 + (payload t.data 2).toNat ≤ 0x10000 ∧ ((s.nvToWindow bs).nvCommand 1 (payloadBits t.data 1 0 17)
       (payload t.data 2).toNat (payloadBits t.data 1 24 1 == 1) [(6, mb)]).2 = o ∧ o = none) ∧
    (let mb : Nat := 3
     let t : Taken := ⟨0x0A02, 7, [0#32, 4#32, 9#32], false⟩
     let bs : List Octet := (requestOctets t.data (payload t.data 2).toNat).getD []
     let s := ready
     let s : State := { s with fw := { s.fw with taken := smPut s.fw.taken mb (some t) } }
     s.fwRuns = true ∧ s.request mb = some t ∧ t.opcode = 0x0A02 ∧ requestOctets t.data (payload t.data 2).toNat = some bs ∧ 0 <
       (payload t.data 2).toNat ∧ (payload t.data 2).toNat ≤ 52 ∧ payloadBits t.data 1 0 17 < 0x8000) ∧
    (let mb : Nat := 3
     let t : Taken := ⟨0x0A03, 7, [], false⟩
     let s := ready
     let s : State := { s with fw := { s.fw with taken := smPut s.fw.taken mb (some t) } }
     let o : Option Nat := (s.nvCommand 2 (s.get NVS_ADDR_ADDR) (s.get NVS_LEN_LEN) false [(6, mb)]).2
     let st : Nat := (o).getD default
     s.fwRuns = true ∧ s.request mb = some t ∧ t.opcode = 0x0A03 ∧ s.nvFree = true ∧ (s.nvCommand 2 (s.get NVS_ADDR_ADDR) (s.get
       NVS_LEN_LEN) false [(6, mb)]).2 = o ∧ o = some st) ∧
    (let mb : Nat := 3
     let t : Taken := ⟨0x0A03, 7, [], false⟩
     let o : Option Nat := none
     let s := ready
     let s : State := { s with fw := { s.fw with taken := smPut s.fw.taken mb (some t) } }
     let s : State := { s with nvs := { s.nvs with buffer := [(300, [])] } }
     s.fwRuns = true ∧ s.request mb = some t ∧ t.opcode = 0x0A03 ∧ s.nvFree = true ∧ (s.nvCommand 2 (s.get NVS_ADDR_ADDR) (s.get
       NVS_LEN_LEN) false [(6, mb)]).2 = o ∧ o = none) ∧
    (let mb : Nat := 3
     let t : Taken := ⟨0x0A04, 7, [], false⟩
     let bs : List Octet := (requestOctets t.data (payload t.data 2).toNat).getD default
     let s := ready
     let s : State := { s with fw := { s.fw with taken := smPut s.fw.taken mb (some t) } }
     s.fwRuns = true ∧ s.request mb = some t ∧ t.opcode = 0x0A04 ∧ s.nvFree = true ∧ requestOctets t.data (payload t.data
       2).toNat = some bs ∧ (payload t.data 1).toNat ≤ 491 ∧ (payload t.data 2).toNat ≤ 52 ∧ (payload t.data 1).toNat + (payload
       t.data 2).toNat ≤ 492) ∧
    (let mb : Nat := 3
     let t : Taken := ⟨0x0A04, 7, [492#32, 4#32, 9#32], false⟩
     let bs : List Octet := (requestOctets t.data (payload t.data 2).toNat).getD []
     let s := ready
     let s : State := { s with fw := { s.fw with taken := smPut s.fw.taken mb (some t) } }
     s.fwRuns = true ∧ s.request mb = some t ∧ t.opcode = 0x0A04 ∧ requestOctets t.data (payload t.data 2).toNat = some bs ∧
       (payload t.data 2).toNat ≤ 52 ∧ 491 < (payload t.data 1).toNat) := by
  decide +kernel

theorem witness_StoreRequestsComplete_3 :
    (let mb : Nat := 3
     let t : Taken := ⟨0x0A05, 7, [], false⟩
     let st : Nat := 4
     let s := ready |>.set (PWR_TOKENS_TOKENS) 0
     let s : State := { s with fw := { s.fw with taken := smPut s.fw.taken mb (some t) } }
     let o : Option Nat := (s.nvCommand 4 (s.get NVS_ADDR_ADDR) (s.get NVS_LEN_LEN) false []).2
     s.fwRuns = true ∧ s.request mb = some t ∧ t.opcode = 0x0A05 ∧ s.nvFree = true ∧ (s.nvCommand 4 (s.get NVS_ADDR_ADDR) (s.get
       NVS_LEN_LEN) false []).2 = o ∧ o = some st) ∧
    (let mb : Nat := 3
     let t : Taken := ⟨0x0A05, 7, [], false⟩
     let o : Option Nat := none
     let s := ready
     let s : State := { s with fw := { s.fw with taken := smPut s.fw.taken mb (some t) } }
     s.fwRuns = true ∧ s.request mb = some t ∧ t.opcode = 0x0A05 ∧ s.nvFree = true ∧ (s.nvCommand 4 (s.get NVS_ADDR_ADDR) (s.get
       NVS_LEN_LEN) false []).2 = o ∧ o = none) ∧
    (let mb : Nat := 3
     let t : Taken := ⟨0x0B01, 7, [0#32], false⟩
     let e : FaultEntry := default
     let s := ready
     let s : State := { s with fw := { s.fw with taken := smPut s.fw.taken mb (some t) } }
     let s : State := { s with flt := { s.flt with pageEntries := [default] } }
     s.fwRuns = true ∧ s.request mb = some t ∧ t.opcode = 0x0B01 ∧ s.coreBRuns = true ∧ s.eventLog[payloadBits t.data 1 0 16]? =
       some e) ∧
    (let mb : Nat := 3
     let t : Taken := ⟨0x0B01, 7, [], false⟩
     let s := ready
     let s : State := { s with fw := { s.fw with taken := smPut s.fw.taken mb (some t) } }
     s.fwRuns = true ∧ s.request mb = some t ∧ t.opcode = 0x0B01 ∧ s.coreBRuns = true ∧ s.eventLog.length ≤ payloadBits t.data 1
       0 16) ∧
    (let mb : Nat := 3
     let t : Taken := ⟨0x0B02, 7, [5#32, 0#32], false⟩
     let s := ready
     let s : State := { s with fw := { s.fw with taken := smPut s.fw.taken mb (some t) } }
     s.fwRuns = true ∧ s.request mb = some t ∧ t.opcode = 0x0B02 ∧ (
     let target := payloadBits t.data 1 0 3
     5 ≤ target)) ∧
    (let mb : Nat := 3
     let t : Taken := ⟨0x0B02, 7, [4#32, 16#32], false⟩
     let s := ready
     let s : State := { s with fw := { s.fw with taken := smPut s.fw.taken mb (some t) } }
     s.fwRuns = true ∧ s.request mb = some t ∧ t.opcode = 0x0B02 ∧ (
     let target := payloadBits t.data 1 0 3
     let mask := (payload t.data 2).toNat
     target < 5 ∧ 16 ≤ mask)) := by
  decide +kernel

theorem witness_StoreRequestsComplete_4 :
    (let mb : Nat := 3
     let t : Taken := ⟨0x0B02, 7, [4#32, 15#32], false⟩
     let s := ready
     let s : State := { s with fw := { s.fw with taken := smPut s.fw.taken mb (some t) } }
     let s : State := { s with pwr := { s.pwr with target := some .lean } }
     s.fwRuns = true ∧ s.request mb = some t ∧ t.opcode = 0x0B02 ∧ (
     let target := payloadBits t.data 1 0 3
     let mask := (payload t.data 2).toNat
     target < 5 ∧ mask < 16 ∧ s.pwr.target ≠ none)) ∧
    (let mb : Nat := 3
     let t : Taken := ⟨0x0B02, 7, [0#32, 15#32], false⟩
     let s := ready
     let s : State := { s with pwr := { s.pwr with target := none } }
     let s : State := { s with fw := { s.fw with taken := smPut s.fw.taken mb (some t) } }
     let s : State := { s with fw := { s.fw with down := 2 } }
     s.fwRuns = true ∧ s.request mb = some t ∧ t.opcode = 0x0B02 ∧ (
     let target := payloadBits t.data 1 0 3
     let mask := (payload t.data 2).toNat
     target < 5 ∧ mask < 16 ∧ s.pwr.target = none ∧ s.coreBRuns = false)) ∧
    (let mb : Nat := 3
     let t : Taken := ⟨0x0B02, 7, [], false⟩
     let s := ready
     let s : State := { s with pwr := { s.pwr with target := none } }
     let s : State := { s with fw := { s.fw with taken := smPut s.fw.taken mb (some t) } }
     s.fwRuns = true ∧ s.request mb = some t ∧ t.opcode = 0x0B02 ∧ (
     let target := payloadBits t.data 1 0 3
     let mask := (payload t.data 2).toNat
     target < 5 ∧ mask < 16 ∧ s.pwr.target = none ∧ s.coreBRuns = true ∧ s.powerRefusal (powerOf target) mask ≠ 0)) ∧
    (let mb : Nat := 3
     let t : Taken := ⟨0x0B02, 7, [2#32, 15#32], false⟩
     let s := ready
     let s : State := { s with pwr := { s.pwr with target := none } }
     let s : State := { s with fw := { s.fw with taken := smPut s.fw.taken mb (some t) } }
     s.fwRuns = true ∧ s.request mb = some t ∧ t.opcode = 0x0B02 ∧ (
     let target := payloadBits t.data 1 0 3
     let mask := (payload t.data 2).toNat
     target < 3 ∧ mask < 16 ∧ s.pwr.target = none ∧ s.coreBRuns = true ∧ s.powerRefusal (powerOf target) mask = 0)) ∧
    (let mb : Nat := 3
     let t : Taken := ⟨0x0B02, 7, [4#32, 15#32], false⟩
     let s := ready
     let s : State := { s with pwr := { s.pwr with target := none } }
     let s : State := { s with fw := { s.fw with taken := smPut s.fw.taken mb (some t) } }
     s.fwRuns = true ∧ s.request mb = some t ∧ t.opcode = 0x0B02 ∧ (
     let target := payloadBits t.data 1 0 3
     let mask := (payload t.data 2).toNat
     3 ≤ target ∧ target < 5 ∧ mask < 16 ∧ s.pwr.target = none ∧ s.coreBRuns = true ∧ s.powerRefusal (powerOf target) mask = 0)) ∧
    (let mb : Nat := 3
     let t : Taken := ⟨0x0B03, 7, [], false⟩
     let s := ready
     let s : State := { s with fw := { s.fw with taken := smPut s.fw.taken mb (some t) } }
     s.fwRuns = true ∧ s.request mb = some t ∧ t.opcode = 0x0B03 ∧ s.coreBRuns = true) := by
  decide +kernel

theorem witness_StoreRequestsComplete_5 :
    (let mb : Nat := 3
     let t : Taken := ⟨0x0B01, 7, [], false⟩
     let s := ready
     let s : State := { s with fw := { s.fw with taken := smPut s.fw.taken mb (some t) } }
     let s : State := { s with fw := { s.fw with down := 2 } }
     s.fwRuns = true ∧ s.request mb = some t ∧ s.coreBRuns = false ∧ t.opcode = 0x0B01) ∧
    (let mb : Nat := 3
     let t : Taken := ⟨0x0B03, 7, [], false⟩
     let s := ready
     let s : State := { s with fw := { s.fw with taken := smPut s.fw.taken mb (some t) } }
     let s : State := { s with fw := { s.fw with down := 2 } }
     s.fwRuns = true ∧ s.request mb = some t ∧ s.coreBRuns = false ∧ t.opcode = 0x0B03) := by
  decide +kernel

theorem witness_InterfaceCommandsComplete_1 :
    (let s := ready
     let dev : Nat := 0
     dev = s.get GLB_STRAPS_ADDR) ∧
    (let s := ready
     let s : State := { s with boot := { s.boot with root := true } }
     let dev : Nat := 0
     dev = s.get GLB_STRAPS_ADDR ∧ s.boot.root = true) ∧
    (let s := ready
     let s : State := { s with boot := { s.boot with root := false } }
     let s : State := { s with boot := { s.boot with root := false } }
     let s : State := { s with boot := { s.boot with held := false } }
     let dev : Nat := 0
     dev = s.get GLB_STRAPS_ADDR ∧ s.boot.root = false ∧ s.boot.held = false ∧ s.asleep = false) ∧
    (let s := ready
     let s : State := { s with boot := { s.boot with root := true } }
     let dev : Nat := 0
     dev = s.get GLB_STRAPS_ADDR ∧ s.boot.root = true ∧ s.asleep = false) ∧
    (let s := ready
     let s : State := { s with boot := { s.boot with root := true } }
     let dev : Nat := 0
     dev = s.get GLB_STRAPS_ADDR ∧ s.boot.root = true ∧ s.asleep = false) ∧
    (let s := ready
     let dev : Nat := 5
     dev ≠ s.get GLB_STRAPS_ADDR) := by
  decide +kernel

theorem witness_InterfaceCommandsComplete_2 :
    (let s := ready
     let s : State := { s with boot := { s.boot with root := true } }
     let dev : Nat := 0x10
     dev = 0x10 + s.get GLB_STRAPS_ADDR ∧ s.boot.root = true ∧ s.asleep = false) ∧
    (let s := ready
     let s : State := { s with boot := { s.boot with root := true } }
     let dev : Nat := 0x10
     dev = 0x10 + s.get GLB_STRAPS_ADDR ∧ s.boot.root = true ∧ s.asleep = false) ∧
    (let s := ready
     let s : State := { s with boot := { s.boot with root := true } }
     let dev : Nat := 0x10
     dev = 0x10 + s.get GLB_STRAPS_ADDR ∧ s.boot.root = true ∧ s.asleep = false) ∧
    (let s := ready
     let s : State := { s with boot := { s.boot with root := true } }
     let dev : Nat := 0x10
     dev = 0x10 + s.get GLB_STRAPS_ADDR ∧ s.boot.root = true ∧ s.asleep = false) ∧
    (let s := ready
     let dev : Nat := 0
     (dev ≠ 0x10 + s.get GLB_STRAPS_ADDR ∨ s.boot.root = false ∨ s.asleep = true)) ∧
    (let s := ready
     let s : State := { s with hif := { s.hif with pcieUp := true } }
     let s : State := { s with boot := { s.boot with root := true } }
     s.boot.root = true ∧ s.asleep = false ∧ s.hif.pcieUp = true) := by
  decide +kernel

theorem witness_InterfaceCommandsComplete_3 :
    (let s := ready
     let s : State := { s with hif := { s.hif with pcieUp := true } }
     let s : State := { s with boot := { s.boot with root := true } }
     s.boot.root = true ∧ s.asleep = false ∧ s.hif.pcieUp = true) ∧
    (let s := ready
     let s : State := { s with hif := { s.hif with pcieUp := true } }
     let s : State := { s with boot := { s.boot with root := true } }
     s.boot.root = true ∧ s.asleep = false ∧ s.hif.pcieUp = true) ∧
    (let s := ready
     let s : State := { s with hif := { s.hif with pcieUp := false } }
     s.hif.pcieUp = false) ∧
    (let s := ready
     let s : State := { s with boot := { s.boot with root := false } }
     let s : State := { s with boot := { s.boot with root := false } }
     s.asleep = false ∧ s.boot.root = false) ∧
    (let s := ready
     let s : State := { s with boot := { s.boot with root := true } }
     let dr : Nat := 2 ^ 57
     s.asleep = false ∧ s.boot.root = true ∧ s.hif.jtagAt = none ∧ dr.testBit 57 = true) ∧
    (let s := ready
     let s : State := { s with boot := { s.boot with root := true } }
     let dr : Nat := 0
     let w : Word := 0#32
     s.asleep = false ∧ s.boot.root = true ∧ s.hif.jtagAt = none ∧ dr.testBit 57 = false ∧ (
     let u := State.busRead .jtag (dr / 2 ^ 33 % 2 ^ 24) { s.useFree with hif := { s.hif with jtagDr := dr % 2 ^ 58, jtagErr := false, jtagAt := some s.cyc } }
     u.replyOf .jtag = .data w)) := by
  decide +kernel

theorem witness_InterfaceCommandsComplete_4 :
    (let s := ready
     s.asleep = false) ∧
    (let s := ready
     let s : State := { s with pwr := { s.pwr with state := .vigil } }
     s.asleep = true) := by
  decide +kernel

theorem witness_RingCommandsComplete_1 :
    (let s := ready |>.set (HIF_RING_LEN_LEN 0) 8 |>.set (HIF_RING_TAIL_TAIL 0) 1 |>.set (HIF_RING_LEN_LEN 1) 8 |>.set
       (HIF_RING_TAIL_TAIL 1) 1
     let s : State := s.setSout 48 { s.sout 48 with tx := some default }
     s.pktRoom = true ∧ (s.sout 48).tx.isNone = false) ∧
    (let s := ready |>.set (HIF_RING_LEN_LEN 0) 8 |>.set (HIF_RING_TAIL_TAIL 0) 1 |>.set (HIF_RING_LEN_LEN 1) 8 |>.set
       (HIF_RING_TAIL_TAIL 1) 1
     s.pktRoom = true ∧ (s.sout 48).tx.isNone = true) ∧
    (let s := ready
     s.pktRoom = false) ∧
    (let s := ready |>.set (HIF_RING_LEN_LEN 0) 8 |>.set (HIF_RING_TAIL_TAIL 0) 1 |>.set (HIF_RING_LEN_LEN 1) 8 |>.set
       (HIF_RING_TAIL_TAIL 1) 1
     let desc : List Word := [0#32, 0#32, 0xFF003C#32]
     let h := s.get (HIF_RING_HEAD_HEAD 1)
     let n := s.get (HIF_RING_LEN_LEN 1)
     let w := desc.getD 2 0
     let len := getBits w 0 16
     n ≠ 0 ∧ h ≠ s.get (HIF_RING_TAIL_TAIL 1) ∧ s.framesStopped = false ∧ 60 ≤ len ∧ len ≤ 9596 ∧ getBits w 16 8 = 255) ∧
    (let s := ready |>.set (HIF_RING_LEN_LEN 0) 8 |>.set (HIF_RING_TAIL_TAIL 0) 1 |>.set (HIF_RING_LEN_LEN 1) 8 |>.set
       (HIF_RING_TAIL_TAIL 1) 1
     let desc : List Word := [0#32, 0#32, 0x2F257C#32]
     let h := s.get (HIF_RING_HEAD_HEAD 1)
     let n := s.get (HIF_RING_LEN_LEN 1)
     let w := desc.getD 2 0
     let len := getBits w 0 16
     n ≠ 0 ∧ h ≠ s.get (HIF_RING_TAIL_TAIL 1) ∧ s.framesStopped = false ∧ 60 ≤ len ∧ len ≤ 9596 ∧ getBits w 16 8 < 48) ∧
    (let s := ready |>.set (HIF_RING_LEN_LEN 0) 8 |>.set (HIF_RING_TAIL_TAIL 0) 1 |>.set (HIF_RING_LEN_LEN 1) 8 |>.set
       (HIF_RING_TAIL_TAIL 1) 1
     let desc : List Word := [0#32, 0#32, 59#32]
     let h := s.get (HIF_RING_HEAD_HEAD 1)
     let n := s.get (HIF_RING_LEN_LEN 1)
     let w := desc.getD 2 0
     let len := getBits w 0 16
     n ≠ 0 ∧ h ≠ s.get (HIF_RING_TAIL_TAIL 1) ∧ s.framesStopped = false ∧ len < 60) := by
  decide +kernel

theorem witness_RingCommandsComplete_2 :
    (let s := ready
     s.get (HIF_RING_HEAD_HEAD 1) = s.get (HIF_RING_TAIL_TAIL 1)) ∧
    (let r : Nat := 1
     let s := ready |>.set (HIF_RING_LEN_LEN r) 1
     let s : State := { s with boot := { s.boot with root := true } }
     r < 2 ∧ s.boot.root = true ∧ s.asleep = false ∧ s.get (HIF_RING_LEN_LEN r) ≠ 0) ∧
    (let r : Nat := 0
     let s := ready |>.set (HIF_RING_LEN_LEN r) 0
     s.get (HIF_RING_LEN_LEN r) = 0) ∧
    (let s := ready
     let m : Master := .spi
     let r : Nat := 1
     let row : RegRow := (regRow (HIF_RING_LEN r)).getD default
     r < 2 ∧ s.verdict m (HIF_RING_LEN r) = .row row) ∧
    (let s := ready |>.set (CGU_XO_EVT_FAILOVER) 1
     let s : State := { s with hif := { s.hif with pcieUp := true } }
     let s : State := { s with boot := { s.boot with root := true } }
     let s : State := { s with hif := { s.hif with pcieUp := true } }
     let n : Nat := 9
     n < 10 ∧ s.boot.root = true ∧ s.causePending n = true ∧ s.asleep = false ∧ s.hif.pcieUp = true ∧ s.msixMay n = true) ∧
    (let s := ready |>.set (CGU_XO_EVT_FAILOVER) 1
     let s : State := { s with boot := { s.boot with root := true } }
     let n : Nat := 9
     n < 10 ∧ s.boot.root = true ∧ s.causePending n = true ∧ s.msixMay n = true) := by
  decide +kernel

theorem witness_RingCommandsComplete_3 :
    (let s := ready |>.set (CGU_XO_EVT_FAILOVER) 1
     let s : State := { s with hif := { s.hif with pcieUp := false } }
     let s : State := { s with boot := { s.boot with root := true } }
     let n : Nat := 9
     n < 10 ∧ s.boot.root = true ∧ s.causePending n = true ∧ s.hif.pcieUp = false) ∧
    (let s := ready
     let n : Nat := 0
     s.causePending n = false) ∧
    (let s := ready
     let s : State := { s with boot := { s.boot with root := true } }
     s.boot.root = true ∧ s.asleep = false ∧ s.hif.msixHeld = 0) ∧
    (let s := ready
     let s : State := { s with boot := { s.boot with root := true } }
     let s : State := s.wr (MBX_EVT 1 0) 1
     let s : State := s.set HIF_MSIX_EN_MSIX_EN 2
     let s : State := { s with hif := { s.hif with msixHeld := 2 } }
     s.boot.root = true ∧ s.asleep = false ∧ s.hif.msixHeld = 2 ∧ s.causePending 1 = true ∧ s.msixMay 1 = true) := by
  decide +kernel

theorem witness_FaultCommandsComplete_1 :
    (let c : Nat := 0
     let s := ready
     let s : State := { s with flt := { s.flt with resetCause := some c } }
     let s : State := { s with flt := { s.flt with resetHeld := false } }
     s.flt.resetCause = some c ∧ s.flt.resetHeld = false) ∧
    (let c : Nat := 2
     let s := ready
     let s : State := { s with flt := { s.flt with resetCause := some c } }
     let s : State := { s with flt := { s.flt with resetHeld := true } }
     let s : State := { s with flt := { s.flt with rails := 1, resetHeld := true, resetCause := some 2 } }
     s.flt.resetCause = some c ∧ s.flt.resetHeld = true ∧ s.flt.rails ≠ 0) ∧
    (let s := ready
     let s : State := { s with flt := { s.flt with resetCause := none } }
     s.flt.resetCause = none) ∧
    (let s := ready
     let m : Master := .spi
     let r : RegRow := (regRow FLT_CTRL).getD default
     s.verdict m FLT_CTRL = .row r) ∧
    (let s := ready
     let s : State := { s with boot := { s.boot with root := true } }
     let s : State := { s with nvs := { s.nvs with buffer := [(16 + s.flt.page, List.replicate 256 0#8)] } }
     let bs : List Octet := List.replicate 256 0#8
     s.boot.root = true ∧ s.asleep = false ∧ s.coreBRuns = true ∧ s.nvBuffered (16 + s.flt.page) = some bs) ∧
    (let s := ready
     s.nvBuffered (16 + s.flt.page) = none) := by
  decide +kernel

theorem witness_FaultCommandsComplete_2 :
    (let xs : List Int := default
     xs.length ≠ 8) ∧
    (let s := ready
     let s : State := { s with boot := { s.boot with root := true } }
     let s : State := { s with flt := { s.flt with out := 0 } }
     let s : State := { s with flt := { s.flt with odd := [] } }
     let s : State := { s with flt := { s.flt with tjSeen := true } }
     let s : State := { s with flt := { s.flt with warned := 0 } }
     let x : Int := 0
     s.boot.root = true ∧ s.asleep = false ∧ s.flt.out = 0 ∧ s.flt.odd = [] ∧ s.flt.tjSeen = true ∧ s.flt.warned = 0 ∧ (
     let u := (s.setI FLT_TEMP_TJ x).setI FLT_TEMP_TJ_MAX (max x (s.getI FLT_TEMP_TJ_MAX))
     x ≤ u.getI FLT_TEMP_LIM_WARN_HI * 256 ∧ u.getI FLT_TEMP_LIM_WARN_LO * 256 ≤ x)) ∧
    (let s := ready
     let s : State := { s with boot := { s.boot with root := true } }
     let rail : Nat := 6
     let high : Bool := true
     rail < 7 ∧ s.boot.root = true ∧ s.asleep = false ∧ s.flt.rails.testBit (if high then 7 + rail else rail) = false) ∧
    (let s := ready
     let s : State := { s with flt := { s.flt with rails := 2 ^ 13 } }
     let rail : Nat := 6
     let high : Bool := true
     s.flt.rails.testBit (if high then 7 + rail else rail) = true) ∧
    (let s := ready
     let s : State := { s with boot := { s.boot with root := true } }
     let rail : Nat := 6
     rail < 7 ∧ s.boot.root = true ∧ s.asleep = false) := by
  decide +kernel

theorem witness_StepWithNothingWaiting_1 :
    (let s := ready
     s.pending = []) ∧
    (let s := ready
     let s : State := { s with boot := { s.boot with root := false } }
     let s : State := { s with boot := { s.boot with root := false } }
     s.pending = [] ∧ s.boot.root = false) ∧
    (let s := ready
     let s : State := { s with pwr := { s.pwr with state := .dormant } }
     s.pending = [] ∧ s.pwr.state = .dormant) ∧
    (let s := ready
     let s : State := { s with boot := { s.boot with root := true } }
     s.pending = [] ∧ s.boot.root = true ∧ (s.pwr.state = .run ∨ s.pwr.state = .lean ∨ s.pwr.state = .keep)) ∧
    (let s := ready
     let s : State := { s with pwr := { s.pwr with state := .vigil } }
     let s : State := { s with boot := { s.boot with root := true } }
     s.pending = [] ∧ s.boot.root = true ∧ s.pwr.state = .vigil) ∧
    (let s := ready
     let s : State := { s with flt := { s.flt with heard := [] } }
     s.flt.heard = []) := by
  decide +kernel

theorem witness_StepWithNothingWaiting_2 :
    (let s := ready
     let s : State := { s with cgu := { s.cgu with busy := [⟨2, 0, 1, false⟩] } }
     (s.switchBusy 2).isSome = true) := by
  decide +kernel

theorem witness_ResetState :
    (let a : Nat := 0
     a ≠ GLB_LIV_REV) := by
  decide +kernel

theorem witness_AddressesWithoutRegister :
    (let s := ready
     let s : State := { s with boot := { s.boot with root := true } }
     let a : Nat := 0
     let b : Block := (blockOf a).getD default
     s.boot.root = true ∧ s.asleep = false ∧ blockOf a = some b ∧ regRow a = none ∧ s.gatedAt a = false) ∧
    (let s := ready
     let s : State := { s with boot := { s.boot with root := true } }
     let a : Nat := 0x350000
     s.boot.root = true ∧ s.asleep = false ∧ blockOf a = none) := by
  decide +kernel

theorem witness_UnprivilegedAccesses :
    (let s := ready |>.set (HIF_PRIV_PRIV) 1
     let s : State := { s with boot := { s.boot with root := true } }
     let m : Master := .pcie
     let a : Nat := CGU_GATE
     let r : RegRow := (regRow a).getD default
     s.boot.root = true ∧ s.asleep = false ∧ regRow a = some r ∧ r.priv = true ∧ s.privileged m = false ∧ s.gatedAt a = false) := by
  decide +kernel

theorem witness_ResetPulseLengths :
    (let width : Nat := 499
     width < 500) ∧
    (let width : Nat := 2000
     2000 ≤ width) ∧
    (let width : Nat := 1999
     500 ≤ width ∧ width < 2000) := by
  decide +kernel

theorem witness_OverlongMessage :
    (let s := ready
     let m : Master := .coachA
     let n : Nat := 3
     let e : Nat := 1
     let v : Word := 16#32
     let r : RegRow := (regRow (MBX_SEND_W0 n e)).getD default
     n < 8 ∧ e < 2 ∧ s.verdict m (MBX_SEND_W0 n e) = .row r ∧ s.mbxDown (MBX_SEND_W0 n e) = false ∧ mbxOwner n e = some m ∧ 15 <
       v.toNat % 256) := by
  decide +kernel

theorem witness_ReleaseOfMessage :
    (let s := ready
     let s : State := s.setMb 3 { s.mb 3 with inbound := [⟨1, 7, [], 0, 0⟩, ⟨2, 7, [], 0, 0⟩] }
     let m : Master := .coachA
     let n : Nat := 3
     let e : Nat := 1
     let v : Word := (1#32 : Word)
     let r : RegRow := (regRow (MBX_CTRL n e)).getD default
     let x : Msg := ⟨1, 7, [], 0, 0⟩
     let q : List Msg := [⟨2, 7, [], 0, 0⟩]
     n < 8 ∧ e < 2 ∧ s.verdict m (MBX_CTRL n e) = .row r ∧ s.mbxDown (MBX_CTRL n e) = false ∧ mbxOwner n e = some m ∧ v.getLsbD
       0 = true ∧ v.getLsbD 1 = false ∧ s.recvQueue n e = x :: q ∧ q ≠ []) ∧
    (let s := ready
     let s : State := s.setMb 3 { s.mb 3 with inbound := [⟨1, 7, [], 0, 0⟩] }
     let m : Master := .coachA
     let n : Nat := 3
     let e : Nat := 1
     let v : Word := (1#32 : Word)
     let r : RegRow := (regRow (MBX_CTRL n e)).getD default
     let x : Msg := ⟨1, 7, [], 0, 0⟩
     let q : List Msg := []
     n < 8 ∧ e < 2 ∧ s.verdict m (MBX_CTRL n e) = .row r ∧ s.mbxDown (MBX_CTRL n e) = false ∧ mbxOwner n e = some m ∧ v.getLsbD
       0 = true ∧ v.getLsbD 1 = false ∧ s.recvQueue n e = x :: q ∧ q = []) ∧
    (let s := ready
     let m : Master := .coachA
     let n : Nat := 3
     let e : Nat := 1
     let v : Word := (1#32 : Word)
     let r : RegRow := (regRow (MBX_CTRL n e)).getD default
     n < 8 ∧ e < 2 ∧ s.verdict m (MBX_CTRL n e) = .row r ∧ s.mbxDown (MBX_CTRL n e) = false ∧ mbxOwner n e = some m ∧ v.getLsbD
       0 = true ∧ v.getLsbD 1 = false ∧ s.recvQueue n e = []) := by
  decide +kernel

theorem witness_RestartTaken :
    (let m : Master := .spi
     let v : Word := (1#32 : Word)
     let r : RegRow := (regRow GLB_BOOT_CTRL).getD default
     let s := ready |>.set GLB_BOOT_STATUS_STATE 2
     let s : State := { s with boot := { s.boot with loading := some m } }
     s.verdict m GLB_BOOT_CTRL = .row r ∧ s.boot.loading = some m ∧ v.getLsbD 0 = true ∧ s.bootState = 2) ∧
    (let m : Master := .spi
     let v : Word := (1#32 : Word)
     let r : RegRow := (regRow GLB_BOOT_CTRL).getD default
     let s := ready |>.set GLB_BOOT_STATUS_STATE 6 |>.set (GLB_STRAPS_BOOT_SRC) 0
     let s : State := { s with boot := { s.boot with loading := some m } }
     s.verdict m GLB_BOOT_CTRL = .row r ∧ s.boot.loading = some m ∧ v.getLsbD 0 = true ∧ s.bootState = 6 ∧ s.get
       GLB_STRAPS_BOOT_SRC = 0) ∧
    (let m : Master := .spi
     let v : Word := (1#32 : Word)
     let r : RegRow := (regRow GLB_BOOT_CTRL).getD default
     let s := ready |>.set GLB_BOOT_STATUS_STATE 6 |>.set (GLB_STRAPS_BOOT_SRC) 1
     let s : State := { s with boot := { s.boot with loading := some m } }
     s.verdict m GLB_BOOT_CTRL = .row r ∧ s.boot.loading = some m ∧ v.getLsbD 0 = true ∧ s.bootState = 6 ∧ s.get
       GLB_STRAPS_BOOT_SRC ≠ 0) ∧
    (let m : Master := .spi
     let v : Word := (1#32 : Word)
     let r : RegRow := (regRow GLB_BOOT_CTRL).getD default
     let s := ready
     let s : State := { s with boot := { s.boot with loading := some m } }
     s.verdict m GLB_BOOT_CTRL = .row r ∧ s.boot.loading = some m ∧ v.getLsbD 0 = true ∧ s.bootState ≠ 2 ∧ s.bootState ≠ 6) ∧
    (let width : Nat := 2000
     2000 ≤ width) := by
  decide +kernel

theorem witness_HotUserArea :
    (let mb : Nat := 3
     let t : Taken := ⟨0x0A04, 7, [], false⟩
     let bs : List Octet := (requestOctets t.data (payload t.data 2).toNat).getD default
     let s := ready
     let s : State := { s with fw := { s.fw with taken := smPut s.fw.taken mb (some t) } }
     s.fwRuns = true ∧ s.request mb = some t ∧ t.opcode = 0x0A04 ∧ s.nvFree = true ∧ requestOctets t.data (payload t.data
       2).toNat = some bs ∧ (payload t.data 1).toNat ≤ 491 ∧ (payload t.data 2).toNat ≤ 52 ∧ (payload t.data 1).toNat + (payload
       t.data 2).toNat ≤ 492) ∧
    (let mb : Nat := 3
     let t : Taken := ⟨0x0A04, 7, [489#32, 4#32], false⟩
     let s := ready
     let s : State := { s with fw := { s.fw with taken := smPut s.fw.taken mb (some t) } }
     s.fwRuns = true ∧ s.request mb = some t ∧ t.opcode = 0x0A04 ∧ 492 < (payload t.data 1).toNat + (payload t.data 2).toNat) := by
  decide +kernel

theorem witness_ReadsOfMultiWordValues :
    (let s := ready
     let m : Master := .spi
     let a : Nat := HOLD_LP_BIAS_LO 0 + 4
     let k : Nat := 1
     let low : Nat := HOLD_LP_BIAS_LO 0
     let r : RegRow := (regRow a).getD default
     s.verdict m a = .row r ∧ blockOf a ≠ some .mbx ∧ multiHigh a = some (low, k)) ∧
    (let s := ready |>.set (HIF_PRIV_PRIV) 1
     let m : Master := .pcie
     let a : Nat := CGU_GATE
     s.verdict m a = .denied) ∧
    (let s := ready
     let s : State := { s with pwr := { s.pwr with gates := 2 ^ 22 } }
     let m : Master := .spi
     let a : Nat := GAU_STAT_MEAN_LO 3
     let n : Nat := (multiLow a).getD 0
     s.verdict m a = .gated ∧ multiHigh a = none ∧ multiLow a = some n) := by
  decide +kernel

theorem witness_RingErrorsAndStops :
    (let r : Nat := 1
     let s := ready |>.set (HIF_RING_LEN_LEN r) 1
     let s : State := { s with boot := { s.boot with root := true } }
     r < 2 ∧ s.boot.root = true ∧ s.asleep = false ∧ s.get (HIF_RING_LEN_LEN r) ≠ 0) ∧
    (let r : Nat := 1
     r < 2) ∧
    (let s := ready
     let s : State := s.set CGU_GATE_STATUS_GATED (2 ^ 18)
     (s.gateIn 16 = true ∨ s.gateIn 17 = true ∨ s.gateIn 18 = true ∨ s.pwr.state = .lean ∨ s.pwr.state = .keep)) := by
  decide +kernel

theorem witness_RailFaultsInPowerFailure :
    (let s := ready |>.set (NVS_STATUS_PFW_ACTIVE) 1
     let s : State := { s with boot := { s.boot with root := true } }
     let s : State := { s with flt := { s.flt with heard := [] } }
     let rail : Nat := 6
     let high : Bool := true
     rail < 7 ∧ s.boot.root = true ∧ s.asleep = false ∧ s.regsWf = true ∧ s.flt.seq < 65536 ∧ s.flt.heard = [] ∧
       s.flt.rails.testBit (if high then 7 + rail else rail) = false ∧ s.on NVS_STATUS_PFW_ACTIVE = true) := by
  decide +kernel

set_option Elab.async true

end Sys2Proof.Tests
end

/-! Settles the obligations of chapter 0: what an access that reaches no register, or is denied one, comes to. What such an access
meets (`State.verdict`) is said first; the bus access then answers and logs by that verdict alone. -/

namespace Sys2Proof.Machine

variable {s : State} {m : Master} {a : Nat} {v : Word} {r : RegRow}

/-! ### The two commands are the two bus accesses -/

theorem exec_registerWrite (s : State) (m : Master) (a : Nat) (v : Word) :
    exec (.registerWrite m a v) s = .next (s.busWrite m a v) := rfl
theorem exec_rcRead (s : State) (m : Master) (a : Nat) : exec (.rcRead m a) s = .next (s.busRead m a) := rfl

/-! ### What an access meets while accesses are performed -/

/-- A register lies inside a block's range. -/
theorem blockOf_ne_none_of_regRow (h : regRow a = some r) : blockOf a ≠ none := by
  intro hb
  simp [regRow, hb] at h

/-- The test that keeps an access from being performed fails while the root runs and the device is awake. -/
theorem State.performs_accesses (root : s.boot.root = true) (awake : s.asleep = false) :
    (!s.boot.root || s.pwr.state == .vigil || s.pwr.state == .dormant) = false := by
  simpa [State.asleep, root] using awake

theorem State.verdict_outside (root : s.boot.root = true) (awake : s.asleep = false) (h : blockOf a = none) :
    s.verdict m a = .outside := by
  simp [State.verdict, State.performs_accesses root awake, h]

/-- Inside a block that is not gated, the register table and privilege decide. -/
theorem State.verdict_hole (root : s.boot.root = true) (awake : s.asleep = false) (hb : blockOf a ≠ none)
    (ungated : s.gatedAt a = false) (h : regRow a = none) : s.verdict m a = .hole := by
  obtain ⟨b, hb⟩ := Option.ne_none_iff_exists'.mp hb
  simp [State.verdict, State.performs_accesses root awake, hb, ungated, h]

theorem State.verdict_denied (root : s.boot.root = true) (awake : s.asleep = false) (ungated : s.gatedAt a = false)
    (h : regRow a = some r) (priv : r.priv = true) (low : s.privileged m = false) : s.verdict m a = .denied := by
  obtain ⟨b, hb⟩ := Option.ne_none_iff_exists'.mp (blockOf_ne_none_of_regRow h)
  simp [State.verdict, State.performs_accesses root awake, hb, ungated, h, priv, low]

/-! ### What the access comes to -/

theorem State.busWrite_hole (h : s.verdict m a = .hole) :
    s.busWrite m a v = (s.answer m .ok).logFault 0x01 0 (some (m, true, a)) := State.access_hole h
theorem State.busWrite_outside (h : s.verdict m a = .outside) :
    s.busWrite m a v = (s.errorReply m).logFault 0x01 0 (some (m, true, a)) := State.access_outside h
theorem State.busWrite_denied (h : s.verdict m a = .denied) :
    s.busWrite m a v = (s.answer m .ok).logFault 0x02 0 (some (m, true, a)) := State.access_denied h

theorem State.readAccess_hole {val : RegRow → State → State × Word} (h : s.verdict m a = .hole) :
    s.readAccess m a val = (s.answer m (.data 0)).logFault 0x01 0 (some (m, false, a)) := by unfold State.readAccess; rw [h]
theorem State.readAccess_outside {val : RegRow → State → State × Word} (h : s.verdict m a = .outside) :
    s.readAccess m a val = (s.errorReply m).logFault 0x01 0 (some (m, false, a)) := by unfold State.readAccess; rw [h]

/-- Only a register and a gated block give a read more to do than every read begins with. -/
theorem State.busRead_eq_readAccess (row : ∀ r, s.verdict m a ≠ .row r) (gated : s.verdict m a ≠ .gated) :
    s.busRead m a = s.readAccess m a (State.regRead m a) := by
  unfold State.busRead
  split
  · next r h => exact absurd h (row r)
  · next h => exact absurd h gated
  · rfl

theorem State.busRead_hole (h : s.verdict m a = .hole) :
    s.busRead m a = (s.answer m (.data 0)).logFault 0x01 0 (some (m, false, a)) := by
  rw [State.busRead_eq_readAccess (by simp [h]) (by simp [h]), State.readAccess_hole h]
theorem State.busRead_outside (h : s.verdict m a = .outside) :
    s.busRead m a = (s.errorReply m).logFault 0x01 0 (some (m, false, a)) := by
  rw [State.busRead_eq_readAccess (by simp [h]) (by simp [h]), State.readAccess_outside h]
theorem State.busRead_denied (h : s.verdict m a = .denied) : s.busRead m a = s.answer m (.data 0) := by
  rw [State.busRead_eq_readAccess (by simp [h]) (by simp [h]), State.readAccess_denied h]

/-! ### The obligations -/

/-- Settles O8: the address makes the verdict a hole of a block or outside every block, and the access answers by it (R9). -/
theorem addressesWithoutRegister : Obligations.AddressesWithoutRegister := by
  unfold Obligations.AddressesWithoutRegister
  refine ⟨?hole, ?outside, ?warn⟩
  case hole =>
    intro s m a b v root awake hb hr ungated
    have met : s.verdict m a = .hole := State.verdict_hole root awake (by simp [hb]) ungated hr
    rw [exec_rcRead, exec_registerWrite, State.busRead_hole met, State.busWrite_hole met]
    exact ⟨rfl, rfl⟩
  case outside =>
    intro s m a v root awake hb
    have met : s.verdict m a = .outside := State.verdict_outside root awake hb
    rw [exec_rcRead, exec_registerWrite, State.busRead_outside met, State.busWrite_outside met]
    exact ⟨rfl, rfl⟩
  case warn => rfl

/-- Settles O9: the verdict is a denial, which a read answers with zero and a write with a logged fault (R14). -/
theorem unprivilegedAccesses : Obligations.UnprivilegedAccesses := by
  unfold Obligations.UnprivilegedAccesses
  refine ⟨?denied, ?warn⟩
  case denied =>
    intro s m a r v root awake hr priv low ungated
    have met : s.verdict m a = .denied := State.verdict_denied root awake ungated hr priv low
    rw [exec_rcRead, exec_registerWrite, State.busRead_denied met, State.busWrite_denied met]
    exact ⟨rfl, rfl⟩
  case warn => rfl

end Sys2Proof.Machine

/-! Settles the obligations of chapter 2: how long RESET_N must be low, and when the loader takes RESTART. A level on RESET_N comes
to one of three outcomes by its length; a write of GLB_BOOT_CTRL comes to one of four by the loader's state and the boot source. -/

namespace Sys2Proof.Machine

variable {s : State} {m : Master} {v : Word} {r : RegRow} {width : Nat}

/-! ### The level on RESET_N -/

theorem exec_resetNAssert (width : Nat) (s : State) : exec (.resetNAssert width) s = .next (s.resetLow width) := rfl

/-- The device once a low level on RESET_N is taken: the NV operation is cut, all else is at reset, and the pin holds it there. -/
def State.heldInReset (s : State) : State :=
  { s.nvCutNow.blank with boot := { State.reset.boot with straps := s.boot.straps, held := true } }

@[simp] theorem State.heldInReset_held (s : State) : s.heldInReset.boot.held = true := rfl
@[simp] theorem State.heldInReset_regs (s : State) : s.heldInReset.regs = State.reset.regs := rfl

theorem State.resetLow_short (h : width < 500) : s.resetLow width = s := by
  have used : decide (500 ≤ width ∧ width < 2000) = false := decide_eq_false (by omega)
  have long : decide (2000 ≤ width) = false := decide_eq_false (by omega)
  simp [State.resetLow, used, long]

theorem State.resetLow_long (h : 2000 ≤ width) : s.resetLow width = s.heldInReset := by
  have used : decide (500 ≤ width ∧ width < 2000) = false := decide_eq_false (by omega)
  have long : decide (2000 ≤ width) = true := decide_eq_true h
  simp [State.resetLow, State.heldInReset, used, long]

/-- Between the two bounds the free value at hand decides, and is used up either way. -/
theorem State.resetLow_between (low : 500 ≤ width) (high : width < 2000) :
    s.resetLow width = if Config.resetPulseTaken s.free then s.useFree.heldInReset else s.useFree := by
  have used : decide (500 ≤ width ∧ width < 2000) = true := decide_eq_true ⟨low, high⟩
  have long : decide (2000 ≤ width) = false := decide_eq_false (by omega)
  simp [State.resetLow, State.heldInReset, used, long]

/-- Settles O10: a level on RESET_N is ignored, taken or decided by a free value, by its length (R45). -/
theorem resetPulseLengths : Obligations.ResetPulseLengths := by
  unfold Obligations.ResetPulseLengths
  refine ⟨?short, ?long, ?between⟩
  case short =>
    intro s width h
    rw [exec_resetNAssert, State.resetLow_short h]
  case long =>
    intro s width h
    rw [exec_resetNAssert, State.resetLow_long h]
    exact ⟨_, rfl, s.heldInReset_held, s.heldInReset_regs⟩
  case between =>
    intro s width low high
    refine ⟨_, exec_resetNAssert width s, ?_⟩
    rw [State.resetLow_between low high]
    split
    · exact .inr ⟨s.useFree.heldInReset_held, s.useFree.heldInReset_regs⟩
    · exact .inl rfl

/-! ### A write of GLB_BOOT_CTRL -/

@[simp] theorem State.answer_bootState (s : State) (m : Master) (x : Reply) : (s.answer m x).bootState = s.bootState := rfl

/-- The loader right after reset is in WAIT_ROOT. -/
theorem State.reset_bootState : State.reset.bootState = bootWaitRoot := by decide

@[simp] theorem State.heldInReset_bootState (s : State) : s.heldInReset.bootState = bootWaitRoot :=
  (State.get_congr s.heldInReset_regs _).trans State.reset_bootState

/-- A write that reaches GLB_BOOT_CTRL is answered before the loader acts on it. -/
theorem exec_restart_row (met : s.verdict m GLB_BOOT_CTRL = .row r) :
    exec (.restart m v) s = .next ((s.answer m .ok).bootCtrl m v) :=
  congrArg Host.Outcome.next (State.access_row met)

/-- The loading interface may write until STAGING ends (R52). -/
theorem State.loads_of_loading (loading : s.boot.loading = some m) (staging : s.bootState ≠ bootDone) : s.loads m = true := by
  simp [State.loads, loading, staging]

/-- In FETCH the load starts over, from the strapped slot where it reads QSPI flash. -/
theorem State.bootCtrl_fetch (loading : s.boot.loading = some m) (restart : v.getLsbD 0 = true) (fetch : s.bootState = bootFetch) :
    s.bootCtrl m v = (s.when s.boot.qspi State.firstSlot).fetchStart := by
  have loads : s.loads m = true := State.loads_of_loading loading (by simp [fetch])
  simp [State.bootCtrl, loads, restart, fetch]

/-- In HALTED the load starts over from where the boot source begins it. -/
theorem State.bootCtrl_halted (loading : s.boot.loading = some m) (restart : v.getLsbD 0 = true) (halted : s.bootState = bootHalted) :
    s.bootCtrl m v = if s.get GLB_STRAPS_BOOT_SRC = 0 then s.firstSlot.discoverStart else s.fetchStart := by
  have loads : s.loads m = true := State.loads_of_loading loading (by simp [halted])
  simp [State.bootCtrl, loads, restart, halted]

/-- In every other state RESTART is refused, whoever writes it. -/
theorem State.bootCtrl_refused (restart : v.getLsbD 0 = true) (fetch : s.bootState ≠ bootFetch) (halted : s.bootState ≠ bootHalted) :
    s.bootCtrl m v = s.refuseWrite m GLB_BOOT_CTRL := by
  simp [State.bootCtrl, restart, fetch, halted]

/-- Settles O13: FETCH and HALTED take RESTART, every other state refuses it, and a reset goes back to WAIT_ROOT (R63). -/
theorem restartTaken : Obligations.RestartTaken := by
  unfold Obligations.RestartTaken
  refine ⟨?fetch, ?haltedFlash, ?haltedHost, ?refused, ?warn, ?reset⟩
  case fetch =>
    intro s m v r met loading restart fetch
    rw [exec_restart_row met, State.bootCtrl_fetch (s := s.answer m .ok) loading restart fetch, State.answer_boot]
  case haltedFlash =>
    intro s m v r met loading restart halted flash
    rw [exec_restart_row met, State.bootCtrl_halted (s := s.answer m .ok) loading restart halted, State.answer_get, if_pos flash]
  case haltedHost =>
    intro s m v r met loading restart halted host
    rw [exec_restart_row met, State.bootCtrl_halted (s := s.answer m .ok) loading restart halted, State.answer_get, if_neg host]
  case refused =>
    intro s m v r met _ restart fetch halted
    rw [exec_restart_row met, State.bootCtrl_refused (s := s.answer m .ok) restart fetch halted, State.refuseWrite]
  case warn => rfl
  case reset =>
    intro s width h
    rw [exec_resetNAssert, State.resetLow_long h]
    exact ⟨_, rfl, s.heldInReset_bootState⟩

end Sys2Proof.Machine

/-! Settles the obligations of chapter 20: what an overlong post and a release come to. A write of SEND_W0 or of CTRL that the end's
owner makes is answered and then sent or released; the message's length, or the end's receive queue, decides the rest. -/

namespace Sys2Proof.Machine

variable {s : State} {m : Master} {n e : Nat} {v : Word} {r : RegRow} {x : Msg} {q : List Msg}

/-! ### A write of SEND_W0 -/

/-- A write of SEND_W0 by the end's owner is answered before it posts. -/
theorem exec_sendW0Write_row (hn : n < 8) (he : e < 2) (met : s.verdict m (MBX_SEND_W0 n e) = .row r)
    (up : s.mbxDown (MBX_SEND_W0 n e) = false) (owner : mbxOwner n e = some m) :
    exec (.sendW0Write m n e v) s = .next ((s.answer m .ok).mbxSend m n e v) := by
  have place : decide (n < 8 ∧ e < 2) = true := decide_eq_true ⟨hn, he⟩
  change execSendW0Write m n e v s = _
  rw [execSendW0Write, place, State.when_true, State.access_row met,
    State.mbxWrite_send hn he ((s.answer_mbxDown ..).trans up) owner]

theorem State.mbxSend_overlong (long : 15 < v.toNat % 256) :
    s.mbxSend m n e v = (s.set (MBX_EVT_SEND_ERR n e) 1).logFault 0x04 0 (some (m, true, MBX_SEND_W0 n e)) := if_pos long

/-- Settles O11: past 15 words the post is left out, and the event and the fault are all that is left of the write (R421). -/
theorem overlongMessage : Obligations.OverlongMessage := by
  unfold Obligations.OverlongMessage
  refine ⟨?overlong, ?warn⟩
  case overlong =>
    intro s m n e v r hn he met up owner long
    constructor
    · rw [exec_sendW0Write_row hn he met up owner, State.mbxSend_overlong long]
    · rw [State.set_mbx, State.answer_mbx]
  case warn => rfl

/-! ### A write of CTRL -/

/-- The words of a queue count its oldest message whole. -/
theorem queueWords_cons (x : Msg) (q : List Msg) : queueWords (x :: q) = queueWords q + (1 + x.data.length) := by
  rw [queueWords, List.map_cons, List.sum_cons, Nat.add_comm, queueWords]

@[simp] theorem State.answer_recvQueue (s : State) (m : Master) (y : Reply) (n e : Nat) :
    (s.answer m y).recvQueue n e = s.recvQueue n e := rfl

theorem State.mbxRelease_nil (h : s.recvQueue n e = []) : s.mbxRelease n e = s := by
  rw [State.mbxRelease, h]

/-- A release that leaves a message in the queue tells the sender nothing. -/
theorem State.mbxRelease_cons (h : s.recvQueue n e = x :: q) (left : q ≠ []) :
    s.mbxRelease n e = s.setSendQueue n (1 - e) q := by
  have nonempty : q.isEmpty = false := List.isEmpty_eq_false_iff.mpr left
  simp only [State.mbxRelease, h, nonempty, State.when_false]

/-- The release of the last message raises the sender's EMPTY event. -/
theorem State.mbxRelease_singleton (h : s.recvQueue n e = [x]) :
    s.mbxRelease n e = (s.setSendQueue n (1 - e) []).set (MBX_EVT_EMPTY n (1 - e)) 1 := by
  simp only [State.mbxRelease, h, List.isEmpty_nil, State.when_true, State.raise]

/-- RELEASE acts in a word without END_RESET, which would take its place. -/
theorem State.mbxCtrl_release (release : v.getLsbD 0 = true) (stay : v.getLsbD 1 = false) :
    s.mbxCtrl n e v = s.mbxRelease n e := by
  rw [State.mbxCtrl, stay, release, if_neg Bool.false_ne_true, State.when_true]

/-- A release by the end's owner is answered before the queue moves. -/
theorem exec_release_row (hn : n < 8) (he : e < 2) (met : s.verdict m (MBX_CTRL n e) = .row r)
    (up : s.mbxDown (MBX_CTRL n e) = false) (owner : mbxOwner n e = some m) (release : v.getLsbD 0 = true)
    (stay : v.getLsbD 1 = false) : exec (.release m n e v) s = .next ((s.answer m .ok).mbxRelease n e) := by
  have place : decide (n < 8 ∧ e < 2) = true := decide_eq_true ⟨hn, he⟩
  change execRelease m n e v s = _
  rw [execRelease, place, State.when_true, State.access_row met,
    State.mbxWrite_ctrl hn he ((s.answer_mbxDown ..).trans up) owner, State.mbxCtrl_release release stay]

/-- Settles O12: the receive queue decides what a release does, and its words are those of the message shown and of the rest (R424). -/
theorem releaseOfMessage : Obligations.ReleaseOfMessage := by
  unfold Obligations.ReleaseOfMessage
  refine ⟨?shown, ?empty⟩
  case shown =>
    intro s m n e v r x q hn he met up owner release stay queue
    rw [exec_release_row hn he met up owner release stay]
    refine ⟨?more, ?last, ?words⟩
    case more =>
      intro left
      rw [State.mbxRelease_cons (s := s.answer m .ok) queue left]
    case last =>
      rintro rfl
      rw [State.mbxRelease_singleton (s := s.answer m .ok) queue]
    case words => rw [queue, queueWords_cons]
  case empty =>
    intro s m n e v r hn he met up owner release stay queue
    rw [exec_release_row hn he met up owner release stay, State.mbxRelease_nil (s := s.answer m .ok) queue]

end Sys2Proof.Machine

/-! Settles the obligation of chapter 21: what HOT_USER_WRITE comes to. A request that is being carried out reaches its command's
function, which answers INVALID or writes the octets the request carries. -/

namespace Sys2Proof.Machine

variable {s : State} {mb opcode : Nat} {t : Taken} {bs : List Octet} {ws : List Word}

/-! ### Carrying out a request -/

/-- While coachman A runs, a command acts on the request its mailbox holds. -/
theorem State.command_request {f : List Word → State → State} (runs : s.fwRuns = true) (held : s.request mb = some t)
    (op : t.opcode = opcode) : s.command mb opcode f = f t.data s := by
  simp [State.command, runs, held, op]

/-- An answer leaves the NV store as it is, whether or not a request is held. -/
@[simp] theorem State.fwAnswer_nvs (s : State) (mb status detail : Nat) (data : List Word) :
    (s.fwAnswer mb status detail data).nvs = s.nvs := by
  unfold State.fwAnswer
  split
  · rfl
  · rfl

@[simp] theorem State.fwOk_nvs (s : State) (mb : Nat) (data : List Word) : (s.fwOk mb data).nvs = s.nvs :=
  s.fwAnswer_nvs mb 0 0 data

/-! ### HOT_USER_WRITE -/

@[simp] theorem State.hotPut_array (s : State) (a : Nat) (bs : List Octet) : (s.hotPut a bs).nvs.array = s.nvs.array := rfl

theorem exec_hotUserWrite_request (runs : s.fwRuns = true) (held : s.request mb = some t) (op : t.opcode = 0x0A04) :
    exec (.hotUserWrite mb) s = .next (s.cmdHotUserWrite mb t.data) :=
  congrArg Host.Outcome.next (State.command_request runs held op)

/-- A range within the area is written in the hot image once coachman B is free for it. -/
theorem State.cmdHotUserWrite_within (free : s.nvFree = true) (carried : requestOctets ws (payload ws 2).toNat = some bs)
    (start : (payload ws 1).toNat ≤ 491) (short : (payload ws 2).toNat ≤ 52)
    (fits : (payload ws 1).toNat + (payload ws 2).toNat ≤ 492) :
    s.cmdHotUserWrite mb ws = (s.hotPut (0x610 + (payload ws 1).toNat) bs).fwOk mb [] := by
  have inside : ¬ (491 < (payload ws 1).toNat ∨ 492 < (payload ws 1).toNat + (payload ws 2).toNat) := by omega
  simp only [State.cmdHotUserWrite, carried, if_neg short.not_gt, if_neg inside, free, Bool.not_true, Bool.false_eq_true, if_false]

/-- A range that leaves the area is refused, with coachman B free or not. INVALID names the length where it is above 52, else LEN
where the words do not carry that many octets, else the offset. -/
theorem State.cmdHotUserWrite_beyond (beyond : 492 < (payload ws 1).toNat + (payload ws 2).toNat) :
    ∃ word, s.cmdHotUserWrite mb ws = s.fwInvalid mb word := by
  cases carried : requestOctets ws (payload ws 2).toNat with
  | none =>
    simp only [State.cmdHotUserWrite, carried]
    split
    · exact ⟨2, rfl⟩
    · exact ⟨0, rfl⟩
  | some bs =>
    simp only [State.cmdHotUserWrite, carried]
    split
    · exact ⟨2, rfl⟩
    · exact ⟨1, if_pos (.inr beyond)⟩

/-- Settles O14: a range within the user area goes to the hot image and the array stays; one beyond it answers INVALID (R454). -/
theorem hotUserArea : Obligations.HotUserArea := by
  unfold Obligations.HotUserArea
  refine ⟨?within, ?beyond⟩
  case within =>
    intro s mb t bs runs held op free carried start short fits
    have done := State.cmdHotUserWrite_within (mb := mb) free carried start short fits
    refine ⟨_, (exec_hotUserWrite_request runs held op).trans (congrArg _ done), rfl, ?_⟩
    rw [State.fwOk_nvs, State.hotPut_array]
  case beyond =>
    intro s mb t runs held op beyond
    obtain ⟨word, refused⟩ := State.cmdHotUserWrite_beyond (s := s) (mb := mb) beyond
    exact ⟨word, (exec_hotUserWrite_request runs held op).trans (congrArg _ refused)⟩

end Sys2Proof.Machine

/-! Settles the obligations of chapter 22: which reads of a multi-word value have side effects, and what a ring does on an error of
its memory access or while frames are stopped. A read is told by what it meets and by where its word lies in the value; a ring by
whether it is in use and whether frames move. -/

namespace Sys2Proof.Machine

variable {s : State} {m : Master} {a k low n ring : Nat} {row : RegRow} {desc : List Word} {bytes : List Octet}

/-! ### Reads of a multi-word value -/

theorem exec_multiWordLowRead (s : State) (m : Master) (a : Nat) : exec (.multiWordLowRead m a) s = .next (s.busRead m a) := rfl

@[simp] theorem State.answer_shadow (s : State) (m : Master) (x : Reply) : (s.answer m x).hif.shadow = s.hif.shadow := rfl

/-- Outside the mailboxes a register gives its word and does what its read does. -/
theorem State.busRead_row (met : s.verdict m a = .row row) (plain : blockOf a ≠ some .mbx) :
    s.busRead m a = (s.regRead m a row).1.answer m (.data (s.regRead m a row).2) := by
  simp only [State.busRead, met, plain, false_and, if_false]
  exact State.readAccess_row met

/-- A higher word is the one the lowest word's read latched, and its read leaves the state alone. -/
theorem State.regRead_high (high : multiHigh a = some (low, k)) : s.regRead m a row = (s, (s.shadowOf m low).getD (k - 1) 0) := by
  rw [State.regRead, high]

/-- The lowest word of a value in a gated block latches zeros. -/
theorem State.busRead_gated_low (met : s.verdict m a = .gated) (notHigh : multiHigh a = none) (lowest : multiLow a = some n) :
    s.busRead m a = (s.answer m (.data 0)).setShadow m a (List.replicate (n - 1) 0) := by
  simp only [State.busRead, met, notHigh, lowest, State.readAccess_gated met]

/-- Settles O15: a higher word comes from the shadow, a denied read leaves the shadows, a gated block latches zeros (R465). -/
theorem readsOfMultiWordValues : Obligations.ReadsOfMultiWordValues := by
  unfold Obligations.ReadsOfMultiWordValues
  refine ⟨?high, ?denied, ?gated⟩
  case high =>
    intro s m a k low row met plain high
    rw [exec_rcRead, State.busRead_row met plain, State.regRead_high high]
  case denied =>
    intro s m a met
    rw [exec_multiWordLowRead, State.busRead_denied met]
    exact ⟨_, rfl, rfl, s.answer_shadow m (.data 0)⟩
  case gated =>
    intro s m a n met notHigh lowest
    rw [exec_multiWordLowRead, State.busRead_gated_low met notHigh lowest]

/-! ### An error on a ring's memory access -/

theorem exec_ringDmaError (h : ring < 2) : exec (.ringDmaError ring) s = .next (s.ringError ring) := by
  change execRingDmaError ring s = _
  rw [execRingDmaError, decide_eq_true h, State.when_true]

theorem State.hostOn_of_root_awake (root : s.boot.root = true) (awake : s.asleep = false) : s.hostOn = true := by
  simp [State.hostOn, root, awake]

/-- A ring in use stops; the fault names a DMA access whose direction and address are the next two free values. -/
theorem State.ringError_inUse (on : s.hostOn = true) (used : s.get (HIF_RING_LEN_LEN ring) ≠ 0) :
    s.ringError ring = ((s.useFree.useFree.ringStop ring).raise HIF_PKT_EVT_DMA_ERR).logFault 0x15 (1 + ring)
      (some (.dma, Config.unstated s.free % 2 == 1, Config.unstated (s.free + 1) % 2 ^ 24)) := by
  simp only [State.ringError, on, used, Bool.not_true, Bool.false_eq_true, or_self, if_false]

/-- Whatever the ring, its DMA error is SEVERE. -/
theorem faultClass_dmaError (inst : Nat) : faultClass 0x15 inst = 1 := by
  simp [faultClass]

/-! ### The rings while frames are stopped -/

/-- A gate on forwarding, the buffers or the schedulers stops frames. -/
theorem State.framesStopped_of_gated (gated : s.gateIn 16 = true ∨ s.gateIn 17 = true ∨ s.gateIn 18 = true) :
    s.framesStopped = true := by
  rcases gated with fwd | buf | sch
  · simp [State.framesStopped, fwd]
  · simp [State.framesStopped, buf]
  · simp [State.framesStopped, sch]

theorem State.framesStopped_of_not_run (h : s.pwr.state ≠ .run) : s.framesStopped = true := by
  simp [State.framesStopped, h]

/-- While frames are stopped no receive descriptor is free for P48. -/
theorem State.packetRx_stopped (stopped : s.framesStopped = true) : s.packetRx = s := by
  have full : s.pktRoom = false := by simp [State.pktRoom, stopped]
  simp [State.packetRx, full]

theorem State.packetTx_stopped (stopped : s.framesStopped = true) : s.packetTx desc bytes = s :=
  if_pos (.inr (.inr stopped))

/-- Settles O16: a DMA error stops the ring and logs a SEVERE fault, and stopped frames leave both rings as they are (R469). -/
theorem ringErrorsAndStops : Obligations.RingErrorsAndStops := by
  unfold Obligations.RingErrorsAndStops
  refine ⟨?error, ?severe, ?stopped⟩
  case error =>
    intro s ring h root awake used
    rw [exec_ringDmaError h, State.ringError_inUse (State.hostOn_of_root_awake root awake) used]
    exact ⟨_, rfl⟩
  case severe => exact fun ring _ => faultClass_dmaError (1 + ring)
  case stopped =>
    intro s desc bytes why
    have stopped : s.framesStopped = true := by
      rcases why with fwd | buf | sch | lean | keep
      · exact State.framesStopped_of_gated (.inl fwd)
      · exact State.framesStopped_of_gated (.inr (.inl buf))
      · exact State.framesStopped_of_gated (.inr (.inr sch))
      · exact State.framesStopped_of_not_run (by simp [lean])
      · exact State.framesStopped_of_not_run (by simp [keep])
    exact ⟨congrArg Host.Outcome.next (State.packetRx_stopped stopped), congrArg Host.Outcome.next (State.packetTx_stopped stopped)⟩

end Sys2Proof.Machine

/-! Settles the obligation of chapter 23: what a rail fault comes to while a power failure is being saved. The fault's reactions are
then LOG alone, and a fault logged with LOG alone only enters the log, the counts and the event queue: what it spares is said once
(`SparedBy`) and kept by each of these updates. -/

namespace Sys2Proof.Machine

variable {s t u : State} {rail src inst : Nat} {high : Bool} {f : FaultReport}

/-! ### What a fault logged with LOG alone spares -/

/-- The fields that tell whether a power failure is being saved, and whether an interrupt or a squelch began. -/
def reactionFields : List FieldRef := [NVS_STATUS_PFW_ACTIVE, FLT_EVT_IRQ, FLT_STATUS_SQ_ACTIVE]

/-- From `s` to `t` no hot save, hold or squelch began: the NV store, the loops, the outputs and the fields of the reactions stand. -/
structure SparedBy (s t : State) : Prop where
  wf : t.regsWf = true
  nvs : t.nvs = s.nvs
  loops : t.loops = s.loops
  outs : t.outs = s.outs
  get : ∀ g ∈ reactionFields, t.get g = s.get g

namespace SparedBy

theorem refl (wf : s.regsWf = true) : SparedBy s s := ⟨wf, rfl, rfl, rfl, fun _ _ => rfl⟩

/-- The collector's and the firmware's own state may change. -/
theorem fields (h : SparedBy s t) (flt : FltSt) (fw : FwSt) : SparedBy s { t with flt := flt, fw := fw } :=
  ⟨h.wf, h.nvs, h.loops, h.outs, h.get⟩

/-- A register that holds none of the fields may be written. -/
theorem wr (h : SparedBy s t) {a : Nat} (w : Word) (other : ∀ g ∈ reactionFields, g.addr ≠ a) : SparedBy s (t.wr a w) where
  wf := State.wr_regsWf h.wf a w
  nvs := h.nvs
  loops := h.loops
  outs := h.outs
  get g hg := (State.get_wr_ne h.wf a w g (other g hg)).trans (h.get g hg)

/-- So may a field that lies apart from them, be it in the same register. -/
theorem set (h : SparedBy s t) {f : FieldRef} (v : Nat) (fits : f.lo + f.width ≤ 32)
    (apart : ∀ g ∈ reactionFields, g.addr ≠ f.addr ∨ g.lo + g.width ≤ f.lo ∨ f.lo + f.width ≤ g.lo) : SparedBy s (t.set f v) where
  wf := State.set_regsWf h.wf f v
  nvs := h.nvs
  loops := h.loops
  outs := h.outs
  get g hg := (State.get_set_apart h.wf f g fits v (apart g hg)).trans (h.get g hg)

/-- A power failure that is being saved still is. -/
theorem powerFailure (h : SparedBy s t) (pfw : s.on NVS_STATUS_PFW_ACTIVE = true) : t.on NVS_STATUS_PFW_ACTIVE = true := by
  rwa [State.on, h.get _ (by simp [reactionFields])]

end SparedBy

/-! ### The event queue -/

/-- Steps that change the firmware's state alone, done for each number of a list, change it alone. -/
theorem State.each_fw {g : Nat → State → State} (hg : ∀ k t, ∃ fw, g k t = { t with fw := fw }) (ks : List Nat) (s : State) :
    ∃ fw, s.each ks g = { s with fw := fw } := by
  induction ks generalizing s with
  | nil => exact ⟨s.fw, rfl⟩
  | cons k ks ih =>
    obtain ⟨fw, step⟩ := hg k s
    obtain ⟨fw', rest⟩ := ih (g k s)
    exact ⟨fw', rest.trans (by rw [step])⟩

/-- An event is queued in the firmware's state. -/
theorem State.queueEvent_fw (bit : Nat) (words : List Word) (s : State) : ∃ fw, s.queueEvent bit words = { s with fw := fw } := by
  refine State.each_fw (fun mb t => ?_) _ s
  cases (smAt t.fw.mask mb).testBit bit with
  | true => exact ⟨_, rfl⟩
  | false => exact ⟨t.fw, rfl⟩

@[simp] theorem State.queueEvent_flt (bit : Nat) (words : List Word) (s : State) : (s.queueEvent bit words).flt = s.flt := by
  obtain ⟨fw, queued⟩ := s.queueEvent_fw bit words
  rw [queued]

theorem SparedBy.queueEvent (h : SparedBy s t) (bit : Nat) (words : List Word) : SparedBy s (t.queueEvent bit words) := by
  obtain ⟨fw, queued⟩ := t.queueEvent_fw bit words
  exact queued ▸ h.fields t.flt fw

/-! ### The counts and the first capture -/

/-- The class decides the count that a fault enters. -/
def classCount : Nat → FieldRef
  | 0 => FLT_COUNT2_FATAL
  | 1 => FLT_COUNT_SEVERE
  | 2 => FLT_COUNT_WARN
  | _ => FLT_COUNT_INFO

/-- The first capture takes an entry. -/
def State.capture (e : FaultEntry) (s : State) : State :=
  ((((s.wr (FLT_FIRST_W 0) e.w0).wr (FLT_FIRST_W 1) e.w1).wr (FLT_FIRST_W 2) e.w2).wr (FLT_FIRST_W 3) e.w3).set FLT_STATUS_FIRST_VALID 1

/-- A fault is counted by its class; unless it is INFO, the first capture takes it, or counts it where it already holds one. -/
theorem State.faultCount_eq (cls : Nat) (e : FaultEntry) (s : State) :
    s.faultCount cls e =
      if cls = 3 then s.count (classCount cls)
      else if (s.count (classCount cls)).on FLT_STATUS_FIRST_VALID then (s.count (classCount cls)).count FLT_FIRST_OVF_OVF
      else (s.count (classCount cls)).capture e := by
  match cls with
  | 0 | 1 | 2 | _ + 3 => rfl

@[simp] theorem State.faultCount_flt (cls : Nat) (e : FaultEntry) (s : State) : (s.faultCount cls e).flt = s.flt := by
  rw [State.faultCount_eq]
  split
  · rfl
  · split
    · rfl
    · rfl

theorem SparedBy.classCount (h : SparedBy s t) (cls : Nat) : SparedBy s (t.count (classCount cls)) := by
  match cls with
  | 0 => exact h.set (f := FLT_COUNT2_FATAL) _ (by decide) (by decide)
  | 1 => exact h.set (f := FLT_COUNT_SEVERE) _ (by decide) (by decide)
  | 2 => exact h.set (f := FLT_COUNT_WARN) _ (by decide) (by decide)
  | _ + 3 => exact h.set (f := FLT_COUNT_INFO) _ (by decide) (by decide)

theorem SparedBy.capture (h : SparedBy s t) (e : FaultEntry) : SparedBy s (t.capture e) := by
  have words := (((h.wr (a := FLT_FIRST_W 0) e.w0 (by decide)).wr (a := FLT_FIRST_W 1) e.w1 (by decide)).wr
    (a := FLT_FIRST_W 2) e.w2 (by decide)).wr (a := FLT_FIRST_W 3) e.w3 (by decide)
  exact words.set (f := FLT_STATUS_FIRST_VALID) 1 (by decide) (by decide)

theorem SparedBy.faultCount (h : SparedBy s t) (cls : Nat) (e : FaultEntry) : SparedBy s (t.faultCount cls e) := by
  have counted := h.classCount cls
  rw [State.faultCount_eq]
  split
  · exact counted
  · split
    · exact counted.set (f := FLT_FIRST_OVF_OVF) _ (by decide) (by decide)
    · exact counted.capture e

/-! ### A fault logged with LOG alone -/

/-- A fault enters the log, the counts and the event queue, and nothing else comes of it. -/
def State.logOnly (f : FaultReport) (s : State) : State :=
  let e := s.faultEntry f.src f.inst f.acc
  let t := { s with flt := { s.flt with log := (e :: s.flt.log).take 256, seq := (s.flt.seq + 1) % 65536 } }
  ((t.set FLT_NVLOG_NEXT_SEQ t.flt.seq).faultCount (faultClass f.src f.inst) e).queueEvent 10 [e.w0, e.w1, e.w2, e.w3]

/-- Where LOG is a fault's one reaction, no other is performed. -/
theorem State.faultLogged_logOnly (log : s.faultReactions f.src f.inst = 1) : s.faultLogged f = s.logOnly f := by
  have others : Nat.testBit 1 1 = false ∧ Nat.testBit 1 2 = false ∧ Nat.testBit 1 3 = false ∧ Nat.testBit 1 4 = false ∧
    Nat.testBit 1 5 = false := by decide
  obtain ⟨nvlog, irq, pulse, squelch, hold⟩ := others
  simp only [State.faultLogged, log, nvlog, irq, pulse, squelch, hold, State.when_false, State.logOnly]

/-- Of the collector's state only the log and the next sequence number change. -/
theorem State.logOnly_flt (f : FaultReport) (s : State) : (s.logOnly f).flt =
    { s.flt with log := (s.faultEntry f.src f.inst f.acc :: s.flt.log).take 256, seq := (s.flt.seq + 1) % 65536 } := by
  simp only [State.logOnly, State.queueEvent_flt, State.faultCount_flt, State.set_flt]

theorem SparedBy.logOnly (h : SparedBy s t) (f : FaultReport) : SparedBy s (t.logOnly f) :=
  (((h.fields _ t.fw).set (f := FLT_NVLOG_NEXT_SEQ) _ (by decide) (by decide)).faultCount _ _).queueEvent _ _

theorem SparedBy.faultNEval (h : SparedBy s t) : SparedBy s t.faultNEval :=
  h.set (f := FLT_STATUS_FAULT_N_LOW) _ (by decide) (by decide)

@[simp] theorem State.faultNEval_flt (s : State) : s.faultNEval.flt = s.flt := rfl

/-- The reports of the cycle are taken up. -/
def State.takeHeard (s : State) : State := { s with flt := { s.flt with heard := [] } }

/-- One fault of a cycle, for which LOG is the one reaction before and after it is logged, is logged only: it shuts no port, and no
RESET follows. -/
theorem State.faultsLogged_logOnly {shut : Nat → State → State} (heard : s.flt.heard = [f]) (noPort : f.src ≠ 0x20)
    (before : s.takeHeard.faultReactions f.src f.inst = 1) (after : (s.takeHeard.logOnly f).faultReactions f.src f.inst = 1) :
    s.faultsLogged shut = (s.takeHeard.logOnly f).faultNEval := by
  have stays : (f.src == 0x20) = false := beq_false_of_ne noPort
  have noReset : Nat.testBit 1 7 = false := by decide
  have logged := State.faultLogged_logOnly before
  unfold State.takeHeard at logged after ⊢
  simp only [State.faultsLogged, heard, sortFaults, insertFault, List.foldl_cons, List.foldl_nil, logged, stays, Bool.false_and,
    State.when_false, after, noReset]

/-! ### The entry -/

theorem faultClass_lt (src inst : Nat) : faultClass src inst < 4 := by
  unfold faultClass
  split_ifs <;> omega

theorem masterId_lt (m : Master) : masterId m < 16 := by cases m <;> decide

/-- The fields of an entry's first word lie side by side: its top octet is the source. -/
theorem packWord_source {src cls master kind seq : Nat} (code : src < 256) (hc : cls < 4) (hm : master < 16) (hk : kind < 4)
    (hs : seq < 65536) : (packWord [(src, 24), (cls, 22), (master, 18), (kind, 16), (seq, 0)]).toNat / 2 ^ 24 = src := by
  simp only [packWord, List.foldl_cons, List.foldl_nil, BitVec.toNat_ofNat]
  omega

theorem State.faultEntry_source (acc : FaultAccess) (code : src < 256) (seq : s.flt.seq < 65536) :
    (s.faultEntry src inst acc).w0.toNat / 2 ^ 24 = src := by
  have cls := faultClass_lt src inst
  match acc with
  | none => exact packWord_source code cls (by omega) (by omega) seq
  | some (m, w, _) => exact packWord_source code cls (masterId_lt m) (by cases w <;> decide) seq

/-! ### A rail fault -/

/-- While a power failure is being saved, LOG is the one reaction of a rail fault (R486). -/
theorem State.faultReactions_rail (h : rail < 7) (pfw : s.on NVS_STATUS_PFW_ACTIVE = true) :
    s.faultReactions (0x28 + rail) inst = 1 :=
  if_pos ⟨by omega, by omega, pfw⟩

/-- The report of a rail fault. -/
def railReport (rail : Nat) (high : Bool) : FaultReport := ⟨0x28 + rail, if high then 1 else 0, none⟩

/-- A new excursion is marked in FLT_RAIL and reported. -/
def State.railFault (rail : Nat) (high : Bool) (s : State) : State :=
  (State.showRails { s with flt := { s.flt with rails := putBit s.flt.rails (railBit rail high) true } }).logFault (0x28 + rail)
    (if high then 1 else 0) none

theorem exec_railExcursion_fresh (h : rail < 7) (root : s.boot.root = true) (awake : s.asleep = false)
    (fresh : s.flt.rails.testBit (railBit rail high) = false) : exec (.railExcursion rail high) s = .next (s.railFault rail high) := by
  change execRailExcursion rail high s = _
  have on : s.collectorOn = true := by simp [State.collectorOn, root, awake]
  simp only [execRailExcursion, decide_eq_true h, State.when_true, State.railOut, on, fresh, Bool.not_true, Bool.false_eq_true, or_self,
    if_false, State.railFault]

theorem SparedBy.railFault (h : SparedBy s t) (rail : Nat) (high : Bool) : SparedBy s (t.railFault rail high) :=
  ((h.fields _ t.fw).wr (a := FLT_RAIL) _ (by decide)).fields _ t.fw

/-- The collector marks the excursion and has one more fault to log. -/
theorem State.railFault_flt (rail : Nat) (high : Bool) (s : State) : (s.railFault rail high).flt =
    { s.flt with rails := putBit s.flt.rails (railBit rail high) true,
                 heard := s.flt.heard ++ [railReport rail high] } := rfl

/-- Settles O17: the excursion is reported, its one reaction is LOG, and the cycle's end logs it and begins nothing (R486). -/
theorem railFaultsInPowerFailure : Obligations.RailFaultsInPowerFailure := by
  unfold Obligations.RailFaultsInPowerFailure
  intro s rail high h root awake wf seq quiet fresh pfw
  have reported : (s.railFault rail high).flt.heard = [railReport rail high] := by
    rw [State.railFault_flt, quiet, List.nil_append]
  have spared : SparedBy s (s.railFault rail high) := (SparedBy.refl wf).railFault rail high
  have taken : SparedBy s (s.railFault rail high).takeHeard := spared.fields _ _
  have logged : SparedBy s ((s.railFault rail high).takeHeard.logOnly (railReport rail high)) := taken.logOnly _
  have ended := State.faultsLogged_logOnly (shut := State.portShut) reported (show 0x28 + rail ≠ 0x20 by omega)
    (State.faultReactions_rail h (taken.powerFailure pfw)) (State.faultReactions_rail h (logged.powerFailure pfw))
  obtain ⟨-, nvs, loops, outs, get⟩ := logged.faultNEval
  refine ⟨_, exec_railExcursion_fresh h root awake fresh, spared.nvs, spared.loops, spared.outs, rfl, reported, ?_⟩
  dsimp only
  rw [ended, State.faultNEval_flt, State.logOnly_flt]
  exact ⟨⟨_, rfl, State.faultEntry_source none (show 0x28 + rail < 256 by omega) seq⟩, rfl, rfl, rfl, rfl, rfl, nvs, loops, outs,
    get _ (by simp [reactionFields]), get _ (by simp [reactionFields])⟩

end Sys2Proof.Machine

/-! Settles the obligations about every command and every step: each command answers a next state and keeps what `Keeps` says, and
so does each step, whether it runs a command or lets a cycle pass. -/

namespace Sys2Proof.Machine

variable {s t : State}

/-- Every command answers a next state that keeps the stores canonical, the waiting commands, what has left the device, the free
values used and the time base. -/
theorem exec_completes (c : Instr) (s : State) : ∃ t, exec c s = .next t ∧ Keeps s t := by
  cases c with
  | registerWrite => exact ⟨_, rfl, execRegisterWrite_keeps rfl⟩
  | rcRead => exact ⟨_, rfl, execRcRead_keeps rfl⟩
  | multiWordLowRead => exact ⟨_, rfl, execMultiWordLowRead_keeps rfl⟩
  | resetNAssert => exact ⟨_, rfl, execResetNAssert_keeps rfl⟩
  | resetNRelease => exact ⟨_, rfl, execResetNRelease_keeps rfl⟩
  | xoJudgementDone => exact ⟨_, rfl, execXoJudgementDone_keeps rfl⟩
  | rootRuns => exact ⟨_, rfl, execRootRuns_keeps rfl⟩
  | discoverDone => exact ⟨_, rfl, execDiscoverDone_keeps rfl⟩
  | bootDataWrite => exact ⟨_, rfl, execBootDataWrite_keeps rfl⟩
  | headerReceived => exact ⟨_, rfl, execHeaderReceived_keeps rfl⟩
  | imageFetched => exact ⟨_, rfl, execImageFetched_keeps rfl⟩
  | verifyDone => exact ⟨_, rfl, execVerifyDone_keeps rfl⟩
  | segmentApply => exact ⟨_, rfl, execSegmentApply_keeps rfl⟩
  | waitSegmentTimeout => exact ⟨_, rfl, execWaitSegmentTimeout_keeps rfl⟩
  | applyDone => exact ⟨_, rfl, execApplyDone_keeps rfl⟩
  | restart => exact ⟨_, rfl, execRestart_keeps rfl⟩
  | enterWorkshop => exact ⟨_, rfl, execEnterWorkshop_keeps rfl⟩
  | leadLoopWrite => exact ⟨_, rfl, execLeadLoopWrite_keeps rfl⟩
  | xoActivityLoss => exact ⟨_, rfl, execXoActivityLoss_keeps rfl⟩
  | xoFrequencyLoss => exact ⟨_, rfl, execXoFrequencyLoss_keeps rfl⟩
  | failoverLock => exact ⟨_, rfl, execFailoverLock_keeps rfl⟩
  | xoReturnRequest => exact ⟨_, rfl, execXoReturnRequest_keeps rfl⟩
  | xoReturnLock => exact ⟨_, rfl, execXoReturnLock_keeps rfl⟩
  | gateRequest => exact ⟨_, rfl, execGateRequest_keeps rfl⟩
  | gateTakesEffect => exact ⟨_, rfl, execGateTakesEffect_keeps rfl⟩
  | forcedGate => exact ⟨_, rfl, execForcedGate_keeps rfl⟩
  | gateOpen => exact ⟨_, rfl, execGateOpen_keeps rfl⟩
  | domainSourceWrite => exact ⟨_, rfl, execDomainSourceWrite_keeps rfl⟩
  | switchComplete => exact ⟨_, rfl, execSwitchComplete_keeps rfl⟩
  | switchForced => exact ⟨_, rfl, execSwitchForced_keeps rfl⟩
  | switchAbandoned => exact ⟨_, rfl, execSwitchAbandoned_keeps rfl⟩
  | switchRetry => exact ⟨_, rfl, execSwitchRetry_keeps rfl⟩
  | clkoutWrite => exact ⟨_, rfl, execClkoutWrite_keeps rfl⟩
  | refEnableWrite => exact ⟨_, rfl, execRefEnableWrite_keeps rfl⟩
  | overrideWrite => exact ⟨_, rfl, execOverrideWrite_keeps rfl⟩
  | tappedEdge => exact ⟨_, rfl, execTappedEdge_keeps rfl⟩
  | activityLoss => exact ⟨_, rfl, execActivityLoss_keeps rfl⟩
  | refTick100ms => exact ⟨_, rfl, execRefTick100ms_keeps rfl⟩
  | refTick1s => exact ⟨_, rfl, execRefTick1s_keeps rfl⟩
  | qualificationWaitEnd => exact ⟨_, rfl, execQualificationWaitEnd_keeps rfl⟩
  | todSentence => exact ⟨_, rfl, execTodSentence_keeps rfl⟩
  | todLineTransmit => exact ⟨_, rfl, execTodLineTransmit_keeps rfl⟩
  | changeoverComplete => exact ⟨_, rfl, execChangeoverComplete_keeps rfl⟩
  | forcedRefNoEdge => exact ⟨_, rfl, execForcedRefNoEdge_keeps rfl⟩
  | alignHiWrite => exact ⟨_, rfl, execAlignHiWrite_keeps rfl⟩
  | loopUpdate => exact ⟨_, rfl, execLoopUpdate_keeps rfl⟩
  | loopStepComplete => exact ⟨_, rfl, execLoopStepComplete_keeps rfl⟩
  | sourceLost => exact ⟨_, rfl, execSourceLost_keeps rfl⟩
  | loopEnableWrite => exact ⟨_, rfl, execLoopEnableWrite_keeps rfl⟩
  | forceWrite => exact ⟨_, rfl, execForceWrite_keeps rfl⟩
  | rampStart => exact ⟨_, rfl, execRampStart_keeps rfl⟩
  | rampAbort => exact ⟨_, rfl, execRampAbort_keeps rfl⟩
  | rampDone => exact ⟨_, rfl, execRampDone_keeps rfl⟩
  | observation => exact ⟨_, rfl, execObservation_keeps rfl⟩
  | tempSensorRead => exact ⟨_, rfl, execTempSensorRead_keeps rfl⟩
  | tempReadTimeout => exact ⟨_, rfl, execTempReadTimeout_keeps rfl⟩
  | clear => exact ⟨_, rfl, execClear_keeps rfl⟩
  | clearCommitDone => exact ⟨_, rfl, execClearCommitDone_keeps rfl⟩
  | holdoverTick => exact ⟨_, rfl, execHoldoverTick_keeps rfl⟩
  | spragExpiry => exact ⟨_, rfl, execSpragExpiry_keeps rfl⟩
  | modelCommit => exact ⟨_, rfl, execModelCommit_keeps rfl⟩
  | historyCommit => exact ⟨_, rfl, execHistoryCommit_keeps rfl⟩
  | autoCalibration => exact ⟨_, rfl, execAutoCalibration_keeps rfl⟩
  | calibrationTakesEffect => exact ⟨_, rfl, execCalibrationTakesEffect_keeps rfl⟩
  | axleEnableWrite => exact ⟨_, rfl, execAxleEnableWrite_keeps rfl⟩
  | bandSearchDone => exact ⟨_, rfl, execBandSearchDone_keeps rfl⟩
  | injectionLockHeld => exact ⟨_, rfl, execInjectionLockHeld_keeps rfl⟩
  | pullinTimeout => exact ⟨_, rfl, execPullinTimeout_keeps rfl⟩
  | dllLocked => exact ⟨_, rfl, execDllLocked_keeps rfl⟩
  | dllHoldWrite => exact ⟨_, rfl, execDllHoldWrite_keeps rfl⟩
  | lossOfLock => exact ⟨_, rfl, execLossOfLock_keeps rfl⟩
  | hop => exact ⟨_, rfl, execHop_keeps rfl⟩
  | search => exact ⟨_, rfl, execSearch_keeps rfl⟩
  | fwordHiWrite => exact ⟨_, rfl, execFwordHiWrite_keeps rfl⟩
  | stepHiWrite => exact ⟨_, rfl, execStepHiWrite_keeps rfl⟩
  | stepDone => exact ⟨_, rfl, execStepDone_keeps rfl⟩
  | stepAbort => exact ⟨_, rfl, execStepAbort_keeps rfl⟩
  | bandHiWrite => exact ⟨_, rfl, execBandHiWrite_keeps rfl⟩
  | ax0LossOfLock => exact ⟨_, rfl, execAx0LossOfLock_keeps rfl⟩
  | fineCopy => exact ⟨_, rfl, execFineCopy_keeps rfl⟩
  | outputEnableWrite => exact ⟨_, rfl, execOutputEnableWrite_keeps rfl⟩
  | outputStart => exact ⟨_, rfl, execOutputStart_keeps rfl⟩
  | phaseHiWrite => exact ⟨_, rfl, execPhaseHiWrite_keeps rfl⟩
  | outputDivChange => exact ⟨_, rfl, execOutputDivChange_keeps rfl⟩
  | incHiWrite => exact ⟨_, rfl, execIncHiWrite_keeps rfl⟩
  | set => exact ⟨_, rfl, execSet_keeps rfl⟩
  | step => exact ⟨_, rfl, execStep_keeps rfl⟩
  | setSec => exact ⟨_, rfl, execSetSec_keeps rfl⟩
  | secondBoundary => exact ⟨_, rfl, execSecondBoundary_keeps rfl⟩
  | snapshot => exact ⟨_, rfl, execSnapshot_keeps rfl⟩
  | servedRevert => exact ⟨_, rfl, execServedRevert_keeps rfl⟩
  | targetHiWrite => exact ⟨_, rfl, execTargetHiWrite_keeps rfl⟩
  | gaugeEnableWrite => exact ⟨_, rfl, execGaugeEnableWrite_keeps rfl⟩
  | startEdge => exact ⟨_, rfl, execStartEdge_keeps rfl⟩
  | stopEdge => exact ⟨_, rfl, execStopEdge_keeps rfl⟩
  | conversionComplete => exact ⟨_, rfl, execConversionComplete_keeps rfl⟩
  | tollgateClose => exact ⟨_, rfl, execTollgateClose_keeps rfl⟩
  | statStart => exact ⟨_, rfl, execStatStart_keeps rfl⟩
  | statAbort => exact ⟨_, rfl, execStatAbort_keeps rfl⟩
  | laneCalibrationPath => exact ⟨_, rfl, execLaneCalibrationPath_keeps rfl⟩
  | calOkSet => exact ⟨_, rfl, execCalOkSet_keeps rfl⟩
  | sessionEnableWrite => exact ⟨_, rfl, execSessionEnableWrite_keeps rfl⟩
  | rebind => exact ⟨_, rfl, execRebind_keeps rfl⟩
  | syncTransmit => exact ⟨_, rfl, execSyncTransmit_keeps rfl⟩
  | delayReqTransmit => exact ⟨_, rfl, execDelayReqTransmit_keeps rfl⟩
  | syncReceive => exact ⟨_, rfl, execSyncReceive_keeps rfl⟩
  | delayReqReceive => exact ⟨_, rfl, execDelayReqReceive_keeps rfl⟩
  | delayRespReceive => exact ⟨_, rfl, execDelayRespReceive_keeps rfl⟩
  | pdelayReqReceive => exact ⟨_, rfl, execPdelayReqReceive_keeps rfl⟩
  | pdelayRespReceive => exact ⟨_, rfl, execPdelayRespReceive_keeps rfl⟩
  | delayRespTimeout => exact ⟨_, rfl, execDelayRespTimeout_keeps rfl⟩
  | syncTimeout => exact ⟨_, rfl, execSyncTimeout_keeps rfl⟩
  | txtsPop => exact ⟨_, rfl, execTxtsPop_keeps rfl⟩
  | esmcPduReceive => exact ⟨_, rfl, execEsmcPduReceive_keeps rfl⟩
  | esmcTimeout => exact ⟨_, rfl, execEsmcTimeout_keeps rfl⟩
  | esmcInfoTransmit => exact ⟨_, rfl, execEsmcInfoTransmit_keeps rfl⟩
  | esmcEventTransmit => exact ⟨_, rfl, execEsmcEventTransmit_keeps rfl⟩
  | cplPortEnableWrite => exact ⟨_, rfl, execCplPortEnableWrite_keeps rfl⟩
  | helloReceive => exact ⟨_, rfl, execHelloReceive_keeps rfl⟩
  | helloTransmit => exact ⟨_, rfl, execHelloTransmit_keeps rfl⟩
  | markerDue => exact ⟨_, rfl, execMarkerDue_keeps rfl⟩
  | markerNotSent => exact ⟨_, rfl, execMarkerNotSent_keeps rfl⟩
  | couplingMessageReceive => exact ⟨_, rfl, execCouplingMessageReceive_keeps rfl⟩
  | missLimit => exact ⟨_, rfl, execMissLimit_keeps rfl⟩
  | transfer => exact ⟨_, rfl, execTransfer_keeps rfl⟩
  | cplNodeWrite => exact ⟨_, rfl, execCplNodeWrite_keeps rfl⟩
  | portCfgWrite => exact ⟨_, rfl, execPortCfgWrite_keeps rfl⟩
  | pcsLockGained => exact ⟨_, rfl, execPcsLockGained_keeps rfl⟩
  | pcsLockLost => exact ⟨_, rfl, execPcsLockLost_keeps rfl⟩
  | downHoldExpiry => exact ⟨_, rfl, execDownHoldExpiry_keeps rfl⟩
  | anComplete => exact ⟨_, rfl, execAnComplete_keeps rfl⟩
  | anRestart => exact ⟨_, rfl, execAnRestart_keeps rfl⟩
  | anFallback => exact ⟨_, rfl, execAnFallback_keeps rfl⟩
  | anRetry => exact ⟨_, rfl, execAnRetry_keeps rfl⟩
  | frameReceive => exact ⟨_, rfl, execFrameReceive_keeps rfl⟩
  | frameTailArrival => exact ⟨_, rfl, execFrameTailArrival_keeps rfl⟩
  | pauseReceive => exact ⟨_, rfl, execPauseReceive_keeps rfl⟩
  | pauseQuantaExpiry => exact ⟨_, rfl, execPauseQuantaExpiry_keeps rfl⟩
  | verifyTimer => exact ⟨_, rfl, execVerifyTimer_keeps rfl⟩
  | clearPortCounters => exact ⟨_, rfl, execClearPortCounters_keeps rfl⟩
  | i2cTransferStart => exact ⟨_, rfl, execI2cTransferStart_keeps rfl⟩
  | i2cTransferDone => exact ⟨_, rfl, execI2cTransferDone_keeps rfl⟩
  | modulePoll => exact ⟨_, rfl, execModulePoll_keeps rfl⟩
  | tableRead => exact ⟨_, rfl, execTableRead_keeps rfl⟩
  | tableWriteOp => exact ⟨_, rfl, execTableWriteOp_keeps rfl⟩
  | tableInsert => exact ⟨_, rfl, execTableInsert_keeps rfl⟩
  | tableDelete => exact ⟨_, rfl, execTableDelete_keeps rfl⟩
  | tableLookup => exact ⟨_, rfl, execTableLookup_keeps rfl⟩
  | tableFlush => exact ⟨_, rfl, execTableFlush_keeps rfl⟩
  | ageingSweep => exact ⟨_, rfl, execAgeingSweep_keeps rfl⟩
  | pauseResend => exact ⟨_, rfl, execPauseResend_keeps rfl⟩
  | pauseWatchdog => exact ⟨_, rfl, execPauseWatchdog_keeps rfl⟩
  | pauseWatchdogEnd => exact ⟨_, rfl, execPauseWatchdogEnd_keeps rfl⟩
  | graceExpiry => exact ⟨_, rfl, execGraceExpiry_keeps rfl⟩
  | flushComplete => exact ⟨_, rfl, execFlushComplete_keeps rfl⟩
  | bufClearCounts => exact ⟨_, rfl, execBufClearCounts_keeps rfl⟩
  | turntableIteration => exact ⟨_, rfl, execTurntableIteration_keeps rfl⟩
  | promotion => exact ⟨_, rfl, execPromotion_keeps rfl⟩
  | slotStart => exact ⟨_, rfl, execSlotStart_keeps rfl⟩
  | mailFetch => exact ⟨_, rfl, execMailFetch_keeps rfl⟩
  | holdAssert => exact ⟨_, rfl, execHoldAssert_keeps rfl⟩
  | mailDeparture => exact ⟨_, rfl, execMailDeparture_keeps rfl⟩
  | resequencerGapTimeout => exact ⟨_, rfl, execResequencerGapTimeout_keeps rfl⟩
  | streamIdle => exact ⟨_, rfl, execStreamIdle_keeps rfl⟩
  | gclChange => exact ⟨_, rfl, execGclChange_keeps rfl⟩
  | gclSwap => exact ⟨_, rfl, execGclSwap_keeps rfl⟩
  | schClearCounts => exact ⟨_, rfl, execSchClearCounts_keeps rfl⟩
  | mirrorEnableWrite => exact ⟨_, rfl, execMirrorEnableWrite_keeps rfl⟩
  | mirrorRecordWrite => exact ⟨_, rfl, execMirrorRecordWrite_keeps rfl⟩
  | ringRdWrite => exact ⟨_, rfl, execRingRdWrite_keeps rfl⟩
  | mirrorHoldTimer => exact ⟨_, rfl, execMirrorHoldTimer_keeps rfl⟩
  | mirrorDmaError => exact ⟨_, rfl, execMirrorDmaError_keeps rfl⟩
  | mirClearCounts => exact ⟨_, rfl, execMirClearCounts_keeps rfl⟩
  | nvReadOp => exact ⟨_, rfl, execNvReadOp_keeps rfl⟩
  | nvWriteOp => exact ⟨_, rfl, execNvWriteOp_keeps rfl⟩
  | nvCommitOp => exact ⟨_, rfl, execNvCommitOp_keeps rfl⟩
  | nvDiscardOp => exact ⟨_, rfl, execNvDiscardOp_keeps rfl⟩
  | nvHotSaveOp => exact ⟨_, rfl, execNvHotSaveOp_keeps rfl⟩
  | commitDone => exact ⟨_, rfl, execCommitDone_keeps rfl⟩
  | hotSaveDone => exact ⟨_, rfl, execHotSaveDone_keeps rfl⟩
  | supplyLoss => exact ⟨_, rfl, execSupplyLoss_keeps rfl⟩
  | pfwNFall => exact ⟨_, rfl, execPfwNFall_keeps rfl⟩
  | pfwNClear => exact ⟨_, rfl, execPfwNClear_keeps rfl⟩
  | protectWrite => exact ⟨_, rfl, execProtectWrite_keeps rfl⟩
  | sendW0Write => exact ⟨_, rfl, execSendW0Write_keeps rfl⟩
  | release => exact ⟨_, rfl, execRelease_keeps rfl⟩
  | endReset => exact ⟨_, rfl, execEndReset_keeps rfl⟩
  | pcieFunctionReset => exact ⟨_, rfl, execPcieFunctionReset_keeps rfl⟩
  | coreWatchdogExpiry => exact ⟨_, rfl, execCoreWatchdogExpiry_keeps rfl⟩
  | coreReady => exact ⟨_, rfl, execCoreReady_keeps rfl⟩
  | commandTake => exact ⟨_, rfl, execCommandTake_keeps rfl⟩
  | responsePost => exact ⟨_, rfl, execResponsePost_keeps rfl⟩
  | sysInfo => exact ⟨_, rfl, execSysInfo_keeps rfl⟩
  | reset => exact ⟨_, rfl, execReset_keeps rfl⟩
  | deferredAction => exact ⟨_, rfl, execDeferredAction_keeps rfl⟩
  | setEvents => exact ⟨_, rfl, execSetEvents_keeps rfl⟩
  | callExtension => exact ⟨_, rfl, execCallExtension_keeps rfl⟩
  | extensionTimeout => exact ⟨_, rfl, execExtensionTimeout_keeps rfl⟩
  | fuseProgram => exact ⟨_, rfl, execFuseProgram_keeps rfl⟩
  | refStatus => exact ⟨_, rfl, execRefStatus_keeps rfl⟩
  | selStatus => exact ⟨_, rfl, execSelStatus_keeps rfl⟩
  | selManual => exact ⟨_, rfl, execSelManual_keeps rfl⟩
  | loopStatus => exact ⟨_, rfl, execLoopStatus_keeps rfl⟩
  | loopSample => exact ⟨_, rfl, execLoopSample_keeps rfl⟩
  | setCal => exact ⟨_, rfl, execSetCal_keeps rfl⟩
  | clearModel => exact ⟨_, rfl, execClearModel_keeps rfl⟩
  | holdStatus => exact ⟨_, rfl, execHoldStatus_keeps rfl⟩
  | outStatus => exact ⟨_, rfl, execOutStatus_keeps rfl⟩
  | outEnable => exact ⟨_, rfl, execOutEnable_keeps rfl⟩
  | timeRead => exact ⟨_, rfl, execTimeRead_keeps rfl⟩
  | timeSetSec => exact ⟨_, rfl, execTimeSetSec_keeps rfl⟩
  | gaugeRun => exact ⟨_, rfl, execGaugeRun_keeps rfl⟩
  | sessL2 => exact ⟨_, rfl, execSessL2_keeps rfl⟩
  | sessIp => exact ⟨_, rfl, execSessIp_keeps rfl⟩
  | ptpProfile => exact ⟨_, rfl, execPtpProfile_keeps rfl⟩
  | ptpPortDs => exact ⟨_, rfl, execPtpPortDs_keeps rfl⟩
  | cplStatus => exact ⟨_, rfl, execCplStatus_keeps rfl⟩
  | portStatus => exact ⟨_, rfl, execPortStatus_keeps rfl⟩
  | moduleRead => exact ⟨_, rfl, execModuleRead_keeps rfl⟩
  | macFlush => exact ⟨_, rfl, execMacFlush_keeps rfl⟩
  | macLookup => exact ⟨_, rfl, execMacLookup_keeps rfl⟩
  | tableWrite => exact ⟨_, rfl, execTableWrite_keeps rfl⟩
  | nvRead => exact ⟨_, rfl, execNvRead_keeps rfl⟩
  | nvWrite => exact ⟨_, rfl, execNvWrite_keeps rfl⟩
  | nvCommit => exact ⟨_, rfl, execNvCommit_keeps rfl⟩
  | hotUserWrite => exact ⟨_, rfl, execHotUserWrite_keeps rfl⟩
  | hotSave => exact ⟨_, rfl, execHotSave_keeps rfl⟩
  | faultLogRead => exact ⟨_, rfl, execFaultLogRead_keeps rfl⟩
  | powerState => exact ⟨_, rfl, execPowerState_keeps rfl⟩
  | thermalStatus => exact ⟨_, rfl, execThermalStatus_keeps rfl⟩
  | spiWriteWord => exact ⟨_, rfl, execSpiWriteWord_keeps rfl⟩
  | spiReadWord => exact ⟨_, rfl, execSpiReadWord_keeps rfl⟩
  | spiFrameEnd => exact ⟨_, rfl, execSpiFrameEnd_keeps rfl⟩
  | i2cWriteWord => exact ⟨_, rfl, execI2cWriteWord_keeps rfl⟩
  | i2cReadWord => exact ⟨_, rfl, execI2cReadWord_keeps rfl⟩
  | i2cTransactionEnd => exact ⟨_, rfl, execI2cTransactionEnd_keeps rfl⟩
  | pcieRequest => exact ⟨_, rfl, execPcieRequest_keeps rfl⟩
  | jtagUpdateDr => exact ⟨_, rfl, execJtagUpdateDr_keeps rfl⟩
  | jtagCaptureDr => exact ⟨_, rfl, execJtagCaptureDr_keeps rfl⟩
  | packetRx => exact ⟨_, rfl, execPacketRx_keeps rfl⟩
  | packetTx => exact ⟨_, rfl, execPacketTx_keeps rfl⟩
  | ringDmaError => exact ⟨_, rfl, execRingDmaError_keeps rfl⟩
  | ringLenWrite => exact ⟨_, rfl, execRingLenWrite_keeps rfl⟩
  | msixSend => exact ⟨_, rfl, execMsixSend_keeps rfl⟩
  | pcieLinkUp => exact ⟨_, rfl, execPcieLinkUp_keeps rfl⟩
  | faultReset => exact ⟨_, rfl, execFaultReset_keeps rfl⟩
  | faultNPulseEnd => exact ⟨_, rfl, execFaultNPulseEnd_keeps rfl⟩
  | clearFirst => exact ⟨_, rfl, execClearFirst_keeps rfl⟩
  | sqRelease => exact ⟨_, rfl, execSqRelease_keeps rfl⟩
  | nvlogPageCommit => exact ⟨_, rfl, execNvlogPageCommit_keeps rfl⟩
  | temperatureReading => exact ⟨_, rfl, execTemperatureReading_keeps rfl⟩
  | railExcursion => exact ⟨_, rfl, execRailExcursion_keeps rfl⟩
  | railExcursionEnd => exact ⟨_, rfl, execRailExcursionEnd_keeps rfl⟩
  | powerRequest => exact ⟨_, rfl, execPowerRequest_keeps rfl⟩
  | powerEntryComplete => exact ⟨_, rfl, execPowerEntryComplete_keeps rfl⟩
  | wakeN => exact ⟨_, rfl, execWakeN_keeps rfl⟩
  | wakeTimer => exact ⟨_, rfl, execWakeTimer_keeps rfl⟩
  | spiCsNWake => exact ⟨_, rfl, execSpiCsNWake_keeps rfl⟩
  | vigilXoLoss => exact ⟨_, rfl, execVigilXoLoss_keeps rfl⟩
  | powerExitComplete => exact ⟨_, rfl, execPowerExitComplete_keeps rfl⟩
  | governorReading => exact ⟨_, rfl, execGovernorReading_keeps rfl⟩
  | shedTimer => exact ⟨_, rfl, execShedTimer_keeps rfl⟩
  | tokenGain => exact ⟨_, rfl, execTokenGain_keeps rfl⟩
  | wearPeriodEnd => exact ⟨_, rfl, execWearPeriodEnd_keeps rfl⟩
  | xoMonitorWindow => exact ⟨_, rfl, execXoMonitorWindow_keeps rfl⟩
  | frameTransmitEnd => exact ⟨_, rfl, execFrameTransmitEnd_keeps rfl⟩
  | gateBoundary => exact ⟨_, rfl, execGateBoundary_keeps rfl⟩
  | buildOutBleedEnd => exact ⟨_, rfl, execBuildOutBleedEnd_keeps rfl⟩
  | servedSlewEnd => exact ⟨_, rfl, execServedSlewEnd_keeps rfl⟩
  | feedBleedEnd => exact ⟨_, rfl, execFeedBleedEnd_keeps rfl⟩
  | announceTransmit => exact ⟨_, rfl, execAnnounceTransmit_keeps rfl⟩

theorem exec_keeps {c : Instr} (h : exec c s = .next t) : Keeps s t := by
  obtain ⟨u, done, keeps⟩ := exec_completes c s
  obtain rfl : u = t := Host.Outcome.next.inj (done.symm.trans h)
  exact keeps

theorem step_of_cons {c : Instr} {rest : List Instr} (h : s.pending = c :: rest) : step s = exec c { s with pending := rest } := by
  rw [step, h]

/-- Taking a command off the queue aside, a step keeps what an operation keeps. -/
theorem step_keeps (h : step s = .next t) : ∃ waiting, Keeps { s with pending := waiting } t := by
  cases queue : s.pending with
  | nil =>
    rw [step, queue] at h
    obtain rfl : s.tick = t := Host.Outcome.next.inj h
    exact ⟨s.pending, State.tick_keeps (Keeps.refl s)⟩
  | cons c rest => exact ⟨rest, exec_keeps ((step_of_cons queue).symm.trans h)⟩

/-- Settles O1: the queue's front command is the one the step runs (log entry 7). -/
theorem stepRunsTheOldestCommand : Obligations.StepRunsTheOldestCommand := by
  unfold Obligations.StepRunsTheOldestCommand
  intro s c rest queue
  exact step_of_cons queue

/-- Settles O5: every arm of `exec` answers a next state, and what it keeps includes the waiting commands. -/
theorem everyCommandCompletes : Obligations.EveryCommandCompletes := by
  unfold Obligations.EveryCommandCompletes
  intro c s
  obtain ⟨t, done, keeps⟩ := exec_completes c s
  exact ⟨t, done, keeps.pending⟩

/-- Settles O6: a step keeps the emissions as a suffix and takes neither the free values nor the time base back. -/
theorem nothingIsTakenBack : Obligations.NothingIsTakenBack := by
  unfold Obligations.NothingIsTakenBack
  intro s t h
  obtain ⟨_, keeps⟩ := step_keeps h
  exact ⟨keeps.out, keeps.free, keeps.cyc⟩

/-- Settles O7: a step keeps each of the two stores canonical. -/
theorem canonicalFormKept : Obligations.CanonicalFormKept := by
  unfold Obligations.CanonicalFormKept
  intro s t wf h
  obtain ⟨_, keeps⟩ := step_keeps h
  obtain ⟨regs, array⟩ : s.regsWf = true ∧ s.arrayWf = true := by simpa [State.wf] using wf
  simp [State.wf, keeps.regs regs, keeps.array array]

/-- Settles O4: the reset register file lists one word, the livery's revision, and everything else is at its Reset word. -/
theorem resetState : Obligations.ResetState := by
  unfold Obligations.ResetState
  refine ⟨fun a ha => ?other, ?livery, rfl, ?wf, rfl, rfl⟩
  case other => simp [State.rd, State.reset, smGet, ha]
  case livery => rfl
  case wf => simp [State.wf, State.regsWf, reset_regs_wf, State.arrayWf]; rfl

end Sys2Proof.Machine

/-! Rules the obligations below share: a change under a condition, a change for each number of a list, and the one-bit fields. -/

namespace Sys2Proof.Machine

variable {s : State} {b : Bool} {g : State → State}

theorem State.when_pos (h : b = true) : s.when b g = g s := by rw [h, State.when_true]
theorem State.when_neg (h : b = false) : s.when b g = s := by rw [h, State.when_false]

@[simp] theorem State.each_nil (f : Nat → State → State) : s.each [] f = s := rfl
@[simp] theorem State.each_cons (k : Nat) (ks : List Nat) (f : Nat → State → State) : s.each (k :: ks) f = (f k s).each ks f := rfl

@[simp] theorem State.logFault_rd (s : State) (src inst : Nat) (acc : FaultAccess) (a : Nat) :
    (s.logFault src inst acc).rd a = s.rd a := (rfl)
@[simp] theorem State.logFault_get (s : State) (src inst : Nat) (acc : FaultAccess) (f : FieldRef) :
    (s.logFault src inst acc).get f = s.get f := (rfl)
@[simp] theorem State.logFault_pwr (s : State) (src inst : Nat) (acc : FaultAccess) : (s.logFault src inst acc).pwr = s.pwr := (rfl)
@[simp] theorem State.raise_pwr (s : State) (f : FieldRef) : (s.raise f).pwr = s.pwr := (rfl)
@[simp] theorem State.count_pwr (s : State) (f : FieldRef) : (s.count f).pwr = s.pwr := (rfl)
@[simp] theorem State.setB_pwr (s : State) (f : FieldRef) (b : Bool) : (s.setB f b).pwr = s.pwr := (rfl)
@[simp] theorem State.setWide_pwr (s : State) (lo hi w : Nat) (x : Int) : (s.setWide lo hi w x).pwr = s.pwr := (rfl)
@[simp] theorem State.pushEvent_pwr (s : State) (mb bit : Nat) (ws : List Word) : (s.pushEvent mb bit ws).pwr = s.pwr := (rfl)

/-- What a change under a condition leaves alone. -/
theorem State.when_apply {α : Type} (p : State → α) (h : p (g s) = p s) : p (s.when b g) = p s := by
  cases b with
  | true => exact h
  | false => rfl

/-- What each of a list of changes leaves alone. -/
theorem State.each_apply {α : Type} (p : State → α) {f : Nat → State → State} (h : ∀ k t, p (f k t) = p t) (ks : List Nat) (s : State) :
    p (s.each ks f) = p s := by
  induction ks generalizing s with
  | nil => rfl
  | cons k ks ih => rw [State.each_cons, ih, h]

@[simp] theorem State.queueEvent_pwr (s : State) (bit : Nat) (ws : List Word) : (s.queueEvent bit ws).pwr = s.pwr :=
  State.each_apply State.pwr (fun _ _ => State.when_apply State.pwr rfl) _ s

theorem State.on_eq_false {f : FieldRef} : s.on f = false ↔ s.get f = 0 := by simp [State.on]
theorem State.on_eq_true {f : FieldRef} : s.on f = true ↔ s.get f ≠ 0 := by simp [State.on]

/-- A field of one bit that is not 0 is 1. -/
theorem State.get_one_bit {f : FieldRef} (w : f.width = 1) (h : s.get f ≠ 0) : s.get f = 1 := by
  have : s.get f < 2 ^ f.width := getBits_lt _ _ _
  rw [w] at this
  omega

/-- A field of a register reads as the field of the word written there last. -/
theorem State.get_wr_same (wf : s.regsWf = true) (f : FieldRef) (w : Word) : (s.wr f.addr w).get f = fieldOf f w := by
  rw [State.get, State.rd_wr_same wf, fieldOf]

/-- A field of one bit reads as the truth stored in it last. -/
theorem State.get_setB_same (wf : s.regsWf = true) {f : FieldRef} (one : f.width = 1) (fits : f.lo + f.width ≤ 32) (b : Bool) :
    (s.setB f b).get f = if b then 1 else 0 := by
  rw [State.setB, State.get_set_same wf f fits, one]
  cases b <;> rfl

end Sys2Proof.Machine

/-! Settles O18, the XO (chapter 3): its judgement, the losses the monitor finds, the failover's lock and the return. The state each
operation leaves is said first; what its registers read then follows from the rules of the register file. -/

namespace Sys2Proof.Machine

variable {s : State} {m : Master} {r : RegRow} {v w : Word} {active : Bool} {hz c count c1 c2 : Nat} {counts : List Nat}

/-! ### The judgement -/

theorem active_of_judgeCause_zero (h : judgeCause active hz counts = 0) : active = true := by
  cases active with
  | true => rfl
  | false => simp [judgeCause] at h

/-- The registers after a judgement that passes. -/
def State.judgedGood (c : Nat) (counts : List Nat) (s : State) : State :=
  (((((s.set CGU_XO_STATUS_JUDGED 1).set CGU_XO_STATUS_JUDGE_CAUSE 0).set CGU_XO_STATUS_FREQ c).setI CGU_XO_STATUS_OFFSET
    (xoOffsetWord (xoOffset counts))).set CGU_XO_STATUS_JUDGE_OK 1).set CGU_XO_STATUS_XO_SRC 1

theorem State.xoJudge_pass (held : s.boot.held = false) (wait : s.get GLB_BOOT_STATUS_STATE = 0) (first : s.get CGU_XO_STATUS_JUDGED = 0)
    (pass : judgeCause active hz counts = 0) (code : xoCode hz = some c) :
    s.xoJudge active hz counts = { s.judgedGood c counts with
      cgu := { s.cgu with refCount := counts.getLastD 40000, lastCount := counts.getLastD 40000 } } := by
  obtain rfl := active_of_judgeCause_zero pass
  simp [State.xoJudge, State.judgedGood, held, wait, first, pass, code, State.on, State.setI]

/-! ### Losses -/

theorem State.xoLoss_onIosc (wf : s.regsWf = true) (iosc : s.on CGU_XO_STATUS_XO_SRC = false) {f : FieldRef}
    (other : CGU_XO_STATUS_XO_SRC.addr ≠ f.addr) : s.xoLoss f = s.set f 1 := by
  have still : (s.set f 1).on CGU_XO_STATUS_XO_SRC = false := by rw [State.on, State.get_set_addr wf _ _ _ other]; exact iosc
  simp [State.xoLoss, State.raise, still]

/-- A loss while the device runs from the XO begins a failover. -/
theorem State.xoLoss_onXo (wf : s.regsWf = true) (xo : s.on CGU_XO_STATUS_XO_SRC = true) {f : FieldRef}
    (other : CGU_XO_STATUS_XO_SRC.addr ≠ f.addr) : (s.xoLoss f).cgu.coasting = true ∧ (s.xoLoss f).cgu.goodRun = 0 := by
  have still : (s.raise f).on CGU_XO_STATUS_XO_SRC = true := by
    rw [State.on, State.raise, State.get_set_addr wf _ _ _ other]; exact xo
  rw [State.xoLoss, if_pos still]
  exact ⟨rfl, rfl⟩

theorem State.freqLoss_off (known : s.cgu.refCount ≠ 0) (off1 : windowOff s.cgu.refCount c1 = true)
    (off2 : windowOff s.cgu.refCount c2 = true) :
    s.freqLoss c1 c2 = ({ s with cgu := { s.cgu with lastCount := c2 } } : State).xoLoss CGU_XO_EVT_LOSS_FREQ :=
  if_pos ⟨known, off1, off2⟩

theorem State.freqLoss_near (near : windowOff s.cgu.refCount c1 = false) : s.freqLoss c1 c2 = s :=
  if_neg (by simp [near])

/-! ### The return to the XO -/

theorem exec_xoReturnRequest_row (met : s.verdict m CGU_XO_CTRL = .row r) :
    exec (.xoReturnRequest m v) s = .next ((s.answer m .ok).xoCtrlWrite m v r) :=
  congrArg Host.Outcome.next (State.access_row met)

/-- A write of RETURN = 1 clears the bit again, and takes the return or refuses it. -/
theorem State.xoCtrlWrite_return (wf : s.regsWf = true) (taken : writeFields r.fields (s.rd CGU_XO_CTRL) v = (w, false))
    (ret : getBits w 0 1 = 1) :
    s.xoCtrlWrite m v r =
      let u := (s.wr CGU_XO_CTRL w).set CGU_XO_CTRL_RETURN 0
      if !u.on CGU_XO_STATUS_XO_SRC && u.on CGU_XO_STATUS_XO_GOOD && decide (10000 * u.get CGU_XO_CTRL_GOOD_WAIT ≤ s.cgu.goodRun)
      then { u with cgu := { s.cgu with returning := true } } else u.raise CGU_XO_EVT_RETURN_REFUSED := by
  have on : (s.wr CGU_XO_CTRL w).on CGU_XO_CTRL_RETURN = true := by
    have read : (s.wr CGU_XO_CTRL w).get CGU_XO_CTRL_RETURN = 1 := (State.get_wr_same wf CGU_XO_CTRL_RETURN w).trans ret
    simp [State.on, read]
  simp only [State.xoCtrlWrite, State.plainWrite_ok taken, on, Bool.not_true, Bool.false_eq_true, if_false]
  rfl

/-- The register of the return request after its bit has cleared leaves the status of the XO as it was. -/
theorem State.xoCtrl_written_get (wf : s.regsWf = true) {f : FieldRef} (status : f.addr = CGU_XO_STATUS) :
    ((s.wr CGU_XO_CTRL w).set CGU_XO_CTRL_RETURN 0).get f = s.get f := by
  have other : f.addr ≠ CGU_XO_CTRL := by rw [status]; decide
  rw [State.get_set_addr (State.wr_regsWf wf _ _) _ _ _ other, State.get_wr_ne wf _ _ _ other]

theorem State.xoCtrl_written_goodWait (wf : s.regsWf = true) :
    ((s.wr CGU_XO_CTRL w).set CGU_XO_CTRL_RETURN 0).get CGU_XO_CTRL_GOOD_WAIT = fieldOf CGU_XO_CTRL_GOOD_WAIT w := by
  exact (State.get_set_apart (State.wr_regsWf wf _ _) _ _ (by decide) _ (by decide)).trans (State.get_wr_same wf CGU_XO_CTRL_GOOD_WAIT w)

theorem State.xoCtrl_written_return (wf : s.regsWf = true) :
    ((s.wr CGU_XO_CTRL w).set CGU_XO_CTRL_RETURN 0).get CGU_XO_CTRL_RETURN = 0 := by
  rw [State.get_set_same (State.wr_regsWf wf _ _) _ (by decide)]
  rfl

theorem State.xoReturned_idle (idle : s.cgu.returning = false) : s.xoReturned count = s := by
  simp [State.xoReturned, idle]

/-! ### The monitor's windows -/

theorem State.monitorWindow_judged (judged : s.on CGU_XO_STATUS_JUDGED = true) (awake : s.pwr.state ≠ .dormant) :
    s.monitorWindow active hz count =
      let u : State := { s with cgu := { s.cgu with
        lastCount := if active then count else s.cgu.lastCount, windows := (XoWindow.mk active hz count :: s.cgu.windows).take 10 } }
      { u.setB CGU_XO_STATUS_XO_GOOD u.xoPasses with
        cgu := { u.cgu with goodRun := if u.xoPasses && s.on CGU_XO_STATUS_XO_GOOD then s.cgu.goodRun + 1 else 0 } } := by
  simp only [State.monitorWindow, judged, awake, Bool.not_true, Bool.false_eq_true, or_self, if_false]
  rfl

/-- Settles O18: each command's state is said by a lemma above, and its registers by the rules of the register file (R71 to R75). -/
theorem xoCommandsComplete : Obligations.XoCommandsComplete := by
  unfold Obligations.XoCommandsComplete
  refine ⟨?judged, ?activityIosc, ?activityXo, ?frequency, ?near, fun _ => rfl, ?returnTaken, ?returnRefused, ?idle, ?returned, ?window⟩
  case judged =>
    intro s active hz c counts wf held wait first pass code
    refine ⟨_, congrArg Host.Outcome.next (State.xoJudge_pass held wait first pass code), ?_⟩
    refine ⟨?_, ?_, ?_, ?_, ?_, rfl, fun a other => ?_⟩
    case refine_6 =>
      simp (disch := first | exact ne_of_ne_of_eq other rfl | ((repeat apply State.set_regsWf); assumption)) [State.judgedGood, State.setI, State.rd_set_ne]
    all_goals simp (disch := first | decide | (repeat apply State.set_regsWf); assumption) [State.judgedGood, State.setI,
      State.get_set_same, State.get_set_apart]
    all_goals rfl
  case activityIosc =>
    intro s wf watch iosc
    exact congrArg Host.Outcome.next ((State.when_pos watch).trans (State.xoLoss_onIosc wf iosc (by decide)))
  case activityXo =>
    intro s wf watch xo
    exact ⟨_, congrArg Host.Outcome.next (State.when_pos watch), State.xoLoss_onXo wf xo (by decide)⟩
  case frequency =>
    intro s c1 c2 wf watch known off1 off2 xo
    refine ⟨_, congrArg Host.Outcome.next ((State.when_pos watch).trans (State.freqLoss_off known off1 off2)), ?_⟩
    exact State.xoLoss_onXo (s := { s with cgu := { s.cgu with lastCount := c2 } }) wf xo (by decide)
  case near =>
    intro s c1 c2 near
    have stays : s.when s.watching (State.freqLoss c1 c2) = s := by
      unfold State.when
      rw [State.freqLoss_near near, ite_self]
    exact congrArg Host.Outcome.next stays
  case returnTaken =>
    intro s m v w r wf met taken ret iosc good waited
    rw [exec_xoReturnRequest_row met, State.xoCtrlWrite_return (s := s.answer m .ok) wf taken ret]
    have src := (State.xoCtrl_written_get (s := s.answer m .ok) (w := w) wf (f := CGU_XO_STATUS_XO_SRC) rfl).trans iosc
    have isGood := (State.xoCtrl_written_get (s := s.answer m .ok) (w := w) wf (f := CGU_XO_STATUS_XO_GOOD) rfl).trans good
    have wait := State.xoCtrl_written_goodWait (s := s.answer m .ok) (w := w) wf
    refine ⟨_, congrArg _ (if_pos ?_), rfl, State.xoCtrl_written_return (s := s.answer m .ok) wf⟩
    simpa [State.on, src, isGood, wait] using waited
  case returnRefused =>
    intro s m v w r wf met taken ret bad
    rw [exec_xoReturnRequest_row met, State.xoCtrlWrite_return (s := s.answer m .ok) wf taken ret]
    have isBad := (State.xoCtrl_written_get (s := s.answer m .ok) (w := w) wf (f := CGU_XO_STATUS_XO_GOOD) rfl).trans bad
    have wf' := State.set_regsWf (State.wr_regsWf (s := s.answer m .ok) wf CGU_XO_CTRL w) CGU_XO_CTRL_RETURN 0
    refine ⟨_, congrArg _ (if_neg (by simp [State.on, isBad])), rfl, ?_, ?_⟩
    · rw [State.raise, State.get_set_addr wf' _ _ _ (by decide), State.xoCtrl_written_return (s := s.answer m .ok) wf]
    · rw [State.raise, State.get_set_same wf' _ (by decide)]
      rfl
  case idle =>
    intro s count idle
    exact congrArg Host.Outcome.next (State.xoReturned_idle idle)
  case returned =>
    rintro s count _ returning rfl
    change Host.Outcome.next (s.xoReturned count) = _
    simp only [State.xoReturned, returning, Bool.not_true, Bool.false_eq_true, if_false]
    rfl
  case window =>
    intro s active hz count wf judged awake
    refine ⟨_, congrArg Host.Outcome.next (State.monitorWindow_judged judged awake), rfl, rfl, ?_, ?_, fun a other => ?_⟩
    · exact State.get_setB_same (f := CGU_XO_STATUS_XO_GOOD) wf rfl (by decide) _
    · rfl
    · exact State.rd_set_ne wf _ _ (ne_of_ne_of_eq other rfl)

end Sys2Proof.Machine

/-! Settles O19, the clocks (chapter 3): gates, the switches of a domain's source and CLKOUT. A switch in progress decides what its
commands come to; what it does to the entry into VIGIL hangs on the ladder's phase, which no operation of a switch moves. -/

namespace Sys2Proof.Machine

variable {s : State} {m : Master} {r : RegRow} {v w : Word} {b d x : Nat} {sw : Switch}

/-! ### Gates -/

theorem State.gateShut_wanted (known : b < 23) (wanted : s.gatesWanted.testBit b = true) (isOpen : s.gateIn b = false) :
    s.gateShut b =
      let u := s.set CGU_GATE_STATUS_GATED (putBit (s.get CGU_GATE_STATUS_GATED) b true)
      if b < 12 then u.each [0, 1, 2, 3] fun k t => t.portPark false (4 * b + k)
      else if b = 17 then u.timersGate true else if b = 22 then u.refLinesAll.phaseEvalAll else u :=
  if_neg (by simp [wanted, isOpen, known])

theorem State.gateShut_unwanted (unwanted : s.gatesWanted.testBit b = false) : s.gateShut b = s :=
  if_pos (by simp [unwanted])

theorem State.gateForce_wanted (known : b < 23) (wanted : s.gatesWanted.testBit b = true) (isOpen : s.gateIn b = false)
    (flying : List InFlight) :
    s.gateForce b flying =
      ((flying.foldl (fun t a => (t.errorReply a.m).logFault 0x05 0 (some (a.m, a.write, a.addr))) s).countMod
        CGU_GATE_STATUS_FORCE_COUNT).gateShut b :=
  if_neg (by simp [wanted, isOpen, known])

theorem State.gateReopen_shut (unwanted : s.gatesWanted.testBit b = false) (isShut : s.gateIn b = true) :
    s.gateReopen b =
      let u := s.set CGU_GATE_STATUS_GATED (putBit (s.get CGU_GATE_STATUS_GATED) b false)
      if b < 12 then u.each [0, 1, 2, 3] fun k t => t.portUnpark (4 * b + k)
      else if b = 17 then (u.timersGate false).bufReopen
      else if b = 18 then u.each (List.range 48) State.gatesMove
      else if b = 22 then (u.each (List.range 64) State.gaugeFresh).refLinesAll.phaseEvalAll else u :=
  if_neg (by simp [unwanted, isShut])

/-! ### The ladder during a switch -/

@[simp] theorem State.setDom_pwr (s : State) (d : Nat) (t : TimDom) : (s.setDom d t).pwr = s.pwr := by
  unfold State.setDom
  split <;> rfl

@[simp] theorem State.setAcc_pwr (s : State) (x : Int) : (s.setAcc x).pwr = s.pwr := (rfl)

@[simp] theorem State.compensate_pwr (s : State) (d : Nat) (x : Int) : (s.compensate d x).pwr = s.pwr := by
  unfold State.compensate
  split
  · rfl
  · split <;> rfl

@[simp] theorem State.retime_pwr (s : State) (d c e : Nat) : (s.retime d c e).pwr = s.pwr := by
  simp only [State.retime, State.compensate_pwr]
  exact (State.when_apply State.pwr rfl).trans (State.setDom_pwr _ _ _)

@[simp] theorem State.setSrc_pwr (s : State) (d : Nat) : (s.setSrc d).pwr = s.pwr := by
  unfold State.setSrc
  split
  · rfl
  · simp only [State.queueEvent_pwr, State.raise_pwr]
    split <;> rfl

@[simp] theorem State.autoSource_pwr (s : State) : s.autoSource.pwr = s.pwr := by
  unfold State.autoSource
  extract_lets
  split
  · rfl
  · split <;> exact State.when_apply State.pwr (State.setSrc_pwr _ _)

@[simp] theorem State.secValid_pwr (s : State) (d : Nat) : (s.secValid d).pwr = s.pwr :=
  (State.autoSource_pwr _).trans (State.when_apply State.pwr rfl)

@[simp] theorem State.relabel_pwr (s : State) (d n : Nat) : (s.relabel d n).pwr = s.pwr := by
  simp only [State.relabel]
  split
  · simp only [State.secValid_pwr, State.retime_pwr, State.set_pwr, State.setDom_pwr]
  · split <;> simp only [State.raise_pwr, State.retime_pwr, State.setDom_pwr]

@[simp] theorem State.countTime_pwr (s : State) (d n : Nat) : (s.countTime d n).pwr = s.pwr := by
  simp only [State.countTime, State.when]
  split
  · split <;> simp only [State.relabel_pwr, State.setDom_pwr]
  · exact State.setDom_pwr _ _ _

@[simp] theorem State.advance_pwr (s : State) (code k : Nat) : (s.advance code k).pwr = s.pwr := by
  simp only [State.advance, State.countTime_pwr]

@[simp] theorem State.forceSrc_pwr (s : State) (d x : Nat) : (s.forceSrc d x).pwr = s.pwr := by
  unfold State.forceSrc
  repeat' split
  all_goals rfl

@[simp] theorem State.showSrc_pwr (s : State) (d x : Nat) : (s.showSrc d x).pwr = s.pwr := by
  unfold State.showSrc
  split <;> rfl

@[simp] theorem State.requestSwitch_pwr (s : State) (d new : Nat) (gov : Bool) : (s.requestSwitch d new gov).pwr = s.pwr := by
  simp only [State.requestSwitch]
  split
  · exact State.showSrc_pwr _ _ _
  · split
    · rfl
    · exact State.showSrc_pwr _ _ _

@[simp] theorem State.requestSwitches_pwr (ws : List Switch) (d : Nat) (s : State) :
    (ws.foldl (fun t w => t.requestSwitch d w.new w.gov) s).pwr = s.pwr := by
  induction ws generalizing s with
  | nil => rfl
  | cons w ws ih => rw [List.foldl_cons, ih, State.requestSwitch_pwr]

@[simp] theorem State.switchOver_pwr (s : State) (d x : Nat) : (s.switchOver d x).pwr = s.pwr := by
  rw [State.switchOver, State.showBusy, State.setB_pwr, State.requestSwitches_pwr, State.forceSrc_pwr]

@[simp] theorem State.recordSwitch_pwr (s : State) (d old new : Nat) (unknown abandoned : Bool) :
    (s.recordSwitch d old new unknown abandoned).pwr = s.pwr := by
  simp only [State.recordSwitch, State.countMod, State.setB_pwr, State.set_pwr]

@[simp] theorem State.switchDone_pwr (s : State) (sw : Switch) : (s.switchDone sw).pwr = s.pwr := by
  simp only [State.switchDone, State.when]
  split <;> simp only [State.advance_pwr, State.recordSwitch_pwr, State.switchOver_pwr]

@[simp] theorem State.switchByForce_pwr (s : State) (sw : Switch) : (s.switchByForce sw).pwr = s.pwr := by
  simp only [State.switchByForce, State.when]
  split <;> simp only [State.raise_pwr, State.logFault_pwr, State.recordSwitch_pwr, State.switchOver_pwr]

/-! ### The ends of a switch -/

theorem exec_switchComplete (h : s.switchBusy d = some sw) :
    exec (.switchComplete d) s = .next ((s.switchDone sw).afterSwitch sw) := by
  change Host.Outcome.next (s.switchEnd d) = _
  rw [State.switchEnd, h]

theorem exec_switchForced (h : s.switchBusy d = some sw) :
    exec (.switchForced d) s = .next ((s.switchByForce sw).afterSwitch sw) := by
  change Host.Outcome.next (s.switchForce d) = _
  rw [State.switchForce, h]

/-- Only the governor's switch of the time base in an entry to VIGIL has a sequel. -/
theorem State.afterSwitch_none (h : sw.dom ≠ 2 ∨ s.pwr.phase ≠ 3) : s.afterSwitch sw = s := by
  refine State.when_neg ?_
  rcases h with h | h <;> simp [h]

theorem State.switchDone_timeBase (h : sw.dom = 2) : s.switchDone sw =
    (((s.switchOver 2 sw.new).recordSwitch 2 3 5 false false).advance sw.old 3).advance sw.new 5 := by
  rw [State.switchDone, h, State.when_pos (decide_eq_true rfl)]

theorem State.switchDone_other (h : sw.dom ≠ 2) : s.switchDone sw = (s.switchOver sw.dom sw.new).recordSwitch sw.dom 3 5 false false := by
  rw [State.switchDone, State.when_neg (by simp [h])]

theorem State.switchByForce_timeBase (h : sw.dom = 2) : s.switchByForce sw =
    ((((s.switchOver 2 sw.new).recordSwitch 2 0 0 true false).logFault 0x08 2 none).raise (TIM_EVT_SLIP_UNKNOWN 0)).raise
      (TIM_EVT_SLIP_UNKNOWN 1) := by
  rw [State.switchByForce, h, State.when_pos (decide_eq_true rfl)]

theorem State.switchByForce_other (h : sw.dom ≠ 2) : s.switchByForce sw =
    ((s.switchOver sw.dom sw.new).recordSwitch sw.dom 0 0 true false).logFault 0x08 sw.dom none := by
  rw [State.switchByForce, State.when_neg (by simp [h])]

theorem State.switchDropped_other (h : sw.dom ≠ 2) : s.switchDropped sw =
    (s.switchOver sw.dom sw.old).recordSwitch sw.dom 3 0 false true := by
  rw [State.switchDropped, State.when_neg (by simp [h])]

theorem State.switchAbandon_other (h : s.switchBusy d = some sw) (time : d ≠ 2) (lane : d ≠ 6) :
    s.switchAbandon d = s.switchDropped sw := by
  rw [State.switchAbandon, h]
  simp [time, lane]

/-! ### The lane reference asks again -/

theorem State.srcDue_idle (idle : s.switchBusy d = none) (alone : s.cgu.waiting = []) : s.srcDue d = s.domSrc d := by
  simp [State.srcDue, idle, alone]

/-- The source the lanes want by LANE_FB (R202). -/
def State.laneWant (s : State) : Nat := if s.on (AXL_STATUS_LANE_FB 1) then 0 else 1

theorem State.laneFollow_there (there : s.srcDue 6 = s.laneWant) : s.laneFollow = s := if_pos there
theorem State.laneFollow_away (away : s.srcDue 6 ≠ s.laneWant) : s.laneFollow = s.requestSwitch 6 s.laneWant false := if_neg away

theorem State.requestSwitch_idle (idle : s.switchBusy d = none) (change : s.domSrc d ≠ x) (gov : Bool) :
    s.requestSwitch d x gov =
      (({ s with cgu := { s.cgu with busy := ⟨d, s.domSrc d, x, gov⟩ :: s.cgu.busy } } : State).showSrc d x).showBusy := by
  rw [State.requestSwitch, idle]
  exact if_neg change

/-- Every switch that is to be retried is one of the lane reference: asking again forgets them all. -/
theorem State.switchAgain_lane (some : s.cgu.retry ≠ []) (lane : ∀ w ∈ s.cgu.retry, w.dom = 6) :
    s.switchAgain 6 = ({ s with cgu := { s.cgu with retry := [] } } : State).laneFollow := by
  have none : s.cgu.retry.filter (·.dom != 6) = [] := List.filter_eq_nil_iff.mpr fun w hw => by simp [lane w hw]
  obtain ⟨w, ws, retry⟩ := List.exists_cons_of_ne_nil some
  have found : s.cgu.retry.find? (·.dom == 6) = .some w := by
    rw [retry, List.find?_cons_of_pos]
    simp [lane w (by simp [retry])]
  rw [State.switchAgain, found, none]
  rfl

/-! ### A write of CGU_DOM_SRC -/

theorem exec_domainSourceWrite_row (met : s.verdict m CGU_DOM_SRC = .row r) :
    exec (.domainSourceWrite m v) s = .next ((s.answer m .ok).domSrcWrite m v r) :=
  congrArg Host.Outcome.next (State.access_row met)

/-- In WORKSHOP each domain whose field differs from its source is asked to switch. -/
theorem State.domSrcWrite_workshop (workshop : s.get GLB_STATUS_MODE = 5)
    (taken : writeFields r.fields (s.rd CGU_DOM_SRC) v = (w, false)) :
    s.domSrcWrite m v r = s.each [0, 1, 2, 3, 4] fun d t =>
      t.when (decide (fieldOf (domField d) w ≠ t.domSrc d)) (State.requestSwitch d (fieldOf (domField d) w) false) := by
  simp only [State.domSrcWrite, workshop, taken, ne_eq, not_true_eq_false, if_false, State.when_false]

/-- CORE alone is switched: what its register and CGU_SWITCH_STATUS then show. -/
def State.coreSwitched (x : Nat) (s : State) : State :=
  (({ s with cgu := { s.cgu with busy := [⟨0, s.get CGU_DOM_SRC_CORE, x, false⟩] } } : State).set CGU_DOM_SRC_CORE x).set
    CGU_SWITCH_STATUS_BUSY 1

theorem State.coreSwitched_domSrc (wf : s.regsWf = true) (d : Nat) (other : 1 ≤ d ∧ d < 5) :
    (s.coreSwitched x).domSrc d = s.domSrc d := by
  obtain ⟨low, high⟩ := other
  simp only [State.domSrc, high, if_true, State.coreSwitched]
  interval_cases d <;>
    simp (disch := first | decide | (repeat apply State.set_regsWf); exact (State.fields_regsWf _).trans wf) [domField,
      State.get_set_apart]

theorem State.domSrcWrite_core (wf : s.regsWf = true) (workshop : s.get GLB_STATUS_MODE = 5) (idle : s.cgu.busy = [])
    (taken : writeFields r.fields (s.rd CGU_DOM_SRC) v = (w, false))
    (others : ∀ d ∈ [1, 2, 3, 4], fieldOf (domField d) w = s.domSrc d) (core : fieldOf CGU_DOM_SRC_CORE w ≠ s.get CGU_DOM_SRC_CORE) :
    s.domSrcWrite m v r = s.coreSwitched (fieldOf CGU_DOM_SRC_CORE w) := by
  have switched : s.when (decide (fieldOf (domField 0) w ≠ s.domSrc 0)) (State.requestSwitch 0 (fieldOf (domField 0) w) false) =
      s.coreSwitched (fieldOf CGU_DOM_SRC_CORE w) := by
    have change : fieldOf (domField 0) w ≠ s.domSrc 0 := core
    rw [State.when_pos (decide_eq_true change), State.requestSwitch_idle (by simp [State.switchBusy, idle]) (Ne.symm change), idle,
      State.showSrc, if_pos (by decide), State.showBusy, State.set_cgu]
    rfl
  have rest (d : Nat) (hd : d ∈ [1, 2, 3, 4]) (g : State → State) :
      (s.coreSwitched (fieldOf CGU_DOM_SRC_CORE w)).when
        (decide (fieldOf (domField d) w ≠ (s.coreSwitched (fieldOf CGU_DOM_SRC_CORE w)).domSrc d)) g =
      s.coreSwitched (fieldOf CGU_DOM_SRC_CORE w) := by
    refine State.when_neg (decide_eq_false (not_not.mpr ?_))
    rw [State.coreSwitched_domSrc wf d (by simp at hd; omega), others d hd]
  rw [State.domSrcWrite_workshop workshop taken, State.each_cons, switched, State.each_cons, rest 1 (by simp), State.each_cons,
    rest 2 (by simp), State.each_cons, rest 3 (by simp), State.each_cons, rest 4 (by simp), State.each_nil]

/-! ### CLKOUT -/

theorem exec_clkoutWrite_row (met : s.verdict m CGU_CLKOUT = .row r) :
    exec (.clkoutWrite m v) s = .next ((s.answer m .ok).clkoutWrite m v r) :=
  congrArg Host.Outcome.next (State.access_row met)

/-- A pair of source and divider within 250 MHz on the source CLKOUT is due to have goes to the register alone. -/
theorem State.clkoutWrite_sameSource (taken : writeFields r.fields (s.rd CGU_CLKOUT) v = (w, false))
    (divider : fieldOf CGU_CLKOUT_DIV v ≤ 65536)
    (slow : fieldOf CGU_CLKOUT_DIV v = 0 ∨ s.clkHz (fieldOf CGU_CLKOUT_SRC v) ≤ 250000000 * fieldOf CGU_CLKOUT_DIV v)
    (due : s.srcDue 5 = fieldOf CGU_CLKOUT_SRC v) : s.clkoutWrite m v r = s.wr CGU_CLKOUT w := by
  have within : ¬ (fieldOf CGU_CLKOUT_DIV v ≠ 0 ∧ 250000000 * fieldOf CGU_CLKOUT_DIV v < s.clkHz (fieldOf CGU_CLKOUT_SRC v)) := by
    omega
  have stillDue : (s.wr CGU_CLKOUT w).srcDue 5 = fieldOf CGU_CLKOUT_SRC v := due
  simp only [State.clkoutWrite, decide_eq_false divider.not_gt, Bool.false_eq_true, if_false, if_neg within,
    State.plainWrite_ok taken, stillDue, if_true]

theorem State.clkPin_idle (idle : s.switchBusy 5 = none) : s.clkPin = clkLevel s.cgu.clkDiv s.cgu.clkPos := by
  simp [State.clkPin, idle]

/-- An edge of the source moves the place in the output's period by one, and the period begins anew where the divider is the one
written last. -/
theorem State.clkEdge_cgu (divider : s.cgu.clkDiv = s.get CGU_CLKOUT_DIV) (within : s.cgu.clkPos < s.cgu.clkDiv) :
    s.clkEdge.cgu = { s.cgu with clkPos := (s.cgu.clkPos + 1) % s.cgu.clkDiv } := by
  unfold State.clkEdge
  split
  · next more => simp [Nat.mod_eq_of_lt more]
  · next last =>
    have wraps : s.cgu.clkPos + 1 = s.cgu.clkDiv := by omega
    simp [← divider, wraps]

theorem State.clkEdge_regs (s : State) : s.clkEdge.regs = s.regs := by
  unfold State.clkEdge
  split <;> rfl

/-- The state after `n` edges of the source, counted from a rising edge of the output. -/
theorem State.clkEdges (divided : 2 ≤ s.cgu.clkDiv) (divider : s.cgu.clkDiv = s.get CGU_CLKOUT_DIV) (start : s.cgu.clkPos = 0) (n : Nat) :
    let t := s.each (List.range n) fun _ u => u.clkEdge
    t.cgu.clkPos = n % s.cgu.clkDiv ∧ t.cgu.clkDiv = s.cgu.clkDiv ∧ t.regs = s.regs := by
  induction n with
  | zero => simp [start]
  | succ n ih =>
    obtain ⟨pos, div, regs⟩ := ih
    simp only [State.each, List.range_succ, List.foldl_append, List.foldl_cons, List.foldl_nil] at pos div regs ⊢
    set t := (List.range n).foldl (fun (u : State) (_ : Nat) => u.clkEdge) s
    have same : t.cgu.clkDiv = t.get CGU_CLKOUT_DIV := by rw [div, State.get_congr regs, divider]
    have within : t.cgu.clkPos < t.cgu.clkDiv := by rw [pos, div]; exact Nat.mod_lt _ (by omega)
    rw [State.clkEdge_cgu same within, State.clkEdge_regs, regs]
    exact ⟨by simp [pos, div], div, rfl⟩

/-- Settles O19: gates by what is asked of them, a switch by its domain, CLKOUT by its divider and place (R78 to R89). -/
theorem clockCommandsComplete : Obligations.ClockCommandsComplete := by
  unfold Obligations.ClockCommandsComplete
  refine ⟨?request, ?shut, ?unwanted, ?forced, ?opens, ?source, ?complete, ?byForce, ?timeBase, ?abandoned, ?retry, ?clkout,
    ?switching, ?off, ?whole, ?divided, ?edges⟩
  case request =>
    intro s m v w r met taken
    exact congrArg Host.Outcome.next ((State.access_row met).trans (State.plainWrite_ok taken))
  case shut =>
    intro s b known wanted isOpen
    exact congrArg Host.Outcome.next (State.gateShut_wanted known wanted isOpen)
  case unwanted =>
    intro s b unwanted
    exact congrArg Host.Outcome.next (State.gateShut_unwanted unwanted)
  case forced =>
    intro s b flying known wanted isOpen
    exact congrArg Host.Outcome.next (State.gateForce_wanted known wanted isOpen flying)
  case opens =>
    intro s b unwanted isShut
    exact congrArg Host.Outcome.next (State.gateReopen_shut unwanted isShut)
  case source =>
    intro s m v w r wf met workshop idle taken others core
    have same : ∀ d ∈ [1, 2, 3, 4], fieldOf (domField d) w = s.domSrc d := by
      simpa only [List.all_eq_true, beq_iff_eq] using others
    have written := State.domSrcWrite_core (s := s.answer m .ok) (m := m) (r := r) wf workshop idle taken same core
    refine ⟨_, (exec_domainSourceWrite_row met).trans (congrArg _ written), rfl, ?_, ?_⟩
    · have small : fieldOf CGU_DOM_SRC_CORE w % 2 ^ 2 = fieldOf CGU_DOM_SRC_CORE w := Nat.mod_eq_of_lt (getBits_lt _ _ _)
      rw [State.coreSwitched, State.get_set_addr (State.set_regsWf (by exact wf) _ _) _ _ _ (by decide),
        State.get_set_same (by exact wf) CGU_DOM_SRC_CORE (by decide)]
      exact small
    · exact State.get_set_same (State.set_regsWf (by exact wf) _ _) CGU_SWITCH_STATUS_BUSY (by decide) 1
  case complete =>
    rintro s _ sw busy other rfl
    rw [exec_switchComplete busy, State.afterSwitch_none (.inl other), State.switchDone_other other]
  case byForce =>
    rintro s _ sw busy other rfl
    rw [exec_switchForced busy, State.afterSwitch_none (.inl other), State.switchByForce_other other]
  case timeBase =>
    intro s sw busy time phase
    rw [exec_switchComplete busy, exec_switchForced busy, State.afterSwitch_none (.inr (by simpa using phase)),
      State.afterSwitch_none (.inr (by simpa using phase)), State.switchDone_timeBase time, State.switchByForce_timeBase time]
    exact ⟨rfl, rfl⟩
  case abandoned =>
    rintro s _ sw busy low other rfl
    exact congrArg Host.Outcome.next ((State.switchAbandon_other busy other (by omega)).trans (State.switchDropped_other other))
  case retry =>
    intro s idle alone some lane
    refine ⟨_, congrArg Host.Outcome.next (State.switchAgain_lane some lane), ?_⟩
    set u : State := { s with cgu := { s.cgu with retry := [] } }
    have due : u.srcDue 6 = s.cgu.laneSrc := State.srcDue_idle (s := u) idle alone
    by_cases there : s.cgu.laneSrc = s.laneWant
    · rw [State.laneFollow_there (s := u) (due.trans there)]
      exact ⟨rfl, fun _ => rfl, fun away => absurd there away⟩
    · rw [State.laneFollow_away (s := u) (by rw [due]; exact there), State.requestSwitch_idle (s := u) (x := u.laneWant) idle there]
      exact ⟨rfl, fun same => absurd same there, fun _ => rfl⟩
  case clkout =>
    intro s m v w r wf met taken divider slow due
    have written := State.clkoutWrite_sameSource (s := s.answer m .ok) (m := m) (r := r) taken divider slow due
    refine ⟨_, (exec_clkoutWrite_row met).trans (congrArg _ written), State.rd_wr_same (by exact wf) _ _, rfl, fun a other => ?_⟩
    exact State.rd_wr_ne (by exact wf) _ other
  case switching =>
    intro s busy
    exact if_pos busy
  case off =>
    intro s idle off
    rw [State.clkPin_idle idle, clkLevel, if_pos off]
  case whole =>
    intro s idle whole
    rw [State.clkPin_idle idle, whole]
    rfl
  case divided =>
    intro s idle divided
    rw [State.clkPin_idle idle, clkLevel, if_neg (by omega), if_neg (by omega)]
  case edges =>
    intro s n _ divided divider start
    exact State.clkEdges divided divider start n

end Sys2Proof.Machine

/-! Settles O20, the register bus: a write meets its verdict and then the register's own behaviour; a read that does not ask for a
higher word gives the register's live word, clears its RC fields and, for the lowest word of a value, latches the others. -/

namespace Sys2Proof.Machine

variable {s : State} {m : Master} {a n k low : Nat} {v w : Word} {r : RegRow}

/-! ### Writes -/

theorem State.busWrite_never (met : s.verdict m a = .never) : s.busWrite m a v = s.answer m .none := State.access_never met
theorem State.busWrite_gated (met : s.verdict m a = .gated) : s.busWrite m a v = s.answer m .ok := State.access_gated met
theorem State.busWrite_row (met : s.verdict m a = .row r) : s.busWrite m a v = State.regWrite m a v r (s.answer m .ok) :=
  State.access_row met

/-- Three registers of the fault collector have a behaviour of their own; every other one takes the word's writable fields. -/
theorem State.regWrite_flt_plain (block : blockOf a = some .flt) (ctrl : a ≠ FLT_CTRL) (sq : a ≠ FLT_SQ) (lim : a ≠ FLT_TEMP_LIM)
    (taken : writeFields r.fields (s.rd a) v = (w, false)) : s.regWrite m a v r = s.wr a w := by
  rw [State.regWrite, block]
  simp only [State.writeFlt, if_neg ctrl, if_neg sq, if_neg lim, State.plainWrite_ok taken]

/-! ### Reads -/

/-- The answer a read gives is the one its master has had last. -/
theorem State.replyOf_answer_data (s : State) (m : Master) (w : Word) : (s.answer m (.data w)).replyOf m = .data w := by
  have kept : (Reply.data w) ≠ default := by simp [default, instInhabitedReply.default]
  simp only [State.replyOf, State.answer, smAt, smPut, smSet, if_neg kept, smGet_smInsert_same]

theorem State.regRead_low (notHigh : multiHigh a = none) : s.regRead m a r = s.lowRead m a r := by
  rw [State.regRead, notHigh]

/-- A register that is no part of a multi-word value is read alone. -/
theorem State.lowRead_single (other : a ≠ TSE_TXTS_0) (single : multiLow a = none) :
    s.lowRead m a r = (if r.fields.any (fun f => f.access == .rc) then s.wr a (clearedFields r.fields (s.rd a)) else s,
      readFields r.fields (s.liveWord a)) := by
  simp only [State.lowRead, single, other, if_false]

/-- The lowest word of a value latches the others for the master. -/
theorem State.lowRead_multi (other : a ≠ TSE_TXTS_0) (lowest : multiLow a = some n)
    (noRc : r.fields.any (fun f => f.access == .rc) = false) :
    s.lowRead m a r = (s.setShadow m a ((List.range (n - 1)).map fun k => s.liveWord (a + 4 * (k + 1))),
      readFields r.fields (s.liveWord a)) := by
  simp only [State.lowRead, lowest, other, noRc, false_and, Bool.false_eq_true, if_false]

/-- Every multi-word value has a higher word. -/
theorem two_le_of_multiLow (lowest : multiLow a = some n) : 2 ≤ n := by
  obtain ⟨row, found, rfl⟩ := Option.map_eq_some_iff.mp lowest
  have all : ∀ row ∈ multiRows, 2 ≤ row.words := by decide
  exact all row (List.mem_of_find?_eq_some found)

/-- The shadow a master holds is what was latched last. -/
theorem State.shadowOf_setShadow {ws : List Word} (some : ws ≠ []) : (s.setShadow m a ws).shadowOf m a = ws := by
  simp only [State.shadowOf, State.setShadow, smAt, smPut, smSet]
  rw [if_neg (by exact some), smGet_smInsert_same]

/-- Settles O20: the verdict decides a write; a read is split by the place of its word in a multi-word value (R11, R13, R464). -/
theorem registerAccessesComplete : Obligations.RegisterAccessesComplete := by
  unfold Obligations.RegisterAccessesComplete
  refine ⟨?never, ?gated, ?row, ?plain, ?single, ?lowest, ?higher, ?gatedRead⟩
  case never =>
    intro s m a v met
    rw [exec_registerWrite, State.busWrite_never met]
  case gated =>
    intro s m a v met
    rw [exec_registerWrite, State.busWrite_gated met]
  case row =>
    intro s m a v r met
    rw [exec_registerWrite, State.busWrite_row met]
  case plain =>
    intro s m a v w r met block ctrl sq lim taken
    rw [exec_registerWrite, State.busWrite_row met, State.regWrite_flt_plain block ctrl sq lim (by rw [State.answer_rd]; exact taken)]
  case single =>
    intro s m a r wf met plain other notHigh single
    refine ⟨_, rfl, ?_⟩
    rw [State.busRead_row met plain, State.regRead_low notHigh, State.lowRead_single other single]
    refine ⟨State.replyOf_answer_data _ _ _, ?_, fun b hb => ?_, ?_⟩
    · split
      · exact State.rd_wr_same wf _ _
      · rfl
    · dsimp only
      split
      · exact State.rd_wr_ne wf _ hb
      · rfl
    · dsimp only
      split <;> exact ⟨rfl, rfl, rfl, rfl⟩
  case lowest =>
    intro s m a n r met plain other notHigh lowest noRc
    refine ⟨_, rfl, ?_⟩
    rw [State.busRead_row met plain, State.regRead_low notHigh, State.lowRead_multi other lowest noRc]
    refine ⟨State.replyOf_answer_data _ _ _, ?_, rfl, rfl, rfl, rfl⟩
    have words : (List.range (n - 1)).map (fun k => s.liveWord (a + 4 * (k + 1))) ≠ [] := by
      have := two_le_of_multiLow lowest
      simp [List.map_eq_nil_iff, List.range_eq_nil]
      omega
    exact State.shadowOf_setShadow words
  case higher =>
    intro s m a k low r met plain higher
    rw [exec_rcRead, State.busRead_row met plain, State.regRead_high higher]
  case gatedRead =>
    intro s m a met single
    rw [exec_rcRead]
    simp only [State.busRead, met, single, State.readAccess_gated met]
    cases multiHigh a <;> rfl

end Sys2Proof.Machine

/-! Settles O21, the resets (chapter 2): the two edges of RESET_N and the loss of the supplies. What a cut of the NV store's operation
leaves alone is said first; the rest of the state is at reset, and the livery and the straps are loaded into its registers. -/

namespace Sys2Proof.Machine

variable {s : State}

/-! ### A cut spares the livery -/

@[simp] theorem State.tearGroup_livery (s : State) (g : Nat) (new : List Octet) : (s.tearGroup g new).livery = s.livery := by
  simp only [State.tearGroup]
  split
  · rfl
  · split <;> rfl

@[simp] theorem State.tearPage_livery (s : State) (page k : Nat) (bs : List Octet) : (s.tearPage page k bs).livery = s.livery := by
  simp only [State.tearPage]
  split
  · exact State.tearGroup_livery _ _ _
  · rfl

/-- What every step of a fold over a list leaves alone, the fold does. -/
theorem State.foldl_apply {α β : Type} (p : State → α) {f : State → β → State} (h : ∀ t x, p (f t x) = p t) (l : List β) (s : State) :
    p (l.foldl f s) = p s := by
  induction l generalizing s with
  | nil => rfl
  | cons x l ih => rw [List.foldl_cons, ih, h]

@[simp] theorem State.nvCut_livery (s : State) (groups : Nat) : (s.nvCut groups).livery = s.livery := by
  simp only [State.nvCut, State.nvDirty, State.set_livery]
  refine State.foldl_apply State.livery (fun t p => ?_) _ s
  split
  · exact State.tearPage_livery _ _ _ _
  · rfl

@[simp] theorem State.nvCutNow_livery (s : State) : s.nvCutNow.livery = s.livery := by
  unfold State.nvCutNow
  split <;> exact State.nvCut_livery _ _

@[simp] theorem State.nvCut_buffer (s : State) (groups : Nat) : (s.nvCut groups).nvs.buffer = [] := rfl

/-! ### The registers after a release of RESET_N -/

@[simp] theorem State.blank_regsWf (s : State) : s.blank.regsWf = true := reset_regs_wf

/-- A device with an intact livery goes on with the straps latched and the livery's words shown. -/
theorem State.loadLivery_intact (h : s.livery.intact = true) :
    s.loadLivery =
      (((((((((s.wr GLB_LIV_LOT s.livery.lot).wr GLB_LIV_DIE s.livery.die).wr GLB_LIV_REV s.livery.rev).wr GLB_LIV_UID_LO
        s.livery.uidLo).wr GLB_LIV_UID_HI s.livery.uidHi).setB GLB_FUSE_SECURE s.livery.secure).set GLB_FUSE_KEY_SET
        s.livery.keySet.toNat).set GLB_FUSE_KEY_REVOKED s.livery.keyRevoked.toNat).set CPL_NODE_ID
        (getBits s.livery.uidLo 0 16)).set CPL_NODE_STATUS_UPSTREAM_ID (getBits s.livery.uidLo 0 16) := by
  simp [State.loadLivery, State.nodeFromLivery, State.setB, h]

/-- The livery's words lie in registers of their own. -/
theorem State.loadLivery_get (wf : s.regsWf = true) (h : s.livery.intact = true) {f : FieldRef}
    (apart : ∀ g ∈ [GLB_FUSE_SECURE, GLB_FUSE_KEY_SET, GLB_FUSE_KEY_REVOKED, CPL_NODE_ID, CPL_NODE_STATUS_UPSTREAM_ID], f.addr ≠ g.addr)
    (words : ∀ a ∈ [GLB_LIV_LOT, GLB_LIV_DIE, GLB_LIV_REV, GLB_LIV_UID_LO, GLB_LIV_UID_HI], f.addr ≠ a) :
    s.loadLivery.get f = s.get f := by
  rw [State.loadLivery_intact h]
  simp only [List.forall_mem_cons] at apart words
  obtain ⟨secure, set, revoked, node, up, -⟩ := apart
  obtain ⟨lot, die, rev, lo, hi, -⟩ := words
  simp (disch := first | assumption | (repeat first | apply State.set_regsWf | apply State.wr_regsWf); assumption)
    [State.setB, State.get_set_addr, State.get_wr_ne]

theorem State.loadLivery_lot (wf : s.regsWf = true) (h : s.livery.intact = true) : s.loadLivery.rd GLB_LIV_LOT = s.livery.lot := by
  rw [State.loadLivery_intact h]
  simp (disch := first | decide | (repeat first | apply State.set_regsWf | apply State.wr_regsWf); assumption)
    [State.setB, State.rd_set_ne, State.rd_wr_ne, State.rd_wr_same]

@[simp] theorem State.latchStraps_regsWf (wf : s.regsWf = true) (straps : Nat) : (s.latchStraps straps).regsWf = true :=
  State.set_regsWf (State.set_regsWf (State.set_regsWf (State.set_regsWf (by exact wf) _ _) _ _) _ _) _ _

theorem State.latchStraps_imgSel (wf : s.regsWf = true) (straps : Nat) :
    (s.latchStraps straps).get GLB_STRAPS_IMG_SEL = straps / 64 % 2 := by
  simp (disch := first | decide | (repeat apply State.set_regsWf); exact (State.fields_regsWf _).trans wf)
    [State.latchStraps, State.get_set_apart, State.get_set_same]
  rfl

theorem State.latchStraps_bootSrc (wf : s.regsWf = true) (straps : Nat) :
    (s.latchStraps straps).get GLB_STRAPS_BOOT_SRC = straps / 256 % 4 := by
  simp (disch := first | decide | (repeat apply State.set_regsWf); exact (State.fields_regsWf _).trans wf)
    [State.latchStraps, State.get_set_apart, State.get_set_same]
  rfl

theorem State.latchStraps_bootState (wf : s.regsWf = true) (straps : Nat) :
    (s.latchStraps straps).get GLB_BOOT_STATUS_STATE = s.get GLB_BOOT_STATUS_STATE := by
  simp (disch := first | decide | (repeat apply State.set_regsWf); exact (State.fields_regsWf _).trans wf)
    [State.latchStraps, State.get_set_apart]

/-- Settles O21: RESET_N by the length of its low level, its release and a supply's loss by what they keep (R45, R46, R402). -/
theorem resetCommandsComplete : Obligations.ResetCommandsComplete := by
  unfold Obligations.ResetCommandsComplete
  refine ⟨?long, ?short, ?between, ?release, ?supply⟩
  case long =>
    intro s width long
    rw [exec_resetNAssert, State.resetLow_long long]
    exact ⟨_, rfl, rfl, rfl, s.nvCutNow_livery, rfl, rfl, rfl⟩
  case short =>
    intro s width short
    rw [exec_resetNAssert, State.resetLow_short short]
  case between =>
    intro s width low high
    rw [exec_resetNAssert, State.resetLow_between low high]
    rfl
  case release =>
    intro s straps intact
    set u := s.nvCutNow.blank.latchStraps straps with latched
    have livery : u.livery = s.livery := s.nvCutNow_livery
    have wf : u.regsWf = true := State.latchStraps_regsWf s.nvCutNow.blank_regsWf straps
    have whole : u.livery.intact = true := by rw [livery, intact]
    have shown := State.loadLivery_intact whole
    refine ⟨u.loadLivery, rfl, ?_, ?_, ?_, ?_, ?_, ?_, ?_, ?_⟩
    · rw [shown]; rfl
    · rw [shown]; rfl
    · rw [State.loadLivery_get wf whole (by decide) (by decide), latched, State.latchStraps_imgSel s.nvCutNow.blank_regsWf]
    · rw [State.loadLivery_get wf whole (by decide) (by decide), latched, State.latchStraps_bootSrc s.nvCutNow.blank_regsWf]
    · rw [State.loadLivery_get wf whole (by decide) (by decide), latched, State.latchStraps_bootState s.nvCutNow.blank_regsWf]
      exact State.reset_bootState
    · rw [State.loadLivery_lot wf whole, livery]
    · rw [shown]
      simp only [State.set_livery, State.setB, State.wr_livery, livery]
    · rw [shown]; rfl
  case supply =>
    intro s torn
    exact ⟨_, rfl, rfl, rfl, s.nvCut_livery torn, rfl, rfl⟩

end Sys2Proof.Machine

/-! Settles O22, the stage loader (chapter 2). What a change of the loader's state and the beginning of a fetch leave in the registers
is said first; then what each of its commands comes to, by the loader's state and the octets it holds. -/

namespace Sys2Proof.Machine

variable {s : State} {m : Master} {r : RegRow} {v w : Word} {f : FieldRef} {a b st type len c : Nat} {bytes : List Octet}

/-! ### Writes that leave a register listed

A word that differs from its register's Reset value is listed in the register file, and no other register's word changes then, be the
file canonical or not. -/

theorem State.rd_wr_listed (h : w ≠ resetWord a) (b : Nat) : (s.wr a w).rd b = if b = a then w else s.rd b := by
  simp only [State.rd, State.wr, smSet, if_neg h]
  split
  · next e => rw [e, smGet_smInsert_same]
  · next e => exact smGet_smInsert_ne e _ _

/-- A word one of whose fields is not at its Reset value differs from the Reset value. -/
theorem ne_resetWord_of_getBits {lo width : Nat} (h : getBits w lo width ≠ getBits (resetWord a) lo width) : w ≠ resetWord a :=
  fun e => h (by rw [e])

/-- A field of the axle's STATUS register, once STATE is not 0, is written there alone. -/
theorem State.rd_set_listed (h : putBits (s.rd f.addr) f.lo f.width st ≠ resetWord f.addr) (other : b ≠ f.addr) :
    (s.set f st).rd b = s.rd b := by
  rw [State.set, State.rd_wr_listed h, if_neg other]

/-- AX0's lock changes no register outside its own STATUS and EVT. -/
theorem State.ax0Locked_rd (status : b ≠ AXL_STATUS 0) (event : b ≠ AXL_EVT 0) : (s.axleTo 0 3 true).rd b = s.rd b := by
  set u := s.when (s.get (AXL_STATUS_STATE 0) != 3) (·.raise (AXL_EVT_STATE_CHG 0)) with raised
  have event : u.rd b = s.rd b := by
    rw [raised, State.when]
    split
    · refine State.rd_set_listed (ne_resetWord_of_getBits (lo := 0) (width := 1) ?_) event
      rw [AXL_EVT_STATE_CHG, getBits_putBits_same (by decide)]
      decide
    · rfl
  have stateReset : getBits (resetWord (AXL_STATUS 0)) 0 3 = 0 := by decide
  have locked : putBits (u.rd (AXL_STATUS 0)) 0 3 3 ≠ resetWord (AXL_STATUS 0) :=
    ne_resetWord_of_getBits (lo := 0) (width := 3) (by rw [getBits_putBits_same (by decide), stateReset]; decide)
  have word : (u.set (AXL_STATUS_STATE 0) 3).rd (AXL_STATUS 0) = putBits (u.rd (AXL_STATUS 0)) 0 3 3 :=
    (State.rd_wr_listed locked _).trans (if_pos rfl)
  have engaged : putBits ((u.set (AXL_STATUS_STATE 0) 3).rd (AXL_STATUS 0)) 4 1 0 ≠ resetWord (AXL_STATUS 0) := by
    refine ne_resetWord_of_getBits (lo := 0) (width := 3) ?_
    rw [getBits_putBits_ne (by decide) _ (by decide), word, getBits_putBits_same (by decide), stateReset]
    decide
  have modes (t : State) : (t.engage 0 true).regs = (t.set (AXL_STATUS_DLL_MODE 0) 0).regs := rfl
  calc (s.axleTo 0 3 true).rd b
      = ((u.set (AXL_STATUS_STATE 0) 3).set (AXL_STATUS_DLL_MODE 0) 0).rd b := by
        rw [State.axleTo, State.when_neg (by decide), State.setAxleState, ← raised]
        exact State.rd_congr (modes _) b
    _ = (u.set (AXL_STATUS_STATE 0) 3).rd b := State.rd_set_listed engaged status
    _ = u.rd b := State.rd_set_listed locked status
    _ = s.rd b := event

/-! ### The root starts -/

/-- The state in which the root begins to run (R49). -/
def State.rootUp (loading : Option Master) (qspi : Bool) (s : State) : State :=
  State.axleTo 0 3 true { s with boot := { s.boot with root := true, start := s.cyc, loading := loading, qspi := qspi } }

/-- Once AX0 has locked the boot source says who loads the image. -/
theorem State.rootStart_ready (root : s.boot.root = false) (held : s.boot.held = false) (judged : s.on CGU_XO_STATUS_JUDGED = true) :
    s.rootStart =
      let src := s.get GLB_STRAPS_BOOT_SRC
      let u := s.rootUp (if src = 1 then some .spi else if src = 2 then some .pcie else none) (decide (src = 0))
      if src = 0 then u.discoverStart
      else if src = 3 then (if u.on GLB_FUSE_SECURE then u.reject 0x14 else u.stagingEnd true 7)
      else u.fetchStart :=
  if_neg (by simp [root, held, judged])

theorem State.rootUp_secure (loading : Option Master) (qspi : Bool) : (s.rootUp loading qspi).on GLB_FUSE_SECURE = s.on GLB_FUSE_SECURE := by
  unfold State.on State.get State.rootUp
  rw [State.ax0Locked_rd (by decide) (by decide), State.fields_rd]

theorem State.rootStart_running (root : s.boot.root = true) : s.rootStart = s := by
  simp [State.rootStart, root]

/-! ### The loader takes a state -/

/-- FAULT_N aside, a change of the loader's state is one field. -/
theorem State.setBoot_eq (st : Nat) (s : State) : ∃ low, s.setBoot st = (s.set GLB_BOOT_STATUS_STATE st).setB FLT_STATUS_FAULT_N_LOW low :=
  ⟨_, rfl⟩

@[simp] theorem State.setBoot_boot (st : Nat) (s : State) : (s.setBoot st).boot = s.boot := by
  simp only [State.setBoot, State.faultNEval, State.setB, State.set_boot]
@[simp] theorem State.setBoot_nvs (st : Nat) (s : State) : (s.setBoot st).nvs = s.nvs := by
  simp only [State.setBoot, State.faultNEval, State.setB, State.set_nvs]
@[simp] theorem State.setBoot_pending (st : Nat) (s : State) : (s.setBoot st).pending = s.pending := by
  simp only [State.setBoot, State.faultNEval, State.setB, State.set_pending]

theorem State.setBoot_bootState (wf : s.regsWf = true) (code : st < 8) : (s.setBoot st).bootState = st := by
  obtain ⟨low, same⟩ := s.setBoot_eq st
  rw [same, State.bootState, State.setB, State.get_set_addr (State.set_regsWf wf _ _) _ _ _ (by decide),
    State.get_set_same wf _ (by decide)]
  exact Nat.mod_eq_of_lt code

/-- Every field but STATE and FAULT_N stands. -/
theorem State.setBoot_get (wf : s.regsWf = true) (st : Nat)
    (state : f.addr ≠ GLB_BOOT_STATUS ∨ 3 ≤ f.lo) (pin : f.addr ≠ FLT_STATUS) : (s.setBoot st).get f = s.get f := by
  obtain ⟨low, same⟩ := s.setBoot_eq st
  rw [same, State.setB, State.get_set_addr (State.set_regsWf wf _ _) _ _ _ pin,
    State.get_set_apart wf _ _ (by decide) _ (state.imp id .inr)]

/-! ### A fetch begins -/

/-- What the loader holds as a fetch begins: nothing of the image. -/
def BootSt.emptied (b : BootSt) : BootSt :=
  { b with image := [], fifo := [], header := false, pos := 64, segs := 0, entry := 0, waiting := false, privMap := none }

/-- The command to the flash changes no register. -/
theorem State.flashRead_same (s : State) : (s.when s.boot.qspi State.flashRead).regs = s.regs ∧
    (s.when s.boot.qspi State.flashRead).boot = s.boot := by
  cases s.boot.qspi with
  | false => exact ⟨rfl, rfl⟩
  | true =>
    rw [State.when_true, State.flashRead]
    split <;> exact ⟨rfl, rfl⟩

/-- The registers as a fetch begins, before the loader's state changes. -/
def State.fetchShown (s : State) : State :=
  { s.when s.boot.qspi State.flashRead with boot := s.boot.emptied }.set GLB_BOOT_STATUS_FIFO_FREE 256 |>.set GLB_BOOT_STATUS_SIG_OK 0

theorem State.fetchStart_eq (s : State) : s.fetchStart = s.fetchShown.setBoot bootFetch := by
  have boot := s.flashRead_same.2
  simp only [State.fetchStart, State.showFifo, State.fetchShown, BootSt.emptied, boot, List.length_nil]

theorem State.fetchShown_wf (wf : s.regsWf = true) : s.fetchShown.regsWf = true := by
  refine State.set_regsWf (State.set_regsWf ?_ _ _) _ _
  rw [State.fields_regsWf, State.regsWf, s.flashRead_same.1]
  exact wf

@[simp] theorem State.fetchStart_boot (s : State) : s.fetchStart.boot = s.boot.emptied := by
  rw [State.fetchStart_eq, State.setBoot_boot]
  rfl

theorem State.fetchStart_bootState (wf : s.regsWf = true) : s.fetchStart.bootState = bootFetch := by
  rw [State.fetchStart_eq, State.setBoot_bootState (State.fetchShown_wf wf) (by decide)]

theorem State.fetchStart_fifoFree (wf : s.regsWf = true) : s.fetchStart.get GLB_BOOT_STATUS_FIFO_FREE = 256 := by
  have wf0 : (s.when s.boot.qspi State.flashRead).regsWf = true := by rw [State.regsWf, s.flashRead_same.1]; exact wf
  rw [State.fetchStart_eq, State.setBoot_get (State.fetchShown_wf wf) _ (.inr (by decide)) (by decide), State.fetchShown,
    State.get_set_apart (State.set_regsWf (by exact wf0) _ _) _ _ (by decide) _ (by decide),
    State.get_set_same (by exact wf0) _ (by decide)]
  rfl

theorem State.discoverStart_get (wf : s.regsWf = true) (state : f.addr ≠ GLB_BOOT_STATUS ∨ 3 ≤ f.lo) (pin : f.addr ≠ FLT_STATUS) :
    s.discoverStart.get f = s.get f :=
  State.setBoot_get wf bootDiscover state pin

theorem State.discoverStart_bootState (wf : s.regsWf = true) : s.discoverStart.bootState = bootDiscover :=
  State.setBoot_bootState wf (by decide)

@[simp] theorem State.discoverStart_boot (s : State) : s.discoverStart.boot = s.boot := State.setBoot_boot bootDiscover s

theorem State.discovered_discover {sfdp fast : Bool} (discover : s.bootState = bootDiscover) :
    s.discovered sfdp fast = State.fetchStart { s with boot := { s.boot with fast := sfdp && fast } } := by
  simp [State.discovered, discover]

/-! ### The loading interface -/

theorem exec_bootDataWrite_row (met : s.verdict m GLB_BOOT_DATA = .row r) :
    exec (.bootDataWrite m v) s = .next ((s.answer m .ok).bootData m v) :=
  congrArg Host.Outcome.next (State.access_row met)

/-- A word of the loading interface waits in the FIFO while there is room and octets are expected. -/
theorem State.bootData_put (loading : s.boot.loading = some m) (fetch : s.bootState = bootFetch) (host : s.boot.qspi = false)
    (more : s.streamFull = false) (room : s.boot.fifo.length < 256) :
    s.bootData m v = State.showFifo { s with boot := { s.boot with fifo := s.boot.fifo ++ [v] } } := by
  have loads : s.loads m = true := State.loads_of_loading loading (by simp [fetch])
  simp [State.bootData, loads, fetch, host, more, Nat.not_le.mpr room]

theorem State.bootData_stranger (stranger : s.boot.loading ≠ some m) : s.bootData m v = s.refuseWrite m GLB_BOOT_DATA := by
  simp [State.bootData, State.loads, stranger]

/-- The strapped slot is the one to be read, the other has not been tried. -/
theorem State.firstSlot_get (wf : s.regsWf = true) : s.firstSlot.get GLB_STATUS_IMG = s.get GLB_STRAPS_IMG_SEL ∧
    s.firstSlot.get GLB_BOOT_STATUS_FALLBACK = 0 := by
  have bit : s.get GLB_STRAPS_IMG_SEL % 2 ^ 1 = s.get GLB_STRAPS_IMG_SEL := Nat.mod_eq_of_lt (getBits_lt _ _ _)
  simp only [State.firstSlot, State.fields_get]
  constructor
  · rw [State.get_set_addr (State.set_regsWf wf _ _) _ _ _ (by decide), State.get_set_same wf _ (by decide)]
    exact bit
  · exact (State.get_set_same (State.set_regsWf wf _ _) _ (by decide) _).trans rfl

theorem State.firstSlot_wf (wf : s.regsWf = true) : s.firstSlot.regsWf = true := by
  rw [State.firstSlot, State.fields_regsWf]
  exact State.set_regsWf (State.set_regsWf wf _ _) _ _

/-! ### The header and the image -/

theorem State.headerIn_flash (fetch : s.bootState = bootFetch) (first : s.boot.header = false) (flash : s.boot.qspi = true)
    (size : bytes.length = 64) :
    s.headerIn bytes =
      let u : State := { s with boot := { s.boot with image := bytes } }
      if u.headerCode = 0 then { u with boot := { u.boot with header := true } } else u.reject u.headerCode := by
  have whole : bytes.take 64 = bytes := List.take_of_length_le (by omega)
  simp only [State.headerIn, fetch, first, flash, whole, size, ne_eq, not_true_eq_false, Bool.false_eq_true, or_self, if_false,
    if_true, Nat.lt_irrefl]

/-- A field of the header does not see the octets that follow it. -/
theorem slice_append_left {bs cs : List Octet} {k n : Nat} (h : k + n ≤ bs.length) : slice (bs ++ cs) k n = slice bs k n := by
  rw [slice, slice, List.drop_append_of_le_length (by omega), List.take_append_of_le_length (by rw [List.length_drop]; omega)]

theorem State.expected_append (header : 64 ≤ s.boot.image.length) :
    State.expected { s with boot := { s.boot with image := s.boot.image ++ bytes } } = s.expected := by
  have field {off n : Nat} (h : off + n ≤ 64) : slice (s.boot.image ++ bytes) off n = slice s.boot.image off n :=
    slice_append_left (by omega)
  simp only [State.expected, State.imgLen, State.signed, State.hdr, State.on, State.fields_get, field (show 8 + 4 ≤ 64 by decide),
    field (show 22 + 1 ≤ 64 by decide)]
  rfl

theorem State.imageIn_flash (fetch : s.bootState = bootFetch) (header : s.boot.header = true) (flash : s.boot.qspi = true)
    (whole : s.expected ≤ (s.boot.image ++ bytes).length) :
    s.imageIn bytes = State.setBoot bootVerify { s with boot := { s.boot with image := (s.boot.image ++ bytes).take s.expected } } := by
  simp only [State.imageIn, fetch, header, flash, whole.not_gt, ne_eq, not_true_eq_false, Bool.not_true, Bool.false_eq_true, or_self,
    if_false, if_true]

/-! ### Verification -/

theorem State.verified_good (verify : s.bootState = bootVerify) (good : s.imageCode = 0) :
    s.verified = (s.setB GLB_BOOT_STATUS_SIG_OK (s.on GLB_FUSE_SECURE)).setBoot bootApply := by
  simp [State.verified, verify, good]

theorem State.verified_bad (verify : s.bootState = bootVerify) (bad : s.imageCode ≠ 0) : s.verified = s.reject s.imageCode := by
  simp [State.verified, verify, bad]

/-! ### Segments -/

/-- A segment whose header fits and whose type octet stands alone in its first word goes by its type. -/
theorem State.segment_typed (apply : s.bootState = bootApply) (more : s.boot.segs < s.segCount)
    (fits : s.boot.pos + 8 + len ≤ s.imgLen) (words : len % 4 = 0) (small : type < 256)
    (first : fromLE (slice s.boot.image s.boot.pos 4) = type) (second : fromLE (slice s.boot.image (s.boot.pos + 4) 4) = len) :
    s.segment =
      if 0x80 ≤ type then s.nextSegment len
      else if type = 0 ∨ 6 < type then s.applyReject 0x0C
      else if len = 0 then s.nextSegment 0
      else if type = 6 ∧ len ≠ 4 then s.applyReject 0x0D
      else s.applyPayload type 0 len := by
  have left : ¬ (s.bootState ≠ bootApply ∨ (s.boot.pos = s.imgLen ∧ s.boot.segs = s.segCount)) := by
    rintro (h | ⟨-, h⟩)
    · exact h apply
    · omega
  have header : ¬ (s.segCount ≤ s.boot.segs ∨ s.imgLen < s.boot.pos + 8) := by omega
  have payload : ¬ (len % 4 ≠ 0 ∨ s.imgLen < s.boot.pos + 8 + len) := by omega
  have low : type % 256 = type := Nat.mod_eq_of_lt small
  have reserved : type / 256 % 256 = 0 := by omega
  have target : type / 65536 = 0 := by omega
  simp only [State.segment, if_neg left, if_neg header, first, second, if_neg payload, low, reserved, target, ne_eq, not_true_eq_false,
    if_false, false_and]

/-! ### The end of APPLY -/

theorem State.applied_end (apply : s.bootState = bootApply) (moving : s.boot.waiting = false) (last : s.boot.pos = s.imgLen) :
    s.applied = if s.boot.segs = s.segCount then
      (s.wr GLB_BOOT_IMGVER (BitVec.ofNat 32 (s.hdr 0x10 4))).stagingEnd false (s.boot.privMap.getD 0)
      else s.applyReject 0x0D := by
  simp [State.applied, apply, moving, last]

/-- Settles O22: the loader's state and the octets it holds decide each of its commands (R49 to R65, R520, R521). -/
theorem loaderCommandsComplete : Obligations.LoaderCommandsComplete := by
  unfold Obligations.LoaderCommandsComplete
  refine ⟨?flash, ?spi, ?workshop, ?running, ?discover, ?put, ?stranger, ?headerGood, ?headerBad, ?image, ?haltedHost, ?haltedFlash,
    ?verified, ?unverified, ?optional, ?ramLoad, ?unknown, ?timeout, ?noTimeout, ?done, ?miscounted⟩
  case flash =>
    intro s root held judged src
    have start := State.rootStart_ready root held judged
    simp only [src] at start
    exact congrArg Host.Outcome.next start
  case spi =>
    intro s root held judged src
    have start := State.rootStart_ready root held judged
    simp only [src] at start
    exact congrArg Host.Outcome.next start
  case workshop =>
    intro s root held judged src unsecured
    have start := State.rootStart_ready root held judged
    simp only [src, State.rootUp_secure, unsecured, Bool.false_eq_true, if_false, if_true, OfNat.ofNat_ne_zero, decide_false,
      Nat.succ_ne_self, Nat.reduceEqDiff] at start
    exact congrArg Host.Outcome.next start
  case running =>
    intro s root
    exact congrArg Host.Outcome.next (State.rootStart_running root)
  case discover =>
    intro s sfdp fast wf discover
    have wf0 : ({ s with boot := { s.boot with fast := sfdp && fast } } : State).regsWf = true := by rw [State.fields_regsWf, wf]
    refine ⟨_, congrArg Host.Outcome.next (State.discovered_discover discover), State.fetchStart_bootState wf0, ?_⟩
    rw [State.fetchStart_boot, State.fetchStart_fifoFree wf0]
    exact ⟨rfl, rfl, rfl, rfl, rfl, rfl⟩
  case put =>
    intro s m v r wf met loading fetch host more room
    have put := State.bootData_put (s := s.answer m .ok) (v := v) loading fetch host more room
    refine ⟨_, (exec_bootDataWrite_row met).trans (congrArg _ put), rfl, ?_, ?_⟩
    · rw [State.showFifo, State.get_set_same (by exact wf) _ (by decide)]
      simp only [List.length_append, List.length_singleton, State.answer_boot, GLB_BOOT_STATUS_FIFO_FREE]
      omega
    · rw [State.bootState, State.showFifo, State.get_set_apart (by exact wf) _ _ (by decide) _ (by decide)]
      exact fetch
  case stranger =>
    intro s m v r met stranger
    exact (exec_bootDataWrite_row met).trans (congrArg _ (State.bootData_stranger (s := s.answer m .ok) stranger))
  case headerGood =>
    intro s bytes fetch first flash size good
    exact congrArg Host.Outcome.next ((State.headerIn_flash fetch first flash size).trans (if_pos good))
  case headerBad =>
    rintro s bytes _ fetch first flash size rfl bad
    exact congrArg Host.Outcome.next ((State.headerIn_flash fetch first flash size).trans (if_neg bad))
  case image =>
    intro s bytes wf fetch header flash headed whole
    rw [State.expected_append headed] at whole ⊢
    refine ⟨_, congrArg Host.Outcome.next (State.imageIn_flash fetch header flash whole), State.setBoot_bootState wf (by decide), ?_⟩
    rw [State.setBoot_boot bootVerify]
  case haltedHost =>
    intro s m v r wf met loading restart halted host
    have start := (State.bootCtrl_halted (s := s.answer m .ok) loading restart halted).trans (if_neg host)
    refine ⟨_, (exec_restart_row met).trans (congrArg _ start), State.fetchStart_bootState (by exact wf), ?_⟩
    rw [State.fetchStart_boot]
    exact ⟨rfl, rfl, rfl⟩
  case haltedFlash =>
    intro s m v r wf met loading restart halted flash
    have start := (State.bootCtrl_halted (s := s.answer m .ok) loading restart halted).trans (if_pos flash)
    have wf1 : (s.answer m .ok).firstSlot.regsWf = true := State.firstSlot_wf (by exact wf)
    obtain ⟨img, fallback⟩ := State.firstSlot_get (s := s.answer m .ok) wf
    refine ⟨_, (exec_restart_row met).trans (congrArg _ start), State.discoverStart_bootState wf1, ?_, ?_, ?_⟩
    · exact (State.discoverStart_get wf1 (.inl (by decide)) (by decide)).trans img
    · exact (State.discoverStart_get wf1 (.inr (by decide)) (by decide)).trans fallback
    · rw [State.discoverStart_boot]
      rfl
  case verified =>
    intro s wf verify good
    have wf1 : (s.setB GLB_BOOT_STATUS_SIG_OK (s.on GLB_FUSE_SECURE)).regsWf = true := State.set_regsWf wf _ _
    refine ⟨_, congrArg Host.Outcome.next (State.verified_good verify good), State.setBoot_bootState wf1 (by decide), ?_, ?_,
      ?_, ?_⟩
    · rw [State.setBoot_boot, State.setB, State.set_boot]
    · rw [State.setBoot_get wf1 _ (.inr (by decide)) (by decide), State.get_setB_same wf rfl (by decide)]
      by_cases off : s.get GLB_FUSE_SECURE = 0
      · simp [State.on, off]
      · simp [State.on, State.get_one_bit (f := GLB_FUSE_SECURE) rfl off]
    · rw [State.setBoot_nvs, State.setB, State.set_nvs]
    · rw [State.setBoot_pending, State.setB, State.set_pending]
  case unverified =>
    rintro s _ verify rfl bad
    exact congrArg Host.Outcome.next (State.verified_bad verify bad)
  case optional =>
    intro s type len apply more fits words first second optional small
    exact congrArg Host.Outcome.next ((State.segment_typed apply more fits words small first second).trans (if_pos optional))
  case ramLoad =>
    intro s len apply more fits words some first second
    have typed := State.segment_typed apply more fits words (by decide) first second
    exact congrArg Host.Outcome.next (typed.trans (by simp [some]))
  case unknown =>
    intro s len apply more fits words first second
    have typed := State.segment_typed apply more fits words (by decide) first second
    exact congrArg Host.Outcome.next (typed.trans (by simp))
  case timeout =>
    intro s apply waiting
    exact congrArg Host.Outcome.next (if_pos ⟨apply, waiting⟩)
  case noTimeout =>
    intro s moving
    exact congrArg Host.Outcome.next (if_neg (by simp [moving]))
  case done =>
    intro s apply moving last count
    exact congrArg Host.Outcome.next ((State.applied_end apply moving last).trans (if_pos count))
  case miscounted =>
    intro s apply moving last count
    exact congrArg Host.Outcome.next ((State.applied_end apply moving last).trans (if_neg count))

end Sys2Proof.Machine

/-! Rules the commands below share: a command that acts for units in range alone, and one that comes in over the register bus. -/

namespace Sys2Proof.Machine

variable {s : State} {m : Master} {r : RegRow} {a : Nat} {g : State → State} {eff : RegRow → State → State} {p q : Prop}

/-- A change made for what is in range is made. -/
theorem State.when_decide [Decidable p] (inRange : p) : s.when (decide p) g = g s := State.when_pos (decide_eq_true inRange)

/-- Awake, a change made for what is in range is made. -/
theorem State.when_awake [Decidable p] (inRange : p) (awake : s.asleep = false) : s.when (decide p && !s.asleep) g = g s :=
  State.when_pos (by simp [inRange, awake])

/-- A write that meets its register does what the register does with it, and is answered. -/
theorem State.when_access [Decidable p] (inRange : p) (at_ : s.verdict m a = .row r) :
    s.when (decide p) (State.access m a eff) = eff r (s.answer m .ok) := by
  rw [State.when_decide inRange, State.access_row at_]

/-- A change that nothing in range would make either leaves the state. -/
theorem State.when_same {b : Bool} (idle : g s = s) : s.when b g = s := State.when_apply (fun t => t) idle

@[simp] theorem State.wr_axle (a : Nat) (w : Word) (n : Nat) : (s.wr a w).axle n = s.axle n := (rfl)
@[simp] theorem State.set_loop (f : FieldRef) (v l : Nat) : (s.set f v).loop l = s.loop l := (rfl)
@[simp] theorem State.wr_asleep (a : Nat) (w : Word) : (s.wr a w).asleep = s.asleep := by rw [State.asleep, State.wr_pwr, State.asleep]
@[simp] theorem State.set_asleep (f : FieldRef) (v : Nat) : (s.set f v).asleep = s.asleep := by
  rw [State.asleep, State.set_pwr, State.asleep]

end Sys2Proof.Machine

/-! Settles O23, references (chapter 4): the writes of REFM_CFG by what they find in ENABLE, a tapped edge by what its home gauge makes
of it, and the ticks and waits. -/

namespace Sys2Proof.Machine

variable {s : State} {m : Master} {r : RegRow} {v w : Word} {n t width : Nat} {e : Edge}

/-- What happens to references is compared with the state it began in alone. -/
theorem State.thenSelect_congr {g h : State → State} (same : g s = h s) : s.thenSelect g = s.thenSelect h := by
  rw [State.thenSelect, State.thenSelect, same]

/-! ### Writes of REFM_CFG -/

/-- The word of a write of REFM_CFG: the electrical fields are kept for a lane, and ENABLE is kept. -/
def State.refWord (s : State) (n : Nat) (v : Word) : Word :=
  keepField s (REFM_CFG_ENABLE n) (if 16 ≤ n then keepFields s (refGuarded n) v else v)

theorem State.refCfgWrite_unavailable (gone : s.refUnavailable n = true) (enable : v.getLsbD 0 = true) :
    s.refCfgWrite m n v r = s.refuseWrite m (REFM_CFG n) := by
  simp [State.refCfgWrite, gone, enable]

theorem State.refCfgWrite_taken (available : v.getLsbD 0 = true → s.refUnavailable n = false) :
    s.refCfgWrite m n v r = s.thenSelect (State.refCfgTaken m n v r) := by
  have : (v.getLsbD 0 && s.refUnavailable n) = false := by
    cases enable : v.getLsbD 0
    · rfl
    · exact available enable
  simp only [State.refCfgWrite, this, Bool.false_eq_true, if_false]

theorem State.refCfgTaken_enable (was : s.on (REFM_CFG_ENABLE n) = false) (enable : v.getLsbD 0 = true)
    (word : writeFields r.fields (s.rd (REFM_CFG n)) (s.refWord n v) = (w, false)) (legal : (s.wr (REFM_CFG n) w).refCfgOk n = true) :
    s.refCfgTaken m n v r = (s.wr (REFM_CFG n) w).refStart n := by
  have plain := State.plainWrite_ok (m := m) word
  rw [State.refWord] at plain
  simp [State.refCfgTaken, was, enable, State.when, plain, legal]

theorem State.refCfgTaken_disable (was : s.on (REFM_CFG_ENABLE n) = true) (disable : v.getLsbD 0 = false)
    (word : writeFields r.fields (s.rd (REFM_CFG n)) (s.refWord n v) = (w, false)) :
    s.refCfgTaken m n v r = ((s.wr (REFM_CFG n) w).set (REFM_CFG_ENABLE n) 0).refStop n := by
  have plain := State.plainWrite_ok (m := m) word
  rw [State.refWord] at plain
  simp only [State.refCfgTaken, was, disable, Bool.false_and, Bool.and_false, State.when_false, Bool.false_eq_true,
    if_false, plain, Bool.not_false, Bool.and_true, if_true]

theorem State.refCfgTaken_override (was : s.on (REFM_CFG_ENABLE n) = true) (enable : v.getLsbD 0 = true)
    (fixed : ((refGuarded n).any fun f => changes s f (if 16 ≤ n then keepFields s (refGuarded n) v else v)) = false)
    (word : writeFields r.fields (s.rd (REFM_CFG n)) (s.refWord n v) = (w, false)) :
    let u := s.wr (REFM_CFG n) w
    s.refCfgTaken m n v r =
      State.refEval n (if u.get (REFM_CFG_OVERRIDE n) ≠ s.get (REFM_CFG_OVERRIDE n) then u.overrideChange n else u) := by
  have plain := State.plainWrite_ok (m := m) word
  rw [State.refWord] at plain
  simp only [State.refCfgTaken, was, enable, fixed, Bool.and_false, State.when, Bool.false_eq_true, if_false, plain, Bool.not_true,
    Bool.false_and, decide_eq_true_eq]

/-! ### Edges -/

theorem State.tappedEdge_unseen (unseen : s.asleep = true ∨ s.signal n = false) : s.tappedEdge n e width = s := by
  rw [State.tappedEdge, if_pos (by simpa using unseen)]

theorem State.tappedEdge_seen (awake : s.asleep = false) (signal : s.signal n = true) : s.tappedEdge n e width =
    (s.tapSignal n e).when (e.falling == (s.tapSignal n e).on (REFM_CFG_EDGE n)) (State.thenSelect (State.refEdge n e.time width)) := by
  rw [State.tappedEdge, if_neg (by simp [awake, signal])]

theorem State.refEdge_untimed (h : s.homeReady n = false) : s.refEdge n t width = s := by simp [State.refEdge, h]

/-- An edge that no gauge times changes no reference, and so no selector. -/
theorem State.thenSelect_refEdge_untimed (h : s.homeReady n = false) : s.thenSelect (State.refEdge n t width) = s := by
  simp [State.thenSelect, State.refEdge_untimed h, State.when]

theorem State.refEdge_disabled (home : s.homeReady n = true) (disabled : s.get (REFM_STATE_STATE n) = 0) :
    s.refEdge n t width = if s.homeTook n t = true then s.sampleOut n t false else s := by
  simp [State.refEdge, home, disabled, State.when]

theorem State.refEdge_enabled (home : s.homeReady n = true) (enabled : s.get (REFM_STATE_STATE n) ≠ 0) :
    s.refEdge n t width =
      (let late := match (s.ref n).seen with | some t0 => decide (s.actSpan n < ((t - t0 : Nat) : Rat)) | none => false
       let y := if late = true ∧ (s.ref n).since.isSome = true then (s.actLost n).edgesStop n true else s
       if y.badPulse n width = true then y.badEdge n t (s.homeTook n t) else y.goodEdge n t (s.homeTook n t)) := by
  simp only [State.refEdge, home, enabled, Bool.not_true, Bool.false_eq_true, if_false, State.when, Bool.and_eq_true] <;> rfl

/-! ### Activity, ticks and waits -/

theorem State.activityLost_awake {fast : Bool} (awake : s.asleep = false) (watched : fast = true → s.on (REFM_CFG_FAST n) = true) :
    s.activityLost n fast = s.thenSelect fun t => (if t.get (REFM_STATE_STATE n) ≠ 0 then t.actLost n else t).edgesStop n true := by
  rw [State.activityLost, if_neg (by simpa [awake] using watched)]
  simp [State.when]

theorem State.tick100_awake (awake : s.asleep = false) : s.tick100 t =
    (s.each (List.range 64) fun n u => u.refTick100 t n).each [0, 1, 2, 3] fun l u => u.setSel l { u.sel l with compare := true } := by
  simp [State.tick100, awake]

theorem State.tick1_awake (awake : s.asleep = false) :
    s.tick1 t = s.thenSelect fun u => u.each (List.range 64) fun n w => w.refTick1 t n := by
  simp [State.tick1, awake]

theorem State.waitEnd_good (awake : s.asleep = false) (waiting : s.get (REFM_STATE_STATE n) = 2)
    (auto : s.get (REFM_CFG_OVERRIDE n) = 0) (short : s.on (REFM_STATE_SHORT_VALID n) = true)
    (xo : s.on GLB_STATUS_XO_INT = false) (done : s.waitTicks n < (s.ref n).waited) :
    s.waitEnd n = s.thenSelect fun t => t.setRefState n 3 := by
  simp [State.waitEnd, awake, waiting, auto, short, xo, done, State.when]

/-! ### The commands -/

theorem exec_refEnableWrite_row (inRange : n < 64) (at_ : s.verdict m (REFM_CFG n) = .row r) :
    exec (.refEnableWrite m n v) s = .next ((s.answer m .ok).refCfgWrite m n v r) := by
  refine congrArg Host.Outcome.next ?_
  rw [State.when_pos (by simpa using inRange), State.access_row at_]

theorem exec_refEnableWrite_taken (inRange : n < 64) (at_ : s.verdict m (REFM_CFG n) = .row r)
    (available : v.getLsbD 0 = true → s.refUnavailable n = false) :
    exec (.refEnableWrite m n v) s = .next ((s.answer m .ok).thenSelect (State.refCfgTaken m n v r)) := by
  rw [exec_refEnableWrite_row inRange at_]
  exact congrArg Host.Outcome.next (State.refCfgWrite_taken available)

theorem exec_overrideWrite_taken (inRange : n < 64) (at_ : s.verdict m (REFM_CFG n) = .row r)
    (available : v.getLsbD 0 = true → s.refUnavailable n = false) :
    exec (.overrideWrite m n v) s = .next ((s.answer m .ok).thenSelect (State.refCfgTaken m n v r)) :=
  exec_refEnableWrite_taken inRange at_ available

theorem exec_tappedEdge (inRange : n < 64) : exec (.tappedEdge n e width) s = .next (s.tappedEdge n e width) :=
  congrArg Host.Outcome.next (State.when_pos (by simpa using inRange))

/-- Settles O23: what enabling a reference, its overrides, edges, loss of activity, ticks and waits come to (R91, R93, R94, R98 to R101,
R103, R104, R107, R108). -/
theorem referenceCommandsComplete : Obligations.ReferenceCommandsComplete := by
  unfold Obligations.ReferenceCommandsComplete
  refine ⟨?enable, ?unavailable, ?disable, ?override, ?unseen, ?untimed, ?disabledEdge, ?enabledEdge, ?activityLoss, ?tick100ms, ?tick1s,
    ?asleep, ?waitEnd⟩
  case enable =>
    intro s m n v w r inRange at_ available was enable x word legal
    rw [exec_refEnableWrite_taken inRange at_ fun _ => available]
    exact congrArg Host.Outcome.next (State.thenSelect_congr (State.refCfgTaken_enable was enable word legal))
  case unavailable =>
    intro s m n v r inRange at_ gone enable
    rw [exec_refEnableWrite_row inRange at_]
    exact congrArg Host.Outcome.next (State.refCfgWrite_unavailable (s := s.answer m .ok) gone enable)
  case disable =>
    intro s m n v w r inRange at_ was disable x word
    rw [exec_refEnableWrite_taken inRange at_ fun enable => absurd (disable.symm.trans enable) (by decide)]
    exact congrArg Host.Outcome.next (State.thenSelect_congr (State.refCfgTaken_disable was disable word))
  case override =>
    intro s m n v w r inRange at_ available was enable x fixed word
    rw [exec_overrideWrite_taken inRange at_ fun _ => available]
    exact congrArg Host.Outcome.next (State.thenSelect_congr (State.refCfgTaken_override was enable fixed word))
  case unseen =>
    intro s n e width inRange unseen
    rw [exec_tappedEdge inRange, State.tappedEdge_unseen unseen]
  case untimed =>
    intro s n e width inRange awake signal untimed
    rw [exec_tappedEdge inRange, State.tappedEdge_seen awake signal]
    rcases untimed with inactive | unready
    · rw [State.when_neg (by simpa using inactive)]
    · rw [State.when, State.thenSelect_refEdge_untimed unready, ite_self]
  case disabledEdge =>
    intro s n e width inRange awake signal active u home disabled
    rw [exec_tappedEdge inRange, State.tappedEdge_seen awake signal, State.when_pos (by simpa using active)]
    exact congrArg Host.Outcome.next (State.thenSelect_congr (State.refEdge_disabled home disabled))
  case enabledEdge =>
    intro s n e width inRange awake signal active u home enabled
    rw [exec_tappedEdge inRange, State.tappedEdge_seen awake signal, State.when_pos (by simpa using active)]
    exact congrArg Host.Outcome.next (State.thenSelect_congr (State.refEdge_enabled home enabled))
  case activityLoss =>
    intro s n fast inRange awake watched
    exact congrArg Host.Outcome.next ((State.when_pos (by simpa using inRange)).trans (State.activityLost_awake awake watched))
  case tick100ms => exact fun s t awake => congrArg Host.Outcome.next (State.tick100_awake awake)
  case tick1s => exact fun s t awake => congrArg Host.Outcome.next (State.tick1_awake awake)
  case asleep =>
    exact fun s t asleep => ⟨congrArg Host.Outcome.next (if_pos asleep), congrArg Host.Outcome.next (if_pos asleep)⟩
  case waitEnd =>
    intro s n inRange awake waiting auto short xo done
    exact congrArg Host.Outcome.next ((State.when_pos (by simpa using inRange)).trans
      (State.waitEnd_good awake waiting auto short xo done))

end Sys2Proof.Machine

/-! Settles O24, the time of day from a receiver (chapter 4): a sentence by what it says, the line sent each second, and a pulse that
nothing names. -/

namespace Sys2Proof.Machine

variable {s : State} {bytes : List Octet} {t x o k day sec p label d : Nat} {tp : Int} {pulse : Nat × Int × Int} {b : Bool}

/-- A count that stops at its largest value fits its field. -/
theorem satInc_mod (w n : Nat) : satInc w n % 2 ^ w = satInc w n := by
  refine Nat.mod_eq_of_lt ?_
  have := Nat.two_pow_pos w
  unfold satInc
  split <;> omega

theorem State.get_count_same (wf : s.regsWf = true) {f : FieldRef} (fits : f.lo + f.width ≤ 32) :
    (s.count f).get f = satInc f.width (s.get f) := by
  rw [State.count, State.get_set_same wf f fits, satInc_mod]

/-! ### Sentences -/

theorem State.todReceive_bad (on : s.on REFM_TOD_CFG_RX_EN = true) (vigil : s.pwr.state ≠ .vigil) (dormant : s.pwr.state ≠ .dormant)
    (said : readSentence bytes = .bad) : s.todReceive bytes t = s.count REFM_TOD_STATUS_BAD_SENTENCES := by
  rw [State.todReceive, if_neg (by simp [on, vigil, dormant]), said]

theorem State.todReceive_qztl (on : s.on REFM_TOD_CFG_RX_EN = true) (vigil : s.pwr.state ≠ .vigil) (dormant : s.pwr.state ≠ .dormant)
    (said : readSentence bytes = .qztl x o) :
    s.todReceive bytes t = ((s.set REFM_TOD_STATUS_LAST_KIND 3).set REFM_TOD_STATUS_LAST_OFS o).todNamed x t := by
  rw [State.todReceive, if_neg (by simp [on, vigil, dormant]), said]

/-- A sentence of any second but the first of a day changes no offset. -/
theorem State.todReceive_utc (on : s.on REFM_TOD_CFG_RX_EN = true) (vigil : s.pwr.state ≠ .vigil) (dormant : s.pwr.state ≠ .dormant)
    (said : readSentence bytes = .utc k day sec) (running : sec ≠ 0) :
    let u := s.set REFM_TOD_STATUS_LAST_KIND k
    s.todReceive bytes t = u.todNamed (day * 86400 + sec + u.get REFM_TOD_CFG_UTC_OFS) t := by
  rw [State.todReceive, if_neg (by simp [on, vigil, dormant]), said]
  simp only [running, ne_eq, not_false_eq_true, true_or, if_true]

theorem State.todReceive_other (other : readSentence bytes = .other) : s.todReceive bytes t = s := by
  rw [State.todReceive, other, ite_self]

/-- With ALIGN a second named by a sentence waits for the pulse that it names. -/
theorem State.todNamed_align (align : s.on REFM_TOD_CFG_ALIGN = true) :
    s.todNamed label t = { s with tod := { s.tod with labels := s.tod.labels ++ [(label, t)] } } := by
  rw [State.todNamed, if_pos align]

/-- What a field of TOD_STATUS takes leaves TOD_CFG as it was. -/
theorem State.todCfg_set_status (wf : s.regsWf = true) {f g : FieldRef} (status : f.addr = REFM_TOD_STATUS) (cfg : g.addr = REFM_TOD_CFG)
    (v : Nat) : (s.set f v).get g = s.get g :=
  State.get_set_addr wf f g v (by rw [status, cfg]; decide)

theorem State.todCfg_on_set_status (wf : s.regsWf = true) {f g : FieldRef} (status : f.addr = REFM_TOD_STATUS)
    (cfg : g.addr = REFM_TOD_CFG) (v : Nat) : (s.set f v).on g = s.on g := by
  rw [State.on, State.todCfg_set_status wf status cfg, State.on]

/-! ### The line sent each second -/

theorem State.todSend_on (on : s.on REFM_TOD_CFG_TX_EN = true) (vigil : s.pwr.state ≠ .vigil) (dormant : s.pwr.state ≠ .dormant) :
    s.todSend = s.emit .todLine 0 [] (timeLine (s.domTime 0 / secUnit)
      (s.get GLB_STATUS_MODE == 2 || s.get GLB_STATUS_MODE == 3) (s.get REFM_TOD_CFG_UTC_OFS)) := by
  rw [State.todSend, if_neg (by simp [on, vigil, dormant])]

theorem State.todSend_off (off : s.on REFM_TOD_CFG_TX_EN = false) : s.todSend = s := by
  rw [State.todSend, if_pos (by simp [off])]

/-! ### Pulses that nothing names -/

theorem State.todUnnamed_align (align : s.on REFM_TOD_CFG_ALIGN = true) : s.todUnnamed = s := by
  unfold State.todUnnamed
  split
  · rw [align, Bool.or_true, if_pos rfl]
  · rfl

theorem State.todCorrect_off (off : s.on (TIM_CFG_TOD_EN d) = false) : s.todCorrect label d tp = s := by
  simp [State.todCorrect, off]

/-- The label's registers, written with the label, leave every other register. -/
theorem State.rd_setWide_todSec (wf : s.regsWf = true) {a : Nat} (lo : a ≠ REFM_TOD_SEC_LO) (hi : a ≠ REFM_TOD_SEC_HI) (v : Int) :
    (s.setWide REFM_TOD_SEC_LO REFM_TOD_SEC_HI 16 v).rd a = s.rd a := by
  rw [State.setWide, State.rd_wr_ne (State.wr_regsWf wf _ _) _ hi, State.rd_wr_ne wf _ lo]

/-- With no domain that follows the time of day, a label given while LOCK reads 1 moves nothing else. -/
theorem State.todLabel_idle (wf : s.regsWf = true) (a : s.on (TIM_CFG_TOD_EN 0) = false) (b : s.on (TIM_CFG_TOD_EN 1) = false) :
    s.todLabel label pulse = { s.setWide REFM_TOD_SEC_LO REFM_TOD_SEC_HI 16 (label : Nat) with tod := { s.tod with prev := some label } } := by
  set u : State := { s.setWide REFM_TOD_SEC_LO REFM_TOD_SEC_HI 16 (label : Nat) with tod := { s.tod with prev := some label } } with labelled
  have reads {f : FieldRef} (lo : f.addr ≠ REFM_TOD_SEC_LO) (hi : f.addr ≠ REFM_TOD_SEC_HI) : u.on f = s.on f :=
    congrArg (fun w => getBits w f.lo f.width != 0) (State.rd_setWide_todSec wf lo hi label)
  have a : u.on (TIM_CFG_TOD_EN 0) = false := (reads (by decide) (by decide)).trans a
  have b : u.on (TIM_CFG_TOD_EN 1) = false := (reads (by decide) (by decide)).trans b
  have corrected : (u.todCorrect label 0 pulse.2.1).todCorrect label 1 pulse.2.2 = u := by
    rw [State.todCorrect_off a, State.todCorrect_off b]
  rw [State.todLabel]
  exact (if_congr Iff.rfl corrected rfl).trans (ite_self _)

/-- A bad pulse leaves no label and no pulse, and counts as one without a pair. -/
theorem State.todPulse_bad (align : s.on REFM_TOD_CFG_ALIGN = true) :
    ∃ pulse u, s.todPulse t true = State.todMiss pulse u ∧ u.regs = s.regs ∧ u.tod.prev = s.tod.prev ∧ u.tod.miss = s.tod.miss := by
  rw [State.todPulse, State.todUnnamed_align align]
  exact ⟨_, _, rfl, rfl, rfl, rfl⟩

/-- The state of the time of day with one more pulse that nothing named. -/
def State.todMissed (s : State) : State := { s with tod := { s.tod with good := 0, miss := s.tod.miss + 1, taken := true } }

@[simp] theorem State.todMissed_rd (a : Nat) : s.todMissed.rd a = s.rd a := (rfl)
@[simp] theorem State.todMissed_on (f : FieldRef) : s.todMissed.on f = s.on f := (rfl)
@[simp] theorem State.todMissed_regsWf : s.todMissed.regsWf = s.regsWf := (rfl)
@[simp] theorem State.todMissed_prev : s.todMissed.tod.prev = s.tod.prev := (rfl)

theorem State.todMiss_once (lock : s.on REFM_TOD_STATUS_LOCK = true) (first : s.tod.miss = 0) :
    s.todMiss pulse = s.todMissed.todLabel (s.tod.prev.getD 0 + 1) pulse := by
  have once : ¬ 2 ≤ s.tod.miss + 1 := by omega
  rw [State.todMiss, if_neg (by simpa [State.on] using lock)]
  exact if_neg once

theorem State.todMiss_twice (lock : s.on REFM_TOD_STATUS_LOCK = true) (again : 1 ≤ s.tod.miss) :
    s.todMiss pulse = s.todMissed.todUnlock := by
  have twice : 2 ≤ s.tod.miss + 1 := by omega
  rw [State.todMiss, if_neg (by simpa [State.on] using lock)]
  exact if_pos twice

/-- The first pulse without a pair keeps LOCK and is one second after the last label. -/
theorem State.todMiss_first (wf : s.regsWf = true) (lock : s.on REFM_TOD_STATUS_LOCK = true) (prev : s.tod.prev = some p)
    (first : s.tod.miss = 0) (a : s.on (TIM_CFG_TOD_EN 0) = false) (b : s.on (TIM_CFG_TOD_EN 1) = false) :
    (s.todMiss pulse).tod.prev = some (p + 1) ∧ (s.todMiss pulse).on REFM_TOD_STATUS_LOCK = true := by
  rw [State.todMiss_once lock first, prev, State.todLabel_idle (by simpa using wf) (by simpa using a) (by simpa using b)]
  refine ⟨rfl, ?_⟩
  rw [State.on, State.fields_get, State.get, State.rd_setWide_todSec (by simpa using wf) (by decide) (by decide), State.todMissed_rd]
  exact lock

theorem State.todUnlock_get (f : FieldRef) : s.todUnlock.get f = (s.set REFM_TOD_STATUS_LOCK 0).get f := rfl
theorem State.todUnlock_prev : s.todUnlock.tod.prev = s.tod.prev := rfl

theorem State.todUnlock_off (wf : s.regsWf = true) : s.todUnlock.on REFM_TOD_STATUS_LOCK = false := by
  rw [State.on_eq_false, State.todUnlock_get, State.get_set_same wf REFM_TOD_STATUS_LOCK (by decide), Nat.zero_mod]

/-- A second pulse in a row without a pair clears LOCK. -/
theorem State.todMiss_unlocks (wf : s.regsWf = true) (lock : s.on REFM_TOD_STATUS_LOCK = true) (again : 1 ≤ s.tod.miss) :
    (s.todMiss pulse).on REFM_TOD_STATUS_LOCK = false := by
  rw [State.todMiss_twice lock again]
  exact State.todUnlock_off (by simpa using wf)

/-- A second pulse in a row without a pair takes no label. -/
theorem State.todMiss_unlabelled (lock : s.on REFM_TOD_STATUS_LOCK = true) (prev : s.tod.prev = some p) (again : 1 ≤ s.tod.miss) :
    (s.todMiss pulse).tod.prev = some p := by
  rw [State.todMiss_twice lock again, State.todUnlock_prev, State.todMissed_prev, prev]

/-- Settles O24: sentences, the line sent each second, and pulses without a pair (R108, R113 to R117). -/
theorem timeOfDayCommandsComplete : Obligations.TimeOfDayCommandsComplete := by
  unfold Obligations.TimeOfDayCommandsComplete
  refine ⟨?bad, ?other, ?qztl, ?utc, ?line, ?noLine, ?pulse⟩
  case bad =>
    intro s bytes t on vigil dormant said wf
    refine ⟨_, congrArg Host.Outcome.next (State.todReceive_bad on vigil dormant said), ?_⟩
    exact ⟨State.get_count_same wf (by decide), State.set_tod .., State.set_tim .., fun a other => State.rd_set_ne wf _ _ other⟩
  case other => exact fun s bytes t other => congrArg Host.Outcome.next (State.todReceive_other other)
  case qztl =>
    intro s bytes t x o wf on vigil dormant said align
    refine ⟨_, congrArg Host.Outcome.next (State.todReceive_qztl on vigil dormant said), ?_⟩
    have wf3 := State.set_regsWf wf REFM_TOD_STATUS_LAST_KIND 3
    rw [State.todNamed_align (by rw [State.todCfg_on_set_status wf3 rfl rfl, State.todCfg_on_set_status wf rfl rfl, align])]
    refine ⟨?_, by simp only [State.set_tod]⟩
    rw [State.fields_get, State.get_set_apart wf3 _ _ (by decide) _ (by decide), State.get_set_same wf _ (by decide)]
    rfl
  case utc =>
    intro s bytes t k day sec wf on vigil dormant said running align
    refine ⟨_, congrArg Host.Outcome.next (State.todReceive_utc on vigil dormant said running), ?_⟩
    rw [State.todNamed_align (by rw [State.todCfg_on_set_status wf rfl rfl, align]), State.todCfg_set_status wf rfl rfl]
    refine ⟨by simp only [State.set_tod], fun a other => ?_⟩
    rw [State.fields_rd]
    exact State.rd_set_ne wf _ _ other
  case line => exact fun s on vigil dormant => congrArg Host.Outcome.next (State.todSend_on on vigil dormant)
  case noLine => exact fun s off => congrArg Host.Outcome.next (State.todSend_off off)
  case pulse =>
    intro s t p wf lock align prev a b
    obtain ⟨pulse, u, unpaired, regs, label, missed⟩ := State.todPulse_bad (t := t) align
    have reads (f : FieldRef) : u.on f = s.on f := by rw [State.on, State.get_congr regs, State.on]
    have wf : u.regsWf = true := by rw [State.regsWf, regs]; exact wf
    rw [unpaired, ← missed]
    rw [← label] at prev
    rw [← reads] at lock a b
    exact ⟨fun first => State.todMiss_first wf lock prev first a b, fun again =>
      ⟨State.todMiss_unlocks wf lock again, State.todMiss_unlabelled lock prev again⟩⟩

end Sys2Proof.Machine

/-! Refutes O25. Its clause on ALIGN_HI_WRITE reads B from the selector's entry before the alignment offset is stored in it, and the
device reads it afterwards. The two agree when the store of selectors is canonical, or the entry stored is not the reset entry; the
statement asks neither. Storing the reset entry of a selector that is listed twice takes away its first entry and lays its second open,
with another B. -/

namespace Sys2Proof.Machine

/-- A running device that lists selector 0 twice: an offset alone, then a build-out. -/
def selectorListedTwice : State :=
  { State.reset with
    boot := { State.reset.boot with root := true }
    sels := [(0, { (default : SelSt) with o := 5 }), (0, { (default : SelSt) with b := 1 })] }

/-- The store of selectors of the state that a command answers. -/
def selsAfter : Host.Outcome State Fault Refusal → SMap SelSt
  | .next t => t.sels
  | _ => []

/-- Refutes O25: with selector 0 listed twice, a write of 0 to SEL_ALIGN_HI of selector 0 stores its reset entry, and B becomes that of
the entry behind it, not the B that the selector had (R137). -/
theorem not_selectorCommandsComplete : ¬ Obligations.SelectorCommandsComplete := by
  unfold Obligations.SelectorCommandsComplete
  rintro ⟨-, -, -, -, -, align, -, -⟩
  have same := align selectorListedTwice .coachA 0 0 0 ((regRow (SEL_ALIGN_HI 0)).getD default) (by decide) (by decide +kernel)
    (by decide +kernel)
  exact absurd (congrArg selsAfter same) (by decide +kernel)

end Sys2Proof.Machine

/-! Settles O26: the choice of a selector in AUTO, and the winner of a comparison (chapter 5). The first place held by candidates is a
least one in the order of R119, and what stands as a group's winner is one of the group's members. -/

namespace Sys2Proof.Machine

variable {s : State} {l i j n : Nat} {k : Nat × Nat} {ev ns : List Nat}

/-! ### The first place -/

theorem State.bestKey_eq_none : s.bestKey l ns = none ↔ ns = [] := by
  cases ns with
  | nil => simp [State.bestKey]
  | cons n ns => simp only [State.bestKey]; split <;> simp

/-- The first place is held by one of the references, and none of them comes before it. -/
theorem State.bestKey_first (best : s.bestKey l ns = some k) :
    (∃ n ∈ ns, s.groupKey l n = k) ∧ ∀ n ∈ ns, keyBefore (s.groupKey l n) k = false := by
  induction ns generalizing k with
  | nil => simp [State.bestKey] at best
  | cons n ns ih =>
    simp only [State.bestKey] at best
    split at best
    case h_1 alone =>
      obtain rfl := State.bestKey_eq_none.mp alone
      obtain rfl := Option.some.inj best
      simp [keyBefore]
    case h_2 k' rest =>
      obtain ⟨⟨n', mem, holds⟩, least⟩ := ih rest
      obtain rfl := Option.some.inj best
      cases before : keyBefore (s.groupKey l n) k' with
      | true =>
        refine ⟨⟨n, by simp, by simp⟩, fun x among => ?_⟩
        rcases List.mem_cons.mp among with rfl | among
        · simp [keyBefore]
        · have later := least x among
          simp only [keyBefore, decide_eq_false_iff_not, decide_eq_true_eq, if_true] at before later ⊢
          omega
      | false =>
        refine ⟨⟨n', by simp [mem], by simpa using holds⟩, fun x among => ?_⟩
        rcases List.mem_cons.mp among with rfl | among
        · simpa using before
        · simpa using least x among

/-! ### The winner of a group -/

/-- What is kept of the decision of a group is made of its members. -/
theorem State.kept_members {w : List Nat} {basis : Nat} (kept : s.kept l k = some (w, basis)) (mem : n ∈ w) : n ∈ s.members l k := by
  unfold State.kept at kept
  split at kept
  case h_1 g _ =>
    dsimp only at kept
    split at kept
    · simp at kept
    · obtain ⟨rfl, -⟩ := Prod.mk.inj (Option.some.inj kept)
      simpa using (List.mem_filter.mp mem).2
  case h_2 => simp at kept

/-- What stands of the decision of a group is made of its members. -/
theorem State.standing_members (mem : n ∈ (s.standing l k).1) : n ∈ s.members l k := by
  unfold State.standing at mem
  cases kept : s.kept l k with
  | some x =>
    rw [kept] at mem
    exact State.kept_members kept mem
  | none =>
    rw [kept, Option.getD_none] at mem
    split at mem
    · simp at mem
    · exact (List.mem_filter.mp mem).1

/-- The winner of a group is a member of it. -/
theorem State.winner_member (wins : s.winner l k = some n) : n ∈ s.members l k := by
  simp only [State.winner] at wins
  split_ifs at wins with empty active
  · exact List.mem_of_head? wins
  · rw [wins] at active
    exact State.standing_members (by simpa using active)
  · split at wins
    case h_1 found =>
      obtain rfl := Option.some.inj wins
      exact State.standing_members (List.mem_of_find?_eq_some found)
    case h_2 => exact State.standing_members (List.mem_of_head? wins)

/-- A group with a member has a winner. -/
theorem State.winner_isSome (mem : n ∈ s.members l k) : (s.winner l k).isSome = true := by
  simp only [State.winner]
  split_ifs with empty active
  · exact List.isSome_head?.mpr (List.ne_nil_of_mem mem)
  · obtain ⟨a, eq, _⟩ := Option.map_eq_some_iff.mp active
    rw [eq]
    rfl
  · split
    · rfl
    · exact List.isSome_head?.mpr (by simpa using empty)

/-! ### The choice -/

/-- In AUTO mode with REVERT the choice is the winner of the group in the first place. -/
theorem State.choice_revert (auto : s.get (SEL_CTRL_MODE l) = 0) (revert : s.on (SEL_CTRL_REVERT l) = true) :
    s.choice l = (s.bestKey l (s.candidates l)).bind fun k => (s.winner l k).map fun n => (n, (s.standing l k).2) := by
  simp only [State.choice, auto, revert, Bool.not_true, Bool.false_and, Bool.false_eq_true, if_false]
  cases s.bestKey l (s.candidates l) with
  | none => rfl
  | some k => cases (s.sel l).active <;> rfl

theorem State.mem_members : n ∈ s.members l k ↔ n ∈ s.candidates l ∧ s.groupKey l n = k := by simp [State.members]
theorem State.mem_candidates : n ∈ s.candidates l ↔ n < 64 ∧ s.candidate l n = true := by simp [State.candidates]

theorem State.choice_isSome (auto : s.get (SEL_CTRL_MODE l) = 0) (revert : s.on (SEL_CTRL_REVERT l) = true) :
    (s.choice l).isSome = true ↔ s.candidates l ≠ [] := by
  rw [State.choice_revert auto revert]
  cases best : s.bestKey l (s.candidates l) with
  | none => simp [State.bestKey_eq_none.mp best]
  | some k =>
    obtain ⟨⟨n, candidate, holds⟩, -⟩ := State.bestKey_first best
    simpa [List.ne_nil_of_mem candidate] using State.winner_isSome (State.mem_members.mpr ⟨candidate, holds⟩)

/-- The choice is a candidate in the first place. -/
theorem State.choice_first {basis : Nat} (auto : s.get (SEL_CTRL_MODE l) = 0) (revert : s.on (SEL_CTRL_REVERT l) = true)
    (chosen : s.choice l = some (n, basis)) :
    s.candidate l n = true ∧ n < 64 ∧ ∀ k ∈ s.candidates l, keyBefore (s.groupKey l k) (s.groupKey l n) = false := by
  rw [State.choice_revert auto revert, Option.bind_eq_some_iff] at chosen
  obtain ⟨k, best, won⟩ := chosen
  obtain ⟨n', wins, eq⟩ := Option.map_eq_some_iff.mp won
  obtain rfl : n' = n := congrArg Prod.fst eq
  obtain ⟨candidate, rfl⟩ := State.mem_members.mp (State.winner_member wins)
  obtain ⟨inRange, candidate⟩ := State.mem_candidates.mp candidate
  exact ⟨candidate, inRange, (State.bestKey_first best).2⟩

/-! ### The comparison -/

theorem foldl_max_length_le {α : Type} {M : Nat} {cs : List (List α)} (all : ∀ c ∈ cs, c.length ≤ M) (n : Nat) (start : n ≤ M) :
    cs.foldl (fun n c => max n c.length) n ≤ M := by
  induction cs generalizing n with
  | nil => exact start
  | cons c cs ih => exact ih (fun x among => all x (by simp [among])) _ (max_le start (all c (by simp)))

theorem le_foldl_max_length {α : Type} {M : Nat} {cs : List (List α)} (n : Nat) (some_ : M ≤ n ∨ ∃ c ∈ cs, M ≤ c.length) :
    M ≤ cs.foldl (fun n c => max n c.length) n := by
  induction cs generalizing n with
  | nil => simpa using some_
  | cons c cs ih =>
    refine ih _ ?_
    rcases some_ with above | ⟨x, among, above⟩
    · exact .inl (above.trans (le_max_left ..))
    · rcases List.mem_cons.mp among with rfl | among
      · exact .inl (above.trans (le_max_right ..))
      · exact .inr ⟨x, among, above⟩

/-- A list of one value, said once or more, names one value. -/
theorem eraseDups_of_all_eq {α : Type} [BEq α] [LawfulBEq α] {c : α} {cs : List α} (mem : c ∈ cs) (same : ∀ x ∈ cs, x = c) :
    cs.eraseDups = [c] := by
  cases cs with
  | nil => simp at mem
  | cons x cs =>
    have rest : (cs.filter fun y => !y == x) = [] := by
      rw [List.filter_eq_nil_iff]
      intro y among
      simp [same x (by simp), same y (by simp [among])]
    rw [List.eraseDups_cons, rest, same x (by simp), List.eraseDups_nil]

/-- A comparison with one largest set of agreeing references is decided by it. -/
theorem State.decideGroup_largest (mem : i ∈ ev)
    (largest : ∀ j ∈ ev, s.agreeSet l ev j ≠ s.agreeSet l ev i → (s.agreeSet l ev j).length < (s.agreeSet l ev i).length) :
    s.decideGroup l ev = (s.agreeSet l ev i, 2) := by
  set best := (ev.map (s.agreeSet l ev)).foldl (fun n c => max n c.length) 0 with most
  have among : s.agreeSet l ev i ∈ ev.map (s.agreeSet l ev) := List.mem_map_of_mem mem
  have length : best = (s.agreeSet l ev i).length := by
    refine le_antisymm (foldl_max_length_le (fun c set_ => ?_) 0 (Nat.zero_le _)) (le_foldl_max_length 0 (.inr ⟨_, among, le_rfl⟩))
    obtain ⟨j, evaluated, rfl⟩ := List.mem_map.mp set_
    by_cases same : s.agreeSet l ev j = s.agreeSet l ev i
    · rw [same]
    · exact (largest j evaluated same).le
  have top : ((ev.map (s.agreeSet l ev)).filter fun c => c.length == best).eraseDups = [s.agreeSet l ev i] := by
    refine eraseDups_of_all_eq (List.mem_filter.mpr ⟨among, by simp [length]⟩) fun c kept => ?_
    obtain ⟨set_, long⟩ := List.mem_filter.mp kept
    obtain ⟨j, evaluated, rfl⟩ := List.mem_map.mp set_
    by_contra other
    have shorter := largest j evaluated other
    rw [beq_iff_eq, length] at long
    omega
  rw [State.decideGroup, ← most, top]

/-- The members of a set of agreeing references agree with the one it is the set of. -/
theorem State.agreeSet_agree (mem : j ∈ s.agreeSet l ev i) :
    j ∈ ev ∧ ratAbs ((s.ref i).ys - (s.ref j).ys) ≤ (s.get (SEL_AGREE_WINDOW l) : Rat) / 10 := by
  simpa [State.agreeSet] using mem

/-- Settles O26: the choice in AUTO mode with REVERT is a candidate in the first place (R118, R119, R126), and the one largest set of
agreeing references wins (R123). -/
theorem winnerIsBest : Obligations.WinnerIsBest := by
  unfold Obligations.WinnerIsBest
  refine ⟨?choice, ?comparison⟩
  case choice =>
    exact fun s l auto revert => ⟨State.choice_isSome auto revert, fun n basis chosen => State.choice_first auto revert chosen⟩
  case comparison =>
    exact fun s l ev i mem largest => ⟨State.decideGroup_largest mem largest, fun j agrees => State.agreeSet_agree agrees⟩

end Sys2Proof.Machine

/-! Settles O27, loops (chapter 6): an update by the loop's state and what it has taken, the loss of its source, a write of DPL_CFG that
enables it, and the lead loop. -/

namespace Sys2Proof.Machine

variable {s : State} {m : Master} {r : RegRow} {v w : Word} {l : Nat} {x : Rat} {xs : List Rat}

/-! ### The update -/

theorem State.loopUpdate_off (off : s.loopState l = 0) : s.loopUpdate l = s := by
  rw [State.loopUpdate, if_pos (.inl off)]

theorem State.loopUpdate_stepping (on : s.loopState l ≠ 0) (awake : s.asleep = false) (steps : s.on (DPL_STATUS_STEPPING l) = true) :
    s.loopUpdate l = s.setLoop l { s.loop l with samples := [] } := by
  simp [State.loopUpdate, on, awake, steps]

theorem State.loopUpdate_without (on : s.loopState l ≠ 0) (awake : s.asleep = false) (steps : s.on (DPL_STATUS_STEPPING l) = false)
    (none_ : (s.loop l).samples = []) :
    let u := (s.gainEval l).flywheel l
    s.loopUpdate l = u.setLoop l { u.loop l with samples := [] } := by
  simp [State.loopUpdate, on, awake, steps, none_]

/-- The phase error of an update. -/
def State.phaseError (s : State) (l : Nat) : Rat :=
  fine (ratMean (s.loop l).samples + ((s.loop l).ramp.r : Rat) / (65536 * rampUnit : Int) + ((s.gainEval l).rampAcc l : Rat) / 65536)

/-- A loop that has taken samples reports the phase error and has used them up. -/
def State.phaseReported (l : Nat) (e : Rat) (s : State) : State :=
  let g := s.gainEval l
  let u := (g.setLoop l { g.loop l with samples := [] }).setWide (DPL_PHERR_LO l) (DPL_PHERR_HI l) 16 (roundAway (e * 65536))
  u.setLoop l { u.loop l with e := e }

section
variable (on : s.loopState l ≠ 0) (awake : s.asleep = false) (steps : s.on (DPL_STATUS_STEPPING l) = false)
  (taken : (s.loop l).samples = x :: xs) (held : (s.gainEval l).inputHeld l = false)
include on awake steps taken held

theorem State.loopUpdate_reports (still : s.loopState l = 3 ∨ s.loopState l = 4) :
    s.loopUpdate l = s.phaseReported l (s.phaseError l) := by
  have runs : ¬ (s.loopState l = 0 ∨ s.asleep = true) := by simp [on, awake]
  have whole : ¬ s.on (DPL_STATUS_STEPPING l) = true := by simp [steps]
  have filled : ¬ ((s.loop l).samples.isEmpty = true ∨ (s.gainEval l).inputHeld l = true) := by simp [taken, held]
  simp only [State.loopUpdate, if_neg runs, if_neg whole, if_neg filled, if_pos still, State.phaseReported, State.phaseError]

theorem State.loopUpdate_filters (runs : s.loopState l = 1 ∨ s.loopState l = 2) (fresh : (s.loop l).fresh = false) :
    s.loopUpdate l =
      (let u := (s.phaseReported l (s.phaseError l)).set (DPL_STATUS_FLYWHEEL l) 0
       let u := u.setLoop l { u.loop l with fresh := false }
       ((u.filter l (s.phaseError l)).learnUpdate l).lockEval l (s.phaseError l)) := by
  have awake : ¬ (s.loopState l = 0 ∨ s.asleep = true) := by simp [on, awake]
  have whole : ¬ s.on (DPL_STATUS_STEPPING l) = true := by simp [steps]
  have filled : ¬ ((s.loop l).samples.isEmpty = true ∨ (s.gainEval l).inputHeld l = true) := by simp [taken, held]
  have moves : ¬ (s.loopState l = 3 ∨ s.loopState l = 4) := by omega
  simp only [State.loopUpdate, if_neg awake, if_neg whole, if_neg filled, if_neg moves, fresh, Bool.false_and, Bool.false_eq_true, if_false,
    State.phaseReported, State.phaseError, State.set_loop]

end

/-! ### Steps, and the loss of the source -/

theorem State.loopStepDone_whole (done : (s.loop l).stepping = 0) : s.loopStepDone l = s.set (DPL_STATUS_STEPPING l) 0 :=
  State.when_pos (by simp [done])

theorem State.loopStepDone_part (left : (s.loop l).stepping ≠ 0) : s.loopStepDone l = s := State.when_neg (by simp [left])

theorem State.sourceLost_silent (awake : s.asleep = false) (held : s.inputHeld l = false) (none_ : (s.loop l).samples = []) :
    s.sourceLost l = s.loseSource l := by
  simp [State.sourceLost, awake, held, none_]

theorem State.loseSource_runs (runs : s.loopState l = 1 ∨ s.loopState l = 2) :
    let u := s.set (DPL_EVT_LOSS l) 1
    s.loseSource l = if (u.offered l && (u.loop l).wasLocked) = true then u.enterHoldover l else u.setLoopState l 4 := by
  rw [State.loseSource, if_pos runs]
  rfl

theorem State.loseSource_still (acquire : s.loopState l ≠ 1) (locked : s.loopState l ≠ 2) : s.loseSource l = s := by
  rw [State.loseSource, if_neg (by simp [acquire, locked])]

/-! ### Registers -/

/-- What DPL_CFG takes of a written word for the axles that the loop may name. -/
def axlesNamed (l : Nat) (v : Word) : Word := putBits v 16 3 (axleBits l (fieldOf (DPL_CFG_AXLE l) v))

theorem State.loopCfgWrite_lead (was : s.on (DPL_CFG_ENABLE l) = true) (disable : v.getLsbD 0 = false) (lead : s.get GLB_STATUS_LEAD = l) :
    s.loopCfgWrite m l v r = s.refuseWrite m (DPL_CFG l) := by
  rw [State.loopCfgWrite, if_pos (by simp only [was, disable, lead, Bool.not_false, Bool.and_self, beq_self_eq_true])]

/-- A write of DPL_CFG that moves the source forgets the sample heard last. -/
def State.sourceMoved (l : Nat) (v : Word) (s : State) : State :=
  if (changes s (DPL_CFG_SRC l) v || changes s (DPL_CFG_SRC_ID l) v) = true then s.setLoop l { s.loop l with heard := none } else s

theorem State.sourceMoved_rd (a : Nat) : (s.sourceMoved l v).rd a = s.rd a := by
  unfold State.sourceMoved
  split <;> rfl

theorem State.sourceMoved_keepField (f : FieldRef) : keepField (s.sourceMoved l v) f w = keepField s f w := by
  simp only [keepField, State.get, State.sourceMoved_rd]

theorem State.loopCfgWrite_enable (was : s.on (DPL_CFG_ENABLE l) = false) (enable : v.getLsbD 0 = true)
    (word : writeFields r.fields (s.rd (DPL_CFG l)) (keepField s (DPL_CFG_ENABLE l) (axlesNamed l v)) = (w, false)) :
    let x := axlesNamed l v
    let u := (s.sourceMoved l x).wr (DPL_CFG l) w
    fieldOf (DPL_CFG_SRC l) x ≤ 4 → srcOk (u.get (DPL_CFG_SRC l)) (u.get (DPL_CFG_SRC_ID l)) = true →
    u.axleTaken l (u.get (DPL_CFG_AXLE l)) = false →
    let u := u.set (DPL_CFG_ENABLE l) 1
    let u := if u.loopSrc l = 3 then u.feedStart l else u
    s.loopCfgWrite m l v r = if u.get GLB_STATUS_MODE ≠ 0 ∧ u.asleep = false then u.loopStart l else u := by
  intro x u named legal free u' u''
  have plain : (s.sourceMoved l x).plainWrite m (DPL_CFG l) (keepField (s.sourceMoved l x) (DPL_CFG_ENABLE l) x) r = u :=
    State.plainWrite_ok (by rw [State.sourceMoved_rd, State.sourceMoved_keepField]; exact word)
  have taken : (decide (fieldOf (DPL_CFG_SRC l) x ≤ 4) && srcOk (u.get (DPL_CFG_SRC l)) (u.get (DPL_CFG_SRC_ID l)) &&
      !u.axleTaken l (u.get (DPL_CFG_AXLE l))) = true := by simp [named, legal, free]
  rw [State.loopCfgWrite, was, Bool.false_and, Bool.false_and, if_neg Bool.false_ne_true]
  simp only [State.loopCfgTaken, was, enable, Bool.false_and, Bool.false_eq_true, if_false, State.when, Bool.not_false, Bool.and_true,
    if_true]
  simp only [State.sourceMoved, axlesNamed, x] at plain
  simp only [plain]
  simp only [axlesNamed, x] at taken
  rw [if_pos taken]
  simp only [beq_iff_eq, Bool.and_eq_true, bne_iff_ne, Bool.not_eq_true', u', u'']

theorem State.leadWrite_enabled (on : s.on (DPL_CFG_ENABLE (fieldOf DPL_LEAD_LEAD v)) = true)
    (word : writeFields r.fields (s.rd DPL_LEAD) v = (w, false)) :
    s.leadWrite m v r = ((s.wr DPL_LEAD w).set GLB_STATUS_LEAD (fieldOf DPL_LEAD_LEAD v)).modeFollow := by
  simp [State.leadWrite, on, State.plainWrite_ok word]

theorem State.leadWrite_disabled (off : s.on (DPL_CFG_ENABLE (fieldOf DPL_LEAD_LEAD v)) = false) :
    s.leadWrite m v r = s.refuseWrite m DPL_LEAD := by
  simp [State.leadWrite, off]

/-- Settles O27: a loop's update, step, loss of its source, enabling and the lead loop (R142, R143, R153 to R158, R162). -/
theorem loopCommandsComplete : Obligations.LoopCommandsComplete := by
  unfold Obligations.LoopCommandsComplete
  refine ⟨?off, ?stepping, ?without, ?filters, ?reports, ?stepWhole, ?stepPart, ?lossRuns, ?lossStill, ?enable, ?keepLead, ?lead, ?noLead⟩
  case off => exact fun s l inRange off => congrArg Host.Outcome.next (State.when_same (State.loopUpdate_off off))
  case stepping =>
    exact fun s l inRange on awake steps =>
      congrArg Host.Outcome.next ((State.when_decide inRange).trans (State.loopUpdate_stepping on awake steps))
  case without =>
    exact fun s l inRange on awake steps none_ =>
      congrArg Host.Outcome.next ((State.when_decide inRange).trans (State.loopUpdate_without on awake steps none_))
  case filters =>
    intro s l x xs inRange runs awake steps taken held fresh g e u u' u''
    have error : s.phaseError l = e := by rw [State.phaseError, taken]
    have update := State.loopUpdate_filters (by omega) awake steps taken held runs fresh
    rw [error] at update
    exact congrArg Host.Outcome.next ((State.when_decide inRange).trans update)
  case reports =>
    intro s l x xs inRange still awake steps taken held g e u
    have error : s.phaseError l = e := by rw [State.phaseError, taken]
    have update := State.loopUpdate_reports (by omega) awake steps taken held still
    rw [error] at update
    exact congrArg Host.Outcome.next ((State.when_decide inRange).trans update)
  case stepWhole =>
    exact fun s l inRange done => congrArg Host.Outcome.next ((State.when_decide inRange).trans (State.loopStepDone_whole done))
  case stepPart => exact fun s l inRange left => congrArg Host.Outcome.next (State.when_same (State.loopStepDone_part left))
  case lossRuns =>
    intro s l inRange awake held none_ runs
    exact congrArg Host.Outcome.next ((State.when_decide inRange).trans
      ((State.sourceLost_silent awake held none_).trans (State.loseSource_runs runs)))
  case lossStill =>
    intro s l inRange awake held none_ acquire locked
    exact congrArg Host.Outcome.next ((State.when_decide inRange).trans
      ((State.sourceLost_silent awake held none_).trans (State.loseSource_still acquire locked)))
  case enable =>
    intro s m l v w r inRange at_ was enable word x moved u named legal free
    exact congrArg Host.Outcome.next ((State.when_access inRange at_).trans
      (State.loopCfgWrite_enable (s := s.answer m .ok) was enable word named legal free))
  case keepLead =>
    intro s m l v r inRange at_ was disable lead
    exact congrArg Host.Outcome.next ((State.when_access inRange at_).trans
      (State.loopCfgWrite_lead (s := s.answer m .ok) was disable lead))
  case lead =>
    intro s m v w r at_ on word
    exact congrArg Host.Outcome.next ((State.access_row at_).trans (State.leadWrite_enabled (s := s.answer m .ok) on word))
  case noLead =>
    intro s m v r at_ off
    exact congrArg Host.Outcome.next ((State.access_row at_).trans (State.leadWrite_disabled (s := s.answer m .ok) off))

end Sys2Proof.Machine

/-! Settles O28, forcing a loop and its ramps (chapter 6): a write of DPL_CTRL by the FORCE it names, the start and the abort of a ramp,
and the end of one by its kind. -/

namespace Sys2Proof.Machine

variable {s : State} {m : Master} {r : RegRow} {v w : Word} {l : Nat}

/-! ### Forcing -/

section
variable (word : writeFields r.fields (s.rd (DPL_CTRL l)) v = (w, false)) (awake : s.asleep = false)
include word awake

theorem State.forceWrite_freerun (force : fieldOf (DPL_CTRL_FORCE l) v = 2) (on : (s.wr (DPL_CTRL l) w).loopState l ≠ 0) :
    s.forceWrite m l v r = (s.wr (DPL_CTRL l) w).setLoopState l 4 := by
  simp only [State.forceWrite, State.plainWrite_ok word, State.wr_asleep, awake, force, State.forceLoop, on, Bool.false_eq_true, or_self,
    if_false, if_true, ne_eq, OfNat.ofNat_ne_zero, not_false_eq_true, Nat.reduceEqDiff, OfNat.ofNat_ne_one]

theorem State.forceWrite_holdover (force : fieldOf (DPL_CTRL_FORCE l) v = 1) (on : (s.wr (DPL_CTRL l) w).loopState l ≠ 0) :
    let u := s.wr (DPL_CTRL l) w
    s.forceWrite m l v r =
      if u.offered l = false then u.setLoopState l 4 else if u.loopState l = 3 then u else u.enterHoldover l := by
  simp only [State.forceWrite, State.plainWrite_ok word, State.wr_asleep, awake, force, State.forceLoop, on, if_false, if_true, or_false, Bool.false_eq_true,
    Nat.reduceEqDiff, ne_eq, one_ne_zero, not_false_eq_true]
  cases (s.wr (DPL_CTRL l) w).offered l with
  | false => simp only [Bool.false_eq_true, if_false, if_true]
  | true => simp only [Bool.true_eq_false, if_false, if_true]

theorem State.forceWrite_released (force : fieldOf (DPL_CTRL_FORCE l) v = 0) (other : (s.wr (DPL_CTRL l) w).loopSrc l ≠ 0) :
    let u := s.wr (DPL_CTRL l) w
    s.forceWrite m l v r =
      if u.sourceGives l = true ∧ (u.loopState l = 3 ∨ u.loopState l = 4) then u.acquire l (u.loopState l == 4) else u := by
  simp [State.forceWrite, State.plainWrite_ok word, State.wr_asleep, awake, force, other, State.when]

end

/-! ### Ramps -/

/-- A write of DPL_RAMP_CTRL leaves its two commands as zero. -/
def State.rampCtrlTaken (l : Nat) (w : Word) (s : State) : State :=
  ((s.wr (DPL_RAMP_CTRL l) w).set (DPL_RAMP_CTRL_START l) 0).set (DPL_RAMP_CTRL_ABORT l) 0

theorem State.rampWrite_start (word : writeFields r.fields (s.rd (DPL_RAMP_CTRL l)) v = (w, false)) (start : v.getLsbD 0 = true)
    (noAbort : v.getLsbD 1 = false) : s.rampWrite m l v r = (s.rampCtrlTaken l w).rampBegin m l := by
  simp only [State.rampWrite, State.plainWrite_ok word, start, noAbort, State.when_false, State.when_true, State.rampCtrlTaken]

theorem State.rampWrite_abort (word : writeFields r.fields (s.rd (DPL_RAMP_CTRL l)) v = (w, false)) (noStart : v.getLsbD 0 = false)
    (abort : v.getLsbD 1 = true) : s.rampWrite m l v r = (s.rampCtrlTaken l w).rampStop l := by
  simp only [State.rampWrite, State.plainWrite_ok word, noStart, abort, State.when_false, State.when_true, State.rampCtrlTaken]

theorem State.rampBegin_phase (free : (s.loop l).ramp.busy = false) (phase : s.on (DPL_RAMP_CTRL_KIND l) = false)
    (moves : s.rd (DPL_RAMP_RATE l) ≠ 0) (far : s.getWideI (DPL_RAMP_VAL_LO l) (DPL_RAMP_VAL_HI l) 16 ≠ 0) :
    s.rampBegin m l = ((s.setLoop l { s.loop l with
      ramp := ⟨true, false, s.getWideI (DPL_RAMP_VAL_LO l) (DPL_RAMP_VAL_HI l) 16, (s.rd (DPL_RAMP_RATE l)).toNat, 0⟩ }).set
        (DPL_STATUS_RAMP_BUSY l) 1).learnBreak l := by
  have rate : ((s.rd (DPL_RAMP_RATE l)).toNat == 0) = false := by simpa [BitVec.toNat_eq] using moves
  have goal : (s.getWideI (DPL_RAMP_VAL_LO l) (DPL_RAMP_VAL_HI l) 16 == 0) = false := by simpa using far
  simp only [State.rampBegin, free, phase, rate, goal, Bool.false_and, Bool.and_false, Bool.or_false, Bool.false_eq_true, if_false]

theorem State.rampReached_phase (busy : (s.loop l).ramp.busy = true) (phase : (s.loop l).ramp.freq = false) :
    s.rampReached l = (s.rampEnd l (s.loop l).ramp.goal).set (DPL_EVT_RAMP_DONE l) 1 := by
  simp only [State.rampReached, busy, phase, State.rampFinish, State.raise, Bool.not_true, Bool.false_eq_true, if_false]

theorem State.rampReached_frequency (busy : (s.loop l).ramp.busy = true) (freq : (s.loop l).ramp.freq = true) :
    s.rampReached l = (s.setBase l (fine (s.yNom + (s.loop l).yt))).rampFinish l := by
  simp only [State.rampReached, busy, freq, Bool.not_true, Bool.false_eq_true, if_false, if_true]

theorem State.rampReached_idle (idle : (s.loop l).ramp.busy = false) : s.rampReached l = s := by
  simp only [State.rampReached, idle, Bool.not_false, if_true]

/-- Settles O28: forcing a loop, and the start, the abort and the end of its ramps (R156, R157, R159 to R161). -/
theorem forceAndRampCommandsComplete : Obligations.ForceAndRampCommandsComplete := by
  unfold Obligations.ForceAndRampCommandsComplete
  refine ⟨?force, ?start, ?abort, ?phaseDone, ?frequencyDone, ?idle⟩
  case force =>
    intro s m l v w r inRange at_ word awake u
    have reached := State.when_access (eff := State.forceWrite m l v) inRange at_
    exact ⟨fun force on => congrArg Host.Outcome.next
        (reached.trans (State.forceWrite_freerun (s := s.answer m .ok) word awake force on)),
      fun force on => congrArg Host.Outcome.next
        (reached.trans (State.forceWrite_holdover (s := s.answer m .ok) word awake force on)),
      fun force other => congrArg Host.Outcome.next
        (reached.trans (State.forceWrite_released (s := s.answer m .ok) word awake force other))⟩
  case start =>
    intro s m l v w r inRange at_ word start noAbort u free phase moves far
    exact congrArg Host.Outcome.next ((State.when_access inRange at_).trans
      ((State.rampWrite_start (s := s.answer m .ok) word start noAbort).trans (State.rampBegin_phase (s := u) free phase moves far)))
  case abort =>
    intro s m l v w r inRange at_ word noStart abort
    exact congrArg Host.Outcome.next ((State.when_access inRange at_).trans
      (State.rampWrite_abort (s := s.answer m .ok) word noStart abort))
  case phaseDone =>
    exact fun s l inRange busy phase =>
      congrArg Host.Outcome.next ((State.when_decide inRange).trans (State.rampReached_phase busy phase))
  case frequencyDone =>
    exact fun s l inRange busy freq =>
      congrArg Host.Outcome.next ((State.when_decide inRange).trans (State.rampReached_frequency busy freq))
  case idle => exact fun s l idle => congrArg Host.Outcome.next (State.when_same (State.rampReached_idle idle))

end Sys2Proof.Machine

/-! Refutes O29. Its clause on TEMP_READ_TIMEOUT says that no I2C master waits to read the sensor any more. The master's entry is stored
without its wish; where that is the reset entry, and the store of masters lists the master twice, the second entry, which the first one hid,
wishes for a read still. The statement does not ask that the store be canonical. -/

namespace Sys2Proof.Machine

/-- A device whose sensor is enabled, and whose I2C master 0 is listed twice, each time with a read of the sensor waiting. -/
def sensorWaitsTwice : State :=
  State.set { State.reset with i2c := [(0, { (default : I2cSt) with sensor := true }), (0, { (default : I2cSt) with sensor := true })] }
    HOLD_CFG_TS_EN 1

/-- Refutes O29: with I2C master 0 listed twice, a read of the sensor waits there after its time has run out (R167). -/
theorem not_learningCommandsComplete : ¬ Obligations.LearningCommandsComplete := by
  unfold Obligations.LearningCommandsComplete
  rintro ⟨-, -, -, -, -, late, -⟩
  obtain ⟨t, run, -, -, -, -, -, quiet, -⟩ :=
    late sensorWaitsTwice (by decide +kernel) (by decide +kernel) (by decide +kernel) (by decide +kernel)
  obtain rfl : sensorWaitsTwice.sensorLate = t := Host.Outcome.next.inj run
  exact absurd (quiet 0 (by decide)) (by decide +kernel)

end Sys2Proof.Machine

/-! Settles O30, what the sprag does by the clock and commits (chapter 7): a clear, the tick of a second in holdover, expiry, and the
commits of the model, of the history and of a calibration word. -/

namespace Sys2Proof.Machine

variable {s u : State} {m : Master} {r : RegRow} {v : Word} {l k seq : Nat}

/-! ### A clear -/

theorem State.holdCtrlWrite_clear (clear : fieldOf HOLD_CTRL_CLEAR v = 1) (alone : fieldOf HOLD_CTRL_COMMIT_NOW v = 0)
    (free : s.hold.clearing = false) (may : s.clearTest = 0) : s.holdCtrlWrite m v r = s.clearStart 0 := by
  simp only [State.holdCtrlWrite, clear, alone, free, may, Bool.false_eq_true, ne_eq, not_true_eq_false, one_ne_zero, if_false,
    Nat.reduceBEq, State.when_false]

theorem State.holdCtrlWrite_clearing (clear : fieldOf HOLD_CTRL_CLEAR v = 1) (alone : fieldOf HOLD_CTRL_COMMIT_NOW v = 0)
    (busy : s.hold.clearing = true) : s.holdCtrlWrite m v r = s.refuseWrite m HOLD_CTRL := by
  simp only [State.holdCtrlWrite, clear, alone, busy, one_ne_zero, if_false, if_true, Nat.reduceBEq, State.when_false]

/-! ### The clock -/

theorem State.holdTick_awake (awake : s.asleep = false) :
    let t := s.slewEval.each [0, 1, 2, 3] State.holdTickLoop
    s.holdTick = { t with hold := { t.hold with goodTick := false } } :=
  if_neg (by simp [awake])

theorem State.holdTick_asleep (asleep : s.asleep = true) : s.holdTick = s := if_pos asleep

theorem State.expire_over (holds : s.loopState l = 3) (awake : s.asleep = false)
    (ended : 60 * s.get HOLD_EXPIRY_HOLD_LIMIT ≤ (s.holdLoop l).tau ∨ s.get (HOLD_LP_STATUS_CONF l) ≤ s.get HOLD_EXPIRY_CONF_MIN ∨
      s.offered l = false) :
    s.expire l = (((s.raise HOLD_EVT_EXPIRY).setHoldLoop l { s.holdLoop l with expired := some s.cyc }).queueEvent 4
      [packWord [(l, 0), (min (s.holdLoop l).tau (2 ^ 24 - 1), 8)]]).setLoopState l 4 := by
  rw [State.expire, if_neg (by simp [holds, awake])]
  exact if_pos (by simpa [or_assoc] using ended)

theorem State.expire_other (other : s.loopState l ≠ 3) : s.expire l = s := if_pos (.inl other)

/-! ### Commits -/

theorem State.commitModel_idle (idle : s.get HOLD_STATUS_STAGE = 0 ∨ s.hold.clearing = true) : s.commitModel = s := if_pos idle

section
variable (stage : s.get HOLD_STATUS_STAGE ≠ 0) (free : s.hold.clearing = false)
  (next : nextRecord modelMagic (s.nvOctets 0x10000 256) (s.nvOctets 0x10100 256) = (k, seq))
include stage free next

theorem State.commitModel_taken (taken : s.recordWrite (0x10000 + 256 * k) (s.modelRecord seq) (1, 0) = (u, true)) :
    s.commitModel = u.hotPut 0x10 (s.modelRecord seq) := by
  rw [State.commitModel, if_neg (by simp [stage, free])]
  simp only [next, taken, if_true]

theorem State.commitModel_refused (refused : s.recordWrite (0x10000 + 256 * k) (s.modelRecord seq) (1, 0) = (u, false)) :
    s.commitModel = u.raise HOLD_EVT_COMMIT_FAIL := by
  rw [State.commitModel, if_neg (by simp [stage, free])]
  simp only [next, refused, Bool.false_eq_true, if_false]

end

theorem State.commitHistory_empty (empty : s.hold.history = []) : s.commitHistory = s := if_pos (.inr (by simp [empty]))

theorem State.commitHistory_taken (awake : s.asleep = false) (entries : s.hold.history ≠ [])
    (taken : s.recordWrite (0x10200 + 256 * s.hold.histPage)
      (s.hold.history.flatten ++ List.replicate (256 - s.hold.history.flatten.length) 0) (2, s.hold.history.length) = (u, true)) :
    s.commitHistory = u := by
  rw [State.commitHistory, if_neg (by simp [awake, entries])]
  simp only [taken, if_true]

theorem State.autoCal_due (auto : s.on HOLD_CFG_CAL_AUTO = true) (full : s.get HOLD_STATUS_STAGE = 3) (due : 1440 ≤ s.hold.calMin)
    (awake : s.asleep = false) (taken : let x := { s with hold := { s.hold with calMin := 0 } }
      x.writeCal (unit48 x.yXO) 1 0 = (u, true)) : s.autoCal = u := by
  dsimp only at taken
  rw [State.autoCal, if_pos (by simp [auto, full, due, awake])]
  simp only [taken, if_true]

theorem State.autoCal_early (early : s.hold.calMin < 1440) : s.autoCal = s := if_neg (by simp [early])

/-- Settles O30: a clear, holdover by the clock, and the commits of the sprag (R170, R173, R174, R176, R180, R184). -/
theorem holdoverCommandsComplete : Obligations.HoldoverCommandsComplete := by
  unfold Obligations.HoldoverCommandsComplete
  refine ⟨?clear, ?clearing, ?tick, ?asleep, ?expiry, ?noExpiry, ?noModel, ?model, ?noHistory, ?history, ?calibration, ?noCalibration⟩
  case clear =>
    intro s m v r at_ clear alone free may
    exact congrArg Host.Outcome.next ((State.access_row at_).trans
      (State.holdCtrlWrite_clear (s := s.answer m .ok) clear alone free may))
  case clearing =>
    intro s m v r at_ clear alone busy
    exact congrArg Host.Outcome.next ((State.access_row at_).trans
      (State.holdCtrlWrite_clearing (s := s.answer m .ok) clear alone busy))
  case tick => exact fun s awake => congrArg Host.Outcome.next (State.holdTick_awake awake)
  case asleep => exact fun s asleep => congrArg Host.Outcome.next (State.holdTick_asleep asleep)
  case expiry =>
    exact fun s l inRange holds awake ended =>
      congrArg Host.Outcome.next ((State.when_decide inRange).trans (State.expire_over holds awake ended))
  case noExpiry => exact fun s l other => congrArg Host.Outcome.next (State.when_same (State.expire_other other))
  case noModel => exact fun s _ idle => congrArg Host.Outcome.next (State.when_same (State.commitModel_idle idle))
  case model =>
    intro s u k seq awake stage free next
    have runs : s.when (!s.asleep) State.commitModel = s.commitModel := State.when_pos (by simp [awake])
    exact ⟨fun taken => congrArg Host.Outcome.next (runs.trans (State.commitModel_taken stage free next taken)),
      fun refused => congrArg Host.Outcome.next (runs.trans (State.commitModel_refused stage free next refused))⟩
  case noHistory => exact fun s empty => congrArg Host.Outcome.next (State.commitHistory_empty empty)
  case history =>
    exact fun s u awake entries taken => congrArg Host.Outcome.next (State.commitHistory_taken awake entries taken)
  case calibration =>
    intro s u auto full due awake x taken
    exact congrArg Host.Outcome.next (State.autoCal_due auto full due awake taken)
  case noCalibration => exact fun s early => congrArg Host.Outcome.next (State.autoCal_early early)

end Sys2Proof.Machine

/-! Settles O31, writes of an axle's AXL_CFG and AXL_CTRL (chapter 8). What a write of AXL_CFG comes to is said once, by what it finds and
leaves in the register; each kind of write is a case of it. -/

namespace Sys2Proof.Machine

variable {s : State} {m : Master} {r : RegRow} {v w : Word} {n : Nat}

/-! ### AXL_CFG -/

/-- The word a write gives AXL_CFG: AX1 makes no steps. -/
def axleCfgWord (n : Nat) (v : Word) : Word := if n = 1 then putBits v 4 1 0 else v

section
variable (lane : 1 ≤ n) (legal : v.getLsbD 8 = true → s.get GLB_STATUS_MODE = 5)
  (word : writeFields r.fields (s.rd (AXL_CFG n)) (axleCfgWord n v) = (w, false)) (still : (s.wr (AXL_CFG n) w).stepLeft n = 0)
include lane legal word still

/-- A write of AXL_CFG with nothing left of a step: what becomes of the axle, by its state and the fields that have changed. -/
theorem State.axleCfgWrite_still :
    let u := s.wr (AXL_CFG n) w
    let on := u.get (AXL_STATUS_STATE n) != 0
    s.axleCfgWrite m n v r =
      if (s.on (AXL_CFG_ENABLE n) && !u.on (AXL_CFG_ENABLE n)) = true then u.axleOff n
      else if (!on && u.on (AXL_CFG_ENABLE n)) = true then u.axleStart n
      else if (on && changes s (AXL_CFG_ENTRY n) (axleCfgWord n v)) = true then u.axleHop n
      else if (s.on (AXL_CFG_DLL_HOLD n) && !u.on (AXL_CFG_DLL_HOLD n) && u.get (AXL_STATUS_STATE n) == 4) = true then u.axleTo n 2 true
      else u.engage n (u.axle n).injecting := by
  have allowed : (v.getLsbD 8 && s.get GLB_STATUS_MODE != 5) = false := by
    cases hold : v.getLsbD 8
    · rfl
    · simp [legal hold]
  have plain : s.plainWrite m (AXL_CFG n) (if n = 1 then putBits v 4 1 0 else v) r = s.wr (AXL_CFG n) w := State.plainWrite_ok word
  have zero : n ≠ 0 := by omega
  simp only [State.axleCfgWrite, zero, if_false, allowed, State.when_false, Bool.false_eq_true, plain, still, ne_eq, not_true_eq_false,
    decide_false, Bool.and_false, axleCfgWord]
  rfl

theorem State.axleCfgWrite_starts (enable : (s.wr (AXL_CFG n) w).on (AXL_CFG_ENABLE n) = true)
    (off : (s.wr (AXL_CFG n) w).get (AXL_STATUS_STATE n) = 0) : s.axleCfgWrite m n v r = (s.wr (AXL_CFG n) w).axleStart n := by
  rw [State.axleCfgWrite_still lane legal word still, if_neg (by simp [enable]), if_pos (by simp [enable, off])]

theorem State.axleCfgWrite_stops (was : s.on (AXL_CFG_ENABLE n) = true) (disable : (s.wr (AXL_CFG n) w).on (AXL_CFG_ENABLE n) = false) :
    s.axleCfgWrite m n v r = (s.wr (AXL_CFG n) w).axleOff n := by
  rw [State.axleCfgWrite_still lane legal word still, if_pos (by simp [was, disable])]

theorem State.axleCfgWrite_hops (enable : (s.wr (AXL_CFG n) w).on (AXL_CFG_ENABLE n) = true)
    (on : (s.wr (AXL_CFG n) w).get (AXL_STATUS_STATE n) ≠ 0) (hops : changes s (AXL_CFG_ENTRY n) (axleCfgWord n v) = true) :
    s.axleCfgWrite m n v r = (s.wr (AXL_CFG n) w).axleHop n := by
  rw [State.axleCfgWrite_still lane legal word still, if_neg (by simp [enable]), if_neg (by simp [on]), if_pos (by simp [on, hops])]

theorem State.axleCfgWrite_holds (same : s.on (AXL_CFG_ENABLE n) = (s.wr (AXL_CFG n) w).on (AXL_CFG_ENABLE n))
    (free : s.on (AXL_CFG_DLL_HOLD n) = false) (stays : changes s (AXL_CFG_ENTRY n) (axleCfgWord n v) = false)
    (on : (s.wr (AXL_CFG n) w).get (AXL_STATUS_STATE n) ≠ 0) :
    s.axleCfgWrite m n v r = (s.wr (AXL_CFG n) w).engage n ((s.wr (AXL_CFG n) w).axle n).injecting := by
  rw [State.axleCfgWrite_still lane legal word still, if_neg (by simp [same]), if_neg (by simp [on]), if_neg (by simp [stays]),
    if_neg (by simp [free])]

theorem State.axleCfgWrite_releases (enable : (s.wr (AXL_CFG n) w).on (AXL_CFG_ENABLE n) = true) (held : s.on (AXL_CFG_DLL_HOLD n) = true)
    (released : (s.wr (AXL_CFG n) w).on (AXL_CFG_DLL_HOLD n) = false) (stays : changes s (AXL_CFG_ENTRY n) (axleCfgWord n v) = false)
    (dll : (s.wr (AXL_CFG n) w).get (AXL_STATUS_STATE n) = 4) : s.axleCfgWrite m n v r = (s.wr (AXL_CFG n) w).axleTo n 2 true := by
  rw [State.axleCfgWrite_still lane legal word still, if_neg (by simp [enable]), if_neg (by simp [dll]), if_neg (by simp [stays]),
    if_pos (by simp [held, released, dll])]

end

/-- A write that does not set DLL_HOLD is not held to WORKSHOP. -/
theorem no_hold {p : Prop} (free : v.getLsbD 8 = false) (hold : v.getLsbD 8 = true) : p :=
  absurd (free.symm.trans hold) (by decide)

theorem State.axleStart_off (off : s.get (AXL_STATUS_STATE n) = 0) (staged : s.get GLB_STATUS_MODE ≠ 0)
    (powered : s.pwr.state = .run ∨ s.pwr.state = .lean) :
    s.axleStart n = (s.setAxle n { s.axle n with q := s.axleOrigin n }).axleEnter n := by
  rw [State.axleStart, if_neg (by simpa [off, staged] using or_iff_not_imp_left.mp powered)]

theorem State.axleCfgWrite_ax0 : s.axleCfgWrite m 0 v r = s.refuseWrite m (AXL_CFG 0) := by
  rw [State.axleCfgWrite, if_pos rfl]

/-! ### AXL_CTRL -/

theorem State.axleCtrlWrite_search (lane : 1 ≤ n) (search : v.getLsbD 0 = true) (noAbort : v.getLsbD 1 = false)
    (on : s.get (AXL_STATUS_STATE n) ≠ 0) : s.axleCtrlWrite m n v = (s.set (AXL_BAND_CODE_VALID n (s.axEntry n)) 0).searchStart n := by
  have zero : n ≠ 0 := by omega
  simp only [State.axleCtrlWrite, zero, if_false, search, noAbort, State.when_false, Bool.true_and]
  exact State.when_pos (by simpa using on)

theorem State.axleCtrlWrite_abort (lane : 1 ≤ n) (noSearch : v.getLsbD 0 = false) (abort : v.getLsbD 1 = true)
    (busy : s.on (AXL_STATUS_STEP_BUSY n) = true) :
    s.axleCtrlWrite m n v = ((s.setB (AXL_STATUS_STEP_BUSY n) false).raise (AXL_EVT_STEP_DROPPED n)).stepReport n := by
  have zero : n ≠ 0 := by omega
  simp only [State.axleCtrlWrite, zero, if_false, noSearch, abort, State.when_true, Bool.false_and, State.when_false, State.dropSteps, busy,
    if_true]

/-- Settles O31: enabling and disabling an axle, hops, DLL_HOLD, searches and discarded steps (R196, R197, R203, R204). -/
theorem axleWritesComplete : Obligations.AxleWritesComplete := by
  unfold Obligations.AxleWritesComplete
  refine ⟨?enable, ?disable, ?hop, ?hold, ?release, ?ax0, ?search, ?abort⟩
  case enable =>
    intro s m n v w r lane inRange at_ free x word u still enable off staged powered
    exact congrArg Host.Outcome.next ((State.when_access inRange at_).trans
      ((State.axleCfgWrite_starts (s := s.answer m .ok) lane (no_hold free) word still enable off).trans
        (State.axleStart_off (s := u) off staged powered)))
  case disable =>
    intro s m n v w r lane inRange at_ free x word u still was disable
    exact congrArg Host.Outcome.next ((State.when_access inRange at_).trans
      (State.axleCfgWrite_stops (s := s.answer m .ok) lane (no_hold free) word still was disable))
  case hop =>
    intro s m n v w r lane inRange at_ free x word u still enable on hops
    exact congrArg Host.Outcome.next ((State.when_access inRange at_).trans
      (State.axleCfgWrite_hops (s := s.answer m .ok) lane (no_hold free) word still enable on hops))
  case hold =>
    intro s m n v w r lane inRange at_ hold workshop x word u still same free stays on
    exact congrArg Host.Outcome.next ((State.when_access inRange at_).trans
      (State.axleCfgWrite_holds (s := s.answer m .ok) lane (fun _ => workshop) word still same free stays on))
  case release =>
    intro s m n v w r lane inRange at_ free x word u still enable held released stays dll
    exact congrArg Host.Outcome.next ((State.when_access inRange at_).trans
      (State.axleCfgWrite_releases (s := s.answer m .ok) lane (no_hold free) word still enable held released stays dll))
  case ax0 =>
    exact fun s m v r at_ => congrArg Host.Outcome.next ((State.when_access (by decide) at_).trans State.axleCfgWrite_ax0)
  case search =>
    intro s m n v r lane inRange at_ search noAbort on
    exact congrArg Host.Outcome.next ((State.when_access inRange at_).trans
      (State.axleCtrlWrite_search (s := s.answer m .ok) lane search noAbort on))
  case abort =>
    intro s m n v r lane inRange at_ noSearch abort busy
    exact congrArg Host.Outcome.next ((State.when_access inRange at_).trans
      (State.axleCtrlWrite_abort (s := s.answer m .ok) lane noSearch abort busy))

end Sys2Proof.Machine

/-! Settles O32, an axle's events, its frequency word, its phase steps and its band table (chapter 8). -/

namespace Sys2Proof.Machine

variable {s : State} {m : Master} {r : RegRow} {v w : Word} {n k band fine l : Nat}

/-! ### Band searches and pull-in -/

theorem State.searchEnd_found (searching : s.get (AXL_STATUS_STATE n) = 1) :
    let k := s.axEntry n
    let u := (s.set (AXL_BAND_CODE_BAND n k) band).set (AXL_BAND_CODE_FINE n k) fine
    let u := (u.setI (AXL_BAND_CODE_TEMP n k) (clampInt (-128) 127 (roundAway ((s.getI FLT_TEMP_TJ : Rat) / 256)))).set
      (AXL_BAND_CODE_VALID n k) 1
    s.searchEnd n true band fine = (u.raise (AXL_EVT_SEARCH_DONE n)).pullin n true := by
  rw [State.searchEnd, if_neg (by simp [searching]), if_pos rfl]

theorem State.searchEnd_failed (searching : s.get (AXL_STATUS_STATE n) = 1) :
    s.searchEnd n false band fine = ((s.raise (AXL_EVT_BAND_FAIL n)).axleOff n).logFault 0x14 n none := by
  rw [State.searchEnd, if_neg (by simp [searching]), if_neg Bool.false_ne_true]

theorem State.searchEnd_other {found : Bool} (other : s.get (AXL_STATUS_STATE n) ≠ 1) : s.searchEnd n found band fine = s := if_pos other

theorem State.lockHeld_axle (lane : 1 ≤ n) (pulls : s.get (AXL_STATUS_STATE n) = 2) (free : s.on (AXL_CFG_DLL_HOLD n) = false) :
    s.lockHeld n = ((s.axleTo n 3 true).setSquelch n false).jumpEnd n := by
  rw [State.lockHeld, if_neg (by simp [pulls]), if_neg (by omega), if_neg (by simp [free])]

theorem State.lockHeld_ax0 (pulls : s.get (AXL_STATUS_STATE 0) = 2) : s.lockHeld 0 = s.axleTo 0 3 true := by
  rw [State.lockHeld, if_neg (by simp [pulls]), if_pos rfl]

theorem State.pullinFail_pulls (lane : 1 ≤ n) (pulls : s.get (AXL_STATUS_STATE n) = 2) :
    s.pullinFail n = (s.set (AXL_BAND_CODE_VALID n (s.axEntry n)) 0).searchStart n := by
  rw [State.pullinFail, if_neg (by omega)]

theorem State.dllHeld_hold (lane : 1 ≤ n) (pulls : s.get (AXL_STATUS_STATE n) = 2) (hold : s.on (AXL_CFG_DLL_HOLD n) = true) :
    s.dllHeld n = s.axleTo n 4 false := by
  have zero : n ≠ 0 := by omega
  rw [State.dllHeld, State.when_pos (by simp [zero, pulls]), if_pos hold]

theorem State.dllHeld_free (lane : 1 ≤ n) (pulls : s.get (AXL_STATUS_STATE n) = 2) (free : s.on (AXL_CFG_DLL_HOLD n) = false) :
    s.dllHeld n = s.engage n true := by
  have zero : n ≠ 0 := by omega
  rw [State.dllHeld, State.when_pos (by simp [zero, pulls]), if_neg (by simp [free])]

/-! ### Lock and its loss -/

theorem State.axleLol_locked (lane : 1 ≤ n) (locked : s.get (AXL_STATUS_STATE n) = 3) :
    s.axleLol n = ((((s.raise (AXL_EVT_LOL n)).count (AXL_COUNT_LOL_COUNT n)).axleTo n 2 false).setSquelch n true).logFault 0x14 n none := by
  rw [State.axleLol, if_neg (by omega)]

theorem State.ax0Lol_locked (locked : s.get (AXL_STATUS_STATE 0) = 3) :
    s.ax0Lol = (((s.raise (AXL_EVT_LOL 0)).count (AXL_COUNT_LOL_COUNT 0)).axleTo 0 2 false).logFault 0x14 0 none := by
  rw [State.ax0Lol, if_neg (by omega)]

theorem State.fineKeep_locked (lane : 1 ≤ n) (locked : s.get (AXL_STATUS_STATE n) = 3) :
    s.fineKeep n fine = (s.set (AXL_STATUS_FINE n) fine).set (AXL_BAND_CODE_FINE n (s.axEntry n)) fine := by
  have zero : n ≠ 0 := by omega
  rw [State.fineKeep, State.when_pos (by simp [zero, locked])]

/-! ### Words and steps -/

section
variable (lane : 1 ≤ n) (unsteered : s.steerer n = none)
include lane unsteered

theorem State.fwordWrite_word (inRange : (signedOf 48 ((s.axle n).wordLo.toNat + v.toNat % 2 ^ 16 * 2 ^ 32)).natAbs ≤ 34339947158) :
    s.fwordWrite m n true v = s.axleWord n (signedOf 48 ((s.axle n).wordLo.toNat + v.toNat % 2 ^ 16 * 2 ^ 32)) := by
  have host : ¬ (n = 0 ∨ (s.steerer n).isSome = true) := by simp [unsteered]; omega
  rw [State.fwordWrite, if_neg host, if_neg (by decide)]
  exact if_neg (not_lt.mpr inRange)

theorem State.fwordWrite_far (far : 34339947158 < (signedOf 48 ((s.axle n).wordLo.toNat + v.toNat % 2 ^ 16 * 2 ^ 32)).natAbs) :
    s.fwordWrite m n true v = s.badRange m (AXL_FWORD_HI n) := by
  have host : ¬ (n = 0 ∨ (s.steerer n).isSome = true) := by simp [unsteered]; omega
  rw [State.fwordWrite, if_neg host, if_neg (by decide)]
  exact if_pos far

theorem State.stepWrite_host :
    s.stepWrite m n v = s.requestStep n (signedOf 48 ((s.rd (AXL_STEP_LO n)).toNat + v.toNat % 2 ^ 16 * 2 ^ 32)) false := by
  have host : ¬ (n = 0 ∨ (s.steerer n).isSome = true) := by simp [unsteered]; omega
  rw [State.stepWrite, if_neg host]

end

theorem State.fwordWrite_steered (steered : s.steerer n = some l) : s.fwordWrite m n true v = s.refuseWrite m (AXL_FWORD_HI n) := by
  rw [State.fwordWrite, if_pos (.inr (by simp [steered])), if_pos rfl]

theorem State.slewEnd_done (lane : 1 ≤ n) (left : s.stepLeft n ≠ 0) (on : s.get (AXL_STATUS_STATE n) ≠ 0)
    (slews : s.on (AXL_CFG_STEP_MODE n) = false) : s.slewEnd n = ((s.axleMove n (s.stepLeft n)).setStepLeft n 0).stepComplete n := by
  have zero : n ≠ 0 := by omega
  rw [State.slewEnd, if_neg (by simp [zero, left, on, slews])]

theorem State.slewEnd_none (none_ : s.stepLeft n = 0) : s.slewEnd n = s := if_pos (.inr (.inl none_))

/-! ### The band table -/

/-- The ratio a write of AXL_BAND_HI names, with the word that waits in AXL_BAND_LO. -/
def State.ratioNamed (s : State) (n k : Nat) (v : Word) : Nat := (s.rd (AXL_BAND_LO n k)).toNat + v.toNat % 2 ^ 16 * 2 ^ 32

theorem State.bandWrite_free (word : writeFields r.fields (s.rd (AXL_BAND_HI n k)) v = (w, false))
    (free : s.axEntry n ≠ k ∨ s.get (AXL_STATUS_STATE n) = 0) (ax1 : n = 1 → s.ratioNamed n k v = 2 ^ 47)
    (others : n ≠ 1 → 1961 * 2 ^ 46 ≤ 1000 * s.ratioNamed n k v ∧ 1000 * s.ratioNamed n k v ≤ 2518 * 2 ^ 46) :
    let u := s.wr (AXL_BAND_HI n k) w
    s.bandWrite m n k true v r =
      (u.setAxle n { s.axle n with ratios := smPut (s.axle n).ratios k (s.ratioNamed n k v) }).set (AXL_BAND_CODE_VALID n k) 0 := by
  have legal : (if n = 1 then decide (s.ratioNamed n k v = 2 ^ 47)
      else decide (1961 * 2 ^ 46 ≤ 1000 * s.ratioNamed n k v ∧ 1000 * s.ratioNamed n k v ≤ 2518 * 2 ^ 46)) = true := by
    split
    · next lane1 => exact decide_eq_true (ax1 lane1)
    · next other => exact decide_eq_true (others other)
  have plain := State.plainWrite_ok (m := m) word
  rw [State.bandWrite, if_neg (fun ⟨active, on⟩ => free.elim (· active) on), if_neg (by decide)]
  simp only [State.ratioNamed] at legal
  simp only [if_true, plain, State.ratioNamed, State.wr_axle]
  exact if_neg (ne_of_eq_of_ne (congrArg not legal) Bool.false_ne_true)

theorem State.bandWrite_active (active : s.axEntry n = k) (on : s.get (AXL_STATUS_STATE n) ≠ 0) :
    s.bandWrite m n k true v r = s.refuseWrite m (AXL_BAND_HI n k) := by
  rw [State.bandWrite, if_pos ⟨active, on⟩, if_pos rfl]

/-- Settles O32: band searches, pull-in, lock and its loss, frequency words, phase steps and the band table (R191 to R195, R197 to R201,
R206, R208). -/
theorem axleEventsAndStepsComplete : Obligations.AxleEventsAndStepsComplete := by
  unfold Obligations.AxleEventsAndStepsComplete
  refine ⟨?found, ?failed, ?noSearch, ?lockHeld, ?ax0Held, ?pullinTimeout, ?dllHold, ?dllLocked, ?lossOfLock, ?ax0Loss, ?fineCopy, ?word,
    ?wordFar, ?wordSteered, ?step, ?stepDone, ?noStep, ?band, ?bandActive⟩
  case found =>
    exact fun s n band fine inRange searching =>
      congrArg Host.Outcome.next ((State.when_decide inRange).trans (State.searchEnd_found searching))
  case failed =>
    exact fun s n band fine inRange searching =>
      congrArg Host.Outcome.next ((State.when_decide inRange).trans (State.searchEnd_failed searching))
  case noSearch =>
    exact fun s n band fine found other => congrArg Host.Outcome.next (State.when_same (State.searchEnd_other other))
  case lockHeld =>
    exact fun s n lane inRange pulls free =>
      congrArg Host.Outcome.next ((State.when_decide inRange).trans (State.lockHeld_axle lane pulls free))
  case ax0Held =>
    exact fun s pulls => congrArg Host.Outcome.next ((State.when_decide (by decide)).trans (State.lockHeld_ax0 pulls))
  case pullinTimeout =>
    exact fun s n lane inRange pulls =>
      congrArg Host.Outcome.next ((State.when_decide inRange).trans (State.pullinFail_pulls lane pulls))
  case dllHold =>
    exact fun s n lane inRange pulls hold =>
      congrArg Host.Outcome.next ((State.when_decide inRange).trans (State.dllHeld_hold lane pulls hold))
  case dllLocked =>
    exact fun s n lane inRange pulls free =>
      congrArg Host.Outcome.next ((State.when_decide inRange).trans (State.dllHeld_free lane pulls free))
  case lossOfLock =>
    exact fun s n lane inRange locked =>
      congrArg Host.Outcome.next ((State.when_decide inRange).trans (State.axleLol_locked lane locked))
  case ax0Loss => exact fun s locked => congrArg Host.Outcome.next (State.ax0Lol_locked locked)
  case fineCopy =>
    exact fun s n fine lane inRange locked =>
      congrArg Host.Outcome.next ((State.when_decide inRange).trans (State.fineKeep_locked lane locked))
  case word =>
    intro s m n v r lane inRange at_ unsteered w near
    exact congrArg Host.Outcome.next ((State.when_access inRange at_).trans
      (State.fwordWrite_word (s := s.answer m .ok) lane unsteered near))
  case wordFar =>
    intro s m n v r lane inRange at_ unsteered far
    exact congrArg Host.Outcome.next ((State.when_access inRange at_).trans
      (State.fwordWrite_far (s := s.answer m .ok) lane unsteered far))
  case wordSteered =>
    intro s m n l v r lane inRange at_ steered
    exact congrArg Host.Outcome.next ((State.when_access inRange at_).trans
      (State.fwordWrite_steered (s := s.answer m .ok) steered))
  case step =>
    intro s m n v r lane inRange at_ unsteered
    exact congrArg Host.Outcome.next ((State.when_access inRange at_).trans
      (State.stepWrite_host (s := s.answer m .ok) lane unsteered))
  case stepDone =>
    exact fun s n lane inRange left on slews =>
      congrArg Host.Outcome.next ((State.when_decide inRange).trans (State.slewEnd_done lane left on slews))
  case noStep => exact fun s n none_ => congrArg Host.Outcome.next (State.when_same (State.slewEnd_none none_))
  case band =>
    intro s m n k v w r lane inRange entry at_ word free x ax1 others
    exact congrArg Host.Outcome.next ((State.when_access ⟨lane, inRange, entry⟩ at_).trans
      (State.bandWrite_free (s := s.answer m .ok) word free ax1 others))
  case bandActive =>
    intro s m n k v r lane inRange entry at_ active on
    exact congrArg Host.Outcome.next ((State.when_access ⟨lane, inRange, entry⟩ at_).trans
      (State.bandWrite_active (s := s.answer m .ok) active on))

end Sys2Proof.Machine

/-! Settles O33: a slew makes RATE steps in any 256 cycles on end (R195). The steps up to a cycle are the quotient of the cycle times RATE
by 256, which rises by at most one in a cycle, and by RATE in 256 of them. -/

namespace Sys2Proof.Machine

/-- The steps of a slew in the cycles from `c` to `c + k`, with those before them. -/
theorem slewSteps_add {rate : Nat} (inRange : rate ≤ 256) (c k : Nat) :
    ((List.range k).filter fun i => slewNow rate (c + i)).length + c * rate / 256 = (c + k) * rate / 256 := by
  induction k with
  | zero => simp
  | succ k ih =>
    have next : (c + (k + 1)) * rate = (c + k) * rate + rate := by ring
    rw [List.range_succ, List.filter_append, List.length_append]
    have step : ([k].filter fun i => slewNow rate (c + i)).length + (c + k) * rate / 256 = (c + (k + 1)) * rate / 256 := by
      by_cases rises : (c + k) * rate / 256 < (c + (k + 1)) * rate / 256
      · have : slewNow rate (c + k) = true := decide_eq_true rises
        simp only [List.filter_cons, this, if_true, List.filter_nil, List.length_cons, List.length_nil]
        omega
      · have : slewNow rate (c + k) = false := decide_eq_false rises
        simp only [List.filter_cons, this, Bool.false_eq_true, if_false, List.filter_nil, List.length_nil]
        omega
    omega

/-- Settles O33: RATE steps in any 256 cycles (R195). -/
theorem slewIsEven : Obligations.SlewIsEven := by
  unfold Obligations.SlewIsEven
  intro rate c inRange
  have steps := slewSteps_add inRange c 256
  have whole : (c + 256) * rate / 256 = c * rate / 256 + rate := by
    rw [Nat.add_mul, Nat.add_mul_div_left _ _ (by decide)]
  omega

end Sys2Proof.Machine

/-! Settles O34, outputs (chapter 9): a write of OUT_CFG by what it finds in ENABLE, the start of an output, a phase, and the next edge of a
running output, at which dividers and delays come into force. -/

namespace Sys2Proof.Machine

variable {s : State} {m : Master} {r : RegRow} {v w : Word} {n c : Nat}

/-! ### Writes of OUT_CFG -/

section
variable (word : writeFields r.fields (s.rd (OUT_CFG n)) (keepField s (OUT_CFG_ENABLE n) v) = (w, false))
include word

theorem State.outCfgWrite_enable (was : s.on (OUT_CFG_ENABLE n) = false) (enable : v.getLsbD 0 = true) :
    let u := s.wr (OUT_CFG n) w
    s.outCfgWrite m n v r = if u.outCfgOk n = true then (u.set (OUT_CFG_ENABLE n) 1).outEval n
      else (u.raise (OUT_EVT_CFG_ERR n)).refuseWrite m (OUT_CFG n) := by
  simp only [State.outCfgWrite, was, enable, Bool.false_and, State.when_false, Bool.false_eq_true, if_false, State.plainWrite_ok word,
    Bool.not_false, Bool.and_self, if_true]

theorem State.outCfgWrite_disable (was : s.on (OUT_CFG_ENABLE n) = true) (disable : v.getLsbD 0 = false) :
    s.outCfgWrite m n v r = ((s.wr (OUT_CFG n) w).set (OUT_CFG_ENABLE n) 0).outEval n := by
  simp only [State.outCfgWrite, was, disable, Bool.false_and, Bool.and_false, State.when_false, Bool.false_eq_true, if_false,
    State.plainWrite_ok word, Bool.not_false, Bool.and_self, if_true]

theorem State.outCfgWrite_same (same : s.on (OUT_CFG_ENABLE n) = v.getLsbD 0)
    (fixed : s.on (OUT_CFG_ENABLE n) = true → (outGuarded n).any (fun f => changes s f v) = false) :
    s.outCfgWrite m n v r = (s.wr (OUT_CFG n) w).outEval n := by
  have unlocked : (s.on (OUT_CFG_ENABLE n) && s.on (OUT_CFG_ENABLE n) && (outGuarded n).any fun f => changes s f v) = false := by
    cases on : s.on (OUT_CFG_ENABLE n) with
    | false => rfl
    | true => simpa using fixed on
  simp only [State.outCfgWrite, ← same, unlocked, State.when_false, Bool.false_eq_true, if_false, State.plainWrite_ok word,
    Bool.not_and_self, Bool.and_not_self]

end

/-! ### Starts and phases -/

theorem State.outWaited_ready (held : s.get (OUT_STATUS_STATE n) = 1) (free : s.outHold n = false)
    (locked : ∀ a, s.outAxle n = some a → s.get (AXL_STATUS_STATE a) = 3) (ready : (s.outp n).ready = some c) (waited : c + 20 ≤ s.cyc) :
    s.outWaited n = true := by
  have axle : (match s.outAxle n with | none => true | some a => s.get (AXL_STATUS_STATE a) == 3) = true := by
    split
    · rfl
    · next a named => simp [locked a named]
  have conditions : s.outReady n = true := by
    rw [State.outReady, held, free]
    exact axle
  simp only [State.outWaited, conditions, ready, waited, decide_true, Bool.and_self]

theorem State.outStart_eq : s.outStart n =
    (s.outEval n).when ((s.outEval n).outWaited n) fun t => ((t.outLoad n).outFirst n).setOutState n 2 := rfl

theorem State.outPhaseWrite_taken (word : writeFields r.fields (s.rd (OUT_PHASE_HI n)) v = (w, false))
    (inPeriod : ((s.wr (OUT_PHASE_HI n) w).outPhase n).natAbs < s.get (OUT_PERIOD_PERIOD n) * 65536) :
    let u := s.wr (OUT_PHASE_HI n) w
    let o := s.outp n
    s.outPhaseWrite m n v r = u.setOutp n { o with
      phase := u.outPhase n
      lead := if u.get (OUT_STATUS_STATE n) = 2 then liftTo (o.lead + (u.outPhase n - o.phase) * 2 ^ 16)
        (u.get (OUT_PERIOD_PERIOD n) * nsTime) (max 0 (o.trail + 8 * nsTime)) else o.lead } := by
  rw [State.outPhaseWrite, State.plainWrite_ok word, if_neg (by omega)]
  rfl

/-! ### The state of an output read back

An entry that is not the reset entry is listed, and reads as stored, be the store canonical or not. -/

theorem State.outp_setOutp {x : OutSt} (listed : x ≠ default) : (s.setOutp n x).outp n = x := by
  rw [State.outp, State.setOutp, smAt, smPut, smSet, if_neg listed]
  exact smGet_smInsert_same _ _ _

/-- The entry of an output after a transition. -/
def OutSt.flipped (x : OutSt) (t : Rat) (b : Bool) : OutSt := { x with late := x.late ++ [(t, b)], high := b }

theorem State.outFlip_setOutp {x : OutSt} (listed : x ≠ default) (t : Rat) (b : Bool) :
    (s.setOutp n x).outFlip n t b = (s.setOutp n x).setOutp n (x.flipped t b) := by
  rw [State.outFlip, State.outp_setOutp listed, OutSt.flipped]

/-! ### The next rising edge of a clock -/

/-- The edge that R213 puts next: the first from `j` on that is `c` modulo `d`. -/
theorem alignUp_first {d : Nat} (pos : 0 < d) (j c : Int) :
    j ≤ alignUp j c d ∧ alignUp j c d < j + d ∧ (alignUp j c d - c) % (d : Int) = 0 := by
  have low := Int.emod_nonneg (c - j) (by omega : (d : Int) ≠ 0)
  have high := Int.emod_lt_of_pos (c - j) (by omega : 0 < (d : Int))
  have rest : j + (c - j) % (d : Int) - c = d * -((c - j) / (d : Int)) := by
    rw [Int.emod_def]
    ring
  rw [alignUp, if_neg (by omega)]
  refine ⟨by omega, by omega, ?_⟩
  rw [rest, Int.mul_emod_right]

/-- The source edge of an output's next rise, once D and COARSE have taken effect. -/
def State.outNext (s : State) (n : Nat) (j0 : Int) : Int :=
  alignUp (j0 + (s.outp n).rise + (s.get (OUT_DIV_DIV n) : Nat)) (((s.outp n).base : Int) + s.get (OUT_DELAY_COARSE n)) (s.get (OUT_DIV_DIV n))

/-- The state of an output at a rising edge of its divided clock. -/
def State.outRisen (s : State) (n : Nat) (j0 : Int) : OutSt :=
  let o := s.outp n
  let d := s.get (OUT_DIV_DIV n)
  { o with
    div := d, coarse := s.get (OUT_DELAY_COARSE n), fine := fineNext o.fine (s.get (OUT_DELAY_FINE n))
    rise := (s.outNext n j0 - j0).toNat, fall := some (o.rise + (d + 1) / 2) }

/-- A realignment reported leaves every register but OUT_EVT. -/
theorem State.realign_rd (wf : s.regsWf = true) {a : Nat} (other : a ≠ OUT_EVT n) (b : Bool) :
    (s.when b (·.raise (OUT_EVT_REALIGN n))).rd a = s.rd a :=
  State.when_apply (fun t => t.rd a) (State.rd_set_ne wf _ _ other)

theorem State.realign_get (wf : s.regsWf = true) {f : FieldRef} (other : f.addr ≠ OUT_EVT n) (b : Bool) :
    (s.when b (·.raise (OUT_EVT_REALIGN n))).get f = s.get f := by
  rw [State.get, State.realign_rd wf other, State.get]

theorem State.outRise_divided (wf : s.regsWf = true) {span : Rat × Rat} {j0 : Int} (divided : 2 ≤ s.get (OUT_DIV_DIV n)) :
    ∃ b x, s.outRise n j0 span = ((s.when b (·.raise (OUT_EVT_REALIGN n))).setOutp n (s.outRisen n j0)).outFlip n x true := by
  have running : s.get (OUT_DIV_DIV n) ≠ 0 := by omega
  have divides : s.get (OUT_DIV_DIV n) ≠ 1 := by omega
  have coarse : (OUT_DELAY_COARSE n).addr ≠ OUT_EVT n := by show OUT_DELAY n ≠ OUT_EVT n; unfold OUT_DELAY OUT_EVT; omega
  have fine : (OUT_DELAY_FINE n).addr ≠ OUT_EVT n := coarse
  simp only [State.outRise, running, divides, if_false, State.realign_get wf coarse, State.realign_get wf fine]
  exact ⟨_, _, rfl⟩

theorem State.outEdge_clock (runs : s.get (OUT_STATUS_STATE n) = 2) (clock : (s.outp n).pulse = false) (low : (s.outp n).fall = none) :
    s.outEdge n = s.outRise n (s.outSpan n).1.ceil (s.outSpan n) := by
  simp only [State.outEdge, runs, clock, low, ne_eq, not_true_eq_false, if_false, Bool.false_eq_true, beq_self_eq_true, State.when_true]

theorem State.outRisen_listed {j0 : Int} (divided : 2 ≤ s.get (OUT_DIV_DIV n)) : s.outRisen n j0 ≠ default := by
  intro reset
  have : s.get (OUT_DIV_DIV n) = 0 := congrArg OutSt.div reset
  omega

/-- The state after the rising edge of a divided clock. -/
theorem State.outEdge_divided (wf : s.regsWf = true) (runs : s.get (OUT_STATUS_STATE n) = 2) (clock : (s.outp n).pulse = false)
    (low : (s.outp n).fall = none) (divided : 2 ≤ s.get (OUT_DIV_DIV n)) :
    ∃ b x, let risen := s.outRisen n (s.outSpan n).1.ceil
      s.outEdge n = ((s.when b (·.raise (OUT_EVT_REALIGN n))).setOutp n risen).setOutp n (risen.flipped x true) := by
  obtain ⟨b, x, rise⟩ := State.outRise_divided wf (span := s.outSpan n) (j0 := (s.outSpan n).1.ceil) divided
  refine ⟨b, x, ?_⟩
  rw [State.outEdge_clock runs clock low, rise, State.outFlip_setOutp (State.outRisen_listed divided)]

/-! ### The next leading edge of a pulse -/

theorem outStatus_reset : ∀ n < 24, getBits (resetWord (OUT_STATUS n)) 0 2 = 0 := by decide +kernel
theorem outEvt_reset : ∀ n < 24, getBits (resetWord (OUT_EVT n)) 1 1 = 0 := by decide +kernel

/-- While the output runs, KEEP_ACTIVE is cleared in its own register alone. -/
theorem State.keepCleared_rd (inRange : n < 24) (runs : s.get (OUT_STATUS_STATE n) = 2) {a : Nat} (other : a ≠ OUT_STATUS n) (b : Bool) :
    (s.when b (·.set (OUT_STATUS_KEEP_ACTIVE n) 0)).rd a = s.rd a := by
  refine State.when_apply (fun t => t.rd a) (State.rd_set_listed (ne_resetWord_of_getBits (lo := 0) (width := 2) ?_) other)
  have kept : getBits (putBits (s.rd (OUT_STATUS n)) 3 1 0) 0 2 = 2 := (getBits_putBits_ne (by decide) 0 (by decide)).trans runs
  exact ne_of_eq_of_ne kept (ne_of_ne_of_eq (by decide) (outStatus_reset n inRange).symm)

/-- A realignment is reported in OUT_EVT alone. -/
theorem State.realign_rd_listed (inRange : n < 24) {a : Nat} (other : a ≠ OUT_EVT n) (b : Bool) :
    (s.when b (·.raise (OUT_EVT_REALIGN n))).rd a = s.rd a := by
  refine State.when_apply (fun t => t.rd a) (State.rd_set_listed (ne_resetWord_of_getBits (lo := 1) (width := 1) ?_) other)
  have one : getBits (putBits (s.rd (OUT_EVT n)) 1 1 1) 1 1 = 1 := getBits_putBits_same (by decide) 1
  exact ne_of_eq_of_ne one (ne_of_ne_of_eq (by decide) (outEvt_reset n inRange).symm)

theorem State.outFlip_rd (t : Rat) (b : Bool) (a : Nat) : (s.outFlip n t b).rd a = s.rd a := rfl
theorem State.outFlip_axles (t : Rat) (b : Bool) : (s.outFlip n t b).axles = s.axles := rfl

/-- What a leading edge lacks of the alignment of R216: the period before the next is lengthened by it. -/
def State.pulseExtra (s : State) (n : Nat) : Int :=
  ((s.outp n).phase * 2 ^ 16 - ((s.axleSpan ((s.outp n).src + 1)).1 + (s.outp n).lead)) % (s.get (OUT_PERIOD_PERIOD n) * nsTime)

/-- The state of an output after a leading edge at `x`, by the fields its registers give. -/
def State.pulseLed (s : State) (n : Nat) (x : Rat) (b : Bool) : OutSt :=
  let o := s.outp n
  { ({ o with fine := fineNext o.fine (s.get (OUT_DELAY_FINE n)) } : OutSt).flipped x b with
    lead := o.lead + s.get (OUT_PERIOD_PERIOD n) * nsTime + s.pulseExtra n
    trail := o.lead + s.get (OUT_WIDTH_WIDTH n) * nsTime
    inside := true }

theorem State.pulseLed_listed (x : Rat) (b : Bool) : s.pulseLed n x b ≠ default := fun reset =>
  absurd (congrArg OutSt.inside reset) (by decide : ¬ true = false)

theorem State.outFallen_goes (goes : (s.outp n).stopping = false) : s.outFallen n = s := by
  rw [State.outFallen, goes, Bool.false_and, if_neg Bool.false_ne_true]

theorem State.axleSpan_congr {u : State} (axles : u.axles = s.axles) (a : Nat) : (u.axleSpan a).1 = (s.axleSpan a).1 := by
  simp only [State.axleSpan, State.axleAhead, State.axle, axles]

theorem State.pulseLead_led (inRange : n < 24) (runs : s.get (OUT_STATUS_STATE n) = 2) (pulse : (s.outp n).pulse = true)
    (goes : (s.outp n).stopping = false) :
    ∃ (t : State) (x : Rat) (b : Bool), s.pulseLead n = t.setOutp n (s.pulseLed n x b) ∧ t.axles = s.axles := by
  simp only [State.pulseLead]
  generalize (s.pwr.state != .keep && s.get (AXL_STATUS_STATE ((s.outp n).src + 1)) == 3) = kept
  set s1 := s.when kept (·.set (OUT_STATUS_KEEP_ACTIVE n) 0) with cleared
  have outp1 : s1.outp n = s.outp n := State.when_apply (fun t => t.outp n) rfl
  have axles1 : s1.axles = s.axles := State.when_apply State.axles rfl
  have fine1 : s1.get (OUT_DELAY_FINE n) = s.get (OUT_DELAY_FINE n) :=
    congrArg (getBits · 0 8) (State.keepCleared_rd inRange runs (by unfold OUT_DELAY_FINE OUT_DELAY OUT_STATUS; simp) kept)
  have period1 : s1.get (OUT_PERIOD_PERIOD n) = s.get (OUT_PERIOD_PERIOD n) :=
    congrArg (getBits · 0 32) (State.keepCleared_rd inRange runs (by unfold OUT_PERIOD_PERIOD OUT_PERIOD OUT_STATUS; simp) kept)
  have width1 : s1.get (OUT_WIDTH_WIDTH n) = s.get (OUT_WIDTH_WIDTH n) :=
    congrArg (getBits · 0 32) (State.keepCleared_rd inRange runs (by unfold OUT_WIDTH_WIDTH OUT_WIDTH OUT_STATUS; simp) kept)
  simp only [outp1, fine1, State.setOutp_get, period1]
  set o : OutSt := { s.outp n with fine := fineNext (s.outp n).fine (s.get (OUT_DELAY_FINE n)) } with fined
  have listed : o ≠ default := fun reset => by
    have : o.pulse = false := by rw [reset]; rfl
    exact absurd (pulse.symm.trans this) (by decide)
  rw [State.axleSpan_congr (s := s) (by rw [State.setOutp_axles, axles1])]
  generalize (s1.setOutp n o).pulseAt n (s.outp n).lead = x
  generalize (s1.setOutp n o).pulseLevel n true = b
  generalize decide ((_ : Int) ≠ 0) = off
  rw [State.outFlip_setOutp listed]
  set s3 := ((s1.setOutp n o).setOutp n (o.flipped x b)).when off (·.raise (OUT_EVT_REALIGN n)) with placed
  have flips : o.flipped x b ≠ default := fun reset => by
    have : o.pulse = false := congrArg OutSt.pulse reset
    exact absurd (pulse.symm.trans this) (by decide)
  have outp3 : s3.outp n = o.flipped x b := (State.when_apply (fun t => t.outp n) rfl).trans (State.outp_setOutp flips)
  have width3 : s3.get (OUT_WIDTH_WIDTH n) = s.get (OUT_WIDTH_WIDTH n) := by
    refine (congrArg (getBits · 0 32) (State.realign_rd_listed inRange (by unfold OUT_WIDTH_WIDTH OUT_WIDTH OUT_EVT; simp) off)).trans ?_
    exact width1
  have axles3 : s3.axles = s.axles := (State.when_apply State.axles rfl).trans axles1
  simp only [outp3, width3]
  refine ⟨s3, x, b, ?_, axles3⟩
  refine State.outFallen_goes (s := s3.setOutp n (s.pulseLed n x b)) ?_
  rw [State.outp_setOutp (State.pulseLed_listed x b)]
  exact goes

/-- A boundary is a whole number of periods from the alignment once what was lacking is made up. -/
theorem pulseLed_aligned (at_ lead phase p : Int) : (at_ + (lead + p + (phase - (at_ + lead)) % p) - phase) % p = 0 := by
  have rest : at_ + (lead + p + (phase - (at_ + lead)) % p) - phase = p * (1 - (phase - (at_ + lead)) / p) := by
    rw [Int.emod_def]
    ring
  rw [rest, Int.mul_emod_right]

theorem State.outEdge_pulse (runs : s.get (OUT_STATUS_STATE n) = 2) (pulse : (s.outp n).pulse = true) : s.outEdge n = s.pulseLead n := by
  simp only [State.outEdge, runs, pulse, ne_eq, not_true_eq_false, if_false, if_true]

/-- Settles O34: an output is enabled, starts, takes a phase, and its dividers and delays come into force (R210, R212 to R216, R218,
R219). -/
theorem outputCommandsComplete : Obligations.OutputCommandsComplete := by
  unfold Obligations.OutputCommandsComplete
  refine ⟨?enable, ?disable, ?same, ?start, ?waits, ?phase, ?still, ?rises, ?leads⟩
  case enable =>
    intro s m n v w r inRange at_ was enable word u
    have write := (State.when_access inRange at_).trans (State.outCfgWrite_enable (m := m) (s := s.answer m .ok) word was enable)
    exact ⟨fun legal => congrArg Host.Outcome.next (write.trans (if_pos legal)),
      fun illegal => congrArg Host.Outcome.next (write.trans (if_neg (by simpa using illegal)))⟩
  case disable =>
    intro s m n v w r inRange at_ was disable word
    exact congrArg Host.Outcome.next ((State.when_access inRange at_).trans
      (State.outCfgWrite_disable (s := s.answer m .ok) word was disable))
  case same =>
    intro s m n v w r inRange at_ same fixed word
    exact congrArg Host.Outcome.next ((State.when_access inRange at_).trans
      (State.outCfgWrite_same (s := s.answer m .ok) word same fixed))
  case start =>
    intro s n c inRange u held free locked ready waited
    exact congrArg Host.Outcome.next ((State.when_decide inRange).trans
      (State.outStart_eq.trans (State.when_pos (State.outWaited_ready held free locked ready waited))))
  case waits =>
    exact fun s n inRange waits =>
      congrArg Host.Outcome.next ((State.when_decide inRange).trans (State.outStart_eq.trans (State.when_neg waits)))
  case phase =>
    intro s m n v w r inRange at_ word u o inPeriod
    exact congrArg Host.Outcome.next ((State.when_access inRange at_).trans
      (State.outPhaseWrite_taken (s := s.answer m .ok) word inPeriod))
  case still => exact fun s n _ still => congrArg Host.Outcome.next (State.when_same (if_pos still))
  case rises =>
    intro s n inRange wf runs clock low divided
    dsimp only
    obtain ⟨b, x, edge⟩ := State.outEdge_divided wf runs clock low divided
    have listed : (s.outRisen n (s.outSpan n).1.ceil).flipped x true ≠ default := fun reset =>
      absurd (congrArg OutSt.high reset) (by decide : ¬ true = false)
    refine ⟨_, congrArg Host.Outcome.next ((State.when_decide inRange).trans edge), ?_⟩
    rw [State.outp_setOutp listed]
    obtain ⟨after, before, aligned⟩ := alignUp_first (d := s.get (OUT_DIV_DIV n)) (by omega)
      ((s.outSpan n).1.ceil + (s.outp n).rise + (s.get (OUT_DIV_DIV n) : Nat))
      (((s.outp n).base : Int) + s.get (OUT_DELAY_COARSE n))
    have next : ((s.outRisen n (s.outSpan n).1.ceil).rise : Int) = s.outNext n (s.outSpan n).1.ceil - (s.outSpan n).1.ceil :=
      Int.toNat_of_nonneg (by unfold State.outNext; omega)
    rw [State.outNext] at next
    refine ⟨rfl, rfl, rfl, rfl, rfl, ?after, ?before, ?aligned, fun a other => ?regs, ?out, ?axles⟩
    case after => exact (show (s.outp n).rise + s.get (OUT_DIV_DIV n) ≤ (s.outRisen n (s.outSpan n).1.ceil).rise by omega)
    case before => exact (show (s.outRisen n (s.outSpan n).1.ceil).rise < (s.outp n).rise + 2 * s.get (OUT_DIV_DIV n) by omega)
    case aligned =>
      refine (congrArg (· % (s.get (OUT_DIV_DIV n) : Int)) ?_).trans aligned
      change (s.outSpan n).1.ceil + ((s.outRisen n (s.outSpan n).1.ceil).rise : Int) - _ = _
      rw [next]
      omega
    case regs =>
      rw [State.setOutp_rd, State.setOutp_rd]
      exact State.realign_rd wf other b
    case out =>
      rw [State.setOutp_out, State.setOutp_out]
      exact State.when_apply State.out (State.set_out ..)
    case axles =>
      rw [State.setOutp_axles, State.setOutp_axles]
      exact State.when_apply State.axles (State.set_axles ..)
  case leads =>
    intro s n inRange runs pulse goes period
    obtain ⟨t, x, b, lead, axles⟩ := State.pulseLead_led inRange runs pulse goes
    refine ⟨_, congrArg Host.Outcome.next ((State.when_decide inRange).trans ((State.outEdge_pulse runs pulse).trans lead)), ?_⟩
    rw [State.outp_setOutp (State.pulseLed_listed x b)]
    have pos : (0 : Int) < s.get (OUT_PERIOD_PERIOD n) * nsTime := by unfold nsTime; omega
    have low := Int.emod_nonneg ((s.outp n).phase * 2 ^ 16 - ((s.axleSpan ((s.outp n).src + 1)).1 + (s.outp n).lead)) pos.ne'
    have high := Int.emod_lt_of_pos ((s.outp n).phase * 2 ^ 16 - ((s.axleSpan ((s.outp n).src + 1)).1 + (s.outp n).lead)) pos
    refine ⟨rfl, rfl, rfl, ?after, ?before, ?aligned, ?axles⟩
    case after =>
      change _ ≤ (s.outp n).lead + s.get (OUT_PERIOD_PERIOD n) * nsTime + s.pulseExtra n
      unfold State.pulseExtra
      omega
    case before =>
      change (s.outp n).lead + s.get (OUT_PERIOD_PERIOD n) * nsTime + s.pulseExtra n < _
      unfold State.pulseExtra
      omega
    case aligned => exact pulseLed_aligned _ _ _ _
    case axles => rw [State.setOutp_axles, axles]

end Sys2Proof.Machine

/-! What a change leaves of the register file: the registers it writes are listed, and all others read as before. -/

namespace Sys2Proof.Machine

variable {s t u : State} {l : List Nat}

/-- The state `t` has the register file of `s` but for the registers listed, and in canonical form where that is. -/
structure WritesOnly (l : List Nat) (s t : State) : Prop where
  wf : s.regsWf = true → t.regsWf = true
  rd : s.regsWf = true → ∀ a, a ∉ l → t.rd a = s.rd a

theorem WritesOnly.refl (s : State) : WritesOnly l s s := ⟨id, fun _ _ _ => rfl⟩

theorem WritesOnly.trans (h : WritesOnly l s t) (g : WritesOnly l t u) : WritesOnly l s u :=
  ⟨fun wf => g.wf (h.wf wf), fun wf a other => (g.rd (h.wf wf) a other).trans (h.rd wf a other)⟩

theorem WritesOnly.mono {l' : List Nat} (h : WritesOnly l s t) (more : l ⊆ l') : WritesOnly l' s t :=
  ⟨h.wf, fun wf a other => h.rd wf a fun listed => other (more listed)⟩

theorem WritesOnly.of_regs (h : t.regs = s.regs) : WritesOnly l s t :=
  ⟨fun wf => by rwa [State.regsWf, h], fun _ a _ => State.rd_congr h a⟩

theorem WritesOnly.wr (h : WritesOnly l s t) {a : Nat} (listed : a ∈ l) (w : Word) : WritesOnly l s (t.wr a w) :=
  h.trans ⟨fun wf => State.wr_regsWf wf a w, fun wf _ other => State.rd_wr_ne wf w fun same => other (same ▸ listed)⟩

theorem WritesOnly.set (h : WritesOnly l s t) {f : FieldRef} (listed : f.addr ∈ l) (v : Nat) : WritesOnly l s (t.set f v) :=
  h.wr listed _

theorem WritesOnly.when {g : State → State} (h : WritesOnly l s t) (hg : ∀ u, WritesOnly l u (g u)) (b : Bool) :
    WritesOnly l s (t.when b g) := by
  cases b
  · exact h
  · exact h.trans (hg t)

theorem WritesOnly.get (h : WritesOnly l s t) (wf : s.regsWf = true) {f : FieldRef} (other : f.addr ∉ l) : t.get f = s.get f := by
  rw [State.get, h.rd wf _ other, State.get]

theorem WritesOnly.on (h : WritesOnly l s t) (wf : s.regsWf = true) {f : FieldRef} (other : f.addr ∉ l) : t.on f = s.on f := by
  rw [State.on, h.get wf other, State.on]

end Sys2Proof.Machine

/-! Settles O35, the time domains and served time (chapter 10). What served time makes of a change moves no domain and writes its own two
registers alone; what a change of count and epoch writes is said beside it. -/

namespace Sys2Proof.Machine

variable {s t u : State} {m : Master} {r : RegRow} {v w : Word} {d c e a : Nat} {x : Int}

/-! ### What leaves a domain as it is -/

theorem State.dom_congr (h : t.tim = s.tim) : t.dom d = s.dom d := by simp only [State.dom, h]

@[simp] theorem State.wr_dom (b : Nat) (w : Word) : (s.wr b w).dom d = s.dom d := State.dom_congr (State.wr_tim ..)
@[simp] theorem State.set_dom (f : FieldRef) (v : Nat) : (s.set f v).dom d = s.dom d := State.dom_congr (State.set_tim ..)

theorem State.setDom_dom (y : TimDom) : (s.setDom d y).dom d = y := by
  unfold State.dom State.setDom
  by_cases zero : d = 0 <;> simp [zero]

/-- A domain that takes the state it has is as it was. -/
theorem State.setDom_unshifted (none_ : (s.dom d).shift = none) : s.setDom d { s.dom d with shift := none } = s.setDom d (s.dom d) := by
  rw [← none_]

@[simp] theorem State.setDom_rd (y : TimDom) : (s.setDom d y).rd a = s.rd a := by unfold State.setDom; split <;> rfl
@[simp] theorem State.setDom_get (y : TimDom) (f : FieldRef) : (s.setDom d y).get f = s.get f := by rw [State.get, State.setDom_rd, State.get]
@[simp] theorem State.setDom_on (y : TimDom) (f : FieldRef) : (s.setDom d y).on f = s.on f := by rw [State.on, State.setDom_get, State.on]
@[simp] theorem State.setDom_getWide (y : TimDom) (lo hi k : Nat) : (s.setDom d y).getWide lo hi k = s.getWide lo hi k := by
  rw [State.getWide, State.setDom_rd, State.setDom_rd, State.getWide]
@[simp] theorem State.setDom_regsWf (y : TimDom) : (s.setDom d y).regsWf = s.regsWf := by unfold State.setDom; split <;> rfl

/-- An event queued for the mailboxes changes no register and no time. -/
theorem State.queueEvent_regs (bit : Nat) (ws : List Word) : (s.queueEvent bit ws).regs = s.regs :=
  State.each_apply State.regs (fun _ _ => State.when_apply State.regs rfl) _ s

theorem State.queueEvent_tim (bit : Nat) (ws : List Word) : (s.queueEvent bit ws).tim = s.tim :=
  State.each_apply State.tim (fun _ _ => State.when_apply State.tim rfl) _ s

/-! ### Served time -/

/-- The state `t` has what `s` has, but for served time: no domain has moved, and no register has changed but its STATUS and EVT. -/
structure ServedAlone (s t : State) : Prop extends WritesOnly [TIM_SRV_STATUS, TIM_SRV_EVT] s t where
  dom : ∀ d, t.dom d = s.dom d

theorem ServedAlone.refl (s : State) : ServedAlone s s := ⟨.refl s, fun _ => rfl⟩

theorem ServedAlone.trans (h : ServedAlone s t) (g : ServedAlone t u) : ServedAlone s u :=
  ⟨h.toWritesOnly.trans g.toWritesOnly, fun d => (g.dom d).trans (h.dom d)⟩

theorem ServedAlone.when {g : State → State} (h : ∀ t, ServedAlone t (g t)) (b : Bool) : ServedAlone s (s.when b g) := by
  cases b
  · exact .refl s
  · exact h s

theorem ServedAlone.set (h : ServedAlone s t) {f : FieldRef} (own : f.addr ∈ [TIM_SRV_STATUS, TIM_SRV_EVT]) (v : Nat) :
    ServedAlone s (t.set f v) :=
  ⟨h.toWritesOnly.set own v, fun d => (State.set_dom ..).trans (h.dom d)⟩

theorem State.status_mem : TIM_SRV_STATUS ∈ [TIM_SRV_STATUS, TIM_SRV_EVT] := List.mem_cons_self
theorem State.evt_mem : TIM_SRV_EVT ∈ [TIM_SRV_STATUS, TIM_SRV_EVT] := List.mem_cons_of_mem _ List.mem_cons_self

theorem State.setAcc_servedAlone : ServedAlone s (s.setAcc x) := by
  unfold State.setAcc
  exact .set (f := TIM_SRV_STATUS_SLEWING) (s := s) (t := { s with tim := { s.tim with acc := x } }) ⟨.of_regs rfl, fun _ => rfl⟩
    State.status_mem _

theorem State.queueEvent_servedAlone (bit : Nat) (ws : List Word) : ServedAlone s (s.queueEvent bit ws) :=
  ⟨.of_regs (State.queueEvent_regs bit ws), fun _ => State.dom_congr (State.queueEvent_tim bit ws)⟩

theorem State.setSrc_servedAlone : ServedAlone s (s.setSrc d) := by
  unfold State.setSrc
  split
  · exact .refl s
  · refine .trans (.set (f := TIM_SRV_EVT_SRC_CHG) (.trans (.set (f := TIM_SRV_STATUS_SRC_IN_FORCE) (.refl s) State.status_mem d) ?_)
      State.evt_mem 1) (State.queueEvent_servedAlone ..)
    split <;> exact State.setAcc_servedAlone

theorem State.autoSource_servedAlone : ServedAlone s s.autoSource := by
  unfold State.autoSource
  split
  · exact .refl s
  · dsimp only
    split <;> exact .when (fun _ => State.setSrc_servedAlone) _

theorem State.servedEval_servedAlone : ServedAlone s s.servedEval :=
  .trans (.when (fun t => .set (f := TIM_SRV_EVT_VALID_SET) (.set (f := TIM_SRV_STATUS_VALID) (.refl t) State.status_mem 1)
    State.evt_mem 1) _) State.autoSource_servedAlone

theorem State.compensate_servedAlone : ServedAlone s (s.compensate d x) := by
  unfold State.compensate
  split
  · exact .refl s
  · split
    · exact .set (f := TIM_SRV_EVT_COMP) State.setAcc_servedAlone State.evt_mem 1
    · exact State.setAcc_servedAlone

/-! ### A change of count and epoch -/

theorem State.retime_dom : (s.retime d c e).dom d = { s.dom d with c := c % cSpan, e := e % 2 ^ 48 } := by
  rw [State.retime, State.compensate_servedAlone.dom]
  refine (State.when_apply (State.dom · d) ?_).trans ?_
  · simp only [State.raise, State.count, State.set_dom]
  · simp only [State.setWide, State.wr_dom, State.setDom_dom]

/-- What a change of count and epoch can write: the registers of the epoch, of events and counts, and of served time. -/
def retimeRegs (d : Nat) : List Nat := [TIM_EPOCH_LO d, TIM_EPOCH_HI d, TIM_EVT d, TIM_COUNT d, TIM_SRV_STATUS, TIM_SRV_EVT]

theorem State.setDom_writes {l : List Nat} (y : TimDom) : WritesOnly l s (s.setDom d y) :=
  ⟨fun wf => by rwa [State.setDom_regsWf], fun _ _ _ => State.setDom_rd y⟩

theorem State.retime_writes : WritesOnly (retimeRegs d) s (s.retime d c e) := by
  rw [State.retime]
  refine .trans ?_ (State.compensate_servedAlone.toWritesOnly.mono (by simp [retimeRegs]))
  exact .when (.wr (.wr (State.setDom_writes _) (by simp [retimeRegs]) _) (by simp [retimeRegs]) _)
    (fun u => .set (.set (f := TIM_EVT_EPOCH_CHG d) (.refl u) (by simp [retimeRegs, TIM_EVT_EPOCH_CHG]) 1)
      (by simp [retimeRegs, TIM_COUNT_EPOCH_CHANGES]) _) _

theorem snapCtrl_not_retimed : TIM_SNAP_CTRL ∉ retimeRegs d := by
  simp only [retimeRegs, List.mem_cons, List.not_mem_nil, or_false, TIM_SNAP_CTRL, TIM_EPOCH_LO, TIM_EPOCH_HI, TIM_EVT, TIM_COUNT, TIM_SRV_STATUS,
    TIM_SRV_EVT]
  omega

theorem timStatus_not_retimed : TIM_STATUS d ∉ retimeRegs d := by
  simp only [retimeRegs, List.mem_cons, List.not_mem_nil, or_false, TIM_STATUS, TIM_EPOCH_LO, TIM_EPOCH_HI, TIM_EVT, TIM_COUNT, TIM_SRV_STATUS,
    TIM_SRV_EVT]
  omega

/-! ### Writes of the increment and of TIM_CTRL -/

theorem State.incWrite_taken (off : s.loopState d = 0) (taken : writeFields r.fields (s.rd (TIM_INC_HI d)) v = (w, false))
    (low : 3516677990279 ≤ (s.rd (TIM_INC_LO d)).toNat + fieldOf (TIM_INC_HI_INC_HI d) v * 2 ^ 32)
    (high : (s.rd (TIM_INC_LO d)).toNat + fieldOf (TIM_INC_HI_INC_HI d) v * 2 ^ 32 ≤ 3520196427487) :
    s.incWrite m d true v r =
      (s.wr (TIM_INC_HI d) w).setInc d ((s.rd (TIM_INC_LO d)).toNat + fieldOf (TIM_INC_HI_INC_HI d) v * 2 ^ 32) := by
  have inRange := not_or.2 ⟨Nat.not_lt.2 low, Nat.not_lt.2 high⟩
  simp only [State.incWrite, off, State.plainWrite_ok taken, if_neg inRange, ne_eq, not_true_eq_false, if_false, if_true, Bool.not_true,
    Bool.false_eq_true]

theorem State.incWrite_running (runs : s.loopState d ≠ 0) : s.incWrite m d true v r = s.refuseWrite m (TIM_INC_HI d) := by
  simp only [State.incWrite, if_pos runs, if_true]

theorem State.timCtrlWrite_set (set : v.getLsbD 0 = true) (arm : v.getLsbD 1 = false) (step : v.getLsbD 2 = false) :
    s.timCtrlWrite m d v r = s.timSet m d := by
  simp only [State.timCtrlWrite, set, arm, step, State.when_true, State.when_false]

theorem State.timCtrlWrite_step (set : v.getLsbD 0 = false) (arm : v.getLsbD 1 = false) (step : v.getLsbD 2 = true) :
    s.timCtrlWrite m d v r = s.timStep m d := by
  simp only [State.timCtrlWrite, set, arm, step, State.when_true, State.when_false]

theorem State.timCtrlWrite_arm (set : v.getLsbD 0 = false) (arm : v.getLsbD 1 = true) (step : v.getLsbD 2 = false) :
    s.timCtrlWrite m d v r = s.set (TIM_STATUS_SEC_PENDING d) 1 := by
  simp only [State.timCtrlWrite, set, arm, step, State.when_true, State.when_false]

theorem State.timSet_off (off : s.loopState d = 0) : s.timSet m d =
    (((s.retime d (s.getWide (TIM_SET_SEC_LO d) (TIM_SET_SEC_HI d) 16 * (10 ^ 9 * 2 ^ 40) + s.get (TIM_SET_NS_NS d) * 2 ^ 40) 0).raise
      (TIM_EVT_STEPPED d)).count (TIM_COUNT_C_STEPS d)).secValid d := by
  simp only [State.timSet, off, ne_eq, not_true_eq_false, if_false, secUnit]

theorem State.timStep_ns (sec : s.getI (TIM_STEP_SEC_STEP_SEC d) = 0) (ns : s.getI (TIM_STEP_NS_STEP_NS d) ≠ 0)
    (off : s.loopState d = 0) : s.timStep m d = s.stepC d (s.getI (TIM_STEP_NS_STEP_NS d) * 2 ^ 40) := by
  simp only [State.timStep, sec, off, if_neg ns, ne_eq, not_true_eq_false, and_false, if_false, if_true]

theorem State.timStep_sec (sec : s.getI (TIM_STEP_SEC_STEP_SEC d) ≠ 0) (ns : s.getI (TIM_STEP_NS_STEP_NS d) = 0) :
    s.timStep m d =
      s.retime d (s.dom d).c ((((s.dom d).e : Int) + s.getI (TIM_STEP_SEC_STEP_SEC d)) % (2 ^ 48 : Int)).toNat := by
  simp only [State.timStep, ns, if_neg sec, ne_eq, not_true_eq_false, false_and, if_false, if_true]

/-! ### Second boundaries -/

theorem State.relabel_idle (unarmed : s.on (TIM_STATUS_SEC_PENDING d) = false) (idle : (s.dom d).shift = none) (sec : Nat) :
    s.relabel d sec = s.setDom d (s.dom d) := by
  simp only [State.relabel, State.setDom_on, unarmed, Bool.false_eq_true, if_false, idle, State.setDom_unshifted idle]

theorem State.relabel_shifted (unarmed : s.on (TIM_STATUS_SEC_PENDING d) = false) (shifted : (s.dom d).shift = some x) (sec : Nat) :
    s.relabel d sec = ((s.setDom d { s.dom d with shift := none }).retime d (s.dom d).c
      ((((s.dom d).e : Int) + x) % (2 ^ 48 : Int)).toNat).raise (TIM_EVT_TOD_CORR d) := by
  simp only [State.relabel, State.setDom_on, unarmed, Bool.false_eq_true, if_false, shifted, State.setDom_dom]

theorem State.relabel_armed (armed : s.on (TIM_STATUS_SEC_PENDING d) = true) (sec : Nat) :
    s.relabel d sec = (((s.setDom d { s.dom d with shift := none }).set (TIM_STATUS_SEC_PENDING d) 0).retime d (s.dom d).c
      (((s.getWide (TIM_SET_SEC_LO d) (TIM_SET_SEC_HI d) 16 : Int) - sec) % (2 ^ 48 : Int)).toNat).secValid d := by
  simp only [State.relabel, State.setDom_on, armed, if_true, State.setDom_getWide, State.setDom_dom]

theorem State.relabel_writes (sec : Nat) : WritesOnly (TIM_STATUS d :: retimeRegs d) s (s.relabel d sec) := by
  have retimed {u : State} {c e : Nat} : WritesOnly (TIM_STATUS d :: retimeRegs d) u (u.retime d c e) :=
    State.retime_writes.mono (List.subset_cons_self ..)
  unfold State.relabel
  dsimp only
  split
  · refine .trans (.set (f := TIM_STATUS_SEC_VALID d) (.trans (.set (f := TIM_STATUS_SEC_PENDING d) (State.setDom_writes _) ?_ 0) retimed) ?_ 1)
      (State.servedEval_servedAlone.toWritesOnly.mono ?_) <;> simp [retimeRegs, TIM_STATUS_SEC_PENDING, TIM_STATUS_SEC_VALID]
  · split
    · exact State.setDom_writes _
    · exact .set (f := TIM_EVT_TOD_CORR d) (.trans (State.setDom_writes _) retimed) (by simp [retimeRegs, TIM_EVT_TOD_CORR]) 1

theorem State.secondBoundary_untriggered (wf : s.regsWf = true) (untriggered : s.on TIM_SNAP_CTRL_TRIG = false) :
    s.secondBoundary d = s.relabel d (s.boundarySec d) := by
  have other : TIM_SNAP_CTRL ∉ TIM_STATUS d :: retimeRegs d := by
    rw [List.mem_cons, not_or]
    exact ⟨by unfold TIM_SNAP_CTRL TIM_STATUS; omega, snapCtrl_not_retimed⟩
  rw [State.secondBoundary, (State.relabel_writes _).on wf (f := TIM_SNAP_CTRL_TRIG) other, untriggered, Bool.and_false, State.when_false]

theorem State.secondBoundary_idle (unarmed : s.on (TIM_STATUS_SEC_PENDING d) = false) (idle : (s.dom d).shift = none)
    (untriggered : s.on TIM_SNAP_CTRL_TRIG = false) : s.secondBoundary d = s.setDom d (s.dom d) := by
  simp only [State.secondBoundary, State.relabel_idle unarmed idle, State.setDom_on, untriggered, Bool.and_false, State.when_false]

theorem State.secondBoundary_triggered (unarmed : s.on (TIM_STATUS_SEC_PENDING 0) = false) (idle : (s.dom 0).shift = none)
    (triggered : s.on TIM_SNAP_CTRL_TRIG = true) : s.secondBoundary 0 = (s.setDom 0 (s.dom 0)).snapshot := by
  simp only [State.secondBoundary, State.relabel_idle unarmed idle, State.setDom_on, triggered, decide_true, Bool.and_self, State.when_true]

/-- What an armed SET_SEC makes of a domain: its count and epoch, its seconds named and nothing armed. -/
theorem State.armed_secValid (wf : s.regsWf = true) :
    let t := ((s.set (TIM_STATUS_SEC_PENDING d) 0).retime d c e).secValid d
    t.dom d = { s.dom d with c := c % cSpan, e := e % 2 ^ 48 } ∧ t.on (TIM_STATUS_SEC_PENDING d) = false ∧
      t.on (TIM_STATUS_SEC_VALID d) = true := by
  have cleared := State.set_regsWf wf (TIM_STATUS_SEC_PENDING d) 0
  have retimed := State.retime_writes (d := d) (c := c) (e := e) |>.wf cleared
  have served : TIM_STATUS d ∉ [TIM_SRV_STATUS, TIM_SRV_EVT] := fun h =>
    timStatus_not_retimed (List.mem_of_mem_drop (i := 4) h)
  have reads {f : FieldRef} (addr : f.addr = TIM_STATUS d) := State.servedEval_servedAlone.on
    (State.set_regsWf retimed (TIM_STATUS_SEC_VALID d) 1) (f := f) (addr ▸ served)
  dsimp only
  unfold State.secValid
  refine ⟨?_, (reads rfl).trans (State.on_eq_false.2 ?_), (reads rfl).trans (State.on_eq_true.2 ?_)⟩
  · rw [State.servedEval_servedAlone.dom, State.set_dom, State.retime_dom, State.set_dom]
  · rw [State.get_set_apart retimed _ _ (by simp [TIM_STATUS_SEC_VALID]) _ (.inr (.inr (by simp [TIM_STATUS_SEC_VALID, TIM_STATUS_SEC_PENDING]))), State.retime_writes.get cleared timStatus_not_retimed,
      State.get_set_same wf _ (by simp [TIM_STATUS_SEC_PENDING]), Nat.zero_mod]
  · rw [State.get_set_same retimed _ (by simp [TIM_STATUS_SEC_VALID])]
    simp [TIM_STATUS_SEC_VALID]

/-- The epoch a boundary gives a domain, brought into its 48 bits (R227). -/
theorem epoch_cast (x : Int) : (((x % (2 ^ 48 : Int)).toNat % 2 ^ 48 : Nat) : Int) = x % 2 ^ 48 := by omega

/-! ### Snapshots and served time -/

theorem State.snapWrite_take (taken : writeFields r.fields (s.rd TIM_SNAP_CTRL) v = (w, false))
    (take : (s.wr TIM_SNAP_CTRL w).on TIM_SNAP_CTRL_TAKE = true) :
    s.snapWrite m v r = ((s.wr TIM_SNAP_CTRL w).set TIM_SNAP_CTRL_TAKE 0).snapshot := by
  simp only [State.snapWrite, State.plainWrite_ok taken, take, State.when_true]

theorem State.servedSlewEnd_valid (valid : s.on TIM_SRV_STATUS_VALID = true) (rate : s.get TIM_SRV_RATE_RATE ≠ 0) :
    s.servedSlewEnd = s.setAcc (s.srvTarget s.srvSrc) := State.when_pos (by simp [valid, rate])

theorem State.servedSlewEnd_invalid (invalid : s.on TIM_SRV_STATUS_VALID = false) : s.servedSlewEnd = s :=
  State.when_neg (by rw [invalid, Bool.false_and])

theorem State.setAcc_tim : (s.setAcc x).tim = { s.tim with acc := x } := State.set_tim ..

/-- Served time slews no more once the accumulator stands at the target of its source. -/
theorem State.setAcc_slewing (wf : s.regsWf = true) : (s.setAcc (s.srvTarget s.srvSrc)).get TIM_SRV_STATUS_SLEWING = 0 := by
  have still : ({ s with tim := { s.tim with acc := s.srvTarget s.srvSrc } } : State).srvTarget
    ({ s with tim := { s.tim with acc := s.srvTarget s.srvSrc } } : State).srvSrc = s.srvTarget s.srvSrc := rfl
  unfold State.setAcc
  dsimp only
  rw [State.get_setB_same (by exact wf) rfl (by decide), still, decide_eq_false (not_not.2 rfl)]
  rfl

/-- Settles O35: setting and stepping a domain, its increment, second boundaries and snapshots; served time (R229, R231 to R234, R240,
R241, R246). -/
theorem timeCommandsComplete : Obligations.TimeCommandsComplete := by
  unfold Obligations.TimeCommandsComplete
  refine ⟨?inc, ?incRuns, ?set, ?setRuns, ?stepNs, ?stepSec, ?arm, ?idle, ?shift, ?armed, ?trigger, ?take, ?targetA, ?targetB, ?slewEnd,
    ?noSlew, ?revert, ?noRevert⟩
  case inc =>
    intro s m d v w r inRange at_ off taken inc low high
    exact congrArg Host.Outcome.next ((State.when_access inRange at_).trans
      (State.incWrite_taken (s := s.answer m .ok) off taken low high))
  case incRuns =>
    intro s m d v r inRange at_ runs
    exact congrArg Host.Outcome.next ((State.when_access inRange at_).trans (State.incWrite_running (s := s.answer m .ok) runs))
  case set =>
    intro s m d v r inRange at_ off set arm step c
    exact congrArg Host.Outcome.next ((State.when_access inRange at_).trans
      ((State.timCtrlWrite_set set arm step).trans (State.timSet_off (s := s.answer m .ok) off)))
  case setRuns =>
    intro s m d v r inRange at_ runs set arm step
    exact congrArg Host.Outcome.next ((State.when_access inRange at_).trans
      ((State.timCtrlWrite_set set arm step).trans (if_pos runs)))
  case stepNs =>
    intro s m d v r inRange at_ set arm step sec off ns
    exact congrArg Host.Outcome.next ((State.when_access inRange at_).trans
      ((State.timCtrlWrite_step set arm step).trans (State.timStep_ns (s := s.answer m .ok) sec ns off)))
  case stepSec =>
    intro s m d v r inRange at_ set arm step sec ns
    exact congrArg Host.Outcome.next ((State.when_access inRange at_).trans
      ((State.timCtrlWrite_step set arm step).trans (State.timStep_sec (s := s.answer m .ok) sec ns)))
  case arm =>
    intro s m d v r inRange at_ set arm step
    exact congrArg Host.Outcome.next ((State.when_access inRange at_).trans (State.timCtrlWrite_arm set arm step))
  case idle =>
    intro s d inRange unarmed idle untriggered
    exact congrArg Host.Outcome.next ((State.when_decide inRange).trans (State.secondBoundary_idle unarmed idle untriggered))
  case shift =>
    intro s d x inRange wf unarmed shifted untriggered
    have boundary := (State.secondBoundary_untriggered wf untriggered).trans (State.relabel_shifted unarmed shifted (s.boundarySec d))
    have retimed := (State.retime_writes (d := d) (c := (s.dom d).c) (e := (((s.dom d).e + x) % (2 ^ 48 : Int)).toNat)).wf
      ((State.setDom_regsWf (s := s) (d := d) { s.dom d with shift := none }).trans wf)
    refine ⟨_, congrArg Host.Outcome.next ((State.when_decide inRange).trans boundary), ?_⟩
    simp only [State.raise, State.set_dom, State.retime_dom, State.setDom_dom, epoch_cast, true_and]
    exact State.get_set_same retimed _ (by simp [TIM_EVT_TOD_CORR]) 1
  case armed =>
    intro s d inRange wf armed untriggered
    have boundary := (State.secondBoundary_untriggered wf untriggered).trans (State.relabel_armed armed (s.boundarySec d))
    refine ⟨_, congrArg Host.Outcome.next ((State.when_decide inRange).trans boundary), ?_⟩
    obtain ⟨dom, pending, valid⟩ := State.armed_secValid (d := d) (c := (s.dom d).c) (e := (((s.getWide (TIM_SET_SEC_LO d) (TIM_SET_SEC_HI d) 16 : Int) -
      s.boundarySec d) % (2 ^ 48 : Int)).toNat) ((State.setDom_regsWf (s := s) (d := d) { s.dom d with shift := none }).trans wf)
    simp only [dom, State.setDom_dom, pending, valid, epoch_cast, and_self]
  case trigger =>
    exact fun s unarmed idle triggered => congrArg Host.Outcome.next
      ((State.when_decide (by decide)).trans (State.secondBoundary_triggered unarmed idle triggered))
  case take =>
    intro s m v w r at_ taken u take
    exact congrArg Host.Outcome.next ((State.access_row at_).trans (State.snapWrite_take (s := s.answer m .ok) taken take))
  case targetA =>
    intro s m v w r at_ taken
    refine congrArg Host.Outcome.next ((State.when_access (by decide) at_).trans ?_)
    simp only [State.targetHi, State.plainWrite_ok (s := s.answer m .ok) taken, if_true, State.wr_tim, State.answer_tim]
  case targetB =>
    intro s m v w r at_ taken
    refine congrArg Host.Outcome.next ((State.when_access (by decide) at_).trans ?_)
    simp only [State.targetHi, State.plainWrite_ok (s := s.answer m .ok) taken, Nat.one_ne_zero, if_false, State.wr_tim,
      State.answer_tim]
  case slewEnd =>
    intro s valid rate
    refine ⟨_, congrArg Host.Outcome.next (State.servedSlewEnd_valid valid rate), ?_⟩
    simp only [State.setAcc_tim, true_and]
    exact State.setAcc_slewing
  case noSlew => exact fun s invalid => congrArg Host.Outcome.next (State.servedSlewEnd_invalid invalid)
  case revert =>
    intro s auto away revert locked valid
    exact congrArg Host.Outcome.next (State.when_pos (by simp [auto, away, revert, locked, valid]))
  case noRevert => exact fun s off => congrArg Host.Outcome.next (State.when_neg (by simp [off]))

end Sys2Proof.Machine

/-! Settles O36, the calibration of a port and the registers of a session (chapter 12). -/

namespace Sys2Proof.Machine

variable {s : State} {m : Master} {r : RegRow} {v w : Word} {p k : Nat} {samples : List Nat}

/-! ### Calibration -/

theorem State.calPath_tx (on : s.tseOn = true) (whole : samples.length = 256) :
    let x : Rat := (samples.sum : Nat) / (256 : Rat)
    let new := fine (s.calLatency p true + calWeight * (x - s.calLatency p true))
    s.calPath p true samples = { s with tse := { s.tse with lat := smPut s.tse.lat (2 * p) (some new) } }.set (TSE_PORT_LAT_TX_LAT p)
      (wrapTo 32 (roundAway new)) := by
  simp only [State.calPath, on, whole, pathKey, Bool.not_true, Bool.false_eq_true, ne_eq, not_true_eq_false, or_self, if_false, if_true,
    Nat.add_zero]

theorem State.calPath_rx (on : s.tseOn = true) (whole : samples.length = 256) :
    let x : Rat := (samples.sum : Nat) / (256 : Rat)
    let new := fine (s.calLatency p false + calWeight * (x - s.calLatency p false))
    s.calPath p false samples = { s with tse := { s.tse with lat := smPut s.tse.lat (2 * p + 1) (some new) } }.set
      (TSE_PORT_LAT_RX_LAT p) (wrapTo 32 (roundAway new)) := by
  simp only [State.calPath, on, whole, pathKey, Bool.not_true, Bool.false_eq_true, ne_eq, not_true_eq_false, or_self, if_false]

theorem State.calReady_first (on : s.tseOn = true) (first : s.on (TSE_PORT_STATUS_CAL_OK p) = false) (locked : s.lockSeen p = true) :
    s.calReady p = (s.set (TSE_PORT_STATUS_CAL_OK p) 1).sessionsEval p := by
  simp only [State.calReady, on, first, locked, Bool.not_true, Bool.false_eq_true, or_self, if_false]

theorem State.calReady_again (ok : s.on (TSE_PORT_STATUS_CAL_OK p) = true) : s.calReady p = s := if_pos (.inr (.inl ok))

/-! ### Writes of SESS_CFG -/

theorem State.sessCfgWrite_enable (was : s.on (SESS_CFG_ENABLE k) = false) (enable : v.getLsbD 0 = true)
    (legal : (writeFields r.fields (s.rd (SESS_CFG k)) v).2 = false)
    (taken : writeFields r.fields (s.rd (SESS_CFG k)) (keepField s (SESS_CFG_ENABLE k) v) = (w, false))
    (alone : (s.wr (SESS_CFG k) w).laneOfFat ((s.wr (SESS_CFG k) w).get (SESS_CFG_PORT k)) = false)
    (single : (s.wr (SESS_CFG k) w).sessTwin k = false) :
    let u := (((s.wr (SESS_CFG k) w).set (SESS_CFG_ENABLE k) 1).wr (SESS_COUNT k) 0).sessClear k
    s.sessCfgWrite m k v r = u.setSessState k (if u.get (SESS_CFG_ROLE k) = 0 then 2 else 1) := by
  simp only [State.sessCfgWrite, was, enable, legal, State.plainWrite_ok taken, alone, single, State.when_false, Bool.false_and,
    Bool.not_false, Bool.and_self, Bool.or_self, Bool.false_eq_true, if_false, if_true]

theorem State.sessCfgWrite_disable (was : s.on (SESS_CFG_ENABLE k) = true) (disable : v.getLsbD 0 = false)
    (taken : writeFields r.fields (s.rd (SESS_CFG k)) (keepField s (SESS_CFG_ENABLE k) v) = (w, false)) :
    s.sessCfgWrite m k v r = (((s.wr (SESS_CFG k) w).set (SESS_CFG_ENABLE k) 0).sessClear k).setSessState k 0 := by
  simp only [State.sessCfgWrite, was, disable, State.plainWrite_ok taken, State.when_false, Bool.and_false, Bool.false_and, Bool.not_true,
    Bool.not_false, Bool.and_self, Bool.false_eq_true, if_false, if_true]

theorem State.sessCfgWrite_rebind (was : s.on (SESS_CFG_ENABLE k) = true) (stays : v.getLsbD 0 = true)
    (unguarded : ((sessGuarded k).any fun f => changes s f v) = false)
    (taken : writeFields r.fields (s.rd (SESS_CFG k)) (keepField s (SESS_CFG_ENABLE k) v) = (w, false)) :
    s.sessCfgWrite m k v r = ((s.wr (SESS_CFG k) w).sessClear k).setSessState k
      (if (s.wr (SESS_CFG k) w).get (SESS_CFG_ROLE k) = 0 then 2 else 1) := by
  simp only [State.sessCfgWrite, was, stays, unguarded, State.plainWrite_ok taken, State.when_false, Bool.and_false, Bool.false_and,
    Bool.not_true, Bool.false_eq_true, if_false, if_true]

/-- Settles O36: a port's calibration, and enabling, disabling and rebinding a session (R269, R270, R277, R280, R281). -/
theorem calibrationAndSessionsComplete : Obligations.CalibrationAndSessionsComplete := by
  unfold Obligations.CalibrationAndSessionsComplete
  refine ⟨?tx, ?rx, ?first, ?again, ?enable, ?disable, ?rebind⟩
  case tx =>
    intro s p samples inRange on whole
    exact congrArg Host.Outcome.next ((State.when_decide inRange).trans (State.calPath_tx on whole))
  case rx =>
    intro s p samples inRange on whole
    exact congrArg Host.Outcome.next ((State.when_decide inRange).trans (State.calPath_rx on whole))
  case first =>
    intro s p inRange on first locked
    exact congrArg Host.Outcome.next ((State.when_decide inRange).trans (State.calReady_first on first locked))
  case again => exact fun s p ok => congrArg Host.Outcome.next (State.when_same (State.calReady_again ok))
  case enable =>
    intro s m k v w r inRange at_ was enable legal taken u alone single
    exact congrArg Host.Outcome.next ((State.when_access inRange at_).trans
      (State.sessCfgWrite_enable (s := s.answer m .ok) was enable legal taken alone single))
  case disable =>
    intro s m k v w r inRange at_ was disable taken
    exact congrArg Host.Outcome.next ((State.when_access inRange at_).trans
      (State.sessCfgWrite_disable (s := s.answer m .ok) was disable taken))
  case rebind =>
    intro s m k v w r inRange at_ was stays unguarded taken
    exact congrArg Host.Outcome.next ((State.when_access inRange at_).trans
      (State.sessCfgWrite_rebind (s := s.answer m .ok) was stays unguarded taken))

end Sys2Proof.Machine

/-! Settles O37, the PTP messages a session sends and hears (chapter 12). -/

namespace Sys2Proof.Machine

variable {s : State} {msg : PtpMsg} {k seq : Nat} {t1 t2 t3 t4 corr : Int}

@[simp] theorem State.setSess_on (x : SessSt) (f : FieldRef) : (s.setSess k x).on f = s.on f := by
  rw [State.on, State.get, State.setSess_rd, State.on, State.get]

/-! ### Messages a session sends -/

theorem State.sendSync_one (sends : s.sessSends k = true) (runs : s.get (SESS_STATUS_STATE k) = 2) (master : s.get (SESS_CFG_ROLE k) = 0)
    (oneStep : s.on (SESS_CFG_TWO_STEP k) = false) :
    s.sendSync k = (s.setSess k { s.sess k with syncSeq := ((s.sess k).syncSeq + 1) % 65536 }).ptpSend k 0 (s.sess k).syncSeq false
      (wholeNs (s.sessTx k)) (subNs (s.sessTx k)) 0 := by
  simp only [State.sendSync, sends, runs, master, State.setSess_on, oneStep, Bool.not_true, Bool.false_eq_true, ne_eq, not_true_eq_false,
    or_self, if_false]

theorem State.sendSync_two (sends : s.sessSends k = true) (runs : s.get (SESS_STATUS_STATE k) = 2) (master : s.get (SESS_CFG_ROLE k) = 0)
    (twoStep : s.on (SESS_CFG_TWO_STEP k) = true) :
    s.sendSync k = ((s.setSess k { s.sess k with syncSeq := ((s.sess k).syncSeq + 1) % 65536 }).ptpSend k 0 (s.sess k).syncSeq true 0 0
      0).ptpSend k 8 (s.sess k).syncSeq false (wholeNs (s.sessTx k)) (subNs (s.sessTx k)) 0 := by
  simp only [State.sendSync, sends, runs, master, State.setSess_on, twoStep, Bool.not_true, Bool.false_eq_true, ne_eq, not_true_eq_false,
    or_self, if_false, if_true]

theorem State.sendSync_other (other : s.get (SESS_CFG_ROLE k) ≠ 0) : s.sendSync k = s := if_pos (.inr (.inr other))

/-- A session that has asked for a delay at a time: the request waits for its response. -/
def SessSt.asked (x : SessSt) (at_ : Int) : SessSt := { x with reqSeq := (x.reqSeq + 1) % 65536, reqs := x.reqs ++ [(x.reqSeq, at_)] }

theorem State.sendReq_slave (sends : s.sessSends k = true) (endToEnd : s.get (SESS_CFG_DELAY k) = 0) (slave : s.get (SESS_CFG_ROLE k) = 1) :
    s.sendReq k = (s.setSess k ((s.sess k).asked (s.sessTx k))).ptpSend k 1 (s.sess k).reqSeq false 0 0 0 := by
  simp [State.sendReq, SessSt.asked, sends, endToEnd, slave]

theorem State.sendReq_peer (sends : s.sessSends k = true) (peer : s.get (SESS_CFG_DELAY k) = 1) :
    s.sendReq k = (s.setSess k ((s.sess k).asked (s.sessTx k))).ptpSend k 2 (s.sess k).reqSeq false 0 0 0 := by
  simp [State.sendReq, SessSt.asked, sends, peer]

/-! ### Sync and its Follow_Up -/

section
variable (on : s.get (SESS_STATUS_STATE k) ≠ 0) (slave : s.get (SESS_CFG_ROLE k) = 1) (running : s.tseOn = true)
  (parent : s.fromPeer k msg = true)
include on slave running parent

theorem State.hearSync_one (sync : msg.followUp = false) (oneStep : msg.twoStep = false) (none_ : (s.sess k).pend = none)
    (heard : s.heardAt k msg = some t2) : s.hearSync k msg = s.sessSync k (msg.ts + msg.corr) t2 := by
  simp [State.hearSync, on, slave, running, parent, sync, oneStep, none_, heard]

theorem State.hearSync_two (sync : msg.followUp = false) (twoStep : msg.twoStep = true) (none_ : (s.sess k).pend = none)
    (heard : s.heardAt k msg = some t2) : s.hearSync k msg = s.setSess k { s.sess k with pend := some (msg.seq, msg.corr, t2) } := by
  simp [State.hearSync, on, slave, running, parent, sync, twoStep, none_, heard]

theorem State.hearSync_followUp (followUp : msg.followUp = true) (pend : (s.sess k).pend = some (msg.seq, corr, t2)) :
    s.hearSync k msg = s.sessSync k (msg.ts + msg.corr + corr) t2 := by
  simp [State.hearSync, on, slave, running, parent, followUp, pend]

end

/-! ### Requests and responses -/

theorem State.hearDelayReq_master (runs : s.get (SESS_STATUS_STATE k) = 2) (master : s.get (SESS_CFG_ROLE k) = 0)
    (sends : s.sessSends k = true) (heard : s.heardAt k msg = some t2) :
    s.hearDelayReq k msg = s.ptpSend k 9 msg.seq false (wholeNs t2) (msg.corr - subNs t2) msg.src := by
  simp [State.hearDelayReq, runs, master, sends, heard]

theorem State.hearDelayResp_sync (on : s.get (SESS_STATUS_STATE k) ≠ 0) (slave : s.get (SESS_CFG_ROLE k) = 1)
    (endToEnd : s.get (SESS_CFG_DELAY k) = 0) (running : s.tseOn = true)
    (asked : (s.sess k).reqs.find? (fun q => q.1 == msg.seq) = some (seq, t3)) (sync : (s.sess k).sync = some (t1, t2)) :
    s.hearDelayResp k msg = (s.setSess k { s.sess k with reqs := (s.sess k).reqs.erase (seq, t3) }).sessExchange k
      (((t2 - t1 + (msg.ts - msg.corr - t3) : Int) : Rat) / 2) := by
  simp only [State.hearDelayResp, on, slave, endToEnd, running, asked, sync, Bool.not_true, Bool.false_eq_true, ne_eq, not_true_eq_false,
    or_self, if_false]

theorem State.hearPdelayReq_peer (peer : s.get (SESS_CFG_DELAY k) = 1) (sends : s.sessSends k = true)
    (heard : s.heardAt k msg = some t2) : s.hearPdelayReq k msg =
      (s.ptpSend k 3 msg.seq true (wholeNs t2) (-(subNs t2)) msg.src).ptpSend k 10 msg.seq false (wholeNs (s.sessTx k))
        (msg.corr + subNs (s.sessTx k)) msg.src := by
  simp [State.hearPdelayReq, peer, sends, heard]

theorem State.hearPdelayResp_one (on : s.get (SESS_STATUS_STATE k) ≠ 0) (peer : s.get (SESS_CFG_DELAY k) = 1) (running : s.tseOn = true)
    (asked : (s.sess k).reqs.find? (fun q => q.1 == msg.seq) = some (seq, t1)) (response : msg.followUp = false)
    (oneStep : msg.twoStep = false) (heard : s.heardAt k msg = some t4) :
    s.hearPdelayResp k msg = (s.setSess k { s.sess k with reqs := (s.sess k).reqs.erase (seq, t1) }).sessExchange k
      (((t4 - t1 - msg.corr : Int) : Rat) / 2) := by
  simp only [State.hearPdelayResp, on, peer, running, asked, response, oneStep, heard, Bool.not_true, Bool.false_eq_true, ne_eq,
    not_true_eq_false, or_self, if_false]

/-! ### What does not arrive -/

theorem State.respLate_oldest {q : Nat × Int} {qs : List (Nat × Int)} (reqs : (s.sess k).reqs = q :: qs)
    (none_ : (s.sess k).presp = none) : s.respLate k = (s.setSess k { s.sess k with reqs := qs }).count (SESS_COUNT_DISCARDS k) := by
  simp only [State.respLate, reqs, none_, State.sessDiscard]

theorem State.respLate_none (reqs : (s.sess k).reqs = []) : s.respLate k = s := by simp only [State.respLate, reqs]

theorem State.sessLate_runs (runs : s.get (SESS_STATUS_STATE k) = 2) (role : s.get (SESS_CFG_ROLE k) ≠ 0) :
    s.sessLate k = ((s.raise (SESS_STATUS_TIMEOUT_EVT k)).count (SESS_COUNT_TIMEOUTS k)).setSessState k 3 :=
  if_neg (by simp [runs, role])

theorem State.sessLate_master (master : s.get (SESS_CFG_ROLE k) = 0) : s.sessLate k = s := if_pos (.inr master)

/-- Settles O37: what a session sends and hears (R273, R278 to R280). -/
theorem ptpMessagesComplete : Obligations.PtpMessagesComplete := by
  unfold Obligations.PtpMessagesComplete
  refine ⟨?syncOne, ?syncTwo, ?syncOther, ?delayReq, ?pdelayReq, ?hearOne, ?hearTwo, ?followUp, ?delayReqHeard, ?delayResp, ?pdelayReqHeard,
    ?pdelayResp, ?respLate, ?respNone, ?syncLate, ?syncMaster⟩
  case syncOne =>
    intro s k inRange sends runs master oneStep
    exact congrArg Host.Outcome.next ((State.when_decide inRange).trans (State.sendSync_one sends runs master oneStep))
  case syncTwo =>
    intro s k inRange sends runs master twoStep
    exact congrArg Host.Outcome.next ((State.when_decide inRange).trans (State.sendSync_two sends runs master twoStep))
  case syncOther => exact fun s k other => congrArg Host.Outcome.next (State.when_same (State.sendSync_other other))
  case delayReq =>
    intro s k inRange sends endToEnd slave
    exact congrArg Host.Outcome.next ((State.when_decide inRange).trans (State.sendReq_slave sends endToEnd slave))
  case pdelayReq =>
    intro s k inRange sends peer
    exact congrArg Host.Outcome.next ((State.when_decide inRange).trans (State.sendReq_peer sends peer))
  case hearOne =>
    intro s k msg t2 inRange on slave running parent sync oneStep none_ heard
    exact congrArg Host.Outcome.next ((State.when_decide inRange).trans
      (State.hearSync_one on slave running parent sync oneStep none_ heard))
  case hearTwo =>
    intro s k msg t2 inRange on slave running parent sync twoStep none_ heard
    exact congrArg Host.Outcome.next ((State.when_decide inRange).trans
      (State.hearSync_two on slave running parent sync twoStep none_ heard))
  case followUp =>
    intro s k msg corr t2 inRange on slave running parent followUp pend
    exact congrArg Host.Outcome.next ((State.when_decide inRange).trans
      (State.hearSync_followUp on slave running parent followUp pend))
  case delayReqHeard =>
    intro s k msg t inRange runs master sends heard
    exact congrArg Host.Outcome.next ((State.when_decide inRange).trans (State.hearDelayReq_master runs master sends heard))
  case delayResp =>
    intro s k msg seq t3 t1 t2 inRange on slave endToEnd running asked sync
    exact congrArg Host.Outcome.next ((State.when_decide inRange).trans
      (State.hearDelayResp_sync on slave endToEnd running asked sync))
  case pdelayReqHeard =>
    intro s k msg t2 inRange peer sends heard
    exact congrArg Host.Outcome.next ((State.when_decide inRange).trans (State.hearPdelayReq_peer peer sends heard))
  case pdelayResp =>
    intro s k msg seq t1 t4 inRange on peer running asked response oneStep heard
    exact congrArg Host.Outcome.next ((State.when_decide inRange).trans
      (State.hearPdelayResp_one on peer running asked response oneStep heard))
  case respLate =>
    intro s k q qs inRange reqs none_
    exact congrArg Host.Outcome.next ((State.when_decide inRange).trans (State.respLate_oldest reqs none_))
  case respNone => exact fun s k reqs => congrArg Host.Outcome.next (State.when_same (State.respLate_none reqs))
  case syncLate =>
    intro s k inRange runs role
    exact congrArg Host.Outcome.next ((State.when_decide inRange).trans (State.sessLate_runs runs role))
  case syncMaster => exact fun s k master => congrArg Host.Outcome.next (State.when_same (State.sessLate_master master))

end Sys2Proof.Machine

/-! Settles O38, the transmit stamp queue, ESMC and the Announce turn (chapter 12). -/

namespace Sys2Proof.Machine

variable {s : State} {m : Master} {r : RegRow} {e : TxStamp} {q : List TxStamp} {p ssm domain k : Nat} {essm : Option Nat} {x : PtpInst}

/-! ### The stamp queue -/

theorem State.txtsRead_empty (empty : s.tse.queue = []) : s.txtsRead m = (s, 0) := by simp only [State.txtsRead, empty]

/-- The words of an entry behind its first, as a master's shadow takes them (R275). -/
def TxStamp.shadow (e : TxStamp) : List Word :=
  [packWord [(e.seqId, 16), (stampSub e.stamp, 0)], BitVec.ofNat 32 (stampNs e.stamp), BitVec.ofNat 32 (stampSec e.stamp),
    BitVec.ofNat 32 (stampSec e.stamp / 2 ^ 32 % 2 ^ 16)]

/-- The queue of stamps left with `q`. -/
def State.withStamps (s : State) (q : List TxStamp) : State :=
  { s with tse := { s.tse with queue := q } }.set TSE_TXTS_STATUS_LEVEL q.length

theorem State.withStamps_tse : (s.withStamps q).tse = { s.tse with queue := q } := State.set_tse ..

theorem State.withStamps_level (wf : s.regsWf = true) (short : q.length < 512) :
    (s.withStamps q).get TSE_TXTS_STATUS_LEVEL = q.length :=
  (State.get_set_same (by exact wf) TSE_TXTS_STATUS_LEVEL (by decide) _).trans (Nat.mod_eq_of_lt short)

theorem State.withStamps_rd (wf : s.regsWf = true) {a : Nat} (other : a ≠ TSE_TXTS_STATUS) : (s.withStamps q).rd a = s.rd a :=
  State.rd_set_ne (by exact wf) TSE_TXTS_STATUS_LEVEL q.length other

@[simp] theorem State.setShadow_tse (a : Nat) (ws : List Word) : (s.setShadow m a ws).tse = s.tse := (rfl)
@[simp] theorem State.setShadow_rd (a b : Nat) (ws : List Word) : (s.setShadow m a ws).rd b = s.rd b := (rfl)
@[simp] theorem State.answer_shadowOf (a : Nat) (reply : Reply) : (s.answer m reply).shadowOf m a = s.shadowOf m a := (rfl)

theorem State.txtsRead_head (head : s.tse.queue = e :: q) : s.txtsRead m =
    ((s.withStamps q).setShadow m TSE_TXTS_0 e.shadow,
      packWord [(1, 31), (e.port, 16), (e.domainNum, 8), (e.msgType, 4), (e.dom, 0)]) := by
  simp only [State.txtsRead, head, TxStamp.shadow, State.withStamps]

/-! ### ESMC -/

theorem State.esmcHear_taken (enabled : (s.getWide TSE_ESMC_RX_LO TSE_ESMC_RX_HI 16).testBit p = true)
    (up : s.get (PRT_STATUS_STATE p) = 3) (runs : s.fwRuns = true) :
    s.esmcHear p ssm essm = (s.set (TSE_PORT_STATUS_ESMC_TIMEOUT p) 0).setQl p
      (qlRank (s.on TSE_ESMC_CFG_OPTION) (s.on TSE_ESMC_CFG_ENHANCED) ssm essm) := if_neg (by simp [enabled, up, runs])

theorem State.esmcHear_disabled (disabled : (s.getWide TSE_ESMC_RX_LO TSE_ESMC_RX_HI 16).testBit p = false) : s.esmcHear p ssm essm = s :=
  if_pos (.inl (by rw [disabled]; rfl))

theorem State.esmcHear_stopped (stopped : s.fwRuns = false) : s.esmcHear p ssm essm = s := if_pos (.inr (.inr (by rw [stopped]; rfl)))

theorem State.esmcLate_enabled (enabled : (s.getWide TSE_ESMC_RX_LO TSE_ESMC_RX_HI 16).testBit p = true) (runs : s.fwRuns = true) :
    s.esmcLate p = (s.set (TSE_PORT_STATUS_ESMC_TIMEOUT p) 1).setQl p 0 := if_pos (by rw [enabled, runs]; rfl)

theorem State.esmcLate_stopped (stopped : s.fwRuns = false) : s.esmcLate p = s := if_neg (by simp [stopped])

/-! ### The Announce turn -/

theorem State.announce_none (none_ : smAt s.tse.insts domain = none) : s.announce domain = s := by
  simp only [State.announce, State.instOf, none_]

theorem State.announce_stopped (stopped : s.fwRuns = false ∨ s.tseOn = false) : s.announce domain = s := by
  unfold State.announce
  split
  · rfl
  · exact if_pos (stopped.imp (by simp [·]) (by simp [·]))

theorem State.announce_runs (inst : smAt s.tse.insts domain = some x) (runs : s.fwRuns = true) (on : s.tseOn = true) :
    let u := s.bmcaRun domain x
    let ks := (u.instSessions domain).filter fun k => u.get (PRT_STATUS_STATE (u.get (SESS_CFG_PORT k))) == 3
    let v := u.each (ks.filter fun k => u.get (SESS_CFG_ROLE k) == 0) fun k t => t.announceSend k (u.announced domain x)
    s.announce domain = v.each (ks.filter fun k => x.profile == 3 && v.get (SESS_CFG_ROLE k) == 1) State.signalAsk := by
  simp only [State.announce, State.instOf, inst, runs, on, Bool.not_true, Bool.false_eq_true, or_self, if_false]

/-- A session of a slave-only PTP clock that hears no master is to follow one. -/
theorem State.bmcaRole_unheard (slave : x.slaveOnly = true)
    (unheard : (s.instSessions domain).filterMap (fun j => s.portBest x j) = []) : s.bmcaRole x domain k = some 1 := by
  have nobody : (s.instSessions domain).filterMap (fun j => (s.portBest x j).map fun f => (j, f)) = [] := by
    rw [List.filterMap_eq_nil_iff] at unheard ⊢
    exact fun j mem => by rw [unheard j mem]; rfl
  simp only [State.bmcaRole, nobody, List.map_nil, PtpInst.best, slave, if_true]

/-- Settles O38: the stamp queue, ESMC, and the Announce turn of a PTP clock (R265, R275, R283 to R286). -/
theorem stampsEsmcAndAnnounceComplete : Obligations.StampsEsmcAndAnnounceComplete := by
  unfold Obligations.StampsEsmcAndAnnounceComplete
  refine ⟨?empty, ?pop, ?heard, ?disabled, ?late, ?info, ?event, ?stopped, ?noInst, ?fwStopped, ?tseStopped, ?turn, ?role⟩
  case empty =>
    intro s m r at_ empty
    refine congrArg Host.Outcome.next ((State.readAccess_row at_).trans ?_)
    rw [State.txtsRead_empty empty]
  case pop =>
    intro s m r e q wf at_ head short
    refine ⟨_, congrArg Host.Outcome.next ((State.readAccess_row at_).trans (by rw [State.txtsRead_head head])), ?tse, ?level,
      State.replyOf_answer_data .., ?shadow, fun a other => ?regs⟩
    case tse => rw [State.answer_tse, State.setShadow_tse, State.withStamps_tse]
    case level => rw [State.get, State.answer_rd, State.setShadow_rd, ← State.withStamps_level wf short, State.get]
    case shadow =>
      rw [State.answer_shadowOf]
      exact State.shadowOf_setShadow (ws := e.shadow) (by simp [TxStamp.shadow])
    case regs => rw [State.answer_rd, State.setShadow_rd, State.withStamps_rd wf other]
  case heard =>
    intro s p ssm essm inRange enabled up runs
    exact congrArg Host.Outcome.next ((State.when_decide inRange).trans (State.esmcHear_taken enabled up runs))
  case disabled => exact fun s p ssm essm disabled => congrArg Host.Outcome.next (State.when_same (State.esmcHear_disabled disabled))
  case late =>
    intro s p inRange enabled runs
    exact congrArg Host.Outcome.next ((State.when_decide inRange).trans (State.esmcLate_enabled enabled runs))
  case info => exact fun s => rfl
  case event => exact fun s => rfl
  case stopped =>
    exact fun s p ssm essm stopped => ⟨congrArg Host.Outcome.next (State.when_same (State.esmcHear_stopped stopped)),
      congrArg Host.Outcome.next (State.when_same (State.esmcLate_stopped stopped))⟩
  case noInst => exact fun s domain none_ => congrArg Host.Outcome.next (State.announce_none none_)
  case fwStopped => exact fun s domain stopped => congrArg Host.Outcome.next (State.announce_stopped (.inl stopped))
  case tseStopped => exact fun s domain stopped => congrArg Host.Outcome.next (State.announce_stopped (.inr stopped))
  case turn =>
    intro s domain x inst runs on u ks v
    refine congrArg Host.Outcome.next ((State.announce_runs inst runs on).trans ?_)
    by_cases unicast : x.profile = 3
    · simp only [unicast, beq_self_eq_true, Bool.true_and, if_true, u, ks, v]
    · simp only [beq_false_of_ne unicast, Bool.false_and, List.filter_false, State.each_nil, if_neg unicast, u, ks, v]
  case role => exact fun s domain k x _ slave unheard => State.bmcaRole_unheard slave unheard

end Sys2Proof.Machine

/-! Settles O39, the best master of those heard (chapter 12): the order of data sets is transitive and none is before itself. -/

namespace Sys2Proof.Machine

theorem listBefore_irrefl : ∀ as : List Nat, listBefore as as = false
  | [] => rfl
  | a :: as => by simp [listBefore, listBefore_irrefl as]

theorem listBefore_trans : ∀ {as bs cs : List Nat}, listBefore as bs = true → listBefore bs cs = true → listBefore as cs = true
  | a :: as, b :: bs, c :: cs => by
    intro h g
    simp only [listBefore, Bool.or_eq_true, decide_eq_true_eq, Bool.and_eq_true, beq_iff_eq] at h g ⊢
    rcases h with h | ⟨rfl, h⟩
    · rcases g with g | ⟨rfl, -⟩
      · exact .inl (h.trans g)
      · exact .inl h
    · rcases g with g | ⟨rfl, g⟩
      · exact .inl g
      · exact .inr ⟨rfl, listBefore_trans h g⟩
  | [], _, _ => by simp [listBefore]
  | _ :: _, [], _ => by simp [listBefore]
  | _ :: _, _ :: _, [] => by simp [listBefore]

variable {x : PtpInst} {f g h : Foreign} {fs : List Foreign}

theorem PtpInst.better_irrefl : x.better f f = false := listBefore_irrefl _
theorem PtpInst.better_trans (fg : x.better f g = true) (gh : x.better g h = true) : x.better f h = true := listBefore_trans fg gh

theorem PtpInst.better_asymm (fg : x.better f g = true) : x.better g f = false :=
  Bool.eq_false_iff.2 fun gf => absurd (PtpInst.better_trans fg gf) (by simp [PtpInst.better_irrefl])

theorem PtpInst.best_cons (f : Foreign) (fs : List Foreign) :
    x.best (f :: fs) = match x.best fs with
      | some g => some (if x.better f g then f else g)
      | none => some f := rfl

theorem PtpInst.best_none : x.best fs = none ↔ fs = [] := by
  cases fs with
  | nil => exact ⟨fun _ => rfl, fun _ => rfl⟩
  | cons f fs => cases rest : x.best fs <;> simp [PtpInst.best, rest]

/-- The one in front is compared with the best of the others: what beat that one would have been beaten by it. -/
theorem PtpInst.best_is_best : ∀ {fs : List Foreign} {f : Foreign}, x.best fs = some f → f ∈ fs ∧ ∀ g ∈ fs, x.better g f = false
  | [], _ => fun none_ => nomatch none_
  | e :: fs, f => by
    intro best
    cases rest : x.best fs with
    | none =>
      simp only [PtpInst.best, rest, Option.some.injEq] at best
      subst best
      simp [PtpInst.best_none.1 rest, PtpInst.better_irrefl]
    | some g =>
      obtain ⟨heard, least⟩ := PtpInst.best_is_best rest
      simp only [PtpInst.best, rest, Option.some.injEq] at best
      subst best
      by_cases wins : x.better e g = true
      · simp only [if_pos wins, List.mem_cons, true_or, forall_eq_or_imp, PtpInst.better_irrefl, true_and]
        exact fun h mem => Bool.eq_false_iff.2 fun beats =>
          absurd (PtpInst.better_trans beats wins) (by simp [least h mem])
      · simp only [if_neg wins, List.mem_cons, heard, or_true, forall_eq_or_imp, true_and]
        exact ⟨Bool.eq_false_iff.2 wins, least⟩

/-- Settles O39: the best of those heard is one of them and none is better (R265, R283). -/
theorem bestMasterIsBest : Obligations.BestMasterIsBest := by
  unfold Obligations.BestMasterIsBest
  exact ⟨fun _ _ => PtpInst.best_none, fun _ _ _ => PtpInst.best_is_best, fun _ _ _ => PtpInst.better_asymm⟩

end Sys2Proof.Machine

/-! Entries of a store whose keys need not rise: what is read back and what a second write leaves, for an entry the store lists. -/

namespace Sys2Proof.Machine

variable {α : Type} {m : SMap α} {k : Nat} {v w : α}

theorem smInsert_smInsert : ∀ m : SMap α, smInsert (smInsert m k v) k w = smInsert m k w
  | [] => by simp [smInsert]
  | (j, u) :: m => by
    by_cases same : k = j
    · simp [smInsert, same]
    · by_cases before : k < j
      · simp [smInsert, same, before]
      · simp [smInsert, same, before, smInsert_smInsert m]

variable [Inhabited α] [DecidableEq α]

theorem smPut_listed (listed : v ≠ default) : smPut m k v = smInsert m k v := if_neg listed

/-- An entry the store lists reads back, in a store of any form. -/
theorem smAt_smPut (listed : v ≠ default) : smAt (smPut m k v) k = v := by
  rw [smPut_listed listed]
  exact smGet_smInsert_same k v m

/-- Of two writes of an entry the second stands. -/
theorem smPut_smPut (first : v ≠ default) (second : w ≠ default) : smPut (smPut m k v) k w = smPut m k w := by
  rw [smPut_listed first, smPut_listed second, smPut_listed second, smInsert_smInsert]

end Sys2Proof.Machine

/-! Settles O40, the coupling layer of a port (chapter 13). -/

namespace Sys2Proof.Machine

variable {s : State} {m : Master} {r : RegRow} {v w : Word} {p l : Nat} {bytes : List Octet} {blocks : List Nat} {mark : RxMark}

/-! ### Registers -/

theorem State.cplCfgWrite_enable (was : s.on (CPL_PORT_CFG_ENABLE p) = false) (enable : v.getLsbD 0 = true)
    (legal : (writeFields r.fields (s.rd (CPL_PORT_CFG p)) v).2 = false)
    (taken : writeFields r.fields (s.rd (CPL_PORT_CFG p)) (keepField s (CPL_PORT_CFG_ENABLE p) v) = (w, false))
    (rate : (s.wr (CPL_PORT_CFG p) w).cplRate p = true) : s.cplCfgWrite m p v r =
      ((((((s.wr (CPL_PORT_CFG p) w).set (CPL_PORT_CFG_ENABLE p) 1).wr (CPL_PORT_COUNT p) 0).wr (CPL_PORT_COUNT2 p) 0).cplForget
        p).setCplState p 1) := by
  simp only [State.cplCfgWrite, was, enable, legal, State.plainWrite_ok taken, rate, State.when_false, Bool.false_and, Bool.not_false,
    Bool.not_true, Bool.and_self, Bool.or_self, Bool.false_eq_true, if_false, if_true]

theorem State.cplCfgWrite_disable (was : s.on (CPL_PORT_CFG_ENABLE p) = true) (disable : v.getLsbD 0 = false)
    (taken : writeFields r.fields (s.rd (CPL_PORT_CFG p)) (keepField s (CPL_PORT_CFG_ENABLE p) v) = (w, false)) :
    s.cplCfgWrite m p v r = (((s.wr (CPL_PORT_CFG p) w).set (CPL_PORT_CFG_ENABLE p) 0).cplForget p).setCplState p 0 := by
  simp only [State.cplCfgWrite, was, disable, State.plainWrite_ok taken, State.when_false, Bool.and_false, Bool.false_and, Bool.not_true,
    Bool.not_false, Bool.and_self, Bool.false_eq_true, if_false, if_true]

theorem State.cplNodeWrite_off (off : ((List.range 48).all fun p => !s.on (CPL_PORT_CFG_ENABLE p)) = true)
    (taken : writeFields r.fields (s.rd CPL_NODE) v = (w, false)) : s.cplNodeWrite m v r = (s.wr CPL_NODE w).nodeEval := by
  have none_ : ((List.range 48).any fun p => s.on (CPL_PORT_CFG_ENABLE p)) = false := by
    rw [← Bool.not_eq_true', List.not_any_eq_all_not]
    exact off
  simp only [State.cplNodeWrite, none_, Bool.false_and, State.when_false, Bool.false_eq_true, if_false, State.plainWrite_ok taken]

theorem State.feedWrite_transfer (taken : writeFields r.fields (s.rd (CPL_FEED_CFG l)) v = (w, false))
    (other : (s.wr (CPL_FEED_CFG l) w).get (CPL_FEED_CFG_PORT l) ≠ s.get (CPL_FEED_CFG_PORT l))
    (fed : (s.wr (CPL_FEED_CFG l) w).fed l = true) : s.feedWrite m l v r =
      ((s.wr (CPL_FEED_CFG l) w).setFeed l { (s.wr (CPL_FEED_CFG l) w).feed l with transfer := true }).nodeEval := by
  simp only [State.feedWrite, State.plainWrite_ok taken, if_neg other, fed, State.when_true]

/-! ### HELLOs -/

theorem State.helloHear_short (coupled : s.get (CPL_PORT_STATUS_STATE p) ≠ 0) (on : s.cplOn = true)
    (type : fromBE (slice bytes 12 2) = 0x88B5) (length : bytes.length ≠ 60) :
    s.helloHear p bytes = s.count (CPL_PORT_COUNT2_BAD_HELLOS p) := by
  simp only [State.helloHear, coupled, on, type, length, Bool.not_true, Bool.false_eq_true, ne_eq, not_true_eq_false, not_false_eq_true,
    or_self, true_or, if_false, if_true]

/-- What a HELLO says of its sender (R290). -/
def State.farHeard (s : State) (p : Nat) (bytes : List Octet) : State :=
  let u := (s.set (CPL_PORT_FAR_ID_FAR_NODE p) (fromBE (slice bytes 22 2))).set (CPL_PORT_FAR_ID_FAR_GM p) (fromBE (slice bytes 24 2))
  let u := (u.set (CPL_PORT_FAR_INFO_FAR_HOP p) (fromBE (slice bytes 21 1))).set (CPL_PORT_FAR_INFO_FAR_PORT p)
    (fromBE (slice bytes 26 1))
  (u.setB (CPL_PORT_STATUS_FAR_GM p) ((fromBE (slice bytes 20 1)).testBit 1)).setB (CPL_PORT_STATUS_FAR_TRACE p)
    ((fromBE (slice bytes 20 1)).testBit 2)

theorem State.helloHear_probe (probe : s.get (CPL_PORT_STATUS_STATE p) = 1) (on : s.cplOn = true) (length : bytes.length = 60)
    (type : fromBE (slice bytes 12 2) = 0x88B5) (magic : fromBE (slice bytes 14 4) = 0x515A4350) (kind : fromBE (slice bytes 18 1) = 1)
    (version : fromBE (slice bytes 19 1) = 1) (other : fromBE (slice bytes 22 2) ≠ s.get CPL_NODE_ID)
    (seen : (fromBE (slice bytes 20 1)).testBit 0 = true) (again : (s.farHeard p bytes).on (CPL_PORT_STATUS_SEEN p) = true) :
    s.helloHear p bytes = ((s.farHeard p bytes).set (CPL_PORT_STATUS_SEEN p) 1).nodeEval.setCplState p 2 := by
  unfold State.farHeard at again ⊢
  simp only [State.helloHear, probe, on, length, type, magic, kind, version, other, seen, again, Bool.not_true, Bool.false_and,
    State.when_false, Bool.false_eq_true, one_ne_zero, ne_eq, not_true_eq_false, or_self, if_false, if_true]

theorem State.helloDue_sends (early : s.get (CPL_PORT_STATUS_STATE p) = 1 ∨ s.get (CPL_PORT_STATUS_STATE p) = 2) (on : s.cplOn = true)
    (locked : s.lockSeen p = true) : s.helloDue p = s.helloSend p := State.when_pos (by simp [early, on, locked])

theorem State.helloDue_unlocked (unlocked : s.lockSeen p = false) : s.helloDue p = s := State.when_neg (by simp [unlocked])

/-! ### Messages -/

theorem State.markerFall_idle (coupled : 2 ≤ s.get (CPL_PORT_STATUS_STATE p)) (on : s.cplOn = true) :
    s.markerFall p false = ((s.setCplPort p { s.cplPort p with due := some s.cyc }).markerPlace p).placeWords p 8 := by
  simp only [State.markerFall, Nat.not_lt.2 coupled, on, Bool.not_true, Bool.false_eq_true, or_self, if_false]

theorem State.markerFall_busy (coupled : 2 ≤ s.get (CPL_PORT_STATUS_STATE p)) (on : s.cplOn = true) :
    s.markerFall p true = s.setCplPort p { s.cplPort p with due := some s.cyc } := by
  simp only [State.markerFall, Nat.not_lt.2 coupled, on, Bool.not_true, Bool.false_eq_true, or_self, if_false, if_true]

theorem State.markerLost_none (none_ : (s.cplPort p).due = none) : s.markerLost p = s := if_pos (by rw [none_]; rfl)

theorem State.markerLost_due (due : (s.cplPort p).due ≠ none) : s.markerLost p =
    (s.setCplPort p { s.cplPort p with due := none, txSeq := ((s.cplPort p).txSeq + 1) % 65536 }).raise (CPL_PORT_EVT_MAIL_BLOCKED p) :=
  if_neg (by simpa using due)

section
variable (coupled : 2 ≤ s.get (CPL_PORT_STATUS_STATE p)) (on : s.cplOn = true)
include coupled on

theorem State.cplHear_valid (message : messageOf blocks = some bytes) (crc : fromBE (slice bytes 44 4) = crc32 (bytes.take 44))
    (new : (s.cplPort p).rxSeq ≠ some (fromBE (slice bytes 0 2))) (other : fromBE (slice bytes 4 2) ≠ s.get CPL_NODE_ID) :
    s.cplHear p blocks mark = s.cplValid p bytes mark := by
  simp only [State.cplHear, Nat.not_lt.2 coupled, on, message, crc, new, other, Bool.not_true, Bool.false_eq_true, ne_eq,
    not_true_eq_false, or_self, if_false]

theorem State.cplHear_crc (message : messageOf blocks = some bytes) (crc : fromBE (slice bytes 44 4) ≠ crc32 (bytes.take 44)) :
    s.cplHear p blocks mark = ((s.count (CPL_PORT_COUNT_CRC_ERRS p)).raise (CPL_PORT_EVT_CRC_ERR p)).setCplPort p
      { s.cplPort p with validRun := 0 } := by
  simp only [State.cplHear, Nat.not_lt.2 coupled, on, message, crc, Bool.not_true, Bool.false_eq_true, ne_eq, not_false_eq_true, or_self,
    if_false, if_true]
  rfl

theorem State.cplHear_broken (message : messageOf blocks = none) :
    s.cplHear p blocks mark = s.setCplPort p { s.cplPort p with validRun := 0 } := by
  simp only [State.cplHear, Nat.not_lt.2 coupled, on, message, Bool.not_true, Bool.false_eq_true, or_self, if_false]

end

/-! ### The end of a bleed -/

/-- Nothing left to bleed reads as an offset of 0. -/
theorem State.setFeedBo_zero : s.setFeedBo l 0 = (s.setFeed l { s.feed l with bf := 0 }).setI (CPL_FEED_BO_BO l) 0 := by
  have rounds : clampInt (-2147483648) 2147483647 (roundAway (((0 : Int) : Rat) / (accUnit : Int))) = 0 := by
    rw [Int.cast_zero, zero_div]
    decide +kernel
  rw [State.setFeedBo, rounds]

/-- Settles O40: what the coupling layer of a port does (R287, R290, R291, R294, R295, R299 to R301). -/
theorem couplingCommandsComplete : Obligations.CouplingCommandsComplete := by
  unfold Obligations.CouplingCommandsComplete
  refine ⟨?enable, ?disable, ?short, ?probe, ?hello, ?unlocked, ?idle, ?busy, ?unsent, ?lost, ?valid, ?crc, ?broken, ?missed, ?early,
    ?transfer, ?node, ?bled, ?bleeds⟩
  case enable =>
    intro s m p v w r inRange at_ was enable legal taken u rate
    exact congrArg Host.Outcome.next ((State.when_access inRange at_).trans
      (State.cplCfgWrite_enable (s := s.answer m .ok) was enable legal taken rate))
  case disable =>
    intro s m p v w r inRange at_ was disable taken
    exact congrArg Host.Outcome.next ((State.when_access inRange at_).trans
      (State.cplCfgWrite_disable (s := s.answer m .ok) was disable taken))
  case short =>
    intro s p bytes inRange coupled on type length
    exact congrArg Host.Outcome.next ((State.when_decide inRange).trans (State.helloHear_short coupled on type length))
  case probe =>
    intro s p bytes inRange probe on _ length type magic kind version other seen u w x again
    exact congrArg Host.Outcome.next ((State.when_decide inRange).trans
      (State.helloHear_probe probe on length type magic kind version other seen again))
  case hello =>
    intro s p inRange early on locked
    exact congrArg Host.Outcome.next ((State.when_decide inRange).trans (State.helloDue_sends early on locked))
  case unlocked => exact fun s p unlocked => congrArg Host.Outcome.next (State.when_same (State.helloDue_unlocked unlocked))
  case idle =>
    intro s p inRange coupled on idle
    refine congrArg Host.Outcome.next ((State.when_decide inRange).trans ?_)
    rw [idle]
    exact State.markerFall_idle coupled on
  case busy =>
    intro s p inRange coupled on busy
    refine congrArg Host.Outcome.next ((State.when_decide inRange).trans ?_)
    rw [Option.isSome_iff_ne_none.2 busy]
    exact State.markerFall_busy coupled on
  case unsent => exact fun s p none_ => congrArg Host.Outcome.next (State.when_same (State.markerLost_none none_))
  case lost =>
    intro s p inRange due
    exact congrArg Host.Outcome.next ((State.when_decide inRange).trans (State.markerLost_due due))
  case valid =>
    intro s p blocks bytes m inRange coupled on message crc new other
    exact congrArg Host.Outcome.next ((State.when_decide inRange).trans (State.cplHear_valid coupled on message crc new other))
  case crc =>
    intro s p blocks bytes m inRange coupled on message crc
    exact congrArg Host.Outcome.next ((State.when_decide inRange).trans (State.cplHear_crc coupled on message crc))
  case broken =>
    intro s p blocks m inRange coupled on message
    exact congrArg Host.Outcome.next ((State.when_decide inRange).trans (State.cplHear_broken coupled on message))
  case missed =>
    exact fun s p inRange coupled =>
      congrArg Host.Outcome.next ((State.when_decide inRange).trans (if_neg (Nat.not_lt.2 coupled)))
  case early => exact fun s p early => congrArg Host.Outcome.next (State.when_same (if_pos early))
  case transfer =>
    intro s m l v w r inRange at_ taken u other fed
    exact congrArg Host.Outcome.next ((State.when_access inRange at_).trans
      (State.feedWrite_transfer (s := s.answer m .ok) taken other fed))
  case node =>
    intro s m v w r at_ off taken
    exact congrArg Host.Outcome.next ((State.access_row at_).trans (State.cplNodeWrite_off (s := s.answer m .ok) off taken))
  case bled =>
    intro s l inRange small
    exact congrArg Host.Outcome.next ((State.when_decide inRange).trans ((State.when_decide small).trans State.setFeedBo_zero))
  case bleeds =>
    exact fun s l large =>
      congrArg Host.Outcome.next (State.when_same (State.when_neg (decide_eq_false (Nat.not_le.2 large))))

end Sys2Proof.Machine

/-! Settles O41: coupling words carry a message as it was (chapter 13). -/

namespace Sys2Proof.Machine

theorem fromLE_lt : ∀ bs : List Octet, fromLE bs < 256 ^ bs.length
  | [] => by simp [fromLE]
  | b :: bs => by
    have rest := fromLE_lt bs
    have octet := b.isLt
    rw [fromLE, List.length_cons, Nat.pow_succ]
    omega

theorem octetsLE_fromLE : ∀ bs : List Octet, octetsLE bs.length (fromLE bs) = bs
  | [] => rfl
  | b :: bs => by
    have octet := b.isLt
    rw [fromLE, List.length_cons, octetsLE, show (b.toNat + 256 * fromLE bs) / 256 = fromLE bs by omega, octetsLE_fromLE bs]
    refine congrArg (· :: bs) (BitVec.eq_of_toNat_eq ?_)
    rw [BitVec.toNat_ofNat]
    omega

variable {k : Nat} {six : List Octet} {bytes : List Octet}

/-- A coupling word is the block of its index and octets (R292). -/
theorem wordOf_couplingBlock (index : k < 16) (length : six.length = 6) : wordOf (couplingBlock k six) = some (k, six) := by
  have fits : fromLE six < 256 ^ 6 := by
    rw [← length]
    exact fromLE_lt six
  unfold wordOf couplingBlock
  dsimp only
  rw [if_pos (by omega)]
  have index_ : ∀ y, y = k + 16 * fromLE six → y % 16 = k ∧ y / 16 = fromLE six := by omega
  obtain ⟨low, high⟩ := index_ _ (show (2 * 2 ^ 64 + (0x4B + (k + 16 * fromLE six) % 2 ^ 24 * 2 ^ 8 + 5 * 2 ^ 32 +
      (k + 16 * fromLE six) / 2 ^ 24 % 2 ^ 28 * 2 ^ 36)) / 2 ^ 8 % 2 ^ 24 +
    (2 * 2 ^ 64 + (0x4B + (k + 16 * fromLE six) % 2 ^ 24 * 2 ^ 8 + 5 * 2 ^ 32 +
      (k + 16 * fromLE six) / 2 ^ 24 % 2 ^ 28 * 2 ^ 36)) / 2 ^ 36 % 2 ^ 28 * 2 ^ 24 = k + 16 * fromLE six by omega)
  rw [low, high, ← length, octetsLE_fromLE]

/-- The sync header, the block type and the O code of a coupling word (R292). -/
theorem couplingBlock_form : couplingBlock k six < 2 ^ 66 ∧ couplingBlock k six % 256 = 0x4B ∧
    couplingBlock k six / 2 ^ 32 % 16 = 5 ∧ couplingBlock k six / 2 ^ 64 = 2 := by
  unfold couplingBlock
  dsimp only
  omega

theorem mem_messageWords (length : bytes.length = 48) {w : Nat × List Octet} (mem : w ∈ messageWords bytes) :
    w.1 < 16 ∧ w.2.length = 6 := by
  obtain ⟨k, index, rfl⟩ := List.mem_map.1 mem
  rw [List.mem_range] at index
  simp only [slice, List.length_take, List.length_drop, length]
  omega

/-- The words of a message are its octets in order. -/
theorem messageWords_flatMap (length : bytes.length = 48) : (messageWords bytes).flatMap (·.2) = bytes := by
  have step (k : Nat) : bytes.drop k = slice bytes k 6 ++ bytes.drop (k + 6) := by
    rw [slice, ← List.drop_drop, List.take_append_drop]
  have whole : bytes = slice bytes 0 6 ++ (slice bytes 6 6 ++ (slice bytes 12 6 ++ (slice bytes 18 6 ++ (slice bytes 24 6 ++
      (slice bytes 30 6 ++ (slice bytes 36 6 ++ (slice bytes 42 6 ++ []))))))) := by
    rw [← List.drop_eq_nil_of_le (i := 48) (as := bytes) length.le, ← step 42, ← step 36, ← step 30, ← step 24, ← step 18, ← step 12,
      ← step 6, ← step 0, List.drop_zero]
  exact whole.symm

theorem wordOf_messageWord (length : bytes.length = 48) {w : Nat × List Octet} (mem : w ∈ messageWords bytes) :
    wordOf (couplingBlock w.1 w.2) = some w := by
  obtain ⟨index, six⟩ := mem_messageWords length mem
  obtain ⟨k, octets⟩ := w
  exact wordOf_couplingBlock index six

/-- What reads each entry back from its image reads a list back from its images. -/
theorem filterMap_map_inverse {α β : Type} {f : α → β} {g : β → Option α} :
    ∀ {l : List α}, (∀ a ∈ l, g (f a) = some a) → (l.map f).filterMap g = l
  | [], _ => rfl
  | a :: l, inverse => by
    rw [List.map_cons, List.filterMap_cons_some (inverse a List.mem_cons_self),
      filterMap_map_inverse fun b mem => inverse b (List.mem_cons_of_mem a mem)]

theorem words_of_blocks (length : bytes.length = 48) :
    ((messageWords bytes).map fun w => couplingBlock w.1 w.2).filterMap wordOf = messageWords bytes :=
  filterMap_map_inverse fun _ => wordOf_messageWord length

theorem messageOf_words {blocks : List Nat} (words : blocks.filterMap wordOf = messageWords bytes) :
    messageOf blocks = some ((messageWords bytes).flatMap (·.2)) := by
  simp only [messageOf, words]
  exact if_pos rfl

/-- Settles O41: a message placed as coupling words is the message read from their blocks (R292, R293, R295). -/
theorem couplingWordsAgree : Obligations.CouplingWordsAgree := by
  unfold Obligations.CouplingWordsAgree
  intro bytes length
  refine ⟨?message, fun w mem => ⟨wordOf_messageWord length mem, couplingBlock_form⟩⟩
  rw [messageOf_words (words_of_blocks length), messageWords_flatMap length]

end Sys2Proof.Machine

/-! Settles O42, the channels of the vernier gauges (chapter 11). A channel that has seen an edge, or holds one, is listed among the
channels, so that what was stored of it reads back. -/

namespace Sys2Proof.Machine

variable {s : State} {m : Master} {r : RegRow} {v w : Word} {n src t x width : Nat} {e : Edge} {b p : Taken1} {g h : GauSt}

/-! ### Channels read back -/

theorem State.gauge_setGauge (listed : g ≠ default) : (s.setGauge n g).gauge n = g := smAt_smPut listed

theorem State.setGauge_setGauge (first : g ≠ default) (second : h ≠ default) : (s.setGauge n g).setGauge n h = s.setGauge n h :=
  congrArg (fun gauges => { s with gauges := gauges }) (smPut_smPut first second)

@[simp] theorem State.set_gauge (f : FieldRef) (v k : Nat) : (s.set f v).gauge k = s.gauge k := (rfl)
@[simp] theorem State.setGauge_on (f : FieldRef) : (s.setGauge n g).on f = s.on f := by rw [State.on, State.setGauge_get, State.on]
@[simp] theorem State.setGauge_edgeStamp (k at_ : Nat) (clean : Bool) : (s.setGauge n g).edgeStamp k at_ clean = s.edgeStamp k at_ clean := (rfl)

theorem GauSt.listed_of_seenStart (h : g.seenStart = some t) : g ≠ default :=
  fun reset => absurd ((congrArg GauSt.seenStart reset).symm.trans h) (by simp [default, instInhabitedGauSt.default])

theorem GauSt.listed_of_seenStop (h : g.seenStop = some t) : g ≠ default :=
  fun reset => absurd ((congrArg GauSt.seenStop reset).symm.trans h) (by simp [default, instInhabitedGauSt.default])

/-! ### Writes of GAU_CFG -/

section
variable (foreign : fieldOf (GAU_CFG_SRC n) v ≠ defaultSource n) (source : sourceCode (fieldOf (GAU_CFG_SRC n) v) = true)
  (stop : sourceCode (fieldOf (GAU_CFG_STOP_SRC n) v) = true)
  (taken : writeFields r.fields (s.rd (GAU_CFG n)) (keepField s (GAU_CFG_ENABLE n) v) = (w, false))
include foreign source stop taken

theorem State.gaugeCfgWrite_enable (was : s.on (GAU_CFG_ENABLE n) = false) (enable : v.getLsbD 0 = true)
    (stamps : (s.wr (GAU_CFG n) w).on (GAU_CFG_MODE n) = false) : s.gaugeCfgWrite m n v r =
      ((((((s.wr (GAU_CFG n) w).wr (GAU_COUNT n) 0).wr (GAU_COUNT2 n) 0).wr (GAU_COUNT3 n) 0).set (GAU_CFG_ENABLE n) 1).gaugeFresh
        n).gaugeLines n := by
  simp only [State.gaugeCfgWrite, was, enable, if_neg foreign, source, stop, State.plainWrite_ok taken, stamps, Bool.false_and,
    State.when_false, Bool.not_true, Bool.not_false, Bool.or_self, Bool.and_self, Bool.false_eq_true, if_false, if_true]

theorem State.gaugeCfgWrite_disable (was : s.on (GAU_CFG_ENABLE n) = true) (disable : v.getLsbD 0 = false) :
    s.gaugeCfgWrite m n v r = (((((s.wr (GAU_CFG n) w).set (GAU_CFG_ENABLE n) 0).statEnd n true).gaugeFresh n).gaugeLines n) := by
  simp only [State.gaugeCfgWrite, was, disable, if_neg foreign, source, stop, State.plainWrite_ok taken, Bool.and_false, Bool.false_and,
    State.when_false, Bool.not_true, Bool.not_false, Bool.or_self, Bool.and_self, Bool.false_eq_true, if_false, if_true]

end

/-! ### Start edges -/

theorem State.sees_false {named : Nat} {falling taken : Bool} {last : Option Nat}
    (unseen : s.gaugeStopped n = true ∨ named ≠ src ∨ s.signal src = false ∨ falling ≠ taken) :
    s.sees n src named falling taken last t = false := by
  rcases unseen with h | h | h | h <;> simp [State.sees, h]

theorem State.gatePassed_shut (shut : (s.gauge n).gate = none) : s.gatePassed n t = s := by simp only [State.gatePassed, shut]

theorem State.gatePassed_open (gate : (s.gauge n).gate = some (b, width)) (inTime : t ≤ b.t + width) : s.gatePassed n t = s := by
  simp only [State.gatePassed, gate, if_neg (Nat.not_lt.2 inTime)]

theorem State.gaugePass_none (held : (s.gauge n).held = []) : s.gaugePass n t = s := by
  have one : s.passOne n t = s := by simp only [State.passOne, held]
  simp only [State.gaugePass, List.range_succ, List.range_zero, List.nil_append, List.cons_append, State.each_cons, State.each_nil, one]

/-- A channel that has seen a start edge at `t`. -/
def GauSt.started (g : GauSt) (t : Nat) : GauSt := { g with seenStart := some t, count := g.count + 1 }

theorem GauSt.started_listed : g.started t ≠ default := GauSt.listed_of_seenStart rfl

/-- The judgement of a start edge that the channel sees, with no gate open and nothing held. -/
theorem State.startEdge_seen (sees : s.sees n src (s.gaugeSource n) e.falling (s.startFalling n) (s.gauge n).seenStart e.time = true)
    (shut : (s.gauge n).gate = none) (held : (s.gauge n).held = []) :
    s.startEdge n src e =
      (let u := s.setGauge n ((s.gauge n).started e.time)
      if (s.on GAU_GLB_STATUS_THROTTLED && within (s.gauge n).lastStart e.time cutTime) = true then
        (u.count (GAU_COUNT2_SKIPPED n)).startLost n
      else if within (s.gauge n).lastStart e.time deadTime = true then
        ((u.count (GAU_COUNT_MISSED n)).raise (GAU_EVT_MISSED n)).startLost n
      else if within (s.gauge n).lastStart e.time (2048 * s.get (GAU_HOLDOFF_HOLDOFF n)) = true then
        (u.count (GAU_COUNT2_IGNORED n)).startLost n
      else u.startTaken n e.time) := by
  have seen := State.gauge_setGauge (s := s) (n := n) (g := (s.gauge n).started e.time) GauSt.started_listed
  have parts : ((s.gauge n).started e.time).lastStart = (s.gauge n).lastStart ∧ ((s.gauge n).started e.time).gate = none ∧
      ((s.gauge n).started e.time).held = [] := ⟨rfl, shut, held⟩
  obtain ⟨last, gate, results⟩ := parts
  simp only [State.startEdge, sees, Bool.not_true, Bool.false_eq_true, if_false, State.gatePassed_shut shut, State.gaugePass_none held]
  rw [← GauSt.started]
  simp only [State.missed, seen, last, gate, results, State.setGauge_on, State.setGauge_get, List.length_nil, Option.isSome_none,
    Bool.false_or, Nat.reduceLeDiff, decide_false, Bool.or_false]

theorem State.startLost_of (gauge : s.gauge n = g) : s.startLost n = s.setGauge n { g with lost := true } := by
  rw [State.startLost, gauge]

/-- Counts and events leave what a channel was last given. -/
theorem State.counted_gauge (f : FieldRef) : ((s.setGauge n ((s.gauge n).started t)).count f).gauge n = (s.gauge n).started t := by
  rw [State.count, State.set_gauge, State.gauge_setGauge GauSt.started_listed]

theorem within_last (last : (s.gauge n).lastStart = some x) (d : Nat) : within (s.gauge n).lastStart t d = decide (t < x + d) := by
  rw [last]; rfl

theorem within_none (none_ : (s.gauge n).lastStart = none) (d : Nat) : within (s.gauge n).lastStart t d = false := by rw [none_]; rfl

/-- A channel that takes a start edge at `t`, which its interpolator converts. -/
def GauSt.taking (g : GauSt) (t : Nat) (b : Taken1) : GauSt :=
  { g with conv := some b, lastStart := some t, lost := false, marks := ((g.count, t) :: g.marks).take 256 }

theorem GauSt.taking_listed : g.taking t b ≠ default := fun reset =>
  absurd (congrArg GauSt.conv reset) (by simp [GauSt.taking, default, instInhabitedGauSt.default])

/-- A channel with the gate of a start edge open. -/
def GauSt.gating (g : GauSt) (b : Taken1) (width : Nat) : GauSt := { g with gate := some (b, width) }

theorem GauSt.gating_listed : g.gating b width ≠ default := fun reset =>
  absurd (congrArg GauSt.gate reset) (by simp [GauSt.gating, default, instInhabitedGauSt.default])

section
variable (idle : (s.gauge n).conv = none)
include idle

/-- A start edge taken when no conversion runs, in a channel that gives stamps (R256). -/
theorem State.startTaken_stamp (stamps : s.on (GAU_CFG_MODE n) = false) :
    (s.setGauge n ((s.gauge n).started t)).startTaken n t =
      s.setGauge n (((s.gauge n).started t).taking t (s.edgeStamp n t (!(s.gauge n).lost))) := by
  have seen := State.gauge_setGauge (s := s) (n := n) (g := (s.gauge n).started t) GauSt.started_listed
  have idle_ : ((s.gauge n).started t).conv.isSome = false := by rw [GauSt.started, idle]; rfl
  simp only [State.startTaken, seen, idle_, State.when_false, State.setGauge_on, stamps, Bool.false_eq_true, if_false,
    State.setGauge_edgeStamp]
  exact State.setGauge_setGauge GauSt.started_listed GauSt.taking_listed

/-- In a channel that gives intervals it opens a gate besides (R257). -/
theorem State.startTaken_interval (intervals : s.on (GAU_CFG_MODE n) = true) (unstopped : (s.gauge n).stop = none) :
    let b := s.edgeStamp n t (!(s.gauge n).lost)
    (s.setGauge n ((s.gauge n).started t)).startTaken n t =
      (s.setGauge n ((((s.gauge n).started t).taking t b).gating b (2048 * (s.rd (GAU_TOLL n)).toNat))).set (GAU_STATUS_TOLL_OPEN n) 1 := by
  have seen := State.gauge_setGauge (s := s) (n := n) (g := (s.gauge n).started t) GauSt.started_listed
  have idle_ : ((s.gauge n).started t).conv.isSome = false := by rw [GauSt.started, idle]; rfl
  have lost : ((s.gauge n).started t).lost = (s.gauge n).lost := rfl
  have unpaired (b : Taken1) (width : Nat) : ((((s.gauge n).started t).taking t b).gating b width).stop = none := unstopped
  simp only [State.startTaken, seen, idle_, lost, State.when_false, State.setGauge_on, intervals, if_true, State.setGauge_edgeStamp]
  rw [← GauSt.taking, ← GauSt.gating]
  simp only [State.setGauge_setGauge GauSt.started_listed GauSt.taking_listed, State.gauge_setGauge GauSt.taking_listed,
    State.setGauge_setGauge GauSt.taking_listed GauSt.gating_listed, State.set_gauge, State.gauge_setGauge GauSt.gating_listed, unpaired,
    State.setGauge_rd]

end

/-! ### Stop edges -/

/-- A channel that has seen a stop edge at `t`, and takes it. -/
def GauSt.stopSeen (g : GauSt) (t : Nat) : GauSt := { g with seenStop := some t }
def GauSt.stopping (g : GauSt) (t : Nat) (b : Taken1) : GauSt :=
  { g with sconv := some b, lastStop := some t, stop := some b, paired := false }

theorem GauSt.stopSeen_listed : g.stopSeen t ≠ default := fun reset =>
  absurd (congrArg GauSt.seenStop reset) (by simp [GauSt.stopSeen, default, instInhabitedGauSt.default])

theorem GauSt.stopping_listed : g.stopping t b ≠ default := fun reset =>
  absurd (congrArg GauSt.sconv reset) (by simp [GauSt.stopping, default, instInhabitedGauSt.default])

/-- A channel whose gate has closed on a pair of edges; the interval is complete at `c`. -/
def GauSt.pairing (g : GauSt) (x : Int) (c : Nat) : GauSt := { g with gate := none, paired := true, ivl := some (x, c) }

theorem GauSt.pairing_listed {x : Int} : g.pairing x t ≠ default := fun reset =>
  absurd (congrArg GauSt.ivl reset) (by simp [GauSt.pairing, default, instInhabitedGauSt.default])

theorem State.stopEdge_unseen (unseen : s.on (GAU_CFG_MODE n) = false ∨ s.gaugeStopped n = true ∨ s.get (GAU_CFG_STOP_SRC n) ≠ src ∨
    s.signal src = false ∨ e.falling ≠ s.on (GAU_CFG_STOP_EDGE n)) : s.stopEdge n src e = s := by
  rcases unseen with stamps | unseen
  · simp [State.stopEdge, stamps]
  · simp [State.stopEdge, State.sees_false unseen]

/-- A stop edge within the open gate, with nothing held and no stop edge before it, is taken. -/
theorem State.stopEdge_seen (intervals : s.on (GAU_CFG_MODE n) = true)
    (sees : s.sees n src (s.get (GAU_CFG_STOP_SRC n)) e.falling (s.on (GAU_CFG_STOP_EDGE n)) (s.gauge n).seenStop e.time = true)
    (gate : (s.gauge n).gate = some (b, width)) (inTime : e.time ≤ b.t + width) (first : (s.gauge n).lastStop = none)
    (held : (s.gauge n).held = []) : s.stopEdge n src e = (s.setGauge n ((s.gauge n).stopSeen e.time)).stopTaken n e.time := by
  have seen := State.gauge_setGauge (s := s) (n := n) (g := (s.gauge n).stopSeen e.time) GauSt.stopSeen_listed
  have last : ((s.gauge n).stopSeen e.time).lastStop = none := first
  have results : ((s.gauge n).stopSeen e.time).held = [] := held
  simp only [State.stopEdge, intervals, sees, Bool.not_true, Bool.or_self, Bool.false_eq_true, if_false,
    State.gatePassed_open gate inTime, State.gaugePass_none held]
  rw [← GauSt.stopSeen]
  simp only [State.missed, seen, last, results, within, Bool.and_false, Bool.false_eq_true, if_false, List.length_nil, Bool.false_or,
    Nat.reduceLeDiff, decide_false]

theorem State.stopTaken_pairs (idle : (s.gauge n).sconv = none) (gate : (s.gauge n).gate = some (b, width)) (after : b.t < t) :
    let x := s.edgeStamp n t true
    (s.setGauge n ((s.gauge n).stopSeen t)).stopTaken n t =
      (s.setGauge n ((((s.gauge n).stopSeen t).stopping t x).pairing (x.stamp - b.stamp) (t + 768000))).set (GAU_STATUS_TOLL_OPEN n) 0 := by
  have seen := State.gauge_setGauge (s := s) (n := n) (g := (s.gauge n).stopSeen t) GauSt.stopSeen_listed
  have idle_ : ((s.gauge n).stopSeen t).sconv.isSome = false := by rw [GauSt.stopSeen, idle]; rfl
  have opened (x : Taken1) : (((s.gauge n).stopSeen t).stopping t x).gate = some (b, width) := gate
  have complete : max t (max b.t (s.edgeStamp n t true).t + convTime) = t + 768000 := by
    rw [show (s.edgeStamp n t true).t = t from rfl, max_eq_right after.le, convTime, max_eq_right (by omega)]
  simp only [State.stopTaken, seen, idle_, State.when_false, State.setGauge_edgeStamp]
  rw [← GauSt.stopping]
  simp only [State.setGauge_setGauge GauSt.stopSeen_listed GauSt.stopping_listed, State.gauge_setGauge GauSt.stopping_listed, opened,
    if_pos after, State.pairUp, complete]
  rw [← GauSt.pairing, State.setGauge_setGauge GauSt.stopping_listed GauSt.pairing_listed]

/-! ### Conversions and the tollgate -/

theorem State.convDone_stamp {c : Taken1} (runs : s.gaugeStopped n = false) (start : (s.gauge n).conv = some c)
    (idle : (s.gauge n).sconv = none) (stamps : s.on (GAU_CFG_MODE n) = false) :
    s.convDone n = (s.setGauge n { s.gauge n with conv := none }).stampDone n c := by
  simp only [State.convDone, runs, start, idle, State.setGauge_on, stamps, Bool.false_eq_true, if_false, if_true]

theorem State.convDone_idle (start : (s.gauge n).conv = none) (stop : (s.gauge n).sconv = none) : s.convDone n = s := by
  simp only [State.convDone, start, stop, Option.isSome_none, Bool.false_eq_true, if_false, ite_self]

theorem State.gateClose_order (gate : (s.gauge n).gate = some (b, width)) (stop : (s.gauge n).stop = some p)
    (unpaired : (s.gauge n).paired = false) (before : p.t + 1 < b.t) (inTime : b.t ≤ p.t + width) (converts : (s.gauge n).conv ≠ none) :
    s.gateClose n = (((s.setGauge n ((s.gauge n).pairing (p.stamp - b.stamp) (max (b.t + width) (max b.t p.t + 768000)))).set
      (GAU_STATUS_TOLL_OPEN n) 0).raise (GAU_EVT_ORDER n)).count (GAU_COUNT3_ORDERS n) := by
  have inside : ¬ ((s.gauge n).paired = true ∨ b.t < p.t ∨ p.t + width < b.t) := by rw [unpaired]; simp; omega
  have apart : ¬ p.t = b.t := by omega
  obtain ⟨c, conv⟩ := Option.ne_none_iff_exists'.1 converts
  have waits (u : State) (x : Int) (at_ : Nat) (gauge : u.gauge n = (s.gauge n).pairing x at_) : u.intervalWrite n = u := by
    simp only [State.intervalWrite, gauge, GauSt.pairing, conv]
  simp only [State.gateClose, gate, stop, if_neg inside, if_neg apart, decide_eq_true before, State.when_true]
  rw [State.pairUp, ← GauSt.pairing]
  exact waits _ _ _ (State.gauge_setGauge (s := s) GauSt.pairing_listed)

/-- The gate closes on no pair. -/
theorem State.gateClose_timeout (gate : (s.gauge n).gate = some (b, width))
    (none_ : ∀ p, (s.gauge n).stop = some p → (s.gauge n).paired = true ∨ b.t < p.t ∨ p.t + width < b.t) :
    s.gateClose n = (((s.setGauge n { s.gauge n with gate := none }).set (GAU_STATUS_TOLL_OPEN n) 0).count (GAU_COUNT3_TIMEOUTS n)).raise
      (GAU_EVT_TIMEOUT n) := by
  cases stop : (s.gauge n).stop with
  | none => simp only [State.gateClose, gate, stop]
  | some p => simp only [State.gateClose, gate, stop, if_pos (none_ p stop)]

theorem State.gateClose_shut (shut : (s.gauge n).gate = none) : s.gateClose n = s := by simp only [State.gateClose, shut]

/-! ### Statistics -/

theorem State.statCtrlWrite_start (start : v.getLsbD 0 = true) (noAbort : v.getLsbD 1 = false) :
    s.statCtrlWrite m n v = s.statStart m n := by
  simp only [State.statCtrlWrite, start, noAbort, State.when_true, State.when_false]

theorem State.statCtrlWrite_abort (noStart : v.getLsbD 0 = false) (abort : v.getLsbD 1 = true) :
    s.statCtrlWrite m n v = s.statEnd n true := by
  simp only [State.statCtrlWrite, noStart, abort, State.when_true, State.when_false]

theorem State.statStart_taken (idle : (s.gauge n).run = none) (taken : s.statTaken n = true) :
    let u := s.setGauge n { s.gauge n with
      run := some (s.get (GAU_STAT_CFG_QTY n), s.get (GAU_STAT_CFG_N n)), results := [], prevStamp := none }
    let u := (u.set (GAU_STAT_COUNT_COUNT n) 0).set (GAU_STAT_STD_STD n) 0
    let u := (u.setWide (GAU_STAT_MEAN_LO n) (GAU_STAT_MEAN_HI n) 32 0).setWide (GAU_STAT_MIN_LO n) (GAU_STAT_MIN_HI n) 32 0
    s.statStart m n = (u.setWide (GAU_STAT_MAX_LO n) (GAU_STAT_MAX_HI n) 32 0).set (GAU_STATUS_STAT_BUSY n) 1 := by
  simp only [State.statStart, idle, taken, Option.isSome_none, Bool.not_true, Bool.false_eq_true, if_false]

theorem State.statEnd_abort {q : Nat × Nat} (runs : (s.gauge n).run = some q) (unasked : s.gaugeMailbox n = none) :
    s.statEnd n true = ((s.setGauge n { s.gauge n with run := none }).set (GAU_STATUS_STAT_BUSY n) 0).raise (GAU_EVT_STAT_ABORTED n) := by
  have nobody (u : State) (fw : u.fw = s.fw) : u.gaugeAnswer n true = u := by
    have : u.gaugeMailbox n = none := by rw [State.gaugeMailbox, fw]; exact unasked
    simp only [State.gaugeAnswer, this]
  simp only [State.statEnd, runs, Option.isNone_some, Bool.false_eq_true, if_false, if_true]
  exact nobody _ (by rw [State.raise, State.set_fw, State.set_fw, State.setGauge_fw])

/-- Settles O42: what a gauge channel does (R250, R253 to R260, R263). -/
theorem gaugeCommandsComplete : Obligations.GaugeCommandsComplete := by
  unfold Obligations.GaugeCommandsComplete
  refine ⟨?enable, ?disable, ?unseen, ?missed, ?ignored, ?skipped, ?stamp, ?opens, ?pairs, ?stopUnseen, ?conversion, ?noConversion, ?order,
    ?late, ?alone, ?shut, ?start, ?abort⟩
  case enable =>
    intro s m n v w r inRange at_ was enable foreign source stop taken u stamps
    exact congrArg Host.Outcome.next ((State.when_access inRange at_).trans
      (State.gaugeCfgWrite_enable (s := s.answer m .ok) foreign source stop taken was enable stamps))
  case disable =>
    intro s m n v w r inRange at_ was disable foreign source stop taken
    exact congrArg Host.Outcome.next ((State.when_access inRange at_).trans
      (State.gaugeCfgWrite_disable (s := s.answer m .ok) foreign source stop taken was disable))
  case unseen =>
    exact fun s n src e unseen => congrArg Host.Outcome.next (State.when_same (if_pos (by rw [State.sees_false unseen]; rfl)))
  case missed =>
    intro s n src e x inRange sees shut held cool last soon g
    refine congrArg Host.Outcome.next ((State.when_decide inRange).trans ((State.startEdge_seen sees shut held).trans ?_))
    simp only [cool, Bool.false_and, Bool.false_eq_true, if_false, within_last last, deadTime, decide_eq_true soon, if_true]
    exact State.startLost_of ((State.set_gauge ..).trans (State.counted_gauge _))
  case ignored =>
    intro s n src e x inRange sees shut held cool last dead soon g
    refine congrArg Host.Outcome.next ((State.when_decide inRange).trans ((State.startEdge_seen sees shut held).trans ?_))
    simp only [cool, Bool.false_and, Bool.false_eq_true, if_false, within_last last, deadTime, decide_eq_false (Nat.not_lt.2 dead),
      decide_eq_true soon, if_true]
    exact State.startLost_of (State.counted_gauge _)
  case skipped =>
    intro s n src e x inRange sees shut held hot last soon g
    refine congrArg Host.Outcome.next ((State.when_decide inRange).trans ((State.startEdge_seen sees shut held).trans ?_))
    simp only [hot, Bool.true_and, within_last last, cutTime, decide_eq_true soon, if_true]
    exact State.startLost_of (State.counted_gauge _)
  case stamp =>
    intro s n src e inRange sees shut held first idle stamps
    refine congrArg Host.Outcome.next ((State.when_decide inRange).trans ((State.startEdge_seen sees shut held).trans ?_))
    simp only [within_none first, Bool.and_false, Bool.false_eq_true, if_false]
    exact State.startTaken_stamp idle stamps
  case opens =>
    intro s n src e inRange sees shut held first idle intervals unstopped b
    refine congrArg Host.Outcome.next ((State.when_decide inRange).trans ((State.startEdge_seen sees shut held).trans ?_))
    simp only [within_none first, Bool.and_false, Bool.false_eq_true, if_false]
    exact State.startTaken_interval idle intervals unstopped
  case pairs =>
    intro s n src e b w inRange intervals sees gate after inTime first held idle x
    exact congrArg Host.Outcome.next ((State.when_decide inRange).trans
      ((State.stopEdge_seen intervals sees gate inTime first held).trans (State.stopTaken_pairs idle gate after)))
  case stopUnseen => exact fun s n src e unseen => congrArg Host.Outcome.next (State.when_same (State.stopEdge_unseen unseen))
  case conversion =>
    intro s n e inRange runs start idle stamps
    exact congrArg Host.Outcome.next ((State.when_decide inRange).trans (State.convDone_stamp runs start idle stamps))
  case noConversion => exact fun s n start stop => congrArg Host.Outcome.next (State.when_same (State.convDone_idle start stop))
  case order =>
    intro s n w b p inRange runs gate stop unpaired before inTime converts
    exact congrArg Host.Outcome.next ((State.when_pos (by simp [inRange, runs])).trans
      (State.gateClose_order gate stop unpaired before inTime converts))
  case late =>
    intro s n w b p inRange runs gate stop late
    refine congrArg Host.Outcome.next ((State.when_pos (by simp [inRange, runs])).trans
      (State.gateClose_timeout gate fun q found => ?_))
    rwa [Option.some.inj (found.symm.trans stop)]
  case alone =>
    intro s n w e inRange runs gate alone
    exact congrArg Host.Outcome.next ((State.when_pos (by simp [inRange, runs])).trans
      (State.gateClose_timeout gate fun q found => nomatch found.symm.trans alone))
  case shut => exact fun s n shut => congrArg Host.Outcome.next (State.when_same (State.gateClose_shut shut))
  case start =>
    intro s m n v r inRange at_ start noAbort idle taken
    exact congrArg Host.Outcome.next ((State.when_access inRange at_).trans
      ((State.statCtrlWrite_start start noAbort).trans (State.statStart_taken (s := s.answer m .ok) idle taken)))
  case abort =>
    intro s m n v r q inRange at_ noStart abort runs unasked
    exact congrArg Host.Outcome.next ((State.when_access inRange at_).trans
      ((State.statCtrlWrite_abort noStart abort).trans (State.statEnd_abort (s := s.answer m .ok) runs unasked)))

end Sys2Proof.Machine

/-! Settles O43: what an interpolator measures for an edge (chapter 11). -/

namespace Sys2Proof.Machine

/-- A reading between those of one and of two cycles, in 2048ths of a cycle past the first, rounded to the nearest. -/
theorem span_rounds {d x : Nat} (pos : 0 < d) (within_ : x ≤ d) :
    (4096 * x + d) / (2 * d) ≤ 2048 ∧ (4096 * x + d) / (2 * d) * (2 * d) ≤ 4096 * x + d ∧
      4096 * x + d < (4096 * x + d) / (2 * d) * (2 * d) + 2 * d :=
  ⟨Nat.lt_succ_iff.1 (Nat.div_lt_of_lt_mul (by omega)), Nat.div_mul_le_self _ _, Nat.lt_div_mul_add (by omega)⟩

/-- Settles O43: the span is one cycle to two, and grows with the reading (R253). -/
theorem edgeSpanIsLinear : Obligations.EdgeSpanIsLinear := by
  unfold Obligations.EdgeSpanIsLinear
  refine ⟨?span, ?one, ?two, fun _ => rfl⟩
  case span =>
    intro e low high calibrated
    obtain ⟨most, below, above⟩ := span_rounds (x := e.r - e.c1) (Nat.sub_pos_of_lt calibrated) (Nat.sub_le_sub_right high e.c1)
    zify [low, calibrated.le] at below above
    refine ⟨Nat.le_add_right .., Nat.add_le_add_left most 2048, ?_, ?_⟩ <;> unfold Edge.span <;> push_cast [low, calibrated.le] <;> linarith
  case one =>
    intro e same calibrated
    rw [Edge.span, same, Nat.sub_self, Nat.mul_zero, Nat.zero_add, Nat.div_eq_of_lt (by omega)]
  case two =>
    intro e same calibrated
    have pos := Nat.sub_pos_of_lt calibrated
    rw [Edge.span, same, show 4096 * (e.c2 - e.c1) + (e.c2 - e.c1) = (e.c2 - e.c1) + 2048 * (2 * (e.c2 - e.c1)) by ring,
      Nat.add_mul_div_right _ _ (by omega), Nat.div_eq_of_lt (by omega)]

end Sys2Proof.Machine

/-! Refutes O44. Its clauses on the tail of a frame ask of the state at hand whether BUF is gated, and the device asks once it has counted
what it found on the line. The two agree when the register file is canonical; the statement does not ask it. A counter that wraps to its
Reset word is taken from the file, and with it what hid an entry behind it that is out of order: the gate of BUF. -/

namespace Sys2Proof.Machine

/-- A device whose register file lists a counter of port 0 ahead of the gates, with a frame on its way in and out of port 0. -/
def gateBehindCounter : State :=
  { State.reset with
    regs := [(PRT_CNT_LO 0 21, 0xFFFFFFFF), (CGU_GATE_STATUS, 0x20000)]
    ports := [(0, { (default : PortSt) with rx := some 7 })]
    buf := { State.reset.buf with
      frames := [{ (default : Frame) with id := 7 }], copies := [{ (default : Copy) with id := 1, frame := 7, place := .line }] } }

/-- Of the frames that a command leaves, whether a gate dropped them. -/
def gateDropsAfter : Host.Outcome State Fault Refusal → List Bool
  | .next t => t.buf.frames.map (·.gateDrop)
  | _ => []

/-- Refutes O44: a codeword corrected wraps the counter of port 0 to 0, the gate behind it is read, and the frame that ends is dropped by
the gate, where the clause has it whole (R80, R343). -/
theorem not_forwardingCommandsComplete : ¬ Obligations.ForwardingCommandsComplete := by
  unfold Obligations.ForwardingCommandsComplete
  rintro ⟨-, -, -, tail, -⟩
  have ends := tail gateBehindCounter 0 0 7 [] .good ⟨1, 0, 0⟩ { (default : Frame) with id := 7 } (by decide) (by decide +kernel)
    (by decide +kernel) (by decide +kernel) (by decide +kernel)
  exact absurd (congrArg gateDropsAfter ends) (by decide +kernel)

end Sys2Proof.Machine

/-! Settles O45, the buffers' own commands (chapter 16): pauses, watchdogs, the siding and the counters. -/

namespace Sys2Proof.Machine

variable {s : State} {v : Word} {r : RegRow} {p o c : Nat}

/-! ### Pauses and watchdogs -/

theorem State.pauseAgain_sends (xoff : s.on (BUF_IN_STATUS_XOFF_STATE p) = true) (runs : s.gateIn 17 = false)
    (asks : s.on (PRT_MAC_PFC_EN p) = true ∨ s.on (PRT_STATUS_PAUSE_TX p) = true) (up : s.portUp p = true) (idle : (s.sout p).tx = none)
    (opened : s.macOpen p = true) :
    s.pauseAgain p = ((s.emit .pause p [1] (s.pauseBytes p 0xFFFF)).countTx p 64 0x0180C2000001).countPort p 17 1 := by
  have asks_ : (s.on (PRT_MAC_PFC_EN p) || s.on (PRT_STATUS_PAUSE_TX p)) = true := Bool.or_eq_true_iff.2 asks
  simp only [State.pauseAgain, xoff, runs, Bool.not_false, Bool.and_self, State.when_true, State.pauseWant, asks_, up, Bool.not_true,
    Bool.or_self, Bool.false_eq_true, if_false, idle, Option.isSome_none, State.pauseSend, opened, if_true, Nat.cast_one]

theorem State.pauseAgain_off (off : s.on (BUF_IN_STATUS_XOFF_STATE p) = false) : s.pauseAgain p = s :=
  State.when_neg (by rw [off, Bool.false_and])

theorem State.watchdog_ends (paused : (s.get (PRT_STATUS_PAUSED o)).testBit c = true) (armed : s.get (BUF_OUT_CFG_PAUSE_WD o) ≠ 0)
    (runs : s.gateIn 17 = false) :
    let u := s.setPaused o c false
    let u := u.set (BUF_OUT_STATUS_WD_ACTIVE o) (putBit (u.get (BUF_OUT_STATUS_WD_ACTIVE o)) c true)
    s.watchdog o c = ((u.raise (BUF_OUT_EVT_WD o)).count (BUF_OUT_WD_COUNT_WD_COUNT o)).logFault 0x20 o none := by
  simp only [State.watchdog, paused, armed, runs, Bool.not_true, Bool.false_eq_true, or_self, if_false]

/-! ### The siding -/

theorem State.graceEnd_siding (siding : s.get (BUF_OUT_STATUS_SIDING o) = 1) (runs : s.gateIn 17 = false) :
    s.graceEnd o = (s.set (BUF_OUT_STATUS_SIDING o) 2).setTimer o none := if_pos ⟨siding, by rw [runs]; rfl⟩

theorem State.graceEnd_other (other : s.get (BUF_OUT_STATUS_SIDING o) ≠ 1) : s.graceEnd o = s := if_neg fun h => other h.1

/-- The state of an output once its flush has ended: no stream is left, and the event stands. -/
def State.flushed (s : State) (o : Nat) : State :=
  State.raise { s with sch := { s.sch with streams := s.sch.streams.filter fun x => x.1 / 8 % 48 != o } } (BUF_OUT_EVT_FLUSH o)

/-- The end of a flush touches no register of a port. -/
theorem State.flushed_portUp (wf : s.regsWf = true) (inRange : o < 48) : (s.flushed o).portUp o = s.portUp o := by
  have apart : PRT_STATUS o ≠ BUF_OUT_EVT o := by unfold PRT_STATUS BUF_OUT_EVT; omega
  unfold State.portUp State.flushed State.raise
  rw [State.get_set_addr (by exact wf) (BUF_OUT_EVT_FLUSH o) (PRT_STATUS_STATE o) 1 apart]
  rfl

/-- A flush with no copy left to discard. -/
theorem State.flushEnd_empty (flushing : s.get (BUF_OUT_STATUS_SIDING o) = 2) (runs : s.gateIn 17 = false)
    (empty : ∀ x ∈ s.buf.copies, x.out = o → x.place ≠ .queued ∧ x.place ≠ .slot) (wf : s.regsWf = true) (inRange : o < 48) :
    s.flushEnd o = if s.portUp o = true then (s.flushed o).set (BUF_OUT_STATUS_SIDING o) 0
      else ((s.flushed o).set (BUF_OUT_STATUS_SIDING o) 3).flushMac (some o) := by
  have none_ : (s.buf.copies.filter fun x => x.out == o && (x.place == .queued || x.place == .slot)) = [] := by
    rw [List.filter_eq_nil_iff]
    intro x mem
    by_cases same : x.out = o
    · simp [same, empty x mem same]
    · simp [same]
  have siding : s.siding o = 2 := flushing
  have goes : ¬ (s.siding o ≠ 2 ∨ s.gateIn 17 = true) := by rw [siding, runs]; decide
  simp only [State.flushEnd, if_neg goes, none_, List.foldl_nil]
  rw [← State.flushed, State.flushed_portUp wf inRange]

theorem State.flushEnd_other (other : s.get (BUF_OUT_STATUS_SIDING o) ≠ 2 ∨ s.gateIn 17 = true) : s.flushEnd o = s := if_pos other

/-! ### BUF_CTRL -/

theorem State.bufCtrlWrite_counts (counts : v.getLsbD 0 = true) (keeps : v.getLsbD 1 = false) :
    s.bufCtrlWrite v r = s.clearRegs isBufCounter := by
  simp only [State.bufCtrlWrite, counts, keeps, State.when_true, State.when_false]

theorem State.bufCtrlWrite_peaks (keeps : v.getLsbD 0 = false) (peaks : v.getLsbD 1 = true) : s.bufCtrlWrite v r = s.clearPeaks := by
  simp only [State.bufCtrlWrite, peaks, keeps, State.when_true, State.when_false]

/-- Settles O45: pauses, watchdogs, the siding, and clearing the counters (R317, R351 to R357). -/
theorem bufferCommandsComplete : Obligations.BufferCommandsComplete := by
  unfold Obligations.BufferCommandsComplete
  refine ⟨?resend, ?noResend, ?watchdogEnd, ?watchdog, ?quanta, ?grace, ?noGrace, ?flushUp, ?flushDown, ?noFlush, ?counts, ?peaks⟩
  case resend =>
    intro s p inRange xoff runs asks up idle opened
    exact congrArg Host.Outcome.next ((State.when_decide inRange).trans (State.pauseAgain_sends xoff runs asks up idle opened))
  case noResend => exact fun s p off => congrArg Host.Outcome.next (State.when_same (State.pauseAgain_off off))
  case watchdogEnd =>
    exact fun s o c output class_ runs =>
      congrArg Host.Outcome.next ((State.when_decide ⟨output, class_⟩).trans (if_neg (by simp [runs])))
  case watchdog =>
    intro s o c output class_ paused armed runs
    exact congrArg Host.Outcome.next ((State.when_decide ⟨output, class_⟩).trans (State.watchdog_ends paused armed runs))
  case quanta =>
    exact fun s p c port class_ => congrArg Host.Outcome.next (State.when_decide ⟨port, class_⟩)
  case grace =>
    intro s o inRange siding runs
    exact congrArg Host.Outcome.next ((State.when_decide inRange).trans (State.graceEnd_siding siding runs))
  case noGrace => exact fun s o other => congrArg Host.Outcome.next (State.when_same (State.graceEnd_other other))
  case flushUp =>
    intro s o inRange flushing runs empty wf up
    exact congrArg Host.Outcome.next ((State.when_decide inRange).trans
      ((State.flushEnd_empty flushing runs empty wf inRange).trans (if_pos up)))
  case flushDown =>
    intro s o inRange flushing runs empty wf down
    exact congrArg Host.Outcome.next ((State.when_decide inRange).trans
      ((State.flushEnd_empty flushing runs empty wf inRange).trans (if_neg (by simp [down]))))
  case noFlush => exact fun s o other => congrArg Host.Outcome.next (State.when_same (State.flushEnd_other other))
  case counts =>
    exact fun s m v r at_ counts keeps =>
      congrArg Host.Outcome.next ((State.access_row at_).trans (State.bufCtrlWrite_counts counts keeps))
  case peaks =>
    exact fun s m v r at_ keeps peaks =>
      congrArg Host.Outcome.next ((State.access_row at_).trans (State.bufCtrlWrite_peaks keeps peaks))

end Sys2Proof.Machine

/-! Settles O48, the mirror (chapter 18). -/

namespace Sys2Proof.Machine

variable {s : State} {m : Master} {r : RegRow} {v w : Word} {x : List Octet} {xs : List (List Octet)}

/-! ### Writes of MIR_CFG and MIR_RING_RD -/

theorem State.mirCfgWrite_enable (was : s.on MIR_CFG_EN = false) (enable : v.getLsbD 0 = true)
    (taken : writeFields r.fields (s.rd MIR_CFG) v = (w, false)) (off : (s.wr MIR_CFG w).get MIR_STATUS_STATE = 0)
    (ring : 2 ≤ (s.wr MIR_CFG w).get MIR_RING_LEN_LEN) (cool : (s.wr MIR_CFG w).on MIR_STATUS_THERMAL = false) :
    s.mirCfgWrite m v r =
      ((s.wr MIR_CFG w).set MIR_RING_WR_WR ((s.wr MIR_CFG w).get MIR_RING_RD_RD)).set MIR_STATUS_STATE 1 := by
  simp only [State.mirCfgWrite, was, enable, State.plainWrite_ok taken, State.mirStart, off, ring, cool, State.when_false, Bool.false_and,
    Bool.not_false, Bool.and_self, Bool.false_eq_true, ne_eq, not_true_eq_false, and_self, if_false, if_true]

theorem State.mirCfgWrite_disable (was : s.on MIR_CFG_EN = true) (disable : v.getLsbD 0 = false)
    (taken : writeFields r.fields (s.rd MIR_CFG) v = (w, false)) : s.mirCfgWrite m v r = (s.wr MIR_CFG w).mirOff := by
  simp only [State.mirCfgWrite, was, disable, State.plainWrite_ok taken, State.when_false, Bool.and_false, Bool.false_and, Bool.not_true,
    Bool.not_false, Bool.and_self, Bool.false_eq_true, if_false, if_true]

theorem State.ringRdEffect_taken (below : fieldOf MIR_RING_RD_RD v < s.get MIR_RING_LEN_LEN)
    (taken : writeFields r.fields (s.rd MIR_RING_RD) v = (w, false)) (on : s.mirOn = true) :
    s.ringRdEffect m v r = (s.wr MIR_RING_RD w).mirResume := by
  have inRange : ¬ (s.get MIR_RING_LEN_LEN ≤ fieldOf MIR_RING_RD_RD v ∧ fieldOf MIR_RING_RD_RD v ≠ 0) :=
    fun h => absurd below (Nat.not_lt.2 h.1)
  simp only [State.ringRdEffect, if_neg inRange, on, State.plainWrite_ok taken, State.when_true]

/-! ### The ring -/

theorem State.setFifo_writes : WritesOnly [MIR_STATUS] s (s.setFifo xs) := by
  unfold State.setFifo
  exact WritesOnly.set (s := s) (l := [MIR_STATUS]) (t := { s with mir := { s.mir with fifo := xs } }) (f := MIR_STATUS_FIFO_LEVEL)
    (.of_regs rfl) (by decide) _

/-- What the head record of the FIFO leaves behind it on its way to the ring, at the address `a`. -/
def State.headWritten (s : State) (x : List Octet) (xs : List (List Octet)) (a : Int) : State :=
  (((s.emit .hostWrite 1 [a] x).setFifo xs).set MIR_RING_WR_WR ((s.get MIR_RING_WR_WR + 1) % s.get MIR_RING_LEN_LEN)).count
    MIR_COUNT_RECORDS_COUNT

theorem State.headWritten_writes (a : Int) : WritesOnly [MIR_STATUS, MIR_RING_WR, MIR_COUNT_RECORDS] s (s.headWritten x xs a) := by
  have fifo : WritesOnly [MIR_STATUS] s ((s.emit .hostWrite 1 [a] x).setFifo xs) :=
    .trans (t := s.emit .hostWrite 1 [a] x) (.of_regs rfl) State.setFifo_writes
  exact .set (f := MIR_COUNT_RECORDS_COUNT) (.set (f := MIR_RING_WR_WR) (fifo.mono (by decide)) (by decide) _) (by decide) _

/-- The head record of the FIFO goes to the ring. -/
theorem State.mirDrain_record (wf : s.regsWf = true) (on : s.mirOn = true) (head : s.mir.fifo = x :: xs)
    (ring : 2 ≤ s.get MIR_RING_LEN_LEN) (room : s.ringFree ≠ 0) (unwatched : s.get MIR_IRQ_WATERMARK = 0) :
    s.mirDrain = (s.headWritten x xs
      (s.getWide MIR_RING_BASE_LO MIR_RING_BASE_HI 32 + s.get MIR_RING_WR_WR * s.slotSize : Nat)).mirResume := by
  have unwatched_ (a : Int) : (s.headWritten x xs a).get MIR_IRQ_WATERMARK = 0 := by
    rw [(State.headWritten_writes a).get wf (by decide), unwatched]
  have goes : ¬ (s.get MIR_RING_LEN_LEN < 2 ∨ s.ringFree = 0) := not_or.2 ⟨Nat.not_lt.2 ring, room⟩
  simp only [State.mirDrain, on, head, if_neg goes, Bool.not_true, Bool.false_eq_true, if_false]
  rw [← State.headWritten, unwatched_]
  push_cast
  rfl

theorem State.mirDrain_full (on : s.mirOn = true) (waits : s.mir.fifo ≠ []) (full : s.ringFree = 0) : s.mirDrain = s.mirSampling := by
  obtain ⟨x, xs, head⟩ := List.exists_cons_of_ne_nil waits
  simp only [State.mirDrain, on, head, full, or_true, Bool.not_true, Bool.false_eq_true, if_false, if_true]

theorem State.mirHold_set (hold : s.get MIR_IRQ_HOLD ≠ 0) (used : s.ringUsed ≠ 0) (on : s.mirOn = true) :
    s.mirHold = s.set MIR_EVT_WATERMARK 1 := State.when_pos (by simp [hold, used, on])

theorem State.mirHold_empty (empty : s.ringUsed = 0) : s.mirHold = s := State.when_neg (by simp [empty])

/-- Settles O48: the mirror (R387 to R390). -/
theorem mirrorCommandsComplete : Obligations.MirrorCommandsComplete := by
  unfold Obligations.MirrorCommandsComplete
  refine ⟨?enable, ?disable, ?record, ?full, ?off, ?read, ?hold, ?empty, ?error, ?noError, ?clear⟩
  case enable =>
    intro s m v w r at_ was enable taken u off ring cool
    exact congrArg Host.Outcome.next ((State.access_row at_).trans
      (State.mirCfgWrite_enable (s := s.answer m .ok) was enable taken off ring cool))
  case disable =>
    intro s m v w r at_ was disable taken
    exact congrArg Host.Outcome.next ((State.access_row at_).trans
      (State.mirCfgWrite_disable (s := s.answer m .ok) was disable taken))
  case record =>
    exact fun s x xs wf on head ring room unwatched => congrArg Host.Outcome.next (State.mirDrain_record wf on head ring room unwatched)
  case full => exact fun s on waits _ full => congrArg Host.Outcome.next (State.mirDrain_full on waits full)
  case off => exact fun s off => congrArg Host.Outcome.next (if_pos (by rw [off]; rfl))
  case read =>
    intro s m v w r at_ below taken on
    exact congrArg Host.Outcome.next ((State.access_row at_).trans
      (State.ringRdEffect_taken (s := s.answer m .ok) below taken on))
  case hold => exact fun s hold used on => congrArg Host.Outcome.next (State.mirHold_set hold used on)
  case empty => exact fun s empty => congrArg Host.Outcome.next (State.mirHold_empty empty)
  case error => exact fun s on => congrArg Host.Outcome.next (if_neg on)
  case noError => exact fun s off => congrArg Host.Outcome.next (if_pos off)
  case clear =>
    exact fun s m v r at_ clear => congrArg Host.Outcome.next ((State.access_row at_).trans (State.when_pos clear))

end Sys2Proof.Machine

/-! Settles O46, the turntable, promotions, and what an output starts and ends (chapter 17). -/

namespace Sys2Proof.Machine

variable {s : State} {d o c : Nat} {x : Copy} {f : Frame} {y : Tx}

/-! ### The turntable and promotions -/

theorem State.iterate_runs (runs : s.queuesStill = false) :
    s.iterate = State.internalStarts (s.each [0, 1, 2, 3]
      (State.accepts ((List.range 48).filterMap fun o => (s.grant o).map fun g => (o, g)))) := if_neg (by rw [runs]; decide)

theorem State.promote_head (aged : s.get (SCH_OUT_CFG_AGE_THR o) ≠ 0) (lower : s.topCoach o ≠ c) (runs : s.queuesStill = false)
    (head : ((s.depotCopies d o c).find? fun x => !x.mail && x.place == .queued) = some x) (first : x.promoted = 0)
    (free : s.paused o c = false) (opened : s.gateOpenFor o c = true) (up : s.portUp o = true) (normal : s.siding o = 0) :
    s.promote d o c = ({ s with buf := { s.buf with
      nextId := s.buf.nextId + 1, copies := s.buf.copies.map fun y => if y.id = x.id then { x with promoted := s.buf.nextId + 1 } else y } }) := by
  simp only [State.promote, aged, lower, runs, head, first, free, opened, up, normal, Bool.not_true, Bool.false_eq_true, ne_eq,
    not_true_eq_false, or_self, and_false, if_false, State.setCopy]

theorem State.promote_off (off : s.get (SCH_OUT_CFG_AGE_THR o) = 0) : s.promote d o c = s := if_pos (.inl off)

/-! ### The copy in a slot starts -/

theorem State.slotStart_internal (internal : 48 ≤ o) (runs : s.queuesStill = false) (slot : s.slotCopy o = some x)
    (frame : s.frame? x.frame = some f) (whole : f.ended = true) (idle : (s.sout o).tx = none) : s.slotStart o = s.startTx x := by
  simp only [State.slotStart, runs, Bool.false_eq_true, if_false, decide_eq_false (Nat.not_lt.2 internal), State.when_false, slot, frame,
    whole, if_pos internal, idle, Option.isNone_none, and_self, if_true]

theorem State.slotStart_empty (internal : 48 ≤ o) (slot : s.slotCopy o = none) : s.slotStart o = s := by
  simp only [State.slotStart, decide_eq_false (Nat.not_lt.2 internal), State.when_false, slot, ite_self]

theorem State.slotStart_port (port : o < 48) (runs : s.queuesStill = false) (slot : (s.slotCheck o).slotCopy o = some x)
    (frame : (s.slotCheck o).frame? x.frame = some f) (whole : f.ended = true) (free : (s.slotCheck o).macFree o = true)
    (uncut : ((s.slotCheck o).sout o).cut = none) (unheld : (s.slotCheck o).on (SCH_OUT_STATUS_HOLD o) = false)
    (normal : (s.slotCheck o).siding o = 0) (opened : (s.slotCheck o).gateAllows x = true)
    (fits : (s.slotCheck o).mailFits o ((s.slotCheck o).copyLen x) = true) : s.slotStart o = (s.slotCheck o).startTx x := by
  simp only [State.slotStart, runs, Bool.false_eq_true, if_false, decide_eq_true port, State.when_true, slot, frame, whole,
    if_neg (Nat.not_le.2 port), free, uncut, unheld, normal, opened, fits, Option.isSome_none, Bool.not_true, Bool.true_or, ne_eq,
    not_true_eq_false, or_self]

/-! ### The end of a frame -/

theorem State.loopOut_idle (idle : (s.sout o).tx = none) : s.loopOut o = none := by simp only [State.loopOut, idle]

theorem State.txEnd_idle (idle : (s.sout o).tx = none) : s.txEnd o = s := by simp only [State.txEnd, idle]

theorem State.sendEnd_plain (line : s.loopOut o = none) : s.sendEnd o = s.txEnd o := by simp only [State.sendEnd, line]

section
variable (sends : (s.sout o).tx = some y) (copy : s.copy? y.copy = some x) (frame : s.frame? x.frame = some f)
include sends copy frame

theorem State.loopOut_outward (outward : 48 ≤ o ∨ s.nearLoop o = false) : s.loopOut o = none := by
  have plain : ¬ (o < 48 ∧ s.nearLoop o = true ∧ f.ended = true ∧ (!s.gateIn 17) = true) := by
    rintro ⟨port, loop, -⟩
    rcases outward with internal | line
    · exact absurd port (Nat.not_lt.2 internal)
    · rw [line] at loop
      exact Bool.false_ne_true loop
  simp only [State.loopOut, sends, copy, frame, Option.bind_some, if_neg plain]

variable (whole : f.ended = true) (sound : y.stomp = false) (runs : s.gateIn 17 = false)
include whole sound runs

/-- A whole copy leaves P49 for the firmware. -/
theorem State.txEnd_internal (internal : o = 49) :
    let u := s.wholeOut f y 49
    let t := u.1.setSout 49 { u.1.sout 49 with tx := none }
    let v := (t.emit .frame 49 ((f.inp : Int) :: (stampNums (t.stampsOf f).1 ++ stampNums (t.stampsOf f).2)) u.2).ptpToA f.inp u.2
    s.txEnd o = (v.mirEgress f 49 x.cls x.mail false y.stampA u.2).freeCopy x := by
  subst internal
  simp only [State.txEnd, sends, copy, frame, whole, runs, State.lastOut, sound, Bool.not_true, Bool.false_eq_true, or_self, if_false,
    Nat.reduceLT, Nat.reduceEqDiff, decide_true, decide_false, Bool.false_and, State.when_true, State.when_false]

/-- A whole copy leaves a port, undivided. -/
theorem State.txEnd_port (port : o < 48) (undivided : y.preempts = 0) :
    let u := s.wholeOut f y o
    let t := u.1.setSout o { u.1.sout o with tx := none }
    t.macOpen o = true →
    let t := (t.emit .frame o [0] u.2).countTx o u.2.length (headerOf u.2).da
    s.txEnd o = ((t.mirEgress f o x.cls x.mail false y.stampA u.2).freeCopy x).lineFree o := by
  intro u t opened v
  have apart : o ≠ 48 ∧ o ≠ 49 := by omega
  obtain ⟨host, firmware⟩ := apart
  simp only [u, t] at opened
  simp only [State.txEnd, sends, copy, frame, whole, runs, State.lastOut, sound, opened, undivided, port, host, firmware, Bool.not_true,
    Bool.false_eq_true, or_self, if_false, decide_true, decide_false, Bool.and_self, State.when_true, State.when_false,
    Nat.lt_irrefl, v, t, u]

end

/-- Settles O46: the turntable, promotions, and what an output starts and ends (R359, R361, R363, R364, R367, R383, R385). -/
theorem schedulerCommandsComplete : Obligations.SchedulerCommandsComplete := by
  unfold Obligations.SchedulerCommandsComplete
  refine ⟨?iterate, ?still, ?promotion, ?noPromotion, ?internal, ?port, ?empty, ?clear, ?firmwareEnd, ?portEnd, ?loop, ?noEnd⟩
  case iterate => exact fun s runs => congrArg Host.Outcome.next (State.iterate_runs runs)
  case still => exact fun s still => congrArg Host.Outcome.next (if_pos still)
  case promotion =>
    intro s d o c x depot port class_ aged lower runs head first free opened up normal
    exact congrArg Host.Outcome.next ((State.when_decide ⟨depot, Nat.lt_trans port (by decide), class_⟩).trans
      (State.promote_head aged lower runs head first free opened up normal))
  case noPromotion => exact fun s d o c off => congrArg Host.Outcome.next (State.when_same (State.promote_off off))
  case internal =>
    intro s o c f internal inRange runs slot frame whole idle
    exact congrArg Host.Outcome.next ((State.when_decide inRange).trans (State.slotStart_internal internal runs slot frame whole idle))
  case port =>
    intro s o c f port runs slot frame whole u free uncut unheld normal opened fits
    exact congrArg Host.Outcome.next ((State.when_decide (Nat.lt_trans port (by decide))).trans
      (State.slotStart_port port runs slot frame whole free uncut unheld normal opened fits))
  case empty => exact fun s o internal slot => congrArg Host.Outcome.next (State.when_same (State.slotStart_empty internal slot))
  case clear =>
    exact fun s m v r at_ clear => congrArg Host.Outcome.next ((State.access_row at_).trans (State.when_pos clear))
  case firmwareEnd =>
    intro s x c f sends copy frame whole sound runs u t v
    exact congrArg Host.Outcome.next ((State.when_decide (by decide)).trans
      ((State.sendEnd_plain (State.loopOut_outward sends copy frame (.inl (by decide)))).trans
        (State.txEnd_internal sends copy frame whole sound runs rfl)))
  case portEnd =>
    intro s o x c f port sends copy frame whole sound undivided runs line u t opened v
    exact congrArg Host.Outcome.next ((State.when_decide (by omega)).trans
      ((State.sendEnd_plain (State.loopOut_outward sends copy frame (.inr line))).trans
        (State.txEnd_port sends copy frame whole sound runs port undivided opened)))
  case loop =>
    intro s o bs k port loop
    exact congrArg Host.Outcome.next ((State.when_decide (by omega)).trans (by simp only [State.sendEnd, loop]))
  case noEnd =>
    exact fun s o idle => congrArg Host.Outcome.next (State.when_same
      ((State.sendEnd_plain (State.loopOut_idle idle)).trans (State.txEnd_idle idle)))

end Sys2Proof.Machine

/-! Settles O47, mail, its timetable, the resequencer and the gate lists (chapter 17). -/

namespace Sys2Proof.Machine

variable {s : State} {m : Master} {v : Word} {r : RegRow} {c : Copy} {i o k at_ len base cycle : Nat} {shifted : Bool}

/-! ### Mail -/

theorem State.mailFetch_next (runs : s.queuesStill = false) (next_ : ((s.mailPending o).find? fun c => !c.fetched) = some c) :
    s.mailFetch o = s.setCopy { c with fetched := true } := by
  simp only [State.mailFetch, next_, runs, Bool.false_eq_true, if_false]

theorem State.mailFetch_done (done : ∀ c ∈ s.mailPending o, c.fetched = true) : s.mailFetch o = s := by
  have none_ : ((s.mailPending o).find? fun c => !c.fetched) = none := List.find?_eq_none.2 fun c mem => by simp [done c mem]
  simp only [State.mailFetch, none_]

theorem State.holdAssert_takes (preempting : s.preempting o = true) (runs : s.queuesStill = false) (pending : s.mailPending o ≠ []) :
    s.holdAssert o = (s.set (SCH_OUT_STATUS_HOLD o) 1).preempt o := if_neg (by simp [preempting, runs, pending])

theorem State.holdAssert_idle (idle : s.preempting o = false) : s.holdAssert o = s := if_pos (.inl (by rw [idle]; rfl))

/-- The only copy that is pending is due at its start position. -/
theorem State.mailDue_one (runs : s.queuesStill = false) (flushes : s.siding o ≠ 2) (pending : s.mailPending o = [c]) :
    s.mailDue o shifted = (if s.portUp o = true then s.mailTurn shifted c.id
      else (s.freeCopy c).count (BUF_OUT_SIDING_MAIL_DISC_SIDING_MAIL_DISC o)).holdEval o := by
  have due : [c].filter (fun c' => decide (s.remaining c' ≤ max 0 (s.remaining c))) = [c] := by simp
  simp only [State.mailDue, runs, beq_false_of_ne flushes, pending, due, Bool.or_self, Bool.false_eq_true, if_false, List.foldl_cons,
    List.foldl_nil]

theorem State.mailDue_none (pending : s.mailPending o = []) : s.mailDue o shifted = s := by
  simp only [State.mailDue, pending, ite_self]

/-! ### The resequencer -/

theorem State.rsqTimeout_skips (runs : s.queuesStill = false)
    (waits : ((s.mailPending o).find? fun c => c.waited && s.rsqWord c != .leave) = some c)
    (older : ∀ d ∈ s.mailPending o, d.adm ≠ s.cyc) : s.rsqTimeout o = s.rsqSkip c := by
  have come (p : Copy → Bool) : ((s.mailPending o).any fun d => p d && d.adm == s.cyc) = false :=
    List.any_eq_false.2 fun d mem => by simp [older d mem]
  simp only [State.rsqTimeout, waits, come, runs, Bool.false_eq_true, or_self, if_false]

theorem State.rsqTimeout_none (none_ : ∀ c ∈ s.mailPending o, c.waited = false) : s.rsqTimeout o = s := by
  have nobody : ((s.mailPending o).find? fun c => c.waited && s.rsqWord c != .leave) = none :=
    List.find?_eq_none.2 fun c mem => by simp [none_ c mem]
  simp only [State.rsqTimeout, nobody]

theorem State.streamIdle_ends
    (none_ : ∀ x ∈ s.buf.copies, ¬(x.mail = true ∧ x.inp = i ∧ x.out = o ∧ x.cls = k ∧ x.place = .queued)) :
    s.streamIdle i o k = { s with sch := { s.sch with streams := smPut s.sch.streams (streamKey i o k) none } } := by
  refine if_neg fun queued => ?_
  obtain ⟨x, mem, is⟩ := List.any_eq_true.1 queued
  simp only [Bool.and_eq_true, beq_iff_eq] at is
  obtain ⟨⟨⟨⟨mail, inp⟩, out⟩, cls⟩, place⟩ := is
  exact none_ x mem ⟨mail, inp, out, cls, place⟩

/-! ### Gate lists -/

theorem State.gclCtrlWrite_schedules (change : v.getLsbD 0 = true) (free : s.on (SCH_GCL_STATUS_PENDING o) = false) :
    s.gclCtrlWrite m o v r = s.gclSchedule o := by
  simp only [State.gclCtrlWrite, change, free, Bool.not_true, Bool.false_eq_true, if_false]

theorem State.gclCtrlWrite_pending (change : v.getLsbD 0 = true) (pending : s.on (SCH_GCL_STATUS_PENDING o) = true) :
    s.gclCtrlWrite m o v r = s.refuseWrite m (SCH_GCL_CTRL o) := by
  simp only [State.gclCtrlWrite, change, pending, Bool.not_true, Bool.false_eq_true, if_false, if_true]

theorem State.gclSwap_now (change : (s.sout o).change = some (at_, len, base, cycle)) (runs : s.gateIn 18 = false)
    (come : at_ * nsUnit < s.domTime (s.get SCH_CFG_DOM) + (s.dom (s.get SCH_CFG_DOM)).inc) :
    let u := s.each (List.range 128) fun (e : Nat) (t : State) =>
      (t.wr (SCH_GATE_OPER o e) (t.rd (SCH_GATE_ADMIN o e))).wr (SCH_INTV_OPER o e) (t.rd (SCH_INTV_ADMIN o e))
    let u := u.setSout o { s.sout o with base := base, cycle := cycle, change := none }
    let u := (u.set (SCH_GCL_STATUS_OPER_LEN o) len).set (SCH_GCL_STATUS_PENDING o) 0
    s.gclSwap o = (u.raise (SCH_OUT_EVT_GCL_SWAP o)).gatesMove o := by
  simp only [State.gclSwap, change, runs, Nat.not_le.2 come, Bool.false_eq_true, or_self, if_false]

theorem State.gclSwap_none (none_ : (s.sout o).change = none) : s.gclSwap o = s := by simp only [State.gclSwap, none_]

theorem State.gclSwap_early (change : (s.sout o).change = some (at_, len, base, cycle))
    (early : s.domTime (s.get SCH_CFG_DOM) + (s.dom (s.get SCH_CFG_DOM)).inc ≤ at_ * nsUnit) : s.gclSwap o = s := by
  simp only [State.gclSwap, change, early, or_true, if_true]

theorem State.gatesMove_idle (runs : s.gateIn 18 = false) (idle : (((s.gateShow o).slotCheck o).sout o).tx = none) :
    s.gatesMove o = ((s.gateShow o).slotCheck o).resume o := by
  simp only [State.gatesMove, runs, Bool.false_eq_true, if_false, idle, Bool.false_and, State.when_false]

/-- Settles O47: mail, its timetable, the resequencer and the gate lists (R369 to R379). -/
theorem mailAndGateCommandsComplete : Obligations.MailAndGateCommandsComplete := by
  unfold Obligations.MailAndGateCommandsComplete
  refine ⟨?fetch, ?fetched, ?hold, ?noHold, ?due, ?dueDown, ?noMail, ?gap, ?noGap, ?idle, ?change, ?pending, ?swap, ?noSwap, ?early,
    ?boundary⟩
  case fetch =>
    intro s o c inRange runs next_
    exact congrArg Host.Outcome.next ((State.when_decide inRange).trans (State.mailFetch_next runs next_))
  case fetched => exact fun s o done => congrArg Host.Outcome.next (State.when_same (State.mailFetch_done done))
  case hold =>
    intro s o inRange preempting runs pending
    exact congrArg Host.Outcome.next ((State.when_decide inRange).trans (State.holdAssert_takes preempting runs pending))
  case noHold => exact fun s o idle => congrArg Host.Outcome.next (State.when_same (State.holdAssert_idle idle))
  case due =>
    intro s o shifted c inRange runs flushes pending up
    exact congrArg Host.Outcome.next ((State.when_decide inRange).trans
      ((State.mailDue_one runs flushes pending).trans (by rw [if_pos up])))
  case dueDown =>
    intro s o shifted c inRange runs flushes pending down
    exact congrArg Host.Outcome.next ((State.when_decide inRange).trans
      ((State.mailDue_one runs flushes pending).trans (by rw [if_neg (by simp [down])])))
  case noMail => exact fun s o shifted pending => congrArg Host.Outcome.next (State.when_same (State.mailDue_none pending))
  case gap =>
    intro s o c inRange runs waits older
    exact congrArg Host.Outcome.next ((State.when_decide inRange).trans (State.rsqTimeout_skips runs waits older))
  case noGap => exact fun s o none_ => congrArg Host.Outcome.next (State.when_same (State.rsqTimeout_none none_))
  case idle =>
    intro s i o c ingress output class_ none_
    exact congrArg Host.Outcome.next ((State.when_decide ⟨ingress, output, class_⟩).trans (State.streamIdle_ends none_))
  case change =>
    intro s m o v r inRange at_ change free
    exact congrArg Host.Outcome.next ((State.when_access inRange at_).trans
      (State.gclCtrlWrite_schedules (s := s.answer m .ok) change free))
  case pending =>
    intro s m o v r inRange at_ change pending
    exact congrArg Host.Outcome.next ((State.when_access inRange at_).trans
      (State.gclCtrlWrite_pending (s := s.answer m .ok) change pending))
  case swap =>
    intro s o at_ len base cycle inRange change runs come
    exact congrArg Host.Outcome.next ((State.when_decide inRange).trans (State.gclSwap_now change runs come))
  case noSwap => exact fun s o none_ => congrArg Host.Outcome.next (State.when_same (State.gclSwap_none none_))
  case early =>
    exact fun s o at_ len base cycle change early => congrArg Host.Outcome.next (State.when_same (State.gclSwap_early change early))
  case boundary =>
    intro s o inRange runs idle
    exact congrArg Host.Outcome.next ((State.when_decide inRange).trans (State.gatesMove_idle runs idle))

end Sys2Proof.Machine

/-! Settles O50, what a port's partner and its module ask for, and the I2C transfers (chapter 14). -/

namespace Sys2Proof.Machine

variable {s : State} {m : Master} {r : RegRow} {v w : Word} {p b n : Nat} {bytes : List Octet}

/-! ### Pause frames -/

/-- Counting a frame of a port leaves what it has resolved to obey (R315). -/
theorem State.countPort_pauseRx (wf : s.regsWf = true) (p k n : Nat) :
    (s.countPort p k n).on (PRT_STATUS_PAUSE_RX p) = s.on (PRT_STATUS_PAUSE_RX p) := by
  have counts : WritesOnly [PRT_CNT_LO p k, PRT_CNT_HI p k] s (s.countPort p k n) :=
    ((WritesOnly.refl s).wr (by simp) _).wr (by simp) _
  exact counts.on wf (by simp [PRT_STATUS_PAUSE_RX, PRT_STATUS, PRT_CNT_LO, PRT_CNT_HI]; omega)

theorem State.pauseHear_down (down : s.portUp p = false) : s.pauseHear p bytes = s := by
  unfold State.pauseHear
  simp only [down, Bool.not_false, true_or, if_true]

theorem State.pauseHear_disregards (wf : s.regsWf = true) (up : s.portUp p = true) (control : (headerOf bytes).etype = 0x8808)
    (pause : numAt bytes (headerOf bytes).off 2 = 1) (off : s.on (PRT_STATUS_PAUSE_RX p) = false) :
    s.pauseHear p bytes = (s.countPort p 7 1).slotCheck p := by
  unfold State.pauseHear
  simp [up, control, pause, State.countPort_pauseRx wf, off]

theorem State.pauseHear_obeys (wf : s.regsWf = true) (up : s.portUp p = true) (control : (headerOf bytes).etype = 0x8808)
    (pause : numAt bytes (headerOf bytes).off 2 = 1) (obeys : s.on (PRT_STATUS_PAUSE_RX p) = true) :
    s.pauseHear p bytes = ((s.countPort p 7 1).each (List.range 8) fun c t =>
      t.holdClass p c (numAt bytes ((headerOf bytes).off + 2) 2)).slotCheck p := by
  unfold State.pauseHear
  simp [up, control, pause, State.countPort_pauseRx wf, obeys]

/-! ### Verification -/

theorem State.verifyTick_down (answered : Bool) (down : s.portUp p = false) : s.verifyTick p answered = s := by
  unfold State.verifyTick
  simp only [down, Bool.not_false, true_or, if_true]

theorem State.verifyTick_answered (up : s.portUp p = true) (sent : s.get (PRT_STATUS_VERIFY p) = 2) :
    s.verifyTick p true = (s.set (PRT_STATUS_VERIFY p) 3).set (PRT_STATUS_PREEMPT_ACTIVE p) 1 := by
  unfold State.verifyTick
  simp [up, sent]

theorem State.verifyTick_fails (up : s.portUp p = true) (sent : s.get (PRT_STATUS_VERIFY p) = 2) (thrice : 3 ≤ (s.port p).verifySent) :
    s.verifyTick p false = (s.set (PRT_STATUS_VERIFY p) 4).raise (PRT_EVT_VERIFY_FAIL p) := by
  unfold State.verifyTick
  simp [up, sent, Nat.not_lt.mpr thrice]

theorem State.verifyTick_sends (answered : Bool) (up : s.portUp p = true) (begins : s.get (PRT_STATUS_VERIFY p) = 1)
    (few : (s.port p).verifySent < 3) (opened : s.macOpen p = true) :
    s.verifyTick p answered = ((s.setPort p { s.port p with verifySent := (s.port p).verifySent + 1 }).set (PRT_STATUS_VERIFY p) 2).emit
      .mpacket p [(s.port p).verifySent] (s.macOf p) := by
  unfold State.verifyTick
  have stays (x : PortSt) : (s.setPort p x).macOpen p = true := opened
  simp only [up, begins, few, stays]
  rfl

/-! ### Transfers of the I2C masters -/

/-- A start on a free bus stores the word, and asks for a transfer of the length it gives (R323). -/
theorem State.i2cXferWrite_empty (start : v.getLsbD 31 = true) (idle : s.on (PRT_I2C_STATUS_BUSY b) = false)
    (taken : writeFields r.fields (s.rd (PRT_I2C_XFER b)) (v &&& 0x7FFFFFFF#32) = (w, false))
    (empty : (s.wr (PRT_I2C_XFER b) w).get (PRT_I2C_XFER_LEN b) = 0) :
    s.i2cXferWrite m b v r = ((s.wr (PRT_I2C_XFER b) w).set (PRT_I2C_STATUS_BYTES b) 0).set (PRT_I2C_STATUS_DONE b) 1 := by
  unfold State.i2cXferWrite
  simp only [start, idle, State.plainWrite_ok taken, empty]
  rfl

theorem State.i2cXferWrite_asks (start : v.getLsbD 31 = true) (idle : s.on (PRT_I2C_STATUS_BUSY b) = false)
    (taken : writeFields r.fields (s.rd (PRT_I2C_XFER b)) (v &&& 0x7FFFFFFF#32) = (w, false))
    (some_ : (s.wr (PRT_I2C_XFER b) w).get (PRT_I2C_XFER_LEN b) ≠ 0) (direct : (s.wr (PRT_I2C_XFER b) w).on (PRT_I2C_ROUTE_MUX_EN b) = false)
    (bare : (s.wr (PRT_I2C_XFER b) w).on (PRT_I2C_XFER_NO_PTR b) = true) :
    s.i2cXferWrite m b v r = (s.wr (PRT_I2C_XFER b) w).i2cWant b
      { who := .host, mux := none, write := (s.wr (PRT_I2C_XFER b) w).on (PRT_I2C_XFER_DIR b)
        addr := (s.wr (PRT_I2C_XFER b) w).get (PRT_I2C_XFER_ADDR b), pointer := none
        len := (s.wr (PRT_I2C_XFER b) w).get (PRT_I2C_XFER_LEN b) } := by
  unfold State.i2cXferWrite
  simp only [start, idle, State.plainWrite_ok taken, some_, direct, bare]
  rfl

theorem State.pollDue_off (off : s.get (PRT_MOD_POLL_PERIOD p) = 0) : s.pollDue p = s := by
  unfold State.pollDue
  simp only [off, true_or, if_true]

theorem State.pollDue_idle (period : s.get (PRT_MOD_POLL_PERIOD p) ≠ 0) (awake : s.asleep = false)
    (b : Nat) (master : s.get (PRT_MOD_ROUTE_MASTER p) = b) (free : (s.bus b).now = none) (none_ : (s.bus b).polls = []) :
    s.pollDue p = (s.setBus b { s.bus b with polls := [p] }).i2cNextJob b := by
  unfold State.pollDue State.i2cOn
  simp [period, awake, master, free, none_]

/-- Settles O50: the partner's pause frames and answers, the I2C transfers and the module polls (R317, R318, R323 to R325). -/
theorem portTrafficComplete : Obligations.PortTrafficComplete := by
  unfold Obligations.PortTrafficComplete
  refine ⟨?pauseOff, ?pauseOn, ?pauseDown, ?answered, ?verifySent, ?verifyFails, ?verifyDown, ?transferEmpty, ?transfer, ?poll, ?pollOff⟩
  case pauseOff =>
    intro s p bytes inRange up control pause wf off
    exact congrArg Host.Outcome.next ((State.when_decide inRange).trans (State.pauseHear_disregards wf up control pause off))
  case pauseOn =>
    intro s p bytes inRange up control pause wf on
    exact congrArg Host.Outcome.next ((State.when_decide inRange).trans (State.pauseHear_obeys wf up control pause on))
  case pauseDown =>
    intro s p bytes down
    exact congrArg Host.Outcome.next (State.when_same (State.pauseHear_down down))
  case answered =>
    intro s p inRange up sent
    exact congrArg Host.Outcome.next ((State.when_decide inRange).trans (State.verifyTick_answered up sent))
  case verifySent =>
    intro s p answered inRange up begins few _ opened
    exact congrArg Host.Outcome.next ((State.when_decide inRange).trans (State.verifyTick_sends answered up begins few opened))
  case verifyFails =>
    intro s p inRange up sent thrice
    exact congrArg Host.Outcome.next ((State.when_decide inRange).trans (State.verifyTick_fails up sent thrice))
  case verifyDown =>
    intro s p answered down
    exact congrArg Host.Outcome.next (State.when_same (State.verifyTick_down answered down))
  case transferEmpty =>
    intro s m b v w r inRange at_ start idle _ taken u empty
    refine congrArg Host.Outcome.next ((State.when_access inRange at_).trans ?_)
    exact State.i2cXferWrite_empty (s := s.answer m .ok) start (by rwa [State.answer_on]) (by rwa [State.answer_rd]) empty
  case transfer =>
    intro s m b v w r inRange at_ start idle _ taken u some_ direct bare
    refine congrArg Host.Outcome.next ((State.when_access inRange at_).trans ?_)
    exact State.i2cXferWrite_asks (s := s.answer m .ok) start (by rwa [State.answer_on]) (by rwa [State.answer_rd]) some_ direct bare
  case poll =>
    intro s p inRange period awake free _ none_
    exact congrArg Host.Outcome.next ((State.when_decide inRange).trans (State.pollDue_idle period awake _ rfl free none_))
  case pollOff =>
    intro s p off
    exact congrArg Host.Outcome.next (State.when_same (State.pollDue_off off))

end Sys2Proof.Machine

/-! Settles O51, the NV store's own commands (chapter 19). An operation of coachman B is what `State.nvOp` makes of it; what ends a
commit or a hot save goes on with an entry that waits for it (`State.powerNv`). -/

namespace Sys2Proof.Machine

variable {s t u x : State} {m : Master} {r : RegRow} {v w : Word} {n : Nat}

/-! ### Operations -/

/-- The state in which an operation runs: the word taken, GO back at 0 (R396). -/
def State.nvTaken (w : Word) (s : State) : State := ((s.answer .coachB .ok).wr NVS_CMD w).set NVS_CMD_GO 0

theorem State.nvTaken_nvs : (s.nvTaken w).nvs = s.nvs := by
  simp only [State.nvTaken, State.set_nvs, State.wr_nvs, State.answer_nvs]

/-- A GO of coachman B that finds the store free runs the operation named (R396). -/
theorem State.nvAccess_go (at_ : s.verdict .coachB NVS_CMD = .row r) (go : fieldOf NVS_CMD_GO v = 1) (free : s.on NVS_CMD_BUSY = false)
    (taken : writeFields r.fields (s.rd NVS_CMD) v = (w, false)) (op : fieldOf NVS_CMD_OP v = n) (inRange : n < 5) :
    s.access .coachB NVS_CMD (State.nvCmdWrite .coachB v) = State.nvReport ((s.nvTaken w).nvOp n (fieldOf NVS_CMD_COMMIT v == 1) []) := by
  rw [State.access_row at_, State.nvCmdWrite_go go (by rwa [State.answer_on]) (by rwa [State.answer_rd]) (by omega), op]
  rfl

/-- A WRITE that asks for no commit, or that is not taken, ends with its own status (R396, R398). -/
theorem State.nvOp_write_ends {c : Bool} {why : List (Nat × Nat)} {st : Nat} (ends : c = false ∨ st ≠ 0)
    (writes : s.nvWrite (s.get NVS_ADDR_ADDR) (s.nvWindow (s.get NVS_LEN_LEN)) = (u, st)) : s.nvOp 1 c why = (u, some st) := by
  have alone : st ≠ 0 ∨ s.get NVS_LEN_LEN = 0 ∨ !c := by
    rcases ends with none_ | refused
    · simp [none_]
    · exact Or.inl refused
  unfold State.nvOp
  simp only [writes, if_pos alone]

/-- A WRITE with its commit ends as the commit does (R396, R400). -/
theorem State.nvOp_write_commits {why : List (Nat × Nat)} (some_ : s.get NVS_LEN_LEN ≠ 0)
    (writes : s.nvWrite (s.get NVS_ADDR_ADDR) (s.nvWindow (s.get NVS_LEN_LEN)) = (u, 0)) (dirty : u.nvs.buffer.isEmpty = false)
    (commits : u.commitStart true why = (x, 0)) : s.nvOp 1 true why = (x, none) := by
  unfold State.nvOp
  simp [writes, some_, dirty, commits]

/-- A DISCARD empties the buffer, and nothing is dirty (R396). -/
theorem State.nvOp_discards {c : Bool} {why : List (Nat × Nat)} (powered : s.on NVS_STATUS_PFW_ACTIVE = false) :
    s.nvOp 3 c why = (State.set { s with nvs := { s.nvs with buffer := [] } } NVS_STATUS_DIRTY 0, some 0) := State.nvOp_discard powered

theorem State.nvCmdWrite_stranger (other : m ≠ .coachB) : s.nvCmdWrite m v r = s.refuseWrite m NVS_CMD := if_pos other

/-! ### Protection -/

theorem State.protectEffect_taken (unlocked : s.on NVS_PROTECT_LOCK = false)
    (taken : writeFields r.fields (s.rd NVS_PROTECT) v = (w, false)) :
    s.protectEffect m v r = (s.wr NVS_PROTECT w).setB FLT_STATUS_NVLOG_OFF ((s.wr NVS_PROTECT w).get NVS_PROTECT_LEVEL == 3) := by
  unfold State.protectEffect
  simp only [unlocked, Bool.false_and, Bool.false_eq_true, if_false, State.plainWrite_ok taken]

theorem State.protectEffect_locked (locked : s.on NVS_PROTECT_LOCK = true) (other : changes s NVS_PROTECT_LEVEL v = true) :
    s.protectEffect m v r = s.refuseWrite m NVS_PROTECT := by
  unfold State.protectEffect
  simp only [locked, other, Bool.and_self, if_true]

/-! ### The ends of commits and of hot saves -/

/-- No entry to a lower state is waiting (R492). -/
theorem State.powerNv_idle (idle : s.pwr.phase = 0) : s.powerNv = s := by
  unfold State.powerNv
  simp [idle]

theorem State.jobEnd_none (none_ : s.nvs.job = none) : s.jobEnd = s := by
  unfold State.jobEnd
  rw [none_]

theorem State.jobEnd_some {j : NvJob} {status : Nat} (runs : s.nvs.job = some j) (ends : s.commitFinish j = (u, status)) :
    s.jobEnd = (j.why.foldl (fun t w => t.tellWaiter status w) u).pfwSave := by
  unfold State.jobEnd
  simp only [runs, ends]

theorem State.saveEnd_none (none_ : s.nvs.save = none) : s.saveEnd = s := by
  unfold State.saveEnd
  rw [none_]

/-- A hot save that no command waits for (R405). -/
theorem State.saveEnd_unasked {cause : Nat} {cmd : Bool} (runs : s.nvs.save = some (cause, cmd)) (unasked : s.hotSaveEnd.fw.passed = none) :
    s.saveEnd = s.hotSaveEnd.pfwSave := by
  unfold State.saveEnd
  simp only [runs, unasked]

/-! ### A power failure -/

theorem State.pfwLine_glitch (short : n < 500) : s.pfwLine n = s := by
  unfold State.pfwLine
  split
  · rfl
  · simp [show ¬ 500 ≤ n by omega, show ¬ 2000 ≤ n by omega]

theorem State.pfwLine_taken (root : s.boot.root = true) (awake : s.asleep = false) (long : 2000 ≤ n)
    (first : s.on NVS_STATUS_PFW_ACTIVE = false) (stays : s.pfwTaken.on PWR_CFG_PFW_LEAN = false) : s.pfwLine n = s.pfwTaken := by
  unfold State.pfwLine
  simp [root, awake, long, show ¬ n < 2000 by omega, first, stays]

/-- Settles O51: what coachman B has the NV store do, its protection, the ends of commits and of hot saves, and a power failure
(R169, R181, R395 to R400, R405 to R409, R412). -/
theorem nvCommandsComplete : Obligations.NvCommandsComplete := by
  unfold Obligations.NvCommandsComplete
  refine ⟨?read, ?write, ?writeCommit, ?commit, ?discard, ?hotSave, ?stranger, ?powerBack, ?protect, ?protectLocked, ?commitDone,
    ?commitNone, ?saveDone, ?saveNone, ?clearDone, ?clearNone, ?calibration, ?calibrationWaits, ?failure, ?glitch⟩
  case read =>
    intro s u v w r bs st at_ go free taken op t reads
    refine congrArg Host.Outcome.next ((State.nvAccess_go at_ go free taken op (by decide)).trans ?_)
    rw [State.nvOp_read (s := s.nvTaken w) reads, State.nvReport_some]
  case write =>
    intro s u v w r st at_ go free taken op ends t writes
    refine congrArg Host.Outcome.next ((State.nvAccess_go at_ go free taken op (by decide)).trans ?_)
    have ends_ : (fieldOf NVS_CMD_COMMIT v == 1) = false ∨ st ≠ 0 := ends.imp_left fun none_ => by rw [none_]; rfl
    rw [State.nvOp_write_ends (s := s.nvTaken w) ends_ writes, State.nvReport_some]
  case writeCommit =>
    intro s u x v w r at_ go free taken op commit t some_ writes dirty commits
    refine congrArg Host.Outcome.next ((State.nvAccess_go at_ go free taken op (by decide)).trans ?_)
    rw [commit]
    rw [show (1 == 1) = true from rfl, State.nvOp_write_commits (s := s.nvTaken w) some_ writes (List.isEmpty_eq_false_iff.2 dirty) commits,
      State.nvReport_none]
  case commit =>
    intro s u v w r at_ go free taken op dirty commits
    refine congrArg Host.Outcome.next ((State.nvAccess_go at_ go free taken op (by decide)).trans ?_)
    have dirty_ : (s.nvTaken w).nvs.buffer.isEmpty = false := by
      rw [State.nvTaken_nvs]
      exact List.isEmpty_eq_false_iff.2 dirty
    rw [State.nvOp_commit (s := s.nvTaken w) dirty_ commits, State.nvReport_none]
  case discard =>
    intro s v w r at_ go free taken op t powered
    refine congrArg Host.Outcome.next ((State.nvAccess_go at_ go free taken op (by decide)).trans ?_)
    rw [State.nvOp_discards (s := s.nvTaken w) powered, State.nvReport_some, State.nvTaken_nvs]
    rfl
  case hotSave =>
    intro s u v w r at_ go free taken op saves
    refine congrArg Host.Outcome.next ((State.nvAccess_go at_ go free taken op (by decide)).trans ?_)
    rw [State.nvOp_hotSave (s := s.nvTaken w) saves, State.nvReport_none]
  case stranger =>
    intro s m v r at_ other
    exact congrArg Host.Outcome.next ((State.access_row at_).trans (State.nvCmdWrite_stranger other))
  case powerBack => exact fun s => rfl
  case protect =>
    intro s m v w r at_ unlocked taken
    refine congrArg Host.Outcome.next ((State.access_row at_).trans ?_)
    exact State.protectEffect_taken (s := s.answer m .ok) (by rwa [State.answer_on]) (by rwa [State.answer_rd])
  case protectLocked =>
    intro s m v r at_ locked other
    refine congrArg Host.Outcome.next ((State.access_row at_).trans ?_)
    exact State.protectEffect_locked (s := s.answer m .ok) (by rwa [State.answer_on]) (by rwa [State.answer_changes])
  case commitDone =>
    intro s u j status runs ends
    exact congrArg (fun t => Host.Outcome.next (State.powerNv t)) (State.jobEnd_some runs ends)
  case commitNone =>
    intro s none_ idle
    exact congrArg Host.Outcome.next ((congrArg State.powerNv (State.jobEnd_none none_)).trans (State.powerNv_idle idle))
  case saveDone =>
    intro s cause cmd runs _ unasked
    exact congrArg (fun t => Host.Outcome.next (State.powerNv t)) (State.saveEnd_unasked runs unasked)
  case saveNone =>
    intro s none_ idle
    exact congrArg Host.Outcome.next ((congrArg State.powerNv (State.saveEnd_none none_)).trans (State.powerNv_idle idle))
  case clearDone => exact fun s waits => congrArg Host.Outcome.next (State.when_pos waits)
  case clearNone => exact fun s none_ => congrArg Host.Outcome.next (State.when_neg none_)
  case calibration => exact fun s none_ => congrArg (fun t => Host.Outcome.next (State.calEffect t)) (State.when_neg none_)
  case calibrationWaits => exact fun s waits => congrArg (fun t => Host.Outcome.next (State.calEffect t)) (State.when_pos waits)
  case failure =>
    intro s width root awake long first stays
    exact congrArg Host.Outcome.next (State.pfwLine_taken root awake long first stays)
  case glitch => exact fun s width short => congrArg Host.Outcome.next (State.pfwLine_glitch short)

end Sys2Proof.Machine

/-! Settles O52, the power ladder, the governor and the token bucket (chapter 24). -/

namespace Sys2Proof.Machine

variable {s t u : State} {m : Master} {r : RegRow} {v w : Word} {n c : Nat} {p : PowerState}

/-! ### Requests -/

theorem State.powerAsk_refused {mask cause : Nat} (code : s.powerRefusal p mask ≠ 0) :
    s.powerAsk p mask cause = (s.set PWR_STATUS_REFUSE (s.powerRefusal p mask)).set PWR_EVT_REFUSED 1 := if_pos code

theorem State.powerAsk_enters {mask cause : Nat} (free : s.powerRefusal p mask = 0) (lower : p ≠ .run) :
    s.powerAsk p mask cause = s.powerEnter p mask := by
  unfold State.powerAsk
  simp only [free, ne_eq, not_true_eq_false, if_false, lower]

/-- The state of a request for RUN: what holds the device low is taken back (R502). -/
def State.unheld (s : State) : State := { s with pwr := { s.pwr with lowHold := false } }

theorem State.unheld_eq {x : PwrSt} (same : s.pwr = x) : s.unheld = { s with pwr := { x with lowHold := false } } := by
  rw [State.unheld, same]

/-- A request for RUN at TRIP takes the step the temperature gives first (R497). -/
theorem State.powerAsk_exits {mask cause : Nat} (free : s.powerRefusal p mask = 0) (run : p = .run) :
    s.powerAsk p mask cause = (s.unheld.when (s.get PWR_STATUS_STEP == 3) fun t => t.govStep t.tempStep).powerExit cause := by
  unfold State.powerAsk
  simp only [free, ne_eq, not_true_eq_false, if_false, if_pos run]
  rfl

/-- The state in which a request is tested: the word taken, GO back at 0 (R490). -/
def State.requestTaken (m : Master) (w : Word) (s : State) : State := ((s.answer m .ok).wr PWR_REQ w).set PWR_REQ_GO 0

theorem State.requestTaken_pwr : (s.requestTaken m w).pwr = s.pwr := by
  simp only [State.requestTaken, State.set_pwr, State.wr_pwr, State.answer_pwr]

/-- A request that finds no transition in progress, or the one TRIP began in this cycle, is tested (R490, R502). -/
theorem exec_powerRequest_asks (at_ : s.verdict m PWR_REQ = .row r) (go : fieldOf PWR_REQ_GO v = 1)
    (free : s.pwr.target = none ∨ s.pwr.trip = some s.cyc) (taken : writeFields r.fields (s.rd PWR_REQ) v = (w, false)) :
    exec (.powerRequest m v) s = .next ((s.requestTaken m w).powerAsk (powerOf ((s.requestTaken m w).get PWR_REQ_TARGET))
      ((s.requestTaken m w).get PWR_REQ_WAKE) 5) := by
  have open_ : (s.pwr.target.isSome && s.pwr.trip != some s.cyc) = false := by
    rcases free with none_ | trip
    · simp [none_]
    · simp [trip]
  refine congrArg Host.Outcome.next ((State.access_row at_).trans ?_)
  unfold State.pwrReqWrite
  have taken_ : writeFields r.fields ((s.answer m .ok).rd PWR_REQ) v = (w, false) := taken
  simp only [go, Nat.one_ne_zero, if_false, State.answer_pwr, State.answer_cyc, open_, Bool.false_eq_true, State.plainWrite_ok taken_]
  rfl

theorem State.pwrReqWrite_busy (go : fieldOf PWR_REQ_GO v = 1) (busy : s.pwr.target ≠ none) (other : s.pwr.trip ≠ some s.cyc) :
    s.pwrReqWrite m v r = s.refuseWrite m PWR_REQ := by
  have some_ : s.pwr.target.isSome = true := Option.isSome_iff_ne_none.2 busy
  unfold State.pwrReqWrite
  simp [go, some_, other]

/-! ### Entries -/

theorem State.entryDone_none (none_ : s.pwr.target = none) : s.entryDone = s := by
  unfold State.entryDone
  simp [none_]

theorem State.entryDone_gates (target : s.pwr.target = some .lean ∨ s.pwr.target = some .keep)
    (none_ : s.gatesSettle.pwr.heldWake = none) :
    s.entryDone = State.setTarget none { s.gatesSettle with pwr := { s.gatesSettle.pwr with phase := 0 } } := by
  have unheld : (State.setTarget none { s.gatesSettle with pwr := { s.gatesSettle.pwr with phase := 0 } }).pwr.heldWake = none := by
    unfold State.setTarget State.setB
    rw [State.set_pwr]
    exact none_
  unfold State.entryDone
  rcases target with lean | keep
  · simp only [lean, Option.isNone_some, Bool.false_eq_true, false_or, Option.some.injEq, reduceCtorEq, if_false, unheld]
  · simp only [keep, Option.isNone_some, Bool.false_eq_true, false_or, Option.some.injEq, reduceCtorEq, if_false, unheld]

/-! ### Wakes -/

theorem State.wakePin_long (long : 2000 ≤ n) : s.wakePin n = s.wake 1 := by
  unfold State.wakePin
  simp [long, show ¬ n < 2000 by omega]

theorem State.wakePin_glitch (short : n < 500) : s.wakePin n = s := by
  unfold State.wakePin
  simp [show ¬ 500 ≤ n by omega, show ¬ 2000 ≤ n by omega]

/-- A source that is not armed wakes nothing (R493). -/
theorem State.wake_unarmed (settled : s.pwr.target = none) (off : s.armed s.pwr.state n = false) : s.wake n = s := by
  unfold State.wake
  simp only [settled, off, State.when_false]

theorem State.wakeNow_deep (deep : s.pwr.state = .vigil ∨ s.pwr.state = .dormant) : s.wakeNow n = s.powerExit n := by
  unfold State.wakeNow
  rcases deep with vigil | dormant
  · rw [vigil]
  · rw [dormant]

/-- An armed source ends VIGIL or DORMANT (R493). -/
theorem State.wake_exits (settled : s.pwr.target = none) (deep : s.pwr.state = .vigil ∨ s.pwr.state = .dormant)
    (armed : s.armed s.pwr.state n = true) : s.wake n = s.powerExit n := by
  unfold State.wake
  simp only [settled, armed, State.when_true, State.wakeNow_deep deep]

/-- A second wake source in an entry leaves the one held (R494). -/
theorem State.wake_held (lower : p ≠ .run) (enters : s.pwr.target = some p) (armed : s.armed p n = true) (held : s.pwr.heldWake = some c) :
    s.wake n = { s with pwr := { s.pwr with heldWake := some c } } := by
  unfold State.wake
  cases p
  case run => exact absurd rfl lower
  all_goals simp only [enters, armed, if_true, held, Option.orElse_some]

/-- The state of a loss in VIGIL: the event, and the loss the exit will find (R76). -/
def State.lossTaken (f : FieldRef) (k : Nat) (s : State) : State := { s.set f 1 with pwr := { s.pwr with xoWake := k } }

theorem State.lossTaken_wakes (f : FieldRef) (k : Nat) (settled : s.pwr.target = none) (vigil : s.pwr.state = .vigil) :
    (s.lossTaken f k).wake 4 = (s.lossTaken f k).powerExit 4 :=
  State.wake_exits settled (Or.inl vigil) (by
    have same : (s.lossTaken f k).pwr.state = .vigil := vigil
    rw [same]; rfl)

theorem State.vigilLoss_taken (frequency : Bool) (vigil : s.pwr.state = .vigil) (first : s.pwr.xoWake = 0) :
    s.vigilLoss frequency = (s.lossTaken (if frequency then CGU_XO_EVT_LOSS_FREQ else CGU_XO_EVT_LOSS_ACT)
      (if frequency then 2 else 1)).wake 4 := by
  unfold State.vigilLoss
  simp only [vigil, first, ne_eq, not_true_eq_false, or_self, if_false]
  rfl

theorem State.vigilLoss_other (frequency : Bool) (other : s.pwr.state ≠ .vigil) : s.vigilLoss frequency = s := if_pos (Or.inl other)

/-! ### Exits -/

theorem State.exitDone_none (none_ : s.pwr.target = none) : s.exitDone = s := by
  unfold State.exitDone
  simp [none_]

theorem State.exitDone_dormant (exits : s.pwr.target = some .run) (dormant : s.pwr.state = .dormant) : s.exitDone = s.internalReset 4 := by
  unfold State.exitDone
  simp only [exits, dormant, ne_eq, not_true_eq_false, if_false, if_true]

theorem State.exitDone_shallow (exits : s.pwr.target = some .run) (shallow : s.pwr.state = .lean ∨ s.pwr.state = .keep)
    (free : (((s.rise .run).showPower.setTarget none).set PWR_EVT_WAKE 1).pwr.lowHold = false) :
    s.exitDone = ((s.rise .run).showPower.setTarget none).set PWR_EVT_WAKE 1 := by
  have notDormant : s.pwr.state ≠ .dormant := by rcases shallow with h | h <;> simp [h]
  have notVigil : s.pwr.state ≠ .vigil := by rcases shallow with h | h <;> simp [h]
  unfold State.exitDone State.raise
  simp only [exits, ne_eq, not_true_eq_false, if_false, notDormant, notVigil, free, Bool.false_eq_true]

/-! ### The governor -/

theorem State.governor_asleep (asleep : s.asleep = true) : s.governor = s := if_pos (Or.inr asleep)

theorem State.governor_cool (root : s.boot.root = true) (awake : s.asleep = false) (cool : s.getI FLT_TEMP_TJ < 105 * 256)
    (step : s.get PWR_STATUS_STEP = 0) :
    s.governor = { s with pwr := { s.pwr with
      upRun := [0, 0, 0], downRun := [s.pwr.downRun.getD 0 0 + 1, s.pwr.downRun.getD 1 0 + 1] } } := by
  have up : ([108, 115, 120].map fun (k : Int) => decide (k * 256 ≤ s.getI FLT_TEMP_TJ)) = [false, false, false] := by simp; omega
  have low : ([105, 112].map fun (k : Int) => decide (s.getI FLT_TEMP_TJ < k * 256)) = [true, true] := by simp; omega
  unfold State.governor
  simp only [up, low]
  simp [root, awake, step, List.range_succ]

theorem State.governor_trips (root : s.boot.root = true) (awake : s.asleep = false) (hot : 120 * 256 ≤ s.getI FLT_TEMP_TJ)
    (second : s.pwr.upRun.getD 2 0 = 1) (step : s.get PWR_STATUS_STEP < 3) :
    s.governor = State.govStep 3 { s with pwr := { s.pwr with
      upRun := [s.pwr.upRun.getD 0 0 + 1, s.pwr.upRun.getD 1 0 + 1, 2], downRun := [0, 0] } } := by
  have up : ([108, 115, 120].map fun (k : Int) => decide (k * 256 ≤ s.getI FLT_TEMP_TJ)) = [true, true, true] := by simp; omega
  have low : ([105, 112].map fun (k : Int) => decide (s.getI FLT_TEMP_TJ < k * 256)) = [false, false] := by simp; omega
  rw [List.getD_eq_getElem?_getD] at second
  unfold State.governor
  simp only [up, low]
  simp [root, awake, step, List.range_succ, second]

theorem State.shedTick_back (awake : s.asleep = false) (step : s.get PWR_STATUS_STEP < 2) :
    s.shedTick = State.govGates { s with pwr := { s.pwr with shed := s.pwr.shed.tail } } := by
  unfold State.shedTick
  simp only [awake, Bool.false_eq_true, if_false, step, if_true]
  rfl

theorem State.shedTick_hot (awake : s.asleep = false) (step : 2 ≤ s.get PWR_STATUS_STEP) :
    s.shedTick = s.when (decide (115 * 256 ≤ s.getI FLT_TEMP_TJ)) State.shedNext := by
  unfold State.shedTick
  simp only [awake, Bool.false_eq_true, if_false, Nat.not_lt.mpr step]

/-- Settles O52: the power ladder's requests, entries, wakes and exits (R76, R490 to R494); the governor's readings and shedding,
and the token bucket (R495 to R497, R500). -/
theorem powerCommandsComplete : Obligations.PowerCommandsComplete := by
  unfold Obligations.PowerCommandsComplete
  refine ⟨?asks, ?busy, ?entry, ?entryNone, ?wakeN, ?glitch, ?timer, ?spi, ?running, ?held, ?loss, ?lossOther, ?exit, ?dormant,
    ?exitNone, ?cool, ?trips, ?governorAsleep, ?shedBack, ?shedNext, ?shedCool, ?token, ?tokensFull, fun s => rfl⟩
  case asks =>
    intro s m v w r at_ go free taken u p mask x
    have asks := exec_powerRequest_asks at_ go free taken
    have held : u.unheld = x := State.unheld_eq State.requestTaken_pwr
    refine ⟨fun none_ lower => ?enters, fun none_ run step => ?exits, fun none_ run step => ?trip, fun code => ?refused⟩
    case enters => exact asks.trans (congrArg Host.Outcome.next (State.powerAsk_enters none_ lower))
    case exits =>
      refine asks.trans (congrArg Host.Outcome.next ((State.powerAsk_exits none_ run).trans ?_))
      rw [State.when_neg (beq_eq_false_iff_ne.2 step), held]
    case trip =>
      refine asks.trans (congrArg Host.Outcome.next ((State.powerAsk_exits none_ run).trans ?_))
      rw [State.when_pos (beq_iff_eq.2 step), held]
    case refused => exact asks.trans (congrArg Host.Outcome.next (State.powerAsk_refused code))
  case busy =>
    intro s m v r at_ go busy other
    exact congrArg Host.Outcome.next ((State.access_row at_).trans (State.pwrReqWrite_busy go busy other))
  case entry => exact fun s target none_ => congrArg Host.Outcome.next (State.entryDone_gates target none_)
  case entryNone => exact fun s none_ => congrArg Host.Outcome.next (State.entryDone_none none_)
  case wakeN => exact fun s width long => congrArg Host.Outcome.next (State.wakePin_long long)
  case glitch => exact fun s width short => congrArg Host.Outcome.next (State.wakePin_glitch short)
  case timer =>
    intro s settled vigil armed
    refine congrArg Host.Outcome.next (State.wake_exits settled (Or.inl vigil) ?_)
    simp [State.armed, vigil, armed]
  case spi =>
    intro s settled deep armed
    refine congrArg Host.Outcome.next (State.wake_exits settled deep ?_)
    simp [State.armed, deep, armed]
  case running =>
    intro s settled run
    constructor
    · exact congrArg Host.Outcome.next (State.wake_unarmed settled (by simp [State.armed, run]))
    · exact congrArg Host.Outcome.next (State.wake_unarmed settled (by simp [State.armed, run]))
  case held =>
    intro s c p lower enters armed held
    exact congrArg Host.Outcome.next ((State.wakePin_long (by decide)).trans (State.wake_held lower enters armed held))
  case loss =>
    intro s settled vigil first
    constructor
    · exact congrArg Host.Outcome.next ((State.vigilLoss_taken true vigil first).trans (State.lossTaken_wakes _ _ settled vigil))
    · exact congrArg Host.Outcome.next ((State.vigilLoss_taken false vigil first).trans (State.lossTaken_wakes _ _ settled vigil))
  case lossOther => exact fun s frequency other => congrArg Host.Outcome.next (State.vigilLoss_other frequency other)
  case exit =>
    intro s exits shallow u free
    exact congrArg Host.Outcome.next (State.exitDone_shallow exits shallow free)
  case dormant => exact fun s exits dormant => congrArg Host.Outcome.next (State.exitDone_dormant exits dormant)
  case exitNone => exact fun s none_ => congrArg Host.Outcome.next (State.exitDone_none none_)
  case cool => exact fun s root awake cool step => congrArg Host.Outcome.next (State.governor_cool root awake cool step)
  case trips =>
    exact fun s root awake hot second _ step => congrArg Host.Outcome.next (State.governor_trips root awake hot second step)
  case governorAsleep => exact fun s asleep => congrArg Host.Outcome.next (State.governor_asleep asleep)
  case shedBack => exact fun s awake step => congrArg Host.Outcome.next (State.shedTick_back awake step)
  case shedNext =>
    exact fun s awake step hot => congrArg Host.Outcome.next ((State.shedTick_hot awake step).trans (State.when_decide hot))
  case shedCool =>
    intro s awake step cool
    exact congrArg Host.Outcome.next ((State.shedTick_hot awake step).trans (State.when_neg (decide_eq_false (Int.not_le.mpr cool))))
  case token =>
    intro s on few
    exact congrArg Host.Outcome.next (State.when_pos (by simp [on, few]))
  case tokensFull =>
    intro s full
    exact congrArg Host.Outcome.next (State.when_neg (by simp [Nat.not_lt.mpr full]))

end Sys2Proof.Machine

/-! Settles O53, the mailboxes' registers, and the loss and return of a core (chapter 20, R461, R483). -/

namespace Sys2Proof.Machine

variable {s : State} {m : Master} {r : RegRow} {v : Word} {n e core : Nat}

/-! ### Registers of an end -/

theorem State.mbxSend_posts (within : v.toNat % 256 ≤ 15) :
    s.mbxSend m n e v = s.mbxPost n e (v.toNat / 65536) (v.toNat / 256 % 256)
      ((List.range (v.toNat % 256)).map fun k => s.rd (MBX_SEND_W n e k)) := if_neg (Nat.not_lt.mpr within)

theorem exec_sendW0Write_access (hn : n < 8) (he : e < 2) (met : s.verdict m (MBX_SEND_W0 n e) = .row r) :
    exec (.sendW0Write m n e v) s = .next ((s.answer m .ok).mbxWrite m (MBX_SEND_W0 n e) v r) :=
  congrArg Host.Outcome.next (State.when_access ⟨hn, he⟩ met)

theorem State.mbxCtrl_endReset (reset : v.getLsbD 1 = true) : s.mbxCtrl n e v = s.mbxEndReset n e := if_pos reset

/-! ### Cores -/

/-- The state of a core's restart: the restart counts from this cycle (R483). -/
def State.restartCounted (core : Nat) (s : State) : State :=
  { s with fw := { s.fw with restarts := smPut s.fw.restarts core (s.cyc :: s.recentRestarts core) } }

theorem State.coreRestart_coachA (root : s.boot.root = true) (awake : s.asleep = false) :
    s.coreRestart 0 false = ((s.restartCounted 0).coreDown 0).logFault (if 2 ≤ (s.recentRestarts 0).length then 0x17 else 0x16) 0 none := by
  unfold State.coreRestart
  simp only [root, awake, Bool.not_true, Bool.false_eq_true, or_self, if_false, Nat.zero_ne_one]
  rfl

/-- With nothing being programmed a restart of coachman B abandons nothing, and no command waits for it (R483). -/
theorem State.coreRestart_coachB (root : s.boot.root = true) (awake : s.asleep = false) (noJob : s.nvs.job = none)
    (noSave : s.nvs.save = none) (unasked : s.fw.passed = none) :
    s.coreRestart 1 false = (State.coreDown 1 { s.restartCounted 1 with fw := { (s.restartCounted 1).fw with passed := none } }).logFault
      (if 2 ≤ (s.recentRestarts 1).length then 0x17 else 0x16) 1 none := by
  have abandons : (s.restartCounted 1).nvAbandon = s.restartCounted 1 := if_pos ⟨by simp [State.restartCounted, noJob], by
    simp [State.restartCounted, noSave]⟩
  have none_ : (s.restartCounted 1).passedMailboxes = [] := by
    unfold State.passedMailboxes State.restartCounted
    simp [noJob, unasked]
  unfold State.coreRestart
  simp only [root, awake, Bool.not_true, Bool.false_eq_true, or_self, if_false, if_true]
  rw [← State.restartCounted, abandons, none_]
  rfl

/-- Settles O53: the mailboxes' registers, and the loss and return of a core (R417, R420, R424, R425, R427, R461, R483). -/
theorem mailboxCommandsComplete : Obligations.MailboxCommandsComplete := by
  unfold Obligations.MailboxCommandsComplete
  refine ⟨?post, ?overlong, ?stranger, ?down, ?release, ?endReset, ?functionReset, ?coachA, ?coachB, ?ready, ?readyAsleep⟩
  case post =>
    intro s m n e v r hn he met up owner within
    exact (exec_sendW0Write_row hn he met up owner).trans (congrArg Host.Outcome.next (State.mbxSend_posts within))
  case overlong =>
    intro s m n e v r hn he met up owner long
    exact (exec_sendW0Write_row hn he met up owner).trans (congrArg Host.Outcome.next (State.mbxSend_overlong long))
  case stranger =>
    intro s m n e v r hn he met up stranger
    exact (exec_sendW0Write_access hn he met).trans
      (congrArg Host.Outcome.next (State.mbxWrite_stranger hn he ((s.answer_mbxDown ..).trans up) stranger))
  case down =>
    intro s m n e v r hn he met down
    exact (exec_sendW0Write_access hn he met).trans
      (congrArg Host.Outcome.next (State.mbxWrite_down hn he ((s.answer_mbxDown ..).trans down)))
  case release =>
    intro s m n e v r hn he met up owner release stay
    exact exec_release_row hn he met up owner release stay
  case endReset =>
    intro s m n e v r hn he met up owner reset
    refine congrArg Host.Outcome.next ((State.when_access ⟨hn, he⟩ met).trans ?_)
    exact (State.mbxWrite_ctrl hn he ((s.answer_mbxDown ..).trans up) owner).trans (State.mbxCtrl_endReset reset)
  case functionReset =>
    intro s root awake
    exact congrArg Host.Outcome.next (State.when_pos (by simp [root, awake]))
  case coachA =>
    intro s root awake u
    exact congrArg Host.Outcome.next ((State.when_decide (by decide)).trans (State.coreRestart_coachA root awake))
  case coachB =>
    intro s root awake noJob noSave unasked u
    exact congrArg Host.Outcome.next
      ((State.when_decide (by decide)).trans (State.coreRestart_coachB root awake noJob noSave unasked))
  case ready =>
    intro s core inRange root awake
    exact congrArg Host.Outcome.next (State.when_pos (by simp [inRange, root, awake]))
  case readyAsleep =>
    intro s core asleep
    exact congrArg Host.Outcome.next (State.when_neg (by simp [asleep]))

end Sys2Proof.Machine

/-! Settles O54, the interpreter of coachman A and the system commands (chapter 21). A message is taken and checked, a response posted
where there is room, and each command is what its function makes of the request held (`State.command_request`). -/

namespace Sys2Proof.Machine

variable {s : State} {mb opcode len : Nat} {x : Msg} {xs : List Msg} {t : Taken} {ts : List Taken} {ws ret : List Word} {w : Word}
  {l : Livery} {f : List Word → State → State}

/-! ### Taking, checking and posting -/

/-- The state in which a message has been taken from a mailbox: released, next in rotation, and held as a request (R433). -/
def State.taken (mb : Nat) (x : Msg) (s : State) : State :=
  { s.mbxRelease mb 1 with fw := { (s.mbxRelease mb 1).fw with
      turn := (mb + 1) % 4
      taken := smPut (s.mbxRelease mb 1).fw.taken mb (some ⟨x.opcode, x.tag, x.data, false⟩) } }

theorem State.commandTake_some (runs : s.fwRuns = true)
    (next : ([0, 1, 2, 3].map fun k => (s.fw.turn + k) % 4).find? s.takable = some mb) (queue : (s.mb mb).inbound = x :: xs) :
    s.commandTake = (s.taken mb x).fwCheck mb x.opcode x.data.length := by
  unfold State.commandTake
  simp only [runs, Bool.not_true, Bool.false_eq_true, if_false, next, queue]
  rfl

theorem State.commandTake_none (none_ : ([0, 1, 2, 3].map fun k => (s.fw.turn + k) % 4).find? s.takable = none) : s.commandTake = s := by
  unfold State.commandTake
  rw [none_]
  exact ite_self s

theorem State.fwCheck_unknown (unknown : cmdRows.find? (fun c => c.opcode == opcode) = none) :
    s.fwCheck mb opcode len = s.fwAnswer mb 1 0 [] := by
  unfold State.fwCheck
  rw [unknown]

theorem State.fwCheck_passes {r : CmdRow} (known : cmdRows.find? (fun c => c.opcode == opcode) = some r)
    (allowed : r.priv = true → s.mbxPrivileged mb = true) (atLeast : r.lo ≤ len) (atMost : len ≤ r.hi) :
    s.fwCheck mb opcode len = s := by
  have may : (r.priv && !s.mbxPrivileged mb) = false := by
    cases priv : r.priv
    · rfl
    · rw [allowed priv]; rfl
  unfold State.fwCheck
  rw [known]
  simp only [may, Bool.false_eq_true, if_false, Nat.not_lt.mpr atLeast, Nat.not_lt.mpr atMost, or_self]

theorem State.responsePost_fits (runs : s.fwRuns = true) (oldest : smAt s.fw.replies mb = t :: ts)
    (room : 1 + t.data.length ≤ s.sendFree mb 1) :
    s.responsePost mb = State.mbxPost mb 1 t.opcode t.tag t.data { s with fw := { s.fw with replies := smPut s.fw.replies mb ts } } := by
  unfold State.responsePost
  simp only [runs, Bool.not_true, Bool.false_eq_true, if_false, oldest, Nat.not_lt.mpr room]

theorem State.responsePost_waits (runs : s.fwRuns = true) (oldest : smAt s.fw.replies mb = t :: ts)
    (full : s.sendFree mb 1 < 1 + t.data.length) : s.responsePost mb = s := by
  unfold State.responsePost
  simp only [runs, Bool.not_true, Bool.false_eq_true, if_false, oldest, full, if_true]

theorem State.command_other (held : s.request mb = some t) (other : t.opcode ≠ opcode) : s.command mb opcode f = s := by
  unfold State.command
  split
  · rfl
  · rw [held]
    exact if_neg other

/-! ### System commands -/

theorem State.deferAction_held {what : Nat} (held : s.request mb = some t) :
    s.deferAction mb what = State.fwOk mb [] { s with fw := { s.fw with deferred := s.fw.deferred ++ [(mb, t.tag, what)] } } := by
  unfold State.deferAction
  rw [held]

section
variable {d : Nat × Nat × Nat} {ds : List (Nat × Nat × Nat)}

theorem State.deferredBegin_waits (runs : s.fwRuns = true) (oldest : s.fw.deferred = d :: ds) (waits : s.deferredPosted d = false) :
    s.deferredBegin = s := by
  unfold State.deferredBegin
  simp [runs, oldest, waits]

theorem State.deferredBegin_resets (runs : s.fwRuns = true) (oldest : s.fw.deferred = d :: ds) (posted : s.deferredPosted d = true)
    (reset : d.2.2 = 0) : s.deferredBegin = s.internalReset 1 := by
  unfold State.deferredBegin
  simp [runs, oldest, posted, reset]

theorem State.deferredBegin_powers (runs : s.fwRuns = true) (oldest : s.fw.deferred = d :: ds) (posted : s.deferredPosted d = true)
    (power : d.2.2 ≠ 0) (settled : s.pwr.target = none) :
    s.deferredBegin = State.powerRequest ((d.2.2 - 1) / 16) ((d.2.2 - 1) % 16) { s with fw := { s.fw with deferred := ds } } := by
  unfold State.deferredBegin
  simp [runs, oldest, posted, power, settled]

theorem State.deferredBegin_busy (runs : s.fwRuns = true) (oldest : s.fw.deferred = d :: ds) (posted : s.deferredPosted d = true)
    (power : d.2.2 ≠ 0) (busy : s.pwr.target ≠ none) : s.deferredBegin = { s with fw := { s.fw with deferred := ds } } := by
  unfold State.deferredBegin
  simp [runs, oldest, posted, power, Option.isSome_iff_ne_none.2 busy]

end

theorem State.cmdSetEvents_taken (within : (payload ws 1).toNat < 2 ^ 13) :
    s.cmdSetEvents mb ws = State.fwOk mb [] { s with fw := { s.fw with mask := smPut s.fw.mask mb (payload ws 1).toNat } } :=
  if_neg (Nat.not_le.mpr within)

theorem State.cmdExtension_returns (callable : s.callable (payload ws 1).toNat = true) :
    s.cmdExtension mb (w :: ret) ws =
      (s.emit .call mb (((payload ws 1).toNat : Int) :: (ws.drop 1).map fun (x : Word) => (x.toNat : Int)) []).fwAnswer mb
        (w.toNat / 2 ^ 24) (w.toNat % 2 ^ 24) (ret.take 14) := by
  unfold State.cmdExtension
  simp only [callable, Bool.not_true, Bool.false_eq_true, if_false, List.isEmpty_cons]
  rfl

theorem State.cmdExtension_refused (other : s.callable (payload ws 1).toNat = false) :
    s.cmdExtension mb ret ws = s.fwAnswer mb 8 0 [] := by
  unfold State.cmdExtension
  simp only [other, Bool.not_false, if_true]

/-! ### Fuses -/

/-- A fuse of a set of four, blank or burnt, leaves the others of the set as they are. -/
theorem getLsbD_or_fuse (set : BitVec 4) (b : Nat) {j k : Nat} (bit : b < 2) (other : j ≠ k) :
    (set ||| BitVec.ofNat 4 (b * 2 ^ k)).getLsbD j = set.getLsbD j := by
  have clear : (b * 2 ^ k).testBit j = false := by
    obtain rfl | rfl : b = 0 ∨ b = 1 := by omega
    · simp
    · rw [Nat.one_mul, Nat.testBit_two_pow_of_ne (Ne.symm other)]
  rw [BitVec.getLsbD_or, BitVec.getLsbD_ofNat, clear, Bool.and_false, Bool.or_false]

/-- What the fuses of a key slot hold once programming them failed is open, and all else is as it was (R443). -/
def Livery.torn (l : Livery) (slot x : Nat) : Livery :=
  { l with keySet := l.keySet ||| BitVec.ofNat 4 (x % 2 * 2 ^ slot), keyHash := smPut l.keyHash slot (octetsBE 32 (x / 2 % 2 ^ 256)) }

theorem octetsBE_ne_nil (k n : Nat) : octetsBE (k + 1) n ≠ [] := by simp [octetsBE, octetsLE]

theorem Livery.torn_others (l : Livery) {slot j : Nat} (x : Nat) (other : j ≠ slot) :
    (l.torn slot x).keySet.getLsbD j = l.keySet.getLsbD j ∧ smAt (l.torn slot x).keyHash j = smAt l.keyHash j := by
  constructor
  · exact getLsbD_or_fuse l.keySet (x % 2) (Nat.mod_lt x (by decide)) other
  · have listed : octetsBE 32 (x / 2 % 2 ^ 256) ≠ default := octetsBE_ne_nil 31 _
    simp only [Livery.torn, smPut_listed listed]
    exact smGet_smInsert_ne other ..

/-- A key slot that is blank is programmed in WORKSHOP (R443). -/
theorem State.cmdFuse_key (reads : Bool) (workshop : s.get GLB_STATUS_MODE = 5) (kind : payloadBits ws 1 0 2 = 0)
    (length : ws.length = 10) (blank : s.livery.keySet.getLsbD (payloadBits ws 2 0 2) = false) :
    s.cmdFuse mb reads ws = s.fuseBurn mb reads
      { s.livery with
        keySet := s.livery.keySet ||| BitVec.ofNat 4 (2 ^ payloadBits ws 2 0 2)
        keyHash := smPut s.livery.keyHash (payloadBits ws 2 0 2) ((ws.drop 2).flatMap fun (w : Word) => octetsBE 4 w.toNat) }
      (some (payloadBits ws 2 0 2)) := by
  unfold State.cmdFuse
  simp only [workshop, kind, length, blank, ne_eq, not_true_eq_false, if_false, Bool.false_eq_true]

/-- A key that is set is revoked in WORKSHOP (R443). -/
theorem State.cmdFuse_revoke (reads : Bool) (workshop : s.get GLB_STATUS_MODE = 5) (kind : payloadBits ws 1 0 2 = 1)
    (length : ws.length = 2) (isSet : s.livery.keySet.getLsbD (payloadBits ws 2 0 2) = true) :
    s.cmdFuse mb reads ws = s.fuseBurn mb reads
      { s.livery with keyRevoked := s.livery.keyRevoked ||| BitVec.ofNat 4 (2 ^ payloadBits ws 2 0 2) } none := by
  unfold State.cmdFuse
  simp only [workshop, kind, length, isSet, ne_eq, not_true_eq_false, if_false, Bool.false_eq_true, Bool.not_true]

theorem State.cmdFuse_secure (reads : Bool) (workshop : s.get GLB_STATUS_MODE = 5) (kind : payloadBits ws 1 0 2 = 2)
    (length : ws.length = 1) : s.cmdFuse mb reads ws = s.fuseBurn mb reads { s.livery with secure := true } none := by
  unfold State.cmdFuse
  simp only [workshop, kind, length, ne_eq, not_true_eq_false, if_false]

theorem State.cmdFuse_elsewhere (reads : Bool) (other : s.get GLB_STATUS_MODE ≠ 5) : s.cmdFuse mb reads ws = s.fwInvalid mb 0 :=
  if_pos other

/-- Settles O54: coachman A takes requests, checks them, and posts responses; what it does for the system (R1, R39, R430 to R434,
R438 to R443, R456). -/
theorem interpreterCommandsComplete : Obligations.InterpreterCommandsComplete := by
  unfold Obligations.InterpreterCommandsComplete
  refine ⟨?take, ?takeUnknown, ?takeNone, ?post, ?postFull, ?info, ?infoOther, ?reset, ?resets, ?waits, ?powers, ?powerBusy, ?events,
    ?eventsBeyond, ?workshop, ?workshopIn, ?extension, ?extensionNone, ?timeout, ?key, ?keyTorn, ?revoke, ?secure, ?elsewhere⟩
  case take =>
    intro s mb x xs r runs next queue known allowed atLeast atMost same u
    refine congrArg Host.Outcome.next ((State.commandTake_some runs next queue).trans ?_)
    exact State.fwCheck_passes known (fun priv => same.trans (allowed priv)) atLeast atMost
  case takeUnknown =>
    intro s mb x xs runs next queue unknown u
    exact congrArg Host.Outcome.next ((State.commandTake_some runs next queue).trans (State.fwCheck_unknown unknown))
  case takeNone => exact fun s none_ => congrArg Host.Outcome.next (State.commandTake_none none_)
  case post =>
    intro s mb t ts inRange runs oldest room
    exact congrArg Host.Outcome.next ((State.when_decide inRange).trans (State.responsePost_fits runs oldest room))
  case postFull =>
    intro s mb t ts inRange runs oldest full
    exact congrArg Host.Outcome.next ((State.when_decide inRange).trans (State.responsePost_waits runs oldest full))
  case info => exact fun s mb t runs held op => congrArg Host.Outcome.next (State.command_request runs held op)
  case infoOther => exact fun s mb t runs held other => congrArg Host.Outcome.next (State.command_other held other)
  case reset =>
    intro s mb t runs held op
    exact congrArg Host.Outcome.next ((State.command_request runs held op).trans (State.deferAction_held held))
  case resets =>
    intro s d ds runs oldest posted reset
    exact congrArg Host.Outcome.next (State.deferredBegin_resets runs oldest posted reset)
  case waits => exact fun s d ds runs oldest waits => congrArg Host.Outcome.next (State.deferredBegin_waits runs oldest waits)
  case powers =>
    intro s d ds runs oldest posted power settled
    exact congrArg Host.Outcome.next (State.deferredBegin_powers runs oldest posted power settled)
  case powerBusy =>
    intro s d ds runs oldest posted power busy
    exact congrArg Host.Outcome.next (State.deferredBegin_busy runs oldest posted power busy)
  case events =>
    intro s mb t runs held op within
    exact congrArg Host.Outcome.next ((State.command_request runs held op).trans (State.cmdSetEvents_taken within))
  case eventsBeyond =>
    intro s mb t runs held op beyond
    exact congrArg Host.Outcome.next ((State.command_request runs held op).trans (if_pos beyond))
  case workshop =>
    intro s mb t runs held op runsImage below
    exact congrArg Host.Outcome.next ((State.command_request runs held op).trans (if_pos ⟨runsImage, below⟩))
  case workshopIn =>
    intro s mb t runs held op within
    exact congrArg Host.Outcome.next ((State.command_request runs held op).trans (if_neg fun h => by omega))
  case extension =>
    intro s mb t w ret runs held op callable
    exact congrArg Host.Outcome.next ((State.command_request runs held op).trans (State.cmdExtension_returns callable))
  case extensionNone =>
    intro s mb t ret runs held op other
    exact congrArg Host.Outcome.next ((State.command_request runs held op).trans (State.cmdExtension_refused other))
  case timeout =>
    intro s mb t runs held op callable
    exact congrArg Host.Outcome.next ((State.command_request runs held op).trans (State.when_pos callable))
  case key =>
    intro s mb t runs held op workshop kind length blank
    exact congrArg Host.Outcome.next ((State.command_request runs held op).trans (State.cmdFuse_key true workshop kind length blank))
  case keyTorn =>
    intro s mb t runs held op workshop kind length blank
    refine ⟨s.livery.torn (payloadBits t.data 2 0 2) (Config.unstated s.free), ?_, rfl, fun j other => Livery.torn_others _ _ other⟩
    exact congrArg Host.Outcome.next ((State.command_request runs held op).trans (State.cmdFuse_key false workshop kind length blank))
  case revoke =>
    intro s mb t runs held op workshop kind length isSet
    constructor
    · exact congrArg Host.Outcome.next ((State.command_request runs held op).trans (State.cmdFuse_revoke true workshop kind length isSet))
    · exact congrArg Host.Outcome.next ((State.command_request runs held op).trans (State.cmdFuse_revoke false workshop kind length isSet))
  case secure =>
    intro s mb t runs held op workshop kind length
    constructor
    · exact congrArg Host.Outcome.next ((State.command_request runs held op).trans (State.cmdFuse_secure true workshop kind length))
    · exact congrArg Host.Outcome.next ((State.command_request runs held op).trans (State.cmdFuse_secure false workshop kind length))
  case elsewhere =>
    intro s mb reads t runs held op other
    exact congrArg Host.Outcome.next ((State.command_request runs held op).trans (State.cmdFuse_elsewhere reads other))

end Sys2Proof.Machine

/-! Settles O55, the requests for status and for the setting of loops, selectors, outputs and time (chapter 21). -/

namespace Sys2Proof.Machine

variable {s : State} {mb : Nat} {t : Taken} {ws : List Word}

theorem State.cmdOutStatus_within (within : payloadBits ws 1 0 5 < 24) :
    s.cmdOutStatus mb ws = s.fwStatus mb [OUT_STATUS (payloadBits ws 1 0 5), OUT_EVT (payloadBits ws 1 0 5)] :=
  if_neg (Nat.not_le.mpr within)

theorem State.fwStatus_open {as : List Nat} (opened : as.any s.gatedAt = false) :
    s.fwStatus mb as = (s.fwRead as).1.fwOk mb (s.fwRead as).2 := if_neg (by rw [opened]; exact Bool.false_ne_true)

/-! ### Selectors and loops -/

/-- The word of SEL_MANUAL: the mode and the reference of the request in the selector's register (R432). -/
def State.manualWord (s : State) (ws : List Word) : Word :=
  withField (withField (s.rd (SEL_CTRL (payloadBits ws 1 0 2))) (SEL_CTRL_MODE (payloadBits ws 1 0 2)) (payloadBits ws 1 8 2))
    (SEL_CTRL_MANUAL_REF (payloadBits ws 1 0 2)) (payloadBits ws 1 16 6)

theorem State.cmdSelManual_fits
    (fits : fieldsFit (SEL_CTRL (payloadBits ws 1 0 2)) (s.rd (SEL_CTRL (payloadBits ws 1 0 2))) (s.manualWord ws) = true) :
    s.cmdSelManual mb ws = (s.busWrite .coachA (SEL_CTRL (payloadBits ws 1 0 2)) (s.manualWord ws)).fwOk mb [] := if_pos fits

theorem State.cmdSelManual_beyond
    (beyond : fieldsFit (SEL_CTRL (payloadBits ws 1 0 2)) (s.rd (SEL_CTRL (payloadBits ws 1 0 2))) (s.manualWord ws) = false) :
    s.cmdSelManual mb ws = s.fwInvalid mb 1 := if_neg (by rw [State.manualWord] at beyond; rw [beyond]; exact Bool.false_ne_true)

theorem State.cmdLoopSample_taken (enabled : s.on (DPL_CFG_ENABLE (payloadBits ws 1 0 2)) = true)
    (software : s.loopSrc (payloadBits ws 1 0 2) = 4) :
    s.cmdLoopSample mb ws =
      (s.takeSample (payloadBits ws 1 0 2) ((wideOf (payload ws 2) (payload ws 3) : Rat) / (65536 : Nat))).fwOk mb [] :=
  if_neg (by simp [enabled, software])

theorem State.cmdLoopSample_refused
    (refused : s.on (DPL_CFG_ENABLE (payloadBits ws 1 0 2)) = false ∨ s.loopSrc (payloadBits ws 1 0 2) ≠ 4) :
    s.cmdLoopSample mb ws = s.fwInvalid mb 0 := if_pos (refused.imp_left fun off => by rw [off]; rfl)

/-! ### Calibration and the model -/

/-- A calibration word in range is tested, and written where it is taken (R445). -/
theorem State.cmdSetCal_within {k bits : Nat} (within : (wideOf (payload ws 1) (payload ws 2)).natAbs ≤ calLimit) (free : s.nvFree = true)
    (next : nextRecord calMagic (s.nvOctets 0x18000 256) (s.nvOctets 0x18100 256) = (k, bits)) :
    s.cmdSetCal mb ws = if s.recordStatus [384 + k] (decide (1 ≤ s.get NVS_PROTECT_LEVEL)) ≠ 0
      then (s.testRefused [384 + k]).fwNv mb (s.recordStatus [384 + k] (decide (1 ≤ s.get NVS_PROTECT_LEVEL))) []
      else (s.writeCal (wideOf (payload ws 1) (payload ws 2)) 0 (mb + 1)).1 := by
  unfold State.cmdSetCal
  simp only [Nat.not_lt.mpr within, if_false, free, Bool.not_true, Bool.false_eq_true, next]

theorem State.cmdClearModel_tests (mine : s.clearByHost = false) (free : s.nvFree = true) :
    s.cmdClearModel mb = if s.recordStatus [256, 257] (decide (2 ≤ s.get NVS_PROTECT_LEVEL)) ≠ 0
      then (s.testRefused [256, 257]).fwNv mb (s.recordStatus [256, 257] (decide (2 ≤ s.get NVS_PROTECT_LEVEL))) []
      else s.clearStart (mb + 1) := by
  unfold State.cmdClearModel
  simp only [mine, free, Bool.not_true, Bool.false_eq_true, if_false]

theorem State.cmdClearModel_busy (host : s.clearByHost = true) : s.cmdClearModel mb = s.fwAnswer mb 4 0 [] := if_pos host

/-! ### Outputs -/

/-- The state once coachman A has written ENABLE of each output a request names (R447). -/
def State.outsWritten (ws : List Word) (s : State) : State :=
  s.each (bitsOf (payload ws 1).toNat 24) fun n x => x.busWrite .coachA (OUT_CFG n)
    (withField (x.rd (OUT_CFG n)) (OUT_CFG_ENABLE n) (if (payload ws 2).getLsbD n then 1 else 0))

/-- Where every enable asked for is taken, none is reported lost (R447). -/
theorem State.cmdOutEnable_taken (taken : ∀ n ∈ bitsOf (payload ws 1).toNat 24, (payload ws 2).getLsbD n = true →
    (s.outsWritten ws).on (OUT_CFG_ENABLE n) = true) : s.cmdOutEnable mb ws = (s.outsWritten ws).fwOk mb [0] := by
  have none_ : ((bitsOf (payload ws 1).toNat 24).filter fun n => (payload ws 2).getLsbD n && !(s.outsWritten ws).on (OUT_CFG_ENABLE n))
      = [] := by
    rw [List.filter_eq_nil_iff]
    intro n named
    cases want : (payload ws 2).getLsbD n
    · simp
    · simp [taken n named want]
  unfold State.cmdOutEnable State.fwWrite
  simp only
  rw [← State.outsWritten, none_]
  rfl

/-- Settles O55: the status commands, and the commands that set a loop, a selector, outputs and time (R240, R432, R435, R444 to
R447, R455). -/
theorem timingRequestsComplete : Obligations.TimingRequestsComplete := by
  unfold Obligations.TimingRequestsComplete
  refine ⟨?status, ?opened, ?gated, ?manual, ?sample, ?calibrate, ?calibrateBeyond, ?clear, ?clearBusy, ?enable, ?read, ?setSec⟩
  case status =>
    intro s mb t runs held n l k
    refine ⟨fun op => ?_, fun op => ?_, fun op => ?_, fun op => ?_, fun op within => ?_, fun op beyond => ?_⟩
    · exact congrArg Host.Outcome.next (State.command_request runs held op)
    · exact congrArg Host.Outcome.next (State.command_request runs held op)
    · exact congrArg Host.Outcome.next (State.command_request runs held op)
    · exact congrArg Host.Outcome.next (State.command_request runs held op)
    · exact congrArg Host.Outcome.next ((State.command_request runs held op).trans (State.cmdOutStatus_within within))
    · exact congrArg Host.Outcome.next ((State.command_request runs held op).trans (if_pos beyond))
  case opened => exact fun s mb as opened => State.fwStatus_open opened
  case gated => exact fun s mb as gated => if_pos gated
  case manual =>
    intro s mb t runs held op a v
    constructor
    · exact fun fits => congrArg Host.Outcome.next ((State.command_request runs held op).trans (State.cmdSelManual_fits fits))
    · exact fun beyond => congrArg Host.Outcome.next ((State.command_request runs held op).trans (State.cmdSelManual_beyond beyond))
  case sample =>
    intro s mb t runs held op l
    refine ⟨fun enabled software => ?_, fun off => ?_, fun other => ?_⟩
    · exact congrArg Host.Outcome.next ((State.command_request runs held op).trans (State.cmdLoopSample_taken enabled software))
    · exact congrArg Host.Outcome.next ((State.command_request runs held op).trans (State.cmdLoopSample_refused (Or.inl off)))
    · exact congrArg Host.Outcome.next ((State.command_request runs held op).trans (State.cmdLoopSample_refused (Or.inr other)))
  case calibrate =>
    intro s mb k bits t runs held op free next y st within
    have tested := (State.command_request runs held op).trans (State.cmdSetCal_within (mb := mb) within free next)
    constructor
    · exact fun taken => congrArg Host.Outcome.next (tested.trans (if_neg (not_not_intro taken)))
    · exact fun refused => congrArg Host.Outcome.next (tested.trans (if_pos refused))
  case calibrateBeyond =>
    intro s mb t runs held op beyond
    exact congrArg Host.Outcome.next ((State.command_request runs held op).trans (if_pos beyond))
  case clear =>
    intro s mb t runs held op mine free st
    have tested := (State.command_request (f := fun _ => State.cmdClearModel mb) runs held op).trans (State.cmdClearModel_tests mine free)
    constructor
    · exact fun taken => congrArg Host.Outcome.next (tested.trans (if_neg (not_not_intro taken)))
    · exact fun refused => congrArg Host.Outcome.next (tested.trans (if_pos refused))
  case clearBusy =>
    intro s mb t runs held op host
    exact congrArg Host.Outcome.next ((State.command_request runs held op).trans (State.cmdClearModel_busy host))
  case enable =>
    intro s mb t runs held op named u taken
    exact congrArg Host.Outcome.next ((State.command_request runs held op).trans (State.cmdOutEnable_taken taken))
  case read => exact fun s mb t runs held op => congrArg Host.Outcome.next (State.command_request runs held op)
  case setSec =>
    intro s mb t runs held op d
    exact congrArg Host.Outcome.next (State.command_request runs held op)

end Sys2Proof.Machine

/-! Settles O56, the requests for gauges, sessions, profiles, coupling, ports and tables (chapter 21). -/

namespace Sys2Proof.Machine

variable {s u : State} {mb n : Nat} {t : Taken} {ws : List Word}

/-! ### Gauge runs -/

/-- The word of GAUGE_RUN for a channel: the quantity and the number of the request in the channel's register (R448). -/
def State.runWord (s : State) (ws : List Word) : Word :=
  withField (withField (s.rd (GAU_STAT_CFG (payloadBits ws 1 0 6))) (GAU_STAT_CFG_QTY (payloadBits ws 1 0 6)) (payloadBits ws 1 8 2))
    (GAU_STAT_CFG_N (payloadBits ws 1 0 6)) (payloadBits ws 2 0 16)

/-- A request for a run whose words are in range goes by whether the channel is free for it (R448). -/
theorem State.cmdGaugeRun_fits (new : smAt s.fw.gauge mb = none)
    (fits : fieldsFit (GAU_STAT_CFG (payloadBits ws 1 0 6)) (s.rd (GAU_STAT_CFG (payloadBits ws 1 0 6))) (s.runWord ws) = true)
    (number : payloadBits ws 2 0 16 ≠ 0) (time : payloadBits ws 3 0 16 ≠ 0) (opened : s.gatedAt (GAU_STAT_CFG (payloadBits ws 1 0 6)) = false) :
    s.cmdGaugeRun mb ws =
      if s.on (GAU_STATUS_STAT_BUSY (payloadBits ws 1 0 6)) then s.fwBusy mb
      else if !(s.wr (GAU_STAT_CFG (payloadBits ws 1 0 6)) (s.runWord ws)).statTaken (payloadBits ws 1 0 6) then s.fwInvalid mb 0
      else
        let x := (s.busWrite .coachA (GAU_STAT_CFG (payloadBits ws 1 0 6)) (s.runWord ws)).busWrite .coachA
          (GAU_STAT_CTRL (payloadBits ws 1 0 6)) 1#32
        { x with fw := { x.fw with gauge := smPut x.fw.gauge mb (some (payloadBits ws 1 0 6)) } } := by
  rw [State.runWord] at fits
  unfold State.cmdGaugeRun
  simp only [new, fits, Bool.not_true, Bool.false_eq_true, if_false, number, time, opened]
  rfl

/-- A second request of the mailbox ends the run it waits for (R448). -/
theorem State.cmdGaugeRun_again (waits : smAt s.fw.gauge mb = some n) :
    let x := State.busWrite .coachA (GAU_STAT_CTRL n) 2#32 { s with fw := { s.fw with gauge := smPut s.fw.gauge mb none } }
    s.cmdGaugeRun mb ws = x.fwAnswer mb 7 0 (x.gaugeWords n) := by
  unfold State.cmdGaugeRun
  simp only [waits]
  rfl

/-! ### Sessions -/

theorem State.cmdSessL2_enabled (inRange : payloadBits ws 1 0 8 < 192) (enabled : s.on (SESS_CFG_ENABLE (payloadBits ws 1 0 8)) = true) :
    s.cmdSessL2 mb ws = s.fwInvalid mb 0 := by
  unfold State.cmdSessL2
  simp only [Nat.not_le.mpr inRange, if_false, enabled, if_true]

theorem State.cmdSessL2_address (inRange : payloadBits ws 1 0 8 < 192) (off : s.on (SESS_CFG_ENABLE (payloadBits ws 1 0 8)) = false)
    (profile : s.sessProfile (payloadBits ws 1 0 8) = some 2) (other : profileAddress (payload ws 2) (payload ws 3) = false) :
    s.cmdSessL2 mb ws = s.fwInvalid mb 2 := by
  unfold State.cmdSessL2
  simp only [Nat.not_le.mpr inRange, if_false, off, Bool.false_eq_true, profile, other, Bool.not_false, and_self, if_true]

theorem State.cmdSessL2_taken (inRange : payloadBits ws 1 0 8 < 192) (off : s.on (SESS_CFG_ENABLE (payloadBits ws 1 0 8)) = false)
    (profile : s.sessProfile (payloadBits ws 1 0 8) ≠ some 2) (opened : s.gatedAt (SESS_CFG (payloadBits ws 1 0 8)) = false) :
    s.cmdSessL2 mb ws = (s.setSess (payloadBits ws 1 0 8) { s.sess (payloadBits ws 1 0 8) with
      l2 := [payload ws 2, payload ws 3 &&& 0xFFFF#32]
      peer := ((payload ws 4).toNat * 2 ^ 32 + (payload ws 5).toNat) * 2 ^ 16 + payloadBits ws 6 0 16 }).fwOk mb [] := by
  unfold State.cmdSessL2
  simp only [Nat.not_le.mpr inRange, if_false, off, Bool.false_eq_true, profile, false_and, opened]

/-- An IPv6 address uses all its words (R449). -/
theorem State.cmdSessIp_v6 (inRange : payloadBits ws 1 0 8 < 192) (off : s.on (SESS_CFG_ENABLE (payloadBits ws 1 0 8)) = false)
    (v6 : payloadBits ws 1 8 1 = 1) (opened : s.gatedAt (SESS_CFG (payloadBits ws 1 0 8)) = false) :
    s.cmdSessIp mb ws = (s.setSess (payloadBits ws 1 0 8) { s.sess (payloadBits ws 1 0 8) with
      ip := (ws.drop 1).take 8 ++ [payload ws 10 &&& 0xFF3F#32, 1#32] }).fwOk mb [] := by
  unfold State.cmdSessIp
  simp only [Nat.not_le.mpr inRange, if_false, off, Bool.false_eq_true, v6, Nat.one_ne_zero, opened]

/-! ### Profiles -/

/-- The state of a PTP clock set or removed: its sessions have no parent (R450). -/
def State.instPut (dn : Nat) (x : Option PtpInst) (s : State) : State :=
  let u := (s.instSessions dn).foldl (fun (x : State) k => x.setSess k { x.sess k with parent := 0 }) s
  { u with tse := { u.tse with insts := smPut u.tse.insts dn x } }

/-- A profile the domain allows is set, or removed with 4 (R450). -/
theorem State.cmdPtpProfile_allowed (allowed : profileAllows (payloadBits ws 1 8 3) (payloadBits ws 1 0 8) = true) :
    s.cmdPtpProfile mb ws =
      if payloadBits ws 1 8 3 = 4 then
        (if (smAt s.tse.insts (payloadBits ws 1 0 8)).isSome then (s.instPut (payloadBits ws 1 0 8) none).fwOk mb [] else s.fwAnswer mb 8 0 [])
      else if (smAt s.tse.insts (payloadBits ws 1 0 8)).isNone ∧ 8 ≤ s.tse.insts.length then s.fwInvalid mb 0
      else if s.gatedAt (SESS_CFG 0) then s.fwAnswer mb 9 0 []
      else (s.instPut (payloadBits ws 1 0 8)
        (some ⟨[payload ws 1 &&& 0x7FF#32, payload ws 2 &&& 0x1FFFFFF#32]⟩)).fwOk mb [] := by
  unfold State.cmdPtpProfile
  simp only [allowed, Bool.not_true, Bool.false_eq_true, if_false]
  rfl

theorem State.cmdPtpProfile_denied (denied : profileAllows (payloadBits ws 1 8 3) (payloadBits ws 1 0 8) = false) :
    s.cmdPtpProfile mb ws = s.fwInvalid mb 1 := if_pos (by rw [denied]; rfl)

/-- The words of PTP_PORT_DS: the port's state, its parent and what that announces (R283, R432). -/
def State.portDsWords (s : State) (k src quality : Nat) : List Word :=
  [packWord [(s.portState k, 0)], BitVec.ofNat 32 (src / 2 ^ 48), BitVec.ofNat 32 (src / 2 ^ 16), packWord [(src % 2 ^ 16, 16)],
    packWord [(quality / 2 ^ 24, 0), (quality / 2 ^ 16 % 256, 8), (quality % 2 ^ 16, 16)]]

section
variable (inRange : payloadBits ws 1 0 8 < 192) (opened : s.gatedAt (SESS_CFG (payloadBits ws 1 0 8)) = false)
include inRange opened

theorem State.cmdPtpPortDs_instance {x : PtpInst} (held : smAt s.tse.insts (s.get (SESS_CFG_DOMAIN_NUM (payloadBits ws 1 0 8))) = some x) :
    s.cmdPtpPortDs mb ws = s.fwOk mb (s.portDsWords (payloadBits ws 1 0 8)
      (s.announced (s.get (SESS_CFG_DOMAIN_NUM (payloadBits ws 1 0 8))) x).src
      (s.announced (s.get (SESS_CFG_DOMAIN_NUM (payloadBits ws 1 0 8))) x).quality) := by
  unfold State.cmdPtpPortDs State.instOf
  simp only [Nat.not_le.mpr inRange, if_false, opened, Bool.false_eq_true, held]
  rfl

theorem State.cmdPtpPortDs_alone (none_ : smAt s.tse.insts (s.get (SESS_CFG_DOMAIN_NUM (payloadBits ws 1 0 8))) = none) :
    s.cmdPtpPortDs mb ws = s.useFree.fwOk mb (s.portDsWords (payloadBits ws 1 0 8) (s.sess (payloadBits ws 1 0 8)).peer
      (Config.unstated s.free % 2 ^ 32)) := by
  unfold State.cmdPtpPortDs State.instOf
  simp only [Nat.not_le.mpr inRange, if_false, opened, Bool.false_eq_true, none_]
  rfl

end

/-! ### Ports and their modules -/

theorem State.cmdCplStatus_within (inRange : payloadBits ws 1 0 6 < 48) :
    s.cmdCplStatus mb ws = s.fwStatus mb [CPL_PORT_STATUS (payloadBits ws 1 0 6), CPL_PORT_OFFSET_LO (payloadBits ws 1 0 6),
      CPL_PORT_OFFSET_HI (payloadBits ws 1 0 6), CPL_PORT_MLD_LO (payloadBits ws 1 0 6), CPL_PORT_MLD_HI (payloadBits ws 1 0 6),
      CPL_PORT_FAR_ID (payloadBits ws 1 0 6), CPL_NODE_ACC] := if_neg (Nat.not_le.mpr inRange)

theorem State.cmdPortStatus_within (inRange : payloadBits ws 1 0 6 < 48) :
    s.cmdPortStatus mb ws = s.fwStatus mb [PRT_STATUS (payloadBits ws 1 0 6), TSE_PORT_STATUS (payloadBits ws 1 0 6),
      BUF_OUT_STATUS (payloadBits ws 1 0 6)] := if_neg (Nat.not_le.mpr inRange)

/-- No transfer of the mailbox is on a bus or waits for one (R451). -/
def State.moduleIdle (s : State) (mb : Nat) : Bool :=
  [0, 1, 2, 3].all fun k => ((s.bus k).now.toList ++ (s.bus k).waits.toList).all fun j => j.who != .command mb

/-- A job is not the mailbox's where none of it is (R451). -/
theorem job_other {o : Option I2cJob} : o.toList.all (fun j => j.who != .command mb) = true →
    (match o with | some j => j.who == .command mb | none => false) = false := by
  cases o with
  | none => exact fun _ => rfl
  | some j => simp

/-- With no transfer under way a request for a module's octets is answered, or asks for one (R451). -/
theorem State.cmdModuleRead_idle (idle : s.moduleIdle mb = true) :
    s.cmdModuleRead mb ws =
      if 48 ≤ payloadBits ws 1 0 6 ∨ 56 < payloadBits ws 1 16 8 then s.fwInvalid mb 1
      else if payloadBits ws 1 16 8 = 0 then s.fwOk mb []
      else if s.on (PRT_I2C_STATUS_BUSY (s.get (PRT_MOD_ROUTE_MASTER (payloadBits ws 1 0 6)))) then s.fwBusy mb
      else s.i2cWant (s.get (PRT_MOD_ROUTE_MASTER (payloadBits ws 1 0 6))) {
        who := .command mb
        mux := if s.on (PRT_MOD_ROUTE_MUX_EN (payloadBits ws 1 0 6)) then some (s.get (PRT_MOD_ROUTE_MUX_ADDR (payloadBits ws 1 0 6)),
          s.get (PRT_MOD_ROUTE_MUX_CHAN (payloadBits ws 1 0 6))) else none
        write := false, addr := s.get (PRT_MOD_ROUTE_MOD_ADDR (payloadBits ws 1 0 6)), pointer := some (payloadBits ws 1 8 8)
        len := payloadBits ws 1 16 8 } := by
  refine if_neg fun busy => ?_
  obtain ⟨k, listed, busy⟩ := List.any_eq_true.1 busy
  have none_ := List.all_eq_true.1 idle k listed
  rw [List.all_append, Bool.and_eq_true] at none_
  obtain ⟨onBus, waiting⟩ := none_
  rcases Bool.or_eq_true_iff.1 busy with now | waits
  · exact Bool.false_ne_true ((job_other onBus).symm.trans now)
  · exact Bool.false_ne_true ((job_other waiting).symm.trans waits)

section
variable {b : Nat} {j : I2cJob} {res : I2cResult} {bytes : List Octet}

/-- The answer of a request whose transfer has ended (R451). -/
def State.moduleAnswer (mb : Nat) (res : I2cResult) (octets : List Octet) (s : State) : State :=
  match res with
  | .done => s.fwOk mb (wordsOf octets)
  | .nack => s.fwAnswer mb 6 1 []
  | .nackMux => s.fwAnswer mb 6 2 []
  | .timeout => s.fwAnswer mb 7 0 []

theorem State.i2cDone_command (now : (s.bus b).now = some j) (who : j.who = .command mb) :
    s.i2cDone b res bytes = (s.i2cEnd b res bytes).moduleAnswer mb res (bytes.take j.len) := by
  unfold State.i2cDone
  simp only [now, who]
  rfl

theorem State.i2cDone_other {p : Nat} (now : (s.bus b).now = some j)
    (who : j.who = .host ∨ j.who = .poll p ∨ j.who = .sensor true ∨ j.who = .sensor false) :
    s.i2cDone b res bytes = s.i2cEnd b res bytes := by
  unfold State.i2cDone
  rcases who with host | poll | sensor | sensor
  · simp only [now, host]
  · simp only [now, poll]
  · simp only [now, sensor]
  · simp only [now, sensor]

end

/-! ### Tables -/

theorem State.cmdMacFlush_open (named : payloadBits ws 1 16 1 = 1 ∨ payloadBits ws 1 0 6 < 50) (opened : s.gatedAt FWD_TBL_CMD = false) :
    s.cmdMacFlush mb ws = if s.on FWD_TBL_CMD_BUSY then s
      else (s.bankOp 5 1 (payloadBits ws 1 0 6 + 2 ^ 16 * payloadBits ws 1 16 1) []).1.fwOk mb [] := by
  have taken : ¬ (payloadBits ws 1 16 1 = 0 ∧ 50 ≤ payloadBits ws 1 0 6) := by omega
  unfold State.cmdMacFlush
  simp only [taken, if_false, opened, Bool.false_eq_true]

theorem State.cmdMacLookup_open {st : Nat} (ok : entryOk 1 (ws ++ [0, 0]) = true) (opened : s.gatedAt FWD_TBL_CMD = false)
    (free : s.on FWD_TBL_CMD_BUSY = false) (looks : s.bankOp 4 1 0 ws = (u, st)) :
    s.cmdMacLookup mb ws = if st = 0 then u.fwOk mb (u.tblData 4 ++ [BitVec.ofNat 32 (u.get FWD_TBL_CMD_INDEX)])
      else u.fwAnswer mb 8 0 [] := by
  unfold State.cmdMacLookup
  simp only [ok, Bool.not_true, Bool.false_eq_true, if_false, opened, free, looks]

theorem State.cmdTableWrite_none (none_ : entryWords (payloadBits ws 1 0 16) = none) : s.cmdTableWrite mb ws = s.fwInvalid mb 1 := by
  unfold State.cmdTableWrite
  simp only [none_]

theorem State.cmdTableWrite_mac (table : payloadBits ws 1 0 16 = 1) (length : entryWords 1 = some (ws.drop 1).length)
    (put : payloadBits ws 1 16 1 = 0) (ok : entryOk 1 (ws.drop 1) = true) (opened : s.gatedAt FWD_TBL_CMD = false)
    (free : s.on FWD_TBL_CMD_BUSY = false) :
    s.cmdTableWrite mb ws = State.bankAnswer mb (s.bankOp 2 1 0 (ws.drop 1)) := by
  unfold State.cmdTableWrite
  simp [table, length, put, ok, opened, free, -List.drop_one]

theorem State.cmdTableWrite_gate (table : payloadBits ws 1 0 16 = 4) (length : entryWords 4 = some (ws.drop 1).length)
    (put : payloadBits ws 1 16 1 = 0) (ok : entryOk 4 (ws.drop 1) = true)
    (settled : s.on (SCH_GCL_STATUS_PENDING (gatePlaceOf (ws.drop 1)).1) = false) (opened : s.gatedAt SCH_CTRL = false) :
    s.cmdTableWrite mb ws = (s.putGate (ws.drop 1)).fwOk mb [] := by
  unfold State.cmdTableWrite
  simp [table, length, put, ok, settled, opened, -List.drop_one]

/-- Settles O56: the requests for gauge runs, sessions, profiles, coupling, ports and tables (R432, R448 to R451). -/
theorem networkRequestsComplete : Obligations.NetworkRequestsComplete := by
  unfold Obligations.NetworkRequestsComplete
  refine ⟨?gauge, ?gaugeAgain, ?sessL2, ?sessIp, ?profile, ?portDs, ?status, ?module, ?transferCommand, ?transferOther, ?flush, ?lookup,
    ?table⟩
  case gauge =>
    intro s mb t runs held op new n cfg fits number time opened
    have asks := (State.command_request (f := State.cmdGaugeRun mb) runs held op).trans
      (State.cmdGaugeRun_fits new fits number time opened)
    constructor
    · exact fun busy => congrArg Host.Outcome.next (asks.trans (if_pos busy))
    · intro free taken u
      have free_ : ¬ s.on (GAU_STATUS_STAT_BUSY n) = true := by rw [free]; exact Bool.false_ne_true
      have taken_ : ¬ (!(s.wr (GAU_STAT_CFG n) cfg).statTaken n) = true := by rw [taken]; exact Bool.false_ne_true
      exact congrArg Host.Outcome.next (asks.trans ((if_neg free_).trans (if_neg taken_)))
  case gaugeAgain =>
    intro s mb n t runs held op waits u
    exact congrArg Host.Outcome.next ((State.command_request runs held op).trans (State.cmdGaugeRun_again waits))
  case sessL2 =>
    intro s mb t runs held op k
    have asks := State.command_request (f := State.cmdSessL2 mb) runs held op
    refine ⟨fun beyond => ?_, fun inRange enabled => ?_, fun inRange off profile other => ?_, fun inRange off profile opened => ?_⟩
    · exact congrArg Host.Outcome.next (asks.trans (if_pos beyond))
    · exact congrArg Host.Outcome.next (asks.trans (State.cmdSessL2_enabled inRange enabled))
    · exact congrArg Host.Outcome.next (asks.trans (State.cmdSessL2_address inRange off profile other))
    · exact congrArg Host.Outcome.next (asks.trans (State.cmdSessL2_taken inRange off profile opened))
  case sessIp =>
    intro s mb t runs held op k inRange off v6 opened
    exact congrArg Host.Outcome.next ((State.command_request runs held op).trans (State.cmdSessIp_v6 inRange off v6 opened))
  case profile =>
    intro s mb t runs held op dn profile u
    have asks := State.command_request (f := State.cmdPtpProfile mb) runs held op
    have allowed_ (allowed : profileAllows profile dn = true) := asks.trans (State.cmdPtpProfile_allowed allowed)
    refine ⟨fun denied => ?denied, fun allowed set_ held_ opened => ?set, fun allowed remove held_ => ?remove,
      fun allowed set_ none_ full => ?full, fun allowed remove none_ => ?absent⟩
    case denied => exact congrArg Host.Outcome.next (asks.trans (State.cmdPtpProfile_denied denied))
    case set =>
      have room : ¬ ((smAt s.tse.insts dn).isNone = true ∧ 8 ≤ s.tse.insts.length) := by
        rw [Option.isNone_iff_eq_none, ← Option.not_isSome_iff_eq_none, held_]; simp
      have opened_ : ¬ s.gatedAt (SESS_CFG 0) = true := by rw [opened]; exact Bool.false_ne_true
      exact congrArg Host.Outcome.next ((allowed_ allowed).trans ((if_neg set_).trans ((if_neg room).trans (if_neg opened_))))
    case remove => exact congrArg Host.Outcome.next ((allowed_ allowed).trans ((if_pos remove).trans (if_pos held_)))
    case full =>
      have full_ : (smAt s.tse.insts dn).isNone = true ∧ 8 ≤ s.tse.insts.length := ⟨by rw [none_]; rfl, full⟩
      exact congrArg Host.Outcome.next ((allowed_ allowed).trans ((if_neg set_).trans (if_pos full_)))
    case absent =>
      have absent : ¬ (smAt s.tse.insts dn).isSome = true := by rw [none_]; exact Bool.false_ne_true
      exact congrArg Host.Outcome.next ((allowed_ allowed).trans ((if_pos remove).trans (if_neg absent)))
  case portDs =>
    intro s mb t runs held op k dn words inRange opened
    have asks := State.command_request (f := State.cmdPtpPortDs mb) runs held op
    constructor
    · exact fun x held => congrArg Host.Outcome.next (asks.trans (State.cmdPtpPortDs_instance inRange opened held))
    · intro none_
      refine ⟨Config.unstated s.free % 2 ^ 32, Nat.mod_lt _ (by decide), ?_⟩
      exact congrArg Host.Outcome.next (asks.trans (State.cmdPtpPortDs_alone inRange opened none_))
  case status =>
    intro s mb t runs held p
    refine ⟨fun op inRange => ?_, fun op beyond => ?_, fun op inRange => ?_, fun op beyond => ?_⟩
    · exact congrArg Host.Outcome.next ((State.command_request runs held op).trans (State.cmdCplStatus_within inRange))
    · exact congrArg Host.Outcome.next ((State.command_request runs held op).trans (if_pos beyond))
    · exact congrArg Host.Outcome.next ((State.command_request runs held op).trans (State.cmdPortStatus_within inRange))
    · exact congrArg Host.Outcome.next ((State.command_request runs held op).trans (if_pos beyond))
  case module =>
    intro s mb t runs held op idle p n b
    have asks := (State.command_request (f := State.cmdModuleRead mb) runs held op).trans (State.cmdModuleRead_idle idle)
    have fits (inRange : p < 48) (few : n ≤ 56) : ¬ (48 ≤ p ∨ 56 < n) := by omega
    refine ⟨fun beyond => ?_, fun inRange long => ?_, fun inRange none_ => ?_, fun inRange some_ few busy => ?_,
      fun inRange some_ few free direct => ?_⟩
    · exact congrArg Host.Outcome.next (asks.trans (if_pos (Or.inl beyond)))
    · exact congrArg Host.Outcome.next (asks.trans (if_pos (Or.inr long)))
    · exact congrArg Host.Outcome.next (asks.trans ((if_neg (fits inRange (by omega))).trans (if_pos none_)))
    · exact congrArg Host.Outcome.next (asks.trans
        ((if_neg (fits inRange few)).trans ((if_neg (Nat.pos_iff_ne_zero.1 some_)).trans (if_pos busy))))
    · have free_ : ¬ s.on (PRT_I2C_STATUS_BUSY b) = true := by rw [free]; exact Bool.false_ne_true
      refine congrArg Host.Outcome.next (asks.trans
        ((if_neg (fits inRange few)).trans ((if_neg (Nat.pos_iff_ne_zero.1 some_)).trans ((if_neg free_).trans ?_))))
      simp only [show s.on (PRT_MOD_ROUTE_MUX_EN (payloadBits t.data 1 0 6)) = false from direct, Bool.false_eq_true, if_false]
      rfl
  case transferCommand =>
    intro s b mb j bytes inRange on now who
    have ends (res : I2cResult) : s.when (decide (b < 4) && s.i2cOn) (State.i2cDone b res bytes) =
        (s.i2cEnd b res bytes).moduleAnswer mb res (bytes.take j.len) :=
      (State.when_pos (by simp [inRange, on])).trans (State.i2cDone_command now who)
    exact ⟨congrArg Host.Outcome.next (ends .done), congrArg Host.Outcome.next (ends .nack), congrArg Host.Outcome.next (ends .nackMux),
      congrArg Host.Outcome.next (ends .timeout)⟩
  case transferOther =>
    intro s b p j res bytes inRange on now who
    exact congrArg Host.Outcome.next ((State.when_pos (by simp [inRange, on])).trans (State.i2cDone_other now who))
  case flush =>
    intro s mb t runs held op p all
    have asks := State.command_request (f := State.cmdMacFlush mb) runs held op
    refine ⟨fun none_ beyond => ?_, fun named opened busy => ?_, fun named opened free => ?_⟩
    · exact congrArg Host.Outcome.next (asks.trans (if_pos ⟨none_, beyond⟩))
    · exact congrArg Host.Outcome.next (asks.trans ((State.cmdMacFlush_open named opened).trans (if_pos busy)))
    · have free_ : ¬ s.on FWD_TBL_CMD_BUSY = true := by rw [free]; exact Bool.false_ne_true
      exact congrArg Host.Outcome.next (asks.trans ((State.cmdMacFlush_open named opened).trans (if_neg free_)))
  case lookup =>
    intro s u mb st t runs held op ok opened free looks
    have asks := (State.command_request (f := State.cmdMacLookup mb) runs held op).trans (State.cmdMacLookup_open ok opened free looks)
    constructor
    · exact fun found => congrArg Host.Outcome.next (asks.trans (if_pos found))
    · exact fun absent => congrArg Host.Outcome.next (asks.trans (if_neg absent))
  case table =>
    intro s mb t runs held op table es
    have asks := State.command_request (f := State.cmdTableWrite mb) runs held op
    refine ⟨fun none_ => ?_, fun mac length put ok opened free => ?_, fun gate length put ok settled opened => ?_⟩
    · exact congrArg Host.Outcome.next (asks.trans (State.cmdTableWrite_none none_))
    · exact congrArg Host.Outcome.next (asks.trans (State.cmdTableWrite_mac mac length put ok opened free))
    · exact congrArg Host.Outcome.next (asks.trans (State.cmdTableWrite_gate gate length put ok settled opened))

end Sys2Proof.Machine

/-! Settles O57, the requests that pass to coachman B, the fault log and the power ladder (chapter 21). -/

namespace Sys2Proof.Machine

variable {s u : State} {mb st : Nat} {t : Taken} {ws : List Word} {bs : List Octet} {o : Option Nat}

/-! ### The NV store -/

/-- The answer of a READ by its status: the octets of one that is good, or that holds an uncorrectable group (R453). -/
def State.readAnswer (mb st : Nat) (words : List Word) (s : State) : State :=
  if st = 0 then s.fwOk mb words else if st = 6 then s.fwNv mb 6 words else s.fwNv mb st []

theorem State.cmdNvRead_done (short : (payload ws 2).toNat ≤ 56) (free : s.nvFree = true)
    (reads : s.nvCommand 0 (payloadBits ws 1 0 17) (payload ws 2).toNat false [] = (u, some st)) :
    s.cmdNvRead mb ws = u.readAnswer mb st (wordsOf (u.nvWindow (payload ws 2).toNat)) := by
  unfold State.cmdNvRead State.readAnswer
  simp only [Nat.not_lt.mpr short, if_false, free, Bool.not_true, Bool.false_eq_true, reads]
  by_cases good : st = 0
  · simp only [good, if_true]
  · by_cases raw : st = 6
    · simp only [raw, if_true, OfNat.ofNat_ne_zero, if_false]
    · simp only [good, raw, if_false]

theorem State.cmdNvRead_waits (short : (payload ws 2).toNat ≤ 56) (busy : s.nvFree = false) : s.cmdNvRead mb ws = s := by
  unfold State.cmdNvRead
  simp only [Nat.not_lt.mpr short, if_false, busy, Bool.not_false, if_true]

/-- The answer of an operation passed on: its status, or none until it has ended (R436). -/
def State.passedAnswer (mb : Nat) (o : Option Nat) (s : State) : State :=
  match o with
  | some st => s.fwNv mb st []
  | none => s

theorem State.cmdNvWrite_done (free : s.nvFree = true) (carried : requestOctets ws (payload ws 2).toNat = some bs)
    (some_ : 0 < (payload ws 2).toNat) (short : (payload ws 2).toNat ≤ 52) (start : 0x8000 ≤ payloadBits ws 1 0 17)
    (fits : payloadBits ws 1 0 17 + (payload ws 2).toNat ≤ 0x10000)
    (writes : (s.nvToWindow bs).nvCommand 1 (payloadBits ws 1 0 17) (payload ws 2).toNat (payloadBits ws 1 24 1 == 1) [(6, mb)] = (u, o)) :
    s.cmdNvWrite mb ws = u.passedAnswer mb o := by
  have inside : ¬ (payloadBits ws 1 0 17 < 0x8000 ∨ 0x10000 < payloadBits ws 1 0 17 + (payload ws 2).toNat) := by omega
  unfold State.cmdNvWrite
  simp only [carried, Nat.not_lt.mpr short, if_false, Nat.ne_of_gt some_, inside, free, Bool.not_true, Bool.false_eq_true, writes]
  cases o <;> rfl

theorem State.cmdNvWrite_below (carried : requestOctets ws (payload ws 2).toNat = some bs) (some_ : 0 < (payload ws 2).toNat)
    (short : (payload ws 2).toNat ≤ 52) (below : payloadBits ws 1 0 17 < 0x8000) : s.cmdNvWrite mb ws = s.fwInvalid mb 1 := by
  unfold State.cmdNvWrite
  simp only [carried, Nat.not_lt.mpr short, if_false, Nat.ne_of_gt some_, below, true_or, if_true]

theorem State.cmdNvCommit_done (free : s.nvFree = true)
    (commits : s.nvCommand 2 (s.get NVS_ADDR_ADDR) (s.get NVS_LEN_LEN) false [(6, mb)] = (u, o)) :
    s.cmdNvCommit mb = u.passedAnswer mb o := by
  unfold State.cmdNvCommit
  simp only [free, Bool.not_true, Bool.false_eq_true, if_false, commits]
  cases o <;> rfl

theorem State.cmdHotUserWrite_offset (carried : requestOctets ws (payload ws 2).toNat = some bs) (short : (payload ws 2).toNat ≤ 52)
    (beyond : 491 < (payload ws 1).toNat) : s.cmdHotUserWrite mb ws = s.fwInvalid mb 1 := by
  unfold State.cmdHotUserWrite
  simp only [carried, Nat.not_lt.mpr short, if_false, beyond, true_or, if_true]

theorem State.cmdHotSave_ends (free : s.nvFree = true)
    (saves : s.nvCommand 4 (s.get NVS_ADDR_ADDR) (s.get NVS_LEN_LEN) false [] = (u, some st)) : s.cmdHotSave mb = u.fwNv mb st [] := by
  unfold State.cmdHotSave
  simp only [free, Bool.not_true, Bool.false_eq_true, if_false, saves]

theorem State.cmdHotSave_runs (free : s.nvFree = true)
    (saves : s.nvCommand 4 (s.get NVS_ADDR_ADDR) (s.get NVS_LEN_LEN) false [] = (u, none)) :
    s.cmdHotSave mb = { u with fw := { u.fw with passed := some mb } } := by
  unfold State.cmdHotSave
  simp only [free, Bool.not_true, Bool.false_eq_true, if_false, saves]

/-! ### Faults and power -/

theorem State.cmdFaultLogRead_entry {e : FaultEntry} (runs : s.coreBRuns = true)
    (entry : s.eventLog[payloadBits ws 1 0 16]? = some e) : s.cmdFaultLogRead mb ws = s.fwOk mb [e.w0, e.w1, e.w2, e.w3] := by
  unfold State.cmdFaultLogRead
  simp only [runs, Bool.not_true, Bool.false_eq_true, if_false, entry]

theorem State.cmdFaultLogRead_past (runs : s.coreBRuns = true) (past : s.eventLog.length ≤ payloadBits ws 1 0 16) :
    s.cmdFaultLogRead mb ws = s.fwAnswer mb 8 0 [] := by
  unfold State.cmdFaultLogRead
  simp only [runs, Bool.not_true, Bool.false_eq_true, if_false, List.getElem?_eq_none past]

theorem State.cmdPowerState_mask (target : payloadBits ws 1 0 3 < 5) (beyond : 16 ≤ (payload ws 2).toNat) :
    s.cmdPowerState mb ws = s.fwInvalid mb 2 := by
  unfold State.cmdPowerState
  simp only [Nat.not_le.mpr target, if_false, beyond, if_true]

section
variable (target : payloadBits ws 1 0 3 < 5) (mask : (payload ws 2).toNat < 16)
include target mask

theorem State.cmdPowerState_busy (busy : s.pwr.target ≠ none) : s.cmdPowerState mb ws = s.fwAnswer mb 4 0 [] := by
  unfold State.cmdPowerState
  simp only [Nat.not_le.mpr target, Nat.not_le.mpr mask, if_false, Option.isSome_iff_ne_none.2 busy, if_true]
  rfl

theorem State.cmdPowerState_waits (settled : s.pwr.target = none) (down : s.coreBRuns = false) : s.cmdPowerState mb ws = s := by
  unfold State.cmdPowerState
  simp only [Nat.not_le.mpr target, Nat.not_le.mpr mask, if_false, settled, Option.isSome_none, Bool.false_eq_true, down, Bool.not_false,
    if_true]

/-- A request that passes its checks is refused, written to PWR_REQ, or deferred to its answer's release (R438, R490). -/
theorem State.cmdPowerState_asks (settled : s.pwr.target = none) (runs : s.coreBRuns = true) :
    s.cmdPowerState mb ws =
      if s.powerRefusal (powerOf (payloadBits ws 1 0 3)) (payload ws 2).toNat ≠ 0 then
        (s.powerRequest (payloadBits ws 1 0 3) (payload ws 2).toNat).fwAnswer mb 6
          (s.powerRefusal (powerOf (payloadBits ws 1 0 3)) (payload ws 2).toNat) []
      else if payloadBits ws 1 0 3 < 3 then (s.powerRequest (payloadBits ws 1 0 3) (payload ws 2).toNat).fwOk mb []
      else s.deferAction mb (1 + 16 * payloadBits ws 1 0 3 + (payload ws 2).toNat) := by
  unfold State.cmdPowerState
  simp only [Nat.not_le.mpr target, Nat.not_le.mpr mask, if_false, settled, Option.isSome_none, Bool.false_eq_true, runs, Bool.not_true]

end

theorem State.cmdThermal_runs (runs : s.coreBRuns = true) :
    s.cmdThermal mb = s.fwOk mb [BitVec.ofNat 32 (s.get FLT_TEMP_TJ + 2 ^ 16 * s.get PWR_STATUS_STEP)] := by
  unfold State.cmdThermal packWord
  simp only [runs, Bool.not_true, Bool.false_eq_true, if_false, List.foldl_cons, List.foldl_nil, Nat.zero_add, Nat.pow_zero, Nat.one_mul,
    Nat.mul_comm]

/-- Settles O57: the requests that pass to coachman B, the fault log, and the power ladder (R396, R436, R438, R453, R454, R482,
R484, R490, R503). -/
theorem storeRequestsComplete : Obligations.StoreRequestsComplete := by
  unfold Obligations.StoreRequestsComplete
  refine ⟨?read, ?readLong, ?readWaits, ?write, ?writeBelow, ?commit, ?userWrite, ?userWriteBeyond, ?save, ?log, ?logPast, ?power,
    ?thermal, ?down⟩
  case read =>
    intro s u mb st t runs held op free short reads
    have asks := (State.command_request (f := State.cmdNvRead mb) runs held op).trans (State.cmdNvRead_done short free reads)
    refine ⟨fun good => ?_, fun raw => ?_, fun bad notRaw => ?_⟩
    · exact congrArg Host.Outcome.next (asks.trans (if_pos good))
    · exact congrArg Host.Outcome.next (asks.trans ((if_neg (by omega)).trans (if_pos raw)))
    · exact congrArg Host.Outcome.next (asks.trans ((if_neg bad).trans (if_neg notRaw)))
  case readLong =>
    intro s mb t runs held op long
    exact congrArg Host.Outcome.next ((State.command_request runs held op).trans (if_pos long))
  case readWaits =>
    intro s mb t runs held op short busy
    exact congrArg Host.Outcome.next ((State.command_request runs held op).trans (State.cmdNvRead_waits short busy))
  case write =>
    intro s u mb t bs o runs held op free carried some_ short start fits writes
    have asks := (State.command_request (f := State.cmdNvWrite mb) runs held op).trans
      (State.cmdNvWrite_done free carried some_ short start fits writes)
    exact ⟨fun st ended => congrArg Host.Outcome.next (asks.trans (by rw [ended]; rfl)),
      fun none_ => congrArg Host.Outcome.next (asks.trans (by rw [none_]; rfl))⟩
  case writeBelow =>
    intro s mb t bs runs held op carried some_ short below
    exact congrArg Host.Outcome.next ((State.command_request runs held op).trans (State.cmdNvWrite_below carried some_ short below))
  case commit =>
    intro s u mb t o runs held op free commits
    have asks := (State.command_request (f := fun _ => State.cmdNvCommit mb) runs held op).trans (State.cmdNvCommit_done free commits)
    exact ⟨fun st ended => congrArg Host.Outcome.next (asks.trans (by rw [ended]; rfl)),
      fun none_ => congrArg Host.Outcome.next (asks.trans (by rw [none_]; rfl))⟩
  case userWrite =>
    intro s mb t bs runs held op free carried start short fits
    exact (exec_hotUserWrite_request runs held op).trans
      (congrArg Host.Outcome.next (State.cmdHotUserWrite_within free carried start short fits))
  case userWriteBeyond =>
    intro s mb t bs runs held op carried short beyond
    exact (exec_hotUserWrite_request runs held op).trans (congrArg Host.Outcome.next (State.cmdHotUserWrite_offset carried short beyond))
  case save =>
    intro s u mb t o runs held op free saves
    constructor
    · intro st ended
      exact congrArg Host.Outcome.next
        ((State.command_request runs held op).trans (State.cmdHotSave_ends free (saves.trans (by rw [ended]))))
    · intro none_
      exact congrArg Host.Outcome.next
        ((State.command_request runs held op).trans (State.cmdHotSave_runs free (saves.trans (by rw [none_]))))
  case log =>
    intro s mb t e runs held op core entry
    exact congrArg Host.Outcome.next ((State.command_request runs held op).trans (State.cmdFaultLogRead_entry core entry))
  case logPast =>
    intro s mb t runs held op core past
    exact congrArg Host.Outcome.next ((State.command_request runs held op).trans (State.cmdFaultLogRead_past core past))
  case power =>
    intro s mb t runs held op target mask u
    have asks := State.command_request (f := State.cmdPowerState mb) runs held op
    refine ⟨fun beyond => ?beyond, fun inRange long => ?mask, fun inRange short busy => ?busy, fun inRange short settled down => ?waits,
      fun inRange short settled core code => ?refused, fun shallow short settled core code => ?shallow,
      fun deep inRange short settled core code => ?deep⟩
    case beyond => exact congrArg Host.Outcome.next (asks.trans (if_pos beyond))
    case mask => exact congrArg Host.Outcome.next (asks.trans (State.cmdPowerState_mask inRange long))
    case busy => exact congrArg Host.Outcome.next (asks.trans (State.cmdPowerState_busy inRange short busy))
    case waits => exact congrArg Host.Outcome.next (asks.trans (State.cmdPowerState_waits inRange short settled down))
    case refused =>
      exact congrArg Host.Outcome.next (asks.trans ((State.cmdPowerState_asks inRange short settled core).trans (if_pos code)))
    case shallow =>
      exact congrArg Host.Outcome.next (asks.trans ((State.cmdPowerState_asks (by omega) short settled core).trans
        ((if_neg (not_not_intro code)).trans (if_pos shallow))))
    case deep =>
      exact congrArg Host.Outcome.next (asks.trans ((State.cmdPowerState_asks inRange short settled core).trans
        ((if_neg (not_not_intro code)).trans ((if_neg (Nat.not_lt.mpr deep)).trans (State.deferAction_held held)))))
  case thermal =>
    intro s mb t runs held op core
    exact congrArg Host.Outcome.next ((State.command_request runs held op).trans (State.cmdThermal_runs core))
  case down =>
    intro s mb t runs held down
    have waits : (!s.coreBRuns) = true := by rw [down]; rfl
    constructor
    · exact fun op => congrArg Host.Outcome.next ((State.command_request runs held op).trans (if_pos waits))
    · exact fun op => congrArg Host.Outcome.next ((State.command_request runs held op).trans (if_pos waits))

end Sys2Proof.Machine

/-! Settles O58, words of SPI and I2C, requests of PCIe, and scans of JTAG (chapter 22). A word is for this device where its address
is the latched one; the interfaces perform it while the root runs and the device is awake. -/

namespace Sys2Proof.Machine

variable {s u : State} {dev a dr : Nat} {v w : Word} {late cut : Bool} {at? : Option Nat}

theorem State.hostOn_of (root : s.boot.root = true) (awake : s.asleep = false) : s.hostOn = true := by
  rw [State.hostOn, root, awake]; rfl

/-! ### SPI -/

theorem State.spiMine_iff : s.spiMine dev = true ↔ dev = s.get GLB_STRAPS_ADDR := beq_iff_eq

theorem State.spiMine_other (other : dev ≠ s.get GLB_STRAPS_ADDR) : s.spiMine dev = false := beq_eq_false_iff_ne.2 other

theorem State.spiRead_inTime (root : s.boot.root = true) : s.spiRead a false = s.busRead .spi a := by
  unfold State.spiRead
  simp only [root, Bool.not_true, Bool.false_eq_true, if_false, and_false]

theorem State.spiRead_late (root : s.boot.root = true) (awake : s.asleep = false) :
    s.spiRead a true = s.lateRead .spi HIF_ERR_SPI_LATE a := by
  unfold State.spiRead
  simp only [root, Bool.not_true, Bool.false_eq_true, if_false, State.hostOn_of root awake, and_self, if_true]

theorem State.spiRead_early (early : s.boot.root = false) (released : s.boot.held = false) (awake : s.asleep = false) :
    s.spiRead a late = s.answer .spi (.data 0xFFFFFFFF#32) := by
  unfold State.spiRead
  simp only [early, Bool.not_false, if_true, released, awake, Bool.false_eq_true, or_self, if_false]

/-! ### I2C -/

theorem State.i2cMine_iff : s.i2cMine dev = true ↔ dev = 0x10 + s.get GLB_STRAPS_ADDR := beq_iff_eq

/-- A transaction for another device, or one the interface does not acknowledge, is none of this device (R49, R460, R473). -/
theorem State.i2c_none (none_ : dev ≠ 0x10 + s.get GLB_STRAPS_ADDR ∨ s.boot.root = false ∨ s.asleep = true) :
    (!s.hostOn) = true ∨ (!s.i2cMine dev) = true := by
  rcases none_ with other | early | asleep
  · exact Or.inr (by rw [State.i2cMine, beq_eq_false_iff_ne.2 other]; rfl)
  · exact Or.inl (by rw [State.hostOn, early]; rfl)
  · exact Or.inl (by rw [State.hostOn, asleep, Bool.not_true, Bool.and_false]; rfl)

theorem State.i2cSlaveWrite_none (none_ : (!s.hostOn) = true ∨ (!s.i2cMine dev) = true) : s.i2cSlaveWrite dev a v = s := if_pos none_
theorem State.i2cSlaveRead_none (none_ : (!s.hostOn) = true ∨ (!s.i2cMine dev) = true) : s.i2cSlaveRead dev at? late = s := if_pos none_

section
variable (mine : dev = 0x10 + s.get GLB_STRAPS_ADDR) (root : s.boot.root = true) (awake : s.asleep = false)
include mine root awake

theorem State.i2c_mine : ¬ ((!s.hostOn) = true ∨ (!s.i2cMine dev) = true) := by
  rw [State.hostOn_of root awake, State.i2cMine_iff.2 mine]
  decide

theorem State.i2cSlaveWrite_mine : s.i2cSlaveWrite dev a v =
    { s.busWrite .i2c a v with hif := { (s.busWrite .i2c a v).hif with i2cNext := nextAddr a } } :=
  if_neg (State.i2c_mine mine root awake)

theorem State.i2cSlaveRead_inTime : s.i2cSlaveRead dev (some a) false =
    { s.busRead .i2c a with hif := { (s.busRead .i2c a).hif with i2cNext := nextAddr a } } :=
  if_neg (State.i2c_mine mine root awake)

theorem State.i2cSlaveRead_late : s.i2cSlaveRead dev (some a) true =
    { s.lateRead .i2c HIF_ERR_I2C_ERR a with hif := { (s.lateRead .i2c HIF_ERR_I2C_ERR a).hif with i2cNext := nextAddr a } } :=
  if_neg (State.i2c_mine mine root awake)

end

/-! ### PCIe -/

/-- The state in which a request's words are performed: no completion yet (R461). -/
def State.pcieBegun (s : State) : State := { s with hif := { s.hif with completion := [] } }

/-- The state once a word has its completion (R461). -/
def State.pcieCompleted (s : State) : State := { s with hif := { s.hif with completion := s.hif.completion ++ [s.replyOf .pcie] } }

/-- A request of one word performs it (R461). -/
theorem State.pcieAccess_one (write whole : Bool) (ws : List Word) (root : s.boot.root = true) (awake : s.asleep = false)
    (up : s.hif.pcieUp = true) :
    s.pcieAccess write a ws [whole] = (s.pcieBegun.pcieWord write (a % 2 ^ 24) (ws.getD 0 0) whole).pcieCompleted := by
  unfold State.pcieAccess
  rw [State.hostOn_of root awake, up]
  rfl

theorem State.pcieAccess_down (write : Bool) (ws : List Word) (es : List Bool) (down : s.hif.pcieUp = false) :
    s.pcieAccess write a ws es = s := if_pos (Or.inr (by rw [down]; rfl))

/-! ### JTAG -/

/-- The state of an Update-DR that performs an access (R462). -/
def State.jtagBegun (dr : Nat) (s : State) : State :=
  { s.useFree with hif := { s.hif with jtagDr := dr % 2 ^ 58, jtagErr := false, jtagAt := some s.cyc } }

/-- The state once a read's data has been taken (R462). -/
def State.jtagTaken (s : State) : State :=
  match s.replyOf .jtag with
  | .data w => { s with hif := { s.hif with jtagData := w } }
  | _ => s

theorem State.jtagTaken_data (data : s.replyOf .jtag = .data w) : s.jtagTaken = { s with hif := { s.hif with jtagData := w } } := by
  rw [State.jtagTaken, data]

theorem State.jtagUpdate_early (awake : s.asleep = false) (early : s.boot.root = false) :
    s.jtagUpdate dr = { s with hif := { s.hif with jtagDr := dr % 2 ^ 58, jtagErr := true } } := by
  unfold State.jtagUpdate
  simp only [awake, Bool.false_eq_true, if_false, early, Bool.not_false, if_true]

section
variable (awake : s.asleep = false) (root : s.boot.root = true) (first : s.hif.jtagAt = none)
include awake root first

theorem State.jtagUpdate_write (write : dr.testBit 57 = true) :
    s.jtagUpdate dr = (s.jtagBegun dr).busWrite .jtag (dr / 2 ^ 33 % 2 ^ 24) (BitVec.ofNat 32 (dr / 2)) := by
  unfold State.jtagUpdate State.jtagBusy
  simp only [awake, Bool.false_eq_true, if_false, root, Bool.not_true, first, write, if_true]
  rfl

theorem State.jtagUpdate_read (read : dr.testBit 57 = false) :
    s.jtagUpdate dr = ((s.jtagBegun dr).busRead .jtag (dr / 2 ^ 33 % 2 ^ 24)).jtagTaken := by
  unfold State.jtagUpdate State.jtagBusy
  simp only [awake, Bool.false_eq_true, if_false, root, Bool.not_true, first, read]
  rfl

end

theorem State.jtagCapture_awake (awake : s.asleep = false) :
    s.jtagCapture = { s with hif := { s.hif with
      jtagDr := s.hif.jtagDr / 2 ^ 33 * 2 ^ 33 + s.hif.jtagData.toNat * 2 + (if s.hif.jtagErr then 1 else 0) } } :=
  if_neg (by rw [awake]; exact Bool.false_ne_true)

/-- Settles O58: words of SPI and I2C, requests of PCIe, and scans of JTAG (R49, R458 to R462, R473, R474). -/
theorem interfaceCommandsComplete : Obligations.InterfaceCommandsComplete := by
  unfold Obligations.InterfaceCommandsComplete
  refine ⟨?spiWrite, ?spiRead, ?spiEarly, ?spiLate, ?spiCut, ?spiWhole, ?spiOther, ?i2cWrite, ?i2cRead, ?i2cNext, ?i2cLate, ?i2cCut,
    ?i2cWhole, ?i2cOther, ?pcieWrite, ?pciePartial, ?pcieRead, ?pcieDown, ?jtagEarly, ?jtagWrite, ?jtagRead, ?jtagCapture, ?jtagAsleep⟩
  case spiWrite => exact fun s dev a v mine => congrArg Host.Outcome.next (State.when_pos (State.spiMine_iff.2 mine))
  case spiRead =>
    intro s dev a mine root
    exact congrArg Host.Outcome.next ((State.when_pos (State.spiMine_iff.2 mine)).trans (State.spiRead_inTime root))
  case spiEarly =>
    intro s dev a late mine early released awake
    exact congrArg Host.Outcome.next ((State.when_pos (State.spiMine_iff.2 mine)).trans (State.spiRead_early early released awake))
  case spiLate =>
    intro s dev a mine root awake
    exact congrArg Host.Outcome.next ((State.when_pos (State.spiMine_iff.2 mine)).trans (State.spiRead_late root awake))
  case spiCut =>
    intro s dev mine root awake
    exact congrArg Host.Outcome.next (State.when_pos (by rw [State.hostOn_of root awake, State.spiMine_iff.2 mine]; rfl))
  case spiWhole => exact fun s dev => congrArg Host.Outcome.next (State.when_neg (Bool.and_false _))
  case spiOther =>
    intro s dev a v late cut other
    have none_ := State.spiMine_other other
    exact ⟨congrArg Host.Outcome.next (State.when_neg none_), congrArg Host.Outcome.next (State.when_neg none_),
      congrArg Host.Outcome.next (State.when_neg (by rw [none_, Bool.and_false, Bool.false_and]))⟩
  case i2cWrite =>
    intro s dev a v mine root awake u
    exact congrArg Host.Outcome.next (State.i2cSlaveWrite_mine mine root awake)
  case i2cRead =>
    intro s dev a mine root awake u
    exact congrArg Host.Outcome.next (State.i2cSlaveRead_inTime mine root awake)
  case i2cNext => exact fun s dev late => rfl
  case i2cLate =>
    intro s dev a mine root awake u
    exact congrArg Host.Outcome.next (State.i2cSlaveRead_late mine root awake)
  case i2cCut =>
    intro s dev mine root awake
    exact congrArg Host.Outcome.next (State.when_pos (by rw [State.hostOn_of root awake, State.i2cMine_iff.2 mine]; rfl))
  case i2cWhole => exact fun s dev => congrArg Host.Outcome.next (State.when_neg (Bool.and_false _))
  case i2cOther =>
    intro s dev a v at? late cut other
    have none_ := State.i2c_none other
    refine ⟨congrArg Host.Outcome.next (State.i2cSlaveWrite_none none_), congrArg Host.Outcome.next (State.i2cSlaveRead_none none_),
      congrArg Host.Outcome.next (State.when_neg ?_)⟩
    rcases none_ with off | notMine
    · rw [(Bool.not_eq_true' _).mp off, Bool.false_and, Bool.false_and]
    · rw [(Bool.not_eq_true' _).mp notMine, Bool.and_false, Bool.false_and]
  case pcieWrite =>
    intro s a v root awake up u
    exact congrArg Host.Outcome.next (State.pcieAccess_one true true [v] root awake up)
  case pciePartial =>
    intro s a v root awake up u
    exact congrArg Host.Outcome.next (State.pcieAccess_one true false [v] root awake up)
  case pcieRead =>
    intro s a root awake up u
    exact congrArg Host.Outcome.next (State.pcieAccess_one false true [] root awake up)
  case pcieDown => exact fun s a write ws es down => congrArg Host.Outcome.next (State.pcieAccess_down write ws es down)
  case jtagEarly => exact fun s dr awake early => congrArg Host.Outcome.next (State.jtagUpdate_early awake early)
  case jtagWrite =>
    intro s dr awake root first write
    exact congrArg Host.Outcome.next (State.jtagUpdate_write awake root first write)
  case jtagRead =>
    intro s dr w awake root first read u data
    exact congrArg Host.Outcome.next ((State.jtagUpdate_read awake root first read).trans (State.jtagTaken_data data))
  case jtagCapture => exact fun s awake => congrArg Host.Outcome.next (State.jtagCapture_awake awake)
  case jtagAsleep =>
    intro s dr asleep
    exact ⟨congrArg Host.Outcome.next (if_pos asleep), congrArg Host.Outcome.next (if_pos asleep)⟩

end Sys2Proof.Machine

/-! Settles O59, the packet rings of P48 and the MSI-X messages (chapter 22). -/

namespace Sys2Proof.Machine

variable {s : State} {m : Master} {r n : Nat} {v : Word} {desc : List Word} {bytes : List Octet} {masked : Bool} {masks : Nat}

/-! ### The packet rings -/

theorem State.packetRx_full (full : s.pktRoom = false) : s.packetRx = s := if_pos (by rw [full]; rfl)

theorem State.packetRx_onLine (room : s.pktRoom = true) (line : (s.sout 48).tx.isNone = false) : s.packetRx = s.txEnd 48 := by
  unfold State.packetRx
  simp only [room, Bool.not_true, Bool.false_eq_true, if_false, line]

theorem State.packetRx_slot (room : s.pktRoom = true) (idle : (s.sout 48).tx.isNone = true) : s.packetRx = (s.slotStart 48).txEnd 48 := by
  unfold State.packetRx
  simp only [room, Bool.not_true, Bool.false_eq_true, if_false, idle, if_true]

/-- The end of a transmit descriptor: its flags are written back, HEAD goes on (R468). -/
def State.descDone (h n flags : Nat) (s : State) : State :=
  ((s.emit .hostWrite 2 [h, 1] [BitVec.ofNat 8 flags]).set (HIF_RING_HEAD_HEAD 1) ((h + 1) % n)).raise HIF_PKT_EVT_TX_DONE

section
variable (used : s.get (HIF_RING_LEN_LEN 1) ≠ 0) (some_ : s.get (HIF_RING_HEAD_HEAD 1) ≠ s.get (HIF_RING_TAIL_TAIL 1))
  (runs : s.framesStopped = false)
include used some_ runs

/-- A descriptor in range sends its frame, to the pipeline or to the output it names (R338, R468). -/
theorem State.packetTx_sends (long : 60 ≤ getBits (desc.getD 2 0) 0 16) (short : getBits (desc.getD 2 0) 0 16 ≤ 9596)
    (out : getBits (desc.getD 2 0) 16 8 < 48 ∨ getBits (desc.getD 2 0) 16 8 = 255) :
    s.packetTx desc bytes = (s.internalFrame 48
      (bytes.take (getBits (desc.getD 2 0) 0 16) ++ octetsLE 4 (crc32 (bytes.take (getBits (desc.getD 2 0) 0 16))))
      (if getBits (desc.getD 2 0) 16 8 = 255 then none else some (getBits (desc.getD 2 0) 16 8, getBits (desc.getD 2 0) 26 3))).descDone
        (s.get (HIF_RING_HEAD_HEAD 1)) (s.get (HIF_RING_LEN_LEN 1)) (getBits (desc.getD 2 0) 24 8 ||| 1) := by
  have good : decide (getBits (desc.getD 2 0) 0 16 < 60 ∨ 9596 < getBits (desc.getD 2 0) 0 16 ∨
      (48 ≤ getBits (desc.getD 2 0) 16 8 ∧ getBits (desc.getD 2 0) 16 8 ≠ 255)) = false := decide_eq_false (by omega)
  unfold State.packetTx
  simp only [used, some_, runs, Bool.false_eq_true, or_self, if_false, good]
  rfl

/-- A descriptor of a frame that is too short sends nothing (R468). -/
theorem State.packetTx_short (short : getBits (desc.getD 2 0) 0 16 < 60) :
    s.packetTx desc bytes = s.descDone (s.get (HIF_RING_HEAD_HEAD 1)) (s.get (HIF_RING_LEN_LEN 1)) (getBits (desc.getD 2 0) 24 8 ||| 3) := by
  have bad : decide (getBits (desc.getD 2 0) 0 16 < 60 ∨ 9596 < getBits (desc.getD 2 0) 0 16 ∨
      (48 ≤ getBits (desc.getD 2 0) 16 8 ∧ getBits (desc.getD 2 0) 16 8 ≠ 255)) = true := decide_eq_true (Or.inl short)
  unfold State.packetTx
  simp only [used, some_, runs, Bool.false_eq_true, or_self, if_false, bad]
  rfl

end

theorem State.packetTx_empty (empty : s.get (HIF_RING_HEAD_HEAD 1) = s.get (HIF_RING_TAIL_TAIL 1)) : s.packetTx desc bytes = s :=
  if_pos (Or.inr (Or.inl empty))

theorem State.ringError_unused (unused : s.get (HIF_RING_LEN_LEN r) = 0) : s.ringError r = s := if_pos (Or.inr unused)

/-! ### MSI-X -/

/-- A cause that is held in the pending-bit array (R472). -/
def State.msixHold (n : Nat) (s : State) : State := { s with hif := { s.hif with msixHeld := putBit s.hif.msixHeld n true } }

theorem State.msixSend_idle (idle : s.causePending n = false) : s.msixSend n masked = s := if_pos (Or.inr (by rw [idle]; rfl))

section
variable (root : s.boot.root = true) (pending : s.causePending n = true)
include root pending

theorem State.msixSend_held (held : s.asleep = true ∨ (!s.hif.pcieUp) = true ∨ (masked && s.msixMay n) = true) :
    s.msixSend n masked = s.msixHold n := by
  unfold State.msixSend
  rw [if_neg (by rw [root, pending]; decide), if_pos held]
  rfl

theorem State.msixSend_sent (awake : s.asleep = false) (up : s.hif.pcieUp = true) (may : s.msixMay n = true) :
    s.msixSend n false = State.emit { s with hif := { s.hif with msixHeld := putBit s.hif.msixHeld n false } } .msix n [] [] := by
  unfold State.msixSend
  simp only [root, pending, awake, up, may, Bool.not_true, Bool.false_eq_true, or_self, if_false, Bool.false_and, if_true]

end

/-- The causes that wait for the link and may go (R472). -/
def State.msixDue (s : State) : List Nat := (bitsOf s.hif.msixHeld 10).filter fun n => s.causePending n && s.msixMay n

/-- The state with the link up, and these causes held (R472). -/
def State.linkedWith (held : Nat) (s : State) : State := { s with hif := { s.hif with pcieUp := true, msixHeld := held } }

theorem State.linkUp_on (on : s.hostOn = true) :
    s.linkUp masks = (s.linkedWith ((s.msixDue.filter masks.testBit).foldl (fun w n => putBit w n true) 0)).each
      (s.msixDue.filter fun n => !masks.testBit n) fun n t => t.emit .msix n [] [] := if_neg (by rw [on]; decide)

theorem State.msixDue_none (none_ : s.hif.msixHeld = 0) : s.msixDue = [] := by
  rw [State.msixDue, none_]
  rfl

theorem State.msixDue_one (held : s.hif.msixHeld = 2) (pending : s.causePending 1 = true) (may : s.msixMay 1 = true) : s.msixDue = [1] := by
  rw [State.msixDue, held, show bitsOf 2 10 = [1] by decide]
  simp [pending, may]

/-- Settles O59: the packet rings of P48 and the MSI-X messages (R338, R467 to R469, R472). -/
theorem ringCommandsComplete : Obligations.RingCommandsComplete := by
  unfold Obligations.RingCommandsComplete
  refine ⟨?onLine, ?slot, ?full, ?tx, ?txEmpty, ?error, ?errorUnused, ?length, ?send, ?masked, ?down, ?idle, ?link, ?linkHeld⟩
  case onLine => exact fun s room line => congrArg Host.Outcome.next (State.packetRx_onLine room line)
  case slot => exact fun s room idle => congrArg Host.Outcome.next (State.packetRx_slot room idle)
  case full => exact fun s full => congrArg Host.Outcome.next (State.packetRx_full full)
  case tx =>
    intro s desc bytes h n w len used some_ runs
    refine ⟨fun long short toAll => ?_, fun long short named => ?_, fun short => ?_⟩
    · have sends := State.packetTx_sends (bytes := bytes) used some_ runs long short (Or.inr toAll)
      rw [if_pos toAll] at sends
      exact congrArg Host.Outcome.next sends
    · have sends := State.packetTx_sends (bytes := bytes) used some_ runs long short (Or.inl named)
      rw [if_neg (Nat.ne_of_lt (Nat.lt_trans named (by decide)))] at sends
      exact congrArg Host.Outcome.next sends
    · exact congrArg Host.Outcome.next (State.packetTx_short used some_ runs short)
  case txEmpty => exact fun s desc bytes empty => congrArg Host.Outcome.next (State.packetTx_empty empty)
  case error =>
    intro s r inRange root awake used
    exact (exec_ringDmaError inRange).trans
      (congrArg Host.Outcome.next (State.ringError_inUse (State.hostOn_of_root_awake root awake) used))
  case errorUnused => exact fun s r unused => congrArg Host.Outcome.next (State.when_same (State.ringError_unused unused))
  case length => exact fun s m r v row inRange at_ => congrArg Host.Outcome.next (State.when_access inRange at_)
  case send =>
    intro s n inRange root pending awake up may
    exact congrArg Host.Outcome.next ((State.when_decide inRange).trans (State.msixSend_sent root pending awake up may))
  case masked =>
    intro s n inRange root pending may
    exact congrArg Host.Outcome.next
      ((State.when_decide inRange).trans (State.msixSend_held root pending (Or.inr (Or.inr (by rw [may]; rfl)))))
  case down =>
    intro s n masked inRange root pending down
    exact congrArg Host.Outcome.next
      ((State.when_decide inRange).trans (State.msixSend_held root pending (Or.inr (Or.inl (by rw [down]; rfl)))))
  case idle => exact fun s n masked idle => congrArg Host.Outcome.next (State.when_same (State.msixSend_idle idle))
  case link =>
    intro s masks root awake none_
    refine congrArg Host.Outcome.next ((State.linkUp_on (State.hostOn_of_root_awake root awake)).trans ?_)
    rw [State.msixDue_none none_]
    rfl
  case linkHeld =>
    intro s root awake held pending may
    have due := State.msixDue_one held pending may
    constructor
    · refine congrArg Host.Outcome.next ((State.linkUp_on (State.hostOn_of_root_awake root awake)).trans ?_)
      rw [due]
      rfl
    · refine congrArg Host.Outcome.next ((State.linkUp_on (State.hostOn_of_root_awake root awake)).trans ?_)
      rw [due]
      rfl

end Sys2Proof.Machine

/-! Settles O60, the reset of a reaction, FAULT_N, the first fault, squelch, the event log, the sensors and the rails (chapter 23). -/

namespace Sys2Proof.Machine

variable {s : State} {c rail : Nat} {high : Bool} {x : Int} {xs : List Int}

theorem State.collectorOn_of (root : s.boot.root = true) (awake : s.asleep = false) : s.collectorOn = true := by
  rw [State.collectorOn, root, awake]; rfl

/-! ### Resets and FAULT_N -/

theorem State.reactionReset_none (none_ : s.flt.resetCause = none) : s.reactionReset = s := by
  unfold State.reactionReset
  rw [none_]

theorem State.reactionReset_free (cause : s.flt.resetCause = some c) (free : s.flt.resetHeld = false) :
    s.reactionReset = State.faultNEval { s.internalReset c with flt := { (s.internalReset c).flt with pulse := true } } := by
  unfold State.reactionReset
  simp only [cause, free, Bool.false_eq_true, false_and, if_false]

theorem State.reactionReset_held (cause : s.flt.resetCause = some c) (held : s.flt.resetHeld = true) (out : s.flt.rails ≠ 0) :
    s.reactionReset = s := by
  unfold State.reactionReset
  simp only [cause, if_pos (And.intro held out)]

/-- With its pulse over, FAULT_N follows what else holds it (R477). -/
theorem State.pulseEnd_eq : s.pulseEnd =
    { s.setB FLT_STATUS_FAULT_N_LOW (s.on FLT_CTRL_HOLD || s.flt.resetCause.isSome || s.get GLB_BOOT_STATUS_STATE == 6) with
      flt := { s.flt with pulse := false } } := by
  unfold State.pulseEnd State.faultNEval
  simp only [Bool.false_or]
  rfl

/-! ### The event log -/

theorem State.logCommit_open {bs : List Octet} (root : s.boot.root = true) (awake : s.asleep = false) (core : s.coreBRuns = true)
    (page : s.nvBuffered (16 + s.flt.page) = some bs) : s.logCommit = (s.commitStart false [(5, 0)]).1 :=
  if_neg (by simp [State.collectorOn_of root awake, core, page])

theorem State.logCommit_none (none_ : s.nvBuffered (16 + s.flt.page) = none) : s.logCommit = s :=
  if_pos (Or.inr (Or.inr (by rw [none_]; rfl)))

/-! ### The sensors -/

theorem State.temperature_other (other : xs.length ≠ 8) : s.temperature xs = s := if_pos (Or.inr other)

/-- The median of eight equal readings is their reading. -/
theorem twiceMedian_equal (x : Int) : twiceMedian [x, x, x, x, x, x, x, x] = 2 * x := by
  simp [twiceMedian, sortInts, insertInt]
  omega

/-- A sensor at the median is not judged odd (R484). -/
theorem State.sensorJudge_median (k : Nat) (inForce : s.flt.out = 0) (even : s.flt.odd = []) : s.sensorJudge (2 * x) k x = s := by
  have live : s.flt.out.testBit k = false := by rw [inForce]; exact Nat.zero_testBit k
  have same : smPut s.flt.odd k 0 = s.flt.odd := by rw [even]; rfl
  unfold State.sensorJudge
  simp only [live, Bool.false_eq_true, if_false, sub_self, Int.natAbs_zero, Nat.not_lt_zero, same, Nat.zero_lt_succ, if_true]

/-- Within a limit nothing is logged, and the limit that was not passed stays armed (R484). -/
theorem State.tempLimit_within (k : Nat) (inside : Bool) (armed : s.flt.warned = 0) : s.tempLimit k false inside = s := by
  have same : putBit s.flt.warned k false = s.flt.warned := by rw [armed]; simp [putBit]
  unfold State.tempLimit
  simp only [Bool.false_and, Bool.false_eq_true, if_false, same]
  exact ite_self s

/-- The state of a reading of Tj: shown with its highest, and held against the limits (R484). -/
def State.tjTaken (tj : Int) (s : State) : State :=
  let top := if s.flt.tjSeen then max tj (s.getI FLT_TEMP_TJ_MAX) else tj
  let s := { s with flt := { s.flt with tjSeen := true }, pwr := { s.pwr with die := tj } }
  let s := (s.setI FLT_TEMP_TJ tj).setI FLT_TEMP_TJ_MAX top
  let hi : Int := s.getI FLT_TEMP_LIM_WARN_HI * (256 : Int)
  let lo : Int := s.getI FLT_TEMP_LIM_WARN_LO * (256 : Int)
  (s.tempLimit 0 (decide (hi < tj)) (decide (tj ≤ hi - 512))).tempLimit 1 (decide (tj < lo)) (decide (lo + 512 ≤ tj))

/-- Eight sensors at one reading give it as Tj (R484). -/
theorem State.temperature_equal (on : s.collectorOn = true) (inForce : s.flt.out = 0) (even : s.flt.odd = []) :
    s.temperature [x, x, x, x, x, x, x, x] = s.tjTaken x := by
  have pairs : (List.range 8).zip [x, x, x, x, x, x, x, x] = [(0, x), (1, x), (2, x), (3, x), (4, x), (5, x), (6, x), (7, x)] := rfl
  have kept (ps : List (Nat × Int)) : (ps.filter fun p => !s.flt.out.testBit p.1) = ps := by simp [inForce]
  have top : [x, x, x, x, x, x, x].foldl max x = x := by simp
  unfold State.temperature
  rw [if_neg (by simp [on])]
  simp only [twiceMedian_equal, pairs, List.foldl_cons, List.foldl_nil, State.sensorJudge_median _ inForce even, kept]
  exact congrArg (State.tjTaken · s) top

/-- Tj and its highest as a reading shows them (R484). -/
def State.tempShown (x : Int) (s : State) : State := (s.setI FLT_TEMP_TJ x).setI FLT_TEMP_TJ_MAX (max x (s.getI FLT_TEMP_TJ_MAX))

/-- A reading kept for the governor (R495). -/
def State.dieAt (x : Int) (s : State) : State := { s with pwr := { s.pwr with die := x } }

theorem State.dieAt_setI (f : FieldRef) (v : Int) : (s.dieAt x).setI f v = (s.setI f v).dieAt x := rfl
@[simp] theorem State.dieAt_getI (f : FieldRef) : (s.dieAt x).getI f = s.getI f := rfl
theorem State.dieAt_flt : (s.dieAt x).flt = s.flt := rfl

theorem State.dieAt_tempShown (y : Int) : (s.dieAt x).tempShown y = (s.tempShown y).dieAt x := by
  rw [State.tempShown, State.dieAt_setI, State.dieAt_setI, State.dieAt_getI, State.tempShown]

theorem State.tempShown_flt : (s.tempShown x).flt = s.flt := by simp only [State.tempShown, State.setI, State.set_flt]

/-- A device that has seen a reading holds the next against both limits (R484). -/
theorem State.tjTaken_seen (seen : s.flt.tjSeen = true) :
    s.tjTaken x = (((s.dieAt x).tempShown x).tempLimit 0 (decide (((s.dieAt x).tempShown x).getI FLT_TEMP_LIM_WARN_HI * 256 < x))
      (decide (x ≤ ((s.dieAt x).tempShown x).getI FLT_TEMP_LIM_WARN_HI * 256 - 512))).tempLimit 1
        (decide (x < ((s.dieAt x).tempShown x).getI FLT_TEMP_LIM_WARN_LO * 256))
        (decide (((s.dieAt x).tempShown x).getI FLT_TEMP_LIM_WARN_LO * 256 + 512 ≤ x)) := by
  have same : { s.flt with tjSeen := true } = s.flt := by rw [← seen]
  unfold State.tjTaken
  simp only [seen, if_true, same]
  rfl

/-- A reading within the limits is shown, and nothing is logged (R484). -/
theorem State.tjTaken_within (seen : s.flt.tjSeen = true) (armed : s.flt.warned = 0)
    (below : x ≤ (s.tempShown x).getI FLT_TEMP_LIM_WARN_HI * 256) (above : (s.tempShown x).getI FLT_TEMP_LIM_WARN_LO * 256 ≤ x) :
    s.tjTaken x = (s.tempShown x).dieAt x := by
  have armed_ : ((s.tempShown x).dieAt x).flt.warned = 0 := by rw [State.dieAt_flt, State.tempShown_flt, armed]
  rw [State.tjTaken_seen seen, State.dieAt_tempShown, State.dieAt_getI, State.dieAt_getI, decide_eq_false (Int.not_lt.mpr below),
    decide_eq_false (Int.not_lt.mpr above), State.tempLimit_within 0 _ armed_, State.tempLimit_within 1 _ armed_]

/-! ### The rails -/

theorem State.railOut_known (known : s.flt.rails.testBit (railBit rail high) = true) : s.railOut rail high = s := if_pos (Or.inr known)

theorem State.railBack_on (root : s.boot.root = true) (awake : s.asleep = false) :
    s.railBack rail high = State.showRails { s with flt := { s.flt with rails := putBit s.flt.rails (railBit rail high) false } } :=
  if_neg (by rw [State.collectorOn_of root awake]; decide)

/-- Settles O60: the reset of a reaction, FAULT_N, the first fault, squelch, the event log, the sensors and the rails (R475 to R477,
R480, R482, R484, R485). -/
theorem faultCommandsComplete : Obligations.FaultCommandsComplete := by
  unfold Obligations.FaultCommandsComplete
  refine ⟨?reset, ?resetHeld, ?resetNone, ?pulse, ?control, ?log, ?logNone, ?readings, ?equal, ?excursion, ?known, ?back⟩
  case reset =>
    intro s c cause free u
    exact congrArg Host.Outcome.next (State.reactionReset_free cause free)
  case resetHeld => exact fun s c cause held out => congrArg Host.Outcome.next (State.reactionReset_held cause held out)
  case resetNone => exact fun s none_ => congrArg Host.Outcome.next (State.reactionReset_none none_)
  case pulse => exact fun s => congrArg Host.Outcome.next State.pulseEnd_eq
  case control =>
    intro s m v r at_
    exact ⟨congrArg Host.Outcome.next (State.access_row at_), congrArg Host.Outcome.next (State.access_row at_)⟩
  case log =>
    intro s bs root awake core page
    exact congrArg Host.Outcome.next (State.logCommit_open root awake core page)
  case logNone => exact fun s none_ => congrArg Host.Outcome.next (State.logCommit_none none_)
  case readings => exact fun s xs other => congrArg Host.Outcome.next (State.temperature_other other)
  case equal =>
    intro s x root awake inForce even seen armed u below above
    exact congrArg Host.Outcome.next ((State.temperature_equal (State.collectorOn_of root awake) inForce even).trans
      (State.tjTaken_within seen armed below above))
  case excursion =>
    intro s rail high inRange root awake fresh rails
    exact exec_railExcursion_fresh inRange root awake fresh
  case known => exact fun s rail high known => congrArg Host.Outcome.next (State.when_same (State.railOut_known known))
  case back =>
    intro s rail high inRange root awake rails
    exact congrArg Host.Outcome.next ((State.when_decide inRange).trans (State.railBack_on root awake))

end Sys2Proof.Machine

/-! Settles O49, the configuration of a port, the gain and loss of its line and auto-negotiation (chapter 14). What hangs on the line of a
port (references, selectors, loops, outputs, the node, coupling and sessions) writes no status word of a port: each operation on that way
keeps what such a word reads. -/

namespace Sys2Proof.Machine

/-- The status word of port `p` reads `w`, in a register file of canonical form. -/
structure StatusReads (p : Nat) (w : Word) (s : State) : Prop where
  wf : s.regsWf = true
  rd : s.rd (PRT_STATUS p) = w

namespace StatusReads

variable {p a lo hi n l k q : Nat} {w : Word} {s t : State} {f : FieldRef} {g : State → State}

/-! ### Writes, conditions and rounds -/

/-- A register of a block that lies below the ports. -/
theorem apart (below : Nat.ble a 0xFFFFF = true) : a ≠ PRT_STATUS p := by
  have := Nat.le_of_ble_eq_true below
  unfold PRT_STATUS
  omega

/-- One of several such blocks. -/
theorem apart_at {stride count : Nat} (inRange : n < count) (below : Nat.ble (k + stride * count) 0xFFFFF = true) :
    k + stride * n ≠ PRT_STATUS p := by
  have last := Nat.le_of_ble_eq_true below
  have atMost : stride * n ≤ stride * count := Nat.mul_le_mul_left _ inRange.le
  exact apart (Nat.ble_eq_true_of_le (by omega))

theorem wr {v : Word} (other : a ≠ PRT_STATUS p) (h : StatusReads p w s) : StatusReads p w (s.wr a v) :=
  ⟨State.wr_regsWf h.wf a v, (State.rd_wr_ne h.wf v other.symm).trans h.rd⟩

theorem set {v : Nat} (other : f.addr ≠ PRT_STATUS p) (h : StatusReads p w s) : StatusReads p w (s.set f v) := h.wr other

theorem setWide {v : Int} (low : lo ≠ PRT_STATUS p) (high : hi ≠ PRT_STATUS p) (h : StatusReads p w s) :
    StatusReads p w (s.setWide lo hi n v) := (h.wr low).wr high

theorem when {b : Bool} (hg : ∀ t, StatusReads p w t → StatusReads p w (g t)) (h : StatusReads p w s) : StatusReads p w (s.when b g) := by
  cases b
  · exact h
  · exact hg s h

theorem ite {c : Prop} [Decidable c] (ht : StatusReads p w s) (he : StatusReads p w t) : StatusReads p w (if c then s else t) := by
  split
  · exact ht
  · exact he

theorem each {g : Nat → State → State} : ∀ {ks : List Nat} {s : State},
    (∀ k ∈ ks, ∀ t, StatusReads p w t → StatusReads p w (g k t)) → StatusReads p w s → StatusReads p w (s.each ks g)
  | [], _, _, h => h
  | _ :: ks, _, hg, h => each (ks := ks) (fun k listed => hg k (List.mem_cons_of_mem _ listed)) (hg _ List.mem_cons_self _ h)

/-- The four loops, one after another. -/
theorem eachLoop {g : Nat → State → State} (hg : ∀ l < 4, ∀ t, StatusReads p w t → StatusReads p w (g l t)) (h : StatusReads p w s) :
    StatusReads p w (s.each [0, 1, 2, 3] g) :=
  .each (fun l listed => hg l (by simp at listed; omega)) h

theorem setLoop {x : LoopSt} (h : StatusReads p w s) : StatusReads p w (s.setLoop l x) := ⟨h.wf, h.rd⟩

theorem setSel {x : SelSt} (h : StatusReads p w s) : StatusReads p w (s.setSel l x) := ⟨h.wf, h.rd⟩

theorem setRef {x : RefSt} (h : StatusReads p w s) : StatusReads p w (s.setRef n x) := ⟨h.wf, h.rd⟩

theorem setHoldLoop {x : HoldLoop} (h : StatusReads p w s) : StatusReads p w (s.setHoldLoop l x) := ⟨h.wf, h.rd⟩

theorem setOutp {x : OutSt} (h : StatusReads p w s) : StatusReads p w (s.setOutp n x) := ⟨h.wf, h.rd⟩

theorem setSess {x : SessSt} (h : StatusReads p w s) : StatusReads p w (s.setSess k x) := ⟨h.wf, h.rd⟩

theorem setCplPort {x : CplPort} (h : StatusReads p w s) : StatusReads p w (s.setCplPort q x) := ⟨h.wf, h.rd⟩

theorem withCpl {x : CplSt} (h : StatusReads p w s) : StatusReads p w { s with cpl := x } := ⟨h.wf, h.rd⟩

theorem withTod {x : TodSt} (h : StatusReads p w s) : StatusReads p w { s with tod := x } := ⟨h.wf, h.rd⟩

theorem queueEvent {bit : Nat} {words : List Word} (h : StatusReads p w s) : StatusReads p w (s.queueEvent bit words) :=
  .each (fun _ _ _ ht => ht.when fun _ hu => ⟨hu.wf, hu.rd⟩) h

/-! ### Outputs, axles and served time -/

theorem setOutState (inRange : n < 24) (h : StatusReads p w s) : StatusReads p w (s.setOutState n k) :=
  .set (apart_at inRange rfl) (.when (fun _ ht => .set (apart_at inRange rfl) ht) h)

theorem outStop (inRange : n < 24) (h : StatusReads p w s) : StatusReads p w (s.outStop n k) := .setOutp (.setOutState inRange h)

theorem outEval (inRange : n < 24) (h : StatusReads p w s) : StatusReads p w (s.outEval n) :=
  have shown {t : State} {f : FieldRef} {v : Nat} (ht : StatusReads p w t) (of : f.addr = OUT_STATUS n) : StatusReads p w (t.set f v) :=
    .set (of ▸ apart_at inRange rfl) ht
  have h := shown (shown (shown (shown h rfl) rfl) rfl) rfl
  .ite (.outStop inRange h) (.ite (.ite h (.ite (.setOutp h) (.outStop inRange h))) (.setOutp (.setOutState inRange h)))

theorem outEvalAll (h : StatusReads p w s) : StatusReads p w s.outEvalAll :=
  .each (fun _ listed _ ht => .outEval (List.mem_range.1 listed) ht) h

theorem axleWord {y : Int} (inRange : n < 4) (h : StatusReads p w s) : StatusReads p w (s.axleWord n y) :=
  .setWide (apart_at inRange rfl) (apart_at inRange rfl) ⟨h.wf, h.rd⟩

theorem setInc (inRange : n < 2) (h : StatusReads p w s) : StatusReads p w (s.setInc n k) :=
  .setWide (apart_at inRange rfl) (apart_at inRange rfl) (by unfold State.setDom; exact .ite ⟨h.wf, h.rd⟩ ⟨h.wf, h.rd⟩)

theorem setAcc {x : Int} (h : StatusReads p w s) : StatusReads p w (s.setAcc x) := .set (apart rfl) ⟨h.wf, h.rd⟩

theorem setSrc (h : StatusReads p w s) : StatusReads p w (s.setSrc n) :=
  .ite h (.queueEvent (.set (apart rfl) (.ite (.setAcc (.set (apart rfl) h)) (.setAcc (.set (apart rfl) h)))))

theorem servedEval (h : StatusReads p w s) : StatusReads p w s.servedEval :=
  have valid := h.when fun _ ht => .set (apart rfl) (.set (apart rfl) ht)
  .ite valid (.ite (.when (fun _ => .setSrc) valid) (.when (fun _ => .setSrc) valid))

/-! ### The node and the coupling ports -/

theorem setNode {trace : Bool} {m a c : Nat} (h : StatusReads p w s) : StatusReads p w (s.setNode n trace m a c) :=
  .withCpl (.set (apart rfl) (.set (apart rfl) (.set (apart rfl) (.set (apart rfl) h))))

theorem nodeHold (h : StatusReads p w s) : StatusReads p w s.nodeHold := .ite h.withCpl (.ite h h.withCpl)

theorem nodeEval (h : StatusReads p w s) : StatusReads p w s.nodeEval := by
  have h := h.nodeHold
  refine .ite h.setNode (.ite h.setNode ?_)
  split
  · exact .ite h.setNode h.setNode
  · exact h.setNode

theorem countPort (small : k < 26) (h : StatusReads p w s) : StatusReads p w (s.countPort q k n) :=
  .setWide (by unfold PRT_CNT_LO PRT_STATUS; omega) (by unfold PRT_CNT_HI PRT_STATUS; omega) h

theorem countTx (h : StatusReads p w s) : StatusReads p w (s.countTx q n k) :=
  have h := (h.countPort (k := 13) (n := 1) (q := q) (by decide)).countPort (k := 14) (n := n) (q := q) (by decide)
  .ite (h.countPort (by decide)) (.ite (h.countPort (by decide)) h)

theorem helloSend (h : StatusReads p w s) : StatusReads p w (s.helloSend q) :=
  .ite (.countTx ⟨h.nodeEval.wf, h.nodeEval.rd⟩) h.nodeEval

theorem setCplState (inRange : q < 48) (h : StatusReads p w s) : StatusReads p w (s.setCplState q n) :=
  .ite h (.nodeEval (.when
    (fun _ ht => .when (fun _ => .helloSend) (.set (apart_at inRange rfl) ht))
    (.when (fun _ => .set (apart_at inRange rfl))
      (.setCplPort (.queueEvent (.set (apart_at inRange rfl) (.set (apart_at inRange rfl) h)))))))

theorem cplEval (inRange : q < 48) (h : StatusReads p w s) : StatusReads p w (s.cplEval q) :=
  have h : StatusReads p w (s.setB (CPL_PORT_STATUS_READY q)
    (s.lockSeen q && !s.on (TSE_PORT_STATUS_RX_NOPHASE q) && s.on (TSE_PORT_STATUS_CAL_OK q))) := .set (apart_at inRange rfl) h
  .ite (.ite (h.setCplState inRange) h) (.ite h (.set (apart_at inRange rfl) (.setCplState inRange (.setCplPort h))))

theorem cplTurn (inRange : q < 48) (h : StatusReads p w s) : StatusReads p w (s.cplTurn q) := .cplEval inRange (.setCplPort h)

/-! ### Loops -/

theorem setMode (h : StatusReads p w s) : StatusReads p w (s.setMode n) :=
  .ite h (.outEvalAll (.queueEvent (.set (apart rfl) (.set (apart rfl) (.set (apart rfl) h)))))

theorem modeFollow (h : StatusReads p w s) : StatusReads p w s.modeFollow := .when (fun _ => .setMode) h

theorem steer (inRange : l < 4) (h : StatusReads p w s) : StatusReads p w (s.steer l) := by
  have shown : StatusReads p w (s.setWide (DPL_FREQ_LO l) (DPL_FREQ_HI l) 16 (roundAway ((s.loop l).y * (2 ^ 48 : Nat)))) :=
    .setWide (apart_at inRange rfl) (apart_at inRange rfl) h
  refine .each (fun n listed _ => .when fun _ => .axleWord (by simp at listed; omega)) ?_
  split
  case isTrue domain => exact .setInc domain shown
  case isFalse => exact .setLoop shown

theorem setY {y : Rat} (inRange : l < 4) (h : StatusReads p w s) : StatusReads p w (s.setY l y) :=
  .steer inRange (.setLoop (.set (apart_at inRange rfl) (.when (fun _ => .set (apart_at inRange rfl)) h)))

theorem rampEnd {x : Int} (inRange : l < 4) (h : StatusReads p w s) : StatusReads p w (s.rampEnd l x) :=
  .set (apart_at inRange rfl) (.setWide (apart_at inRange rfl) (apart_at inRange rfl) (.setLoop h))

theorem learnBreak (h : StatusReads p w s) : StatusReads p w (s.learnBreak l) := .ite ⟨h.wf, h.rd⟩ h

theorem reportBound (inRange : l < 4) (h : StatusReads p w s) : StatusReads p w (s.reportBound l) :=
  .set (apart_at inRange rfl) (.set (apart_at inRange rfl) (.set (apart_at inRange rfl) (.set (apart_at inRange rfl) h)))

theorem fixHold {lost : Rat} (inRange : l < 4) (h : StatusReads p w s) : StatusReads p w (s.fixHold l lost) :=
  .set (apart_at inRange rfl) (.setWide (apart_at inRange rfl) (apart_at inRange rfl) (.setHoldLoop h))

theorem gainEval (inRange : l < 4) (h : StatusReads p w s) : StatusReads p w (s.gainEval l) := .set (apart_at inRange rfl) h

theorem setLoopState (inRange : l < 4) (h : StatusReads p w s) : StatusReads p w (s.setLoopState l n) := by
  refine .ite h (.servedEval (.when (fun _ => .nodeEval) (.ite ?kept (.steer inRange ?kept))))
  refine .when (fun _ => .modeFollow) (.queueEvent (.when (fun _ => .setSel) (.when ?enters (.when ?leavesHold (.when ?leavesFree ?left)))))
  case enters => exact fun _ ht => .reportBound inRange (.set (apart rfl) (.set (apart rfl) ht))
  case leavesHold =>
    exact fun _ ht => .set (apart rfl) (.set (apart_at inRange rfl)
      (.setWide (apart_at inRange rfl) (apart_at inRange rfl) (.setHoldLoop ht)))
  case leavesFree => exact fun _ ht => .when (fun _ hu => .set (apart_at inRange rfl) (.rampEnd inRange hu)) (.setLoop ht)
  case left =>
    refine .setLoop (.ite ?taken (.set (apart_at inRange rfl) ?taken))
    exact .gainEval inRange (.learnBreak (.set (apart_at inRange rfl) (.set (apart_at inRange rfl) (.set (apart_at inRange rfl)
      (.when (fun _ => .nodeEval) h)))))

theorem loseSource (inRange : l < 4) (h : StatusReads p w s) : StatusReads p w (s.loseSource l) :=
  have told := h.set (f := DPL_EVT_LOSS l) (v := 1) (apart_at inRange rfl)
  .ite (.ite (.setLoopState inRange (.fixHold inRange told)) (.setLoopState inRange told)) h

theorem flywheel (inRange : l < 4) (h : StatusReads p w s) : StatusReads p w (s.flywheel l) :=
  .ite (.learnBreak (.setY inRange (.set (apart_at inRange rfl) (.set (apart_at inRange rfl) (.set (apart_at inRange rfl) h))))) h

theorem acquire {fresh : Bool} (inRange : l < 4) (h : StatusReads p w s) : StatusReads p w (s.acquire l fresh) :=
  .setLoop (.setLoopState inRange h)

theorem preset (inRange : l < 4) (h : StatusReads p w s) : StatusReads p w (s.preset l n) := .ite (.setY inRange (.setLoop h)) h

/-! ### Selectors -/

theorem setBuild {b : Int} (inRange : l < 4) (h : StatusReads p w s) : StatusReads p w (s.setBuild l b) :=
  .when (fun _ => .learnBreak) (.set (apart_at inRange rfl) (.setWide (apart_at inRange rfl) (apart_at inRange rfl) (.setSel h)))

theorem showActive (inRange : l < 4) (h : StatusReads p w s) : StatusReads p w (s.showActive l n) := by
  have shown {t : State} {f : FieldRef} {v : Nat} (of : f.addr = SEL_STATUS l) (ht : StatusReads p w t) : StatusReads p w (t.set f v) :=
    .set (of ▸ apart_at inRange rfl) ht
  unfold State.showActive
  split
  · exact shown rfl (shown rfl (shown rfl (shown rfl (shown rfl h))))
  · exact shown rfl (shown rfl (shown rfl (shown rfl (shown rfl h))))

theorem reportChange {d : Int} (inRange : l < 4) (h : StatusReads p w s) : StatusReads p w (s.reportChange l d) :=
  .queueEvent (.set (apart_at inRange rfl) (.set (apart_at inRange rfl) (.setWide (apart_at inRange rfl) (apart_at inRange rfl) h)))

theorem firstSelect (inRange : l < 4) (h : StatusReads p w s) : StatusReads p w (s.firstSelect l n k) := by
  refine .ite (.acquire inRange (.preset inRange ?selected)) ?selected
  exact .reportChange inRange (.showActive inRange (.setBuild inRange (.set (apart_at inRange rfl) (.setSel h))))

theorem holdInput (inRange : l < 4) (h : StatusReads p w s) : StatusReads p w (s.holdInput l) :=
  .when (fun _ => .flywheel inRange) (.setSel h)

theorem startChange (inRange : l < 4) (h : StatusReads p w s) : StatusReads p w (s.startChange l n) :=
  .when (fun _ => .holdInput inRange) (.set (apart_at inRange rfl) (.setSel (.learnBreak h)))

theorem abandonChange (inRange : l < 4) (h : StatusReads p w s) : StatusReads p w (s.abandonChange l) := by
  unfold State.abandonChange
  refine .when (fun _ ht => ?told) (.set ?free (.setSel h))
  case told => exact .set (apart_at inRange rfl) (.set (apart_at inRange rfl) ht)
  case free => exact apart_at inRange rfl

theorem reportLack (inRange : l < 4) (h : StatusReads p w s) : StatusReads p w (s.reportLack l) := by
  refine .ite h ?_
  split
  · exact .set (apart_at inRange rfl) (.setSel h)
  · exact .set (apart_at inRange rfl) (.setSel h)

theorem loseActive (inRange : l < 4) (h : StatusReads p w s) : StatusReads p w (s.loseActive l) :=
  .when (fun _ => .loseSource inRange) (.when (fun _ => .set (apart_at inRange rfl))
    (.set (apart_at inRange rfl) (.showActive inRange (.setSel h))))

theorem setMap {ns : List Nat} (low : lo ≠ PRT_STATUS p) (high : hi ≠ PRT_STATUS p) (h : StatusReads p w s) :
    StatusReads p w (s.setMap lo hi ns) := .setWide low high h

theorem pruneMarks (inRange : l < 4) (h : StatusReads p w s) : StatusReads p w (s.pruneMarks l) :=
  .setSel (.setMap (apart_at inRange rfl) (apart_at inRange rfl) (.set (apart_at inRange rfl)
    (.setMap (apart_at inRange rfl) (apart_at inRange rfl) h)))

theorem redecide (inRange : l < 4) (h : StatusReads p w s) : StatusReads p w (s.redecide l) :=
  .setSel (.when (fun _ => .set (apart_at inRange rfl)) h)

theorem applyChoice (inRange : l < 4) (h : StatusReads p w s) : StatusReads p w (s.applyChoice l) := by
  unfold State.applyChoice
  split
  · exact .reportLack inRange h
  · exact .loseActive inRange h
  · exact .ite (.startChange inRange h) (.firstSelect inRange h)
  · exact .ite (.showActive inRange h) (.startChange inRange h)

theorem selEval (inRange : l < 4) (h : StatusReads p w s) : StatusReads p w (s.selEval l) := by
  have pruned := (h.pruneMarks inRange).redecide inRange
  refine .ite pruned ?_
  split
  · exact .ite pruned (.applyChoice inRange (.abandonChange inRange pruned))
  · exact .applyChoice inRange pruned

theorem selEvalAll (h : StatusReads p w s) : StatusReads p w s.selEvalAll := .eachLoop (fun _ inRange _ => .selEval inRange) h

theorem edgesStop {silent : Bool} (h : StatusReads p w s) : StatusReads p w (s.edgesStop n silent) :=
  .eachLoop (fun _ inRange _ ht => .ite ht (.when (fun _ => .holdInput inRange) (.setSel ht))) (.when (fun _ => .setRef) h)

/-! ### References -/

theorem clearWindows (inRange : n < 64) (h : StatusReads p w s) : StatusReads p w (s.clearWindows n) :=
  .set (apart_at inRange rfl) (.set (apart_at inRange rfl) (.set (apart_at inRange rfl) (.set (apart_at inRange rfl)
    (.set (apart_at inRange rfl) (.set (apart_at inRange rfl) (.set (apart_at inRange rfl) (.setRef h)))))))

theorem setCond {b : Bool} (inRange : n < 64) (h : StatusReads p w s) : StatusReads p w (s.setCond n k b) :=
  .setRef (.when (fun _ => .set (apart_at inRange rfl)) (.when (fun _ => .set (apart_at inRange rfl)) h))

theorem todUnlock (h : StatusReads p w s) : StatusReads p w s.todUnlock := .withTod (.set (apart rfl) h)

theorem refFell (inRange : n < 64) (h : StatusReads p w s) : StatusReads p w (s.refFell n) :=
  .setRef (.ite (.set (apart_at inRange rfl) h) (.set (apart_at inRange rfl) (.set (apart_at inRange rfl) h)))

theorem setRefState (inRange : n < 64) (h : StatusReads p w s) : StatusReads p w (s.setRefState n k) := by
  refine .ite ?taken (.setWide (apart rfl) (apart rfl) (.when (fun _ => .todUnlock)
    (.queueEvent (.set (apart_at inRange rfl) (.set (apart_at inRange rfl) ?taken)))))
  exact .when (fun _ => .refFell inRange) (.set (apart_at inRange rfl) h)

theorem failRef (inRange : n < 64) (h : StatusReads p w s) : StatusReads p w (s.failRef n) :=
  .setRefState inRange (.set (apart_at inRange rfl) h)

theorem enterWait (inRange : n < 64) (h : StatusReads p w s) : StatusReads p w (s.enterWait n k) :=
  .setRefState inRange (.set (apart_at inRange rfl) (.setRef (.set (apart_at inRange rfl) h)))

theorem voidRef (inRange : n < 64) (h : StatusReads p w s) : StatusReads p w (s.voidRef n) :=
  .edgesStop (.clearWindows inRange (.setRefState inRange (.when (fun _ => .set (apart_at inRange rfl)) h)))

theorem refEval (inRange : n < 64) (h : StatusReads p w s) : StatusReads p w (s.refEval n) :=
  .ite h (.ite (.voidRef inRange h) (.ite h (.ite (.ite (.failRef inRange h) h)
    (.ite (.ite (.failRef inRange h) h) (.ite (.enterWait inRange h) h)))))

theorem refLinesEval (inRange : n < 64) (h : StatusReads p w s) : StatusReads p w (s.refLinesEval n) :=
  .when (fun _ => .selEvalAll) (.refEval inRange (.ite h (.setCond inRange (.setCond inRange h))))

/-! ### Sessions and the line of a port -/

theorem setSessState (inRange : k < 192) (h : StatusReads p w s) : StatusReads p w (s.setSessState k n) := by
  refine .ite ?taken (.queueEvent (.when (fun _ => .set (apart_at inRange rfl)) ?taken))
  exact .when (fun _ => .setSess) (.set (apart_at inRange rfl) h)

theorem sessionsEval (inRange : q < 48) (h : StatusReads p w s) : StatusReads p w (s.sessionsEval q) :=
  .each (fun _ listed _ ht => .ite (.setSess ht) (.setSessState (List.mem_range.1 (List.mem_of_mem_filter listed)) (.setSess ht)))
    (.cplTurn inRange h)

theorem linkEval (inRange : q < 48) (h : StatusReads p w s) : StatusReads p w (s.linkEval q) :=
  .sessionsEval inRange (.refLinesEval (by omega) h)

end StatusReads

variable {s : State} {m : Master} {r : RegRow} {v w : Word} {p : Nat} {g : State → State}

/-! ### Writes of PRT_CFG and PRT_CTRL -/

theorem State.answer_laneOfFat (a : Reply) : (s.answer m a).laneOfFat p = s.laneOfFat p := by
  unfold State.laneOfFat
  simp only [State.answer_get]

theorem State.answer_portFits (a : Reply) (rate fec : Nat) : (s.answer m a).portFits p rate fec = s.portFits p rate fec := by
  unfold State.portFits
  simp only [State.answer_on]

theorem State.prtCfgWrite_lane (lane : s.laneOfFat p = true) : s.prtCfgWrite m p v r = s.refuseWrite m (PRT_CFG p) := by
  unfold State.prtCfgWrite
  simp only [lane, if_true]

section
variable (own : s.laneOfFat p = false) (taken : writeFields r.fields (s.rd (PRT_CFG p)) v = (w, false))
include own taken

/-- A port that is OFF outside STAGING starts as ENABLE says, if its rate and FEC fit (R310, R313). -/
theorem State.prtCfgWrite_starts (off : s.get (PRT_STATUS_STATE p) = 0) (runs : s.get GLB_STATUS_MODE ≠ 0)
    (enabled : fieldOf (PRT_CFG_ENABLE p) w = 1) (fits : s.portFits p (fieldOf (PRT_CFG_RATE p) w) (fieldOf (PRT_CFG_FEC p) w) = true) :
    s.prtCfgWrite m p v r =
      ((s.wr (PRT_CFG p) w).quadRates p).setPortState p (((s.wr (PRT_CFG p) w).quadRates p).startState p) := by
  unfold fieldOf at enabled fits
  unfold State.prtCfgWrite
  simp only [own, taken, State.when_false, off, runs, enabled, fits, Bool.false_eq_true, if_false, if_true, beq_self_eq_true, Bool.not_true,
    Bool.and_false, State.when_true]

theorem State.prtCfgWrite_unfit (off : s.get (PRT_STATUS_STATE p) = 0) (runs : s.get GLB_STATUS_MODE ≠ 0)
    (enabled : fieldOf (PRT_CFG_ENABLE p) w = 1) (unfit : s.portFits p (fieldOf (PRT_CFG_RATE p) w) (fieldOf (PRT_CFG_FEC p) w) = false) :
    s.prtCfgWrite m p v r =
      (((s.wr (PRT_CFG p) (putBits w 0 1 0)).quadRates p).raise (PRT_EVT_CFG_ERR p)).refuseWrite m (PRT_CFG p) := by
  unfold fieldOf at enabled unfit
  unfold State.prtCfgWrite
  simp only [own, taken, State.when_false, off, runs, enabled, unfit, Bool.false_eq_true, if_false, if_true, beq_self_eq_true,
    Bool.not_false, Bool.and_true]

theorem State.prtCfgWrite_staging (off : s.get (PRT_STATUS_STATE p) = 0) (staging : s.get GLB_STATUS_MODE = 0) :
    s.prtCfgWrite m p v r = (s.wr (PRT_CFG p) w).quadRates p := by
  unfold State.prtCfgWrite
  simp only [own, taken, State.when_false, off, staging, Bool.false_eq_true, if_false, if_true]

theorem State.prtCfgWrite_disables (on : s.get (PRT_STATUS_STATE p) ≠ 0) (disabled : fieldOf (PRT_CFG_ENABLE p) w = 0) :
    s.prtCfgWrite m p v r = ((s.portOff p).wr (PRT_CFG p) w).quadRates p := by
  unfold fieldOf at disabled
  unfold State.prtCfgWrite
  simp only [own, taken, State.when_false, on, disabled, Bool.false_eq_true, if_false, Nat.reduceBEq, Bool.not_false, if_true]

end

theorem State.anAgain_up (rate : s.get (PRT_CFG_RATE p) = 1) (auto : s.on (PRT_CFG_AN_EN p) = true) (up : s.get (PRT_STATUS_STATE p) = 3) :
    s.anAgain p = ((s.portLeavesUp p false).setPortState p 2).exchange p := by
  unfold State.anAgain
  simp [rate, auto, up]

theorem State.anAgain_negotiating (rate : s.get (PRT_CFG_RATE p) = 1) (auto : s.on (PRT_CFG_AN_EN p) = true)
    (negotiates : s.get (PRT_STATUS_STATE p) = 2) : s.anAgain p = s.exchange p := by
  unfold State.anAgain
  simp [rate, auto, negotiates]

theorem State.prtCtrlWrite_restarts (keeps : v.getLsbD 0 = false) (again : v.getLsbD 1 = true) : s.prtCtrlWrite p v r = s.anAgain p := by
  unfold State.prtCtrlWrite
  rw [State.when_neg keeps, State.when_pos again]

theorem State.prtCtrlWrite_clears (clears : v.getLsbD 0 = true) (once : v.getLsbD 1 = false) : s.prtCtrlWrite p v r = s.clearPort p := by
  unfold State.prtCtrlWrite
  rw [State.when_neg once, State.when_pos clears]

/-! ### Link events -/

theorem State.linkEvent_reaches (inRange : p < 48) (free : (s.port p).restarted ≠ some s.cyc) : s.linkEvent p g = g s :=
  State.when_pos (by simp [inRange, free])

/-- A link event of the cycle of a restarting write is discarded (R320). -/
theorem State.linkEvent_discarded (restarted : (s.port p).restarted = some s.cyc) : s.linkEvent p g = s :=
  State.when_neg (by simp [restarted])

theorem State.holdExpires_lost (up : s.portUp p = true) (lost : (s.port p).lost = true) :
    s.holdExpires p = (s.portLeavesUp p false).setPortState p 1 := by
  unfold State.holdExpires
  rw [if_pos ⟨up, lost⟩]

theorem State.holdExpires_heard (heard : (s.port p).lost = false) : s.holdExpires p = s := by
  unfold State.holdExpires
  simp [heard]

section
variable (negotiates : s.get (PRT_STATUS_STATE p) = 2) (locked : s.on (PRT_STATUS_PCS_LOCK p) = true)
include negotiates locked

theorem State.exchangeDone_full (full : v.getLsbD 5 = true) :
    s.exchangeDone p v = (((s.set (PRT_AN_LP_LP_BASE p) v.toNat).set (PRT_STATUS_AN_DONE p) 1).set (PRT_EVT_AN_DONE p) 1).portComesUp p := by
  unfold State.exchangeDone
  simp only [negotiates, locked, full, State.raise, ne_eq, not_true_eq_false, Bool.not_true, Bool.false_eq_true, or_self, if_false, if_true]

theorem State.exchangeDone_half (half : v.getLsbD 5 = false) :
    s.exchangeDone p v = (s.set (PRT_AN_LP_LP_BASE p) v.toNat).setPort p { s.port p with half := true } := by
  unfold State.exchangeDone
  simp only [negotiates, locked, half, ne_eq, not_true_eq_false, Bool.not_true, Bool.false_eq_true, or_self, if_false]
  rfl

theorem State.fallBack_up : s.fallBack p = (s.set (PRT_STATUS_AN_FALLBACK p) 1).portComesUp p := by
  unfold State.fallBack
  simp [negotiates, locked]

end

theorem State.anRetries_half (negotiates : s.get (PRT_STATUS_STATE p) = 2) (half : (s.port p).half = true) : s.anRetries p = s.exchange p :=
  State.when_pos (by simp [negotiates, half])

theorem State.anRetries_same (idle : s.get (PRT_STATUS_STATE p) ≠ 2 ∨ (s.port p).half = false) : s.anRetries p = s :=
  State.when_neg (by rcases idle with idle | idle <;> simp [idle])

/-! ### Gain and loss of the line -/

theorem State.faultBit_clear (status event : FieldRef) : s.faultBit status event false = s.set status 0 := rfl

theorem State.faultBit_begins {status : FieldRef} (event : FieldRef) (silent : s.on status = false) :
    s.faultBit status event true = (s.set event 1).set status 1 := by
  unfold State.faultBit
  rw [State.when_pos (by simp [silent])]
  rfl

theorem State.faultBit_lasts {status : FieldRef} (event : FieldRef) (heard : s.on status = true) :
    s.faultBit status event true = s.set status 1 := by
  unfold State.faultBit
  rw [State.when_neg (by simp [heard])]
  rfl

/-- A port that is not UP, in a register file of canonical form: it has no line to lose (R314). -/
structure NotUp (p : Nat) (s : State) : Prop where
  wf : s.regsWf = true
  state : s.portUp p = false

theorem NotUp.of_down (wf : s.regsWf = true) (down : s.get (PRT_STATUS_STATE p) = 1) : NotUp p s :=
  ⟨wf, by rw [State.portUp, down]; rfl⟩

theorem NotUp.portLost (h : NotUp p s) : s.portLost p = s := by
  unfold State.portLost
  simp only [h.state, Bool.not_false, true_or, if_true]

/-- A field of another register, or one above STATE, is written. -/
theorem NotUp.set {f : FieldRef} {n : Nat} (inWord : f.lo + f.width ≤ 32) (other : PRT_STATUS p ≠ f.addr ∨ 3 ≤ f.lo) (h : NotUp p s) :
    NotUp p (s.set f n) := by
  refine ⟨State.set_regsWf h.wf f n, ?_⟩
  rw [State.portUp, State.get_set_apart h.wf f _ inWord n (other.imp id .inl)]
  exact h.state

theorem NotUp.setStatus {lo width n : Nat} (h : NotUp p s) (inWord : Nat.ble (lo + width) 32 = true) (above : Nat.ble 3 lo = true) :
    NotUp p (s.set ⟨PRT_STATUS p, lo, width⟩ n) :=
  h.set (Nat.le_of_ble_eq_true inWord) (.inr (Nat.le_of_ble_eq_true above))

/-- The loss of PCS lock reaches what hangs on the line, and no port comes up or goes down by it. -/
theorem NotUp.linkEval (inRange : p < 48) (h : NotUp p s) : NotUp p (s.linkEval p) := by
  have before : StatusReads p (s.rd (PRT_STATUS p)) s := ⟨h.wf, rfl⟩
  have after := before.linkEval inRange
  refine ⟨after.wf, ?_⟩
  rw [State.portUp, State.get, PRT_STATUS_STATE, after.rd]
  exact h.state

section
variable (down : s.get (PRT_STATUS_STATE p) = 1) (own : s.laneOfFat p = false)
include down own

theorem State.lockGained_clear (wf : s.regsWf = true) (locked : s.on (PRT_STATUS_PCS_LOCK p) = true)
    (rate : s.get (PRT_CFG_RATE p) ≠ 1) :
    s.lockGained p false false = ((((s.set (PRT_STATUS_CDR_LOCK p) 1).set (PRT_STATUS_HI_BER p) 0).set (PRT_STATUS_LF p) 0).set
      (PRT_STATUS_RF p) 0).portComesUp p := by
  have shows : WritesOnly [PRT_STATUS p] s
      ((((s.set (PRT_STATUS_CDR_LOCK p) 1).set (PRT_STATUS_HI_BER p) 0).set (PRT_STATUS_LF p) 0).set (PRT_STATUS_RF p) 0) :=
    ((((WritesOnly.refl s).set (by simp [PRT_STATUS_CDR_LOCK]) _).set (by simp [PRT_STATUS_HI_BER]) _).set (by simp [PRT_STATUS_LF]) _).set
      (by simp [PRT_STATUS_RF]) _
  rw [← shows.get wf (by simp [PRT_CFG_RATE, PRT_CFG, PRT_STATUS])] at rate
  unfold State.lockGained
  rw [if_neg (by simp [down, own])]
  simp only [down, locked, Bool.false_and, State.faultBit_clear, if_true, Bool.or_self, Bool.false_eq_true, if_false, rate, false_and]

/-- Remote Fault sequences that go on keep a port DOWN (R313). -/
theorem State.lockGained_remoteFault (wf : s.regsWf = true) (locked : s.on (PRT_STATUS_PCS_LOCK p) = true)
    (rate : s.get (PRT_CFG_RATE p) ≠ 1) (heard : s.on (PRT_STATUS_RF p) = true) :
    s.lockGained p false true =
      (((s.set (PRT_STATUS_CDR_LOCK p) 1).set (PRT_STATUS_HI_BER p) 0).set (PRT_STATUS_LF p) 0).set (PRT_STATUS_RF p) 1 := by
  have wf₁ := State.set_regsWf wf (PRT_STATUS_CDR_LOCK p) 1
  have wf₂ := State.set_regsWf wf₁ (PRT_STATUS_HI_BER p) 0
  have still : (((s.set (PRT_STATUS_CDR_LOCK p) 1).set (PRT_STATUS_HI_BER p) 0).set (PRT_STATUS_LF p) 0).on (PRT_STATUS_RF p) = true := by
    rw [State.on, State.get_set_apart wf₂ _ _ (by simp [PRT_STATUS_LF]) _ (by simp [PRT_STATUS_RF, PRT_STATUS_LF]),
      State.get_set_apart wf₁ _ _ (by simp [PRT_STATUS_HI_BER]) _ (by simp [PRT_STATUS_RF, PRT_STATUS_HI_BER]),
      State.get_set_apart wf _ _ (by simp [PRT_STATUS_CDR_LOCK]) _ (by simp [PRT_STATUS_RF, PRT_STATUS_CDR_LOCK])]
    exact heard
  have hears : s.hearsFaults p = true := bne_iff_ne.2 rate
  unfold State.lockGained
  rw [if_neg (by simp [down, own])]
  simp only [locked, hears, Bool.false_and, Bool.true_and, State.faultBit_clear, State.faultBit_lasts _ still, if_true, Bool.or_true]
  exact NotUp.portLost (.setStatus (.setStatus (.setStatus (.setStatus (.of_down wf down) rfl rfl) rfl rfl) rfl rfl) rfl rfl)

theorem State.lockLost_lock (inRange : p < 48) (wf : s.regsWf = true) (cdr hi : Bool) :
    s.lockLost p (.lock cdr hi) =
      (((s.setB (PRT_STATUS_CDR_LOCK p) cdr).setB (PRT_STATUS_HI_BER p) hi).set (PRT_STATUS_PCS_LOCK p) 0).linkEval p := by
  unfold State.lockLost
  rw [if_neg (by simp [down, own])]
  simp only [down, OfNat.one_ne_ofNat, if_false]
  exact NotUp.portLost (.linkEval inRange (.setStatus (.setStatus (.setStatus (.of_down wf down) rfl rfl) rfl rfl) rfl rfl))

section
variable (wf : s.regsWf = true) (rate : s.get (PRT_CFG_RATE p) ≠ 1)
include wf rate

/-- The beginning of Local Fault or Remote Fault sequences at a port that is DOWN is an event, and the status shows it (R313). -/
theorem State.lockLost_localFault (silent : s.on (PRT_STATUS_LF p) = false) :
    s.lockLost p .localFault = (s.set (PRT_EVT_LF p) 1).set (PRT_STATUS_LF p) 1 := by
  have hears : s.hearsFaults p = true := bne_iff_ne.2 rate
  have raised : NotUp p (s.set (PRT_EVT_LF p) 1) :=
    .set (by simp [PRT_EVT_LF]) (.inl (by simp [PRT_STATUS, PRT_EVT_LF, PRT_EVT])) (.of_down wf down)
  unfold State.lockLost
  rw [if_neg (by simp [down, own, hears])]
  simp only [down, OfNat.one_ne_ofNat, if_false, State.faultBit_begins _ silent]
  exact (raised.setStatus rfl rfl).portLost

theorem State.lockLost_remoteFault (silent : s.on (PRT_STATUS_RF p) = false) :
    s.lockLost p .remoteFault = (s.set (PRT_EVT_RF p) 1).set (PRT_STATUS_RF p) 1 := by
  have hears : s.hearsFaults p = true := bne_iff_ne.2 rate
  have raised : NotUp p (s.set (PRT_EVT_RF p) 1) :=
    .set (by simp [PRT_EVT_RF]) (.inl (by simp [PRT_STATUS, PRT_EVT_RF, PRT_EVT])) (.of_down wf down)
  unfold State.lockLost
  rw [if_neg (by simp [down, own, hears])]
  simp only [down, OfNat.one_ne_ofNat, if_false, State.faultBit_begins _ silent]
  exact (raised.setStatus rfl rfl).portLost

end

end

/-- No fault sequences are received at a rate of 1 Gbit/s (R313). -/
theorem State.lockLost_unheard {why : PortLoss} (rate : s.get (PRT_CFG_RATE p) = 1) (sequences : why = .localFault ∨ why = .remoteFault) :
    s.lockLost p why = s := by
  unfold State.lockLost State.hearsFaults
  rcases sequences with rfl | rfl <;> simp [rate]

theorem State.lockGained_idle (lf rf : Bool) (idle : s.get (PRT_STATUS_STATE p) = 0 ∨ s.get (PRT_STATUS_STATE p) = 4) :
    s.lockGained p lf rf = s := by
  unfold State.lockGained
  exact if_pos (idle.imp id .inl)

/-- Settles O49: a port's configuration, the gain and loss of its line, and auto-negotiation (R310, R311, R313 to R315, R320, R322). -/
theorem portCommandsComplete : Obligations.PortCommandsComplete := by
  unfold Obligations.PortCommandsComplete
  refine ⟨?starts, ?unfit, ?staging, ?disables, ?lane, ?clear, ?remoteFaultLasts, ?gainedIdle, ?lockLost, ?localFault, ?remoteFault, ?unheard,
    ?holdExpires, ?holdHeard, ?exchangeFull, ?exchangeHalf, ?fallBack, ?retries, ?retriesIdle, ?discarded, ?partnerRestarts, ?restarts,
    ?countersClear⟩
  case starts =>
    intro s m p v w r inRange at_ own taken off runs enabled fits
    refine congrArg Host.Outcome.next ((State.when_access inRange at_).trans ?_)
    exact State.prtCfgWrite_starts (s := s.answer m .ok) (by rwa [State.answer_laneOfFat]) (by rwa [State.answer_rd])
      (by rwa [State.answer_get]) (by rwa [State.answer_get]) enabled (by rwa [State.answer_portFits])
  case unfit =>
    intro s m p v w r inRange at_ own taken off runs enabled unfit
    refine congrArg Host.Outcome.next ((State.when_access inRange at_).trans ?_)
    exact State.prtCfgWrite_unfit (s := s.answer m .ok) (by rwa [State.answer_laneOfFat]) (by rwa [State.answer_rd])
      (by rwa [State.answer_get]) (by rwa [State.answer_get]) enabled (by rwa [State.answer_portFits])
  case staging =>
    intro s m p v w r inRange at_ own taken off staging
    refine congrArg Host.Outcome.next ((State.when_access inRange at_).trans ?_)
    exact State.prtCfgWrite_staging (s := s.answer m .ok) (by rwa [State.answer_laneOfFat]) (by rwa [State.answer_rd])
      (by rwa [State.answer_get]) (by rwa [State.answer_get])
  case disables =>
    intro s m p v w r inRange at_ own taken on disabled
    refine congrArg Host.Outcome.next ((State.when_access inRange at_).trans ?_)
    exact State.prtCfgWrite_disables (s := s.answer m .ok) (by rwa [State.answer_laneOfFat]) (by rwa [State.answer_rd])
      (by rwa [State.answer_get]) disabled
  case lane =>
    intro s m p v w r inRange at_ lane
    exact congrArg Host.Outcome.next ((State.when_access inRange at_).trans
      (State.prtCfgWrite_lane (s := s.answer m .ok) (by rwa [State.answer_laneOfFat])))
  case clear =>
    intro s p inRange free down own wf locked rate
    exact congrArg Host.Outcome.next ((State.linkEvent_reaches inRange free).trans (State.lockGained_clear down own wf locked rate))
  case remoteFaultLasts =>
    intro s p inRange free down own wf locked rate u heard
    exact congrArg Host.Outcome.next ((State.linkEvent_reaches inRange free).trans (State.lockGained_remoteFault down own wf locked rate heard))
  case gainedIdle =>
    intro s p lf rf idle
    exact congrArg Host.Outcome.next (State.when_same (State.lockGained_idle lf rf idle))
  case lockLost =>
    intro s p cdr hi inRange free down own wf
    exact congrArg Host.Outcome.next ((State.linkEvent_reaches inRange free).trans (State.lockLost_lock down own inRange wf cdr hi))
  case localFault =>
    intro s p inRange free down own rate silent wf
    exact congrArg Host.Outcome.next ((State.linkEvent_reaches inRange free).trans (State.lockLost_localFault down own wf rate silent))
  case remoteFault =>
    intro s p inRange free down own rate silent wf
    exact congrArg Host.Outcome.next ((State.linkEvent_reaches inRange free).trans (State.lockLost_remoteFault down own wf rate silent))
  case unheard =>
    intro s p rate
    exact ⟨congrArg Host.Outcome.next (State.when_same (State.lockLost_unheard rate (.inl rfl))),
      congrArg Host.Outcome.next (State.when_same (State.lockLost_unheard rate (.inr rfl)))⟩
  case holdExpires =>
    intro s p inRange free up lost
    exact congrArg Host.Outcome.next ((State.linkEvent_reaches inRange free).trans (State.holdExpires_lost up lost))
  case holdHeard =>
    intro s p heard
    exact congrArg Host.Outcome.next (State.when_same (State.holdExpires_heard heard))
  case exchangeFull =>
    intro s p lp inRange free negotiates locked full
    exact congrArg Host.Outcome.next ((State.linkEvent_reaches inRange free).trans (State.exchangeDone_full negotiates locked full))
  case exchangeHalf =>
    intro s p lp inRange free negotiates locked half
    exact congrArg Host.Outcome.next ((State.linkEvent_reaches inRange free).trans (State.exchangeDone_half negotiates locked half))
  case fallBack =>
    intro s p inRange free negotiates locked
    exact congrArg Host.Outcome.next ((State.linkEvent_reaches inRange free).trans (State.fallBack_up negotiates locked))
  case retries =>
    intro s p inRange free negotiates half
    exact congrArg Host.Outcome.next ((State.linkEvent_reaches inRange free).trans (State.anRetries_half negotiates half))
  case retriesIdle =>
    intro s p idle
    exact congrArg Host.Outcome.next (State.when_same (State.anRetries_same idle))
  case discarded =>
    intro s p lf rf why lp restarted
    have same (g : State → State) : (.next (s.linkEvent p g) : Host.Outcome State Fault Refusal) = .next s :=
      congrArg Host.Outcome.next (State.linkEvent_discarded restarted)
    exact ⟨same _, same _, same _, same _, same _, same _⟩
  case partnerRestarts =>
    intro s p v inRange rate auto up
    exact congrArg Host.Outcome.next ((State.when_decide inRange).trans (State.anAgain_up rate auto up))
  case restarts =>
    intro s m p v r inRange at_ keeps again rate auto negotiates
    refine congrArg Host.Outcome.next ((State.when_access inRange at_).trans ?_)
    refine (State.prtCtrlWrite_restarts keeps again).trans ?_
    exact State.anAgain_negotiating (s := s.answer m .ok) (by rwa [State.answer_get]) (by rwa [State.answer_on]) (by rwa [State.answer_get])
  case countersClear =>
    intro s m p v r inRange at_ clears once
    exact congrArg Host.Outcome.next ((State.when_access inRange at_).trans (State.prtCtrlWrite_clears clears once))

end Sys2Proof.Machine
